-- ==== Sys2Proof/Word.lean ====
section
/-! DEFINITION. The word types the manual uses, and the plainest arithmetic on them. -/

namespace Sys2Proof

/-- One byte of memory or of a message. -/
abbrev Byte := BitVec 8
/-- A 16-bit field. -/
abbrev Half := BitVec 16
/-- A 32-bit register or field. -/
abbrev Word := BitVec 32
/-- A 64-bit field: a device address, a host address, a plan time as software reads it. -/
abbrev Long := BitVec 64

end Sys2Proof
end

