-- ==== Sys2Proof/Syntax/Params.lean ====
section
/-! DEFINITION. The operand types of the commands: what a physical event shows the GM8, and the layouts of
KCP entries. -/

namespace Sys2Proof

/-- Where a KCP command came from (R136, R160). -/
inductive Via where
  /-- mailbox `n` of the function. -/
  | mailbox (n : Fin 4)
  /-- UDP session `k`. -/
  | udp (k : Fin 8)
  deriving DecidableEq, Repr, Inhabited

/-- The envelope of a KCP command, less its ID and its parameters (R141). -/
structure KcpCtx where
  /-- The function, for a mailbox; a UDP session's role is the session's own. -/
  fn : Fin 16
  /-- The path of arrival. -/
  via : Via
  /-- Session handle. -/
  handle : Word
  /-- Sequence number. -/
  seq : Half
  /-- Flags (R142). -/
  flags : Byte
  /-- Parameter length. -/
  len : Byte
  /-- Tag. -/
  tag : Word
  /-- The parameter area as it stands in the entry, 48 bytes, of which the command's own operands are the fields. -/
  params : List Byte
  deriving DecidableEq, Repr, Inhabited

/-- Where a UDP datagram comes from and goes to (R162). -/
structure UdpEnds where
  /-- Source MAC address. -/
  mac : BitVec 48
  /-- Source address and UDP port. -/
  src : BitVec 128
  sport : Half
  /-- Destination address, as MNT_SET_NETMGMT gives one, and UDP port. -/
  dst : BitVec 128
  dport : Half
  deriving DecidableEq, Repr, Inhabited

/-- A UDP datagram that reaches an Ethernet port (R160, R162). -/
structure UdpIn extends UdpEnds where
  /-- The Ethernet port. -/
  port : Fin 4
  /-- The UDP payload. -/
  bytes : List Byte
  /-- What the key engine finds: the tag verifies. -/
  tagOk : Bool
  /-- The body that an encrypted datagram deciphers to. -/
  plain : List Byte
  deriving DecidableEq, Repr, Inhabited

/-- How the sequencer issues a sill (R218). -/
structure SillIn where
  /-- An error in the parity of the shadow set at the copy. -/
  parity : Bool := false
  /-- Grains from the sill's computed instant, signed. -/
  off : Byte := 0
  deriving DecidableEq, Repr, Inhabited

/-- A whole command entry as the GM8 reads it (R141). -/
structure CmdEntry where
  id : Half
  flags : Byte
  len : Byte
  tag : Word
  handle : Word
  seq : Half
  /-- The parameter area, 48 bytes. -/
  params : List Byte
  deriving DecidableEq, Repr, Inhabited

/-- The nine supply rails (R32). -/
inductive Rail where
  | vddCore | vddSram | vddaSer | vddaDp | vddhSer | vddhDp | vddaPll | vddio1v8 | vddio3v3
  deriving DecidableEq, Repr, Inhabited

/-- What one CXL port shows at training (R95, R101). -/
structure CxlIn where
  /-- An expander is populated and the link trains. -/
  up : Bool
  /-- Rate in GT/s. -/
  gts : Nat
  /-- Width in lanes. -/
  width : Nat
  /-- Capacity behind the port, in GiB. -/
  gib : Nat
  /-- L_m as measured, ns. -/
  latency : Nat
  /-- The device needs no option that the port does not support (R94). -/
  supported : Bool := true
  deriving DecidableEq, Repr, Inhabited

/-- A panel's preferred mode (R55): pixel clock in kHz, and the pixels and lines of R296. -/
structure PanelMode where
  khz : Nat := 0
  hactive : Nat := 0
  hfp : Nat := 0
  hsync : Nat := 0
  hbp : Nat := 0
  vactive : Nat := 0
  vfp : Nat := 0
  vsync : Nat := 0
  vbp : Nat := 0
  deriving DecidableEq, Repr, Inhabited

/-- What the sink reported (R306, R314). -/
structure SinkCaps where
  /-- R314: DPCD revision [DC 4] -/
  revision : Byte := 0
  /-- R314: highest lane count [DC 4] -/
  lanes : Nat := 0
  /-- R314: highest rate code [DC 4] -/
  rate : Nat := 0
  /-- R295: the panel reports ASSR [DC 4] -/
  assr : Bool := false
  /-- R314: bits of DPCD backlight brightness, 0 when it has no such control [DC 4] -/
  backlight : Nat := 0
  /-- R55: the panel's preferred mode [DC 4] -/
  preferred : Option PanelMode := none
  deriving DecidableEq, Repr, Inhabited

/-- A record held in MRAM that a power loss may have torn (R34). -/
inductive MramRecord where
  | pllCal | warmToken | resume | limp | board | spread | settle | pace | safeField
  | fieldDef (k : Fin 2048) | fieldText (k : Fin 2048) | message (k : Fin 8) | opKey (k : Fin 7) | netMgmt | netKey (k : Fin 8)
  | ethPort (p : Fin 4) | mkaKey (p : Fin 4) | timeCfg | fault (source : Fin 192) | counters
  deriving DecidableEq, Repr, Inhabited

/-- What the board and the flash show the boot ROM and the firmware during one start. -/
structure StartIn where
  /-- The three reads of BOOT_MODE[1:0] (R29). -/
  straps : BitVec 2 × BitVec 2 × BitVec 2
  /-- REFCLK is present when calibration begins (R47). -/
  refclk : Bool
  /-- PE_REFCLK is present. -/
  peRefclk : Bool
  /-- Junction temperature, degrees C. -/
  tj : Int
  /-- Millivolts READ_VOUT reports within 5 ms; none when no regulator answers (R38). -/
  vout : Option Nat
  /-- The regulator's VOUT_MODE is linear (R87). -/
  linear : Bool
  /-- Signature verdicts of images A, B and golden (R53). -/
  sigA : Bool
  sigB : Bool
  sigGold : Bool
  /-- The CXL ports (R44 step 8a). -/
  cxl : List CxlIn
  /-- Heads 0–7: what the sink reports where HPD is high (R44 step 12). -/
  sinks : List (Option SinkCaps)
  /-- Signature verdicts of standing slots 0 and 1 (R187). -/
  sigS0 : Bool
  sigS1 : Bool
  /-- Digest and signature verdict of the truss named by the resume record (R49). -/
  resumeOk : Bool
  /-- PLLs that lock, one bit each. -/
  pllLocks : BitVec 10
  /-- Pace monitors whose start check fails (R85). -/
  badMonitors : BitVec 24
  /-- Nanoseconds from the release of the internal reset to the arm (R44 step 13). -/
  armAfter : Nat
  /-- MRAM records whose sequence number or CRC tells that the last power loss tore them (R34). -/
  torn : List MramRecord := []
  deriving DecidableEq, Repr, Inhabited

/-- A fault source's assertion as the collector samples it (R435). -/
structure FltIn where
  source : Fin 192
  detail : Word
  /-- Both rails alike: a broken wire. -/
  broken : Bool
  deriving DecidableEq, Repr, Inhabited

/-- Firmware's settings of a source in the internal group, made before it enables a core (R421). -/
structure IntSetting where
  source : Fin 640
  enable : Bool
  prio : BitVec 4
  targets : BitVec 4
  masked : Bool
  deriving DecidableEq, Repr, Inhabited

/-- Host memory as the reads of one command find it: address and bytes of each readable range; any other read ends in an error. -/
abbrev HostMem := List (Nat × List Byte)

/-- What a poisoned line held, and who was to receive it (R103, R104). -/
inductive PoisonUse where
  /-- Run-ahead data that is discarded. -/
  | runAhead
  /-- Surface data of a direct or ingest-linked layer, in staging entry `entry`. -/
  | surface (entry : Nat)
  /-- A glyph atlas or cell map, in staging entry `entry`. -/
  | atlas (entry : Nat)
  /-- A truss image, work item or fetch program in use: the item of a group that it serves. -/
  | truss (group : Fin 16) (item : Nat)
  /-- A coefficient bank (`bank`), or a colour table or LUT, of a truss, loaded at a sill: its index. -/
  | table (bank : Bool) (index : Nat)
  /-- A DMA source, writeback source or retransmitted slice. -/
  | dma
  /-- Firmware data structures. -/
  | firmware
  /-- The fault-log or resume-record region. -/
  | faultLog
  deriving DecidableEq, Repr, Inhabited

/-- What a HELLO offers (R323). -/
structure Hello where
  /-- R323: role, 0 endpoint, 1 source. -/
  role : Nat := 0
  /-- R323: lowest version. -/
  lowest : Nat := 0
  /-- R323: highest version. -/
  highest : Nat := 0
  /-- R323: capabilities. -/
  caps : Nat := 0
  /-- R323: peer ID. -/
  peer : Nat := 0
  /-- R323: largest slice width. -/
  maxSlice : Nat := 0
  /-- R323: largest picture width. -/
  maxWidth : Nat := 0
  /-- R323: largest picture height. -/
  maxHeight : Nat := 0
  /-- R323: tSLK needed, us. -/
  tslk : Nat := 0
  /-- R323: panel wake time, ms. -/
  wake : Nat := 0
  /-- R323: largest fragment payload. -/
  maxFrag : Nat := 0
  deriving DecidableEq, Repr, Inhabited

/-- A received ADT datagram less its body: where it came from, its header, and the size its body has (R315, R316). -/
structure AdtDgram where
  /-- R315: Ethernet port it arrived on. -/
  eth : Fin 4
  /-- R354: source MAC address. -/
  mac : Nat
  /-- R315: source address. -/
  addr : Nat
  /-- R315: source UDP port. -/
  udp : Nat
  /-- R315: it arrived in IP fragments. -/
  fragmented : Bool
  /-- R316: magic. -/
  magic : Half
  /-- R316: version. -/
  version : Byte
  /-- R316: session identifier. -/
  session : Word
  /-- R316: sequence number. -/
  seq : Word
  /-- R316: body length field. -/
  len : Half
  /-- R317: bytes its body has. -/
  size : Nat
  deriving DecidableEq, Repr, Inhabited

end Sys2Proof
end

