-- ==== Sys2Proof/Syntax.lean ====
section
/-! DEFINITION. The commands: one constructor for each row of spec/opcode_table.json, in its order. -/

namespace Sys2Proof

/-- A command or event the GM8 is subjected to. Each names the rule of its row. -/
inductive Instr where
  /-- R44: Release of the internal power-on reset runs a cold start through its ordered steps, ending with the standing truss armed. -/
  | powerOnReset (i : StartIn)
  /-- R47: With REFCLK absent at PLL calibration, the boot ROM retries every 100 ms with stage 14 and ERR_N low. -/
  | refclkWaitRetry (i : StartIn)
  /-- R35: A watched rail that stays below its threshold for more than 2 us asserts the internal power-on reset. -/
  | brownOut (rail : Rail) (mv : Nat) (ns : Nat)
  /-- R40: RESET_N held low puts the device in reset and aborts flash operations; in the safe state it is ignored and recorded. -/
  | resetNAssert (lowNs : Nat)
  /-- R48: The RESET_N rising edge samples the straps and begins a warm start that skips the steps already recorded complete. -/
  | resetNRelease (i : StartIn)
  /-- R41: At the later of 100 us after the response and the end of any flash operation, a KCP reset begins a warm start and discards pending arms. -/
  | kcpResetBegin (i : StartIn)
  /-- R54: Boot watchdog expiry before success is declared causes a warm start without strap sampling and sets ID_RESET_CAUSE.watchdog. -/
  | bootWatchdogExpiry (i : StartIn)
  /-- R46: Background initialisation of CXL memory completes and sets ID_BOOT_STATUS.mem_init_done. -/
  | memInitDone
  /-- R42: PERST_N asserted with PE_REFCLK present resets the PCIe controller, closes sessions and discards unarmed shadow writes. -/
  | hostPortReset
  /-- R122: PCIe link training completes; the host-link latency L_h is measured and the host-memory bandwidth is re-evaluated. -/
  | hostLinkTrained (rate : BitVec 3) (width : BitVec 5) (latency : Nat)
  /-- R133: The data link drops with PERST_N deasserted; the device acts as for a host port reset, counts the event and drops in-flight DMA writes. -/
  | surpriseDown (dmaInFlight : Nat)
  /-- R134: An FLR clears the function's mailboxes, sessions, rings, MSI-X state and unarmed shadow writes; a PF FLR also disables the VFs. -/
  | functionLevelReset (fn : Fin 16)
  /-- R135: Clearing Bus Master Enable stops the function's host-memory fetches, whose spans are then patched, and its records and messages. -/
  | busMasterDisable (fn : Fin 16)
  /-- R60: No REFCLK edge for 4 periods declares the reference lost, so every PLL goes out of reference and plan time runs on the always-on oscillator. -/
  | refclkLoss
  /-- R60: 1,024 good consecutive edges declare REFCLK present again; the PLLs relock and plan time realigns. -/
  | refclkReturn
  /-- R65: The LKF voltage stays outside the window for 8 PFD cycles, so the gate closes and the class 2 or 3 effects of R67 apply. -/
  | pllLossOfLock (k : Fin 10)
  /-- R65: 256 in-window PFD cycles with short pulses declare the PLL locked and start its settle count. -/
  | pllLock (k : Fin 10)
  /-- R68: The settle count expires and the gate is scheduled to open at the next SYNC-aligned divider phase. -/
  | pllSettleDone (k : Fin 10)
  /-- R72: At the SYNC-aligned phase the post-divider is reset and the gate opens with a full first period. -/
  | pllGateOpen (k : Fin 10)
  /-- R68: A PLL not locked within 50 ms starts a new VCO calibration; after 3 failed attempts it stays gated and is reported failed. -/
  | pllRelockTimeout (k : Fin 10)
  /-- R70: The tracker moves n one step toward its target, at least 64 PFD cycles after the previous step. -/
  | trackerNStep (k : Fin 8)
  /-- R71: A rising SYNC_IN edge is timestamped and either accepted for the trackers or rejected and counted. -/
  | syncInEdge (afterNs highNs : Nat)
  /-- R71: Three consecutive expected SYNC_IN edges missing clear CLK_SYNC_STATUS.present, and trackers hold n. -/
  | syncInMissing
  /-- R73: SYNC_OUT rises at sill plus offset of its group, or at each whole network second. -/
  | syncOutRise
  /-- R73: The SYNC_OUT pulse width in grains expires and the pin falls. -/
  | syncOutFall
  /-- R75: No valid synchronisation for 3 sync intervals in locked mode moves the time base to holdover. -/
  | timeHoldover
  /-- R79: A read of CLK_TIME_LO latches CLK_TIME_HI for a consistent 64-bit read. -/
  | clkTimeLoRead (fn : Fin 16)
  /-- R79: A read of CLK_NT_OFFSET_LO latches CLK_NT_OFFSET_HI. -/
  | clkNtOffsetLoRead (fn : Fin 16)
  /-- R216: A read of SILL_NEXT_LO latches SILL_NEXT_HI, as R79 gives. -/
  | sillNextLoRead (fn g : Fin 16)
  /-- R80: Returns plan time, offset, time status and the status of one PLL. -/
  | clkQuery (c : KcpCtx) (pll : Byte)
  /-- R80: Sets a PLL's tracking source, deadband and SYNC period, effective at the next sill. -/
  | clkSetTrack (c : KcpCtx) (pll source group : Byte) (deadband : Half) (period : Word)
  /-- R80: Configures the SYNC_OUT mode, group, width and offset. -/
  | clkSetSyncOut (c : KcpCtx) (mode group : Byte) (width : Half) (offset : Word)
  /-- R80: PF-only: retries a failed PLL at once; refused for PLL8 and PLL9 while a truss is armed. -/
  | clkRelock (c : KcpCtx) (pll : Byte)
  /-- R80: PF-only: sets the PLL settle count, held in MRAM. -/
  | clkSetSettle (c : KcpCtx) (count : Half)
  /-- R84: At the end of each 10.24 us window a monitor reports its margin, which may trigger a fast raise, a floor breach or a monitor failure. -/
  | paceWindow (i : Fin 24) (count : Nat)
  /-- R86: Each loop period the adaptive-voltage loop raises, lowers or holds the VDD_CORE target from the lowest margin. -/
  | avsLoopPeriod (tj : Int)
  /-- R88: At vmax or in open loop, 32 windows below alarm record a class 2 fault and switch every group to the reduced-pace variant. -/
  | paceEscalate
  /-- R89: Margin below the reduced-pace floor for 32 windows at reduced pace records a class 3 fault. -/
  | paceReducedFloorBreach (i : Fin 24)
  /-- R90: Once every healthy monitor has held margin at or above lo for 10 s and no fence or force remains, groups return to the full variant. -/
  | paceReturn
  /-- R87: A PMBus transaction completes; a missing acknowledgement or a bad PEC counts as a regulator error, and a second error in a row enters open loop. -/
  | pmbusTransactionDone (ok : Bool) (value : Half)
  /-- R87: The GM8 polls READ_VOUT every 200 us until the target is reached, then every 100 ms. -/
  | readVoutPoll
  /-- R87: READ_VOUT not within 10 mV of the target 1 ms after the command counts as a regulator error, and the command is repeated. -/
  | regulatorSettleTimeout
  /-- R87: Every 100 ms the GM8 reads the regulator current into PACE_IOUT. -/
  | readIoutPoll
  /-- R87: In open-loop mode the regulator is retried every 10 s, and the loop closes again after an error-free VOUT_MODE and READ_VOUT. -/
  | openLoopRetry
  /-- R87: A PM_ALERT_N assertion reads STATUS_WORD, records class 1 on source 183 and clears the regulator's faults. -/
  | pmAlert
  /-- R93: Returns the pace status, voltage, current, event counts and failed monitors. -/
  | paceQuery (c : KcpCtx)
  /-- R93: PF-only: sets lo, hi and alarm, held in MRAM. -/
  | paceSetBand (c : KcpCtx) (lo hi alarm : Half)
  /-- R93: PF-only: sets vmin, vmax, the loop steps and the loop period. -/
  | paceSetLimits (c : KcpCtx) (vmin vmax : Half) (up down period : Byte)
  /-- R93: PF-only: clears the worst margins and the pace event counts. -/
  | paceClear (c : KcpCtx)
  /-- R93: PF-only: forces entry to or leave from reduced pace at each group's next usable sill. -/
  | paceForceReduced (c : KcpCtx) (enter : Byte)
  /-- R95: A CXL port trains; it is held down if below 32 GT/s or x4, and otherwise L_m is measured and a returned port is re-initialised. -/
  | cxlLinkTrained (m : Fin 4) (x : CxlIn)
  /-- R106: Loss of a CXL link releases the port's tags, patches owed reads, records class 2 and switches groups to the port-loss variant. -/
  | cxlLinkDown (m : Fin 4)
  /-- R105: A viral indication is treated as loss of the port, and its later read data as poisoned. -/
  | cxlViral (m : Fin 4)
  /-- R106: A link recovery lasting more than 1 ms is treated as loss of the port. -/
  | cxlRecoveryTimeout (m : Fin 4)
  /-- R106: A link recovery completing within 1 ms records class 1 with detail 5. -/
  | cxlRecoveryDone (m : Fin 4)
  /-- R103: A poisoned read response is counted, patched or failed according to its consumer, and records the fault of R104. -/
  | poisonResponse (address : BitVec 43) (use : PoisonUse)
  /-- R107: After every group has switched and the port's writes have drained, CXLm_PERST_N goes low, the reference stops and a link-state record is raised. -/
  | cxlOfflineComplete (m : Fin 4)
  /-- R119: Returns a CXL port's state, link, capacities, latency and initialised boundary. -/
  | memQuery (c : KcpCtx) (port : Byte)
  /-- R119: PF-only: sets the spread size S for the next cold start. -/
  | memSetInterleave (c : KcpCtx) (size : Half)
  /-- R119: Maps or unmaps a 16 GiB BAR4 segment of a function to device addresses. -/
  | memMapAperture (c : KcpCtx) (fn segment enable : Byte) (address : Long)
  /-- R107: PF-only: takes a CXL port out of service through its loss variant. -/
  | memPortOffline (c : KcpCtx) (port : Byte)
  /-- R108: PF-only: returns a CXL port, whose content is treated as lost. -/
  | memPortOnline (c : KcpCtx) (port : Byte)
  /-- R111: PF-only: sets No-Snoop for a function's host-memory fetches from the next usable sill. -/
  | memSetSnoop (c : KcpCtx) (fn noSnoop : Byte)
  /-- R112: A posted BAR4 write goes to mapped CXL memory, or is discarded and counted for an unmapped segment. -/
  | bar4Write (fn : Fin 16) (offset : BitVec 38) (bytes : List Byte) (lands : Bool)
  /-- R114: A BAR4 read returns memory data, all ones for an unmapped segment, or EP on poison. -/
  | bar4Read (fn : Fin 16) (offset : BitVec 38) (len : Nat)
  /-- R112: A held doorbell arm is accepted once the function's earlier BAR4 writes have landed, and deferred if past the cutoff. -/
  | armWritesLanded (fn : Fin 16)
  /-- R5: A write to a register without a row of its own applies field by field by access code and Applies, refusing at-start fields of a running block. -/
  | registerWrite (fn : Fin 16) (offset : BitVec 26) (size : Nat) (value : Long)
  /-- R128: A write of EVT_RINGn_CFG enables or stops a ring and refuses static fields while the ring runs. -/
  | evtRingCfgWrite (fn : Fin 16) (n : Fin 4) (value : Word)
  /-- R132: A CONS write frees ring space, releases held type 0x01 records and ends stale state with a type 0x0A record. -/
  | evtRingConsWrite (fn : Fin 16) (n : Fin 4) (value : Word)
  /-- R130: The oldest unsignalled record reaches timeout_us, so the ring signals its MSI-X vector. -/
  | evtCoalTimeout (fn : Fin 16) (n : Fin 4)
  /-- R132: A function whose ring stays full for 2 s becomes stale and receives no further records. -/
  | functionStale (fn : Fin 16)
  /-- R138: A write of MBXn_CMD_PROD makes command entries available, or is ignored with bad_doorbell. -/
  | mbxDoorbell (fn : Fin 16) (n : Fin 4) (value : Word)
  /-- R137: A write of MBXn_CFG enables or disables the mailbox, refusing base and size changes while enabled. -/
  | mbxCfgWrite (fn : Fin 16) (n : Fin 4) (value : Word)
  /-- R139: A write of MBXn_RSP_CONS frees response space so that held commands may be taken. -/
  | mbxRspConsWrite (fn : Fin 16) (n : Fin 4) (value : Word)
  /-- R139: The GM8 takes the next command once the response ring has space, running the ordered checks of R151. -/
  | mbxTakeCommand (fn : Fin 16) (n : Fin 4) (entry : Option (List Byte))
  /-- R153: Opens a session at the highest common KCP version, closing any earlier session on the mailbox. -/
  | sessOpen (c : KcpCtx) (hostMin hostMax : Byte) (client : List Byte) (mask : Half)
  /-- R155: Closes the session; its response is the last written for it. -/
  | sessClose (c : KcpCtx)
  /-- R155: Returns the session's version, handle, counts and next sequence number. -/
  | sessInfo (c : KcpCtx)
  /-- R155: Echoes its parameter bytes, and serves as a UDP keepalive. -/
  | sessNop (c : KcpCtx) (bytes : List Byte)
  /-- R157: Reports hardware and firmware views of units and peers side by side. -/
  | sessStatus (c : KcpCtx)
  /-- R156: PF-only: sets or withdraws a grant of a virtual function. -/
  | sessGrant (c : KcpCtx) (fn kind index op : Byte) (value : List Byte)
  /-- R155: Returns the value of one grant of a function. -/
  | sessGrantQuery (c : KcpCtx) (fn kind index : Byte)
  /-- R41: PF-only: requests a warm reset after writing its response. -/
  | mntReset (c : KcpCtx) (kind : Byte) (confirm : Word)
  /-- R158: Returns firmware, boot and truss information. -/
  | mntInfo (c : KcpCtx)
  /-- R158: Returns a board configuration item, stored and in force. -/
  | mntCfgGet (c : KcpCtx) (item : Half)
  /-- R159: PF-only: writes a board configuration item to MRAM for the next cold start. -/
  | mntCfgSet (c : KcpCtx) (item : Half) (length : Byte) (value : List Byte) (refKhz : Nat)
  /-- R162: PF-only: configures KCP over UDP, closing UDP sessions on a change. -/
  | mntSetNetmgmt (c : KcpCtx) (enable ports ipVersion : Byte) (port vlan : Half) (pcp prefixLen : Byte) (address : BitVec 128)
  /-- R164: PF mailbox only: installs or erases a UDP key slot, closing the sessions that use it. -/
  | mntNetkey (c : KcpCtx) (slot op role : Byte) (key : List Byte)
  /-- R161: A verified hello is answered with a challenge and a provisional handle, or ignored when all 8 sessions are in use. -/
  | kcpUdpHello (port : Fin 4) (ends : UdpEnds) (bytes : List Byte) (tagOk : Bool)
  /-- R163: A verified command datagram is executed in sequence, or its stored response is resent for a repeat. `plain` is what an encrypted
  body deciphers to. -/
  | kcpUdpCommand (port : Fin 4) (ends : UdpEnds) (bytes : List Byte) (tagOk : Bool) (plain : List Byte)
  /-- R161: A provisional handle lapses after 2 s without a valid SESS_OPEN. -/
  | kcpUdpHandleLapse (k : Fin 8)
  /-- R163: A UDP session ends after 30 s with no accepted datagram. -/
  | kcpUdpSessionIdle (k : Fin 8)
  /-- R163: A source address ignored for excess drops is accepted again after 10 s. -/
  | kcpUdpIgnoreEnd (peer : Nat)
  /-- R179: PF-only: copies an image into a store slot for checking and admission. -/
  | trussLoad (c : KcpCtx) (slot source standing : Byte) (address length : Long)
  /-- R179: The copy ends; digest, signature and admission checks run, and a type 0x09 completion is reported. -/
  | trussLoadDone (slot : Fin 4) (host : Option (List Byte)) (sigOk : Bool)
  /-- R179: PF-only: reruns admission on a store slot with the current figures. -/
  | trussCheck (c : KcpCtx) (slot : Byte)
  /-- R190: A rerun of admission completes and its result is reported by record. -/
  | trussCheckDone (slot : Fin 4)
  /-- R189: Returns a store slot's state, identifiers, detail and variants in force. -/
  | trussQuery (c : KcpCtx) (slot : Byte)
  /-- R189: PF-only: empties a store slot that is not running, loading or being checked. -/
  | trussUnload (c : KcpCtx) (slot : Byte)
  /-- R186: Adds a change to the function's change set. -/
  | planChange (c : KcpCtx) (bytes : List Byte)
  /-- R186: Derives a new truss from a base slot into a target slot. -/
  | planCommit (c : KcpCtx) (base target : Byte)
  /-- R186: The planner derivation and admission finish and are reported as committed or failed. -/
  | planCommitDone (slot : Fin 4) (derived : Option (List Byte))
  /-- R186: Clears the function's change set. -/
  | planDiscard (c : KcpCtx)
  /-- R189: Returns a standing slot's validity, preference and identifiers. -/
  | standingQuery (c : KcpCtx) (slot : Byte)
  /-- R187: PF-only: writes an admitted truss and its assets into the non-preferred standing slot. -/
  | standingWrite (c : KcpCtx) (slot : Byte)
  /-- R187: The readback verifies and the written slot becomes preferred, or the write fails. -/
  | standingWriteDone (ok : Bool)
  /-- R189: PF-only: selects a valid standing slot for the next start. -/
  | standingSelect (c : KcpCtx) (slot : Byte)
  /-- R191: The sequencer issues a work item at its start grain, skipping it while PLL8 is gated or its lane is fenced. -/
  | itemIssue (g : Fin 16) (item : Nat) (bad : Bool)
  /-- R192: An item delayed by a busy lane starts when the lane frees, with its deadline unchanged. -/
  | laneFreeStart (lane : Fin 16)
  /-- R233: A fetch entry is issued at start minus lead, deriving its reads from the frame's window values. -/
  | fetchIssue (g : Fin 16) (item entry : Nat)
  /-- R234: Read data lands in staging and frees its tags; late data is discarded, and map data triggers atlas reads. -/
  | readDataLand (port : Fin 5) (address : Long) (host : Option (List Byte))
  /-- R300: A lane item completes and commits its strip to the head FIFO, the encoder or writeback. -/
  | itemComplete (lane : Fin 16)
  /-- R209: An item not complete at its deadline is abandoned, missing lines repeat or slices are skipped, and it counts and records source 135. -/
  | itemDeadline (g : Fin 16) (item : Nat) (lines : Byte)
  /-- R203: At sill minus tPUB the armed set is final, ready conditions are evaluated and pending windows are decided. -/
  | publishCutoff (g : Fin 16)
  /-- R202: The armed shadow set, R147 commands, variant and truss switches take effect; a sill report is written and the shadow is refilled. -/
  | sill (g : Fin 16) (how : SillIn)
  /-- R202: At sill plus 8 grains the copy is complete, SILL_ARM.arm reads 0 and the shadow lock ends. -/
  | sillCopyDone (g : Fin 16)
  /-- R198: A write of 1 to SILL_ARM.arm checks every visible slot against its travel box and accepts, defers or refuses the arm. -/
  | sillArmArm (fn g : Fin 16)
  /-- R201: A write of 1 to SILL_ARM.disarm withdraws the accepted arm before the cutoff, and is refused after it. -/
  | sillArmDisarm (fn g : Fin 16)
  /-- R200: A live-window register write lands in the group's shadow set, or is discarded as a late write while the set is locked. -/
  | llwWrite (fn : Fin 16) (slot : BitVec 13) (offset : BitVec 9) (value : Word)
  /-- R213: PF-only: makes an admitted store slot the running truss at each group's switch sill. -/
  | seqSwitch (c : KcpCtx) (slot : Byte)
  /-- R198: Arms a mask of granted groups as a doorbell arm does. -/
  | seqArm (c : KcpCtx) (mask : Half)
  /-- R201: Disarms a mask of groups. -/
  | seqDisarm (c : KcpCtx) (mask : Half)
  /-- R220: Returns a group's sill registers. -/
  | seqQuery (c : KcpCtx) (group : Byte)
  /-- R220: PF-only: sets a group's publish cutoff from its next sill. -/
  | seqSetCutoff (c : KcpCtx) (group : Byte) (us : Half)
  /-- R220: PF-only: forces or releases a variant at each group's first usable sill. -/
  | seqForceVariant (c : KcpCtx) (variant : Byte)
  /-- R222: Allocates a surface handle for a valid descriptor. -/
  | surfAlloc (c : KcpCtx) (format width height : Half) (flags : Byte) (address : Long) (stride plane1 : Word) (handle : Half)
  /-- R249: Frees a surface handle that is not in use. -/
  | surfFree (c : KcpCtx) (handle : Half)
  /-- R249: Returns a surface descriptor and its use. -/
  | surfQuery (c : KcpCtx) (handle : Half)
  /-- R249: Sets or clears a handle's shared flag. -/
  | surfShare (c : KcpCtx) (handle : Half) (share : Byte)
  /-- R249: Writes live-window registers of a slot into the shadow set. -/
  | layerSet (c : KcpCtx) (slot mask : Half) (values : List Word)
  /-- R249: Writes layer-type fields of a slot into the shadow set. -/
  | layerSetType (c : KcpCtx) (slot : Half) (first count : Byte) (values : List Word)
  /-- R249: Returns a slot's active state and patch figures. -/
  | layerQuery (c : KcpCtx) (slot : Half)
  /-- R250: Writes cells of a double-buffered map, effective at the next usable sill. -/
  | cellWrite (c : KcpCtx) (slot : Half) (count : Byte) (first : Word) (entries : List Word)
  /-- R250: Fills a cell range of a double-buffered map with one entry. -/
  | cellFill (c : KcpCtx) (slot : Half) (first count entry : Word)
  /-- R260: PF-only: loads a coefficient bank image into every scaler. -/
  | sclBankLoad (c : KcpCtx) (bank : Byte) (address : Long)
  /-- R269: Returns a bank's source, band and references, optionally copying the image out. -/
  | sclBankQuery (c : KcpCtx) (bank copy : Byte) (address : Long)
  /-- R258: Sets a slot's bank selection and chroma siting at the next usable sill. -/
  | sclSetSlot (c : KcpCtx) (slot : Half) (h v sh sv : Byte)
  /-- R269: Returns a slot's scaler settings and figures. -/
  | sclQuerySlot (c : KcpCtx) (slot : Half)
  /-- R289: PF-only: loads a colour table into the colour store. -/
  | colTableLoad (c : KcpCtx) (index : Byte) (address : Long)
  /-- R294: Returns a colour table's source, kind and references. -/
  | colTableQuery (c : KcpCtx) (index : Byte)
  /-- R294: PF-only: frees an unreferenced, command-loaded table. -/
  | colTableFree (c : KcpCtx) (index : Byte)
  /-- R279: Writes an output colour state into the group's shadow set. -/
  | colSetOutput (c : KcpCtx) (output : Half) (mask space : Byte) (background : List Half) (matrix regamma regTable lut dither : Byte)
  /-- R294: Returns an output colour state, shadow or in force. -/
  | colQueryOutput (c : KcpCtx) (output : Half) (view : Byte)
  /-- R290: Writes a slot's colour fields into the shadow set. -/
  | colSetSlot (c : KcpCtx) (slot : Half) (mask : Byte) (values : List Word)
  /-- R296: A head begins a frame, starting streaming or a pending power or timing change. -/
  | headFrameStart (h : Fin 8)
  /-- R301: At each active line the head shows its committed strip or repeats the last line, counting and recording repeats. -/
  | headLineStart (h : Fin 8) (ecc : Fin 3)
  /-- R305: HPD high for 2 ms after low declares a plug, and firmware reads DPCD and trains. -/
  | hpdPlug (h : Fin 8) (sink : SinkCaps)
  /-- R305: HPD low for 2 ms declares an unplug, so the main link goes off while scanning continues. -/
  | hpdUnplug (h : Fin 8)
  /-- R307: A short low HPD pulse makes firmware read the link status and retrain on loss of lock. -/
  | irqHpd (h : Fin 8) (linkLost : Bool)
  /-- R305: An HPD pulse under 0.25 ms is ignored and counted. -/
  | hpdShortPulse (h : Fin 8)
  /-- R306: A DP training attempt ends within 50 ms and either trains or falls to the next configuration, reporting failure when none remains. -/
  | linkTrainingAttemptEnd (h : Fin 8) (ok : Bool)
  /-- R295: An AUX reply, defer or 400 us timeout ends or retries an AUX transaction. -/
  | auxReply (h : Fin 8) (reply : Option (BitVec 4)) (data : List Byte)
  /-- R310: At the last active pixel a head writeback frame completes, or completes as incomplete when the PLL was gated. -/
  | headWritebackFrameEnd (h : Fin 8)
  /-- R314: Returns a head's status or its timing entry. -/
  | headQuery (c : KcpCtx) (head view : Byte)
  /-- R304: Checks and writes a head timing into the group's shadow set. -/
  | headSetTiming (c : KcpCtx) (entry : List Byte)
  /-- R314: Sets a head on, idle or off at its next frame start. -/
  | headSetPower (c : KcpCtx) (head power : Byte)
  /-- R314: Retrains a plugged head from its first configuration. -/
  | headRetrain (c : KcpCtx) (head : Byte)
  /-- R309: Performs a host AUX or I2C-over-AUX transaction. -/
  | headAux (c : KcpCtx) (head op length i2c : Byte) (address : Word) (data : List Byte)
  /-- R314: Sets eDP backlight brightness through DPCD. -/
  | headSetBacklight (c : KcpCtx) (head : Byte) (level : Half)
  /-- R322: The GM8 sends a BEACON each second, or every 50 ms in the first second after its ports come up. -/
  | beaconTimer
  /-- R324: A HELLO is matched to a binding and answered with ACCEPT at a chosen version or REJECT with a reason. -/
  | adtHelloRx (d : AdtDgram) (hello : Hello)
  /-- R344: A peer heartbeat keeps the session live and its held summary is compared for the frame it names. -/
  | adtHeartbeatRx (d : AdtDgram) (frame : Word) (summary : Nat) (flags late : Half) (offset : Int)
  /-- R326: A peer LEAVE ends its session at once. -/
  | adtLeaveRx (d : AdtDgram) (reason : Half)
  /-- R339: An endpoint REPAIR causes retransmission of named fragments in the repair class within limits. -/
  | adtRepairRx (d : AdtDgram) (frame : Word) (flags : Half) (entries : List (Half × Long))
  /-- R378: A camera slice is decoded and written into its frame's buffer. -/
  | sourceSliceRx (d : AdtDgram) (frame : Word) (index : Half) (frag fragCount : Byte) (digest : Long) (offset : Word) (payload : List Byte)
  /-- R378: A FRAME_DONE ends a source frame, which is checked and may trigger a REPAIR to the source. -/
  | frameDoneRx (d : AdtDgram) (frame : Word) (capture : Long) (slices : Half) (digest : Long)
  /-- R380: When a frame's last write lands and its checks pass, it becomes the source's latest complete frame. -/
  | ingestFrameComplete (source : Byte)
  /-- R378: A source frame incomplete 1.5 periods after its first slice is abandoned and its buffer is freed. -/
  | ingestFrameTimeout (source : Byte)
  /-- R344: The GM8 sends a HEARTBEAT to each session every tHB. -/
  | adtHeartbeatTx (source : Bool) (number : Half)
  /-- R344: No valid datagram for 4 tHB makes a peer not live, resets its held digests and stops its slices. -/
  | adtPeerNotLive (source : Bool) (number : Half)
  /-- R344: No valid datagram for 8 tHB closes the session with reason 10. -/
  | adtSessionTimeout (source : Bool) (number : Half)
  /-- R331: At sill minus tANN each 1.1 or later endpoint of the group is sent an ANNOUNCE of its slice set. -/
  | announceTime (g : Fin 16)
  /-- R363: A mortise opens and carries its slice row's slices in order. -/
  | mortiseOpen (p : Fin 4) (g : Fin 16) (index : Nat)
  /-- R341: While an endpoint is blanked, its BLANK is repeated every 1 s. -/
  | adtBlankRepeat (number : Half)
  /-- R340: A HOLD with a duration ends when the duration expires. -/
  | adtHoldEnd (number : Half)
  /-- R351: PF-only: sets the ADT port, tHB, hold limit, tREP and beacon. -/
  | adtConfig (c : KcpCtx) (port heartbeat hold repair : Half) (beacon : Byte) (group : BitVec 128)
  /-- R351: Returns one endpoint's or source's session figures. -/
  | adtQuery (c : KcpCtx) (kind : Byte) (number : Half)
  /-- R351: PF-only: rebinds a peer ID and address until the next truss switch. -/
  | adtBind (c : KcpCtx) (kind fixed : Byte) (number : Half) (peer : Long) (address : BitVec 128)
  /-- R351: Sends LEAVE and holds the binding off for a time. -/
  | adtDisconnect (c : KcpCtx) (kind : Byte) (number hold : Half)
  /-- R351: Resets held digests so the full set is sent. -/
  | adtRefresh (c : KcpCtx) (first count : Half)
  /-- R341: Blanks or releases a range of endpoints at host request. -/
  | adtBlank (c : KcpCtx) (first count : Half) (op notice : Byte) (background colour : BitVec 24)
  /-- R351: PF-only: sends SOURCE_CTRL stop or start to a source. -/
  | adtSourceCtrl (c : KcpCtx) (source op : Byte)
  /-- R351: Returns session state counts and transport counters. -/
  | adtStats (c : KcpCtx)
  /-- R370: An Ethernet port lost records class 2 and switches groups to its loss variant. -/
  | ethLinkDown (p : Fin 4)
  /-- R354: A port comes up and sends gratuitous ARP and unsolicited Neighbor Advertisements. -/
  | ethLinkUp (p : Fin 4) (rxInvert : Bool)
  /-- R370: After the link has been up for 1 s and the fault has recovered, groups return to the required variant. -/
  | ethLinkUpSettled (p : Fin 4)
  /-- R353: A received frame the port does not accept is discarded and counted. -/
  | ethFrameDiscard (p : Fin 4) (integrity : Bool) (wire : Half)
  /-- R354: ARP or Neighbor Solicitation for the port's address is answered. -/
  | arpNdRx (p : Fin 4) (reply : Bool) (target sender : BitVec 128) (mac : BitVec 48)
  /-- R353: An echo request is answered in the management class, rate-limited. -/
  | icmpEchoRx (p : Fin 4) (target sender : BitVec 128) (mac : BitVec 48) (bytes : Half)
  /-- R354: An unresolved peer address is retried every 200 ms. -/
  | arpRetry (p : Fin 4) (address : BitVec 128)
  /-- R354: After 1 s unresolved, datagrams to the peer are discarded and counted. -/
  | arpGiveUp (p : Fin 4) (address : BitVec 128)
  /-- R354: A neighbour entry without a datagram for 300 s ages out. -/
  | neighbourAgeOut (p : Fin 4) (address : BitVec 128)
  /-- R355: A received 802.1AS Sync steers the time servo. -/
  | ptpSyncRx (p : Fin 4) (measured : Long) (estimate rate ratio : Word)
  /-- R356: A received Announce takes part in slave-port and grandmaster selection. -/
  | ptpAnnounceRx (p : Fin 4) (priority1 clockClass accuracy : Byte) (variance : Half) (priority2 : Byte) (identity : Long) (steps : Half)
  /-- R355: As grandmaster the GM8 sends Sync and Announce at their intervals. -/
  | ptpSyncTx
  /-- R356: A slave port missing 3 Sync intervals moves to another port or leads to holdover. -/
  | ptpSyncTimeout (p : Fin 4)
  /-- R357: An MKA frame is processed and may install a new SAK. -/
  | mkaRx (p : Fin 4) (install : Bool)
  /-- R357: In must-secure mode, 6 s without a live MKA peer loses the port. -/
  | mkaPeerTimeout (p : Fin 4)
  /-- R358: An elimination entry's recovery history resets after its timeout. -/
  | cbResetTimeout (entry : Byte)
  /-- R358: A frame with an R-TAG passes vector recovery, and duplicates are eliminated. -/
  | cbFrameRx (p : Fin 4) (mac : BitVec 48) (vlan : BitVec 12) (seq wire : Half)
  /-- R359: While bucket k runs, bucket k+1 is expanded into the fine wheel. -/
  | calendarBucketExpand (p : Fin 4)
  /-- R367: At a frame end or idle grain, the MAC starts a mortise burst or the best eligible queue frame that clears the kerf. -/
  | macSelectFrame (p : Fin 4)
  /-- R374: Returns a port's state, mode and addresses. -/
  | netPortQuery (c : KcpCtx) (port : Byte)
  /-- R374: PF-only: sets a port's mode and options at start. -/
  | netPortCfg (c : KcpCtx) (port mode txInvert adt : Byte) (largest : Half) (pcpSlice pcpControl pcpRepair flags : Byte) (cap : Half)
  /-- R374: PF-only: enables or disables a port. -/
  | netPortEnable (c : KcpCtx) (port enable : Byte)
  /-- R374: PF-only: sets a port's IP address. -/
  | netSetAddr (c : KcpCtx) (port version prefixLen : Byte) (address : BitVec 128)
  /-- R374: PF-only: configures the 802.1AS role and parameters. -/
  | netTimeCfg (c : KcpCtx) (role domain priority1 priority2 clockClass accuracy logSync ports : Byte) (asymmetry : List Half)
  /-- R374: Returns the network time state. -/
  | netTimeQuery (c : KcpCtx)
  /-- R374: PF-only: sets a port's MACsec mode and cipher. -/
  | netMacsecCfg (c : KcpCtx) (port mode cipher keySlot : Byte) (replay : Word) (keyPrio : Byte)
  /-- R374: PF-only: installs or erases a CAK, restarting MKA. -/
  | netMacsecKey (c : KcpCtx) (slot op len : Byte) (cak ckn : List Byte)
  /-- R374: PF-only: sets or clears an 802.1CB elimination entry. -/
  | netCbCfg (c : KcpCtx) (entry op ports history : Byte) (mac : BitVec 48) (vlan timeout : Half)
  /-- R374: Returns a port's calendar figures. -/
  | calQuery (c : KcpCtx) (port variant : Byte)
  /-- R368: Writes a port's rate set into its rate group's shadow set. -/
  | calSetRates (c : KcpCtx) (port mask : Byte) (rates : List Word) (bursts : List Half)
  /-- R386: A write of DMA_CHc_PROD makes descriptors available to the channel. -/
  | dmaDoorbell (fn : Fin 16) (c : Fin 32) (value : Word) (m : HostMem)
  /-- R386: A write of DMA_CHc_CFG enables the channel and makes the writer its owner. -/
  | dmaChCfgWrite (fn : Fin 16) (c : Fin 32) (value : Word) (m : HostMem)
  /-- R396: An abort finishes the burst in progress, posts status 3 and stops the channel. -/
  | dmaChAbort (fn : Fin 16) (c : Fin 32)
  /-- R397: A resume leaves error and continues at the next descriptor. -/
  | dmaChResume (fn : Fin 16) (c : Fin 32) (m : HostMem)
  /-- R389: A write of DMA_SWREQ asserts software request lines. -/
  | dmaSwreq (fn : Fin 16) (value : Half)
  /-- R391: A qualified rising DREQ edge asserts its request line, and short pulses are counted. -/
  | dreqEdge (line : Fin 4) (qualified : Bool) (levels : BitVec 4)
  /-- R390: A request line assertion is counted by the channels whose descriptor names it, moving one burst each. -/
  | dmaRequest (line : Fin 64) (m : HostMem)
  /-- R392: A descriptor's writes land, it is posted to its queue and the queue count advances. -/
  | dmaDescDone (c : Fin 32) (m : HostMem)
  /-- R394: A CONS write frees queue space and releases a held DMA record. -/
  | dmaCqConsWrite (fn : Fin 16) (q : Fin 8) (value : Word) (m : HostMem)
  /-- R392: A write of DMA_CQq_CFG enables or disables a completion queue. -/
  | dmaCqCfgWrite (fn : Fin 16) (q : Fin 8) (value : Word) (m : HostMem)
  /-- R384: A writeback frame ends; a complete frame advances the count, and an incomplete one records status 7 and source 127+e. -/
  | wbFrameDone (e : Fin 4)
  /-- R401: PF-only: sets a source's ring depth and completion queue. -/
  | ingCfg (c : KcpCtx) (source depth queue : Byte)
  /-- R401: Returns a source's ingest state. -/
  | ingQuery (c : KcpCtx) (source : Byte)
  /-- R383: Gives a writeback engine its target surfaces at the next usable sill. -/
  | wbSetTarget (c : KcpCtx) (engine count queue : Byte) (handles : List Half)
  /-- R401: Returns a writeback engine's state. -/
  | wbQuery (c : KcpCtx) (engine : Byte)
  /-- R401: PF-only: names a completion queue's owner. -/
  | dmaCqCfg (c : KcpCtx) (queue owner : Byte)
  /-- R401: PF-only: maps a request line to a source's frame completion. -/
  | dmaReqMap (c : KcpCtx) (line : Byte) (source : Half)
  /-- R401: Returns a DMA channel's state. -/
  | dmaQuery (c : KcpCtx) (channel : Byte)
  /-- R413: EMERG_N low for 1 ms raises its bulletin, sets flags and sends immediate heartbeats. -/
  | emergNAssert
  /-- R413: EMERG_N high for 100 ms clears its raise. -/
  | emergNRelease
  /-- R414: Laying of the message into the idle bulletin maps completes, fixing the sills at which it takes effect. -/
  | bulletinLaid (ns : Nat)
  /-- R496: At the end of the 10 s interval the latest persisted field text is written to MRAM. -/
  | fieldPersistWrite (field : BitVec 11)
  /-- R404: PF-only: defines or deletes a field. -/
  | svcFieldDefine (c : KcpCtx) (field slot col row cols rows : Half) (just flags map fg bg : Byte)
  /-- R405: Edits a field's buffer and optionally commits it as cell writes. -/
  | svcFieldSet (c : KcpCtx) (field : Half) (op flags fg bg length : Byte) (text : List Byte)
  /-- R419: Returns a field's definition and state. -/
  | svcFieldQuery (c : KcpCtx) (field : Half)
  /-- R402: PF-only: loads a character map image. -/
  | svcCharmapLoad (c : KcpCtx) (map : Byte) (address : Long)
  /-- R408: Sets a slot's stale marker and pattern handles. -/
  | svcMosaicSet (c : KcpCtx) (slot m : Half) (width : Byte) (colour : Word) (pattern0 pattern1 : Half)
  /-- R419: Returns a slot's mosaic settings and state. -/
  | svcMosaicQuery (c : KcpCtx) (slot : Half)
  /-- R412: Writes a bulletin message in pieces. -/
  | svcMsgSet (c : KcpCtx) (message op map fg bg prio length : Byte) (text : List Byte)
  /-- R413: Raises, clears or clears all bulletin raises. -/
  | svcBulletin (c : KcpCtx) (op message : Byte)
  /-- R419: Returns the bulletin state. -/
  | svcBulletinQuery (c : KcpCtx)
  /-- R419: PF-only: sets EMERG_N's message and enable. -/
  | svcEmergCfg (c : KcpCtx) (message enable : Byte)
  /-- R423: Each round samples inputs, applies accesses, withdraws, selects offers and commits host deliveries. -/
  | intcRound
  /-- R425: A core's claim read returns its offered source and makes it active, or returns 0. -/
  | intcClaim (core : Fin 4)
  /-- R427: A core's completion ends a source's activity, or counts as spurious. -/
  | intcComplete (core : Fin 4) (source : BitVec 10)
  /-- R432: Enables or disables a control core as a target. -/
  | intcCoreCtrlWrite (core : Fin 4) (enable : Bool) (settings : List IntSetting)
  /-- R427: A host EOI write completes a source for the function. -/
  | intcHostEoi (fn : Fin 16) (value : Word)
  /-- R430: A write raises a granted software source in both groups. -/
  | intcHostSwset (fn : Fin 16) (value : Word)
  /-- R431: Sets or clears host-group masks of granted sources. -/
  | intcHostMaskWrite (fn : Fin 16) (k : Fin 20) (value : Word)
  /-- R434: Configures host-group sensing, priority, targets and enable of sources. -/
  | intcSetSource (c : KcpCtx) (first count : Half) (items sensing prio enable : Byte) (targets : Half)
  /-- R434: Returns a source's configuration and state. -/
  | intcQuerySource (c : KcpCtx) (source : Half)
  /-- R434: Returns a target's state. -/
  | intcQueryTarget (c : KcpCtx) (target : Byte)
  /-- R442: Each 20 ns cycle applies accesses, moves records, ranks occurrences, loads records, writes the ring and takes reactions. -/
  | faultCollectorCycle (occs : List FltIn) (pinHigh : Bool)
  /-- R435: A source changes to asserted; the occurrence is classed, recorded and fenced, and class 4 enters the safe state. -/
  | faultOccurrence (source : Fin 192) (detail : Word)
  /-- R436: An invalid rail state held 4 cycles counts as an occurrence with detail 0xFFFF_FFFF. -/
  | brokenWire (source : Fin 192)
  /-- R443: A source's live bit falls, setting transient flags and starting its quiet period. -/
  | faultLiveFall (source : Fin 192)
  /-- R449: A quiet period ends; the fence clears as a recovery, or the unit locks. -/
  | quietPeriodEnd (source : Fin 192)
  /-- R445: A ring entry is mirrored to the MRAM log and freed. -/
  | faultRingMirror
  /-- R451: The ERR_N pulse time expires. -/
  | errnPulseEnd
  /-- R455: Hardware and firmware views of a unit differ, setting disagree flags. -/
  | disagreeOpen (kind : Fin 10) (index : Half)
  /-- R456: A disagreement still open after 1 ms writes a service event and pends source 470. -/
  | disagree1ms (kind : Fin 10) (index : Half)
  /-- R455: A disagreement open at the end of its window records source 185. -/
  | disagreeWindowEnd (kind : Fin 10) (index : Half)
  /-- R456: Firmware brings its view to hardware, closing the disagreement. -/
  | disagreeClose (kind : Fin 10) (index : Half)
  /-- R458: A control core not serving its watchdog for 100 ms records source 186 and is restarted. -/
  | coreWatchdogExpiry (core : Fin 4)
  /-- R459: When test-unlocked, a force write drives a source's rails with the staged detail. -/
  | fltForceAssert (fn : Fin 16) (value : Word)
  /-- R459: A force write with broken drives both rails to 1. -/
  | fltForceBroken (fn : Fin 16) (value : Word)
  /-- R459: A force write with release returns the rails to the unit. -/
  | fltForceRelease (fn : Fin 16) (value : Word)
  /-- R463: Returns fault status and the first and next records. -/
  | fltQuery (c : KcpCtx)
  /-- R463: Reads fault log records inline or to memory. -/
  | fltLogRead (c : KcpCtx) (first : Word) (count : Half) (mode : Byte) (address : Long)
  /-- R442: Acknowledges the first record or clears cause bits at the next cycle. -/
  | fltAck (c : KcpCtx) (kind : Byte) (first count : Half)
  /-- R463: PF-only: sets min_class and escalation of sources. -/
  | fltSetSource (c : KcpCtx) (first count : Half) (minClass n ceiling : Byte) (w : Word)
  /-- R463: PF-only: sets K and the quiet periods. -/
  | fltSetRecovery (c : KcpCtx) (k : Byte) (q2 q3 : Half)
  /-- R463: PF-only: clears a lock and fence of a quiet source. -/
  | fltUnfence (c : KcpCtx) (source : Half)
  /-- R463: PF-only: sets the ERR_N pulse and level configuration. -/
  | fltSetErrn (c : KcpCtx) (pulseClass levelClass : Byte) (pulseUs : Half) (swLevel : Byte)
  /-- R454: PF-only: writes the safe field record to MRAM. -/
  | fltSetSafeField (c : KcpCtx) (address : Long) (length : Word)
  /-- R463: PF-only: schedules safe-state entry 100 us after its response. -/
  | fltEnterSafe (c : KcpCtx) (confirm : Word)
  /-- R463: 100 us after FLT_ENTER_SAFE, source 187 enters the safe state. -/
  | fltEnterSafeDue
  /-- R463: Returns a source's configuration and last occurrence. -/
  | fltSrcQuery (c : KcpCtx) (source : Half)
  /-- R465: Every 4 ns all counters update together, wrapping with overflow bits and firing periodic and sill snapshot triggers. -/
  | pmuUpdate
  /-- R468: A low-word counter read latches the high byte and a chained partner. -/
  | pmuCntLoRead (fn : Fin 16) (user : Bool) (counter : BitVec 9) (wide : Bool)
  /-- R469: A high-word write stages bits 39:32. -/
  | pmuCntHiWrite (fn : Fin 16) (user : Bool) (counter : BitVec 9) (value : Word)
  /-- R469: A low-word or 64-bit write commits the value at the next update, suppressing a carry. -/
  | pmuCntLoWrite (fn : Fin 16) (user : Bool) (counter : BitVec 9) (wide : Bool) (value : Long)
  /-- R475: A write of PMU_SNAP_CTRL.take fires a software snapshot trigger. -/
  | pmuSnapTakeBit (fn : Fin 16)
  /-- R476: A write of release0 or release1 releases a held snapshot bank. -/
  | pmuSnapReleaseBit (fn : Fin 16) (bank : Fin 2)
  /-- R475: A snapshot copy completes, its bank becomes active and a type 0x07 record is written. -/
  | snapshotDone (ns : Nat)
  /-- R479: A bandwidth window ends, storing last and peak and counting threshold excess. -/
  | bwWindowEnd (n : Fin 18)
  /-- R470: Configures a filtered counter. -/
  | pmuFcSet (c : KcpCtx) (counter mode path direction cls master chain clear : Byte) (privilege : Word) (event : Half) (low high : Long)
  /-- R482: Returns a filtered counter's settings and value. -/
  | pmuFcQuery (c : KcpCtx) (counter : Byte)
  /-- R482: PF-only: sets snapshot triggers and hold. -/
  | pmuSnapCfg (c : KcpCtx) (mask group cls hold : Byte) (period : Word)
  /-- R482: PF-only: takes a snapshot at the next update. -/
  | pmuSnapTake (c : KcpCtx)
  /-- R482: Returns snapshot status and configuration. -/
  | pmuSnapQuery (c : KcpCtx)
  /-- R482: PF-only: configures a bandwidth engine, ending its window as partial. -/
  | pmuBwSet (c : KcpCtx) (engine k align cls : Byte) (threshold : Word) (clear : Byte)
  /-- R482: Returns a bandwidth engine's figures. -/
  | pmuBwQuery (c : KcpCtx) (engine : Byte)
  /-- R482: PF-only: clears selected counters, sticky bits and peaks. -/
  | pmuClear (c : KcpCtx) (mask : Byte)
  /-- R490: In host recovery, go reads, verifies and installs a firmware image. -/
  | idRcvGo (fn : Fin 16)
  /-- R490: With go, cfg_reset also restores board items 0 to 3. -/
  | idRcvCfgReset (fn : Fin 16)
  /-- R490: Host-recovery install finishes as done or failed, clearing both counters on success. -/
  | rcvInstallDone (image : Option (List Byte)) (sigOk ok : Bool)
  /-- R489: A firmware image write completes or fails and is reported by service record. -/
  | imageWriteDone (host : Option (List Byte)) (sigOk ok : Bool)
  /-- R493: TMPR_N low for 1 ms records source 163 and may erase network keys. -/
  | tamperAssert
  /-- R493: TMPR_N high for 100 ms releases the tamper condition. -/
  | tamperRelease
  /-- R493: A core or I/O rail glitch records source 164. -/
  | supplyGlitch (rail : Rail) (mv ns : Nat)
  /-- R493: Tj beyond its limits records source 165. -/
  | temperatureAlarm (tj : Int)
  /-- R492: An unused debug challenge lapses after 60 s. -/
  | debugChallengeLapse
  /-- R491: Writes a signed attestation report. -/
  | secAttest (c : KcpCtx) (mode : Byte) (address : Long) (nonce : List Byte)
  /-- R500: PF-only: writes the identity key and certificate chain. -/
  | secIdentity (c : KcpCtx) (mode : Byte) (address : Long)
  /-- R487: PF-only: installs or revokes an operator key record. -/
  | secKeyInstall (c : KcpCtx) (address : Long) (sigOk : Bool)
  /-- R500: Returns a key slot's state and identifier. -/
  | secKeyQuery (c : KcpCtx) (slot : Byte)
  /-- R489: PF-only: verifies and writes a firmware image to flash. -/
  | secImageWrite (c : KcpCtx) (target source : Byte) (length : Word) (address : Long)
  /-- R500: PF-only: returns an image's validity and versions. -/
  | secImageQuery (c : KcpCtx) (image : Byte)
  /-- R488: PF-only: advances the firmware or truss anti-rollback counter. -/
  | secRollbackCommit (c : KcpCtx) (kind : Byte) (value : Word)
  /-- R492: PF-only: returns a fresh debug challenge. -/
  | secDebugChallenge (c : KcpCtx)
  /-- R492: PF-only: verifies a signed response and unlocks debug level 1 or 2. -/
  | secDebugUnlock (c : KcpCtx) (address : Long) (sigOk : Bool)
  /-- R493: PF-only: sets the TMPR_N action. -/
  | secTamperCfg (c : KcpCtx) (action : Byte)
  /-- R57: PERST_N deasserted with PE_REFCLK present takes the host port out of reset and begins link training. -/
  | perstNDeassert
  /-- R42: Loss of PE_REFCLK holds the host port in reset, and the level on PERST_N is then ignored. -/
  | peRefclkLoss
  /-- R42: PE_REFCLK returns, so PERST_N is sensed again and CLK_REF_STATUS.pe_refclk_ok sets. -/
  | peRefclkReturn
  /-- R245: Setting a function's Bus Master Enable resumes its host-memory fetches, DMA and host-recovery reads after a disable or an FLR. -/
  | busMasterEnableSet (fn : Fin 16)
  /-- R134: A write of the SR-IOV VF Enable bit by the PF creates the virtual functions, or on clear resets them as an FLR does and disables them. -/
  | vfEnableWrite (enable : Bool)
  /-- R108: Initialisation of a returned CXL port completes, so the port becomes usable, a link-state record is raised and a running standing truss is re-armed. -/
  | cxlPortInitDone (m : Fin 4)
  /-- R355: At each Pdelay interval, 1 s by default, each 802.1AS port sends a Pdelay request. -/
  | ptpPdelayTimer
  /-- R355: A received Pdelay request is answered, and a received Pdelay response updates the port's mean path delay and asCapable state. -/
  | ptpPdelayRx (p : Fin 4) (response capable : Bool) (delay : Word)
  /-- R477: A BAR2 read of the active snapshot's plan-time low word latches the high word, as R79 gives. -/
  | snapTimeLoRead (fn : Fin 16)
  deriving DecidableEq, Repr, Inhabited

end Sys2Proof
end

