-- ==== Sys2Proof/Config.lean ====
section
/-! DEFINITION. What the spec leaves open: free values without a body, so that no proof can lean on one
(log 10), and fixed choices of the model, each named in the log. -/

namespace Sys2Proof

/-- The n-th free value of a run: a handle, a nonce, a value the spec calls undefined. No body (log 10). -/
opaque Config.freeNat : Nat → Nat

/-- A free value of the width wanted. -/
def Config.freeBits (w n : Nat) : BitVec w := BitVec.ofNat w (Config.freeNat n)

/-- SHA3-384 of some bytes (R168): a function without a body (log 11). -/
opaque Config.sha3Bits : List Byte → BitVec 384

/-- R168: SHA3-384 of some bytes, as a number. -/
def Config.sha3 (b : List Byte) : Nat := (Config.sha3Bits b).toNat

/-- R256: coefficient of ROM bank 0, 1 or 2: bank, taps of the set, phase, tap. The spec gives no values beyond bank 0
at phase 0 (log 15). No body. -/
opaque Config.romCoef : Nat → Nat → Nat → Nat → Int

/-- R328: the payload that DSC 1.2b gives a slice: bits per pixel times 16, encoding code, slice width and the codes of
its pixels. No body: that standard is not part of the spec (log 16). -/
opaque Config.dscEncode : Nat → Nat → Nat → List Nat → List Byte

/-- R347: the codes that DSC 1.2b decodes a slice payload to, plane by plane, for bits per pixel times 16, encoding code,
slice width and height; none for a malformed bitstream. No body (log 16). -/
opaque Config.dscDecode : Nat → Nat → Nat → Nat → List Byte → Option (List Nat)

/-- R486: the bytes of the device's identity public key. No body (log 11). -/
opaque Config.identityKeyByte : Nat → Byte

/-- R486: the device's identity public key, an ML-DSA-65 key of 1,952 bytes, of which the Device ID is part. -/
def Config.identityKey : List Byte := (List.range 1952).map Config.identityKeyByte

/-- R486: the key identifier of the device's planner key. No body (log 11). -/
opaque Config.plannerKeyBits : BitVec 128

/-- R486: the planner key's identifier, as a number. -/
def Config.plannerKeyId : Nat := Config.plannerKeyBits.toNat

/-- R486: the key identifiers of the four fused vendor keys, none of them revoked. No body (log 11). -/
opaque Config.vendorKeyBits : Nat → BitVec 128

/-- R486: the identifier of vendor key `k`, as a number. -/
def Config.vendorKeyId (k : Nat) : Nat := (Config.vendorKeyBits k).toNat

/-- R491: the signature by the device's identity key over a digest. No body (log 11). -/
opaque Config.identitySign : Nat → List Byte

/-- R486: the bytes of the device's certificate chain, DER. No body (log 11). -/
opaque Config.identityChainBytes : List Byte

/-- R486: the device's certificate chain, of at most 65,536 bytes, a bound of the model's own (log 11). -/
def Config.identityChain : List Byte := Config.identityChainBytes.take 65536

/-- R161: KMAC256 of a key and some bytes, 256 bits, under the customisation string of KCP over UDP. No body (log 11). -/
opaque Config.kmac256 : List Byte → List Byte → BitVec 256

/-- R160: the AES-256-GCM tag under a key and a 96-bit nonce, of additional data and ciphertext. No body (log 11). -/
opaque Config.gcmTag : Nat → Nat → List Byte → List Byte → BitVec 128

/-- R160: a byte of the AES-256-GCM ciphertext under a key and a 96-bit nonce, of a plaintext. No body (log 11). -/
opaque Config.gcmByte : Nat → Nat → List Byte → Nat → Byte

/-- R484: M0, the measurement of the boot ROM. No body (log 11). -/
opaque Config.romDigest : Nat

/-- R84: F of a pace monitor, its count at the floor, fused at production. No body (log 19). -/
opaque Config.floorCount : Nat → Nat

/-- R355: the identity of the GM8's own 802.1AS clock. No body (log 25). -/
opaque Config.clockIdentity : Nat

/-- R355: the offset variance that the GM8's own 802.1AS clock announces. No body (log 25). -/
opaque Config.clockVariance : Nat

end Sys2Proof
end

