-- ==== Sys2Proof/Machine/Table.lean ====
section
/-! DEFINITION. Sparse tables: the one plain-data shape of everything the GM8 holds many of (memory bytes,
slots, handles, counters, sources, rings). A table is a list of keys and values, keys strictly rising,
no value equal to what an unlisted key reads as, so that equal contents are equal data. -/

namespace Sys2Proof.Machine

/-- A sparse table: keys strictly rising, no entry equal to its key's default. -/
abbrev Tab (α : Type) := List (Nat × α)

/-- What key `k` holds; `d` is what an unlisted key reads as. -/
def tabGetD {α : Type} (d : α) : Tab α → Nat → α
  | [], _ => d
  | (i, v) :: t, k => if i = k then v else tabGetD d t k

/-- The table without any entry of key `k`. -/
def tabErase {α : Type} : Tab α → Nat → Tab α
  | [], _ => []
  | (i, v) :: t, k => if i = k then tabErase t k else (i, v) :: tabErase t k

/-- The table with `k` holding `v`, keys kept rising. -/
def tabInsert {α : Type} : Tab α → Nat → α → Tab α
  | [], k, v => [(k, v)]
  | (i, w) :: t, k, v =>
    if k < i then (k, v) :: (i, w) :: t
    else if k = i then (k, v) :: t
    else (i, w) :: tabInsert t k v

/-- Writes `v` at `k`: writing what an unlisted key reads as removes the entry. -/
def tabSetD {α : Type} [DecidableEq α] (d : α) (t : Tab α) (k : Nat) (v : α) : Tab α :=
  if v = d then tabErase t k else tabInsert t k v

/-- Reads a table whose unlisted keys hold the type's reset value. -/
def tabGet {α : Type} [Inhabited α] (t : Tab α) (k : Nat) : α := tabGetD default t k

/-- Writes a table whose unlisted keys hold the type's reset value. -/
def tabSet {α : Type} [Inhabited α] [DecidableEq α] (t : Tab α) (k : Nat) (v : α) : Tab α :=
  tabSetD default t k v

/-- Changes one entry. -/
def tabMod {α : Type} [Inhabited α] [DecidableEq α] (t : Tab α) (k : Nat) (f : α → α) : Tab α :=
  tabSet t k (f (tabGet t k))

/-- Changes the entries of several keys, in order. -/
def tabModAll {α : Type} [Inhabited α] [DecidableEq α] (t : Tab α) (ks : List Nat) (f : Nat → α → α) : Tab α :=
  ks.foldl (fun t k => tabMod t k (f k)) t

/-- Drops every listed entry that `p` does not keep. -/
def tabKeep {α : Type} (p : Nat → α → Bool) (t : Tab α) : Tab α := t.filter (fun e => p e.1 e.2)

/-- Changes every listed entry. -/
def tabMap {α : Type} [Inhabited α] [DecidableEq α] (f : Nat → α → α) (t : Tab α) : Tab α :=
  t.foldl (fun acc e => tabSet acc e.1 (f e.1 e.2)) t

/-- The keys above `lo` only, strictly rising. -/
def tabRising {α : Type} : Nat → Tab α → Bool
  | _, [] => true
  | lo, (i, _) :: t => decide (lo ≤ i) && tabRising (i + 1) t

/-- The canonical form: keys strictly rising, no entry equal to the default. -/
def tabWf {α : Type} [DecidableEq α] (d : α) (t : Tab α) : Bool :=
  tabRising 0 t && t.all (fun e => !decide (e.2 = d))

end Sys2Proof.Machine
end

