-- ==== Sys2Proof/Machine/StSvc.lean ====
section
/-! DEFINITION. State of the standing services (chapter 18): character maps, fields, mosaics, messages and the bulletin. -/

namespace Sys2Proof.Machine

/-- A character map (R402). -/
structure CharMap where
  /-- R402: the map holds an image -/
  loaded : Bool := false
  /-- R402: replacement glyph -/
  replace : Nat := 0
  /-- R402: space glyph -/
  space : Nat := 0
  /-- R402: entries, code point and glyph, ascending -/
  entries : List (Nat × Nat) := []
  deriving DecidableEq, Repr, Inhabited

/-- A field's definition (R404), held in MRAM. -/
structure FieldDef where
  /-- R404: the entry is defined -/
  defined : Bool := false
  /-- R404: slot -/
  slot : Nat := 0
  /-- R404: first column -/
  col : Nat := 0
  /-- R404: first row -/
  row : Nat := 0
  /-- R404: columns -/
  cols : Nat := 0
  /-- R404: rows -/
  rows : Nat := 0
  /-- R403: justification -/
  just : Nat := 0
  /-- R404: flags, bit 0 persist, bit 1 report commits -/
  flags : Byte := 0
  /-- R404: character map -/
  map : Nat := 0
  /-- R404: default foreground palette index -/
  fg : Nat := 0
  /-- R404: default background palette index -/
  bg : Nat := 0
  deriving DecidableEq, Repr, Inhabited

/-- A field's running state, key 0–2,047. -/
structure FieldSt where
  /-- R405: staging buffer -/
  buf : List Byte := []
  /-- R419: frame of the last commit -/
  frame : Word := 0
  /-- R419: commits -/
  commits : Word := 0
  /-- R496: text committed and not yet written to MRAM, with its length plus one; none waits at 0 -/
  persist : Option (List Byte) := none
  /-- R496: instant of the field's last write to MRAM, plus one [DC 4] -/
  writtenAt : Nat := 0
  deriving DecidableEq, Repr, Inhabited

/-- A slot's mosaic settings (R408). -/
structure Mosaic where
  /-- R408: settings have been given -/
  given : Bool := false
  /-- R408: marker threshold M, 0 off -/
  m : Nat := 0
  /-- R408: border width -/
  width : Nat := 1
  /-- R408: marker colour, ARGB8888 -/
  colour : Word := 0
  /-- R408: pattern handles -/
  pattern0 : Nat := 0xFFFF
  /-- R408: second pattern handle -/
  pattern1 : Nat := 0xFFFF
  deriving DecidableEq, Repr, Inhabited

/-- What an ingest-linked slot shows of R409. -/
inductive MosaicShow where
  | frame | marker | pattern (handle : Nat) | fill
  deriving DecidableEq, Repr, Inhabited

/-- A mosaic slot's running state, key 0–8,191. -/
structure MosaicSt where
  /-- R408: settings in force -/
  set : Mosaic := {}
  /-- R409: shown in the current frame -/
  shows : MosaicShow := .frame
  /-- R410: the pattern has been shown, and no frame since -/
  patterned : Bool := false
  /-- R419: patterns shown -/
  patterns : Half := 0
  deriving DecidableEq, Repr, Inhabited

/-- A bulletin message (R412). -/
structure Message where
  /-- R412: text, empty for no message -/
  text : List Byte := []
  /-- R412: character map -/
  map : Nat := 0
  /-- R412: foreground palette index -/
  fg : Nat := 0
  /-- R412: background palette index -/
  bg : Nat := 0
  /-- R412: priority 0–3 -/
  prio : Nat := 0
  deriving DecidableEq, Repr, Inhabited

/-- The origin of a raise (R413). -/
inductive Origin where
  | fn (f : Nat) | key (slot : Nat) | emerg
  deriving DecidableEq, Repr, Inhabited

/-- R418: the code of an origin. -/
def Origin.code : Origin → Nat
  | .fn _ => 0 | .key _ => 1 | .emerg => 2

/-- A raise (R413). -/
structure Raise where
  origin : Origin := .emerg
  message : Nat := 0
  deriving DecidableEq, Repr, Inhabited

/-- The standing services' volatile state. -/
structure SvcSt where
  /-- R402: character maps 0–15 -/
  maps : Tab CharMap := []
  /-- R405: fields -/
  fields : Tab FieldSt := []
  /-- R408: mosaic slots -/
  mosaics : Tab MosaicSt := []
  /-- R412: messages 8–15 -/
  messages : Tab Message := []
  /-- R413: raises held, most recent first -/
  raises : List Raise := []
  /-- R413: EMERG_N asserted -/
  emerg : Bool := false
  /-- R414: the message now being laid, plus one; 0 none -/
  laying : Nat := 0
  /-- R414: the message last laid or ended, plus one; 0 for no bulletin -/
  laid : Nat := 0
  /-- R418: origin of the message last laid -/
  laidOrigin : Nat := 0
  /-- R413: the raise shown -/
  shown : Option Raise := none
  /-- R414: plan time from which the message in force is being laid -/
  changedAt : Nat := 0
  /-- R411: message in force in a group, plus one, key 0–15 -/
  inForce : Tab Nat := []
  /-- R418: origin of the message in force in a group -/
  origins : Tab Nat := []
  /-- R415: plan time of recognition -/
  recognised : Nat := 0
  deriving DecidableEq, Repr, Inhabited

/-- The standing services' settings in MRAM. -/
structure SvcMram where
  /-- R404: the field table [DC 4] -/
  fields : Tab FieldDef := []
  /-- R406: last persisted text of a field [DC 4] -/
  texts : Tab (List Byte) := []
  /-- R412: messages 0–7 [DC 4] -/
  messages : Tab Message := []
  /-- R413: message for EMERG_N -/
  emergMessage : Nat := 0
  /-- R419: EMERG_N enabled [DC 4] -/
  emergEnable : Bool := true
  deriving DecidableEq, Repr, Inhabited

end Sys2Proof.Machine
end

