-- ==== Sys2Proof/Machine/StTruss.lean ====
section
/-! DEFINITION. A truss as the GM8 reads it out of an image (chapter 09 and the sections it points to), and the
state of the store slots, the change sets and the standing slots. -/

namespace Sys2Proof.Machine

/-- R172: a rectangle: left, top, width, height. -/
structure Rect where
  x : Nat := 0
  y : Nat := 0
  w : Nat := 0
  h : Nat := 0
  deriving DecidableEq, Repr, Inhabited

/-- R167: a directory entry. -/
structure Sect where
  type : Nat := 0
  variant : Nat := 0
  count : Nat := 0
  off : Nat := 0
  len : Nat := 0
  deriving DecidableEq, Repr, Inhabited

/-- R168: a group entry. -/
structure TGroup where
  id : Nat := 0
  base : Nat := 0
  f : Nat := 1
  phase : Nat := 0
  cutoff : Nat := 0
  ann : Nat := 0
  k : Nat := 0
  outputs : Nat := 0
  firstOut : Nat := 0
  deriving DecidableEq, Repr, Inhabited

/-- R170: an output entry. -/
structure TOutput where
  kind : Nat := 0
  group : Nat := 0
  unit : Nat := 0
  width : Nat := 0
  height : Nat := 0
  strip : Nat := 8
  enc : Nat := 0
  bpp : Nat := 0
  sliceW : Nat := 0
  /-- Writeback engine plus one, 0 for none. -/
  wb : Nat := 0
  /-- Slot at layer positions 0–15, 0xFFFF for none. -/
  slots : List Nat := []
  deriving DecidableEq, Repr, Inhabited

/-- R171: a slot entry, its travel box and its starting state. -/
structure TSlot where
  slot : Nat := 0
  out : Nat := 0
  pos : Nat := 0
  type : Nat := 0
  policy : Nat := 0
  stale : Nat := 0
  x0 : Nat := 0
  y0 : Nat := 0
  x1 : Nat := 0
  y1 : Nat := 0
  hmin : Nat := 0
  hmax : Nat := 0
  vmin : Nat := 0
  vmax : Nat := 0
  maxW : Nat := 0
  maxH : Nat := 0
  bpp : Nat := 0
  dec : Nat := 1
  taps : Nat := 0
  flags : Nat := 0
  port : Nat := 0
  stripes : Nat := 1
  handle : Nat := 0xFFFF
  fill : Nat := 0
  source : Nat := 0xFFFF
  dst : Rect := {}
  src : Rect := {}
  deriving DecidableEq, Repr, Inhabited

/-- R175: a memory region. -/
structure TRegion where
  id : Nat := 0
  kind : Nat := 0
  flags : Nat := 0
  addr : Nat := 0
  size : Nat := 0
  deriving DecidableEq, Repr, Inhabited

/-- R175: a flash asset. -/
structure TAsset where
  flash : Nat := 0
  len : Nat := 0
  addr : Nat := 0
  handle : Nat := 0xFFFF
  format : Nat := 0
  deriving DecidableEq, Repr, Inhabited

/-- R172: a work item. -/
structure TItem where
  start : Nat := 0
  deadline : Nat := 0
  out : Nat := 0
  strip : Nat := 0
  lane : Nat := 0
  frame : Nat := 0
  mask : Nat := 0
  dest : Nat := 0
  lead : Nat := 0
  first : Nat := 0
  count : Nat := 0
  tokens : Nat := 0
  deriving DecidableEq, Repr, Inhabited

/-- R173: a fetch entry. -/
structure TFetch where
  pos : Nat := 0
  kind : Nat := 0
  port : Nat := 0
  stripe : Nat := 0
  dec : Nat := 1
  bytes : Nat := 0
  tags : Nat := 0
  lines : Nat := 0
  ahead : Bool := false
  deriving DecidableEq, Repr, Inhabited

/-- R174: a variant entry. -/
structure TVariant where
  id : Nat := 0
  kind : Nat := 0
  unit : Nat := 0
  atPf : Bool := false
  aliasOf : Nat := 0
  deriving DecidableEq, Repr, Inhabited

/-- R176: an admission summary entry. -/
structure TSummary where
  variant : Nat := 0
  lanes : List Nat := []
  reads : List Nat := []
  writes : List Nat := []
  tags : List Nat := []
  encoders : List Nat := []
  decoders : List Nat := []
  egress : List Nat := []
  deriving DecidableEq, Repr, Inhabited

/-- R297: a head timing entry. -/
structure HeadTiming where
  head : Nat := 0
  sink : Nat := 0
  pll : Nat := 0
  flags : Nat := 0
  clock : Nat := 0
  m : Nat := 0
  p : Nat := 0
  n : Nat := 0
  hactive : Nat := 0
  hfp : Nat := 0
  hsync : Nat := 0
  hbp : Nat := 0
  vactive : Nat := 0
  vfp : Nat := 0
  vsync : Nat := 0
  vbp : Nat := 0
  lanes : Nat := 0
  rate : Nat := 0
  deriving DecidableEq, Repr, Inhabited

/-- An output colour state (R279), as a truss gives it (R288) or COL_SET_OUTPUT writes it. -/
structure OutColour where
  /-- R279: working space, 0 encoded, 1 linear -/
  space : Nat := 0
  /-- R279: background R, G, B, A in working units -/
  bgR : Nat := 0
  /-- R279: background green -/
  bgG : Nat := 0
  /-- R279: background blue -/
  bgB : Nat := 0
  /-- R279: background alpha -/
  bgA : Nat := 65535
  /-- R279: output matrix, a kind 1 table index or 0xFF -/
  matrix : Nat := 0xFF
  /-- R279: regamma code -/
  regamma : Nat := 1
  /-- R279: regamma table -/
  regTable : Nat := 0xFF
  /-- R279: 3D LUT, a kind 4 table index or 0xFF -/
  lut : Nat := 0xFF
  /-- R279: dither -/
  dither : Nat := 1
  deriving DecidableEq, Repr, Inhabited

/-- R320: an endpoint or source binding. -/
structure TBinding where
  kind : Nat := 0
  flags : Nat := 0
  num : Nat := 0
  ports : Nat := 0
  lowest : Nat := 0
  vlan : Nat := 0
  peer : Nat := 0
  addr : Nat := 0
  tslk : Nat := 0
  frag : Nat := 0
  repairs : Nat := 0
  width : Nat := 0
  height : Nat := 0
  period : Nat := 0
  bpp : Nat := 0
  sliceW : Nat := 0
  sliceH : Nat := 0
  enc : Nat := 0
  decoder : Nat := 0
  deriving DecidableEq, Repr, Inhabited

/-- A port's rate set (R360, R368): rates in kbit/s and bursts in bytes. -/
structure RateSet where
  /-- R360: control rate, kbit/s -/
  control : Nat := 0
  /-- R360: repair rate, kbit/s -/
  repair : Nat := 0
  /-- R360: management rate, kbit/s -/
  manage : Nat := 0
  /-- R360: control burst, bytes -/
  controlBurst : Nat := 0
  /-- R360: repair burst, bytes -/
  repairBurst : Nat := 0
  /-- R360: management burst, bytes -/
  manageBurst : Nat := 0
  deriving DecidableEq, Repr, Inhabited

/-- R360: a mortise. -/
structure TMortise where
  start : Nat := 0
  len : Nat := 0
  out : Nat := 0
  bytes : Nat := 0
  row : Nat := 0
  frame : Nat := 0
  port : Nat := 0
  replica : Bool := false
  deriving DecidableEq, Repr, Inhabited

/-- R360: one variant's calendar. -/
structure TCalendar where
  /-- Rate group of ports 0–3. -/
  groups : List Nat := []
  rates : List RateSet := []
  mortises : List TMortise := []
  deriving DecidableEq, Repr, Inhabited

/-- R177: the signature section. -/
structure TSig where
  magicOk : Bool := false
  alg : Nat := 0
  keySlot : Nat := 0
  keyId : Nat := 0
  digest : Nat := 0
  sigLen : Nat := 0
  padOk : Bool := false
  off : Nat := 0
  deriving DecidableEq, Repr, Inhabited

/-- R166–R178: a truss as read from its image. -/
structure Truss where
  format : Nat := 4
  headerLen : Nat := 128
  id : Nat := 0
  len : Nat := 0
  h : Nat := 15625
  /-- Pace factor of the reduced-pace variant, 768 where the header holds 0. -/
  pf : Nat := 768
  pfRaw : Nat := 0
  groupCount : Nat := 0
  epoch : Nat := 0
  security : Nat := 0
  flags : Nat := 0
  stepping : Nat := 0
  parent : Nat := 0
  dir : List Sect := []
  groups : List TGroup := []
  outputs : List TOutput := []
  slots : List TSlot := []
  regions : List TRegion := []
  assets : List TAsset := []
  timings : List HeadTiming := []
  /-- Bank images by number (R257). -/
  banks : Tab (List Byte) := []
  /-- Output states by output index (R288). -/
  outStates : Tab OutColour := []
  /-- Table images by index (R287). -/
  tables : Tab (List Byte) := []
  variants : List TVariant := []
  items : Tab (List TItem) := []
  fetches : Tab (List TFetch) := []
  cals : Tab TCalendar := []
  summaries : List TSummary := []
  bindings : List TBinding := []
  sig : TSig := {}
  deriving DecidableEq, Repr, Inhabited

/-- The resource figures a store slot records (R180): per CXL port whether it is present, its read and write
bandwidth in MB/s and its latency; the host link's bandwidth and latency. -/
structure Figures where
  /-- R180: ports present -/
  present : List Bool := []
  /-- R180: link read bandwidth of ports 0–3, MB/s -/
  reads : List Nat := []
  /-- R180: write bandwidth of ports 0–3, MB/s -/
  writes : List Nat := []
  /-- R180: L_m of ports 0–3, ns -/
  latency : List Nat := []
  /-- R180: raw host-link bandwidth, MB/s -/
  host : Nat := 0
  /-- R180: L_h, ns -/
  hostLatency : Nat := 0
  deriving DecidableEq, Repr, Inhabited

/-- R179: the state of a store slot. -/
inductive SlotState where
  | empty | loading | admitted | failed | running
  deriving DecidableEq, Repr, Inhabited

/-- What a store slot is busy with. -/
inductive StoreJob where
  /-- Nothing. -/
  | none
  /-- R179: a load: source, standing slot, address, length. -/
  | load (source standing addr len : Nat)
  /-- R179: a check. -/
  | check
  /-- R186: the target of a commit: base slot, whether its content has changed, and the changes. -/
  | commit (base : Nat) (changed : Bool) (changes : List (List Byte))
  /-- R187: being written to a standing slot. -/
  | standing (slot : Nat)
  deriving DecidableEq, Repr, Inhabited

/-- One of the 4 store slots (R165). -/
structure StoreSlot where
  /-- R179: state -/
  state : SlotState := .empty
  /-- R165: the image, as copied -/
  image : List Byte := []
  /-- R166: the truss read from it; none when empty, loading or unreadable -/
  truss : Option Truss := none
  /-- R189: last ADMISSION or SIGNATURE detail -/
  detail : Nat := 0
  /-- R189: its variant section has been read -/
  variantsRead : Bool := false
  /-- R177: its digest and signature have been found good -/
  signed : Bool := false
  /-- R180: the figures recorded at admission -/
  figures : Figures := {}
  /-- R179: what the slot is busy with -/
  job : StoreJob := .none
  /-- R190: the function whose command the job is -/
  jobFn : Nat := 0
  /-- R178: the version of that command's session -/
  jobVersion : Nat := 0
  /-- R185: a port, link or latency has changed during the admission under way: 0, 1 or 2 times -/
  changes : Nat := 0
  /-- R187: the slot was loaded from standing slot k, plus one; 0 when not -/
  fromStanding : Nat := 0
  deriving DecidableEq, Repr, Inhabited

/-- One of the two standing slots in flash (R187). -/
structure StandingSlot where
  /-- R189: valid -/
  valid : Bool := false
  /-- R187: truss image -/
  image : List Byte := []
  /-- R175: the bytes of its assets, in entry order -/
  assets : List (List Byte) := []
  deriving DecidableEq, Repr, Inhabited

/-- The trusses the chip holds. -/
structure TrussSt where
  /-- R165: store slots 0–3 -/
  slots : Tab StoreSlot := []
  /-- R186: each function's change set, oldest first, as bytes -/
  changes : Tab (List (List Byte)) := []
  /-- R187: standing slots S0 and S1, in flash [DC 4] -/
  standing : Tab StandingSlot := []
  /-- R187: the preferred standing slot, held in MRAM, 0 or 1 [DC 4] -/
  preferred : Nat := 0
  deriving DecidableEq, Repr, Inhabited

end Sys2Proof.Machine
end

