-- ==== Sys2Proof/Machine/StSeq.lean ====
section
/-! DEFINITION. State of the sequencer and its sills (chapter 10), of surfaces, layers and fetch (chapter 11), of the
scalers (chapter 12), of the colour store (chapter 13) and of the lanes. -/

namespace Sys2Proof.Machine

/-- A live layer window's registers (R215, R231, R290). -/
structure Llw where
  /-- R215: LLW_HANDLE; from the truss when the slot starts [DC 4] -/
  handle : Word := 0xFFFF
  /-- R215: LLW_READY -/
  ready : Word := 0
  /-- R215: LLW_DST_XY [DC 4] -/
  dstXy : Word := 0
  /-- R215: LLW_DST_WH [DC 4] -/
  dstWh : Word := 0
  /-- R215: LLW_SRC_XY [DC 4] -/
  srcXy : Word := 0
  /-- R215: LLW_SRC_WH [DC 4] -/
  srcWh : Word := 0
  /-- R215: LLW_PHASE -/
  phase : Word := 0
  /-- R215: LLW_CTRL, visible 1 at reset -/
  ctrl : Word := 1
  /-- R215: LLW_FILL [DC 4] -/
  fill : Word := 0
  /-- R231: LLW_FETCH -/
  fetch : Word := 0
  /-- R231: LLW_SOLID [DC 4] -/
  solid : Word := 0
  /-- R231: LLW_CELL_GEOM -/
  geom : Word := 0
  /-- R231: LLW_CELL_GRID -/
  grid : Word := 0
  /-- R231: LLW_CELL_ATLAS -/
  atlas : Word := 0xFFFF
  /-- R231: LLW_PALk, key k 0–15 -/
  pal : Tab Word := []
  /-- R290: LLW_CSC -/
  csc : Word := 0
  /-- R290: LLW_BLEND -/
  blend : Word := 0xFFFF0000
  /-- R290: LLW_KEY_LO -/
  keyLo : Word := 0
  /-- R290: LLW_KEY_HI -/
  keyHi : Word := 0
  deriving DecidableEq, Repr, Inhabited

/-- A slot's scaler settings (R258, R269). -/
structure SclSet where
  /-- R258: horizontal bank, 0xFF auto -/
  h : Nat := 0xFF
  /-- R258: vertical bank, 0xFF auto -/
  v : Nat := 0xFF
  /-- R269: horizontal siting, 2 the format default -/
  sh : Nat := 2
  /-- R269: vertical siting, 2 the format default -/
  sv : Nat := 2
  deriving DecidableEq, Repr, Inhabited

/-- What a slot shows in the current frame (R204, R207). -/
inductive Shown where
  /-- Its window in force. -/
  | window
  /-- Held: the previous surface in the previous window. -/
  | held
  /-- Omitted by policy, or the slot never had a surface. -/
  | omitted
  /-- LLW_FILL over the previous destination. -/
  | filled
  deriving DecidableEq, Repr, Inhabited

/-- One layer slot, key 0–8,191. -/
structure SlotSt where
  /-- R197: shadow window -/
  shadow : Llw := {}
  /-- R202: window in force -/
  active : Llw := {}
  /-- R204: pending window -/
  pending : Option Llw := none
  /-- R332: the shadow set holds a write that no arm has published -/
  unpublished : Bool := false
  /-- R134, R200: the writes since the shadow set was last refilled, oldest first: function, offset and value -/
  writes : List (Nat × Nat × Word) := []
  /-- R204: the window has shown a surface before -/
  hadSurface : Bool := false
  /-- R204: what the slot shows in the current frame -/
  shown : Shown := .window
  /-- R206: the window shown in place of one in force that is too wide -/
  held : Option Llw := none
  /-- R263: the window in force is too wide for the line buffer in the current frame -/
  wide : Bool := false
  /-- R204: what the cutoff decided for the next frame: hold the new window pending -/
  notReady : Bool := false
  /-- R409: what the cutoff decided an ingest-linked slot shows of its source in the next frame -/
  nextMosaic : MosaicShow := .frame
  /-- R205: the cutoff found the pending window's condition met -/
  takePending : Bool := false
  /-- R207: signal-lost overlay shown -/
  stale : Bool := false
  /-- R212: dropped by the running variant -/
  dropped : Bool := false
  /-- R215: LLW_STATUS.held_frames -/
  heldFrames : Half := 0
  /-- R208: LLW_NR_COUNT -/
  nrCount : Word := 0
  /-- R207: address of the ingest buffer shown, plus one; 0 none -/
  buffer : Nat := 0
  /-- R207: address of the ingest buffer taken at the cutoff for the next frame, plus one; 0 none -/
  nextBuffer : Nat := 0
  /-- R207: plan time at which the ingest frame shown completed, plus one; 0 none -/
  ingAt : Nat := 0
  /-- R207: plan time at which the ingest frame taken at the cutoff completed, plus one; 0 none -/
  nextIngAt : Nat := 0
  /-- R258: scaler settings in force -/
  scl : SclSet := {}
  /-- R260: scaler settings accepted and not yet in force -/
  sclNext : Option SclSet := none
  /-- R269: horizontal bank used in the last frame -/
  usedH : Nat := 0
  /-- R269: vertical bank used in the last frame -/
  usedV : Nat := 0
  /-- R269: vertical taps of the last frame -/
  usedT : Nat := 0
  /-- R269: stored width of the last frame -/
  storedW : Nat := 0
  /-- R269: layer-strips with T below 6 -/
  below6 : Word := 0
  /-- R269: layer-strips below the admitted taps -/
  belowAdm : Word := 0
  /-- R269: frames not ready for width -/
  tooWide : Word := 0
  /-- R249: spans patched, total -/
  patched : Word := 0
  /-- R249: spans patched, last frame -/
  patchedLast : Half := 0
  /-- R249: spans patched so far in this frame -/
  patchedNow : Half := 0
  /-- R249: discarded run-ahead data, 64-byte units -/
  discarded : Word := 0
  /-- R249: poisoned spans patched -/
  poisoned : Word := 0
  /-- R249: late reads discarded -/
  late : Word := 0
  /-- R249: frames with reads refused under R235 -/
  budgetFrames : Half := 0
  /-- R235: such a read has occurred in this frame -/
  budgetNow : Bool := false
  /-- R249: frames with glyph indices out of range -/
  glyphFrames : Half := 0
  /-- R230: such a glyph has occurred in this frame -/
  glyphNow : Bool := false
  deriving DecidableEq, Repr, Inhabited

/-- A surface descriptor (R222), key a handle 0–0xFFFE. -/
structure Surface where
  /-- R221: the handle is allocated -/
  allocated : Bool := false
  /-- R222: format code -/
  format : Nat := 0
  /-- R222: width -/
  width : Nat := 0
  /-- R222: height -/
  height : Nat := 0
  /-- R249: flags: 0 host memory, 1 shared, 2 release event, 3 double-buffered -/
  flags : Byte := 0
  /-- R223: owner function -/
  owner : Nat := 0
  /-- R222: base address -/
  addr : Nat := 0
  /-- R222: stride -/
  stride : Nat := 0
  /-- R222: plane-1 offset -/
  plane1 : Nat := 0
  /-- R221: 0 allocated by SURF_ALLOC, 1 a flash asset, 2 an ingest source -/
  made : Nat := 0
  /-- R221: the ingest source it stands for -/
  source : Nat := 0
  /-- R250: the copy of a double-buffered map that is shown -/
  copy : Nat := 0
  /-- R116: the surface has been in use since its last release -/
  inUse : Bool := false
  /-- R175, R408: a flash asset made it in a region with the pattern flag -/
  pattern : Bool := false
  deriving DecidableEq, Repr, Inhabited

/-- A command that takes effect at a sill of its group without an arm (R147). -/
inductive SillOp where
  /-- R80: CLK_SET_TRACK. -/
  | track (pll source group deadband period : Nat)
  /-- R80: CLK_SET_SYNC_OUT. -/
  | syncOut (mode group width : Nat) (offset : Int)
  /-- R111: MEM_SET_SNOOP. -/
  | snoop (fn : Nat) (on : Bool)
  /-- R123: a group grant comes into force as granted. -/
  | grant (fn : Nat)
  /-- R250: cells written into a map of `cols` columns: first cell and entries. -/
  | cells (slot handle cols first : Nat) (entries : List Nat)
  /-- R250: one entry written into `count` cells. -/
  | fill (slot handle cols first count entry : Nat)
  /-- R405, R414: text laid into a map of `cols` columns: cell index and entry. -/
  | lay (slot handle cols : Nat) (cells : List (Nat × Nat))
  /-- R269: SCL_SET_SLOT. -/
  | scale (slot : Nat) (set : SclSet)
  /-- R383: WB_SET_TARGET. -/
  | target (engine queue : Nat) (handles : List Nat)
  /-- R220: SEQ_SET_CUTOFF. -/
  | cutoff (us : Nat)
  /-- R408: SVC_MOSAIC_SET. -/
  | mosaic (slot : Nat) (set : Mosaic)
  /-- R411: the bulletin's message in force, plus one, and its origin's code. -/
  | bulletin (message origin : Nat)
  deriving DecidableEq, Repr, Inhabited

/-- R147: a deferred command: its group, and how many sills of the group must pass first. -/
structure Deferred where
  group : Nat := 0
  wait : Nat := 0
  fn : Nat := 0
  op : SillOp := .cutoff 0
  deriving DecidableEq, Repr, Inhabited

/-- An accepted arm (R199). -/
structure Arm where
  /-- R199: SILL_TARGET, frame number of the target sill -/
  target : Word := 0
  /-- R199: sills of the group that must pass first -/
  wait : Nat := 0
  /-- R199: the target was not the next sill -/
  deferred : Bool := false
  /-- R217: the function whose arm it is -/
  fn : Nat := 0
  deriving DecidableEq, Repr, Inhabited

/-- One timing group, key 0–15. -/
structure GroupSt where
  /-- R216: store slot of the group's truss, plus one; 0 when no running truss holds the group -/
  store : Nat := 0
  /-- R216: SILL_FRAME -/
  n : Word := 0
  /-- R169: hyperperiod index of the last sill -/
  hyper : Nat := 0
  /-- R169: frame j of the last sill -/
  j : Nat := 0
  /-- R203: a sill has been issued under the running truss -/
  begun : Bool := false
  /-- R195: plan time of the last sill, ns -/
  sillAt : Nat := 0
  /-- R195: period P fixed at the last sill, ns -/
  period : Nat := 0
  /-- R216: SILL_NEXT, plan time of the next sill -/
  nextAt : Nat := 0
  /-- R196: hyperperiod index of the next sill -/
  nextHyper : Nat := 0
  /-- R196: frame j of the next sill -/
  nextJ : Nat := 0
  /-- R194: reference of the next sill's hyperperiod on time base 1, plan time -/
  reference : Nat := 0
  /-- R199: the accepted arm -/
  arm : Option Arm := none
  /-- R202: the copy of an applied arm is under way -/
  copying : Bool := false
  /-- R203, R389: 8 grains have not passed since the last sill -/
  copyDue : Bool := false
  /-- R203: the cutoff of the next sill has passed -/
  cutoffPassed : Bool := false
  /-- R331: frame n's ANNOUNCE has been sent -/
  announced : Bool := false
  /-- R216: SILL_ARM_STATUS.result -/
  result : BitVec 3 := 0
  /-- R216: SILL_ARM_STATUS.late_write -/
  lateWrite : Bool := false
  /-- R216: SILL_ARM_STATUS.slot -/
  badSlot : BitVec 13 := 0
  /-- R216: SILL_ARM_STATUS.reason -/
  reason : BitVec 4 := 0
  /-- R220: cutoff set by SEQ_SET_CUTOFF, us, plus one; 0 for the truss value -/
  cutoffSet : Nat := 0
  /-- R216: SILL_VARIANT.variant -/
  variant : Nat := 0
  /-- R212: the variant switches firmware has decided and that no sill has made yet, earliest first: variant, and the sills that must pass first -/
  variantNext : List (Nat × Nat) := []
  /-- R213: the truss switch accepted: store slot (16 to leave the truss), and the plan time of the switch sill -/
  switchTo : Option (Nat × Nat) := none
  /-- R216: SILL_LATE.late_writes -/
  lateWrites : Half := 0
  /-- R200: late writes since the last sill report -/
  lateNow : Half := 0
  /-- R216: SILL_LATE.ignored -/
  ignored : Half := 0
  /-- R216: SILL_NR.last -/
  nrLast : Half := 0
  /-- R216: SILL_NR.total -/
  nrTotal : Half := 0
  /-- R216: SILL_MISS.last -/
  missLast : Half := 0
  /-- R216: SILL_MISS.total -/
  missTotal : Half := 0
  /-- R211: items past their deadline in the current frame -/
  missNow : Half := 0
  /-- R244: spans patched since the last sill report -/
  patched : Word := 0
  /-- R191: items of the current frame already issued or skipped -/
  issued : List Nat := []
  /-- R211: items of the current frame completed, or skipped while PLL8 was gated -/
  finished : List Nat := []
  /-- R211: items of the current frame already past their deadline -/
  missed : List Nat := []
  deriving DecidableEq, Repr, Inhabited

/-- How a 64-byte read stands (R234). -/
inductive ReadState where
  /-- Waits for a tag or for staging. -/
  | waiting
  /-- Issued, its tag held. -/
  | issued
  /-- Landed: its data is in staging. -/
  | landed
  /-- Landed poisoned. -/
  | poisoned
  /-- Not issued, dropped or completed with an error: its span is patched. -/
  | missing
  deriving DecidableEq, Repr, Inhabited

/-- One 64-byte read of a fetch entry. -/
structure FRead where
  /-- R234: address of its line -/
  addr : Nat := 0
  /-- R100: its port: 0–3 CXL, 4 the host link -/
  port : Nat := 0
  /-- R234: how it stands -/
  state : ReadState := .issued
  /-- R237: it waits or waited for staging -/
  forStaging : Bool := false
  /-- R234: plan time from which it waited for a tag, plus one -/
  since : Nat := 0
  /-- R234: its data once landed -/
  data : List Byte := []
  deriving DecidableEq, Repr, Inhabited

/-- A fetch entry that has been issued (R233). -/
structure Issue where
  /-- R191: its group -/
  group : Nat := 0
  /-- R191: its item -/
  item : Nat := 0
  /-- R191: the frame -/
  n : Word := 0
  /-- R233: its entry within the item -/
  entry : Nat := 0
  /-- R233: its slot -/
  slot : Nat := 0
  /-- R239: issued before its frame's sill -/
  ahead : Bool := false
  /-- R240: the values it used -/
  window : Llw := {}
  /-- R240: whether the slot's new window was pending -/
  wasPending : Bool := false
  /-- R213: the store slot of its truss -/
  store : Nat := 0
  /-- R212: its variant -/
  variant : Nat := 0
  /-- R245: the function whose host memory it reads -/
  owner : Nat := 0
  /-- R191: its lane -/
  lane : Nat := 0
  /-- R233: its kind -/
  kind : Nat := 0
  /-- R264: its stripe -/
  stripe : Nat := 0
  /-- R234: its tag budget -/
  tags : Nat := 0
  /-- R241: discarded, so that its data is only waited for -/
  dropped : Bool := false
  /-- R242: its item has started -/
  closed : Bool := false
  /-- R233: its reads -/
  reads : List FRead := []
  deriving DecidableEq, Repr, Inhabited

/-- A strip as a lane composes it: three planes of codes and the composed alpha, line by line. -/
structure Strip where
  /-- R270: first component (R or Y), by line -/
  a : List (List Nat) := []
  /-- R270: second component (G or Cb) -/
  b : List (List Nat) := []
  /-- R270: third component (B or Cr) -/
  c : List (List Nat) := []
  /-- R270: composed alpha of stage 6 -/
  alpha : List (List Nat) := []
  deriving DecidableEq, Repr, Inhabited

/-- An item that a lane runs or holds waiting (R191, R192). -/
structure Run where
  /-- R191: its group -/
  group : Nat := 0
  /-- R191: its index -/
  item : Nat := 0
  /-- R191: its frame -/
  n : Word := 0
  /-- R184: the variant whose item it is -/
  variant : Nat := 0
  /-- R213: the store slot of its truss -/
  store : Nat := 0
  /-- R270: the strip composed, once it has started -/
  strip : Strip := {}
  /-- R277: a span of the row was patched -/
  patched : Bool := false
  /-- R212: a variant switch delays it: it waited on its lane for an item of another group in another variant -/
  contended : Bool := false
  deriving DecidableEq, Repr, Inhabited

/-- One of the 16 lanes. -/
structure LaneSt where
  /-- R192: the item that runs -/
  run : Option Run := none
  /-- R192: items issued while the lane was busy, in issue order -/
  queue : List Run := []
  deriving DecidableEq, Repr, Inhabited

/-- A truss switch under way (R213). -/
structure Switch where
  /-- R213: the store slot switched to -/
  store : Nat := 0
  /-- R214: the store slot switched from, plus one; 0 when none ran -/
  old : Nat := 0
  /-- R214: the function whose command it is; 16 for firmware itself -/
  fn : Nat := 0
  deriving DecidableEq, Repr, Inhabited

/-- Sequencer, surfaces, layers, scalers, colour store and lanes. -/
structure SeqSt where
  /-- R216: the groups, key 0–15 -/
  groups : Tab GroupSt := []
  /-- R215: the slots, key 0–8,191 -/
  slots : Tab SlotSt := []
  /-- R221: the handle table, key 0–0xFFFE -/
  surfaces : Tab Surface := []
  /-- R259: banks loaded by command, key 4–31 -/
  banks : Tab (List Byte) := []
  /-- R260: truss banks marked failed, key 32 × store slot + bank -/
  bankFailed : Tab Bool := []
  /-- R104: tables that stay in force in a truss whose own was poisoned when it was loaded, key 256 × store slot + table -/
  tablesKept : Tab (List Byte) := []
  /-- R289: tables loaded by command, key 0–255 -/
  tables : Tab (List Byte) := []
  /-- R292: tables marked failed, key 256 × store slot + table -/
  tableFailed : Tab Bool := []
  /-- R279: output colour states in force, key 65,536 × store slot + output -/
  colour : Tab OutColour := []
  /-- R279: output colour states in the shadow set -/
  colourShadow : Tab OutColour := []
  /-- R279, R134: the writes of an output's shadow state since it was last refilled, oldest first: function, item mask, items -/
  colourDirty : Tab (List (Nat × Byte × OutColour)) := []
  /-- R294: stages bypassed, bit j for stage 7 + j -/
  bypass : Tab Nat := []
  /-- R147: commands deferred to a sill, in taking order -/
  deferred : List Deferred := []
  /-- R220: the variant that SEQ_FORCE_VARIANT forces -/
  forced : Option Nat := none
  /-- R213: the truss switch under way -/
  switch : Option Switch := none
  /-- R11: the store slot that is running, plus one; 0 when no truss runs -/
  running : Nat := 0
  /-- R233: fetch entries issued and not yet released, in issue order -/
  issues : List Issue := []
  /-- R191: the lanes, key 0–15 -/
  lanes : Tab LaneSt := []
  /-- R267: scalers whose bank table waits to be reloaded at the next sill, so that their slots use auto selection among banks 0–2 -/
  scalerRom : Half := 0
  deriving DecidableEq, Repr, Inhabited

end Sys2Proof.Machine
end

