-- ==== Sys2Proof/Machine/StAdt.lean ====
section
/-! DEFINITION. State of the Aflia Display Transport (chapter 15). -/

namespace Sys2Proof.Machine

/-- R351: transport configuration, held in MRAM. -/
structure AdtCfg where
  /-- R315: UDP port -/
  port : Nat := 56410
  /-- R351: tHB, ms [DC 4] -/
  heartbeat : Nat := 100
  /-- R351: hold limit, s [DC 4] -/
  hold : Nat := 60
  /-- R351: tREP, us [DC 4] -/
  repair : Nat := 2000
  /-- R351: beacons are sent [DC 4] -/
  beacon : Bool := true
  /-- R322: beacon group; 0 for the default 239.193.86.10 and ff05::8610 -/
  group : Nat := 0
  /-- R322: instance, incremented at every start [DC 4] -/
  inst : Word := 0
  deriving DecidableEq, Repr, Inhabited

/-- A BLANK in force on an endpoint (R341). -/
structure Blank where
  /-- R341: reason -/
  reason : Nat := 0
  /-- R341: background, R in [23:16] -/
  colour : Nat := 0
  /-- R341: notice colour -/
  notice : Nat := 0
  /-- R341: the safe-field notice is shown -/
  hasNotice : Bool := false
  deriving DecidableEq, Repr, Inhabited

/-- One peer: endpoint e under key e, source s under key 1,024 + s. -/
structure Peer where
  /-- R348: state, 0–5 -/
  state : Nat := 0
  /-- R351: session identifier, 0 without a session -/
  id : Nat := 0
  /-- R351: version -/
  version : Nat := 0
  /-- R351: last reason -/
  reason : Nat := 0
  /-- R315: peer address -/
  addr : Nat := 0
  /-- R315: peer UDP port -/
  port : Nat := 0
  /-- R315: Ethernet port of the latest valid datagram -/
  eth : Nat := 0
  /-- R323: what its HELLO offered -/
  hello : Hello := {}
  /-- R325: tHB of the session, ms -/
  heartbeat : Nat := 0
  /-- R325: tREP of the session, us -/
  repair : Nat := 0
  /-- R325: hold limit of the session, s -/
  hold : Nat := 0
  /-- R348: its first frame has been presented -/
  presented : Bool := false
  /-- R340: the frame its picture shows -/
  kept : Word := 0
  /-- R346: sequence number of the next datagram sent -/
  txSeq : Word := 0
  /-- R346: highest number accepted -/
  rxHigh : Word := 0
  /-- R346: numbers accepted within the 4,096 below it, by distance -/
  rxSeen : List Nat := []
  /-- R344: instant of the last valid datagram (always-on ns) -/
  lastValid : Nat := 0
  /-- R344: instant of the next heartbeat (always-on ns) -/
  nextBeat : Nat := 0
  /-- R336: flags of the last heartbeat -/
  flags : Half := 0
  /-- R351: last frame presented or sent -/
  lastFrame : Word := 0
  /-- R351: clock offset, ns -/
  offset : Int := 0
  /-- R351: slices sent -/
  sent : Word := 0
  /-- R351: repairs -/
  repairs : Word := 0
  /-- R351: held-summary mismatches -/
  mismatches : Half := 0
  /-- R337: held digests by slice; an unlisted slice holds 0, unknown -/
  held : Tab Nat := []
  /-- R332: held digests have been reset since the last ANNOUNCE -/
  fresh : Bool := true
  /-- R337: digests of the slices sent in the current frame, by slice -/
  sentNow : Tab Nat := []
  /-- R337: slices named in a REPAIR whose retransmission has not completed -/
  unrepaired : List Nat := []
  /-- R333: slices marked dirty and not announced -/
  dirty : List Nat := []
  /-- R331: frame of the last ANNOUNCE -/
  annFrame : Word := 0
  /-- R331: presentation time announced, plan ns -/
  annTime : Nat := 0
  /-- R331: the announcement carried time valid -/
  annValid : Bool := false
  /-- R332: the announced set -/
  ann : List Nat := []
  /-- R337: summaries of the last 32 frames: frame and summary, newest first -/
  summaries : List (Nat × Nat) := []
  /-- R334: slice rows whose mortise has opened in the current frame, by port: row and port -/
  opened : List (Nat × Nat) := []
  /-- R339: slices repaired in the current frame -/
  repairedNow : Nat := 0
  /-- R340: told to hold: reason plus one, 0 when not -/
  holding : Nat := 0
  /-- R340: instant at which the hold ends (always-on ns), plus one; 0 until told -/
  holdEnd : Nat := 0
  /-- R341: BLANK in force -/
  blank : Option Blank := none
  /-- R341: instant of the next BLANK (always-on ns) -/
  blankDue : Nat := 0
  /-- R351: end of the hold-off (always-on ns), plus one; 0 when none -/
  holdOff : Nat := 0
  /-- R351: the binding that ADT_BIND set: fixed address, peer ID, address -/
  bound : Option (Bool × Nat × Nat) := none
  /-- R347: a source stopped by SOURCE_CTRL: reason plus one, 0 when started -/
  stop : Nat := 0
  deriving DecidableEq, Repr, Inhabited

/-- An encoded slice waiting for its mortise (R329, R333). -/
structure Slice where
  /-- R329: output -/
  out : Nat := 0
  /-- R329: endpoint -/
  endpoint : Nat := 0
  /-- R329: frame -/
  n : Word := 0
  /-- R328: slice index -/
  index : Nat := 0
  /-- R330: digest -/
  digest : Nat := 0
  /-- R328: payload -/
  payload : List Byte := []
  /-- R333: flags of its datagrams -/
  flags : Nat := 0
  /-- R328: its slice row -/
  row : Nat := 0
  /-- R334: plan time at which its encoding completes -/
  readyAt : Nat := 0
  /-- R346: sequence number of its first datagram, once it has been sent -/
  seq : Option Word := none
  /-- R358: ports it has been sent on in a mortise -/
  ports : List Nat := []
  deriving DecidableEq, Repr, Inhabited

/-- The transport. -/
structure AdtSt where
  /-- R348: the peers -/
  peers : Tab Peer := []
  /-- R339: the transmit buffer: slices of the current frames -/
  buffer : List Slice := []
  /-- R317: addresses answered with REJECT 3 within the last second: instant plus one -/
  rejected : Tab Nat := []
  /-- R322: instant of the next beacon (always-on ns) -/
  beaconDue : Nat := 0
  /-- R322: instant at which the ports came up (always-on ns), plus one; 0 before -/
  portsUp : Nat := 0
  /-- R351: counter events 224–235 as of the last sill -/
  stats : List Nat := []
  deriving DecidableEq, Repr, Inhabited

end Sys2Proof.Machine
end

