-- ==== Sys2Proof/Machine/StBoot.lean ====
section
/-! DEFINITION. State of power, pins, reset and start (chapters 02 and 03). -/

namespace Sys2Proof.Machine

/-- What the device is doing with respect to reset. -/
inductive Phase where
  /-- R33, R35: the internal power-on reset is asserted. -/
  | powerOnReset
  /-- R40: RESET_N is held low. -/
  | pinReset
  /-- R47: the start waits for REFCLK (stage 14). -/
  | waitRef
  /-- R44, R48: firmware runs. -/
  | running
  /-- R55: limp mode. -/
  | limp
  /-- R490: host recovery. -/
  | recovery
  deriving DecidableEq, Repr, Inhabited

/-- A firmware image in flash (R51, R489): A, B or golden. -/
structure FwImage where
  /-- R497: the directory names an image in this region, as it does in a part as delivered [DC 4] -/
  present : Bool := true
  /-- R53: it passed its last verification [DC 4] -/
  valid : Bool := false
  /-- R126: firmware version, major, minor, patch -/
  version : BitVec 24 := 0
  /-- R488: security version -/
  security : Word := 0
  /-- R48, R486: digest of the image -/
  digest : Nat := 0
  deriving DecidableEq, Repr, Inhabited

/-- The board record's configuration items (R159), as stored or as in force. -/
structure BoardCfg where
  /-- R159: item 0, REFCLK frequency code [DC 4] -/
  refFreq : Byte := 0
  /-- R159: item 1, PMBus rate code (400 kHz) -/
  pmbusRate : Byte := 0
  /-- R36: item 2, core regulator address -/
  regAddr : Byte := 0x34
  /-- R159: item 3, lock-filter bands; bits 8 and 9 set [DC 4] -/
  bands : Half := 0x300
  /-- R159: item 4, subsystem IDs [DC 4] -/
  subsystem : Word := 0
  deriving DecidableEq, Repr, Inhabited

/-- Start records and settings held in MRAM. -/
structure BootMram where
  /-- R51: selected image, false A, true B [DC 4] -/
  selB : Bool := false
  /-- R51: sel_fail [DC 4] -/
  selFail : BitVec 2 := 0
  /-- R51: gold_fail [DC 4] -/
  goldFail : BitVec 2 := 0
  /-- R48: PLL calibration record valid [DC 4] -/
  calValid : Bool := false
  /-- R48: junction temperature stored with the calibration, degrees C [DC 4] -/
  calTj : Int := 0
  /-- R48: warm token: digests of images A, B and golden as verified, and the measurement; none without a token [DC 4] -/
  warmToken : Option (List Nat) := none
  /-- R49: resume record: identifier and image digest of the armed truss [DC 4] -/
  resume : Option (Nat × Nat) := none
  /-- R48: log sequence number at the last BIST, from which on an SRAM fault in the log is one since it [DC 4] -/
  bistSeq : Word := 0
  /-- R55: the head timing of the limp record; none when there is no valid record [DC 4] -/
  limp : Option HeadTiming := none
  /-- R159: the board record as stored -/
  board : BoardCfg := {}
  /-- R80: PLL settle count -/
  settle : Nat := 4096
  /-- R98, R119: spread size S for the next cold start, as stored [DC 4] -/
  spread : Nat := 0
  deriving DecidableEq, Repr, Inhabited

/-- Cold-start steps recorded complete since power-on, in the always-on domain (R48). -/
structure StepsDone where
  /-- R48: PLL VCO calibration -/
  pllCal : Bool := false
  /-- R48: SRAM BIST -/
  bist : Bool := false
  /-- R48: MRAM integrity scan -/
  mramScan : Bool := false
  /-- R48: signature verification -/
  verify : Bool := false
  /-- R48: CXL link training, with the spread size and the board record taken -/
  cxl : Bool := false
  /-- R48: foreground memory initialisation -/
  foreInit : Bool := false
  deriving DecidableEq, Repr, Inhabited

/-- Power, reset and start. -/
structure BootSt where
  /-- R33: what the device is doing with respect to reset -/
  phase : Phase := .powerOnReset
  /-- R58: ID_BOOT_STATUS.stage -/
  stage : BitVec 4 := 0
  /-- R58: ID_BOOT_STATUS.image -/
  image : BitVec 2 := 0
  /-- R58: ID_BOOT_STATUS.warm -/
  warm : Bool := false
  /-- R58: ID_BOOT_STATUS.bist_run -/
  bistRun : Bool := false
  /-- R58: ID_BOOT_STATUS.token_hit -/
  tokenHit : Bool := false
  /-- R58: ID_BOOT_STATUS.pll_cal_reused -/
  calReused : Bool := false
  /-- R58: ID_BOOT_STATUS.truss_resumed -/
  trussResumed : Bool := false
  /-- R58: ID_BOOT_STATUS.mem_init_done -/
  memInitDone : Bool := false
  /-- R58: ID_BOOT_STATUS.reset_ignored -/
  resetIgnored : Bool := false
  /-- R58: ID_RESET_CAUSE[3:0] [DC 8] -/
  cause : BitVec 4 := 0
  /-- R30: ID_STRAP.boot_mode as sampled [DC 8] -/
  strap : BitVec 2 := 0
  /-- R30: ID_STRAP.strap_bad -/
  strapBad : Bool := false
  /-- R30: ID_STRAP.sampled_now -/
  sampledNow : Bool := true
  /-- R30: ID_STRAP.grade, fused [DC 4] -/
  gradeT : Bool := false
  /-- R126: firmware version running; 0 when none runs -/
  fwVersion : BitVec 24 := 0
  /-- R158: SHA3-384 measurement of the running image, held as its digest -/
  measurement : Nat := 0
  /-- R52: the start has been declared successful -/
  declared : Bool := false
  /-- R52: a fault of class 3 or 4 has been recorded since time 0 of the start -/
  severeSince : Bool := false
  /-- R52: groups of the armed truss whose first sill has not passed since the start -/
  firstSills : Half := 0
  /-- R54: boot watchdog expiry (always-on ns), plus one; 0 when stopped -/
  watchdogDue : Nat := 0
  /-- R54: the one extension of this start has been made -/
  watchdogExtended : Bool := false
  /-- R54: time 0 of this start (always-on ns) [DC 4] -/
  startAt : Nat := 0
  /-- R48: cold-start steps recorded complete -/
  steps : StepsDone := {}
  /-- R159: the board record in force, loaded at cold start -/
  board : BoardCfg := {}
  /-- R40: the power-on reset was released with RESET_N low, so the start that RESET_N's rise begins is cold -/
  coldPending : Bool := false
  /-- R46: instant up to which the background initialisation has been accounted (always-on ns) -/
  initAt : Nat := 0
  /-- R40: a flash erase or program operation is in progress -/
  flashBusy : Bool := false
  /-- R51: image A in flash -/
  imgA : FwImage := {}
  /-- R51: image B in flash -/
  imgB : FwImage := {}
  /-- R51: golden image in flash -/
  imgGold : FwImage := {}
  /-- R158: junction temperature as last reported, degrees C [DC 4] -/
  tj : Int := 25
  deriving DecidableEq, Repr, Inhabited

/-- Output pins and the levels last seen on input pins (R18). -/
structure PinSt where
  /-- R18: ERR_N driven low before the ROM self-test passes -/
  errnHeld : Bool := true
  /-- R18, R451: ERR_N is driven low -/
  errnLow : Bool := true
  /-- R18: SYNC_OUT level -/
  syncOut : Bool := false
  /-- R18: FL_RESET_N level -/
  flResetN : Bool := false
  /-- R18: CXLm_PERST_N level, one bit per port -/
  cxlPerstN : BitVec 4 := 0
  /-- R18: CXLm_REFCLK running, one bit per port -/
  cxlRefclk : BitVec 4 := 0
  /-- R18: RESET_N level [DC 6] -/
  resetN : Bool := true
  /-- R413: EMERG_N as qualified: low for 1 ms [DC 6] -/
  emergLow : Bool := false
  /-- R493: TMPR_N as qualified: low for 1 ms [DC 6] -/
  tmprLow : Bool := false
  deriving DecidableEq, Repr, Inhabited

end Sys2Proof.Machine
end

