-- ==== Sys2Proof/Machine/StClock.lean ====
section
/-! DEFINITION. State of clock synthesis and of time (chapter 04). -/

namespace Sys2Proof.Machine

/-- One of the ten PLLs (R61), key k. -/
structure Pll where
  /-- R78: CLK_PLLk_CFG.m -/
  m : Nat := 0
  /-- R78: programmed n -/
  nProg : Nat := 0
  /-- R78: current n minus programmed n -/
  nOffset : Int := 0
  /-- R78: CLK_PLLk_CFG.p -/
  p : Nat := 0
  /-- R78: CLK_PLLk_CFG.band -/
  bandB : Bool := false
  /-- R78: CLK_PLLk_STATUS.locked -/
  locked : Bool := false
  /-- R78: CLK_PLLk_STATUS.gated -/
  gated : Bool := false
  /-- R78: CLK_PLLk_STATUS.failed -/
  failed : Bool := false
  /-- R78: CLK_PLLk_STATUS.track_src -/
  trackSrc : BitVec 2 := 0
  /-- R78: CLK_PLLk_STATUS.track_group -/
  trackGroup : BitVec 4 := 0
  /-- R78: CLK_PLLk_STATUS.heads -/
  heads : Byte := 0
  /-- R70: deadband, ns -/
  deadband : Nat := 64
  /-- R80: SYNC period, ns; 0 before CLK_SET_TRACK gives one [DC 4] -/
  syncPeriod : Nat := 0
  /-- R70: target of n offset, d -/
  target : Int := 0
  /-- R70: plan time of the last step of n, plus one; 0 before one -/
  stepAt : Nat := 0
  /-- R78: CLK_PLLk_TRACK_ERR.e -/
  trackErr : Int := 0
  /-- R78: CLK_PLLk_EVENTS.losses -/
  losses : Half := 0
  /-- R78: CLK_PLLk_EVENTS.relocks -/
  relocks : Half := 0
  /-- R68: the settle count is running -/
  settling : Bool := false
  /-- R68: the settle count has expired and the gate waits for the SYNC-aligned phase -/
  opening : Bool := false
  /-- R68: a lock attempt is in progress -/
  acquiring : Bool := false
  /-- R68: failed attempts since the loss -/
  attempts : Nat := 0
  /-- R68: a new VCO calibration has been started for this attempt -/
  recal : Bool := false
  /-- R68: start of the attempt in progress (always-on ns) -/
  attemptAt : Nat := 0
  /-- R80: the settle count of the relock in progress, PFD cycles -/
  settle : Nat := 4096
  /-- R68: start of the settle count (always-on ns) -/
  lockedAt : Nat := 0
  deriving DecidableEq, Repr, Inhabited

/-- SYNC_OUT's configuration (R73). -/
structure SyncOutCfg where
  /-- R80: mode, 0 off, 1 group sill, 2 second -/
  mode : BitVec 2 := 0
  /-- R80: group -/
  group : Nat := 0
  /-- R80: width in grains [DC 4] -/
  width : Nat := 1
  /-- R80: offset in grains -/
  offset : Int := 0
  deriving DecidableEq, Repr, Inhabited

/-- Clock synthesis and time. -/
structure ClkSt where
  /-- R440: always-on oscillator count since power-on, in ns -/
  aon : Nat := 0
  /-- R74: plan time, ns -/
  plan : Nat := 0
  /-- R74: plan time below 1 ns, in 2^-40 ns -/
  planFrac : Nat := 0
  /-- R74: rate adjustment a in 2^-40, signed -/
  rate : Int := 0
  /-- R74: CLK_NT_OFFSET, ns -/
  ntOffset : Int := 0
  /-- R75: CLK_TIME_STATUS.mode: 0 local, 1 locked, 2 holdover, 3 grandmaster -/
  mode : BitVec 2 := 0
  /-- R75: the time base has been locked before -/
  everLocked : Bool := false
  /-- R75: consecutive sync intervals with the offset within 100 ns -/
  goodSyncs : Nat := 0
  /-- R76: groups that are not yet on their new grid -/
  realigning : Half := 0
  /-- R78: CLK_TIME_STATUS.valid -/
  valid : Bool := false
  /-- R78: CLK_REF_STATUS.refclk_ok -/
  refOk : Bool := false
  /-- R78: CLK_REF_STATUS.loss_count -/
  lossCount : Half := 0
  /-- R61: the PLLs, key 0–9 -/
  plls : Tab Pll := []
  /-- R71: CLK_SYNC_STATUS.present -/
  syncPresent : Bool := false
  /-- R71: CLK_SYNC_STATUS.rejected -/
  syncRejected : Half := 0
  /-- R71: plan time of the last rising SYNC_IN edge, plus one; 0 before the first -/
  syncLast : Nat := 0
  /-- R71: plan time of the last accepted SYNC_IN edge, plus one; 0 before the first -/
  syncAccepted : Nat := 0
  /-- R73: SYNC_OUT configuration in force -/
  syncOut : SyncOutCfg := {}
  /-- R73: SYNC_OUT configuration that takes effect at the next whole second, or once the pulse ends -/
  syncOutNext : Option SyncOutCfg := none
  /-- R73: plan time at which the pulse in progress ends, plus one; 0 when none -/
  syncOutFall : Nat := 0
  /-- R79: CLK_TIME_HI latched by a function's low read (value plus one), key function -/
  timeHiLatch : Tab Nat := []
  /-- R79: CLK_NT_OFFSET_HI latched by a function's low read (value plus one), key function -/
  offsetHiLatch : Tab Nat := []
  /-- R216: SILL_NEXT_HI latched by a function's low read (value plus one), key 16f + g -/
  sillNextLatch : Tab Nat := []
  deriving DecidableEq, Repr, Inhabited

end Sys2Proof.Machine
end

