-- ==== Sys2Proof/Machine/StDma.lean ====
section
/-! DEFINITION. State of camera ingest, writeback and the DMA engine (chapter 17). -/

namespace Sys2Proof.Machine

/-- R379: a buffer of a frame ring. -/
structure IngBuf where
  /-- R379: plan time at which it last completed -/
  doneAt : Nat := 0
  /-- R380: the frame it holds -/
  frame : Nat := 0
  /-- R380: it holds a complete frame -/
  complete : Bool := false
  deriving DecidableEq, Repr, Inhabited

/-- A frame of a source that is being received (R378). -/
structure IngFrame where
  /-- R378: frame number -/
  frame : Nat := 0
  /-- R379: buffer it is written to -/
  buffer : Nat := 0
  /-- R378: instant of its first slice (always-on ns) -/
  since : Nat := 0
  /-- R378: slices decoded and written: index and digest plus one -/
  slices : Tab Nat := []
  /-- R378: fragments held of slices not yet whole, key 64 × slice + fragment -/
  frags : Tab (List Byte) := []
  /-- R347: FRAME_DONE has arrived: slice count, capture time, frame digest -/
  finished : Option (Nat × Nat × Nat) := none
  deriving DecidableEq, Repr, Inhabited

/-- One source's frame ring, key 0–255. -/
structure IngSt where
  /-- R375: bound in the running truss -/
  bound : Bool := false
  /-- R401: the ingest handle -/
  handle : Nat := 0xFFFF
  /-- R375: D in force -/
  depth : Nat := 4
  /-- R401: D set by ING_CFG, for the next truss switch -/
  depthNext : Nat := 4
  /-- R401: completion queue plus one, 0 none -/
  queue : Nat := 0
  /-- R376: address of buffer 0 of the ring in force -/
  addr : Nat := 0
  /-- R375: bytes of a buffer -/
  bufBytes : Nat := 0
  /-- R377: decoder in force; 4 when none is assigned -/
  decoder : Nat := 4
  /-- R379: buffers, key 0–7 -/
  bufs : Tab IngBuf := []
  /-- R380: latest complete buffer, plus one; 0 none -/
  latest : Nat := 0
  /-- R401: latest complete frame -/
  frame : Nat := 0
  /-- R401: its capture time -/
  capture : Nat := 0
  /-- R378: the frames being received, oldest first -/
  now : List IngFrame := []
  /-- R347: instant of that first slice (always-on ns), plus one -/
  prevAt : Nat := 0
  /-- R347: the highest frame number whose first slice has arrived, plus one; 0 none -/
  started : Nat := 0
  /-- R347: the frame discarded because it came too soon, plus one; 0 none -/
  tooSoon : Nat := 0
  /-- R401: frames complete -/
  complete : Word := 0
  /-- R401: frames abandoned -/
  abandoned : Word := 0
  /-- R401: frames dropped -/
  dropped : Word := 0
  deriving DecidableEq, Repr, Inhabited

/-- One writeback engine, key 0–3. -/
structure WbSt where
  /-- R383: targets, handles in rotation; none before the first WB_SET_TARGET after a truss switch -/
  targets : List Nat := []
  /-- R401: completion queue plus one, 0 none -/
  queue : Nat := 0
  /-- R383: next target in rotation -/
  next : Nat := 0
  /-- R383: target of the frame being written, plus one; 0 when it is not written -/
  target : Nat := 0
  /-- R393: frame n of the output's group being written -/
  frameN : Word := 0
  /-- R310, R381: a frame is in progress -/
  busy : Bool := false
  /-- R310, R381: its last pixel has been delivered, and its end is still to be reported -/
  ended : Bool := false
  /-- R384: a strip of the frame is missing or a write was dropped -/
  bad : Bool := false
  /-- R383: a skip has pended the source in this sill period -/
  toldSkip : Bool := false
  /-- R383: an unwritten frame has pended the source in this sill period -/
  toldNone : Bool := false
  /-- R384: DMA_WBe_COUNT -/
  count : BitVec 24 := 0
  /-- R401: complete frames -/
  complete : Word := 0
  /-- R401: incomplete frames -/
  incomplete : Word := 0
  /-- R401: targets skipped -/
  skipped : Word := 0
  /-- R401: frames not written -/
  notWritten : Word := 0
  /-- R401: last frame n -/
  lastN : Word := 0
  deriving DecidableEq, Repr, Inhabited

/-- A DMA descriptor (R387). -/
structure Desc where
  op : Nat := 0
  srcHost : Bool := false
  dstHost : Bool := false
  post : Bool := false
  irq : Bool := false
  wait : Bool := false
  tag : Word := 0
  src : Nat := 0
  dst : Nat := 0
  bytes : Nat := 0
  lines : Nat := 1
  srcStride : Nat := 0
  dstStride : Nat := 0
  pattern : List Byte := []
  line : Nat := 0xFF
  queue : Nat := 0
  burst : Nat := 0
  deriving DecidableEq, Repr, Inhabited

/-- A completion to be recorded (R393), its count fixed when it was posted. -/
structure CplRec where
  /-- R393: kind -/
  kind : Nat := 0
  /-- R393: status -/
  status : Nat := 0
  /-- R393: channel, source or engine -/
  unit : Nat := 0
  /-- R393: descriptor tag or frame number -/
  tag : Nat := 0
  /-- R393: plan time of posting -/
  time : Nat := 0
  /-- R393: queue count after this completion -/
  count : Nat := 0
  /-- R393: bytes written, or buffer or target index -/
  info : Nat := 0
  /-- R393: capture time or frame n -/
  extra : Nat := 0
  deriving DecidableEq, Repr, Inhabited

/-- One DMA channel, key 0–31. -/
structure DmaCh where
  /-- R397: DMA_CHc_BASE -/
  base : Long := 0
  /-- R397: DMA_CHc_CFG.enable -/
  enable : Bool := false
  /-- R397: DMA_CHc_CFG.log2_size -/
  log2Size : BitVec 4 := 4
  /-- R397: DMA_CHc_CFG.host -/
  host : Bool := false
  /-- R397: DMA_CHc_CFG.priority -/
  prio : BitVec 2 := 0
  /-- R397: DMA_CHc_PROD -/
  prod : BitVec 17 := 0
  /-- R397: DMA_CHc_CONS -/
  cons : BitVec 17 := 0
  /-- R397: DMA_CHc_STATUS.error -/
  error : Bool := false
  /-- R397: DMA_CHc_STATUS.safe -/
  safe : Bool := false
  /-- R397: DMA_CHc_STATUS.refused -/
  refused : Bool := false
  /-- R397: DMA_CHc_STATUS.overrun -/
  overrun : Bool := false
  /-- R397: DMA_CHc_STATUS.last_status -/
  lastStatus : Byte := 0
  /-- R397: DMA_CHc_STATUS.completed -/
  completed : Half := 0
  /-- R397: DMA_CHc_PENDING.pending -/
  requests : Byte := 0
  /-- R386: owner, the function that last set enable -/
  owner : Nat := 0
  /-- R386: the descriptor that executes -/
  current : Option Desc := none
  /-- R390: bytes of it already moved -/
  moved : Nat := 0
  /-- R394: a record that waits for space: its queue and the record -/
  held : Option (Nat × CplRec) := none
  /-- R401: bytes moved since start -/
  total : Nat := 0
  deriving DecidableEq, Repr, Inhabited

/-- One completion queue, key 0–7. -/
structure DmaCq where
  /-- R397: DMA_CQq_BASE -/
  base : Long := 0
  /-- R397: DMA_CQq_CFG.enable -/
  enable : Bool := false
  /-- R397: DMA_CQq_CFG.log2_size -/
  log2Size : BitVec 5 := 6
  /-- R397: DMA_CQq_CFG.host -/
  host : Bool := false
  /-- R397: DMA_CQq_PROD -/
  prod : BitVec 17 := 0
  /-- R397: DMA_CQq_CONS -/
  cons : BitVec 17 := 0
  /-- R397: DMA_CQq_COUNT -/
  count : BitVec 24 := 0
  /-- R397: DMA_CQq_STATUS.overflow -/
  overflow : Bool := false
  /-- R397: DMA_CQq_STATUS.dropped -/
  dropped : Half := 0
  /-- R393: records dropped before the next one -/
  owesDrop : Bool := false
  /-- R392: owner function -/
  owner : Nat := 0
  deriving DecidableEq, Repr, Inhabited

/-- Ingest, writeback and DMA. -/
structure DmaSt where
  /-- R375: sources, key 0–255 -/
  ing : Tab IngSt := []
  /-- R381: writeback engines, key 0–3 -/
  wb : Tab WbSt := []
  /-- R386: channels, key 0–31 -/
  ch : Tab DmaCh := []
  /-- R392: completion queues, key 0–7 -/
  cq : Tab DmaCq := []
  /-- R389: source mapped to lines 40–55, plus one; key line -/
  reqMap : Tab Nat := []
  /-- R388: the channel last served at each priority, plus one; key priority -/
  lastServed : Tab Nat := []
  /-- R391: DMA_DREQ.level as sampled [DC 6] -/
  dreq : BitVec 4 := 0
  /-- R391: DMA_DREQ.short -/
  dreqShort : Half := 0
  deriving DecidableEq, Repr, Inhabited

end Sys2Proof.Machine
end

