-- ==== Sys2Proof/Machine/StFault.lean ====
section
/-! DEFINITION. State of the fault collector, its MRAM log and the reconciliation of views (chapter 20). -/

namespace Sys2Proof.Machine

/-- A fault record (R441). -/
structure FltRec where
  /-- R441: source -/
  source : Nat := 0
  /-- R441: class recorded -/
  cls : Nat := 0
  /-- R441: class before min_class and escalation -/
  rawCls : Nat := 0
  /-- R441: flags: 0 first, 1 next, 2 transient, 3 escalated, 4 broken wire, 5 forced, 6 safe state, 7 self-fault -/
  flags : Half := 0
  /-- R441: detail -/
  detail : Word := 0
  /-- R441: plan time of the occurrence -/
  time : Long := 0
  /-- R441: log sequence number -/
  logSeq : Word := 0
  /-- R441: occurrences of the source after this one -/
  occ : Word := 0
  /-- R441: start number -/
  start : Half := 0
  /-- R441: recoveries in the last 24 h -/
  recoveries : Byte := 0
  /-- R441: ring index -/
  ring : Byte := 0
  deriving DecidableEq, Repr, Inhabited

/-- One of the 192 sources (R435). -/
structure FltSrc where
  /-- R435: the rails read asserted -/
  asserted : Bool := false
  /-- R435: the rails read broken -/
  broken : Bool := false
  /-- R443: cause bit -/
  cause : Bool := false
  /-- R443: transient bit -/
  trans : Bool := false
  /-- R460: FLT_SRCs.last_class -/
  lastClass : BitVec 3 := 0
  /-- R463: last detail -/
  lastDetail : Word := 0
  /-- R463: plan time of the last occurrence -/
  lastTime : Long := 0
  /-- R440: count in the window -/
  count : Byte := 0
  /-- R440: instant at which the window began (48-bit always-on count, in ns) [DC 4] -/
  windowStart : Nat := 0
  /-- R460: FLT_OCCs -/
  occ : Word := 0
  /-- R449: recovery instants of the source (always-on ns), newest first -/
  recoveredAt : List Nat := []
  /-- R448: end of the quiet period running, plus one; 0 when none runs -/
  quietEnd : Nat := 0
  /-- R448: highest class recorded since the unit was fenced -/
  quietClass : Nat := 0
  /-- R448: K as it stood when the quiet period running began -/
  quietK : Nat := 0
  /-- R459: rails held by FLT_FORCE -/
  forced : Bool := false
  /-- R435, R459: what the unit itself drives, which a force hides: none while quiet, else its detail and whether its wire is broken -/
  own : Option (Word × Bool) := none
  deriving DecidableEq, Repr, Inhabited

/-- A source's settings, held in MRAM (R463). -/
structure FltCfg where
  /-- R438: min_class -/
  minClass : Nat := 0
  /-- R440: escalation threshold N -/
  n : Byte := 16
  /-- R440: window W in seconds -/
  w : Nat := 10
  /-- R440: ceiling -/
  ceiling : Nat := 3
  deriving DecidableEq, Repr, Inhabited

/-- An open disagreement (R455). -/
structure Disagree where
  /-- R456: kind 0–9 -/
  kind : Nat := 0
  /-- R456: index -/
  index : Nat := 0
  /-- R456: hardware view 0 in service, 1 fenced or not live, 2 locked -/
  hw : Nat := 0
  /-- R456: firmware view -/
  fw : Nat := 0
  /-- R455: affected groups -/
  groups : Half := 0
  /-- R455: instant at which it opened (always-on ns) -/
  openedAt : Nat := 0
  /-- R455: plan time at which it opened -/
  openedPlan : Nat := 0
  /-- R456: its event of code 0 has been written -/
  reported : Bool := false
  /-- R455: source 185 has been recorded for it -/
  late : Bool := false
  deriving DecidableEq, Repr, Inhabited

/-- The fault collector. -/
structure FltSt where
  /-- R453: the safe state, in the always-on domain -/
  safe : Bool := false
  /-- R440: sources 0–191 -/
  src : Tab FltSrc := []
  /-- R460: FLT_FENCE0–3 -/
  fence : Tab Word := []
  /-- R447: fenced covered units in order of fencing, oldest first: source numbers of lanes, scalers, DSC engines, CXL ports and Ethernet ports -/
  order : List Nat := []
  /-- R442: first-fault record -/
  first : Option FltRec := none
  /-- R442: next-fault record -/
  next : Option FltRec := none
  /-- R444: ring entries not yet mirrored, oldest first -/
  ring : List FltRec := []
  /-- R460: FLT_RING.write -/
  write : BitVec 6 := 0
  /-- R460: FLT_RING.mirror -/
  mirror : BitVec 6 := 0
  /-- R104: a line of the fault-log region was poisoned and the region has not been rewritten since -/
  regionBad : Bool := false
  /-- R460: FLT_OVERFLOW -/
  overflow : Word := 0
  /-- R451: FLT_ERRN_CFG.sw_level -/
  swLevel : Bool := false
  /-- R451: end of the ERR_N pulse in progress (always-on ns), plus one; 0 when none -/
  pulseEnd : Nat := 0
  /-- R452: ERR_N pin level as sampled [DC 6] -/
  errnPin : Bool := false
  /-- R452: cycles for which the pin has read high while driven low -/
  errnHigh : Nat := 0
  /-- R463: instant of the safe-state entry FLT_ENTER_SAFE scheduled (always-on ns), plus one; 0 when none -/
  enterSafeDue : Nat := 0
  /-- R455: the firmware view, key 65536 kind + index: 0 in service, 1 fenced or not live, 2 locked -/
  fwView : Tab Nat := []
  /-- R455: open disagreements -/
  disagreements : List Disagree := []
  /-- R157: state-disagreement events since start -/
  disagreeEvents : Word := 0
  /-- R459: FLT_FORCE_DETAIL -/
  forceDetail : Word := 0
  /-- R459: test-unlocked (debug level, R492) -/
  testUnlocked : Bool := false
  /-- R458: instant of the last control-core watchdog occurrence (always-on ns), plus one; 0 when none -/
  lastWatchdog : Nat := 0
  deriving DecidableEq, Repr, Inhabited

/-- Fault state held in MRAM. -/
structure FltMram where
  /-- R463: settings of sources 0–191 -/
  cfg : Tab FltCfg := []
  /-- R449: K -/
  k : Nat := 3
  /-- R448: Q for class 2, s -/
  q2 : Nat := 10
  /-- R448: Q for class 3, s -/
  q3 : Nat := 60
  /-- R449: FLT_LOCK0–3 [DC 4] -/
  lock : Tab Word := []
  /-- R451: pulse_class -/
  pulseClass : BitVec 3 := 2
  /-- R451: level_class -/
  levelClass : BitVec 3 := 3
  /-- R451: pulse_us -/
  pulseUs : Half := 1000
  /-- R445: log entries, newest first: the first 4,096 are the MRAM log's, the first 32,768 the fault-log region's [DC 4] -/
  log : List FltRec := []
  /-- R445: next log sequence number [DC 4] -/
  logSeq : Word := 0
  /-- R441: start number [DC 4] -/
  startNumber : Half := 0
  /-- R454: the safe field record's bytes, as written; empty when missing [DC 4] -/
  safeField : List Byte := []
  deriving DecidableEq, Repr, Inhabited

end Sys2Proof.Machine
end

