-- ==== Sys2Proof/Machine/StHead.lean ====
section
/-! DEFINITION. State of the eight local display heads (chapter 14). -/

namespace Sys2Proof.Machine

/-- R312: the state of a head's link, as its records code it. -/
inductive HeadState where
  | unplugged | plugged | training | streaming | failed | idle | off | notInTruss
  deriving DecidableEq, Repr, Inhabited

/-- R312: the code of a head's state. -/
def HeadState.code : HeadState → Nat
  | .unplugged => 0 | .plugged => 1 | .training => 2 | .streaming => 3 | .failed => 4 | .idle => 5 | .off => 6 | .notInTruss => 7

/-- One of the four strip buffers of a head (R300). -/
structure StripBuf where
  /-- R300: a strip has been committed and not released -/
  committed : Bool := false
  /-- R300: its strip number -/
  strip : Nat := 0
  /-- R300: its frame -/
  n : Word := 0
  /-- R300: its lines -/
  lines : Strip := {}
  deriving DecidableEq, Repr, Inhabited

/-- A host's AUX transaction in progress (R309). -/
structure AuxTrans where
  /-- R309: the command it answers -/
  c : KcpCtx
  /-- R314: op, 0 native read, 1 native write, 2 I2C read, 3 I2C write -/
  op : Nat := 0
  /-- R314: length -/
  len : Nat := 0
  /-- R314: DPCD address, or I2C address -/
  addr : Nat := 0
  /-- R314: data to write -/
  data : List Byte := []
  /-- R295: retries made -/
  tries : Nat := 0
  deriving DecidableEq, Repr, Inhabited

/-- One head, key 0–7. -/
structure HeadSt where
  /-- R312: state of the link -/
  state : HeadState := .unplugged
  /-- R305: HPD high, as qualified [DC 6] -/
  hpd : Bool := false
  /-- R306: what the sink reports -/
  sink : SinkCaps := {}
  /-- R312: trained width, 0 when not trained -/
  lanes : Nat := 0
  /-- R312: trained rate, 0 when not trained -/
  rate : Nat := 0
  /-- R306: width being tried -/
  tryLanes : Nat := 0
  /-- R306: rate being tried -/
  tryRate : Nat := 0
  /-- R297: timing in force; none when the running truss does not name the head -/
  timing : Option HeadTiming := none
  /-- R304: timing in the group's shadow set, when HEAD_SET_TIMING has written one -/
  shadow : Option HeadTiming := none
  /-- R134: the function whose write that is, one bit -/
  shadowBy : Half := 0
  /-- R304: the head waits for the relock and training a timing change began -/
  relocking : Bool := false
  /-- R314: power, 0 on, 1 idle, 2 off -/
  power : Nat := 0
  /-- R314: power that takes effect at the next frame start -/
  powerNext : Option Nat := none
  /-- R296: the head scans -/
  scanning : Bool := false
  /-- R314: plan time of the last frame start -/
  frameStart : Nat := 0
  /-- R301: next active line of the frame being scanned -/
  line : Nat := 0
  /-- R301: a line has been repeated in this frame -/
  repeatedNow : Bool := false
  /-- R300: the strip FIFO, key 0–3 -/
  bufs : Tab StripBuf := []
  /-- R301: last line scanned, one list per component -/
  last : List (List Nat) := []
  /-- R209: last line delivered to the strip FIFO -/
  delivered : List (List Nat) := []
  /-- R314: frames scanned -/
  frames : Word := 0
  /-- R314: lines repeated -/
  repeated : Word := 0
  /-- R314: strips discarded -/
  discarded : Word := 0
  /-- R314: trainings -/
  trainings : Half := 0
  /-- R314: training failures -/
  failures : Half := 0
  /-- R314: link losses -/
  losses : Half := 0
  /-- R305: short HPD pulses -/
  shortPulses : Half := 0
  /-- R314: backlight level last written [DC 4] -/
  backlight : Half := 0
  /-- R309: the host's AUX transaction in progress -/
  aux : Option AuxTrans := none
  deriving DecidableEq, Repr, Inhabited

end Sys2Proof.Machine
end

