-- ==== Sys2Proof/Machine/StHost.lean ====
section
/-! DEFINITION. State of the host port: the PCIe link, the functions and their grants, event rings, MSI-X,
mailboxes and KCP sessions (chapters 07 and 08). Every field's comment names the rule that gives it; the
field's default is its reset value, and [DC n] or [PR n] marks one the spec does not give (log entry n). -/

namespace Sys2Proof.Machine

/-- A grant of a range: slots (first, count), sources (first, last) or device addresses (address, 16 GiB units). -/
structure GrantRange where
  /-- R156: a range is granted at this index -/
  valid : Bool := false
  /-- R156: first slot, first source, or device address -/
  first : Nat := 0
  /-- R156: count of slots, last source, or size in 16 GiB units -/
  extent : Nat := 0
  deriving DecidableEq, Repr, Inhabited

/-- One PCIe function: 0 the PF, 1–15 the VFs. -/
structure FnSt where
  /-- R134: the VF exists (VF Enable); the PF always does -/
  enabled : Bool := false
  /-- R135: Bus Master Enable [PR 5] -/
  bme : Bool := false
  /-- R132: ID_FUNCTION.stale -/
  stale : Bool := false
  /-- R132: instant (always-on ns) at which the function became stale [DC 4] -/
  staleAt : Nat := 0
  /-- R132: records dropped while stale, for the type 0x0A record -/
  staleDropped : Word := 0
  /-- R132: a type 0x0A record of kind 2 is owed as the next record -/
  oweStale : Bool := false
  /-- R126: ID_DENIED.count -/
  denied : Word := 0
  /-- R123, R156: kind 0, layer slot ranges by index 0–7 -/
  slots : Tab GrantRange := []
  /-- R123, R156: kind 1, timing groups as SESS_GRANT last set them -/
  groups : Half := 0
  /-- R123: kind 1 as in force: each bit follows at the next sill of its group -/
  groupsInForce : Half := 0
  /-- R123, R156: kind 2, aperture ranges by index 0–3 -/
  apertures : Tab GrantRange := []
  /-- R123, R156: kind 3, host-memory surfaces -/
  hostMem : Bool := false
  /-- R123, R156: kind 4, DMA channels -/
  dma : Word := 0
  /-- R123, R156: kind 5, filtered counters -/
  counters : Word := 0
  /-- R123, R156: kind 6, interrupt source ranges by index 0–15 -/
  irqs : Tab GrantRange := []
  /-- R123, R156: kind 7, fault and pace status read -/
  fltRead : Bool := false
  /-- R123, R156: kind 8, command groups 1–11 -/
  cmdGroups : Half := 0
  /-- R114: BAR4 segment table, segment 0–15 to a device address (16 GiB units, plus one; 0 unmapped) -/
  segs : Tab Nat := []
  /-- R114: accesses to unmapped segments, counted -/
  segMisses : Word := 0
  /-- R111: groups whose fetches of this function's host memory carry No-Snoop, in force -/
  noSnoop : Half := 0
  /-- R112: BAR4 writes of the function that have not landed yet, oldest first: device address and bytes -/
  inFlight : List (Nat × List Byte) := []
  /-- R112: groups whose arm doorbell waits for those writes, in order -/
  heldArms : List Nat := []
  /-- R112: mailbox doorbells that wait for those writes: mailbox and value, in order -/
  heldBells : List (Nat × Word) := []
  deriving DecidableEq, Repr, Inhabited

/-- One event ring (R127), key 4f + n. `EvtRing.reset n` gives ring n its own reset values. -/
structure EvtRing where
  /-- R127: EVT_RINGn_BASE -/
  base : Long := 0
  /-- R127: EVT_RINGn_CFG.enable -/
  enable : Bool := false
  /-- R127: EVT_RINGn_CFG.log2_size -/
  log2Size : BitVec 5 := 6
  /-- R127: EVT_RINGn_CFG.fmt1 -/
  fmt1 : Bool := false
  /-- R127: EVT_RINGn_CFG.vector; reset n -/
  vector : BitVec 7 := 0
  /-- R127: EVT_RINGn_CFG.types; reset 0x3FF for ring 0, else 0 -/
  types : BitVec 10 := 0
  /-- R127: EVT_RINGn_COAL.count -/
  coalCount : Byte := 0
  /-- R127: EVT_RINGn_COAL.timeout_us -/
  coalTimeout : Half := 0
  /-- R127: EVT_RINGn_PROD.prod -/
  prod : BitVec 17 := 0
  /-- R128: low 32 bits of the producer count, as written to host memory -/
  written : Word := 0
  /-- R127: EVT_RINGn_CONS.cons -/
  cons : BitVec 17 := 0
  /-- R127: EVT_RINGn_STATUS.overflow -/
  overflow : Bool := false
  /-- R127: EVT_RINGn_STATUS.refused -/
  refused : Bool := false
  /-- R127: EVT_RINGn_STATUS.dropped -/
  dropped : Half := 0
  /-- R131: sequence number of the next record, from 0 at ring enable -/
  seq : Word := 0
  /-- R129: a record was dropped since the last one written, so the next carries the overflow flag -/
  owesOverflow : Bool := false
  /-- R130: records written and not yet signalled -/
  unsignalled : Nat := 0
  /-- R130: instant (always-on ns) of the oldest unsignalled record [DC 4] -/
  oldestAt : Nat := 0
  /-- R132: instant since which the ring has stayed full, plus one; 0 when it is not full -/
  fullSince : Nat := 0
  deriving DecidableEq, Repr, Inhabited

/-- Ring n's reset values (R127): vector n, and every type accepted by ring 0 only. -/
def EvtRing.reset (n : Nat) : EvtRing :=
  { vector := BitVec.ofNat 7 n, types := if n = 0 then 0x3FF else 0 }

/-- One MSI-X vector of a function (R120, R130), key 128f + v. -/
structure MsixVec where
  /-- R120: message address [PR 5] -/
  addr : Long := 0
  /-- R120: message data [PR 5] -/
  data : Word := 0
  /-- R130: vector mask bit [PR 5] -/
  masked : Bool := true
  /-- R130: pending bit -/
  pending : Bool := false
  deriving DecidableEq, Repr, Inhabited

/-- A KCP session (R153). -/
structure Session where
  /-- R153: chosen version -/
  version : Byte := 0
  /-- R155: session handle, never 0 -/
  handle : Word := 0
  /-- R148: sequence number the next command must carry -/
  expected : Half := 0
  /-- R155: commands answered -/
  answered : Word := 0
  /-- R155: commands refused -/
  refusals : Word := 0
  /-- R155: plan time at open -/
  openedAt : Long := 0
  deriving DecidableEq, Repr, Inhabited

/-- A command the GM8 has taken from a mailbox and not yet answered (R139, R153). -/
structure Taken where
  /-- R141: the entry -/
  entry : CmdEntry := default
  /-- R142: order of taking, for the fence flag -/
  order : Nat := 0
  /-- R153: it has begun to execute, and an event will give its response -/
  begun : Bool := false
  /-- R153: its session ended while it executed, so no response is written -/
  lapsed : Bool := false
  /-- R160: its datagram was encrypted, as its response then is -/
  secret : Bool := false
  deriving DecidableEq, Repr, Inhabited

/-- One mailbox (R136), key 4f + n. -/
structure Mbx where
  /-- R136: MBXn_CMD_BASE -/
  cmdBase : Long := 0
  /-- R136: MBXn_RSP_BASE -/
  rspBase : Long := 0
  /-- R136: MBXn_CFG.enable -/
  enable : Bool := false
  /-- R136: MBXn_CFG.log2_size -/
  log2Size : BitVec 4 := 4
  /-- R136: MBXn_CMD_PROD.prod, as last written -/
  cmdProd : BitVec 17 := 0
  /-- R136: MBXn_CMD_CONS.cons -/
  cmdCons : BitVec 17 := 0
  /-- R138: the producer index up to which entries are available -/
  avail : BitVec 17 := 0
  /-- R136: MBXn_RSP_PROD.prod -/
  rspProd : BitVec 17 := 0
  /-- R136: MBXn_RSP_CONS.cons -/
  rspCons : BitVec 17 := 0
  /-- R136: MBXn_STATUS.busy -/
  busy : Bool := false
  /-- R136: MBXn_STATUS.bad_doorbell -/
  badDoorbell : Bool := false
  /-- R136: MBXn_STATUS.refused -/
  refused : Bool := false
  /-- R136: MBXn_STATUS.fetch_error -/
  fetchError : Bool := false
  /-- R139: stopped by a fetch error until enable is cleared and set again -/
  stopped : Bool := false
  /-- R136: MBXn_STATUS.ignored -/
  ignored : Half := 0
  /-- R136, R153: the session open on the mailbox -/
  session : Option Session := none
  /-- R139: the command taken and not yet answered -/
  taken : Option Taken := none
  deriving DecidableEq, Repr, Inhabited

/-- A stored UDP response (R163): one of the last 16 sequence numbers answered. -/
structure StoredRsp where
  /-- R163: sequence number answered -/
  seq : Half := 0
  /-- R163: command ID of the stored response -/
  id : Half := 0
  /-- R143: flags of the stored response -/
  flags : Byte := 0
  /-- R163: status of the stored response -/
  status : Half := 0
  /-- R163: detail of the stored response -/
  detail : Word := 0
  /-- R163: tag of the stored response -/
  tag : Word := 0
  /-- R163: result bytes of the stored response -/
  result : List Byte := []
  /-- R160: sizes of the result's fields -/
  sizes : List Nat := []
  deriving DecidableEq, Repr, Inhabited

/-- A UDP session (R161), key 0–7. -/
structure UdpSess where
  /-- R161: the entry is in use, provisional or open -/
  inUse : Bool := false
  /-- R161: SESS_OPEN has been accepted -/
  opened : Bool := false
  /-- R160: key slot -/
  keySlot : Nat := 0
  /-- R161: the key slot's role -/
  role : Nat := 0
  /-- R161: the session and its handle (provisional until opened) -/
  session : Session := {}
  /-- R160: peer address -/
  peer : Nat := 0
  /-- R163: peer UDP port -/
  udpPort : Nat := 0
  /-- R162: the Ethernet port its last datagram came by -/
  eth : Nat := 0
  /-- R161: the session key -/
  key : Nat := 0
  /-- R160: its last datagram was encrypted, as its event records then are -/
  secret : Bool := false
  /-- R148, R163: datagrams accepted and not yet answered, in sequence -/
  waiting : List Taken := []
  /-- R163: highest counter accepted from the peer -/
  rxCounter : Long := 0
  /-- R163: counter of the next datagram sent -/
  txCounter : Long := 1
  /-- R161: instant (always-on ns) at which a provisional handle lapses, or an open session idles out [DC 4] -/
  deadline : Nat := 0
  /-- R155: UDP event type mask -/
  eventMask : BitVec 10 := 0
  /-- R163: the last 16 responses, newest first -/
  stored : List StoredRsp := []
  /-- R163: instants of the event records sent in the last second (always-on ns), newest first -/
  eventsAt : List Nat := []
  /-- R163: event records dropped for the rate -/
  eventDropped : Word := 0
  /-- R163: the next record sent carries the overflow flag -/
  owesOverflow : Bool := false
  deriving DecidableEq, Repr, Inhabited

/-- A source address whose datagrams were dropped (R163), keyed by address. -/
structure UdpPeer where
  /-- R163: instants of the drops within the last second (always-on ns), newest first -/
  drops : List Nat := []
  /-- R163: the address is ignored until this instant, plus one; 0 when it is not -/
  ignoredUntil : Nat := 0
  deriving DecidableEq, Repr, Inhabited

/-- A UDP key slot 0–7, held in MRAM (R164). -/
structure NetKey where
  /-- R164: the slot holds a key [DC 4] -/
  present : Bool := false
  /-- R164: role, function 0–15 -/
  role : Nat := 0
  /-- R164: the 32 key bytes -/
  key : List Byte := []
  deriving DecidableEq, Repr, Inhabited

/-- KCP over UDP configuration, held in MRAM (R162). -/
structure NetMgmt where
  /-- R162: enabled; disabled until MNT_SET_NETMGMT enables it -/
  enable : Bool := false
  /-- R162: Ethernet port mask [DC 4] -/
  ports : Byte := 0
  /-- R162: IP version [DC 4] -/
  ipVersion : Byte := 4
  /-- R162: UDP port, default 56411 -/
  port : Half := 56411
  /-- R162: VLAN ID, 0 untagged [DC 4] -/
  vlan : Half := 0
  /-- R162: PCP [DC 4] -/
  pcp : Byte := 0
  /-- R162: prefix length [DC 4] -/
  prefixLen : Byte := 0
  /-- R162: address [DC 4] -/
  address : BitVec 128 := 0
  deriving DecidableEq, Repr, Inhabited

/-- The host port. -/
structure HostSt where
  /-- R42: PE_REFCLK present [DC 6] -/
  peRefclk : Bool := false
  /-- R42: PERST_N pin low (asserted) [DC 6] -/
  perstLow : Bool := true
  /-- R42: the PCIe controller is held in reset -/
  inReset : Bool := true
  /-- R57: link training has begun and not completed -/
  training : Bool := false
  /-- R133: the data link is up -/
  linkUp : Bool := false
  /-- R126: ID_LINK.rate, 1–5, 0 down -/
  rate : BitVec 3 := 0
  /-- R126: ID_LINK.width -/
  width : BitVec 5 := 0
  /-- R126: ID_LINK.latency, L_h in ns, 0 until measured -/
  latency : Half := 0
  /-- R126: ID_SURPRISE.count -/
  surpriseCount : Half := 0
  /-- R126: ID_SURPRISE.last_ms -/
  surpriseMs : Half := 0
  /-- R133: instant of the surprise-down not yet reported, plus one; 0 when none -/
  surpriseAt : Nat := 0
  /-- R133: its duration, ms, once the link has trained again -/
  surpriseFor : Nat := 0
  /-- R133: surprise-downs not yet reported by a type 0x0A record -/
  surpriseOwed : Half := 0
  /-- R133: records that could not be written since the last surprise-down -/
  surpriseLost : Word := 0
  /-- R133: DMA writes to host memory dropped in flight, counted -/
  dmaDropped : Word := 0
  /-- R134: a type 0x0A record of kind 1 is owed as the PF's first ring 0 record -/
  oweFlr : Bool := false
  /-- R134: VF Enable -/
  vfEnable : Bool := false
  /-- R122: L_h of the last training, ns, plus one, while ring 0 of the PF has not been enabled since; 0 when it is measured -/
  owesLatency : Nat := 0
  /-- R122: rate and width of the last training, GT/s code and lanes; 0 before the first -/
  lastRate : BitVec 3 := 0
  /-- R122: width of the last training -/
  lastWidth : BitVec 5 := 0
  /-- R122: the last training was to a lower rate or width than the one before, and no fault has been recorded for it -/
  lowTrain : Bool := false
  /-- R123: the functions, key 0–15 -/
  fns : Tab FnSt := []
  /-- R127: the event rings, key 4f + n -/
  rings : Tab EvtRing := []
  /-- R120: MSI-X vectors, key 128f + v -/
  msix : Tab MsixVec := []
  /-- R136: the mailboxes, key 4f + n -/
  mbx : Tab Mbx := []
  /-- R142: commands taken so far, for the fence flag -/
  taken : Nat := 0
  /-- R161: UDP sessions, key 0–7 -/
  udp : Tab UdpSess := []
  /-- R163: source addresses with drops -/
  udpPeers : Tab UdpPeer := []
  /-- R163: datagrams dropped -/
  udpDrops : Word := 0
  /-- R41: instant at which a requested KCP reset may begin (always-on ns), plus one; 0 when none is requested -/
  kcpResetDue : Nat := 0
  deriving DecidableEq, Repr, Inhabited

end Sys2Proof.Machine
end

