-- ==== Sys2Proof/Machine/StIntc.lean ====
section
/-! DEFINITION. State of the interrupt controller (chapter 19). -/

namespace Sys2Proof.Machine

/-- A source's settings in one delivery group (R421). -/
structure IntGrp where
  /-- R421: enabled -/
  enable : Bool := false
  /-- R421: priority 0–15 -/
  prio : BitVec 4 := 0
  /-- R421: target set; internal bit c for core c, host bit f for function f -/
  targets : Half := 0
  /-- R421: masked -/
  masked : Bool := false
  /-- R422: pending latch (edge) -/
  latch : Bool := false
  /-- R427: target for which the source is active, plus one; 0 when it is not -/
  active : Nat := 0
  /-- R427: priority at which it was claimed -/
  activePrio : BitVec 4 := 0
  /-- R421: round-robin pointer as a target number plus one; 0 stands for the restart value (3 internal, 19 host) -/
  rr : Nat := 0
  /-- R434: deliveries (claims or records) -/
  deliveries : Word := 0
  /-- R434: merged edges -/
  merged : Word := 0
  deriving DecidableEq, Repr, Inhabited

/-- One of the 640 sources (R420). -/
structure IntSrc where
  /-- R422: sensing of a condition; events are always code 1 -/
  sensing : BitVec 2 := 0
  /-- R420: a condition input is true -/
  cond : Bool := false
  /-- R422: an event, or a change to true, since the last round -/
  rose : Bool := false
  /-- R422: a change to false since the last round -/
  fell : Bool := false
  /-- R420: events since the last round, for merging -/
  events : Nat := 0
  /-- R421: the internal group -/
  int : IntGrp := {}
  /-- R421: the host group -/
  host : IntGrp := {}
  deriving DecidableEq, Repr, Inhabited

/-- One of the 20 targets (R421): 0–3 control cores, 4 + f host functions. -/
structure IntTgt where
  /-- R432: INTC_CORE_CTRL.enable -/
  enable : Bool := false
  /-- R424: the source offered; 0 none -/
  offer : Nat := 0
  /-- R434: claims or records -/
  claims : Word := 0
  /-- R427: spurious completions -/
  spurious : Word := 0
  /-- R426: withdrawals -/
  withdrawals : Word := 0
  /-- R425: empty claims -/
  empty : Word := 0
  /-- R431: INTC_HOST_STATS0.delivered -/
  delivered : Half := 0
  /-- R431: INTC_HOST_STATS0.held -/
  held : Half := 0
  /-- R431: INTC_HOST_STATS1.released -/
  released : Half := 0
  deriving DecidableEq, Repr, Inhabited

/-- An access that takes effect in step 2 of a round (R423). -/
inductive IntAccess where
  /-- R425: a claim read by a core -/
  | claim (core : Nat)
  /-- R427: a completion of `source` for `target` -/
  | complete (target source : Nat)
  /-- R432: a core's enable -/
  | coreCtrl (core : Nat) (enable : Bool)
  /-- R431: host masks of word k: the new mask bits, for the sources of `granted` -/
  | hostMask (k : Nat) (mask granted : Word)
  /-- R430: a software raise -/
  | raise (source : Nat)
  /-- R434: settings of a source: items, sensing, priority, enable, target set (with the bits it may change) -/
  | set (source : Nat) (items : Byte) (sensing prio enable : Nat) (targets change : Half)
  /-- R428: a function loses membership of the host target set of a source -/
  | drop (source fn : Nat)
  /-- R421: firmware's settings of a source in the internal group -/
  | setInternal (source : Nat) (enable : Bool) (prio : BitVec 4) (targets : Half) (masked : Bool)
  deriving DecidableEq, Repr

/-- The interrupt controller. -/
structure IntcSt where
  /-- R420: sources 0–639 -/
  src : Tab IntSrc := []
  /-- R421: targets 0–19 -/
  tgt : Tab IntTgt := []
  /-- R423: accesses waiting for the next round, oldest first -/
  accesses : List IntAccess := []
  deriving DecidableEq, Repr, Inhabited

end Sys2Proof.Machine
end

