-- ==== Sys2Proof/Machine/StMem.lean ====
section
/-! DEFINITION. State of the CXL memory and its four ports (chapter 06). -/

namespace Sys2Proof.Machine

/-- R119: a port's state as MEM_QUERY codes it. -/
inductive PortState where
  /-- 0: absent. -/
  | absent
  /-- 1: up. -/
  | up
  /-- 2: lost. -/
  | lost
  /-- 3: out of service. -/
  | outOfService
  /-- 4: initialising. -/
  | initialising
  deriving DecidableEq, Repr, Inhabited

/-- One CXL port (R94), key 0–3. -/
structure CxlPort where
  /-- R119: state -/
  state : PortState := .absent
  /-- R119: trained at 64 GT/s -/
  fast : Bool := false
  /-- R119: trained width -/
  width : Nat := 0
  /-- R119: device capacity, GiB -/
  deviceGib : Nat := 0
  /-- R94, R96: mapped capacity C_m, GiB, at most 512 -/
  gib : Nat := 0
  /-- R101: L_m, ns -/
  latency : Nat := 0
  /-- R46, R119: initialised boundary, a port address -/
  boundary : Nat := 0
  /-- R119: link recoveries -/
  recoveries : Half := 0
  /-- R105: viral has been indicated since the link trained -/
  viral : Bool := false
  /-- R109: it was lost while another port was absent, lost or out of service, so that the running variant continues -/
  second : Bool := false
  /-- R107: a removal is in progress -/
  removing : Bool := false
  /-- R108: content returned and no truss armed since, so that the port stays covered -/
  awaitTruss : Bool := false
  /-- R107, R108: it was taken out with no fault, so that its return is still to be counted as a recovery -/
  countReturn : Bool := false
  /-- R46, R108: its content has been lost since the foreground step -/
  foreLost : Bool := false
  deriving DecidableEq, Repr, Inhabited

/-- CXL memory and its ports. -/
structure MemSt where
  /-- R94: the ports, key 0–3 -/
  ports : Tab CxlPort := []
  /-- R98: spread size S in force, GiB -/
  spread : Nat := 0
  /-- R46: ranges initialised in the foreground: device address and length -/
  fore : List (Nat × Nat) := []
  /-- R96: memory content by device address; an unlisted byte reads 0 once initialised [DC 12] -/
  bytes : Tab Byte := []
  /-- R103: poisoned lines, by device address divided by 64 -/
  poison : Tab Bool := []
  deriving DecidableEq, Repr, Inhabited

end Sys2Proof.Machine
end

