-- ==== Sys2Proof/Machine/StNet.lean ====
section
/-! DEFINITION. State of the Ethernet ports, network time, MACsec and the calendar (chapter 16). -/

namespace Sys2Proof.Machine

/-- A port's configuration, held in MRAM (R374). -/
structure PortCfg where
  /-- R374: mode, 0 off, 1 25G RS-FEC, 2 25G no FEC, 3 10G [DC 4] -/
  mode : Nat := 0
  /-- R374: transmit inversion [DC 4] -/
  txInvert : Bool := false
  /-- R374: ADT enabled [DC 4] -/
  adt : Bool := false
  /-- R352: largest frame -/
  largest : Nat := 1522
  /-- R364: PCP of slice bursts -/
  pcpSlice : Nat := 5
  /-- R364: PCP of the control class -/
  pcpControl : Nat := 6
  /-- R364: PCP of the repair class -/
  pcpRepair : Nat := 4
  /-- R358: R-TAG on replicated flows [DC 4] -/
  rtag : Bool := false
  /-- R362: cap, units of 1/1,024 -/
  cap : Nat := 768
  /-- R374: enabled [DC 4] -/
  enabled : Bool := false
  /-- R352: IPv4 address, 0 none [DC 4] -/
  ipv4 : Nat := 0
  /-- R352: IPv4 prefix length [DC 4] -/
  prefix4 : Nat := 0
  /-- R352: IPv6 address, 0 none [DC 4] -/
  ipv6 : Nat := 0
  /-- R352: IPv6 prefix length [DC 4] -/
  prefix6 : Nat := 0
  /-- R357: MACsec mode, 0 off, 1 should-secure, 2 must-secure [DC 4] -/
  secMode : Nat := 0
  /-- R357: cipher, 0 GCM-AES-256, 1 GCM-AES-XPN-256 [DC 4] -/
  cipher : Nat := 0
  /-- R357: MKA key slot [DC 4] -/
  keySlot : Nat := 0
  /-- R357: replay window -/
  replay : Nat := 64
  /-- R374: key server priority [DC 4] -/
  keyPrio : Nat := 0
  /-- R356: delay asymmetry, ns [DC 4] -/
  asymmetry : Int := 0
  deriving DecidableEq, Repr, Inhabited

/-- R374: an MKA key slot, held in MRAM. -/
structure MkaKey where
  /-- R374: a CAK is installed [DC 4] -/
  present : Bool := false
  /-- R374: CKN -/
  ckn : List Byte := []
  /-- R374: CAK; not readable -/
  cak : List Byte := []
  deriving DecidableEq, Repr, Inhabited

/-- R355: network time configuration, held in MRAM. -/
structure TimeCfg where
  /-- R355: role, 0 end station, 1 grandmaster-capable, 2 grandmaster only [DC 4] -/
  role : Nat := 0
  /-- R355: domain -/
  domain : Nat := 0
  /-- R355: priority1 [DC 4] -/
  priority1 : Nat := 0
  /-- R355: priority2 [DC 4] -/
  priority2 : Nat := 0
  /-- R355: clockClass [DC 4] -/
  clockClass : Nat := 0
  /-- R355: clockAccuracy [DC 4] -/
  accuracy : Nat := 0
  /-- R355: logSyncInterval -/
  logSync : Int := -3
  /-- R355: ports with 802.1AS enabled [DC 4] -/
  ports : Nat := 15
  deriving DecidableEq, Repr, Inhabited

/-- R358: an elimination entry, held in MRAM. -/
structure CbEntry where
  /-- R374: set [DC 4] -/
  valid : Bool := false
  /-- R358: port mask, two bits -/
  ports : Nat := 0
  /-- R358: history length -/
  history : Nat := 32
  /-- R358: source MAC address -/
  mac : Nat := 0
  /-- R358: VLAN -/
  vlan : Nat := 0
  /-- R358: reset timeout, ms -/
  timeout : Nat := 100
  deriving DecidableEq, Repr, Inhabited

/-- R358: an entry's recovery function. -/
structure CbRun where
  /-- R358: a sequence number has been accepted since the last reset -/
  running : Bool := false
  /-- R358: highest sequence number accepted -/
  high : Half := 0
  /-- R358: distances below it that have been seen -/
  seen : List Nat := []
  /-- R358: instant of the last accepted frame (always-on ns) -/
  last : Nat := 0
  deriving DecidableEq, Repr, Inhabited

/-- R354: a neighbour, keyed by its IP address. -/
structure Neighbour where
  /-- R354: the entry is resolved -/
  resolved : Bool := false
  /-- R354: MAC address -/
  mac : Nat := 0
  /-- R354: instant of its last datagram, or of the first request (always-on ns) -/
  since : Nat := 0
  /-- R354: requests sent -/
  tries : Nat := 0
  deriving DecidableEq, Repr, Inhabited

/-- R364: a frame in a queue. -/
structure QFrame where
  /-- R365: length on the wire, preamble and gap included -/
  wire : Nat := 0
  /-- R364: what it is -/
  what : String := ""
  /-- R364: its destination: peer key or address -/
  dest : Nat := 0
  /-- R354: MAC address it is sent to, 0 where no neighbour entry gives it -/
  mac : Nat := 0
  /-- R364: its fields -/
  fields : List Nat := []
  /-- R367: it has been counted as waiting at a kerf -/
  waited : Bool := false
  deriving DecidableEq, Repr, Inhabited

/-- R364: one of the four shaped queues, 0 time, 1 control, 2 repair, 3 management. -/
structure NetQueue where
  /-- R364: frames, oldest first -/
  frames : List QFrame := []
  /-- R365: NET, in 1/1,024 ns of plan time -/
  net : Nat := 0
  /-- R366: closed by a rate of 0 -/
  closed : Bool := false
  /-- R366: debt of a closed queue, in kbit/s × 1/1,024 ns -/
  debt : Nat := 0
  /-- R365: rate in force, kbit/s -/
  rate : Nat := 0
  /-- R365: burst in force, bytes -/
  burst : Nat := 0
  deriving DecidableEq, Repr, Inhabited

/-- A mortise that is open on a port (R363). -/
structure OpenMortise where
  /-- R363: its index in the calendar -/
  index : Nat := 0
  /-- R361: its end, plan ns -/
  stop : Nat := 0
  /-- R361: the group of its output -/
  group : Nat := 0
  deriving DecidableEq, Repr, Inhabited

/-- One Ethernet port, key 0–3. -/
structure EthSt where
  /-- R371: the link is up -/
  up : Bool := false
  /-- R370: instant at which it came up (always-on ns) -/
  upAt : Nat := 0
  /-- R370: lost, and not yet returned -/
  lost : Bool := false
  /-- R374: receive inversion detected -/
  rxInvert : Bool := false
  /-- R357: a SAK is installed -/
  secured : Bool := false
  /-- R357: a live MKA peer -/
  mkaLive : Bool := false
  /-- R357: instant of the last valid MKA message (always-on ns) -/
  mkaAt : Nat := 0
  /-- R357: packet number of the next protected frame -/
  packet : Nat := 0
  /-- R357: a new SAK has been asked for -/
  rekey : Bool := false
  /-- R354: neighbour cache, by IP address -/
  neighbours : Tab Neighbour := []
  /-- R354: frames that wait for a neighbour: address, class and frame -/
  unresolved : List (Nat × Nat × QFrame) := []
  /-- R353: instants of the echo replies of the last second (always-on ns) -/
  echoes : List Nat := []
  /-- R374: FEC codewords corrected -/
  fecOk : Word := 0
  /-- R374: FEC codewords uncorrected -/
  fecBad : Word := 0
  /-- R374: mean path delay, ns -/
  delay : Int := 0
  /-- R355: asCapable -/
  asCapable : Bool := false
  /-- R356: the Announce vector it last received; empty when none -/
  announce : List Nat := []
  /-- R356: instant of its last Sync (always-on ns) -/
  syncAt : Nat := 0
  /-- R355: a Pdelay request is outstanding, sent at this plan time, plus one -/
  pdelayAt : Nat := 0
  /-- R364: queues, key 0–3 -/
  queues : Tab NetQueue := []
  /-- R368: rate set in force -/
  rates : RateSet := {}
  /-- R368: rate set in the shadow set -/
  shadow : Option RateSet := none
  /-- R134, R200: the writes of the shadow rate set since it was last refilled, oldest first: function, item mask, items -/
  rateWrites : List (Nat × Byte × RateSet) := []
  /-- R359: bucket expanded into the fine wheel, plus one -/
  bucket : Nat := 0
  /-- R359: mortises of that bucket: group and index in the calendar of its variant -/
  wheel : List (Nat × Nat) := []
  /-- R372: the bucket whose table read with a parity error, plus one -/
  badBucket : Nat := 0
  /-- R363: the mortise that is open -/
  openNow : Option OpenMortise := none
  /-- R367: plan time at which the line is free, in 1/1,024 ns -/
  busyUntil : Nat := 0
  /-- R361: plan time at which the last mortise ended -/
  lastEnd : Nat := 0
  /-- R374: frames that waited at a kerf -/
  kerfWaits : Word := 0
  /-- R374: mortises moved -/
  moved : Word := 0
  deriving DecidableEq, Repr, Inhabited

/-- Network settings held in MRAM. -/
structure NetMram where
  /-- R374: port configuration, key 0–3 -/
  ports : Tab PortCfg := []
  /-- R374: MKA key slots, key 0–3 -/
  keys : Tab MkaKey := []
  /-- R355: network time configuration -/
  time : TimeCfg := {}
  /-- R358: elimination entries, key 0–255 -/
  cb : Tab CbEntry := []
  deriving DecidableEq, Repr, Inhabited

/-- Network ports and network time. -/
structure NetSt where
  /-- R371: ports, key 0–3 -/
  ports : Tab EthSt := []
  /-- R358: recovery functions, key 0–255 -/
  cb : Tab CbRun := []
  /-- R358: R-TAG sequence number of the session's datagram 0 by binding, key a peer -/
  rtag : Tab Half := []
  /-- R356: slave port, plus one; 0 for none -/
  slave : Nat := 0
  /-- R356: the slave port has moved in locked mode, and no Sync has come since -/
  slaveMoved : Bool := false
  /-- R374: steps removed -/
  steps : Nat := 0
  /-- R374: grandmaster identity -/
  gm : Nat := 0
  /-- R374: grandmaster priority1 -/
  gmPriority : Nat := 0
  /-- R374: grandmaster clockClass -/
  gmClass : Nat := 0
  /-- R374: offset estimate, ns -/
  offset : Int := 0
  /-- R374: neighborRateRatio − 1, units of 2^−41 -/
  ratio : Int := 0
  /-- R374: plan time of the last Sync -/
  lastSync : Long := 0
  /-- R355: instant of the next Sync sent as grandmaster (always-on ns) -/
  syncDue : Nat := 0
  /-- R355: instant of the next Announce sent as grandmaster (always-on ns) -/
  announceDue : Nat := 0
  /-- R355: instant of the next Pdelay request (always-on ns) -/
  pdelayDue : Nat := 0
  deriving DecidableEq, Repr, Inhabited

end Sys2Proof.Machine
end

