-- ==== Sys2Proof/Machine/StOut.lean ====
section
/-! DEFINITION. What the GM8 sends out: the model's own record of it, newest first (log 7). It is no
state of the chip; it is what an observer of the pins, the host's memory and the wire would see. -/

namespace Sys2Proof.Machine

/-- An event record as issued (R131). -/
structure EvtRecord where
  fn : Nat
  ring : Nat
  fmt1 : Bool
  type : Nat
  flags : Byte
  subject : Half
  seq : Word
  time : Long
  payload : List Byte
  /-- R128: host address of the record; 0 over UDP -/
  addr : Nat := 0
  deriving DecidableEq, Repr

/-- The first `n` of some bytes, zeros after them. -/
def fillTo (n : Nat) (bs : List Byte) : List Byte := (bs ++ List.replicate n 0).take n

/-- `n` bytes of `v`, least significant first (R7). -/
def leBytes : Nat → Nat → List Byte
  | 0, _ => []
  | n + 1, v => BitVec.ofNat 8 v :: leBytes n (v / 256)

/-- `n` bytes of `v`, most significant first (R7). -/
def beBytes (n v : Nat) : List Byte := (leBytes n v).reverse

/-- R7: a field of `n` bytes: most significant byte first over the network, least significant first elsewhere. -/
def fieldBytes (net : Bool) (n v : Nat) : List Byte := if net then beBytes n v else leBytes n v

/-- R7: bytes that hold fields of some sizes, least significant first, in network byte order: each field's bytes turned round. -/
def netOrder : List Nat → List Byte → List Byte
  | [], bs => bs
  | n :: ns, bs => (bs.take n).reverse ++ netOrder ns (bs.drop n)

/-- R131: sizes of the fields of a record's payload, by type. -/
def payloadSizes (type : Nat) : List Nat :=
  match type with
  | 2 => [2, 2, 2, 4] | 3 => [4, 1, 1, 2, 2, 4, 2] | 4 => [1, 1, 2, 4, 4] | 5 => [1, 1, 2, 4, 4] | 6 => [1, 1, 2] | 7 => [1, 3, 4]
  | 9 => [2, 2, 4, 8] | 10 => [2, 2, 4, 4] | _ => []

/-- R131, R160: the 32 bytes of a record: bytes 0–7, then in format 2 the plan time and the payload, in format 1 the payload and zeros; in
network byte order over UDP. -/
def EvtRecord.bytes (net : Bool) (r : EvtRecord) : List Byte :=
  fillTo 32 ([BitVec.ofNat 8 r.type, r.flags] ++ fieldBytes net 2 r.subject.toNat ++ fieldBytes net 4 r.seq.toNat ++
    (if r.fmt1 then [] else fieldBytes net 8 r.time.toNat) ++
    (if net then netOrder (payloadSizes r.type) (fillTo 16 r.payload) else fillTo 16 r.payload))

/-- A KCP response entry (R143). -/
structure Response where
  id : Half
  flags : Byte
  tag : Word
  status : Half
  seq : Half
  detail : Word
  result : List Byte
  deriving DecidableEq, Repr

/-- R143, R160: the 64 bytes of a response entry; over UDP in network byte order, `sizes` being those of the result's fields. -/
def Response.bytes (net : Bool) (sizes : List Nat) (r : Response) : List Byte :=
  fillTo 64 (fieldBytes net 2 r.id.toNat ++ [r.flags, BitVec.ofNat 8 r.result.length] ++ fieldBytes net 4 r.tag.toNat ++
    fieldBytes net 2 r.status.toNat ++ fieldBytes net 2 r.seq.toNat ++ fieldBytes net 4 r.detail.toNat ++
    (if net then netOrder sizes r.result else r.result))

/-- R316, R354: an ADT or network message the GM8 sends, named by its kind with its fields as numbers. -/
structure NetMsg where
  kind : String
  dest : Nat
  fields : List Nat
  deriving DecidableEq, Repr

/-- One emission. -/
inductive Out where
  /-- R128, R131: an event record written to host memory at its address: its fields and its 32 bytes. -/
  | record (r : EvtRecord) (bytes : List Byte)
  /-- R130: an MSI-X message of function `fn`, vector `v`. -/
  | msix (fn v : Nat)
  /-- R140: a response entry in slot `slot` of mailbox `mbx` (4f + n): its host address, its fields and its 64 bytes. -/
  | response (mbx slot addr : Nat) (r : Response) (bytes : List Byte)
  /-- R425: what a control core's claim read returned. -/
  | claimed (core source : Nat)
  /-- A register or BAR read's data. -/
  | readData (fn : Nat) (data : Nat) (poisoned : Bool)
  /-- R36: a PMBus transaction with PEC: the regulator's 7-bit address, the bus rate in kHz, command code, data. -/
  | pmbus (addr kHz : Nat) (cmd : Nat) (data : Nat)
  /-- R295: an AUX transaction of head `h`: request code, address, data. -/
  | aux (h : Nat) (req addr : Nat) (data : List Byte)
  /-- A datagram or frame on the network. -/
  | net (m : NetMsg)
  /-- A write to host memory: address and bytes. -/
  | hostWrite (addr : Nat) (bytes : List Byte)
  /-- A read request to host memory: address and length. -/
  | hostRead (addr : Nat) (len : Nat) (noSnoop : Bool)
  /-- R451: an edge of ERR_N as the GM8 drives it: to low when `true`. -/
  | errn (low : Bool)
  /-- A line of head `h` scanned out: line number, codes. -/
  | headLine (h line : Nat) (repeated : Bool)
  deriving DecidableEq, Repr

end Sys2Proof.Machine
end

