-- ==== Sys2Proof/Machine/StPace.lean ====
section
/-! DEFINITION. State of the pace monitors and the adaptive-voltage loop (chapter 05). -/

namespace Sys2Proof.Machine

/-- Settings of the loop (R86, R93). -/
structure PaceCfg where
  /-- R86: lo -/
  lo : Nat := 154
  /-- R86: hi -/
  hi : Nat := 256
  /-- R86: alarm -/
  alarm : Nat := 51
  /-- R86: vmin, mV -/
  vmin : Nat := 720
  /-- R86: vmax, mV -/
  vmax : Nat := 860
  /-- R86: step_up, mV -/
  stepUp : Nat := 10
  /-- R86: step_down, mV -/
  stepDown : Nat := 5
  /-- R86: period, ms -/
  period : Nat := 1
  deriving DecidableEq, Repr, Inhabited

/-- One pace monitor, key 0–23. -/
structure PaceMon where
  /-- R91: margin of the last window -/
  margin : Int := 0
  /-- R91: lowest margin since start or PACE_CLEAR; none before the first window, read as 0 -/
  worst : Option Int := none
  /-- R86: lowest margin of the loop period so far -/
  low : Option Int := none
  /-- R85: failed -/
  failed : Bool := false
  /-- R91: last window below alarm -/
  alarm : Bool := false
  /-- R88: consecutive windows below alarm -/
  below : Nat := 0
  /-- R89: consecutive windows below the reduced-pace floor -/
  breach : Nat := 0
  /-- R84: instant at which the current window ends (always-on ns) -/
  nextAt : Nat := 10240
  deriving DecidableEq, Repr, Inhabited

/-- A PMBus transaction on the bus (R87): command code and data. -/
structure PmTrans where
  /-- R87: command code -/
  cmd : Nat := 0
  /-- R87: data sent -/
  data : Nat := 0
  /-- R87: it repeats a command that met an error -/
  again : Bool := false
  deriving DecidableEq, Repr, Inhabited

/-- Pace and voltage. -/
structure PaceSt where
  /-- R93: settings in force -/
  cfg : PaceCfg := {}
  /-- R83: monitors -/
  mons : Tab PaceMon := []
  /-- R91: PACE_VOUT.target_mv -/
  target : Nat := 0
  /-- R86: the pending target, mV, plus one; 0 none -/
  wanted : Nat := 0
  /-- R91: PACE_VOUT.read_mv -/
  read : Nat := 0
  /-- R91: PACE_IOUT.iout -/
  iout : Half := 0
  /-- R91: PACE_STATUS.tj, as coded -/
  tj : Byte := 0
  /-- R87: in open-loop mode, VOUT_MODE has answered linear since it was last asked -/
  modeOk : Bool := false
  /-- R87: open-loop mode -/
  openLoop : Bool := false
  /-- R85: held at vmax -/
  held : Bool := false
  /-- R86: consecutive loop periods above hi -/
  above : Nat := 0
  /-- R86: instant of the last raise (always-on ns) -/
  raisedAt : Nat := 0
  /-- R91: PACE_STATUS.min_margin -/
  minMargin : Int := 0
  /-- R91: PACE_STATUS.min_mon -/
  minMon : Nat := 0
  /-- R86: instant at which the current loop period ends (always-on ns) [DC 4] -/
  loopAt : Nat := 1000000
  /-- R90: the return condition has not been met since the last escalation -/
  awaitReturn : Bool := false
  /-- R92: reduced pace was required when the choice of variant was last made, so that its entry and its end are each told once -/
  reducedSeen : Bool := false
  /-- R90: PACE_FORCE_REDUCED enter stands -/
  forced : Bool := false
  /-- R88: the escalation condition holds and has been taken -/
  escalated : Bool := false
  /-- R90: instant since which every healthy monitor has held margin at or above lo, plus one; 0 when one has not -/
  goodSince : Nat := 0
  /-- R91: raises -/
  raises : Half := 0
  /-- R91: lowers -/
  lowers : Half := 0
  /-- R91: fast_raises -/
  fastRaises : Half := 0
  /-- R91: floor_breaches -/
  breaches : Half := 0
  /-- R91: reduced_entries -/
  entries : Half := 0
  /-- R91: regulator_errors -/
  regErrors : Half := 0
  /-- R87: the transaction on the bus -/
  bus : Option PmTrans := none
  /-- R87: transactions waiting for the bus, in order -/
  busQueue : List PmTrans := []
  /-- R87: the last transaction met an error -/
  lastBad : Bool := false
  /-- R87: READ_VOUT has not come within 10 mV of the target since the command; instant of the command, plus one -/
  settling : Nat := 0
  /-- R87: instant of the next READ_VOUT poll (always-on ns) [DC 4] -/
  voutAt : Nat := 0
  /-- R87: instant of the next READ_IOUT poll (always-on ns) [DC 4] -/
  ioutAt : Nat := 0
  /-- R87: instant of the next retry in open-loop mode (always-on ns) [DC 4] -/
  retryAt : Nat := 0
  deriving DecidableEq, Repr, Inhabited

end Sys2Proof.Machine
end

