-- ==== Sys2Proof/Machine/StPmu.lean ====
section
/-! DEFINITION. State of the performance counters (chapter 21). -/

namespace Sys2Proof.Machine

/-- Settings of a filtered counter (R470). -/
structure FcSet where
  /-- R470: mode, 0 off -/
  mode : Nat := 0
  /-- R470: path -/
  path : Nat := 0
  /-- R470: direction mask -/
  dir : Nat := 0
  /-- R470: class mask -/
  cls : Nat := 0
  /-- R470: master -/
  master : Nat := 0
  /-- R473: chained to the counter below -/
  chain : Bool := false
  /-- R470: privilege mask -/
  priv : Nat := 0
  /-- R470: event of mode 3 -/
  event : Nat := 0
  /-- R470: low end of the address filter -/
  lo : Nat := 0
  /-- R470: high end of the address filter, 0 none -/
  hi : Nat := 0
  deriving DecidableEq, Repr, Inhabited

/-- A filtered counter, key 0–31 (R470). -/
structure FcSt where
  /-- R470: settings in force -/
  set : FcSet := {}
  /-- R482: settings accepted for the next update -/
  next : Option FcSet := none
  /-- R480: value, 40 bits -/
  val : Nat := 0
  /-- R470: what it counted since the last update -/
  inc : Nat := 0
  /-- R472: overflow -/
  ovf : Bool := false
  /-- R469: lost_carry -/
  lost : Bool := false
  deriving DecidableEq, Repr, Inhabited

/-- A function's read latch on a counter page (R468), key 2 × function, plus 1 for BAR2. -/
structure PmuLatch where
  /-- R468: counter whose low word was read last, plus one; 0 none -/
  prev : Nat := 0
  /-- R468: bits 39:32 latched -/
  hi : Nat := 0
  /-- R468: the odd counter of a pair, plus one; 0 none -/
  odd : Nat := 0
  /-- R468: its latched 40 bits -/
  oddVal : Nat := 0
  deriving DecidableEq, Repr, Inhabited

/-- What waits for the next update, in arrival order (R469, R482). -/
inductive PmuOp where
  /-- A value committed to a counter: 0–447 always-running, 448 + f filtered. -/
  | write (counter value : Nat)
  /-- R482: PMU_CLEAR of the always-running (`filtered` false) or the filtered counters. -/
  | clear (filtered : Bool)
  deriving DecidableEq, Repr, Inhabited

/-- One snapshot (R475). -/
structure Snap where
  /-- R475: snapshot number -/
  number : Nat := 0
  /-- R475: trigger mask -/
  mask : Nat := 0
  /-- R475: plan time of its update -/
  time : Nat := 0
  /-- R475: always-running counters -/
  cnt : Tab Nat := []
  /-- R475: filtered counters -/
  fc : Tab Nat := []
  deriving DecidableEq, Repr, Inhabited

/-- Settings of a bandwidth-window engine (R479), held in MRAM. -/
structure BwSet where
  /-- R479: window length 64 × 2^k grains -/
  k : Nat := 4
  /-- R479: aligned on the hyperperiod -/
  align : Bool := false
  /-- R480: class mask -/
  cls : Nat := 0x1F
  /-- R479: threshold, 0 none [DC 4] -/
  threshold : Nat := 0
  deriving DecidableEq, Repr, Inhabited

/-- A bandwidth-window engine, key 0–17 (R479). -/
structure BwSt where
  /-- R479: bytes in the current window -/
  bytes : Nat := 0
  /-- R479: plan time at which the current window started -/
  since : Nat := 0
  /-- R480: PMU_BWn_LAST -/
  last : Word := 0
  /-- R480: PMU_BWn_PEAK -/
  peak : Word := 0
  /-- R480: PMU_BWn_PEAK_AT -/
  peakAt : Word := 0
  /-- R480: PMU_BWn_OVER -/
  above : Word := 0
  /-- R480: PMU_BWn_CFG.partial -/
  short : Bool := false
  deriving DecidableEq, Repr, Inhabited

/-- Settings held in MRAM (R482). -/
structure PmuMram where
  /-- R482: trigger mask [DC 4] -/
  mask : Nat := 0
  /-- R482: group of the sill trigger [DC 4] -/
  group : Nat := 0
  /-- R482: class of the fault trigger [DC 4] -/
  cls : Nat := 0
  /-- R476: hold [DC 4] -/
  hold : Bool := false
  /-- R475: period, grains [DC 4] -/
  period : Nat := 0
  /-- R479: bandwidth engines, key 0–17 -/
  bw : Tab BwSet := []
  deriving DecidableEq, Repr, Inhabited

/-- The performance counters. -/
structure PmuSt where
  /-- R465: always-running counters 0–447, 40 bits -/
  cnt : Tab Nat := []
  /-- R465: increments of each event since the last update -/
  inc : Tab Nat := []
  /-- R293: amounts of events counted in larger units that have not filled a unit yet [DC 4] -/
  part : Tab Nat := []
  /-- R480: PMU_OVFk, key counter 0–447 -/
  ovf : Tab Bool := []
  /-- R480: PMU_LOSTk, key counter 0–447 -/
  lost : Tab Bool := []
  /-- R480: PMU_STATUS.gaps -/
  gaps : Half := 0
  /-- R465: plan time of the last update -/
  updated : Nat := 0
  /-- R470: filtered counters -/
  fc : Tab FcSt := []
  /-- R468: read latches -/
  latch : Tab PmuLatch := []
  /-- R469: staged high byte, key function -/
  staged : Tab Nat := []
  /-- R469: what waits for the next update -/
  ops : List PmuOp := []
  /-- R475: triggers that fire at the next update -/
  trig : Nat := 0
  /-- R475: snapshots taken since the start -/
  snaps : Nat := 0
  /-- R475: the copy in progress -/
  copy : Option Snap := none
  /-- R480: snapshot banks, key 0–1 -/
  banks : Tab Snap := []
  /-- R480: PMU_SNAP_STATUS.active -/
  active : Nat := 0
  /-- R476: bank b has become active and has not been released since, bit b -/
  kept : BitVec 2 := 0
  /-- R480: PMU_SNAP_STATUS.missed -/
  missed : Half := 0
  /-- R477: high word of the active snapshot's time, latched (value plus one), key function -/
  timeHi : Tab Nat := []
  /-- R479: bandwidth engines -/
  bw : Tab BwSt := []
  deriving DecidableEq, Repr, Inhabited

end Sys2Proof.Machine
end

