-- ==== Sys2Proof/Machine/StSec.lean ====
section
/-! DEFINITION. State of trust and the non-volatile store (chapter 22). -/

namespace Sys2Proof.Machine

/-- An operator public key, slots 1–6 (R486). -/
structure OpKey where
  /-- R500: state, 0 empty, 1 valid, 2 revoked [DC 4] -/
  state : Nat := 0
  /-- R486: the public key [DC 4] -/
  key : List Byte := []
  deriving DecidableEq, Repr, Inhabited

/-- Trust settings held in MRAM. -/
structure SecMram where
  /-- R486: operator keys, key slot 1–6 -/
  keys : Tab OpKey := []
  /-- R488: truss counter [DC 4] -/
  trussCounter : Word := 0
  /-- R493: action on TMPR_N -/
  tamperAction : Byte := 0
  deriving DecidableEq, Repr, Inhabited

/-- A firmware image being written (R489). -/
structure ImageWrite where
  /-- R489: target, 0 the image of A and B that does not run, 1 golden -/
  target : Nat := 0
  /-- R489: source, 0 device memory, 1 host memory -/
  source : Nat := 0
  /-- R489: the image region being written: 0 A, 1 B, 2 golden -/
  region : Nat := 0
  /-- R489: length -/
  len : Nat := 0
  /-- R489: address -/
  addr : Nat := 0
  /-- R190: the function whose command it is -/
  fn : Nat := 0
  deriving DecidableEq, Repr, Inhabited

/-- Trust and the host-recovery registers. -/
structure SecSt where
  /-- R488: firmware counter, fused [DC 4] -/
  fwCounter : Nat := 0
  /-- R486: fused vendor keys 0–3 whose revocation fuse is blown [DC 4] -/
  vendorRevoked : BitVec 4 := 0
  /-- R484: M2, digest of the running truss -/
  m2 : Nat := 0
  /-- R484: M3, digest of the preferred standing truss -/
  m3 : Nat := 0
  /-- R484: M4, digest of the board configuration -/
  m4 : Nat := 0
  /-- R492: debug level in force -/
  level : Nat := 0
  /-- R491: a level 2 unlock has been seen since cold start, in the always-on domain -/
  level2Seen : Bool := false
  /-- R493: a tamper has been seen since cold start, in the always-on domain -/
  tamperSeen : Bool := false
  /-- R492: the challenge that stands -/
  challenge : Option Nat := none
  /-- R492: instant at which it lapses (always-on ns) -/
  challengeEnd : Nat := 0
  /-- R492: instants of failed unlocks (always-on ns), newest first -/
  failures : List Nat := []
  /-- R492: challenges are refused until the next start -/
  blocked : Bool := false
  /-- R498: the identity or planner key failed its self-test, so it is unused until the next start -/
  keyFailed : Bool := false
  /-- R489: the image write under way -/
  write : Option ImageWrite := none
  /-- R490: ID_RCV_ADDR -/
  rcvAddr : Long := 0
  /-- R490: ID_RCV_LEN -/
  rcvLen : Word := 0
  /-- R490: ID_RCV_STATUS.state -/
  rcvState : BitVec 3 := 0
  /-- R490: ID_RCV_STATUS.reason -/
  rcvReason : Byte := 0
  /-- R490: cfg_reset was written with the go in progress -/
  rcvCfg : Bool := false
  deriving DecidableEq, Repr, Inhabited

end Sys2Proof.Machine
end

