-- ==== Sys2Proof/Machine/State.lean ====
section
/-! DEFINITION. The whole state of the GM8 as plain data, its stops, and its state at reset. -/

namespace Sys2Proof.Machine

/-- What would stop the block for good. The spec gives no such behaviour: the safe state (R453) is a state
like any other, and every error has an effect. So there is none, and no command raises one. -/
inductive Fault where
  deriving DecidableEq, Repr

/-- Why a command is not carried out by this model. -/
inductive Refusal where
  /-- `exec` answers it for a command that has no meaning yet, by the table's name. Safe: nothing is claimed of it. -/
  | notModelled (mnemonic : String)
  deriving DecidableEq, Repr

/-- The state of the GM8, each block's in its own structure. -/
structure State where
  /-- Commands waiting, first in first out (the model's queue, log 1). -/
  pending : List Instr := []
  /-- R28–R58: power, pins, reset and start. -/
  boot : BootSt := {}
  /-- R49–R159: start records and settings held in MRAM. -/
  bootMram : BootMram := {}
  /-- R18: pins. -/
  pins : PinSt := {}
  /-- R59–R80: clocks and time. -/
  clk : ClkSt := {}
  /-- R81–R93: pace monitors and voltage. -/
  pace : PaceSt := {}
  /-- R93: loop settings held in MRAM. -/
  paceMram : PaceCfg := {}
  /-- R94–R119: CXL memory and its ports. -/
  mem : MemSt := {}
  /-- R120–R164: host port. -/
  host : HostSt := {}
  /-- R162: KCP over UDP settings, held in MRAM. -/
  netMgmt : NetMgmt := {}
  /-- R164: UDP key slots 0–7, held in MRAM. -/
  netKeys : Tab NetKey := []
  /-- R420–R434: interrupt controller. -/
  intc : IntcSt := {}
  /-- R435–R464: fault collector. -/
  flt : FltSt := {}
  /-- R440–R454: fault settings and log held in MRAM. -/
  fltMram : FltMram := {}
  /-- R165–R190: trusses, change sets and standing slots. -/
  truss : TrussSt := {}
  /-- R191–R294: sequencer, surfaces, layers, scalers, colour store and lanes. -/
  seq : SeqSt := {}
  /-- R295–R314: heads, key 0–7. -/
  heads : Tab HeadSt := []
  /-- R315–R351: display transport. -/
  adt : AdtSt := {}
  /-- R351: transport configuration held in MRAM. -/
  adtCfg : AdtCfg := {}
  /-- R352–R374: network ports and time. -/
  net : NetSt := {}
  /-- R374: network settings held in MRAM. -/
  netMram : NetMram := {}
  /-- R375–R401: ingest, writeback and DMA. -/
  dma : DmaSt := {}
  /-- R402–R418: standing services. -/
  svc : SvcSt := {}
  /-- R402–R419: settings of the standing services held in MRAM. -/
  svcMram : SvcMram := {}
  /-- R483–R500: trust, debug and host recovery. -/
  sec : SecSt := {}
  /-- R486–R495: trust settings held in MRAM. -/
  secMram : SecMram := {}
  /-- R465–R482: performance counters. -/
  pmu : PmuSt := {}
  /-- R482: settings of the performance counters held in MRAM. -/
  pmuMram : PmuMram := {}
  /-- The model's own count of free values drawn (log 10). -/
  free : Nat := 0
  /-- The model's own record of what was sent out, newest first (log 7). -/
  out : List Out := []
  deriving DecidableEq, Repr, Inhabited

/-- The machine right after reset: the internal power-on reset asserted, every field at its reset value. -/
def State.reset : State := {}

end Sys2Proof.Machine
end

