-- ==== Sys2Proof/Machine/Ops.lean ====
section
/-! DEFINITION. The named operations that every family uses: numbers and bytes, the passing of time, what is
sent out, free values, and the update of one block or one entry of the state. -/

namespace Sys2Proof.Machine

/-! ### Numbers and bytes -/

/-- Adds one, stopping at the highest value. -/
def satInc {w : Nat} (x : BitVec w) : BitVec w := if x = BitVec.allOnes w then x else x + 1

/-- Adds `n`, stopping at the highest value. -/
def satAdd {w : Nat} (x : BitVec w) (n : Nat) : BitVec w :=
  if x.toNat + n < 2 ^ w then BitVec.ofNat w (x.toNat + n) else BitVec.allOnes w

/-- The number that bytes spell, least significant first (R7). -/
def leNat : List Byte → Nat
  | [] => 0
  | b :: bs => b.toNat + 256 * leNat bs

/-- `n` zero bytes. -/
def zeros (n : Nat) : List Byte := List.replicate n 0

/-- The first `n` bytes, padded with zeros. -/
def fitBytes (n : Nat) (bs : List Byte) : List Byte := (bs ++ zeros n).take n

/-- A register word from its fields: lowest bit, width, value; the value is cut to its width. -/
def packBits (fields : List (Nat × Nat × Nat)) : Nat :=
  fields.foldl (fun acc f => acc + (f.2.2 % 2 ^ f.2.1) * 2 ^ f.1) 0

/-- A flag as a number. -/
def b2n (b : Bool) : Nat := if b then 1 else 0

/-- Bits `[lo + w - 1 : lo]` of a number. -/
def bitsOf (lo w v : Nat) : Nat := v / 2 ^ lo % 2 ^ w

/-- Bit `i` of a number. -/
def bitOf (i v : Nat) : Bool := v / 2 ^ i % 2 == 1

/-- A bit vector with bit `i` set or cleared. -/
def putBit {w : Nat} (x : BitVec w) (i : Nat) (b : Bool) : BitVec w :=
  if b then x ||| BitVec.ofNat w (2 ^ i) else x &&& ~~~(BitVec.ofNat w (2 ^ i))

/-- The positions of the set bits, ascending. -/
def setBits {w : Nat} (x : BitVec w) : List Nat := (List.range w).filter (fun i => x.getLsbD i)

/-- Signed value as an unsigned field of `w` bits. -/
def signedField (w : Nat) (i : Int) : Nat := (BitVec.ofInt w i).toNat

/-- Puts `x` ahead of the first entry that it need not follow. -/
def insertBy {α : Type} (le : α → α → Bool) (x : α) : List α → List α
  | [] => [x]
  | y :: t => if le x y then x :: y :: t else y :: insertBy le x t

/-- The entries in order, equal ones as they stood. -/
def sortBy {α : Type} (le : α → α → Bool) (l : List α) : List α := l.foldr (insertBy le) []

/-- Rounded-up quotient. -/
def ceilDiv (a b : Nat) : Nat := (a + b - 1) / b

/-- One bit of a reflected CRC-32C step. -/
def crc32cBit (c : Word) : Word := if c.getLsbD 0 then (c >>> 1) ^^^ 0x82F63B78 else c >>> 1

/-- One byte of CRC-32C. -/
def crc32cByte (c : Word) (b : Byte) : Word :=
  (List.range 8).foldl (fun c _ => crc32cBit c) (c ^^^ b.zeroExtend 32)

/-- CRC-32C, polynomial 0x1EDC_6F41, in its usual reflected form (log 13). -/
def crc32c (bs : List Byte) : Word := ~~~(bs.foldl crc32cByte (BitVec.allOnes 32))

/-! ### One block or one entry of the state -/

def State.modHost (f : HostSt → HostSt) (s : State) : State := { s with host := f s.host }
def State.modClk (f : ClkSt → ClkSt) (s : State) : State := { s with clk := f s.clk }
def State.modBoot (f : BootSt → BootSt) (s : State) : State := { s with boot := f s.boot }
def State.modBootMram (f : BootMram → BootMram) (s : State) : State := { s with bootMram := f s.bootMram }
def State.modPins (f : PinSt → PinSt) (s : State) : State := { s with pins := f s.pins }
def State.modIntc (f : IntcSt → IntcSt) (s : State) : State := { s with intc := f s.intc }
def State.modFlt (f : FltSt → FltSt) (s : State) : State := { s with flt := f s.flt }
def State.modFltMram (f : FltMram → FltMram) (s : State) : State := { s with fltMram := f s.fltMram }
def State.modPace (f : PaceSt → PaceSt) (s : State) : State := { s with pace := f s.pace }
def State.modSvc (f : SvcSt → SvcSt) (s : State) : State := { s with svc := f s.svc }
def State.modSvcMram (f : SvcMram → SvcMram) (s : State) : State := { s with svcMram := f s.svcMram }
def State.modSec (f : SecSt → SecSt) (s : State) : State := { s with sec := f s.sec }
def State.modSecMram (f : SecMram → SecMram) (s : State) : State := { s with secMram := f s.secMram }
def State.modPmu (f : PmuSt → PmuSt) (s : State) : State := { s with pmu := f s.pmu }

/-- Changes function `f` (R123). -/
def State.modFn (k : Nat) (f : FnSt → FnSt) (s : State) : State :=
  s.modHost fun h => { h with fns := tabMod h.fns k f }

/-- Function `k`. -/
def State.fn (s : State) (k : Nat) : FnSt := tabGet s.host.fns k

/-- Event ring `n` of function `f` (R127). -/
def State.ring (s : State) (f n : Nat) : EvtRing := tabGetD (EvtRing.reset n) s.host.rings (4 * f + n)

/-- Writes event ring `n` of function `f`. -/
def State.setRing (f n : Nat) (r : EvtRing) (s : State) : State :=
  s.modHost fun h => { h with rings := tabSetD (EvtRing.reset n) h.rings (4 * f + n) r }

/-- Changes event ring `n` of function `f`. -/
def State.modRing (f n : Nat) (g : EvtRing → EvtRing) (s : State) : State := s.setRing f n (g (s.ring f n))

/-- Mailbox `n` of function `f` (R136). -/
def State.mbx (s : State) (f n : Nat) : Mbx := tabGet s.host.mbx (4 * f + n)

/-- Changes mailbox `n` of function `f`. -/
def State.modMbx (f n : Nat) (g : Mbx → Mbx) (s : State) : State :=
  s.modHost fun h => { h with mbx := tabMod h.mbx (4 * f + n) g }

/-- PLL `k` (R61). -/
def State.pll (s : State) (k : Nat) : Pll := tabGet s.clk.plls k

/-- Changes PLL `k`. -/
def State.modPll (k : Nat) (g : Pll → Pll) (s : State) : State :=
  s.modClk fun c => { c with plls := tabMod c.plls k g }

/-- Interrupt source `k` (R420). -/
def State.intSrc (s : State) (k : Nat) : IntSrc := tabGet s.intc.src k

/-- Changes interrupt source `k`. -/
def State.modIntSrc (k : Nat) (g : IntSrc → IntSrc) (s : State) : State :=
  s.modIntc fun c => { c with src := tabMod c.src k g }

/-- Interrupt target `k` (R421). -/
def State.intTgt (s : State) (k : Nat) : IntTgt := tabGet s.intc.tgt k

/-- Changes interrupt target `k`. -/
def State.modIntTgt (k : Nat) (g : IntTgt → IntTgt) (s : State) : State :=
  s.modIntc fun c => { c with tgt := tabMod c.tgt k g }

/-- Fault source `k` (R435). -/
def State.fltSrc (s : State) (k : Nat) : FltSrc := tabGet s.flt.src k

/-- Changes fault source `k`. -/
def State.modFltSrc (k : Nat) (g : FltSrc → FltSrc) (s : State) : State :=
  s.modFlt fun c => { c with src := tabMod c.src k g }

/-! ### Sending, counting, time and free values -/

/-- Records one emission (log 7). -/
def State.emit (o : Out) (s : State) : State := { s with out := o :: s.out }

/-- Counts `n` occurrences of counter event `e` (R465); they enter the counters at the next update. -/
def State.countN (e n : Nat) (s : State) : State :=
  s.modPmu fun p => { p with inc := tabMod p.inc e (· + n) }

/-- Counts one occurrence of counter event `e`. -/
def State.count (e : Nat) (s : State) : State := s.countN e 1

/-- R465: a counter's value with what it has still to add. -/
def State.eventTotal (e : Nat) (s : State) : Nat := (tabGet s.pmu.cnt e + tabGet s.pmu.inc e) % 2 ^ 40

/-- Counts `n` parts of an event whose unit is `unit` parts (R293). -/
def State.countUnits (e unit n : Nat) (s : State) : State :=
  let p := tabGet s.pmu.part e + n
  (s.modPmu fun c => { c with part := tabSet c.part e (p % unit) }).countN e (p / unit)

/-- R467: an access to BAR0. -/
def State.bar0 (s : State) : State := s.count 199

/-! ### Traffic as the filtered counters and the bandwidth windows see it -/

/-- Who moves data: R470's class bits and master, and R471's privilege bit. -/
structure Who where
  cls : Nat := 16
  master : Nat := 69
  priv : Nat := 16
  deriving DecidableEq, Repr, Inhabited

/-- R470: what a filtered counter counts of an access to 64-byte units of a path. -/
def FcSet.matched (x : FcSet) (path : Nat) (write : Bool) (w : Who) (units : List Nat) : Nat :=
  if !(x.path == path || x.path == 6 || (x.path == 5 && decide (path < 4))) || !bitOf (b2n write) x.dir || x.cls &&& w.cls == 0 ||
      !(x.master == 0xFF || x.master == w.master || (x.master == 16 && decide (w.master < 16))) || !bitOf w.priv x.priv then 0
  else
    let mine := units.filter fun a => x.hi == 0 || (decide (x.lo ≤ a) && decide (a < x.hi))
    if x.mode = 2 then mine.length
    else if x.mode ≠ 1 then 0
    else ((mine.map fun a => if path < 4 ∧ 0x40000000000 ≤ a then a / 256 + 1 else 0).eraseDups).length

/-- R479: the settings of bandwidth engine `n`. -/
def State.bwSet (s : State) (n : Nat) : BwSet := tabGet s.pmuMram.bw n

/-- R478: bytes on an engine's path in class bits `cls`. -/
def State.bwAdd (n cls bytes : Nat) (s : State) : State :=
  if n < 14 ∧ cls &&& (s.bwSet n).cls = 0 then s
  else s.modPmu fun p => { p with bw := tabMod p.bw n fun x => { x with bytes := x.bytes + bytes } }

/-- R470, R478: an access to 64-byte units, at device or host addresses, of path 0–3 (CXL port) or 4 (host link). -/
def State.traffic (path : Nat) (write : Bool) (w : Who) (units : List Nat) (s : State) : State :=
  if units.isEmpty then s
  else
    let s := s.modPmu fun p => { p with fc := p.fc.foldl (fun t e =>
      if e.2.set.chain then t else tabMod t e.1 fun x => { x with inc := x.inc + x.set.matched path write w units }) p.fc }
    s.bwAdd (if path < 4 then path + 4 * b2n write else 8 + b2n write) w.cls (64 * units.length)

/-- The 64-byte units of `n` bytes from `a`. -/
def memLines (a n : Nat) : List Nat := if n = 0 then [] else (List.range ((a + n - 1) / 64 + 1 - a / 64)).map fun i => (a / 64 + i) * 64

/-- R120: the read requests that a read of `n` bytes at `a` makes: at most 512 bytes each, none across a 4 KiB boundary. -/
def readPieces : Nat → Nat → Nat → List (Nat × Nat)
  | 0, _, _ => []
  | fuel + 1, a, n =>
    if n = 0 then []
    else
      let k := min n (min 512 (4096 - a % 4096))
      (a, k) :: readPieces fuel (a + k) (n - k)

/-- R120, R467: a read of host memory as its requests, with the data they bring. -/
def State.hostRead (a n : Nat) (noSnoop : Bool) (w : Who) (s : State) : State :=
  let ps := readPieces (n / 256 + 3) a n
  let s := ps.foldl (fun (s : State) p => s.emit (.hostRead p.1 p.2 noSnoop)) s
  ((s.countN 192 ps.length).countN 193 (memLines a n).length).traffic 4 false w (memLines a n)

/-- R467: data written to host memory. -/
def State.hostWrite (a : Nat) (bs : List Byte) (w : Who) (s : State) : State :=
  let n := (memLines a bs.length).length
  ((s.emit (.hostWrite a bs)).countN 194 (if w.cls = 4 then n else 0)).traffic 4 true w (memLines a bs.length)

/-- R74: what 1 ns adds to plan time, in 2^-40 ns: 1 + a. While PLL8 is gated plan time runs on REFCLK or the always-on oscillator, without a
(R67, R69). -/
def State.planStep (s : State) : Nat := (2 ^ 40 + if (tabGet s.clk.plls 8).gated then 0 else s.clk.rate).toNat

/-- R74: plan time after `n` 2^-40 ns more. -/
def ClkSt.addFrac (n : Nat) (c : ClkSt) : ClkSt :=
  { c with plan := c.plan + (c.planFrac + n) / 2 ^ 40, planFrac := (c.planFrac + n) % 2 ^ 40 }

/-- Lets `ns` nanoseconds pass on the always-on count, and what they make under R74 on plan time (log 2). -/
def State.elapse (ns : Nat) (s : State) : State :=
  s.modClk fun c => ({ c with aon := c.aon + ns } : ClkSt).addFrac (ns * s.planStep)

/-- Time passes up to an always-on instant, unless it has passed (log 2). -/
def State.untilAon (t : Nat) (s : State) : State := s.elapse (t - s.clk.aon)

/-- Time passes up to a plan-time instant, unless it has passed (R74, log 2). -/
def State.untilPlan (t : Nat) (s : State) : State :=
  if t ≤ s.clk.plan then s
  else s.modClk fun c => { c with aon := c.aon + ceilDiv ((t - c.plan) * 2 ^ 40 - c.planFrac) s.planStep, plan := t, planFrac := 0 }

/-- The always-on count, ns. -/
def State.now (s : State) : Nat := s.clk.aon

/-- Plan time as software reads it. -/
def State.planTime (s : State) : Long := BitVec.ofNat 64 s.clk.plan

/-- Draws the next free value (log 10). -/
def State.draw (s : State) : Nat × State := (Config.freeNat s.free, { s with free := s.free + 1 })

/-- Draws a free handle, never 0 (R155). -/
def State.drawHandle (s : State) : Word × State :=
  let v := s.draw
  (if BitVec.ofNat 32 v.1 = 0 then 1 else BitVec.ofNat 32 v.1, v.2)

/-- Microseconds, milliseconds and seconds in ns. -/
def usNs (n : Nat) : Nat := n * 1000
def msNs (n : Nat) : Nat := n * 1000000
def secNs (n : Nat) : Nat := n * 1000000000

/-! ### ERR_N, and how every command ends -/

/-- R451: the collector drives ERR_N low. -/
def State.errnLow (s : State) : Bool :=
  s.flt.safe || s.flt.swLevel || s.flt.pulseEnd != 0 ||
    s.flt.src.any fun e => e.2.cause && decide (s.fltMram.levelClass.toNat ≤ e.2.lastClass.toNat)

/-- R18, R451: the level the GM8 drives on ERR_N: low when `true`. -/
def State.errnDriven (s : State) : Bool :=
  s.errnLow || s.pins.errnHeld || s.boot.phase == .waitRef || s.boot.phase == .limp || s.boot.phase == .powerOnReset ||
    s.boot.phase == .pinReset

/-- R18, R451: ERR_N goes to the level that the rest of the state gives it; an edge is what an observer sees. -/
def State.driveErrn (s : State) : State :=
  if s.pins.errnLow = s.errnDriven then s
  else { s with pins := { s.pins with errnLow := s.errnDriven }, out := .errn s.errnDriven :: s.out }

/-- How every meaning ends: with a next state, ERR_N driven to its level (log 3). -/
def done (s : State) : Host.Outcome State Fault Refusal := .next s.driveErrn

end Sys2Proof.Machine
end

