-- ==== Sys2Proof/Machine/FaultTable.lean ====
section
/-! DEFINITION. The fault sources: the unit each belongs to and the class each detail carries (R437, R438 and
the tables of the chapters it names). -/

namespace Sys2Proof.Machine

/-- R437: the fence register and bit of a source's unit. -/
def fenceBit (x : Nat) : Option (Nat × Nat) :=
  if x < 32 then some (0, x)
  else if x < 40 then some (1, x - 32)
  else if x < 48 then some (1, 8 + (x - 40))
  else if x < 52 then some (1, 16 + (x - 48))
  else if x < 56 then some (1, 20 + (x - 52))
  else if x = 56 then none
  else if x < 61 then some (1, 24 + (x - 57))
  else if x < 71 then none
  else if x < 95 then some (3, 4)
  else if x < 127 then some (2, x - 95)
  else if x < 131 then some (1, 28 + (x - 127))
  else if x < 135 then some (3, x - 131)
  else none

/-- R437: sources 71–94 are together one unit; every other source stands for its own. -/
def unitRep (x : Nat) : Nat := if 71 ≤ x ∧ x ≤ 94 then 71 else x

/-- The sources of a source's unit. -/
def unitSources (x : Nat) : List Nat := if unitRep x = 71 then (List.range 24).map (· + 71) else [x]

/-- R447: a covered unit is a lane, scaler, DSC engine, CXL port or Ethernet port. -/
def isCovered (x : Nat) : Bool :=
  decide (x < 32) || (decide (40 ≤ x) && decide (x < 56)) || (decide (57 ≤ x) && decide (x < 61))

/-- R437: the loss variant of a covered unit's source. -/
def lossVariant (x : Nat) : Nat :=
  if x < 16 then 2 + x
  else if x < 32 then 2 + (x - 16)
  else if x < 48 then 26 + (x - 40)
  else if x < 52 then 34 + (x - 48)
  else if x < 56 then 18 + (x - 52)
  else 22 + (x - 57)

/-- R447: lane k and scaler k count as one covered unit. -/
def coveredUnit (x : Nat) : Nat := if x < 32 then x % 16 else x

/-- Detail code and class, as the chapters list them. -/
def fltDetails (x : Nat) : List (Nat × Nat) :=
  if x < 16 then [(1, 2), (2, 1), (3, 2), (4, 3)]                       -- R292
  else if x < 32 then [(1, 1), (2, 1), (3, 2), (4, 2)]                  -- R267
  else if x < 40 then [(1, 2), (2, 1), (3, 1), (4, 1), (5, 2), (6, 2)]  -- R313
  else if x < 52 then [(1, 2), (2, 1), (3, 2), (4, 3)]                  -- R349
  else if x < 56 then [(1, 2), (2, 2), (3, 2), (4, 2), (5, 1), (6, 3)]  -- R515
  else if x = 56 then [(1, 1), (2, 2)]                                  -- R517
  else if x < 61 then [(1, 2), (2, 1), (3, 1), (4, 2), (5, 3), (7, 0), (8, 1)]  -- R372
  else if x < 71 then []
  else if x < 95 then [(1, 1), (2, 2), (3, 3)]                          -- R516
  else if x < 127 then [(1, 0), (2, 1), (3, 2), (4, 3)]                 -- R399
  else if x < 131 then [(1, 0), (2, 2), (3, 2)]                         -- R399
  else if x < 135 then [(1, 2), (2, 2)]                                 -- R399
  else if x = 183 then [(1, 1), (2, 1), (3, 1), (4, 1), (5, 2)]         -- R518
  else []

/-- The single class of a source whose chapter gives only one. -/
def fltSingle (x : Nat) : Nat :=
  if x < 61 then 0
  else if x < 69 then 2                                                 -- R67
  else if x < 71 then 3
  else if x < 135 then 0
  else if x < 151 then [1, 3, 3, 3, 1, 1, 0, 0, 1, 1, 1, 0, 1, 2, 3, 0].getD (x - 135) 0  -- R218, R246
  else if x < 159 then [1, 1, 3, 2, 1, 1, 3, 2].getD (x - 151) 0        -- R104
  else if x < 175 then [1, 0, 1, 0, 1, 3, 3, 2, 1, 2, 1, 1, 1, 2, 3, 3].getD (x - 159) 0  -- R498
  else if x < 183 then 4                                                -- R457
  else if x = 183 then 0
  else [3, 1, 3, 4, 2, 0, 0, 0].getD (x - 184) 0                        -- R458

/-- R516, R515, R517, R518: sources whose detail carries its code in bits 7:0. -/
def fltCoded (x : Nat) : Bool :=
  (decide (52 ≤ x) && decide (x ≤ 56)) || (decide (71 ≤ x) && decide (x ≤ 94)) || x == 183

/-- R438: the highest class that any detail of the source carries. -/
def fltMaxClass (x : Nat) : Nat := (fltDetails x).foldl (fun m e => max m e.2) (fltSingle x)

/-- R438: the class a detail carries; an unlisted detail carries the source's highest. -/
def fltClass (x : Nat) (detail : Word) : Nat :=
  let code := if fltCoded x then detail.toNat % 256 else detail.toNat
  match (fltDetails x).find? fun e => e.1 == code with
  | some e => e.2
  | none => fltMaxClass x

/-- FLT_FENCEk. -/
def State.fenceWord (s : State) (k : Nat) : Word := tabGet s.flt.fence k

/-- FLT_LOCKk. -/
def State.lockWord (s : State) (k : Nat) : Word := tabGet s.fltMram.lock k

/-- The unit of source `x` is fenced (R446). -/
def State.fenced (s : State) (x : Nat) : Bool :=
  match fenceBit x with
  | some (k, b) => (s.fenceWord k).getLsbD b
  | none => false

/-- The unit of source `x` is locked (R449). -/
def State.fltLocked (s : State) (x : Nat) : Bool :=
  match fenceBit x with
  | some (k, b) => (s.lockWord k).getLsbD b
  | none => false

end Sys2Proof.Machine
end

