-- ==== Sys2Proof/Machine/Formats.lean ====
section
/-! DEFINITION. Surface formats (R224), output encodings (R283) and the format ingest and writeback use for each
encoding (R375, R382). -/

namespace Sys2Proof.Machine

/-- What a surface format is (R224, R272). -/
structure Fmt where
  code : Nat
  /-- R224: box bytes. -/
  box : Nat
  /-- Bytes of one plane-0 element of one pixel. -/
  bytes : Nat
  /-- Bytes of one plane-1 word; 0 for a format with one plane. -/
  plane1 : Nat := 0
  /-- Chroma is halved horizontally. -/
  subH : Bool := false
  /-- Chroma is halved vertically. -/
  subV : Bool := false
  /-- YCbCr, Y8 included (R272). -/
  ycc : Bool := false
  /-- The format carries alpha. -/
  alpha : Bool := false
  /-- Depth row of R272: 8, 10 or 16. -/
  depth : Nat := 8
  deriving DecidableEq, Repr, Inhabited

/-- R224: the formats. -/
def fmts : List Fmt := [
  { code := 0x01, box := 1, bytes := 1, alpha := true },
  { code := 0x02, box := 1, bytes := 1, ycc := true },
  { code := 0x10, box := 2, bytes := 2 },
  { code := 0x11, box := 2, bytes := 2, alpha := true },
  { code := 0x12, box := 2, bytes := 2, alpha := true },
  { code := 0x20, box := 4, bytes := 4, alpha := true },
  { code := 0x21, box := 4, bytes := 4 },
  { code := 0x22, box := 4, bytes := 4, alpha := true },
  { code := 0x23, box := 4, bytes := 4, alpha := true, depth := 10 },
  { code := 0x30, box := 2, bytes := 2, subH := true, ycc := true },
  { code := 0x31, box := 2, bytes := 1, plane1 := 2, subH := true, subV := true, ycc := true },
  { code := 0x32, box := 3, bytes := 2, plane1 := 4, subH := true, subV := true, ycc := true, depth := 10 },
  { code := 0x33, box := 2, bytes := 1, plane1 := 2, subH := true, ycc := true },
  { code := 0x34, box := 4, bytes := 4, ycc := true, alpha := true, depth := 10 },
  { code := 0x40, box := 8, bytes := 8, alpha := true, depth := 16 },
  { code := 0x41, box := 8, bytes := 8, alpha := true, depth := 16 },
  { code := 0x50, box := 2, bytes := 2 },
  { code := 0x51, box := 4, bytes := 4 }]

/-- R224: the format of a code. -/
def fmtOf (code : Nat) : Option Fmt := fmts.find? fun f => f.code == code

/-- Up to a multiple of `k`. -/
def upTo (k n : Nat) : Nat := (n + k - 1) / k * k

/-- R222: the least stride of a format and width. -/
def leastStride (f : Fmt) (w : Nat) : Nat := upTo 64 (f.bytes * w)

/-- Lines of plane 1. -/
def plane1Lines (f : Fmt) (h : Nat) : Nat := if f.plane1 = 0 then 0 else if f.subV then (h + 1) / 2 else h

/-- Bytes a surface occupies, one copy of it (R222). -/
def surfBytes (f : Fmt) (h stride plane1 : Nat) : Nat :=
  if f.plane1 = 0 then stride * h else plane1 + stride * plane1Lines f h

/-! ### Output encodings -/

/-- R283: chroma of an encoding: 0 RGB, 1 4:4:4, 2 4:2:2, 3 4:2:0. -/
def encChroma (code : Nat) : Nat := if code < 0x10 then 0 else code % 16 / 2 + 1

/-- R283: bits per component. -/
def encBits (code : Nat) : Nat :=
  if code = 4 then 6 else if code < 0x10 then (if code < 2 then 8 else 10) else if code % 2 = 0 then 8 else 10

/-- R283: the code exists and its kind of output permits it. -/
def encOk (kind code : Nat) : Bool :=
  if code < 4 then true
  else if code = 4 then kind == 0
  else decide (0x10 ≤ code) && decide (code < 0x40) && decide (code % 16 ≤ 5) && kind != 0

/-- R375, R382: the format written for an encoding. -/
def encFormat (code : Nat) : Option Nat :=
  if code ≤ 4 then some (if encBits code = 10 then 0x23 else 0x20)
  else if encChroma code = 3 then some (if encBits code = 8 then 0x31 else 0x32)
  else if encChroma code = 2 then (if encBits code = 8 then some 0x33 else none)
  else some 0x34

/-- R375: stride, plane-1 offset and bytes of one ring buffer of a source. -/
def ringBuffer (fmt w h : Nat) : Nat × Nat × Nat :=
  let f := (fmtOf fmt).getD default
  let stride := leastStride f w
  let p1 := if f.plane1 = 0 then 0 else upTo 256 (stride * h)
  (stride, p1, upTo 256 (surfBytes f h stride p1))

/-- R328: bytes of one slice: slice height times the chunk size of DSC 1.2b, ceil(bpp × width / 8). -/
def sliceBytes (bpp w h : Nat) : Nat := h * ceilDiv (bpp * w) 128

end Sys2Proof.Machine
end

