-- ==== Sys2Proof/Machine/Grants.lean ====
section
/-! DEFINITION. What each function holds a grant of (R123, R156). The physical function holds every grant. -/

namespace Sys2Proof.Machine

/-- All function numbers. -/
def allFns : List Nat := List.range 16

/-- A range table covers `x`, the range given as first and count. -/
def rangeCovers (t : Tab GrantRange) (x : Nat) : Bool :=
  t.any fun e => e.2.valid && decide (e.2.first ≤ x) && decide (x < e.2.first + e.2.extent)

/-- A source range table covers `x`, the range given as first and last. -/
def spanCovers (t : Tab GrantRange) (x : Nat) : Bool :=
  t.any fun e => e.2.valid && decide (e.2.first ≤ x) && decide (x ≤ e.2.extent)

/-- R134: function `f` exists. -/
def State.hasFn (s : State) (f : Nat) : Bool := f == 0 || (s.host.vfEnable && (s.fn f).enabled)

/-- R57: configuration requests are answered with Configuration Request Retry Status until firmware, or the ROM in limp mode or host recovery, serves
the function. -/
def State.cfgRetry (s : State) : Bool := s.boot.phase != .running && s.boot.phase != .limp && s.boot.phase != .recovery

/-- R133, R134: an access of function `f` reaches the GM8: the function exists and the data link is up. -/
def State.reached (s : State) (f : Nat) : Bool := s.hasFn f && s.host.linkUp && !s.host.inReset && !s.cfgRetry

/-- R55, R57, R133: function `f` reaches its BARs while firmware runs; limp mode and host recovery expose the ID block alone. -/
def State.barOpen (s : State) (f : Nat) : Bool := s.reached f && s.boot.phase == .running

/-- R156 kind 0: layer slot `x`. -/
def State.hasSlot (s : State) (f x : Nat) : Bool := f == 0 || rangeCovers (s.fn f).slots x

/-- R156 kind 1: timing group `g`, as in force. -/
def State.hasGroup (s : State) (f g : Nat) : Bool := f == 0 || (s.fn f).groupsInForce.getLsbD g

/-- R156 kind 3: host-memory surfaces. -/
def State.hasHostMem (s : State) (f : Nat) : Bool := f == 0 || (s.fn f).hostMem

/-- R156 kind 4: DMA channel `c`. -/
def State.hasDma (s : State) (f c : Nat) : Bool := f == 0 || (s.fn f).dma.getLsbD c

/-- R156 kind 5: filtered counter `c`. -/
def State.hasCounter (s : State) (f c : Nat) : Bool := f == 0 || (s.fn f).counters.getLsbD c

/-- R156 kind 6: interrupt source `x`. -/
def State.hasIrq (s : State) (f x : Nat) : Bool :=
  if f = 0 then decide (1 ≤ x) && decide (x ≤ 639) else spanCovers (s.fn f).irqs x

/-- R156 kind 7: fault and pace status read. -/
def State.hasFltRead (s : State) (f : Nat) : Bool := f == 0 || (s.fn f).fltRead

/-- R156 kind 8: KCP command group `k`; group 0 needs no grant. -/
def State.hasCmdGroup (s : State) (f k : Nat) : Bool := k == 0 || f == 0 || (s.fn f).cmdGroups.getLsbD k

/-- R124: an access the function may not make is counted in its ID_DENIED. -/
def State.denied (f : Nat) (s : State) : State := (s.modFn f fun x => { x with denied := satInc x.denied }).count 200

end Sys2Proof.Machine
end

