-- ==== Sys2Proof/Machine/NetPorts.lean ====
section
/-! DEFINITION. The Ethernet ports as every sender uses them: which ports carry traffic, their queues, and address resolution (R352–R364). -/

namespace Sys2Proof.Machine

def State.modNet (f : NetSt → NetSt) (s : State) : State := { s with net := f s.net }
def State.modNetMram (f : NetMram → NetMram) (s : State) : State := { s with netMram := f s.netMram }

/-- Ethernet port `p` (R352). -/
def State.eth (s : State) (p : Nat) : EthSt := tabGet s.net.ports p
/-- Changes Ethernet port `p`. -/
def State.modEth (p : Nat) (f : EthSt → EthSt) (s : State) : State :=
  s.modNet fun n => { n with ports := tabMod n.ports p f }
/-- Configuration of Ethernet port `p` (R374). -/
def State.ethCfg (s : State) (p : Nat) : PortCfg := tabGet s.netMram.ports p

/-- R370, R77: port `p` can send and receive frames. -/
def State.portUp (s : State) (p : Nat) : Bool := (s.eth p).up && (s.ethCfg p).enabled && !(s.pll 9).gated

/-- R357: port `p` carries ADT, KCP, ARP and ICMP traffic: in must-secure mode only once a SAK is installed. -/
def State.portCarries (s : State) (p : Nat) : Bool := s.portUp p && ((s.ethCfg p).secMode != 2 || (s.eth p).secured)

/-- Queue `q` of port `p`: 0 time, 1 control, 2 repair, 3 management (R364). -/
def State.queue (s : State) (p q : Nat) : NetQueue := tabGet (s.eth p).queues q

/-- Changes queue `q` of port `p`. -/
def State.modQueue (p q : Nat) (f : NetQueue → NetQueue) (s : State) : State :=
  s.modEth p fun e => { e with queues := tabMod e.queues q f }

/-- R364: puts a frame into a queue of 256 KiB; one that finds no room is dropped and counted. -/
def State.enqueue (p q : Nat) (f : QFrame) (s : State) : State :=
  if 262144 < ((s.queue p q).frames.map (·.wire)).sum + f.wire then s.count (256 + 8 * p + 7)
  else s.modQueue p q fun x => { x with frames := x.frames ++ [f] }

/-- A short frame of the management class: ARP, Neighbor Discovery, ICMP or MKA. -/
def State.manage (p : Nat) (what : String) (fields : List Nat) (s : State) : State :=
  if (s.portCarries p || (what == "MKA" && s.portUp p)) then s.enqueue p 3 { wire := 84, what := what, fields := fields } else s

/-- R354: port `p` knows the MAC address behind an IP address. -/
def State.resolved (s : State) (p addr : Nat) : Bool := (tabGet (s.eth p).neighbours addr).resolved

/-- R354: puts an entry into the neighbour cache of port `p`, which holds 2,048: the oldest gives way, and what waits for it is discarded. -/
def State.keepNeighbour (p addr : Nat) (n : Neighbour) (s : State) : State :=
  let t := (s.eth p).neighbours
  let old := if t.length < 2048 ∨ t.any fun e => e.1 == addr then none
    else t.foldl (fun (m : Option (Nat × Nat)) e => match m with
      | some o => if e.2.since < o.2 then some (e.1, e.2.since) else m
      | none => some (e.1, e.2.since)) none
  match old with
  | none => s.modEth p fun e => { e with neighbours := tabSet e.neighbours addr n }
  | some o =>
    let lost := ((s.eth p).unresolved.filter fun e => e.1 == o.1).length
    (s.modEth p fun e => { e with neighbours := tabSet (tabErase e.neighbours o.1) addr n,
                                  unresolved := e.unresolved.filter fun e => e.1 != o.1 }).countN (256 + 8 * p + 7) lost

/-- R354: asks for the MAC address of an IP address; the first request starts the 1 s. -/
def State.askNeighbour (p addr : Nat) (s : State) : State :=
  let n := tabGet (s.eth p).neighbours addr
  let n : Neighbour := { n with resolved := false, since := if n.tries = 0 then s.now else n.since, tries := n.tries + 1 }
  let s := s.keepNeighbour p addr n
  s.manage p (if addr < 2 ^ 32 then "ARP" else "NS") [addr]

/-- R354, R364: an IP datagram to an address: it waits for resolution when the port does not know the address. -/
def State.sendIp (p q addr : Nat) (f : QFrame) (s : State) : State :=
  if !s.portCarries p then s
  else if s.resolved p addr then s.enqueue p q { f with mac := (tabGet (s.eth p).neighbours addr).mac }
  else
    let asked := (tabGet (s.eth p).neighbours addr).tries != 0
    let s := s.modEth p fun e => { e with unresolved := e.unresolved ++ [(addr, q, f)] }
    if asked then s else s.askNeighbour p addr

end Sys2Proof.Machine
end

