-- ==== Sys2Proof/Machine/UdpSend.lean ====
section
/-! DEFINITION. What the GM8 sends in KCP over UDP: the datagram, its tag and its encryption, in the management class (R160–R164, R364). -/

namespace Sys2Proof.Machine

/-- A number from bytes, most significant first (R7). -/
def beNat (bs : List Byte) : Nat := leNat bs.reverse

/-- R160: the 24 header bytes of a datagram that the GM8 sends. -/
def dgramHead (kind : Nat) (secret : Bool) (slot : Nat) (handle : Word) (counter : Long) (size : Nat) : List Byte :=
  beBytes 2 0x4B43 ++ [1, BitVec.ofNat 8 (kind + 128 * b2n secret)] ++ beBytes 2 slot ++ zeros 2 ++ beBytes 4 handle.toNat ++
    beBytes 8 counter.toNat ++ beBytes 2 size ++ zeros 2

/-- R160: a datagram sealed under a key: the nonce is the direction from the GM8, 1, and the counter; GMAC over all of it, or GCM of the body. -/
def sealDgram (key kind : Nat) (secret : Bool) (slot : Nat) (handle : Word) (counter : Long) (body : List Byte) : List Byte :=
  let head := dgramHead kind secret slot handle counter body.length
  let nonce := 2 ^ 64 + counter.toNat
  let sent := if secret then (List.range body.length).map (Config.gcmByte key nonce body) else body
  let tag := if secret then Config.gcmTag key nonce head sent else Config.gcmTag key nonce (head ++ body) []
  head ++ sent ++ beBytes 16 tag.toNat

/-- R162, R362: the length on the wire of a management datagram of `n` payload bytes on port `p`. -/
def State.mgmtWire (s : State) (p n : Nat) : Nat :=
  max 84 (n + 8 + (if s.netMgmt.ipVersion = 4 then 20 else 40) + 18 + (if s.netMgmt.vlan ≠ 0 then 4 else 0) +
    (if (s.ethCfg p).secMode ≠ 0 then 32 else 0) + 20)

/-- R162, R364: a KCP datagram goes out on a port to an address and UDP port, in the management class, with the VLAN and PCP of R162. -/
def State.sendKcp (p peer udpPort : Nat) (bytes : List Byte) (s : State) : State :=
  s.sendIp p 3 peer { wire := s.mgmtWire p bytes.length, what := "KCP", dest := peer,
                      fields := [udpPort, s.netMgmt.port.toNat, s.netMgmt.vlan.toNat, s.netMgmt.pcp.toNat] ++ bytes.map (·.toNat) }

/-- UDP session `k` (R161). -/
def State.udp (s : State) (k : Nat) : UdpSess := tabGet s.host.udp k

/-- Changes UDP session `k`. -/
def State.modUdp (k : Nat) (f : UdpSess → UdpSess) (s : State) : State :=
  s.modHost fun h => { h with udp := tabMod h.udp k f }

/-- R160, R163: a datagram to the peer of UDP session `k`, under the session key and the next counter. -/
def udpSend (k kind : Nat) (secret : Bool) (body : List Byte) (s : State) : State :=
  let u := s.udp k
  (s.modUdp k fun u => { u with txCounter := u.txCounter + 1 }).sendKcp u.eth u.peer u.udpPort
    (sealDgram u.key kind secret u.keySlot u.session.handle u.txCounter body)

end Sys2Proof.Machine
end

