-- ==== Sys2Proof/Machine/Records.lean ====
section
/-! DEFINITION. Event records: which ring takes one, how it is written and signalled (R128–R132, R163). -/

namespace Sys2Proof.Machine

/-- R127: records a ring holds; a log2_size outside 6–16 acts as 6. -/
def EvtRing.size (r : EvtRing) : Nat :=
  if 6 ≤ r.log2Size.toNat ∧ r.log2Size.toNat ≤ 16 then 2 ^ r.log2Size.toNat else 64

/-- R127: EVT_RINGn_STATUS.full. -/
def EvtRing.full (r : EvtRing) : Bool := (r.prod - r.cons).toNat == r.size

/-- R128: the phase bit of the record written at `prod`: 1 on the first pass, toggling at each wrap. -/
def EvtRing.phase (r : EvtRing) : Bool := r.prod.toNat / r.size % 2 == 0

/-- R127: the ring runs and its types bit t − 1 accepts type `t`. -/
def EvtRing.accepts (r : EvtRing) (t : Nat) : Bool := r.enable && r.types.getLsbD (t - 1)

/-- R135, R133, R42: function `f` can issue writes to host memory. -/
def State.fnReach (s : State) (f : Nat) : Bool :=
  s.hasFn f && s.host.linkUp && !s.host.inReset && (s.fn f).bme

/-- R129: the lowest-numbered enabled ring of `f` that accepts type `t`. -/
def State.ringFor (s : State) (f t : Nat) : Option Nat :=
  (List.range 4).find? fun n => (s.ring f n).accepts t

/-- R455: a disagreement is open. -/
def State.disagree (s : State) : Bool := !s.flt.disagreements.isEmpty

/-- R130: sends the ring's MSI-X message, or sets the pending bit of a masked vector. -/
def State.signal (f n : Nat) (s : State) : State :=
  let r := s.ring f n
  let k := 128 * f + r.vector.toNat
  let s := s.setRing f n { r with unsignalled := 0 }
  if (tabGet s.host.msix k).masked then
    s.modHost fun h => { h with msix := tabMod h.msix k fun v => { v with pending := true } }
  else (s.emit (.msix f r.vector.toNat)).count 196

/-- R130: signals when the unsignalled records reach count (0 acts as 1). -/
def State.signalIfDue (f n : Nat) (s : State) : State :=
  let r := s.ring f n
  if max 1 r.coalCount.toNat ≤ r.unsignalled then s.signal f n else s

/-- R128, R130: writes one record into ring `n` of `f`, which has space, then the producer count at size × 32, then signals. Each record is a batch of
its own (DESIGN CHOICE, log 39). -/
def State.putRecord (f n t : Nat) (subject : Half) (payload : List Byte) (s : State) : State :=
  let r := s.ring f n
  let flags := packBits [(0, 1, b2n r.phase), (1, 1, b2n r.owesOverflow), (2, 1, b2n s.clk.valid), (3, 1, b2n s.disagree)]
  let rec' : EvtRecord :=
    { fn := f, ring := n, fmt1 := r.fmt1, type := t, flags := BitVec.ofNat 8 flags, subject := subject, seq := r.seq,
      time := if r.fmt1 then 0 else s.planTime, payload := fitBytes 16 payload,
      addr := r.base.toNat + 32 * (r.prod.toNat % r.size) }
  let r' := { r with prod := r.prod + 1, written := r.written + 1, seq := r.seq + 1, owesOverflow := false,
                     unsignalled := r.unsignalled + 1,
                     oldestAt := if r.unsignalled = 0 then s.now else r.oldestAt }
  let r' := { r' with fullSince := if r'.full then s.now + 1 else 0 }
  let s := ((s.setRing f n r').emit (.record rec' (rec'.bytes false))).count 195
  (s.emit (.hostWrite (r.base.toNat + 32 * r.size) (leBytes 4 r'.written.toNat))).signalIfDue f n

/-- R129: a record that finds its ring full is dropped and counted, except type 0x01, which stays pending. -/
def State.dropRecord (f n t : Nat) (s : State) : State :=
  if t = 1 then s
  else (s.modRing f n fun r => { r with dropped := satInc r.dropped, overflow := true, owesOverflow := true }).count 212

/-- R129: writes or drops a record of type `t` in the ring that takes it. -/
def State.ringRecord (f t : Nat) (subject : Half) (payload : List Byte) (s : State) : State :=
  match s.ringFor f t with
  | none => s
  | some n => if (s.ring f n).full then s.dropRecord f n t else s.putRecord f n t subject payload

/-- R160, R163: sends the record to one UDP session that asked for its type, at most 1,000 in any second. -/
def State.udpRecord (k t : Nat) (subject : Half) (payload : List Byte) (s : State) : State :=
  let u := s.udp k
  if u.inUse && u.opened && u.eventMask.getLsbD (t - 1) then
    let recent := u.eventsAt.filter fun x => decide (s.now < x + secNs 1)
    if 1000 ≤ recent.length then
      s.modUdp k fun u => { u with eventsAt := recent, eventDropped := satInc u.eventDropped, owesOverflow := true }
    else
      let flags := packBits [(1, 1, b2n u.owesOverflow), (2, 1, b2n s.clk.valid), (3, 1, b2n s.disagree)]
      let r : EvtRecord :=
        { fn := u.role, ring := 0, fmt1 := false, type := t, flags := BitVec.ofNat 8 flags, subject := subject, seq := 0,
          time := s.planTime, payload := fitBytes 16 payload }
      udpSend k 2 u.secret (r.bytes true) (s.modUdp k fun u => { u with eventsAt := s.now :: recent, owesOverflow := false })
  else s

/-- R129: the ring that takes type `t` of function `f` is full. -/
def State.ringBlocked (s : State) (f t : Nat) : Bool := match s.ringFor f t with | some n => (s.ring f n).full | none => false

/-- R132: the type 0x0A record of kind 2 with the stale duration and the dropped count, then nothing owed; it stays owed while its ring is full. -/
def State.payStale (f : Nat) (s : State) : State :=
  if (s.fn f).oweStale && !s.ringBlocked f 0x0A then
    let ms := (s.now - (s.fn f).staleAt) / 1000000
    let s := s.ringRecord f 0x0A 2 (leBytes 2 1 ++ zeros 2 ++ leBytes 4 ms ++ leBytes 4 (s.fn f).staleDropped.toNat)
    s.modFn f fun x => { x with oweStale := false, staleDropped := 0 }
  else s

/-- R133, R134: what the PF's ring 0 owes once enabled comes first: a surprise-down's record, and an FLR's. -/
def State.payOwed (s : State) : State :=
  if !(s.ring 0 0).enable || !s.fnReach 0 || s.ringBlocked 0 0x0A then s
  else
    let h := s.host
    let s := if h.surpriseOwed = 0 then s
      else
        (s.ringRecord 0 0x0A 0 (leBytes 2 h.surpriseOwed.toNat ++ zeros 2 ++ leBytes 4 h.surpriseFor ++ leBytes 4 h.surpriseLost.toNat)).modHost
          fun h => { h with surpriseOwed := 0, surpriseLost := 0, surpriseAt := 0, surpriseFor := 0 }
    if h.oweFlr && !s.ringBlocked 0 0x0A then (s.ringRecord 0 0x0A 1 (leBytes 2 1)).modHost fun h => { h with oweFlr := false } else s

/-- A record of type `t` for function `f` over PCIe (R129, R132, R133, R135). -/
def State.hostRecord (f t : Nat) (subject : Half) (payload : List Byte) (s : State) : State :=
  if !s.fnReach f then
    if s.host.surpriseAt = 0 then s
    else s.modHost fun h => { h with surpriseLost := satInc h.surpriseLost }
  else if (s.fn f).stale then s.modFn f fun x => { x with staleDropped := satInc x.staleDropped }
  else ((if f = 0 then s.payOwed else s).payStale f).ringRecord f t subject payload

/-- A record of type `t` for function `f`: to its ring, and to the UDP sessions of its role (R129, R163). -/
def State.record (f t : Nat) (subject : Half) (payload : List Byte) (s : State) : State :=
  let s := s.hostRecord f t subject payload
  (List.range 8).foldl (fun s k => if (tabGet s.host.udp k).role == f then s.udpRecord k t subject payload else s) s

/-- The same record for every function that `p` names. -/
def State.recordTo (p : Nat → Bool) (t : Nat) (subject : Half) (payload : List Byte) (s : State) : State :=
  (allFns.filter fun f => s.hasFn f && p f).foldl (fun s f => s.record f t subject payload) s

/-- A type 0x09 service event: service, code, subject, detail bytes (R131). -/
def State.serviceEvent (p : Nat → Bool) (service : Half) (code : Nat) (subject : Nat) (detail : List Byte) (s : State) : State :=
  s.recordTo p 9 service (leBytes 2 code ++ zeros 2 ++ leBytes 4 subject ++ fitBytes 8 detail)

/-- A type 0x08 link-state record: kind and index, state, rate, width (R131), to every function. -/
def State.linkRecord (kind index state rate width : Nat) (s : State) : State :=
  s.recordTo (fun _ => true) 8 (BitVec.ofNat 16 (256 * kind + index))
    [BitVec.ofNat 8 state, BitVec.ofNat 8 rate, BitVec.ofNat 8 width]

end Sys2Proof.Machine
end

