-- ==== Sys2Proof/Machine/Intc.lean ====
section
/-! DEFINITION. The interrupt controller: inputs, rounds, claims and completions (R420–R433). -/

namespace Sys2Proof.Machine

/-- R420, R398: the completion queues' inputs are conditions; every other input is an event. -/
def intIsCond (x : Nat) : Bool := decide (33 ≤ x) && decide (x ≤ 40)

/-- R420: a source with an input of its own or a software raise; 0 and 536–639 are never pending. -/
def intReal (x : Nat) : Bool := decide (1 ≤ x) && decide (x ≤ 535)

/-- R420: an event of source `x` occurs. -/
def State.pend (x : Nat) (s : State) : State :=
  if intReal x && !intIsCond x then s.modIntSrc x fun c => { c with rose := true, events := c.events + 1 } else s

/-- R422: a condition input takes the value `b`; the edge detector keeps a change. -/
def State.setCond (x : Nat) (b : Bool) (s : State) : State :=
  if intIsCond x then
    s.modIntSrc x fun c =>
      if c.cond = b then c
      else if b then { c with cond := true, rose := true, events := c.events + 1 }
      else { c with cond := false, fell := true, events := c.events + 1 }
  else s

/-- R422: the sensing in force: events are always code 1. -/
def intSensing (x : Nat) (c : IntSrc) : Nat := if intIsCond x then c.sensing.toNat else 1

/-- R422: edges that latch since the last round. -/
def intEdges (x : Nat) (c : IntSrc) : Nat :=
  match intSensing x c with
  | 0 => 0
  | 1 => if intIsCond x then b2n c.rose else c.events
  | 2 => b2n c.fell
  | _ => c.events

/-- R422: latches `e` edges in one group; an edge that finds the latch set merges. -/
def IntGrp.latchEdges (e : Nat) (g : IntGrp) : IntGrp :=
  if e = 0 then g
  else { g with latch := true, merged := satAdd g.merged (if g.latch then e else e - 1) }

/-- R422: edges of `e` that merge with a latch already set, in the group where more of them do. -/
def IntSrc.merges (e : Nat) (c : IntSrc) : Nat := max (if c.int.latch then e else e - 1) (if c.host.latch then e else e - 1)

/-- R422: latches `e` edges of source `x` in both groups; those that merge are counted. -/
def State.latchEdges (x e : Nat) (s : State) : State :=
  (s.countN 420 ((s.intSrc x).merges e)).modIntSrc x fun c => { c with int := c.int.latchEdges e, host := c.host.latchEdges e }

/-- R423 step 1: samples every input. -/
def intSample (s : State) : State :=
  s.intc.src.foldl (fun s k =>
    (s.latchEdges k.1 (intEdges k.1 (s.intSrc k.1))).modIntSrc k.1 fun c => { c with rose := false, fell := false, events := 0 }) s

/-- R422: pending in a group: a level while it holds, else the latch. -/
def intPending (x : Nat) (c : IntSrc) (g : IntGrp) : Bool := if intSensing x c = 0 then c.cond else g.latch

/-- A source's settings in the host group (`true`) or the internal group. -/
def IntSrc.grp (c : IntSrc) (host : Bool) : IntGrp := if host then c.host else c.int

/-- Changes a source's settings in one group. -/
def State.modGrp (host : Bool) (x : Nat) (f : IntGrp → IntGrp) (s : State) : State :=
  s.modIntSrc x fun c => if host then { c with host := f c.host } else { c with int := f c.int }

/-- R427: the sources active for target `t`, with the priorities they were claimed at. -/
def State.intActive (s : State) (t : Nat) : List (Nat × Nat) :=
  s.intc.src.filterMap fun e =>
    let g := e.2.grp (decide (4 ≤ t))
    if g.active = t + 1 then some (e.1, g.activePrio.toNat) else none

/-- R427: a target's running priority, none when it is idle. -/
def State.intRunning (s : State) (t : Nat) : Option Nat :=
  (s.intActive t).foldl (fun m e => some (max e.2 (m.getD 0))) none

/-- R428: function `f` could take a delivery but for ring space. -/
def State.intHostUp (s : State) (f : Nat) : Bool := s.fnReach f && !(s.fn f).stale && (s.ringFor f 1).isSome

/-- R428: ring space for a type 0x01 record. -/
def State.intHostSpace (s : State) (f : Nat) : Bool :=
  match s.ringFor f 1 with
  | some n => !(s.ring f n).full
  | none => false

/-- R424, R428: the target is enabled. -/
def State.intEnabled (s : State) (t : Nat) : Bool :=
  if t < 4 then (s.intTgt t).enable else s.intHostUp (t - 4) && s.intHostSpace (t - 4)

/-- R424: the target is idle, or the priority is above its running priority. -/
def State.intBeats (s : State) (t prio : Nat) : Bool :=
  match s.intRunning t with
  | none => true
  | some r => decide (r < prio)

/-- R424: targets in cyclic order from the one after the round-robin pointer. -/
def intCycle (host : Bool) (rr : Nat) : List Nat :=
  if host then
    let p := if rr = 0 then 19 else rr - 1
    (List.range 16).map fun i => 4 + (p - 4 + 1 + i) % 16
  else
    let p := if rr = 0 then 3 else rr - 1
    (List.range 4).map fun i => (p + 1 + i) % 4

/-- R421: the target is in the source's target set. -/
def intInSet (g : IntGrp) (t : Nat) : Bool := g.targets.getLsbD (if t < 4 then t else t - 4)

/-- R424: the group's candidates: enabled, unmasked, pending, not active; by priority, then source number. -/
def State.intCandidates (s : State) (host : Bool) : List Nat :=
  let ok := s.intc.src.filter fun e =>
    let g := e.2.grp host
    g.enable && !g.masked && intPending e.1 e.2 g && g.active == 0
  (List.range 16).reverse.flatMap fun p =>
    (ok.filter fun e => (e.2.grp host).prio.toNat == p).map (·.1)

/-- R424: gives one candidate to the first target that may hold it. -/
def State.intOffer (host : Bool) (x : Nat) (s : State) : State :=
  let g := (s.intSrc x).grp host
  match (intCycle host g.rr).find? fun t =>
      intInSet g t && s.intEnabled t && s.intBeats t g.prio.toNat && (s.intTgt t).offer == 0 with
  | some t => s.modIntTgt t fun y => { y with offer := x }
  | none => s

/-- The targets of a group. -/
def intTargets (host : Bool) : List Nat := if host then (List.range 16).map (· + 4) else List.range 4

/-- R431: functions whose offer this round is withheld for a full ring. -/
def State.intWithheld (s : State) : List Nat :=
  (intTargets true).filter fun t =>
    s.intHostUp (t - 4) && !s.intHostSpace (t - 4) &&
      (s.intCandidates true).any fun x =>
        intInSet (s.intSrc x).host t && s.intBeats t (s.intSrc x).host.prio.toNat

/-- R423 step 4 for one group: removes unclaimed offers and rebuilds them. -/
def intSelect (host : Bool) (s : State) : State :=
  let s := (intTargets host).foldl (fun s t => s.modIntTgt t fun y => { y with offer := 0 }) s
  let held := if host then s.intWithheld else []
  let s := held.foldl (fun s t => s.modIntTgt t fun y => { y with held := satInc y.held }) s
  let s := if held.isEmpty then s else s.count 421
  (s.intCandidates host).foldl (fun s x => s.intOffer host x) s

/-- R426: an offer to core `t` that is no longer eligible is withdrawn. -/
def intWithdrawCore (t : Nat) (s : State) : State :=
  let x := (s.intTgt t).offer
  let c := s.intSrc x
  if x = 0 || (c.int.enable && !c.int.masked && intInSet c.int t && intPending x c c.int) then s
  else (s.modIntTgt t fun y => { y with offer := 0, withdrawals := satInc y.withdrawals }).count 418

/-- R423 step 3. -/
def intWithdraw (s : State) : State := (List.range 4).foldl (fun s t => intWithdrawCore t s) s

/-- R425, R429: source `x` becomes active for target `t`. -/
def State.intActivate (host : Bool) (x t : Nat) (s : State) : State :=
  s.modGrp host x fun g =>
    { g with active := t + 1, activePrio := g.prio, rr := t + 1, latch := false, deliveries := satInc g.deliveries }

/-- R425: core `t`'s claim read. -/
def intClaim (t : Nat) (s : State) : State :=
  let x := (s.intTgt t).offer
  if x = 0 then (s.modIntTgt t fun y => { y with empty := satInc y.empty }).emit (.claimed t 0)
  else
    let s := s.modIntTgt t fun y => { y with offer := 0, claims := satInc y.claims }
    ((s.intActivate false x t).count 416).emit (.claimed t x)

/-- R427: a completion of source `x` for target `t`. -/
def intComplete (t x : Nat) (s : State) : State :=
  let host := decide (4 ≤ t)
  if ((s.intSrc x).grp host).active = t + 1 then s.modGrp host x fun g => { g with active := 0, activePrio := 0 }
  else (s.modIntTgt t fun y => { y with spurious := satInc y.spurious }).count 419

/-- R434: sets what the items bits name in the host group; sensing applies to conditions only. -/
def intSet (x : Nat) (items : Byte) (sensing prio enable : Nat) (targets change : Half) (s : State) : State :=
  s.modIntSrc x fun c =>
    let c := if items.getLsbD 0 && intIsCond x then { c with sensing := BitVec.ofNat 2 sensing } else c
    let g := c.host
    let g := if items.getLsbD 1 then { g with prio := BitVec.ofNat 4 prio } else g
    let g := if items.getLsbD 2 then { g with targets := (g.targets &&& ~~~change) ||| (targets &&& change) } else g
    let g := if items.getLsbD 3 then { g with enable := enable != 0 } else g
    { c with host := g }

/-- R431: the host-group masks of word `k`, for the granted sources. -/
def intHostMask (k : Nat) (mask granted : Word) (s : State) : State :=
  (setBits granted).foldl (fun s j => s.modGrp true (32 * k + j) fun g => { g with masked := mask.getLsbD j }) s

/-- R423 step 2: one access. -/
def intAccess (a : IntAccess) (s : State) : State :=
  match a with
  | .claim t => intClaim t s
  | .complete t x => intComplete t x s
  | .coreCtrl t e => s.modIntTgt t fun y => { y with enable := e }
  | .hostMask k m g => intHostMask k m g s
  | .raise x => s.latchEdges x 1
  | .set x i se p e t ch => intSet x i se p e t ch s
  | .drop x f => s.modGrp true x fun g => { g with targets := putBit g.targets f false }
  | .setInternal x e p t m =>
    intWithdraw (s.modGrp false x fun g => { g with enable := e, prio := p, targets := t, masked := m })

/-- R429: turns the offer of host target `t` into a delivery, or lets it lapse. -/
def intCommitHost (t : Nat) (s : State) : State :=
  let x := (s.intTgt t).offer
  if x = 0 then s
  else
    let s := s.modIntTgt t fun y => { y with offer := 0 }
    if s.intEnabled t then
      let prio := (s.intSrc x).host.prio.toNat
      let s := s.record (t - 4) 1 (BitVec.ofNat 16 x) [BitVec.ofNat 8 prio, BitVec.ofNat 8 t]
      let s := s.modIntTgt t fun y => { y with claims := satInc y.claims, delivered := satInc y.delivered }
      (s.intActivate true x t).count 417
    else s

/-- R423: one whole round. -/
def intRound (s : State) : State :=
  let s := intSample s
  let s := (s.intc.accesses).foldl (fun s a => intAccess a s) (s.modIntc fun c => { c with accesses := [] })
  let s := intWithdraw s
  let s := intSelect true (intSelect false s)
  (intTargets true).foldl (fun s t => intCommitHost t s) s

/-- An access that the next round applies. -/
def State.intQueue (a : IntAccess) (s : State) : State :=
  s.modIntc fun c => { c with accesses := c.accesses ++ [a] }

/-- R430: releases what is active for function `f`, without a spurious count. -/
def State.intRelease (f : Nat) (s : State) : State :=
  (s.intActive (4 + f)).foldl (fun s e =>
    (s.modGrp true e.1 fun g => { g with active := 0, activePrio := 0 }).modIntTgt (4 + f) fun y =>
      { y with released := satInc y.released }) s

end Sys2Proof.Machine
end

