-- ==== Sys2Proof/Machine/SeqOps.lean ====
section
/-! DEFINITION. Access to the running trusses, groups, slots, surfaces, heads, ports and engines, and the sill grid
(R169, R193–R196). -/

namespace Sys2Proof.Machine

def State.modTruss (f : TrussSt → TrussSt) (s : State) : State := { s with truss := f s.truss }
def State.modSeq (f : SeqSt → SeqSt) (s : State) : State := { s with seq := f s.seq }
def State.modAdt (f : AdtSt → AdtSt) (s : State) : State := { s with adt := f s.adt }
def State.modDma (f : DmaSt → DmaSt) (s : State) : State := { s with dma := f s.dma }

/-- Store slot `k` (R165). -/
def State.store (s : State) (k : Nat) : StoreSlot := tabGet s.truss.slots k
/-- Changes store slot `k`. -/
def State.modStore (k : Nat) (f : StoreSlot → StoreSlot) (s : State) : State :=
  s.modTruss fun t => { t with slots := tabMod t.slots k f }
/-- Group `g` (R216). -/
def State.group (s : State) (g : Nat) : GroupSt := tabGet s.seq.groups g
/-- Changes group `g`. -/
def State.modGroup (g : Nat) (f : GroupSt → GroupSt) (s : State) : State :=
  s.modSeq fun q => { q with groups := tabMod q.groups g f }
/-- Layer slot `x` (R215). -/
def State.slot (s : State) (x : Nat) : SlotSt := tabGet s.seq.slots x
/-- Changes layer slot `x`. -/
def State.modSlot (x : Nat) (f : SlotSt → SlotSt) (s : State) : State :=
  s.modSeq fun q => { q with slots := tabMod q.slots x f }
/-- Handle `h` (R221). -/
def State.surf (s : State) (h : Nat) : Surface := tabGet s.seq.surfaces h
/-- Changes handle `h`. -/
def State.modSurf (h : Nat) (f : Surface → Surface) (s : State) : State :=
  s.modSeq fun q => { q with surfaces := tabMod q.surfaces h f }
/-- Lane `k`. -/
def State.lane (s : State) (k : Nat) : LaneSt := tabGet s.seq.lanes k
/-- Changes lane `k`. -/
def State.modLane (k : Nat) (f : LaneSt → LaneSt) (s : State) : State :=
  s.modSeq fun q => { q with lanes := tabMod q.lanes k f }
/-- Head `h` (R295). -/
def State.head (s : State) (h : Nat) : HeadSt := tabGet s.heads h
/-- Changes head `h`. -/
def State.modHead (h : Nat) (f : HeadSt → HeadSt) (s : State) : State := { s with heads := tabMod s.heads h f }
/-- Peer `k` (R348). -/
def State.peer (s : State) (k : Nat) : Peer := tabGet s.adt.peers k
/-- Changes peer `k`. -/
def State.modPeer (k : Nat) (f : Peer → Peer) (s : State) : State :=
  s.modAdt fun a => { a with peers := tabMod a.peers k f }
/-- Source ring `x` (R375). -/
def State.ing (s : State) (x : Nat) : IngSt := tabGet s.dma.ing x
/-- R379: address of buffer `i` of a ring. -/
def IngSt.bufAddr (x : IngSt) (i : Nat) : Nat := x.addr + i * x.bufBytes
/-- R380: address of the latest complete buffer, plus one; 0 when there is none. -/
def IngSt.latestBuf (x : IngSt) : Nat := if x.latest = 0 then 0 else x.bufAddr (x.latest - 1) + 1
/-- Changes source ring `x`. -/
def State.modIng (x : Nat) (f : IngSt → IngSt) (s : State) : State := s.modDma fun d => { d with ing := tabMod d.ing x f }
/-- Writeback engine `e` (R381). -/
def State.wb (s : State) (e : Nat) : WbSt := tabGet s.dma.wb e
/-- Changes writeback engine `e`. -/
def State.modWb (e : Nat) (f : WbSt → WbSt) (s : State) : State := s.modDma fun d => { d with wb := tabMod d.wb e f }
/-- DMA channel `c` (R386). -/
def State.ch (s : State) (c : Nat) : DmaCh := tabGet s.dma.ch c
/-- Changes DMA channel `c`. -/
def State.modCh (c : Nat) (f : DmaCh → DmaCh) (s : State) : State := s.modDma fun d => { d with ch := tabMod d.ch c f }
/-- Completion queue `q` (R392). -/
def State.cq (s : State) (q : Nat) : DmaCq := tabGet s.dma.cq q
/-- Changes completion queue `q`. -/
def State.modCq (q : Nat) (f : DmaCq → DmaCq) (s : State) : State := s.modDma fun d => { d with cq := tabMod d.cq q f }

/-- All group numbers. -/
def allGroups : List Nat := List.range 16

/-! ### Trusses -/

/-- The truss in a store slot. -/
def State.trussIn (s : State) (k : Nat) : Truss := ((s.store k).truss).getD default

/-- R11: the running truss, when one runs. -/
def State.running (s : State) : Option Truss := if s.seq.running = 0 then none else (s.store (s.seq.running - 1)).truss

/-- R213: the truss that group `g` runs on; none for a group no running truss holds. -/
def State.grpTruss (s : State) (g : Nat) : Option Truss :=
  if (s.group g).store = 0 then none else (s.store ((s.group g).store - 1)).truss

/-- R216: group `g` runs. -/
def State.grpRuns (s : State) (g : Nat) : Bool := (s.grpTruss g).isSome

/-- The entry of group `g` in a truss. -/
def Truss.group (t : Truss) (g : Nat) : Option TGroup := t.groups.find? fun e => e.id == g

/-- The entry of output `o`. -/
def Truss.output (t : Truss) (o : Nat) : TOutput := t.outputs.getD o {}

/-- R174: the variant whose sections variant `v` uses. -/
def Truss.real (t : Truss) (v : Nat) : Nat := match t.variants.find? fun e => e.id == v with | some e => e.aliasOf | none => 0

/-- R174: variant `v` exists in this truss. -/
def Truss.hasVariant (t : Truss) (v : Nat) : Bool := t.variants.any fun e => e.id == v

/-- R184: variant `v` is admitted at pf. -/
def Truss.reduced (t : Truss) (v : Nat) : Bool :=
  v == 1 || (match t.variants.find? fun e => e.id == v with | some e => e.atPf | none => false)

/-- R184: the pace at which variant `v` is admitted. -/
def Truss.pace (t : Truss) (v : Nat) : Nat := if t.reduced v then t.pf else 1024

/-- R172: the items of variant `v`. -/
def Truss.itemsOf (t : Truss) (v : Nat) : List TItem := tabGetD [] t.items (t.real v)

/-- R173: the fetch entries of variant `v`. -/
def Truss.fetchesOf (t : Truss) (v : Nat) : List TFetch := tabGetD [] t.fetches (t.real v)

/-- R360: the calendar of variant `v`. -/
def Truss.calOf (t : Truss) (v : Nat) : TCalendar := tabGetD {} t.cals (t.real v)

/-- The fetch entries of an item. -/
def Truss.entriesOf (t : Truss) (v : Nat) (i : TItem) : List TFetch := ((t.fetchesOf v).drop i.first).take i.count

/-- The group of an item. -/
def Truss.itemGroup (t : Truss) (i : TItem) : Nat := (t.output i.out).group

/-- The slot entry at a layer position of an output. -/
def Truss.slotAt (t : Truss) (out pos : Nat) : Option TSlot :=
  let x := (t.output out).slots.getD pos 0xFFFF
  if x = 0xFFFF then none else t.slots.find? fun e => e.slot == x && e.out == out

/-- The slots of a group, ascending. -/
def Truss.groupSlots (t : Truss) (g : Nat) : List TSlot :=
  sortBy (fun a b => decide (a.slot ≤ b.slot)) (t.slots.filter fun e => (t.output e.out).group == g)

/-- The index of the output that drives head or endpoint `u` (kind 0 or 1). -/
def Truss.outputOf (t : Truss) (kind u : Nat) : Option Nat := t.outputs.findIdx? fun o => o.kind == kind && o.unit == u

/-- R184: the variant keeps the slot: some item of its output composes its position. -/
def Truss.keeps (t : Truss) (v : Nat) (e : TSlot) : Bool :=
  (t.itemsOf v).any fun i => i.out == e.out && bitOf e.pos i.mask

/-- R184: the variant keeps the output. -/
def Truss.keepsOut (t : Truss) (v o : Nat) : Bool := (t.itemsOf v).any fun i => i.out == o

/-- R194, R195, R314: some head is in group `g` of a truss. -/
def Truss.hasHead (t : Truss) (g : Nat) : Bool := t.outputs.any fun o => o.kind == 0 && o.group == g

/-- The binding of an endpoint (kind 0) or source (kind 1). -/
def Truss.binding (t : Truss) (kind num : Nat) : Option TBinding := t.bindings.find? fun b => b.kind == kind && b.num == num

/-- R215: where a slot stands in the running trusses: its group, its truss and its entry. -/
def State.slotEntry (s : State) (x : Nat) : Option (Nat × Truss × TSlot) :=
  allGroups.findSome? fun g =>
    (s.grpTruss g).bind fun t =>
      (t.slots.find? fun e => e.slot == x && (t.output e.out).group == g).map fun e => (g, t, e)

/-- R314: the group and truss of head `h`, when a running truss names it. -/
def State.headGroup (s : State) (h : Nat) : Option (Nat × Truss × Nat) :=
  allGroups.findSome? fun g =>
    (s.grpTruss g).bind fun t =>
      (t.outputs.findIdx? fun o => o.kind == 0 && o.unit == h && o.group == g).map fun o => (g, t, o)

/-- R351: the group, truss and output of endpoint `e`. -/
def State.endpoint (s : State) (e : Nat) : Option (Nat × Truss × Nat) :=
  allGroups.findSome? fun g =>
    (s.grpTruss g).bind fun t =>
      (t.outputs.findIdx? fun o => o.kind == 1 && o.unit == e && o.group == g).map fun o => (g, t, o)

/-! ### The sill grid -/

/-- One grain, ns (R8). -/
def grain : Nat := 64

/-- R169: grain of frame `j`'s sill within the hyperperiod. -/
def sillGrain (h : Nat) (g : TGroup) (j : Nat) : Nat := g.phase + j * h / g.f

/-- R169: frames from `j` to the next, in grains. -/
def frameGrains (h : Nat) (g : TGroup) (j : Nat) : Nat := (j + 1) * h / g.f - j * h / g.f

/-- R193: nominal period of frame `j`, ns. -/
def framePeriod (h : Nat) (g : TGroup) (j : Nat) : Nat := frameGrains h g j * grain

/-- R169: where the sill of hyperperiod `k`, frame `j`, lies on the grid, in plan time; on time base 0 it may lie before plan time 0. -/
def State.gridAt (s : State) (t : Truss) (g : TGroup) (k j : Nat) : Int :=
  (((if g.base = 0 then t.epoch else 0) + (k * t.h + sillGrain t.h g j) * grain : Nat) : Int) - (if g.base = 0 then s.clk.ntOffset else 0)

/-- R169: plan time of the sill of hyperperiod `k`, frame `j`, on the grid. -/
def State.gridSill (s : State) (t : Truss) (g : TGroup) (k j : Nat) : Nat := (s.gridAt t g k j).toNat

/-- R169: the first sill of the grid at or after a plan time: hyperperiod and frame. -/
def State.gridNext (s : State) (t : Truss) (g : TGroup) (since : Nat) : Nat × Nat :=
  let net := if g.base = 0 then ((since : Int) + s.clk.ntOffset - t.epoch).toNat else since
  let k := net / (t.h * grain)
  let cands := ((List.range (g.f + 1)).map fun j => (k, j)).filter fun c => c.2 < g.f && decide ((since : Int) ≤ s.gridAt t g c.1 c.2)
  match (if k = 0 then [] else [(k - 1, g.f - 1)].filter fun c => decide ((since : Int) ≤ s.gridAt t g c.1 c.2)) ++ cands with
  | c :: _ => c
  | [] => (k + 1, 0)

/-- R203: tPUB of a group in force, ns: SEQ_SET_CUTOFF's, or the truss's (0 means 300 us). -/
def State.cutoffNs (s : State) (g : Nat) : Nat :=
  let c := s.group g
  if c.cutoffSet ≠ 0 then usNs (c.cutoffSet - 1)
  else match (s.grpTruss g).bind fun t => t.group g with
    | some e => usNs (if e.cutoff = 0 then 300 else e.cutoff)
    | none => usNs 300

/-- R331: tANN of a group, ns (0 means 800 us). -/
def State.annNs (s : State) (g : Nat) : Nat :=
  match (s.grpTruss g).bind fun t => t.group g with
  | some e => usNs (if e.ann = 0 then 800 else e.ann)
  | none => usNs 800

/-- R199, R212, R147: sills of the group that pass before the first usable one: 0 when the next sill's cutoff has not passed. -/
def State.usableWait (s : State) (g : Nat) : Nat :=
  if !(s.group g).cutoffPassed && decide (s.clk.plan + s.cutoffNs g < (s.group g).nextAt) then 0 else 1

/-- R196: the frame number of hyperperiod `k`, frame `j`. -/
def frameNumber (g : TGroup) (k j : Nat) : Word := BitVec.ofNat 32 (k * g.f + j)

/-- R199: the frame number of the sill that comes after `wait` more sills. -/
def State.frameAfter (s : State) (g wait : Nat) : Word :=
  match (s.grpTruss g).bind fun t => t.group g with
  | some e => frameNumber e (s.group g).nextHyper (s.group g).nextJ + BitVec.ofNat 32 wait
  | none => 0

/-- R67: PLL8's gate is closed, so neither items nor sills are issued. -/
def State.planGated (s : State) : Bool := (s.pll 8).gated

/-- R192: the sequencer stands still: PLL8 gated, the safe state, or no firmware running. -/
def State.seqStopped (s : State) : Bool := s.planGated || s.flt.safe || s.boot.phase != .running

/-- R195: plan time of a grain of the current frame; in a frame shorter than nominal its offset is compressed, in whole grains. -/
def State.instant (s : State) (g : Nat) (t : Truss) (grainAt : Nat) : Nat :=
  let c := s.group g
  match t.group g with
  | none => c.sillAt
  | some e =>
    let gs := sillGrain t.h e c.j
    let off := if grainAt < gs then grainAt + t.h - gs else grainAt - gs
    let p0 := framePeriod t.h e c.j
    c.sillAt + (if c.period < p0 ∧ p0 ≠ 0 then c.period * off / p0 else off) * grain

/-! ### Fields of a live layer window (R215, R231, R290) -/

/-- Low 16 bits. -/
def lo16 (w : Word) : Nat := w.toNat % 65536
/-- High 16 bits. -/
def hi16 (w : Word) : Nat := w.toNat / 65536
/-- Two 16-bit halves as a word. -/
def halves (lo hi : Nat) : Word := BitVec.ofNat 32 (lo % 65536 + 65536 * hi)

namespace Llw

def surfaceHandle (w : Llw) : Nat := lo16 w.handle
def readyKind (w : Llw) : Nat := bitsOf 0 2 w.ready.toNat
def readyUnit (w : Llw) : Nat := bitsOf 2 3 w.ready.toNat
def readyCount (w : Llw) : Nat := w.ready.toNat / 256
def visible (w : Llw) : Bool := w.ctrl.getLsbD 0
/-- R215: policy; 3 acts as 0. -/
def policy (w : Llw) : Nat := let p := bitsOf 1 2 w.ctrl.toNat; if p = 3 then 0 else p
/-- R231: pre-decimation factor; code 3 stands for no factor. -/
def dec (w : Llw) : Nat := let c := bitsOf 0 2 w.fetch.toNat; if c = 1 then 2 else if c = 2 then 4 else 1
def cellW (w : Llw) : Nat := bitsOf 0 7 w.geom.toNat
def cellH (w : Llw) : Nat := bitsOf 8 7 w.geom.toNat
def perRow (w : Llw) : Nat := bitsOf 16 12 w.geom.toNat
def cols (w : Llw) : Nat := lo16 w.grid
def rows (w : Llw) : Nat := hi16 w.grid
def atlasHandle (w : Llw) : Nat := lo16 w.atlas
def matrix (w : Llw) : Nat := bitsOf 0 3 w.csc.toNat
def limited (w : Llw) : Bool := w.csc.getLsbD 3
def degamma (w : Llw) : Nat := bitsOf 4 3 w.csc.toNat
def premult (w : Llw) : Bool := w.csc.getLsbD 7
def matrixTable (w : Llw) : Nat := bitsOf 8 8 w.csc.toNat
def degammaTable (w : Llw) : Nat := bitsOf 16 8 w.csc.toNat
def mode (w : Llw) : Nat := bitsOf 0 2 w.blend.toNat
def keyEn (w : Llw) : Bool := w.blend.getLsbD 2
def ga (w : Llw) : Nat := hi16 w.blend
/-- The destination rectangle. -/
def dst (w : Llw) : Rect := ⟨lo16 w.dstXy, hi16 w.dstXy, lo16 w.dstWh, hi16 w.dstWh⟩
/-- The source rectangle. -/
def src (w : Llw) : Rect := ⟨lo16 w.srcXy, hi16 w.srcXy, lo16 w.srcWh, hi16 w.srcWh⟩

/-- R215, R231, R290: the writable bits of the register at a window offset; none where no register stands. -/
def mask (off : Nat) : Option Word :=
  if off = 0 then some 0x0000FFFF else if off = 4 then some 0xFFFFFF1F
  else if off = 8 ∨ off = 0xC ∨ off = 0x10 ∨ off = 0x14 then some 0xFFFFFFFF
  else if off = 0x18 then some 0x00003F3F else if off = 0x1C then some 7 else if off = 0x20 then some 0xFFFFFFFF
  else if off = 0x100 then some 7 else if off = 0x104 then some 0xFFFFFFFF else if off = 0x108 then some 0x0FFF7F7F
  else if off = 0x10C then some 0xFFFFFFFF else if off = 0x110 then some 0x0000FFFF
  else if 0x140 ≤ off ∧ off < 0x180 ∧ off % 4 = 0 then some 0xFFFFFFFF
  else if off = 0x180 then some 0x00FFFFFF else if off = 0x184 then some 0xFFFF0007
  else if off = 0x188 ∨ off = 0x18C then some 0x00FFFFFF else none

/-- Writes the register at a window offset, reserved bits kept 0. -/
def put (off : Nat) (v : Word) (w : Llw) : Llw :=
  match mask off with
  | none => w
  | some m =>
    let v := v &&& m
    if off = 0 then { w with handle := v } else if off = 4 then { w with ready := v }
    else if off = 8 then { w with dstXy := v } else if off = 0xC then { w with dstWh := v }
    else if off = 0x10 then { w with srcXy := v } else if off = 0x14 then { w with srcWh := v }
    else if off = 0x18 then { w with phase := v } else if off = 0x1C then { w with ctrl := v }
    else if off = 0x20 then { w with fill := v } else if off = 0x100 then { w with fetch := v }
    else if off = 0x104 then { w with solid := v } else if off = 0x108 then { w with geom := v }
    else if off = 0x10C then { w with grid := v } else if off = 0x110 then { w with atlas := v }
    else if off = 0x180 then { w with csc := v } else if off = 0x184 then { w with blend := v }
    else if off = 0x188 then { w with keyLo := v } else if off = 0x18C then { w with keyHi := v }
    else { w with pal := tabSet w.pal ((off - 0x140) / 4) v }

/-- R215, R231: a slot's window as its truss entry starts it. -/
def start (e : TSlot) : Llw :=
  { handle := BitVec.ofNat 32 e.handle, dstXy := halves e.dst.x e.dst.y, dstWh := halves e.dst.w e.dst.h,
    srcXy := halves e.src.x e.src.y, srcWh := halves e.src.w e.src.h, ctrl := BitVec.ofNat 32 (1 + 2 * (e.policy % 4)),
    fill := BitVec.ofNat 32 e.fill, solid := BitVec.ofNat 32 e.fill }

end Llw

end Sys2Proof.Machine
end

