-- ==== Sys2Proof/Machine/NetOps.lean ====
section
/-! DEFINITION. The Ethernet ports as the GM8 sends through them: who may send, wire lengths, queues, and address resolution
(R352–R364). -/

namespace Sys2Proof.Machine

/-- R362: overhead per fragment of a binding on port `p`. -/
def State.overhead (s : State) (p : Nat) (b : TBinding) : Nat :=
  let c := s.ethCfg p
  40 + 8 + (if c.ipv6 = 0 ∧ c.ipv4 ≠ 0 then 20 else 40) + 18 + (if b.vlan ≠ 0 then 4 else 0) + (if c.secMode ≠ 0 then 32 else 0) +
    (if c.rtag then 6 else 0) + 20

/-- R362: bytes port `p` carries per grain. -/
def State.lineRate (s : State) (p : Nat) : Nat := if (s.ethCfg p).mode = 3 then 80 else 200

/-- R373, R478: a frame of `wire` bytes is received on port `p`. -/
def State.rxFrame (p : Nat) (s : State) (wire : Nat := 84) : State := (s.count (256 + 8 * p + 2)).bwAdd (14 + p) 0 wire

/-- R353, R373: a received frame is discarded. -/
def State.rxDiscard (p : Nat) (s : State) (wire : Nat := 84) : State := (s.rxFrame p wire).count (256 + 8 * p + 3)

/-- R357: the packet number at which firmware asks for a new SAK. -/
def rekeyAt (cipher : Nat) : Nat := if cipher = 1 then 2 ^ 62 else 0xC0000000

/-- R357, R373, R478: a frame of class bit `cls` leaves on port `p`: it is counted, and a protected one takes a packet number; `clear` for 802.1AS and MKA. -/
def State.sentFrame (p wire cls : Nat) (clear : Bool) (s : State) : State :=
  let s := ((s.count (256 + 8 * p)).countUnits (256 + 8 * p + 1) 64 wire).bwAdd (10 + p) cls wire
  let e := s.eth p
  if clear || (s.ethCfg p).secMode == 0 || !e.secured then s
  else
    let ask := e.packet + 1 == rekeyAt (s.ethCfg p).cipher
    let s := s.modEth p fun e => { e with packet := e.packet + 1, rekey := e.rekey || ask }
    if ask then s.manage p "MKA" [1] else s

/-- R371: what a link-state record says of port `p`: 0 down, 1 up, 2 up and secured, 3 disabled, 4 up and waiting for a SAK. -/
def State.ethCode (s : State) (p : Nat) : Nat :=
  if !(s.ethCfg p).enabled then 3
  else if !s.portUp p then 0
  else if (s.ethCfg p).secMode ≠ 0 ∧ (s.eth p).secured then 2
  else if (s.ethCfg p).secMode = 2 then 4
  else 1

/-- R371: port `p` has changed its link state: interrupt source 429 + p and a type 0x08 record. -/
def ethEvent (p : Nat) (s : State) : State :=
  (s.linkRecord 2 p (s.ethCode p) (if (s.ethCfg p).mode = 3 then 1 else 2) 1).pend (429 + p)

/-- R371: the port that carries a change of time mode: the slave port, or the lowest with 802.1AS enabled. -/
def State.timePort (s : State) : Nat :=
  if s.net.slave ≠ 0 then s.net.slave - 1 else ((List.range 4).find? fun p => bitOf p s.netMram.time.ports).getD 0

/-- R75, R371: the time base enters a mode. -/
def setTimeMode (m : BitVec 2) (s : State) : State :=
  if s.clk.mode = m then s else (s.modClk fun c => { c with mode := m, goodSyncs := 0 }).pend (433 + s.timePort)

/-- R354: a valid datagram from an address keeps its MAC address, and what waited for it goes out. -/
def State.learn (p addr mac : Nat) (s : State) : State :=
  let waiting := (s.eth p).unresolved.filter fun e => e.1 == addr
  let s := (s.keepNeighbour p addr ⟨true, mac, s.now, 0⟩).modEth p fun e => { e with unresolved := e.unresolved.filter fun e => e.1 != addr }
  waiting.foldl (fun (s : State) e => s.enqueue p e.2.1 { e.2.2 with mac := mac }) s

/-! ### Peers -/

/-- The binding of peer `k`: endpoint k, or source k − 1,024, in the running trusses. -/
def State.peerBinding (s : State) (k : Nat) : Option TBinding :=
  if k < 1024 then
    match s.endpoint k with
    | some (_, t, _) => t.binding 0 k
    | none => s.running.bind fun t => t.binding 0 k
  else s.running.bind fun t => t.binding 1 (k - 1024)

/-- R320, R358, R370: the ports a binding is sent on: its primary port, the lowest in its mask that is not lost, and the next one for a
replicated binding. A session of version 1 is sent to on its primary port only (R346). -/
def State.bindingPorts (s : State) (b : TBinding) (version : Nat) : List Nat :=
  let mask := (List.range 4).filter fun p => bitOf p b.ports
  let up := mask.filter fun p => !(s.eth p).lost
  let ps := if up.isEmpty then mask else up
  ps.take (if bitOf 0 b.flags && decide (0x20 ≤ version) then 2 else 1)

/-- R362: bytes on the wire of an ADT datagram with a body of `n` bytes. -/
def State.adtWire (s : State) (p n : Nat) (b : TBinding) : Nat := max 84 (n + s.overhead p b - 24)

end Sys2Proof.Machine
end

