-- ==== Sys2Proof/Machine/AdtSend.lean ====
section
/-! DEFINITION. Sending to a display-transport peer (R315–R318, R341, R346). -/

namespace Sys2Proof.Machine

/-- R348: the peer has an open session. -/
def Peer.inSession (p : Peer) : Bool := p.id != 0

/-- R358: the R-TAG of a datagram sent on ports `ps`, plus 65,536; 0 without one. A binding's numbers go on from session to session. -/
def State.rtag (s : State) (k : Nat) (ps : List Nat) (seq : Word) : Nat :=
  if 2 ≤ ps.length ∧ (ps.all fun p => (s.ethCfg p).rtag) then 65536 + (tabGet s.net.rtag k + BitVec.ofNat 16 seq.toNat).toNat else 0

/-- R358: the numbers of a binding go on after its session's datagrams. -/
def keepRtag (k : Nat) (s : State) : State :=
  s.modNet fun n => { n with rtag := tabMod n.rtag k (· + BitVec.ofNat 16 (s.peer k).txSeq.toNat) }

/-- R322, R486: the Device ID. -/
def deviceId : List Byte := (leBytes 48 (Config.sha3 Config.identityKey)).take 8

/-- R353: port `p` takes UDP to the ADT port, and carries ADT. -/
def State.adtPort (s : State) (p : Nat) : Bool := s.portCarries p && (s.ethCfg p).adt

/-- R315, R316, R352, R358: what stands before the body of a datagram to peer `k`: VLAN and PCP (0 untagged), address, UDP port, version, session,
sequence number, flags and R-TAG. -/
def State.adtHead (s : State) (k vlan pcp : Nat) (ps : List Nat) (seq : Word) : List Nat :=
  let p := s.peer k
  [vlan, if vlan = 0 then 0 else pcp, p.addr, p.port, p.version, p.id, seq.toNat, b2n (decide (1 < ps.length)), s.rtag k ps seq]

/-- R316, R346, R358, R364: sends one datagram to a peer under its next sequence number, in class `q`, on every port its binding names:
kind, size of the body, fields after the header. -/
def State.adtSendBy (q k : Nat) (kind : String) (body : Nat) (fields : List Nat) (s : State) : State :=
  let p := s.peer k
  let b := (s.peerBinding k).getD {}
  let ps := s.bindingPorts b p.version
  let s := s.modPeer k fun p => { p with txSeq := p.txSeq + 1 }
  ps.foldl (fun (s : State) port =>
    let pcp := if q = 2 then (s.ethCfg port).pcpRepair else (s.ethCfg port).pcpControl
    if s.adtPort port then
      s.sendIp port q p.addr { wire := s.adtWire port body b, what := kind, dest := k, fields := s.adtHead k b.vlan pcp ps p.txSeq ++ fields }
    else s) s

/-- A datagram of the control class. -/
def State.adtSend (k : Nat) (kind : String) (body : Nat) (fields : List Nat) (s : State) : State := s.adtSendBy 1 k kind body fields

/-- R348: the state of peer `k` changes: a type 0x06 record to the functions granted its group (sources: to every function), and its
interrupt source. -/
def State.peerState (k state reason : Nat) (s : State) : State :=
  let p := s.peer k
  let s := s.modPeer k fun p => { p with state := state, reason := reason }
  let hears := fun f => if k < 1024 then (match s.endpoint k with | some (g, _, _) => s.hasGroup f g | none => f == 0) else true
  let subject := if k < 1024 then k else 0x8000 + (k - 1024)
  (s.recordTo hears 6 (BitVec.ofNat 16 subject) ([BitVec.ofNat 8 state, BitVec.ofNat 8 p.version] ++ leBytes 2 reason)).pend
    (if k < 1024 then 153 + k / 4 else 409 + (k - 1024) / 16)

/-- R454: colour, notice colour and bitmap size of the safe field; black without a notice when it is missing or its CRC fails. -/
def State.safeField (s : State) : Nat × Nat × Nat × Nat :=
  let b := s.fltMram.safeField
  let at' := fun i => (b.getD i 0).toNat
  let w := at' 10 + 256 * at' 11
  let h := at' 12 + 256 * at' 13
  let n := 16 + ceilDiv w 8 * h
  if at' 0 = 0x47 ∧ at' 1 = 0x4D ∧ at' 2 = 0x53 ∧ at' 3 = 0x46 ∧ b.length = n + 4 ∧
      leNat (b.drop n) = (crc32c (b.take n)).toNat then
    (at' 4 * 65536 + at' 5 * 256 + at' 6, at' 7 * 65536 + at' 8 * 256 + at' 9, w, h)
  else (0, 0, 0, 0)

/-- R341: the BLANK of reasons 0 and 1 carries the safe field. -/
def State.safeBlank (s : State) (reason : Nat) : Blank :=
  let f := s.safeField
  { reason := reason, colour := f.1, notice := f.2.1, hasNotice := f.2.2.1 != 0 }

/-- R341: the blank shown on an endpoint; a host blank is lifted while the bulletin is active in its group. -/
def State.blankOn (s : State) (k : Nat) : Option Blank :=
  match (s.peer k).blank with
  | none => none
  | some b =>
    let g := match s.endpoint k with | some x => x.1 | none => 16
    if b.reason = 2 ∧ tabGet s.svc.inForce g ≠ 0 then none else some b

/-- R348: the state of a session whose peer is live. -/
def State.liveState (s : State) (k : Nat) : Nat :=
  let p := s.peer k
  if k < 1024 ∧ (s.blankOn k).isSome then 5 else if p.holding ≠ 0 then 4 else if p.presented then 2 else 1

/-- R348: the state of a live peer is brought to what its blank, its hold and its first frame make it. -/
def State.liveAgain (k : Nat) (s : State) : State :=
  if (s.peer k).inSession ∧ (s.peer k).state ≠ 3 ∧ (s.peer k).state ≠ s.liveState k then s.peerState k (s.liveState k) 0 else s

/-- R341: bitmap bytes per fragment that leave a BLANK within the session's fragment payload. -/
def State.blankPiece (s : State) (k : Nat) : Nat :=
  let b := (s.peerBinding k).getD {}
  (if b.frag = 0 then 1400 else b.frag) - 16

/-- R341: sends an endpoint's BLANK, the notice in fragments, and sets the instant of its repetition. -/
def State.emitBlank (k : Nat) (b : Blank) (s : State) : State :=
  let f := s.safeField
  let size := if b.hasNotice then ceilDiv f.2.2.1 8 * f.2.2.2 else 0
  let piece := max 1 (s.blankPiece k)
  let n := max 1 (ceilDiv size piece)
  let s := (List.range n).foldl (fun (s : State) i =>
    let len := min piece (size - i * piece)
    (s.adtSend k "BLANK" (16 + len) [b.reason, b.colour, b.notice, if b.hasNotice then f.2.2.1 else 0, if b.hasNotice then f.2.2.2 else 0,
      i, n, i * piece, len]).count 245) s
  s.modPeer k fun p => { p with blank := some b, blankDue := s.now + secNs 1, holding := 0, holdEnd := 0 }

/-- R341, R348: an endpoint is blanked: its state is 5. -/
def State.sendBlank (k : Nat) (b : Blank) (s : State) : State :=
  (s.emitBlank k b).liveAgain k

/-- The endpoints whose session is open. -/
def State.openEndpoints (s : State) : List Nat :=
  (s.adt.peers.filter fun e => decide (e.1 < 1024) && e.2.inSession).map (·.1)

end Sys2Proof.Machine
end

