-- ==== Sys2Proof/Machine/PmuOps.lean ====
section
/-! DEFINITION. The counters' update and the snapshot trigger (R465–R476), as commands, gates and sills use them. -/

namespace Sys2Proof.Machine

/-- R465, R469: one counter's update: its value, whether it carried, and whether a carry was lost to a write. -/
def upd40 (old inc : Nat) (put : Option Nat) : Nat × Bool × Bool :=
  let carry := decide (2 ^ 40 ≤ old + inc)
  match put with
  | some v => (v, false, carry)
  | none => ((old + inc) % 2 ^ 40, carry, false)

/-- R469: what the waiting writes leave in counter `c`; the later one holds. -/
def putFor (ops : List PmuOp) (c : Nat) : Option Nat :=
  ops.foldl (fun acc op =>
    match op with
    | .write k v => if k = c then some v else acc
    | .clear filtered => if filtered = decide (448 ≤ c) then some 0 else acc) none

/-- Filtered counter `f`. -/
def State.fc (s : State) (f : Nat) : FcSt := tabGet s.pmu.fc f

/-- R465, R469: always-running counter `c` is updated. -/
def updateCounter (c : Nat) (s : State) : State :=
  let r := upd40 (tabGet s.pmu.cnt c) (tabGet s.pmu.inc c) (putFor s.pmu.ops c)
  let s := s.modPmu fun p =>
    { p with cnt := tabSet p.cnt c r.1, ovf := if r.2.1 then tabSet p.ovf c true else p.ovf, lost := if r.2.2 then tabSet p.lost c true else p.lost }
  let s := if r.2.1 then s.pend 471 else s
  if r.2.2 then s.pend 476 else s

/-- R470–R473: filtered counter `f` is updated; `below` tells whether the counter below it carried. Answers whether it carried. -/
def updateFiltered (below : Bool) (f : Nat) (s : State) : Bool × State :=
  let x := s.fc f
  let inc := if x.set.chain then b2n below else if x.set.mode = 3 then tabGet s.pmu.inc x.set.event else x.inc
  let r := upd40 x.val inc (putFor s.pmu.ops (448 + f))
  let chained := f % 2 == 0 && (s.fc (f + 1)).set.chain
  let s := s.modPmu fun p => { p with fc := tabMod p.fc f fun x =>
    { x with val := r.1, inc := 0, ovf := x.ovf || (r.2.1 && !chained), lost := x.lost || r.2.2, set := x.next.getD x.set, next := none } }
  let s := if r.2.1 && !chained then s.pend 472 else s
  (r.2.1, if r.2.2 then s.pend 476 else s)

/-- R476: triggers that are dropped. -/
def dropTriggers (n : Nat) (s : State) : State := (s.modPmu fun p => { p with missed := satAdd p.missed n }).pend 477

/-- R475, R476: the triggers that fire at an update take a snapshot, or are dropped. -/
def takeSnapshot (mask : Nat) (s : State) : State :=
  let p := s.pmu
  let bank := (p.snaps + 2) % 2
  if mask = 0 then s
  else if p.copy.isSome || (s.pmuMram.hold && p.kept.getLsbD bank) then dropTriggers ((List.range 4).filter fun i => bitOf i mask).length s
  else
    s.modPmu fun p =>
      { p with snaps := p.snaps + 1,
               copy := some { number := p.snaps + 1, mask := mask, time := s.clk.plan, cnt := p.cnt, fc := (List.range 32).foldl (fun t f => tabSet t f (tabGet p.fc f).val) [] } }

/-- R475: the period of the periodic trigger ends between two instants. -/
def State.periodEnds (s : State) (since t : Nat) : Bool :=
  let p := s.pmuMram.period * 64
  bitOf 2 s.pmuMram.mask && p != 0 && since / p != t / p

/-- R465: the counters whose value an update may change. -/
def State.counterKeys (s : State) : List Nat :=
  let all := s.pmu.ops.any fun op => match op with | .clear false => true | _ => false
  ((s.pmu.inc.map (·.1)) ++ (if all then s.pmu.cnt.map (·.1) else []) ++
    s.pmu.ops.filterMap fun op => match op with | .write c _ => if c < 448 then some c else none | _ => none).eraseDups

/-- R465–R476: one update of all counters; the words that MRAM took since are open (R499, log 10). -/
def pmuUpdate (s : State) : State :=
  let d := s.draw
  let s := d.2.countN 437 d.1
  let s := s.counterKeys.foldl (fun (s : State) c => updateCounter c s) s
  let s := ((List.range 32).foldl (fun (acc : Bool × State) f => updateFiltered acc.1 f acc.2) (false, s)).2
  let mask := s.pmu.trig ||| (if s.periodEnds s.pmu.updated s.clk.plan then 4 else 0)
  takeSnapshot mask (s.modPmu fun p => { p with inc := [], ops := [], trig := 0, updated := s.clk.plan })

/-- R465: PLL8's gate closes: the counters stop where they stand. -/
def pmuStop (s : State) : State := (pmuUpdate s).modPmu fun p => { p with gaps := satInc p.gaps }

/-- R465: PLL8's gate opens: what happened meanwhile is lost. -/
def pmuStart (s : State) : State :=
  s.modPmu fun p => { p with inc := [], fc := tabMap (fun _ x => { x with inc := 0 }) p.fc, updated := s.clk.plan }

/-- R475: a sill of the configured group fires its trigger. -/
def snapSill (g : Nat) (s : State) : State :=
  if bitOf 1 s.pmuMram.mask ∧ s.pmuMram.group = g then s.modPmu fun p => { p with trig := p.trig ||| 2 } else s

/-- R475: a recorded fault of at least the configured class fires its trigger. -/
def snapFault (cls : Nat) (s : State) : State :=
  if bitOf 3 s.pmuMram.mask ∧ s.pmuMram.cls ≤ cls then s.modPmu fun p => { p with trig := p.trig ||| 8 } else s

/-! ### Bandwidth windows -/

/-- R479: a window ends early: its sum is stored without comparison. -/
def bwPartial (n : Nat) (s : State) : State :=
  s.modPmu fun p => { p with bw := tabMod p.bw n fun x =>
    { x with last := BitVec.ofNat 32 (x.bytes / 64), bytes := 0, since := s.clk.plan, short := true } }

/-- R479: a variant or truss switch ends every engine's window. -/
def bwSwitch (s : State) : State := (List.range 18).foldl (fun (s : State) n => bwPartial n s) s

end Sys2Proof.Machine
end

