-- ==== Sys2Proof/Machine/Variant.lean ====
section
/-! DEFINITION. The variant that fences, removals, pace and force require, and what the hardware does at once when a unit is
fenced or the safe state begins (R88, R90, R107, R212, R220, R446, R447, R453). -/

namespace Sys2Proof.Machine

/-- R90: reduced pace is required. -/
def State.paceReduced (s : State) : Bool := s.fenced 71 || s.pace.awaitReturn || s.pace.forced

/-- R107, R108: CXL ports out of service or being removed, or returned with no truss armed since, as sources. -/
def State.removedPorts (s : State) : List Nat :=
  ((List.range 4).filter fun m =>
    let p := tabGet s.mem.ports m
    p.removing || p.awaitTruss || p.state == .outOfService).map (· + 52)

/-- R109: the source is of a CXL port that was lost while another was out: the running variant continues, and the loss asks for none. -/
def State.secondLoss (s : State) (x : Nat) : Bool := decide (52 ≤ x) && decide (x < 56) && (tabGet s.mem.ports (x - 52)).second

/-- R447: covered units in order of fencing, removals after them. -/
def State.covered (s : State) : List Nat :=
  (s.flt.order ++ s.removedPorts.filter fun x => !s.flt.order.contains x).filter fun x => !s.secondLoss x

/-- R107: the port being removed, as a source. -/
def State.leaving (s : State) : Option Nat := ((List.range 4).find? fun m => (tabGet s.mem.ports m).removing).map (· + 52)

/-- R107, R447: the variant a group now on `current` must run. A removal takes its port's loss variant first, whatever is fenced besides
(DEDUCED, log 32). -/
def State.wantFrom (s : State) (current : Nat) : Nat :=
  let c := s.covered
  match s.leaving with
  | some x => lossVariant x
  | none =>
  if c.isEmpty then (if s.paceReduced then 1 else s.seq.forced.getD 0)
  else if c.any fun x => lossVariant x == current then current
  else lossVariant (c.headD 0)

/-- R220: a fence or pace condition in force requires a variant other than the one forced. -/
def State.mustRun (s : State) : Bool := !s.covered.isEmpty || s.paceReduced

/-- R178: a variant that the truss of a store slot (plus one) lacks is not run; variant 0 runs in its place. -/
def State.runnable (s : State) (store v : Nat) : Nat := if (s.trussIn (store - 1)).hasVariant v then v else 0

/-- R92: reduced pace entered (450) or left (451). -/
def paceEdge (s : State) : State :=
  if s.paceReduced = s.pace.reducedSeen then s
  else (s.modPace fun p => { p with reducedSeen := s.paceReduced }).pend (if s.paceReduced then 450 else 451)

/-- R212: the variant a group is to run in the end: the last one decided, or the one in force. -/
def GroupSt.lastVariant (c : GroupSt) : Nat := (c.variantNext.getLast?.map (·.1)).getD c.variant

/-- R212: group `g` is to run variant `want` from its first sill whose cutoff has not passed. A switch decided for a sill whose cutoff has passed
stands. -/
def decideVariant (g want : Nat) (s : State) : State :=
  let wait := s.usableWait g
  let stands := (s.group g).variantNext.filter fun x => decide (x.2 < wait)
  s.modGroup g fun c =>
    { c with variantNext := if want = ({ c with variantNext := stands } : GroupSt).lastVariant then stands else stands ++ [(want, wait)] }

/-- R212, R447: every group takes the chosen variant at its first sill whose cutoff has not passed; nothing changes in the safe state. -/
def chooseVariants (s : State) : State :=
  let s := paceEdge s
  if s.flt.safe then s
  else
    allGroups.foldl (fun (s : State) g =>
      if s.grpRuns g then
        let now := (s.group g).lastVariant
        let want := s.runnable (s.group g).store (s.wantFrom now)
        if want = now then s else decideVariant g want s
      else s) s

/-- R447, R108, R370: a unit whose fence has cleared stays covered: a CXL port until the next truss switch, an Ethernet port until its
link has been up for 1 s. -/
def stillCovered (x : Nat) (s : State) : Bool :=
  (decide (52 ≤ x) && decide (x ≤ 55) && s.seq.running != 0) ||
    (decide (57 ≤ x) && decide (x ≤ 60) && (s.eth (x - 57)).lost)

/-- R453: what the hardware does at the entry of the safe state: every session's endpoint is sent the BLANK of reason 0, and
DMA, ingest and writeback stop (R396). -/
def safeReaction (s : State) : State :=
  let s := s.openEndpoints.foldl (fun (s : State) k => s.sendBlank k (s.safeBlank 0)) s
  s.modDma fun d => { d with ch := tabMap (fun _ c => if c.enable then { c with safe := true } else c) d.ch,
                             ing := tabMap (fun _ x => { x with now := [] }) d.ing }

/-- R377: the sources of decoder `d` stop when the variant that must run gives them no other decoder. -/
def stopDecoder (d : Nat) (s : State) : State :=
  let c := match allGroups.find? s.grpRuns with | some g => s.group g | none => {}
  if s.runnable c.store (s.wantFrom c.lastVariant) = 34 + d then s
  else
    (s.dma.ing.filter fun e => e.2.bound && e.2.decoder == d).foldl (fun (s : State) (e : Nat × IngSt) =>
      let s := s.modIng e.1 fun x => { x with decoder := 4 }
      if (s.peer (1024 + e.1)).inSession && (s.peer (1024 + e.1)).stop == 0 then
        (s.adtSend (1024 + e.1) "SOURCE_CTRL" 4 [0, 1]).modPeer (1024 + e.1) fun p => { p with stop := 2 } else s) s

/-- R446, R106, R311: what the hardware does at once when a unit's fence bit sets: a fenced head stops scanning, the sources of a fenced
decoder may stop, and the reads that a fenced CXL port owes are patched. Every other unit reads its fence bit where it works. -/
def unitReaction (src : Nat) (s : State) : State :=
  if 32 ≤ src ∧ src < 40 then s.modHead (src - 32) fun h => { h with scanning := false }
  else if 48 ≤ src ∧ src < 52 then stopDecoder (src - 48) s
  else if 52 ≤ src ∧ src < 56 then
    s.modSeq fun q => { q with issues := q.issues.map fun x =>
      { x with reads := x.reads.map fun r =>
          if (r.port = src - 52 ∨ (r.port < 4 ∧ 0x40000000000 ≤ r.addr)) ∧ (r.state = .issued ∨ r.state = .waiting) then { r with state := .missing } else r } }
  else s

end Sys2Proof.Machine
end

