-- ==== Sys2Proof/Machine/Collector.lean ====
section
/-! DEFINITION. The fault collector as the shared operation every block reports to: one occurrence or several in
one cycle, their classes, records and reactions, ERR_N and the safe state (R435–R454, R457). -/

namespace Sys2Proof.Machine

/-- A source's settings (R463). -/
def State.fltCfg (s : State) (x : Nat) : FltCfg := tabGet s.fltMram.cfg x

/-- Sets or clears the fence bit of a source's unit. -/
def State.putFence (x : Nat) (v : Bool) (s : State) : State :=
  match fenceBit x with
  | some (k, b) => s.modFlt fun c => { c with fence := tabMod c.fence k fun w => putBit w b v }
  | none => s

/-- Sets or clears the lock bit of a source's unit. -/
def State.putLock (x : Nat) (v : Bool) (s : State) : State :=
  match fenceBit x with
  | some (k, b) => s.modFltMram fun c => { c with lock := tabMod c.lock k fun w => putBit w b v }
  | none => s

/-- R443: the live bit, the rails at this cycle. -/
def FltSrc.live (c : FltSrc) : Bool := c.asserted || c.broken

/-- An occurrence as the collector classes it in its cycle. -/
structure Occ where
  source : Nat
  detail : Word
  broken : Bool
  forced : Bool
  raw : Nat
  cls : Nat
  escalated : Bool
  deriving DecidableEq, Repr, Inhabited

/-- R436, R438, R458: the class before min_class and escalation. -/
def State.rawClass (s : State) (x : Nat) (detail : Word) (broken : Bool) : Nat :=
  if 175 ≤ x ∧ x ≤ 182 then 4
  else if broken then max 2 (fltMaxClass x)
  else if x = 186 ∧ s.flt.lastWatchdog ≠ 0 ∧ s.now < s.flt.lastWatchdog - 1 + secNs 1 then 4
  else fltClass x detail

/-- R440: the escalation count of one source; answers the class and whether it was escalated. -/
def escalate (now : Nat) (cfg : FltCfg) (cls : Nat) (c : FltSrc) : FltSrc × Nat × Bool :=
  if cls ≠ 1 then (c, cls, false)
  else
    let c := if c.count = 0 ∨ now - c.windowStart > secNs cfg.w then { c with count := 0, windowStart := now } else c
    let c := { c with count := c.count + 1 }
    if cfg.n ≠ 0 ∧ c.count = cfg.n then ({ c with count := 0 }, min (cls + 1) cfg.ceiling, true) else (c, cls, false)

/-- R438, R440: classes one occurrence, counting it toward escalation. -/
def State.classify (x : Nat) (detail : Word) (broken forced : Bool) (given : Option Nat) (s : State) : Occ × State :=
  let raw := given.getD (s.rawClass x detail broken)
  let cfg := s.fltCfg x
  let cls0 := if 175 ≤ x ∧ x ≤ 182 then 4 else max raw cfg.minClass
  let e := escalate s.now cfg cls0 (s.fltSrc x)
  ({ source := x, detail := detail, broken := broken, forced := forced, raw := raw, cls := e.2.1, escalated := e.2.2 },
   s.modFltSrc x fun _ => e.1)

/-- R442 step 3: the higher class ranks first, then the lower source number. -/
def occBefore (a b : Occ) : Bool := decide (b.cls < a.cls) || (a.cls == b.cls && decide (a.source ≤ b.source))

/-- Puts one occurrence into its rank. -/
def rankInsert (o : Occ) : List Occ → List Occ
  | [] => [o]
  | p :: t => if occBefore o p then o :: p :: t else p :: rankInsert o t

/-- R442 step 3: the occurrences of a cycle in rank order. -/
def rankOccs : List Occ → List Occ
  | [] => []
  | o :: t => rankInsert o (rankOccs t)

/-- R449: recoveries of a source's unit in the preceding 24 h. -/
def State.fltRecoveries (s : State) (x : Nat) : Nat :=
  ((s.fltSrc (unitRep x)).recoveredAt.filter fun t => decide (s.now < t + secNs 86400)).length

/-- R442 step 2: the next-fault record moves up when the first-fault record is empty; no event record. -/
def fltMove (s : State) : State :=
  match s.flt.first, s.flt.next with
  | none, some r =>
    (s.modFlt fun c => { c with first := some { r with flags := (r.flags ||| 1) &&& ~~~2 }, next := none }).pend 468
  | _, _ => s

/-- R441: the record of an occurrence, first or next, at a ring place. -/
def State.fltRecord (s : State) (o : Occ) (first next : Bool) (logSeq : Word) : FltRec :=
  { source := o.source, cls := o.cls, rawCls := o.raw,
    flags := BitVec.ofNat 16 (packBits [(0, 1, b2n first), (1, 1, b2n next), (3, 1, b2n o.escalated), (4, 1, b2n o.broken),
      (5, 1, b2n o.forced), (6, 1, b2n s.flt.safe), (7, 1, b2n (decide (175 ≤ o.source ∧ o.source ≤ 182)))]),
    detail := o.detail, time := s.planTime, logSeq := logSeq, occ := (s.fltSrc o.source).occ,
    start := s.fltMram.startNumber, recoveries := BitVec.ofNat 8 (s.fltRecoveries o.source),
    ring := BitVec.ofNat 8 s.flt.write.toNat }

/-- R444: functions that receive fault records. -/
def State.hearsFaults (s : State) (f : Nat) : Bool := s.hasFltRead f

/-- R444: the type 0x05 event record of a ring entry. -/
def fltEventRecord (r : FltRec) (s : State) : State :=
  s.recordTo s.hearsFaults 5 (BitVec.ofNat 16 r.source)
    ([BitVec.ofNat 8 r.cls, BitVec.ofNat 8 (r.flags.toNat % 8)] ++ leBytes 2 r.ring.toNat ++ leBytes 4 r.detail.toNat ++
      leBytes 4 r.occ.toNat)

/-- R442 steps 4 and 5, R444: loads the first-fault or next-fault record, and writes the ring as space allows. -/
def fltStore (o : Occ) (s : State) : State :=
  let first := s.flt.first.isNone
  let next := !first && s.flt.next.isNone
  let room := decide (s.flt.ring.length < 64)
  let r := s.fltRecord o first next (if room then s.fltMram.logSeq else 0)
  let s := if first then (s.modFlt fun c => { c with first := some r }).pend 468
           else if next then s.modFlt fun c => { c with next := some r } else s
  if room then
    let s := s.modFlt fun c => { c with ring := c.ring ++ [r], write := c.write + 1 }
    fltEventRecord r (s.modFltMram fun c => { c with logSeq := c.logSeq + 1 })
  else ((s.modFlt fun c => { c with overflow := satInc c.overflow }).count 432).pend 470

/-- R453: enters the safe state, in the always-on domain; every other part reads it from there. -/
def enterSafe (s : State) : State :=
  if s.flt.safe then s
  else safeReaction ((s.modFlt fun c => { c with safe := true }).modBoot fun b => { b with stage := 15 })

/-- R446, R448: a class 2, 3 or 4 occurrence fences its unit; any occurrence of a fenced unit stops its quiet period. -/
def fltFence (o : Occ) (s : State) : State :=
  let rep := unitRep o.source
  let was := s.fenced o.source
  let s := s.modFltSrc rep fun c => { c with quietEnd := 0 }
  if 2 ≤ o.cls ∧ (fenceBit o.source).isSome then
    let s := s.modFltSrc rep fun c => { c with quietClass := max c.quietClass o.cls }
    if was then s
    else
      let s := (s.putFence o.source true).count 429
      let s := if isCovered o.source ∧ o.source ∉ s.flt.order then
        s.modFlt fun c => { c with order := c.order ++ [o.source] } else s
      chooseVariants (unitReaction o.source s)
  else if was then s.modFltSrc rep fun c => { c with quietClass := max c.quietClass o.cls }
  else s

/-- R439, R443, R451, R461, R462: an occurrence's bits, counts, interrupts, pulse, fence and safe state. -/
def fltReact (o : Occ) (s : State) : State :=
  let s := s.modFltSrc o.source fun c =>
    { c with asserted := if o.broken then c.asserted else true, broken := o.broken, cause := true,
             lastClass := BitVec.ofNat 3 o.cls, lastDetail := o.detail, lastTime := s.planTime,
             own := if o.forced then c.own else some (o.detail, o.broken) }
  let s := ((s.count 422).count (423 + o.cls)).pend (463 + o.cls)
  let s := if o.escalated then s.count 428 else s
  let s := if o.broken then s.count 433 else s
  let s := if o.forced then s.count 436 else s
  let s := if s.fltMram.pulseClass.toNat ≤ o.cls then
    s.modFlt fun c => { c with pulseEnd := s.now + usNs s.fltMram.pulseUs.toNat + 1 } else s
  let s := if 3 ≤ o.cls then s.modBoot fun b => { b with severeSince := true } else s
  let s := if o.source = 186 then s.modFlt fun c => { c with lastWatchdog := s.now + 1 } else s
  let s := fltFence o s
  if o.cls = 4 then enterSafe s else s

/-- R457: a self-fault enters the safe state before its record is made; any other is recorded, then reacted to. -/
def fltTake (o : Occ) (s : State) : State :=
  let s := snapFault o.cls (s.modFltSrc o.source fun c => { c with occ := satInc c.occ })
  if 175 ≤ o.source ∧ o.source ≤ 182 then fltStore o (fltReact o s) else fltReact o (fltStore o s)

/-- R442 steps 2 to 5, with the occurrences of the cycle already classed. -/
def fltCycle (os : List Occ) (s : State) : State :=
  (rankOccs os).foldl (fun s o => fltTake o s) (fltMove s)

/-- R435: a change from quiet or broken to asserted, or to broken, is an occurrence; rails held as they are make none. -/
def State.railsNew (s : State) (x : Nat) (broken : Bool) : Bool :=
  let c := s.fltSrc x
  if broken then !c.broken else !c.asserted || c.broken

/-- R435, R459: what the unit drives reaches the collector as an occurrence, unless FLT_FORCE holds the source's rails. -/
def State.fltNew (s : State) (x : Nat) (broken : Bool) : Bool := !(s.fltSrc x).forced && s.railsNew x broken

/-- R459: what the unit drives while FLT_FORCE holds its source's rails stands behind them. -/
def fltHidden (x : Nat) (detail : Word) (broken : Bool) (s : State) : State :=
  if (s.fltSrc x).forced then s.modFltSrc x fun c => { c with own := some (detail, broken) } else s

/-- One unit asserts source `x` with a detail, in a collector cycle of its own (log 9). -/
def State.fault (x : Nat) (detail : Word) (s : State) : State :=
  if s.fltNew x false then
    let p := s.classify x detail false false none
    fltCycle [p.1] p.2
  else fltHidden x detail false s

/-- An assertion of a source whose detail the spec does not state: the detail is a free value (log 10). -/
def State.faultOpen (x : Nat) (s : State) : State :=
  let d := s.draw
  d.2.fault x (BitVec.ofNat 32 d.1)

/-- Several assertions in one collector cycle (R442). -/
def State.faults (ins : List (Nat × Word × Bool)) (s : State) : State :=
  let r := ins.foldl (fun (acc : List Occ × State) i =>
    if acc.2.fltNew i.1 i.2.2 && !(acc.1.any fun o => o.source == i.1) then
      let p := acc.2.classify i.1 (if i.2.2 then BitVec.allOnes 32 else i.2.1) i.2.2 false none
      (acc.1 ++ [p.1], p.2)
    else (acc.1, fltHidden i.1 i.2.1 i.2.2 acc.2)) ([], s)
  fltCycle r.1 r.2

/-- R448, R463: starts the quiet period of a fenced unit once every source of it has fallen, by the settings now in force; class 4 never recovers. -/
def fltStartQuiet (x : Nat) (s : State) : State :=
  let rep := unitRep x
  let q := (s.fltSrc rep).quietClass
  if s.fenced x && !(unitSources x).any (fun y => (s.fltSrc y).live) && decide (q < 4) then
    let secs := if q < 3 then s.fltMram.q2 else s.fltMram.q3
    s.modFltSrc rep fun c => { c with quietEnd := s.now + secNs secs + 1, quietK := s.fltMram.k }
  else s

/-- R443: a loaded record takes its transient flag when its source falls quiet. -/
def fltMarkTransient (x : Nat) (r : Option FltRec) : Option FltRec :=
  r.map fun r => if r.source = x then { r with flags := r.flags ||| 4 } else r

/-- R443, R448: the unit of source `x` falls quiet, and with it the live bit, unless FLT_FORCE holds the rails. -/
def State.fltFall (x : Nat) (s : State) : State :=
  let c := s.fltSrc x
  if c.forced then s.modFltSrc x fun c => { c with own := none }
  else if c.live then
    let s := if c.cause && !c.trans then s.count 434 else s
    let s := s.modFltSrc x fun c => { c with asserted := false, broken := false, own := none, trans := c.trans || c.cause }
    let s := s.modFlt fun f => { f with first := fltMarkTransient x f.first, next := fltMarkTransient x f.next }
    fltStartQuiet x s
  else s

/-- R459: the rails of source `x` return to its unit: they fall where it is quiet, and a change of what they show is an occurrence (R435). -/
def fltReturn (x : Nat) (s : State) : State :=
  let s := s.modFltSrc x fun c => { c with forced := false }
  match (s.fltSrc x).own with
  | none => s.fltFall x
  | some p => s.faults [(x, p.1, p.2)]

/-- R442 step 1, R443: clears the cause and transient bits of the sources `p` names; answers how many, and how many were transient. -/
def fltClear (p : Nat → Bool) (s : State) : Nat × Nat × State :=
  let hit := (s.flt.src.filter fun e => p e.1 && e.2.cause).map (·.1)
  let tr := (s.flt.src.filter fun e => p e.1 && e.2.cause && e.2.trans).length
  (hit.length, tr, hit.foldl (fun s x => s.modFltSrc x fun c => { c with cause := false, trans := false }) s)

/-- R449, R463: a unit leaves the order of fencing when its fence clears, unless it stays covered (R447). -/
def fltUncover (x : Nat) (s : State) : State :=
  if stillCovered x s then s else s.modFlt fun c => { c with order := c.order.filter (· != x) }

/-- R449: the service event and interrupt of a recovery (code 2) or a lock (code 3). -/
def fltRecoveryEvent (x code : Nat) (s : State) : State :=
  let p := (fenceBit x).getD (0, 0)
  (s.serviceEvent s.hearsFaults 0x0700 code (unitRep x)
    [BitVec.ofNat 8 (s.fltRecoveries x), BitVec.ofNat 8 p.1, BitVec.ofNat 8 p.2]).pend 469

end Sys2Proof.Machine
end

