-- ==== Sys2Proof/Machine/TrussRead.lean ====
section
/-! DEFINITION. Reading a truss image (R166–R178, R257, R287, R288, R297, R320, R360) and check 1 of admission. -/

namespace Sys2Proof.Machine

/-- The number in `n` bytes at offset `off` of an image; bytes beyond its end read 0. -/
def u (img : List Byte) (off n : Nat) : Nat := leNat ((img.drop off).take n)

/-- Bytes `[off, off + n)` are all 0 and lie in the image. -/
def zeroAt (img : List Byte) (off n : Nat) : Bool := ((img.drop off).take n).all (· == 0)

/-- A signed field of `w` bits. -/
def signed (w v : Nat) : Int := if v < 2 ^ (w - 1) then v else (v : Int) - 2 ^ w

/-- The offsets of a section's entries. -/
def entryOffs (s : Sect) (size : Nat) : List Nat := (List.range s.count).map fun i => s.off + size * i

/-- R167: the directory. -/
def readDir (img : List Byte) (base n : Nat) : List Sect :=
  (List.range n).map fun i =>
    let o := base + 24 * i
    { type := u img o 2, variant := u img (o + 2) 1, count := u img (o + 4) 4, off := u img (o + 8) 8, len := u img (o + 16) 8 }

/-- The section of a type and variant. -/
def findSect (dir : List Sect) (type variant : Nat) : Option Sect :=
  dir.find? fun s => s.type == type && s.variant == variant

/-- The entries of a shared section of a type, read by `f` at each entry's offset. -/
def sharedEntries {α : Type} (dir : List Sect) (type size : Nat) (f : Nat → α) : List α :=
  match findSect dir type 0xFF with
  | some s => (entryOffs s size).map f
  | none => []

/-- R168: a group entry. -/
def readGroup (img : List Byte) (o : Nat) : TGroup :=
  { id := u img o 1, base := u img (o + 1) 1, f := u img (o + 2) 2, phase := u img (o + 4) 4, cutoff := u img (o + 8) 2,
    ann := u img (o + 10) 2, k := u img (o + 12) 2, outputs := u img (o + 14) 2, firstOut := u img (o + 16) 2 }

/-- R170: an output entry. -/
def readOutput (img : List Byte) (o : Nat) : TOutput :=
  { kind := u img o 1, group := u img (o + 1) 1, unit := u img (o + 2) 2, width := u img (o + 4) 2, height := u img (o + 6) 2,
    strip := u img (o + 8) 1, enc := u img (o + 9) 1, bpp := u img (o + 10) 2, sliceW := u img (o + 12) 2, wb := u img (o + 14) 1,
    slots := (List.range 16).map fun k => u img (o + 16 + 2 * k) 2 }

/-- Four 16-bit words as a rectangle. -/
def readRect (img : List Byte) (o : Nat) : Rect :=
  { x := u img o 2, y := u img (o + 2) 2, w := u img (o + 4) 2, h := u img (o + 6) 2 }

/-- R171: a format 4 slot entry. -/
def readSlot4 (img : List Byte) (o : Nat) : TSlot :=
  { slot := u img o 2, out := u img (o + 2) 2, pos := u img (o + 4) 1, type := u img (o + 5) 1, policy := u img (o + 6) 1,
    stale := u img (o + 7) 1, x0 := u img (o + 8) 2, y0 := u img (o + 10) 2, x1 := u img (o + 12) 2, y1 := u img (o + 14) 2,
    hmin := u img (o + 16) 2, hmax := u img (o + 18) 2, vmin := u img (o + 20) 2, vmax := u img (o + 22) 2,
    maxW := u img (o + 24) 2, maxH := u img (o + 26) 2, bpp := u img (o + 28) 1, dec := u img (o + 29) 1, taps := u img (o + 30) 1,
    flags := u img (o + 31) 1, port := u img (o + 32) 1, stripes := u img (o + 33) 1, handle := u img (o + 34) 2,
    fill := u img (o + 36) 4, source := u img (o + 40) 2, dst := readRect img (o + 48), src := readRect img (o + 56) }

/-- R178: a format 3 slot entry: 8 bytes earlier from byte 24 on, its scales and source fixed at admission. -/
def readSlot3 (img : List Byte) (o : Nat) : TSlot :=
  { slot := u img o 2, out := u img (o + 2) 2, pos := u img (o + 4) 1, type := u img (o + 5) 1, policy := u img (o + 6) 1,
    stale := u img (o + 7) 1, x0 := u img (o + 8) 2, y0 := u img (o + 10) 2, x1 := u img (o + 12) 2, y1 := u img (o + 14) 2,
    maxW := u img (o + 16) 2, maxH := u img (o + 18) 2, bpp := u img (o + 20) 1, dec := u img (o + 21) 1, taps := u img (o + 22) 1,
    flags := u img (o + 23) 1, port := u img (o + 24) 1, stripes := u img (o + 25) 1, handle := u img (o + 26) 2,
    fill := u img (o + 28) 4, source := u img (o + 32) 2, dst := readRect img (o + 40) }

/-- R175: a memory region. -/
def readRegion (img : List Byte) (o : Nat) : TRegion :=
  { id := u img o 2, kind := u img (o + 2) 1, flags := u img (o + 3) 1, addr := u img (o + 8) 8, size := u img (o + 16) 8 }

/-- R175: a flash asset. -/
def readAsset (img : List Byte) (o : Nat) : TAsset :=
  { flash := u img o 8, len := u img (o + 8) 8, addr := u img (o + 16) 8, handle := u img (o + 24) 2, format := u img (o + 26) 2 }

/-- R172: a work item. -/
def readItem (img : List Byte) (o : Nat) : TItem :=
  { start := u img o 4, deadline := u img (o + 4) 4, out := u img (o + 8) 2, strip := u img (o + 10) 2,
    lane := bitsOf 0 4 (u img (o + 12) 1), frame := 256 * bitsOf 4 2 (u img (o + 12) 1) + u img (o + 13) 1,
    mask := u img (o + 14) 2, dest := u img (o + 16) 1, lead := u img (o + 18) 2, first := u img (o + 20) 4,
    count := u img (o + 24) 2, tokens := u img (o + 28) 4 }

/-- R173: a fetch entry. -/
def readFetch (img : List Byte) (o : Nat) : TFetch :=
  { pos := bitsOf 0 4 (u img o 1), kind := bitsOf 4 4 (u img o 1), port := u img (o + 1) 1, stripe := u img (o + 2) 1,
    dec := u img (o + 3) 1, bytes := u img (o + 4) 4, tags := u img (o + 8) 2, lines := u img (o + 10) 2,
    ahead := bitOf 0 (u img (o + 12) 1) }

/-- R174: a variant entry. -/
def readVariant (img : List Byte) (o : Nat) : TVariant :=
  { id := u img o 1, kind := u img (o + 1) 1, unit := u img (o + 2) 1, atPf := bitOf 0 (u img (o + 3) 1), aliasOf := u img (o + 4) 1 }

/-- `n` numbers of `w` bytes from an offset. -/
def words (img : List Byte) (o w n : Nat) : List Nat := (List.range n).map fun i => u img (o + w * i) w

/-- R176, R178: an admission summary entry; format 3 ends before the encoders. -/
def readSummary (fmt : Nat) (img : List Byte) (o : Nat) : TSummary :=
  { variant := u img o 1, lanes := words img (o + 4) 4 16, reads := words img (o + 68) 4 5, writes := words img (o + 88) 4 4,
    tags := words img (o + 108) 2 5,
    encoders := if fmt = 3 then [] else words img (o + 120) 4 8,
    decoders := if fmt = 3 then [] else words img (o + 152) 4 4,
    egress := if fmt = 3 then [] else words img (o + 168) 4 4 }

/-- R297: a head timing entry. -/
def readTiming (img : List Byte) (o : Nat) : HeadTiming :=
  { head := u img o 1, sink := u img (o + 1) 1, pll := u img (o + 2) 1, flags := u img (o + 3) 1, clock := u img (o + 4) 4,
    m := u img (o + 8) 1, p := u img (o + 9) 1, n := u img (o + 10) 2, hactive := u img (o + 12) 2, hfp := u img (o + 14) 2,
    hsync := u img (o + 16) 2, hbp := u img (o + 18) 2, vactive := u img (o + 20) 2, vfp := u img (o + 22) 2,
    vsync := u img (o + 24) 2, vbp := u img (o + 26) 2, lanes := u img (o + 28) 1, rate := u img (o + 29) 1 }

/-- R297: the 32 bytes of a head timing. -/
def HeadTiming.bytes (t : HeadTiming) : List Byte :=
  leBytes 1 t.head ++ leBytes 1 t.sink ++ leBytes 1 t.pll ++ leBytes 1 t.flags ++ leBytes 4 t.clock ++ leBytes 1 t.m ++
    leBytes 1 t.p ++ leBytes 2 t.n ++ leBytes 2 t.hactive ++ leBytes 2 t.hfp ++ leBytes 2 t.hsync ++ leBytes 2 t.hbp ++
    leBytes 2 t.vactive ++ leBytes 2 t.vfp ++ leBytes 2 t.vsync ++ leBytes 2 t.vbp ++ leBytes 1 t.lanes ++ leBytes 1 t.rate ++ zeros 2

/-- R320: a binding. -/
def readBinding (img : List Byte) (o : Nat) : TBinding :=
  { kind := u img o 1, flags := u img (o + 1) 1, num := u img (o + 2) 2, ports := u img (o + 4) 1, lowest := u img (o + 5) 1,
    vlan := u img (o + 6) 2, peer := u img (o + 8) 8, addr := u img (o + 16) 16, tslk := u img (o + 32) 2, frag := u img (o + 34) 2,
    repairs := u img (o + 36) 2, width := u img (o + 40) 2, height := u img (o + 42) 2, period := u img (o + 44) 4,
    bpp := u img (o + 48) 2, sliceW := u img (o + 50) 2, sliceH := u img (o + 52) 1, enc := u img (o + 53) 1,
    decoder := u img (o + 54) 1 }

/-- R360: one variant's calendar. -/
def readCalendar (img : List Byte) (o : Nat) : TCalendar :=
  { groups := (List.range 4).map fun p => u img (o + 8 + 24 * p) 1,
    rates := (List.range 4).map fun p =>
      let e := o + 8 + 24 * p
      { controlBurst := u img (e + 2) 2, control := u img (e + 4) 4, repair := u img (e + 8) 4, repairBurst := u img (e + 12) 2,
        manageBurst := u img (e + 14) 2, manage := u img (e + 16) 4 },
    mortises := (List.range (u img o 4)).map fun i =>
      let e := o + 104 + 16 * i
      { start := u img e 4, len := u img (e + 4) 2, out := u img (e + 6) 2, bytes := u img (e + 8) 4, row := u img (e + 12) 2,
        frame := u img (e + 14) 1 + 256 * bitsOf 3 2 (u img (e + 15) 1), port := bitsOf 0 2 (u img (e + 15) 1),
        replica := bitOf 2 (u img (e + 15) 1) } }

/-- R288: an entry of the output list, with its output index. -/
def readOutState (img : List Byte) (o : Nat) : Nat × OutColour :=
  (u img o 2, { space := u img (o + 2) 1, matrix := u img (o + 3) 1, regamma := u img (o + 4) 1, regTable := u img (o + 5) 1,
                lut := u img (o + 6) 1, dither := u img (o + 7) 1, bgR := u img (o + 8) 2, bgG := u img (o + 10) 2,
                bgB := u img (o + 12) 2, bgA := u img (o + 14) 2 })

/-- Up to the next 8-byte boundary. -/
def up8 (n : Nat) : Nat := (n + 7) / 8 * 8

/-- R288: the offsets of the table images of a colour-table section, one after another from an 8-byte boundary. -/
def tableOffs (img : List Byte) (stop : Nat) : Nat → Nat → List Nat
  | 0, _ => []
  | n + 1, o => if o < stop then o :: tableOffs img stop n (up8 (o + max 16 (u img (o + 8) 4))) else []

/-- R288: the offsets of the table images of a section. -/
def sectTables (img : List Byte) (s : Sect) : List Nat :=
  tableOffs img (s.off + s.len) 257 (up8 (s.off + 4 + 24 * u img s.off 4))

/-- A table from a list, a later entry of a key winning. -/
def tabOf {α : Type} (l : List (Nat × α)) : Tab α := l.foldl (fun t e => tabInsert t e.1 e.2) []

/-- R177: the signature section at an offset. -/
def readSig (img : List Byte) (o : Nat) : TSig :=
  { magicOk := u img o 4 == 0x47534D47, alg := u img (o + 4) 2, keySlot := u img (o + 6) 2, keyId := u img (o + 8) 16,
    digest := u img (o + 24) 48, sigLen := u img (o + 72) 2, padOk := zeroAt img (o + 74) 6 && zeroAt img (o + 3389) 3, off := o }

/-- R177: magic, algorithm, signature length, reserved bytes and padding are as R177 lays them out. -/
def TSig.formed (x : TSig) : Bool := x.magicOk && x.alg == 1 && x.sigLen == 3309 && x.padOk

/-- The per-variant sections of a type. -/
def variantSects (dir : List Sect) (type : Nat) : List Sect := dir.filter fun s => s.type == type && s.variant != 0xFF

/-- R166–R178: the truss that an image holds, read as its directory says; check 1 tells whether it may be read so. -/
def readTruss (img : List Byte) : Truss :=
  let fmt := u img 4 2
  let hl := if fmt = 3 then 96 else 128
  let dir := readDir img hl (u img 31 1)
  let colour := findSect dir 0x0007 0xFF
  { format := fmt, headerLen := hl, id := u img 8 8, len := u img 16 8, h := u img 24 4,
    pf := if u img 28 2 = 0 then 768 else u img 28 2, pfRaw := u img 28 2, groupCount := u img 30 1,
    epoch := if fmt = 3 then 0 else u img 32 8, security := u img 40 4, flags := u img 44 2, stepping := u img 46 2,
    parent := if fmt = 3 then 0 else u img 48 8, dir := dir,
    groups := sharedEntries dir 1 32 (readGroup img), outputs := sharedEntries dir 2 48 (readOutput img),
    slots := if fmt = 3 then sharedEntries dir 3 48 (readSlot3 img) else sharedEntries dir 3 64 (readSlot4 img),
    regions := sharedEntries dir 4 32 (readRegion img), timings := sharedEntries dir 5 32 (readTiming img),
    banks := tabOf (sharedEntries dir 6 3648 fun o => (u img (o + 4) 1, (img.drop o).take 3648)),
    outStates := match colour with
      | some s => tabOf ((List.range (u img s.off 4)).map fun i => readOutState img (s.off + 4 + 24 * i))
      | none => [],
    tables := match colour with
      | some s => tabOf ((sectTables img s).map fun o => (u img (o + 5) 1, (img.drop o).take (u img (o + 8) 4)))
      | none => [],
    items := tabOf ((variantSects dir 8).map fun s => (s.variant, (entryOffs s 32).map (readItem img))),
    fetches := tabOf ((variantSects dir 9).map fun s => (s.variant, (entryOffs s 16).map (readFetch img))),
    cals := tabOf ((variantSects dir 10).map fun s => (s.variant, readCalendar img s.off)),
    variants := sharedEntries dir 11 16 (readVariant img),
    summaries := (variantSects dir 12).flatMap fun s => (entryOffs s (if fmt = 3 then 120 else 192)).map (readSummary fmt img),
    assets := sharedEntries dir 13 32 (readAsset img), bindings := sharedEntries dir 14 64 (readBinding img),
    sig := match findSect dir 0xFF 0xFF with
      | some s => let x := readSig img s.off; { x with padOk := x.padOk && s.len == 3392 }
      | none => {} }

/-! ### Table and bank images -/

/-- R257: an ASCII name of `n` bytes, padded with zeros. -/
def nameAt (b : List Byte) (o n : Nat) : Bool :=
  let l := (b.drop o).take n
  l.all (fun c => decide (c.toNat < 128)) && ((l.dropWhile (· != 0)).all (· == 0))

/-- R257: the byte offset at which a bank image breaks a rule. -/
def bankBad (b : List Byte) : Option Nat :=
  let lo := u b 6 2
  let hi := u b 8 2
  let set := fun (o taps : Nat) =>
    (List.range 64).findSome? fun ph =>
      let cs := (List.range taps).map fun k => signed 16 (u b (o + 2 * (taps * ph + k)) 2)
      match (List.range taps).find? fun k => decide (cs.getD k 0 < -2048 ∨ 2047 < cs.getD k 0) with
      | some k => some (o + 2 * (taps * ph + k))
      | none => if cs.foldl (· + ·) 0 = 1024 then none else some (o + 2 * taps * ph)
  if b.length ≠ 3648 then some 0
  else if u b 0 4 ≠ 0x42434D47 then some 0
  else if u b 4 1 < 4 ∨ 31 < u b 4 1 then some 4
  else if 1 < u b 5 1 then some 5
  else if lo < 32 ∨ 4096 < lo then some 6
  else if hi < lo ∨ 4096 < hi then some 8
  else if !zeroAt b 10 6 then some 10
  else if !nameAt b 16 16 then some 16
  else if !zeroAt b 32 32 then some 32
  else [(64, 8), (1088, 6), (1856, 5), (2496, 4), (3008, 3), (3392, 2)].findSome? fun s => set s.1 s.2

/-- R287: the length a table kind takes, 0 for a kind that does not exist. -/
def tableLen (kind : Nat) : Nat :=
  if kind = 1 then 64 else if kind = 2 then 12316 else if kind = 3 then 24598 else if kind = 4 then 39320 else 0

/-- R287: the byte offset at which a table image breaks a rule. -/
def tableBad (b : List Byte) : Option Nat :=
  let kind := u b 4 1
  if u b 0 4 ≠ 0x54434D47 then some 0
  else if tableLen kind = 0 then some 4
  else if !zeroAt b 6 2 then some 6
  else if u b 8 4 ≠ tableLen kind ∨ b.length ≠ tableLen kind then some 8
  else if !zeroAt b 12 4 then some 12
  else if kind = 1 then
    (List.range 12).findSome? fun i =>
      let v := signed 32 (u b (16 + 4 * i) 4)
      let lim : Int := if i < 9 then 131072 else 1048576
      if v < -lim ∨ lim ≤ v then some (16 + 4 * i) else none
  else if kind = 2 then
    (List.range 3075).findSome? fun i => if 2 ^ 20 ≤ u b (16 + 4 * i) 4 then some (16 + 4 * i) else none
  else if kind = 4 then
    (List.range 4913).findSome? fun i => if u b (16 + 8 * i + 6) 2 ≠ 0 then some (16 + 8 * i + 6) else none
  else none

/-! ### Check 1 -/

/-- What a failing check names: its variant and the index of the first offending entry (R180). -/
abbrev Fail := Option (Nat × Nat)

/-- The first index of a list whose entry fails. -/
def firstBad {α : Type} (bad : α → Bool) (l : List α) : Option Nat := l.findIdx? bad

/-- The first fault of several. -/
def firstOf (l : List (Option Nat)) : Option Nat := l.findSome? id

/-- R167: entry size of a section type, 0 where entries have no one size. -/
def entrySize (fmt type : Nat) : Nat :=
  if type = 1 then 32 else if type = 2 then 48 else if type = 3 then (if fmt = 3 then 48 else 64) else if type = 4 then 32
  else if type = 5 then 32 else if type = 6 then 3648 else if type = 8 then 32 else if type = 9 then 16 else if type = 11 then 16
  else if type = 12 then (if fmt = 3 then 120 else 192) else if type = 13 then 32 else if type = 14 then 64 else 0

/-- R167: a section type that a variant has its own copy of. -/
def isVariantType (t : Nat) : Bool := t == 8 || t == 9 || t == 10 || t == 12

/-- R167: a section that is ignored, together with its content. -/
def ignoredSect (s : Sect) : Bool := decide (0x80 ≤ s.type) && decide (s.type ≤ 0xFE)

/-- R167: a directory entry's own faults: its type, place, length, alignment and reserved byte. -/
def sectBad (img : List Byte) (t : Truss) (i : Nat) : Bool :=
  match t.dir[i]? with
  | none => true
  | some s =>
    if ignoredSect s then false
    else
      let size := entrySize t.format s.type
      !(decide (1 ≤ s.type ∧ s.type ≤ 14) || s.type == 0xFF) || !zeroAt img (t.headerLen + 24 * i + 3) 1 ||
        s.off % 8 != 0 || decide (t.len < s.off + s.len) || decide (s.off < t.headerLen + 24 * t.dir.length) ||
        (size != 0 && s.len != up8 (size * s.count) && s.len != size * s.count) ||
        (isVariantType s.type && decide (37 < s.variant)) || (!isVariantType s.type && s.variant != 0xFF) ||
        (s.type == 10 && decide (s.len < 104 + 16 * u img s.off 4)) ||
        (s.type == 7 && decide (s.len < 4 + 24 * u img s.off 4)) ||
        (((t.dir.take i).filter fun o => !ignoredSect o).any fun o => (o.type == s.type && o.variant == s.variant) ||
          (decide (o.off < s.off + s.len) && decide (s.off < o.off + o.len)))

/-- R174: variant `v` has sections of its own: it is there and is not an alias. -/
def ownSects (t : Truss) (v : Nat) : Bool := t.variants.any fun e => e.id == v && e.aliasOf == v

/-- R167: the types every truss must hold, shared and per variant that is not an alias; an alias has none of its own. -/
def missingSect (t : Truss) : Option (Nat × Nat) :=
  if [1, 2, 3, 4, 11, 0xFF].any fun x => (findSect t.dir x 0xFF).isNone then some (0, 0)
  else
    match (t.variants.filter fun v => v.aliasOf == v.id).findSome? fun v =>
        if [8, 9, 12].any fun x => (findSect t.dir x v.id).isNone then some (v.id, 0) else none with
    | some f => some f
    | none => (t.dir.zipIdx.find? fun e => isVariantType e.1.type && !ownSects t e.1.variant).map fun e => (e.1.variant, e.2)

/-- R178: the variant numbers a format holds. -/
def formatVariants (fmt : Nat) : List Nat :=
  if fmt = 3 then (List.range 38).filter fun v => v != 1 && decide (v < 34) else List.range 38

/-- R174: the kind code and unit of a variant number. -/
def variantKind (v : Nat) : Nat × Nat :=
  if v = 0 then (0, 0) else if v = 1 then (1, 0) else if v < 18 then (2, v - 2) else if v < 22 then (3, v - 18)
  else if v < 26 then (4, v - 22) else if v < 34 then (5, v - 26) else (6, v - 34)

/-- R174: a variant entry that its table does not allow. -/
def variantBad (v : TVariant) : Bool :=
  decide ((v.kind, v.unit) ≠ variantKind v.id) || !(v.aliasOf == v.id || v.aliasOf == 0)

/-- R181 check 1: a group entry whose fields its table does not allow. -/
def groupBad (g : TGroup) : Bool :=
  decide (15 < g.id) || decide (2 < g.base) || decide (g.f = 0) || decide (g.cutoff ≠ 0 ∧ g.cutoff < 100) || decide (g.k = 0)

/-- Reserved bytes of the shared entries: section type, then offset and length of each reserved range. -/
def reservedOf (fmt type : Nat) : List (Nat × Nat) :=
  if type = 1 then [(18, 14)] else if type = 2 then [(15, 1)]
  else if type = 3 then (if fmt = 3 then [(34, 6)] else [(42, 6)])
  else if type = 4 then [(4, 4), (24, 8)] else if type = 5 then [(30, 2)] else if type = 8 then [(17, 1), (26, 2)]
  else if type = 9 then [(13, 3)] else if type = 11 then [(5, 11)]
  else if type = 12 then (if fmt = 3 then [(1, 3), (104, 4), (118, 2)] else [(1, 3), (104, 4), (118, 2), (184, 8)])
  else if type = 13 then [(28, 4)] else if type = 14 then [(38, 2), (55, 9)] else []

/-- R360: reserved bytes of a calendar section: the header's and each port entry's. -/
def calendarReserved (img : List Byte) (s : Sect) : Option Nat :=
  if s.type ≠ 10 then none
  else if !zeroAt img (s.off + 4) 4 then some 0
  else firstBad (fun p => !zeroAt img (s.off + 9 + 24 * p) 1 || !zeroAt img (s.off + 28 + 24 * p) 4) (List.range 4)

/-- A non-zero reserved byte, by section: its variant and entry. -/
def reservedBad (img : List Byte) (t : Truss) : Fail :=
  t.dir.findSome? fun s =>
    (if s.type = 10 then calendarReserved img s else firstBad (fun o => (reservedOf t.format s.type).any fun r => !zeroAt img (o + r.1) r.2)
      (entryOffs s (entrySize t.format s.type))).map fun i => (if s.variant = 0xFF then 0 else s.variant, i)

/-- R181 check 1: structure. `stepping` is ID_REVISION's. -/
def check1 (stepping : Nat) (img : List Byte) (t : Truss) : Fail :=
  let last := t.dir.getLast?
  let order := t.dir.all fun s => decide (s.off ≤ t.sig.off)
  if u img 0 4 ≠ 0x52544D47 ∨ (t.format ≠ 3 ∧ t.format ≠ 4) ∨ u img 6 2 ≠ t.headerLen ∨ t.len ≠ img.length then some (0, 0)
  else if img.length < t.headerLen + 24 * t.dir.length then some (0, 0)
  else if (if t.format = 3 then !zeroAt img 48 48 else !zeroAt img 64 64) then some (0, 0)
  else if t.id = 0 ∨ (t.pfRaw ≠ 0 ∧ (t.pfRaw < 512 ∨ 1023 < t.pfRaw)) ∨ t.groupCount = 0 ∨ 16 < t.groupCount then some (0, 0)
  else if 7 < t.flags ∨ stepping < t.stepping then some (0, 0)
  else
    match firstBad (sectBad img t) (List.range t.dir.length) with
    | some i => some (0, i)
    | none =>
      match missingSect t with
      | some f => some f
      | none =>
        if last.isNone ∨ !order then some (0, t.dir.length - 1)
        else if t.variants.map (·.id) ≠ formatVariants t.format then some (0, 0)
        else
          match firstBad variantBad t.variants with
          | some i => some (0, i)
          | none =>
            match reservedBad img t with
            | some f => some f
            | none =>
              if t.groups.length ≠ t.groupCount then some (0, 0)
              else
                match firstBad groupBad t.groups with
                | some i => some (0, i)
                | none =>
                  let dup := firstBad (fun i => (t.groups.take i).any fun g => g.id == (t.groups.getD i {}).id)
                    (List.range t.groups.length)
                  let bank := (findSect t.dir 6 0xFF).bind fun s =>
                    firstBad (fun o => (bankBad ((img.drop o).take 3648)).isSome) (entryOffs s 3648)
                  let bankDup := if t.banks.length ≠ (((findSect t.dir 6 0xFF).map (·.count)).getD 0) then some 0 else none
                  let tabs := (findSect t.dir 7 0xFF).bind fun s =>
                    firstBad (fun o => (tableBad ((img.drop o).take (u img (o + 8) 4))).isSome) (sectTables img s)
                  let tabDup := (findSect t.dir 7 0xFF).bind fun s =>
                    if t.tables.length ≠ (sectTables img s).length then some 0 else none
                  (firstOf [dup, bank, bankDup, tabs, tabDup]).map fun i => (0, i)

end Sys2Proof.Machine
end

