-- ==== Sys2Proof/Machine/Numbers.lean ====
section
/-! DEFINITION. The exact arithmetic of the colour path: rounding, transfer functions as exact reals (R273, R281),
binary16 and binary32 (R238, R261), and CRC-64 (R330). -/

namespace Sys2Proof.Machine

/-- floor(n / d + 1/2). -/
def roundDiv (n d : Nat) : Nat := (2 * n + d) / (2 * d)

/-- Clamps an integer to `[0, top]`. -/
def clampTo (top : Nat) (i : Int) : Nat := if i < 0 then 0 else min top i.toNat

/-- Arithmetic shift right. -/
def asr (i : Int) (k : Nat) : Int := i / (2 ^ k : Int)

/-- The largest number below 2^17 for which a falling predicate holds, 0 when none does. -/
def largest (p : Nat → Bool) : Nat :=
  (List.range 17).foldl (fun acc i => let c := acc + 2 ^ (16 - i); if p c then c else acc) 0

/-- round(65,535 × (num / den)^(a / b)), a value half way rounding up, exactly. -/
def powRound (num den a b : Nat) : Nat :=
  largest fun n => decide ((2 * n - 1) ^ b * den ^ a ≤ 131070 ^ b * num ^ a)

/-- R273: entry `k` of degamma ROM table `code`. -/
def degammaRom (code k : Nat) : Nat :=
  if code = 1 then
    if k * 100000 ≤ 4045 * 1024 then roundDiv (65535 * k * 100) (1024 * 1292)
    else powRound (1000 * k + 55 * 1024) (1055 * 1024) 12 5
  else if code = 2 then powRound k 1024 11 5
  else powRound k 1024 12 5

/-- R281: entry `k` of regamma ROM table `code`. -/
def regammaRom (code k : Nat) : Nat :=
  if code = 1 then
    if k * 1292000 ≤ 4045 * 4096 then roundDiv (65535 * k * 1292) (4096 * 100)
    else largest fun n => decide (((2 * n - 1) * 1000 + 55 * 131070) ^ 12 * 4096 ^ 5 ≤ (1055 * 131070) ^ 12 * k ^ 5)
  else if code = 2 then powRound k 4096 5 11
  else powRound k 4096 5 12

/-! ### Floating point -/

/-- A number `m × 2^e`. -/
structure Dy where
  m : Int := 0
  e : Int := 0
  deriving DecidableEq, Repr, Inhabited

/-- Both numbers on one exponent, added. -/
def Dy.add (a b : Dy) : Dy :=
  if a.e ≤ b.e then ⟨a.m + b.m * 2 ^ (b.e - a.e).toNat, a.e⟩ else ⟨a.m * 2 ^ (a.e - b.e).toNat + b.m, b.e⟩

/-- Bits of a natural number. -/
def bitLen (n : Nat) : Nat := if n = 0 then 0 else Nat.log2 n + 1

/-- Rounded to `p` bits of precision and no exponent below `emin`, to nearest, ties to even. -/
def Dy.round (p : Nat) (emin : Int) (a : Dy) : Dy :=
  let n := a.m.natAbs
  let e := max emin (a.e + (bitLen n : Int) - p)
  if e ≤ a.e then a
  else
    let k := (e - a.e).toNat
    let q := n / 2 ^ k
    let r := n % 2 ^ k
    let q := if 2 * r > 2 ^ k ∨ (2 * r = 2 ^ k ∧ q % 2 = 1) then q + 1 else q
    ⟨if a.m < 0 then -(q : Int) else q, e⟩

/-- Rounded to binary32. -/
def Dy.to32 (a : Dy) : Dy := a.round 24 (-149)

/-- Rounded to binary16 and clamped to ±65,504. -/
def Dy.to16 (a : Dy) : Dy :=
  let r := a.round 11 (-24)
  let big := decide (65504 * 2 ^ (-r.e).toNat < r.m.natAbs * 2 ^ r.e.toNat)
  if big then ⟨if r.m < 0 then -65504 else 65504, 0⟩ else r

/-- R261: a binary16 pattern; NaN and infinity are taken as 0. -/
def f16 (v : Nat) : Dy :=
  let ex := bitsOf 10 5 v
  let m : Int := if ex = 0 then bitsOf 0 10 v else bitsOf 0 10 v + 1024
  if ex = 31 then ⟨0, 0⟩ else ⟨if bitOf 15 v then -m else m, (max 1 ex : Int) - 25⟩

/-- floor(x × k + 1/2) of a number, nothing below 0. -/
def Dy.scaled (k : Nat) (a : Dy) : Nat :=
  if a.m < 0 then 0
  else if 0 ≤ a.e then a.m.toNat * 2 ^ a.e.toNat * k else roundDiv (a.m.toNat * k) (2 ^ (-a.e).toNat)

/-- A number as a binary16 pattern. -/
def Dy.bits16 (a : Dy) : Nat :=
  let r := a.to16
  let n := r.m.natAbs
  if n = 0 then 0
  else
    let e := max (-24) (r.e + (bitLen n : Int) - 11)
    let q := if e ≤ r.e then n * 2 ^ (r.e - e).toNat else n / 2 ^ (e - r.e).toNat
    let body := if q < 1024 then q else (q - 1024) + 1024 * (e + 25).toNat
    (if r.m < 0 then 32768 else 0) + body

/-- R238: the exact mean of several numbers, rounded once to binary16. Division by 1, 2, 4, 8 or 16 is exact in `Dy`;
any other count is carried to 64 further bits before the one rounding, with a sticky last bit. -/
def meanF16 (xs : List Dy) : Dy :=
  let s := xs.foldl Dy.add ⟨0, 0⟩
  let n := max 1 xs.length
  let a := s.m.natAbs * 2 ^ 64
  let q := a / n * 2 + (if a % n = 0 then 0 else 1)
  (Dy.mk (if s.m < 0 then -(q : Int) else q) (s.e - 65)).to16

/-! ### CRC-64 -/

/-- One bit of the reflected CRC-64 of polynomial 0x42F0E1EBA9EA3693 (R330). -/
def crc64Bit (c : Long) : Long := if c.getLsbD 0 then (c >>> 1) ^^^ 0xC96C5795D7870F42 else c >>> 1

/-- R330: CRC-64 of some bytes. -/
def crc64 (bs : List Byte) : Long :=
  ~~~(bs.foldl (fun c b => (List.range 8).foldl (fun c _ => crc64Bit c) (c ^^^ b.zeroExtend 64)) (BitVec.allOnes 64))

end Sys2Proof.Machine
end

