-- ==== Sys2Proof/Machine/KcpArgs.lean ====
section
/-! DEFINITION. How a KCP command's operands stand in the parameter area of its entry, and how its results stand in the result area: offsets and
field sizes of the command tables, in the byte order of the path (R7, R141, R143, R155–R160). -/

namespace Sys2Proof

open Machine

/-- R7: fields are in network byte order over UDP. -/
def KcpCtx.net (c : KcpCtx) : Bool := match c.via with | .udp _ => true | .mailbox _ => false

/-- R141: the envelope and parameter area of an entry, on the path that it came by. -/
def CmdEntry.ctx (e : CmdEntry) (fn : Fin 16) (via : Via) : KcpCtx :=
  { fn := fn, via := via, handle := e.handle, seq := e.seq, flags := e.flags, len := e.len, tag := e.tag, params := e.params }

/-- R141: entry `e` is the command with this ID and this envelope and parameter area. -/
def CmdEntry.isFor (e : CmdEntry) (id : Nat) (c : KcpCtx) : Bool := e.id == BitVec.ofNat 16 id && e.ctx c.fn c.via == c

/-- A number at an offset of a parameter area. -/
def num {n : Nat} (net : Bool) (off : Nat) (v : BitVec n) : Nat × List Byte := (off, fieldBytes net (n / 8) v.toNat)

/-- The bytes of some numbers of one width, one after another. -/
def nums {n : Nat} (net : Bool) (vs : List (BitVec n)) : List Byte := vs.flatMap fun v => fieldBytes net (n / 8) v.toNat

/-- Bytes that hold fields of some sizes, given least significant first. -/
def sized (net : Bool) (sizes : List Nat) (bs : List Byte) : List Byte := if net then netOrder sizes bs else bs

/-- Fields of one byte. -/
def ones (n : Nat) : List Nat := List.replicate n 1

/-- R156: sizes of the fields of a grant's value. -/
def grantSizes (kind : Nat) : List Nat :=
  match kind with | 0 => [2, 2] | 1 => [2] | 2 => [4, 8, 2] | 4 => [4] | 5 => [4] | 6 => [2, 2] | 8 => [2] | _ => []

/-- R171: sizes of bytes 8–31 of a slot entry. -/
def boxSizes : List Nat := List.replicate 10 2 ++ ones 4

/-- R186: sizes of the fields of a change. -/
def changeSizes (kind : Nat) : List Nat :=
  match kind with
  | 0 => [1, 1, 2, 2, 2, 1, 1, 2, 2]
  | 2 => [1, 1, 2, 2] ++ ones 4 ++ boxSizes ++ [2, 4, 2]
  | 4 => [1, 1, 2] ++ boxSizes
  | _ => [1, 1, 2]

/-- R297: sizes of the fields of a head timing. -/
def timingSizes : List Nat := ones 4 ++ [4, 1, 1] ++ List.replicate 9 2

/-- R441: sizes of the fields of a fault record, bytes 0–19. -/
def recordSizes : List Nat := [1, 1, 2, 4, 8, 4]

/-- R159: the length of an item. -/
def itemSize (item : Nat) : Nat := match item with | 3 => 2 | 4 => 4 | _ => 1

/-- Sizes of the fields of a command's result, by its ID, its parameter area and the result's length; the rest are bytes. A field of 3, 6, 12, 16 or
32 bytes is a byte string (log 31). -/
def kcpShape (id : Nat) (params : List Byte) (len : Nat) : List Nat :=
  match id with
  | 0x0000 => ones 4 ++ [4, 1, 1, 2] ++ ones 4 ++ [8]
  | 0x0002 => ones 4 ++ [4, 4, 4, 2, 1, 1, 8]
  | 0x0004 => [1, 1, 2, 2, 2, 2, 2] ++ ones 8 ++ [2, 2, 2, 2, 8, 4, 8]
  | 0x0006 => grantSizes (params.getD 1 0).toNat
  | 0x0B01 => ones 4 ++ [4, 4, 8, 8]
  | 0x0B02 =>
    let n := itemSize (params.getD 1 0).toNat
    [2, 1, 1, n] ++ ones (16 - n) ++ [n]
  | 0x0102 => ones 4 ++ [8, 8, 4, 4]
  | 0x0110 => [2]
  | 0x0120 => [1, 1, 2, 8, 4, 8]
  | 0x0140 => [8, 8, 2]
  | 0x0141 => [2, 2, 2]
  | 0x0142 => [2, 2]
  | 0x0143 => [4, 4, 4, 8, 4, 4, 4, 4, 4]
  | 0x0200 => [2, 1, 1, 8]
  | 0x0202 => [2, 2, 2, 1, 1, 8, 4, 4, 1, 1, 2, 2]
  | 0x0212 => [4, 4, 4, 4, 2, 2, 4, 4, 4, 2, 2]
  | 0x0220 => [4]
  | 0x0221 => [4]
  | 0x0241 => [1, 1, 2, 2, 2]
  | 0x0243 => ones 6 ++ [2, 4, 4, 4]
  | 0x0261 => [1, 1, 2, 4, 4]
  | 0x0264 => [1, 2, 2, 2, 2]
  | 0x0280 => ones 4 ++ [2, 2, 4, 8, 2, 2]
  | 0x0300 => if len = 32 then timingSizes else ones 8 ++ [4, 4, 4, 2, 2, 2, 2, 8]
  | 0x0401 => [1, 1, 2, 4] ++ ones 16 ++ [2, 2, 4, 4, 4, 4, 2]
  | 0x0407 => List.replicate 24 2
  | 0x0440 => ones 4 ++ [2, 1, 1] ++ ones 20 ++ [4, 4, 4, 4, 4]
  | 0x0445 => [1, 1, 2, 8, 4, 4, 2, 2, 2, 2, 8]
  | 0x0450 => [4, 2, 2, 4, 4, 4, 2, 2, 2, 2, 4, 4, 4, 4, 4]
  | 0x0501 => [1, 1, 2] ++ ones 4 ++ [8, 4, 4, 8, 4, 4, 4]
  | 0x0511 => [2, 1, 1, 4, 4, 4, 4, 4] ++ List.replicate 8 2
  | 0x0522 => [4, 4] ++ ones 4 ++ [8]
  | 0x0601 => [4]
  | 0x0602 => [2, 2, 2, 2, 2] ++ ones 10 ++ [4, 4]
  | 0x0608 => [4]
  | 0x0611 => [2] ++ ones 4 ++ [4, 2, 2, 1, 1, 2, 2]
  | 0x0622 => ones 4 ++ [2, 2, 8]
  | 0x0741 => ones 4 ++ [2] ++ ones 6 ++ [4, 4]
  | 0x0742 => ones 4 ++ [4, 4, 4] ++ List.replicate 16 2
  | 0x0700 => [4, 4] ++ recordSizes ++ recordSizes
  | 0x0701 => if len = 40 then recordSizes ++ [4, 2, 1, 1, 4, 4, 4] else [2]
  | 0x0702 => [2, 2]
  | 0x0709 => [4, 4] ++ ones 4 ++ [4, 4, 8]
  | 0x0801 => ones 7 ++ [4, 2, 2, 8, 8, 1, 8, 4]
  | 0x0811 => [4]
  | 0x0812 => [4, 4, 4] ++ ones 4 ++ [4]
  | 0x0821 => List.replicate 7 4
  | 0x0900 => [8, 8, 4, 4, 4, 4]
  | 0x0910 => List.replicate 7 4
  | 0x0A00 => [4, 8]
  | 0x0A01 => [4]
  | 0x0A05 => ones 4 ++ [4, 4]
  | 0x0A06 => [4]
  | 0x0A07 => ones 32 ++ [8]
  | _ => []

/-- The envelope of a KCP command, and the fields of its parameter area at their offsets; none for every other event. The measured REFCLK of
MNT_CFG_SET and the verdicts of signatures are no parameters. -/
def Instr.entryFields (net : Bool) : Instr → Option (KcpCtx × List (Nat × List Byte))
  | .clkQuery c pll => some (c, [num net 0 pll])
  | .clkSetTrack c pll source group deadband period => some (c, [num net 0 pll, num net 1 source, num net 2 group, num net 4 deadband,
      num net 6 period])
  | .clkSetSyncOut c mode group width offset => some (c, [num net 0 mode, num net 1 group, num net 2 width, num net 4 offset])
  | .clkRelock c pll => some (c, [num net 0 pll])
  | .clkSetSettle c count => some (c, [num net 0 count])
  | .paceQuery c => some (c, [])
  | .paceSetBand c lo hi alarm => some (c, [num net 0 lo, num net 2 hi, num net 4 alarm])
  | .paceSetLimits c vmin vmax up down period => some (c, [num net 0 vmin, num net 2 vmax, num net 4 up, num net 5 down, num net 6 period])
  | .paceClear c => some (c, [])
  | .paceForceReduced c enter => some (c, [num net 0 enter])
  | .memQuery c port => some (c, [num net 0 port])
  | .memSetInterleave c size => some (c, [num net 0 size])
  | .memMapAperture c fn segment enable address => some (c, [num net 0 fn, num net 1 segment, num net 2 enable, num net 4 address])
  | .memPortOffline c port => some (c, [num net 0 port])
  | .memPortOnline c port => some (c, [num net 0 port])
  | .memSetSnoop c fn noSnoop => some (c, [num net 0 fn, num net 1 noSnoop])
  | .sessOpen c hostMin hostMax client mask => some (c, [num net 0 hostMin, num net 1 hostMax, (4, client), num net 20 mask])
  | .sessClose c => some (c, [])
  | .sessInfo c => some (c, [])
  | .sessNop c bytes => some (c, [(0, bytes)])
  | .sessStatus c => some (c, [])
  | .sessGrant c fn kind index op value => some (c, [num net 0 fn, num net 1 kind, num net 2 index, num net 3 op, (4,
      sized net (grantSizes kind.toNat) value)])
  | .sessGrantQuery c fn kind index => some (c, [num net 0 fn, num net 1 kind, num net 2 index])
  | .mntReset c kind confirm => some (c, [num net 0 kind, num net 4 confirm])
  | .mntInfo c => some (c, [])
  | .mntCfgGet c item => some (c, [num net 0 item])
  | .mntCfgSet c item length value _ => some (c, [num net 0 item, num net 2 length, (4, sized net [length.toNat] value)])
  | .mntSetNetmgmt c enable ports ipVersion port vlan pcp prefixLen address => some (c, [num net 0 enable, num net 1 ports, num net 2 ipVersion,
      num net 4 port, num net 6 vlan, num net 8 pcp, num net 9 prefixLen, (12, leBytes 16 address.toNat)])
  | .mntNetkey c slot op role key => some (c, [num net 0 slot, num net 1 op, num net 2 role, (4, key)])
  | .trussLoad c slot source standing address length => some (c, [num net 0 slot, num net 1 source, num net 2 standing, num net 4 address,
      num net 12 length])
  | .trussCheck c slot => some (c, [num net 0 slot])
  | .trussQuery c slot => some (c, [num net 0 slot])
  | .trussUnload c slot => some (c, [num net 0 slot])
  | .planChange c bytes => some (c, [(0, sized net (changeSizes (bytes.getD 0 0).toNat) bytes)])
  | .planCommit c base target => some (c, [num net 0 base, num net 1 target])
  | .planDiscard c => some (c, [])
  | .standingQuery c slot => some (c, [num net 0 slot])
  | .standingWrite c slot => some (c, [num net 0 slot])
  | .standingSelect c slot => some (c, [num net 0 slot])
  | .seqSwitch c slot => some (c, [num net 0 slot])
  | .seqArm c mask => some (c, [num net 0 mask])
  | .seqDisarm c mask => some (c, [num net 0 mask])
  | .seqQuery c group => some (c, [num net 0 group])
  | .seqSetCutoff c group us => some (c, [num net 0 group, num net 2 us])
  | .seqForceVariant c variant => some (c, [num net 0 variant])
  | .surfAlloc c format width height flags address stride plane1 handle => some (c, [num net 0 format, num net 2 width, num net 4 height,
      num net 6 flags, num net 8 address, num net 16 stride, num net 20 plane1, num net 24 handle])
  | .surfFree c handle => some (c, [num net 0 handle])
  | .surfQuery c handle => some (c, [num net 0 handle])
  | .surfShare c handle share => some (c, [num net 0 handle, num net 2 share])
  | .layerSet c slot mask values => some (c, [num net 0 slot, num net 2 mask, (4, nums net values)])
  | .layerSetType c slot first count values => some (c, [num net 0 slot, num net 2 first, num net 3 count, (4, nums net values)])
  | .layerQuery c slot => some (c, [num net 0 slot])
  | .cellWrite c slot count first entries => some (c, [num net 0 slot, num net 2 count, num net 4 first, (8, nums net entries)])
  | .cellFill c slot first count entry => some (c, [num net 0 slot, num net 4 first, num net 8 count, num net 12 entry])
  | .sclBankLoad c bank address => some (c, [num net 0 bank, num net 4 address])
  | .sclBankQuery c bank copy address => some (c, [num net 0 bank, num net 1 copy, num net 4 address])
  | .sclSetSlot c slot h v sh sv => some (c, [num net 0 slot, num net 2 h, num net 3 v, num net 4 sh, num net 5 sv])
  | .sclQuerySlot c slot => some (c, [num net 0 slot])
  | .colTableLoad c index address => some (c, [num net 0 index, num net 4 address])
  | .colTableQuery c index => some (c, [num net 0 index])
  | .colTableFree c index => some (c, [num net 0 index])
  | .colSetOutput c output mask space background matrix regamma regTable lut dither => some (c, [num net 0 output, num net 2 mask,
      num net 3 space, (4, nums net background), num net 12 matrix, num net 13 regamma, num net 14 regTable, num net 15 lut, num net 16 dither])
  | .colQueryOutput c output view => some (c, [num net 0 output, num net 2 view])
  | .colSetSlot c slot mask values => some (c, [num net 0 slot, num net 2 mask, (4, nums net values)])
  | .headQuery c head view => some (c, [num net 0 head, num net 1 view])
  | .headSetTiming c entry => some (c, [(0, sized net timingSizes entry)])
  | .headSetPower c head power => some (c, [num net 0 head, num net 1 power])
  | .headRetrain c head => some (c, [num net 0 head])
  | .headAux c head op length i2c address data => some (c, [num net 0 head, num net 1 op, num net 2 length, num net 3 i2c, num net 4 address, (8,
      data)])
  | .headSetBacklight c head level => some (c, [num net 0 head, num net 2 level])
  | .adtConfig c port heartbeat hold repair beacon group => some (c, [num net 0 port, num net 2 heartbeat, num net 4 hold, num net 6 repair,
      num net 8 beacon, (12, leBytes 16 group.toNat)])
  | .adtQuery c kind number => some (c, [num net 0 kind, num net 2 number])
  | .adtBind c kind fixed number peer address => some (c, [num net 0 kind, num net 1 fixed, num net 2 number, num net 4 peer, (12,
      leBytes 16 address.toNat)])
  | .adtDisconnect c kind number hold => some (c, [num net 0 kind, num net 2 number, num net 4 hold])
  | .adtRefresh c first count => some (c, [num net 0 first, num net 2 count])
  | .adtBlank c first count op notice background colour => some (c, [num net 0 first, num net 2 count, num net 4 op, num net 5 notice, (6,
      leBytes 3 background.toNat), (9, leBytes 3 colour.toNat)])
  | .adtSourceCtrl c source op => some (c, [num net 0 source, num net 1 op])
  | .adtStats c => some (c, [])
  | .netPortQuery c port => some (c, [num net 0 port])
  | .netPortCfg c port mode txInvert adt largest pcpSlice pcpControl pcpRepair flags cap => some (c, [num net 0 port, num net 1 mode,
      num net 2 txInvert, num net 3 adt, num net 4 largest, num net 6 pcpSlice, num net 7 pcpControl, num net 8 pcpRepair, num net 9 flags,
      num net 10 cap])
  | .netPortEnable c port enable => some (c, [num net 0 port, num net 1 enable])
  | .netSetAddr c port version prefixLen address => some (c, [num net 0 port, num net 1 version, num net 2 prefixLen, (4, leBytes 16 address.toNat)])
  | .netTimeCfg c role domain priority1 priority2 clockClass accuracy logSync ports asymmetry => some (c, [num net 0 role, num net 1 domain,
      num net 2 priority1, num net 3 priority2, num net 4 clockClass, num net 5 accuracy, num net 6 logSync, num net 7 ports, (8,
      nums net asymmetry)])
  | .netTimeQuery c => some (c, [])
  | .netMacsecCfg c port mode cipher keySlot replay keyPrio => some (c, [num net 0 port, num net 1 mode, num net 2 cipher, num net 3 keySlot,
      num net 4 replay, num net 8 keyPrio])
  | .netMacsecKey c slot op len cak ckn => some (c, [num net 0 slot, num net 1 op, num net 2 len, (4, cak), (36, ckn)])
  | .netCbCfg c entry op ports history mac vlan timeout => some (c, [num net 0 entry, num net 1 op, num net 2 ports, num net 3 history, (4,
      leBytes 6 mac.toNat), num net 10 vlan, num net 12 timeout])
  | .calQuery c port variant => some (c, [num net 0 port, num net 1 variant])
  | .calSetRates c port mask rates bursts => some (c, [num net 0 port, num net 1 mask, (4, nums net rates), (16, nums net bursts)])
  | .ingCfg c source depth queue => some (c, [num net 0 source, num net 1 depth, num net 2 queue])
  | .ingQuery c source => some (c, [num net 0 source])
  | .wbSetTarget c engine count queue handles => some (c, [num net 0 engine, num net 1 count, num net 2 queue, (4, nums net handles)])
  | .wbQuery c engine => some (c, [num net 0 engine])
  | .dmaCqCfg c queue owner => some (c, [num net 0 queue, num net 1 owner])
  | .dmaReqMap c line source => some (c, [num net 0 line, num net 2 source])
  | .dmaQuery c channel => some (c, [num net 0 channel])
  | .svcFieldDefine c field slot col row cols rows just flags map fg bg => some (c, [num net 0 field, num net 2 slot, num net 4 col,
      num net 6 row, num net 8 cols, num net 10 rows, num net 12 just, num net 13 flags, num net 14 map, num net 15 fg, num net 16 bg])
  | .svcFieldSet c field op flags fg bg length text => some (c, [num net 0 field, num net 2 op, num net 3 flags, num net 4 fg, num net 5 bg,
      num net 6 length, (8, text)])
  | .svcFieldQuery c field => some (c, [num net 0 field])
  | .svcCharmapLoad c map address => some (c, [num net 0 map, num net 4 address])
  | .svcMosaicSet c slot m width colour pattern0 pattern1 => some (c, [num net 0 slot, num net 2 m, num net 4 width, num net 8 colour,
      num net 12 pattern0, num net 14 pattern1])
  | .svcMosaicQuery c slot => some (c, [num net 0 slot])
  | .svcMsgSet c message op map fg bg prio length text => some (c, [num net 0 message, num net 1 op, num net 2 map, num net 3 fg, num net 4 bg,
      num net 5 prio, num net 6 length, (8, text)])
  | .svcBulletin c op message => some (c, [num net 0 op, num net 1 message])
  | .svcBulletinQuery c => some (c, [])
  | .svcEmergCfg c message enable => some (c, [num net 0 message, num net 1 enable])
  | .intcSetSource c first count items sensing prio enable targets => some (c, [num net 0 first, num net 2 count, num net 4 items,
      num net 5 sensing, num net 6 prio, num net 7 enable, num net 8 targets])
  | .intcQuerySource c source => some (c, [num net 0 source])
  | .intcQueryTarget c target => some (c, [num net 0 target])
  | .fltQuery c => some (c, [])
  | .fltLogRead c first count mode address => some (c, [num net 0 first, num net 4 count, num net 6 mode, num net 8 address])
  | .fltAck c kind first count => some (c, [num net 0 kind, num net 2 first, num net 4 count])
  | .fltSetSource c first count minClass n ceiling w => some (c, [num net 0 first, num net 2 count, num net 4 minClass, num net 5 n,
      num net 6 ceiling, num net 8 w])
  | .fltSetRecovery c k q2 q3 => some (c, [num net 0 k, num net 2 q2, num net 4 q3])
  | .fltUnfence c source => some (c, [num net 0 source])
  | .fltSetErrn c pulseClass levelClass pulseUs swLevel => some (c, [num net 0 pulseClass, num net 1 levelClass, num net 2 pulseUs,
      num net 4 swLevel])
  | .fltSetSafeField c address length => some (c, [num net 0 address, num net 8 length])
  | .fltEnterSafe c confirm => some (c, [num net 0 confirm])
  | .fltSrcQuery c source => some (c, [num net 0 source])
  | .pmuFcSet c counter mode path direction cls master chain clear privilege event low high => some (c, [num net 0 counter, num net 1 mode,
      num net 2 path, num net 3 direction, num net 4 cls, num net 5 master, num net 6 chain, num net 7 clear, num net 8 privilege,
      num net 12 event, num net 16 low, num net 24 high])
  | .pmuFcQuery c counter => some (c, [num net 0 counter])
  | .pmuSnapCfg c mask group cls hold period => some (c, [num net 0 mask, num net 1 group, num net 2 cls, num net 3 hold, num net 4 period])
  | .pmuSnapTake c => some (c, [])
  | .pmuSnapQuery c => some (c, [])
  | .pmuBwSet c engine k align cls threshold clear => some (c, [num net 0 engine, num net 1 k, num net 2 align, num net 3 cls,
      num net 4 threshold, num net 8 clear])
  | .pmuBwQuery c engine => some (c, [num net 0 engine])
  | .pmuClear c mask => some (c, [num net 0 mask])
  | .secAttest c mode address nonce => some (c, [num net 0 mode, num net 8 address, (16, nonce)])
  | .secIdentity c mode address => some (c, [num net 0 mode, num net 8 address])
  | .secKeyInstall c address _ => some (c, [num net 0 address])
  | .secKeyQuery c slot => some (c, [num net 0 slot])
  | .secImageWrite c target source length address => some (c, [num net 0 target, num net 1 source, num net 4 length, num net 8 address])
  | .secImageQuery c image => some (c, [num net 0 image])
  | .secRollbackCommit c kind value => some (c, [num net 0 kind, num net 4 value])
  | .secDebugChallenge c => some (c, [])
  | .secDebugUnlock c address _ => some (c, [num net 0 address])
  | .secTamperCfg c action => some (c, [num net 0 action])
  | _ => none

/-- A field stands in a parameter area. -/
def fieldStands (params : List Byte) (f : Nat × List Byte) : Bool := ((params.drop f.1).take f.2.length) == f.2

/-- R141: the operands of a KCP command are the fields of its parameter area; the entries of CELL_WRITE take two bytes each on a CELL16 map (R249). -/
def Instr.entryAgrees (i : Instr) : Bool :=
  match i.entryFields false with
  | none => true
  | some (c, _) =>
    match i with
    | .cellWrite c slot count first entries =>
      ([num c.net 0 slot, num c.net 2 count, num c.net 4 first].all (fieldStands c.params)) &&
        (fieldStands c.params (8, nums c.net entries) || fieldStands c.params (8, nums c.net (entries.map (BitVec.setWidth 16))))
    | _ => match i.entryFields c.net with | none => true | some (c, fs) => fs.all (fieldStands c.params)

end Sys2Proof
end

