-- ==== Sys2Proof/Machine/KcpIndex.lean ====
section
/-! DEFINITION. The index of KCP commands (R154): for each ID whether it is PF-only, the fixed part of its
required length (R144), and whether the safe state still accepts it (R153, R464). -/

namespace Sys2Proof.Machine

/-- One row of the command index. -/
structure KcpCmd where
  id : Nat
  pfOnly : Bool
  /-- R144: fixed part of the required parameter length. -/
  fixed : Nat
  /-- R153: the session group, a command whose only effect is to return data, or a fault command of R464. -/
  inSafe : Bool
  deriving DecidableEq, Repr, Inhabited

/-- Group 0x00. -/
def kcpIndexSession : List KcpCmd := [
  ⟨0x0000, false, 24, true⟩,
  ⟨0x0001, false, 0, true⟩,
  ⟨0x0002, false, 0, true⟩,
  ⟨0x0003, false, 0, true⟩,
  ⟨0x0004, false, 0, true⟩,
  ⟨0x0005, true, 4, true⟩,
  ⟨0x0006, false, 3, true⟩]

/-- Group 0x01. -/
def kcpIndexTruss : List KcpCmd := [
  ⟨0x0100, true, 20, false⟩,
  ⟨0x0101, true, 1, false⟩,
  ⟨0x0102, false, 1, true⟩,
  ⟨0x0103, true, 1, false⟩,
  ⟨0x0110, false, 1, false⟩,
  ⟨0x0111, false, 2, false⟩,
  ⟨0x0112, false, 0, false⟩,
  ⟨0x0120, false, 1, true⟩,
  ⟨0x0121, true, 1, false⟩,
  ⟨0x0122, true, 1, false⟩,
  ⟨0x0140, true, 4, false⟩,
  ⟨0x0141, false, 2, false⟩,
  ⟨0x0142, false, 2, false⟩,
  ⟨0x0143, false, 1, true⟩,
  ⟨0x0144, true, 4, false⟩,
  ⟨0x0145, true, 1, false⟩]

/-- Group 0x02. -/
def kcpIndexLayer : List KcpCmd := [
  ⟨0x0200, false, 28, false⟩,
  ⟨0x0201, false, 2, false⟩,
  ⟨0x0202, false, 2, true⟩,
  ⟨0x0203, false, 3, false⟩,
  ⟨0x0210, false, 40, false⟩,
  ⟨0x0211, false, 4, false⟩,
  ⟨0x0212, false, 2, true⟩,
  ⟨0x0220, false, 8, false⟩,
  ⟨0x0221, false, 16, false⟩,
  ⟨0x0240, true, 12, false⟩,
  ⟨0x0241, false, 12, true⟩,
  ⟨0x0242, false, 8, false⟩,
  ⟨0x0243, false, 2, true⟩,
  ⟨0x0260, true, 12, false⟩,
  ⟨0x0261, false, 1, true⟩,
  ⟨0x0262, true, 1, false⟩,
  ⟨0x0263, false, 20, false⟩,
  ⟨0x0264, false, 3, true⟩,
  ⟨0x0265, false, 20, false⟩,
  ⟨0x0280, false, 1, true⟩,
  ⟨0x0281, true, 2, false⟩,
  ⟨0x0282, false, 12, false⟩,
  ⟨0x0283, true, 1, false⟩,
  ⟨0x0284, true, 1, false⟩,
  ⟨0x0285, true, 2, false⟩]

/-- Group 0x03. -/
def kcpIndexHead : List KcpCmd := [
  ⟨0x0300, false, 2, true⟩,
  ⟨0x0301, false, 32, false⟩,
  ⟨0x0302, false, 2, false⟩,
  ⟨0x0303, false, 1, false⟩,
  ⟨0x0304, false, 24, false⟩,
  ⟨0x0305, false, 4, false⟩]

/-- Group 0x04. -/
def kcpIndexNet : List KcpCmd := [
  ⟨0x0400, true, 28, false⟩,
  ⟨0x0401, false, 4, true⟩,
  ⟨0x0402, true, 28, false⟩,
  ⟨0x0403, false, 6, false⟩,
  ⟨0x0404, false, 4, false⟩,
  ⟨0x0405, false, 12, false⟩,
  ⟨0x0406, true, 2, false⟩,
  ⟨0x0407, false, 0, true⟩,
  ⟨0x0440, false, 1, true⟩,
  ⟨0x0441, true, 12, false⟩,
  ⟨0x0442, true, 2, false⟩,
  ⟨0x0443, true, 20, false⟩,
  ⟨0x0444, true, 16, false⟩,
  ⟨0x0445, true, 0, true⟩,
  ⟨0x0446, true, 9, false⟩,
  ⟨0x0447, true, 48, false⟩,
  ⟨0x0448, true, 14, false⟩,
  ⟨0x0450, false, 2, true⟩,
  ⟨0x0451, false, 22, false⟩]

/-- Group 0x05. -/
def kcpIndexDma : List KcpCmd := [
  ⟨0x0500, true, 4, false⟩,
  ⟨0x0501, false, 1, true⟩,
  ⟨0x0510, false, 20, false⟩,
  ⟨0x0511, false, 1, true⟩,
  ⟨0x0520, true, 2, false⟩,
  ⟨0x0521, true, 4, false⟩,
  ⟨0x0522, false, 1, true⟩]

/-- Group 0x06. -/
def kcpIndexSvc : List KcpCmd := [
  ⟨0x0600, true, 20, false⟩,
  ⟨0x0601, false, 8, false⟩,
  ⟨0x0602, false, 2, true⟩,
  ⟨0x0608, true, 12, false⟩,
  ⟨0x0610, false, 16, false⟩,
  ⟨0x0611, false, 2, true⟩,
  ⟨0x0620, false, 8, false⟩,
  ⟨0x0621, false, 2, false⟩,
  ⟨0x0622, false, 0, true⟩,
  ⟨0x0623, true, 2, false⟩]

/-- Group 0x07. -/
def kcpIndexFlt : List KcpCmd := [
  ⟨0x0700, false, 0, true⟩,
  ⟨0x0701, false, 16, false⟩,
  ⟨0x0702, true, 6, true⟩,
  ⟨0x0703, true, 12, false⟩,
  ⟨0x0704, true, 6, false⟩,
  ⟨0x0705, true, 2, false⟩,
  ⟨0x0706, true, 5, false⟩,
  ⟨0x0707, true, 12, false⟩,
  ⟨0x0708, true, 4, false⟩,
  ⟨0x0709, false, 2, true⟩,
  ⟨0x0740, false, 10, false⟩,
  ⟨0x0741, false, 2, true⟩,
  ⟨0x0742, false, 1, true⟩]

/-- Group 0x08. -/
def kcpIndexPmu : List KcpCmd := [
  ⟨0x0800, false, 32, false⟩,
  ⟨0x0801, false, 1, true⟩,
  ⟨0x0810, true, 8, false⟩,
  ⟨0x0811, true, 0, false⟩,
  ⟨0x0812, false, 0, true⟩,
  ⟨0x0820, true, 9, false⟩,
  ⟨0x0821, false, 1, true⟩,
  ⟨0x0830, true, 1, false⟩]

/-- Group 0x09. -/
def kcpIndexClk : List KcpCmd := [
  ⟨0x0900, false, 1, true⟩,
  ⟨0x0901, false, 10, false⟩,
  ⟨0x0902, false, 8, false⟩,
  ⟨0x0903, true, 1, false⟩,
  ⟨0x0904, true, 2, false⟩,
  ⟨0x0910, false, 0, true⟩,
  ⟨0x0911, true, 6, false⟩,
  ⟨0x0912, true, 7, false⟩,
  ⟨0x0913, true, 0, false⟩,
  ⟨0x0914, true, 1, false⟩]

/-- Group 0x0A. -/
def kcpIndexSec : List KcpCmd := [
  ⟨0x0A00, false, 48, false⟩,
  ⟨0x0A01, true, 16, false⟩,
  ⟨0x0A02, true, 8, false⟩,
  ⟨0x0A03, false, 1, true⟩,
  ⟨0x0A04, true, 16, false⟩,
  ⟨0x0A05, true, 1, true⟩,
  ⟨0x0A06, true, 8, false⟩,
  ⟨0x0A07, true, 0, false⟩,
  ⟨0x0A08, true, 8, false⟩,
  ⟨0x0A09, true, 1, false⟩]

/-- Group 0x0B. -/
def kcpIndexMnt : List KcpCmd := [
  ⟨0x0B00, true, 8, false⟩,
  ⟨0x0B01, false, 0, true⟩,
  ⟨0x0B02, false, 2, true⟩,
  ⟨0x0B03, true, 4, false⟩,
  ⟨0x0B04, true, 28, false⟩,
  ⟨0x0B05, true, 36, false⟩]

/-- The commands of group `g`. -/
def kcpGroup (g : Nat) : List KcpCmd :=
  match g with
  | 0 => kcpIndexSession
  | 1 => kcpIndexTruss
  | 2 => kcpIndexLayer
  | 3 => kcpIndexHead
  | 4 => kcpIndexNet
  | 5 => kcpIndexDma
  | 6 => kcpIndexSvc
  | 7 => kcpIndexFlt
  | 8 => kcpIndexPmu
  | 9 => kcpIndexClk
  | 10 => kcpIndexSec
  | 11 => kcpIndexMnt
  | _ => []

/-- R154: a command ID's row, none for an ID that is not allocated. -/
def kcpFind (id : Nat) : Option KcpCmd := (kcpGroup (id / 256)).find? fun c => c.id == id

/-- R152: the lowest KCP version that has the command. -/
def kcpSince (id : Nat) : Nat :=
  if id = 0x0004 then 0x30
  else if id = 0x0B04 ∨ id = 0x0B05 then 0x31
  else match id / 256 with
    | 4 => 0x21
    | 5 => 0x21
    | 6 => 0x22
    | 9 => 0x30
    | 10 => 0x30
    | _ => 0x20

end Sys2Proof.Machine
end

