-- ==== Sys2Proof/Machine/KcpCore.lean ====
section
/-! DEFINITION. The one path every KCP command takes: the ordered checks, the command's own effect, and the
response in its mailbox or on its UDP session (R139–R153, R163). -/

namespace Sys2Proof.Machine

/-- R150: status codes. -/
inductive Status where
  | ok | inProgress | unknownCommand | unsupported | badLength | badParam | badSession | notGranted | pfOnly
  | busyStatic | busy | state | noResource | admission | signature | version | sequence | safeState | lateWrite
  | media | denied
  deriving DecidableEq, Repr, Inhabited

/-- R150: a status's code. -/
def Status.code : Status → Nat
  | .ok => 0 | .inProgress => 1 | .unknownCommand => 2 | .unsupported => 3 | .badLength => 4 | .badParam => 5
  | .badSession => 6 | .notGranted => 7 | .pfOnly => 8 | .busyStatic => 9 | .busy => 10 | .state => 11
  | .noResource => 12 | .admission => 13 | .signature => 14 | .version => 15 | .sequence => 16 | .safeState => 17
  | .lateWrite => 18 | .media => 19 | .denied => 20

/-- What a command's own part answers: a status, its detail, result bytes and the state after it. -/
structure Reply where
  status : Status
  detail : Nat
  result : List Byte
  st : State

/-- Done or accepted (R150). -/
def replyOk (s : State) (result : List Byte := []) : Reply := ⟨.ok, 0, result, s⟩

/-- Refused: nothing has changed (R150). -/
def refuse (st : Status) (detail : Nat) (s : State) : Reply := ⟨st, detail, [], s⟩

/-- BAD_PARAM at a parameter's byte offset (R150). -/
def badParam (offset : Nat) (s : State) : Reply := refuse .badParam offset s

/-- R136: entries in each ring of a mailbox; a log2_size outside 2–8 acts as 2. -/
def Mbx.size (m : Mbx) : Nat := if 2 ≤ m.log2Size.toNat ∧ m.log2Size.toNat ≤ 8 then 2 ^ m.log2Size.toNat else 4

/-- R139: the response ring has space. -/
def Mbx.rspSpace (m : Mbx) : Bool := decide ((m.rspProd - m.rspCons).toNat < m.size)

/-- R140: phase of the next response entry. -/
def Mbx.phase (m : Mbx) : Bool := m.rspProd.toNat / m.size % 2 == 0

/-- The command came over UDP (R160). -/
def overUdp (c : KcpCtx) : Bool := KcpCtx.net c

/-- R155, R161: the function a command acts for: the mailbox's, or the UDP session's role. -/
def State.kcpFn (s : State) (c : KcpCtx) : Nat :=
  match c.via with
  | .mailbox _ => c.fn.val
  | .udp k => (s.udp k).role

/-- The session open on the command's path; a provisional UDP handle counts for SESS_OPEN alone (R161). -/
def State.kcpSession (s : State) (c : KcpCtx) : Option Session :=
  match c.via with
  | .mailbox n => (s.mbx c.fn n).session
  | .udp k => if (s.udp k).inUse && (s.udp k).opened then some (s.udp k).session else none

/-- Changes the session open on the command's path. -/
def State.modSession (c : KcpCtx) (f : Session → Session) (s : State) : State :=
  match c.via with
  | .mailbox n => s.modMbx c.fn n fun m => { m with session := m.session.map f }
  | .udp k => s.modUdp k fun u => if u.opened then { u with session := f u.session } else u

/-- R144: the variable part of a length of `n` items of `size` bytes, none when `n` lies beyond the `most` that are permitted. -/
def boundedExtra (size most n : Nat) : Nat := if n ≤ most then size * n else 0

/-- R151: the ordered checks; none when all pass. `required` is the whole required length. -/
def kcpCheck (id : Nat) (pfOnly : Bool) (required : Nat) (inSafe : Bool) (f : Nat) (sess : Option Session)
    (handle : Word) (seq : Half) (len : Nat) (s : State) : Option (Status × Nat) :=
  let open' := match sess with | some x => x.handle.toNat | none => 0
  let expected := match sess with | some x => x.expected | none => 0
  let version := match sess with | some x => x.version.toNat | none => 0x20
  if id ≠ 0 ∧ (sess.isNone ∨ handle.toNat ≠ open') then some (.badSession, open')
  else if id = 0 ∧ seq ≠ 0 then some (.sequence, 0)
  else if id ≠ 0 ∧ seq ≠ expected then some (.sequence, expected.toNat)
  else if (kcpFind id).isNone then some (.unknownCommand, 0)
  else if id ≠ 0 ∧ version < kcpSince id then some (.unsupported, kcpSince id)
  else if pfOnly ∧ f ≠ 0 then some (.pfOnly, 0)
  else if !s.hasCmdGroup f (id / 256) then some (.notGranted, 8)
  else if len < required then some (.badLength, required)
  else if s.flt.safe ∧ !inSafe then some (.safeState, 0)
  else none

/-- R136, R163: the command on a path that has been taken and not yet answered: the mailbox's, or the oldest accepted datagram of the session. -/
def kcpTaken (c : KcpCtx) (s : State) : Option Taken :=
  match c.via with
  | .mailbox n => (s.mbx c.fn n).taken
  | .udp k => if (s.udp k).inUse then (s.udp k).waiting.head? else none

/-- R141, R7: the 64 bytes of a command entry, in network byte order over UDP. -/
def readEntry (net : Bool) (bs : List Byte) : CmdEntry :=
  let num := fun (at' n : Nat) => let x := (bs.drop at').take n; if net then beNat x else leNat x
  { id := BitVec.ofNat 16 (num 0 2), flags := BitVec.ofNat 8 (num 2 1), len := BitVec.ofNat 8 (num 3 1), tag := BitVec.ofNat 32 (num 4 4),
    handle := BitVec.ofNat 32 (num 8 4), seq := BitVec.ofNat 16 (num 12 2), params := fitBytes 48 (bs.drop 16) }

/-- R139, R145, R163: this command is the one its path has taken, and it has not begun. -/
def kcpHere (id : Nat) (c : KcpCtx) (s : State) : Bool :=
  match kcpTaken c s with
  | some t => !t.begun && t.entry.isFor id c
  | none => false

/-- Changes the command taken on a path. -/
def State.modTaken (c : KcpCtx) (f : Taken → Taken) (s : State) : State :=
  match c.via with
  | .mailbox n => s.modMbx c.fn n fun m => { m with taken := m.taken.map f }
  | .udp k => s.modUdp k fun u => { u with waiting := match u.waiting with | [] => [] | t :: ts => f t :: ts }

/-- R140: writes a response entry, MBXn_RSP_PROD and a type 0x02 record, when host memory can be reached. -/
def mbxRespond (f n : Nat) (r : Response) (s : State) : State :=
  let m := s.mbx f n
  let slot := m.rspProd.toNat % m.size
  let r := { r with flags := BitVec.ofNat 8 (packBits [(0, 1, b2n m.phase), (1, 1, b2n s.disagree)]) }
  if s.fnReach f then
    let s := ((s.modMbx f n fun m => { m with rspProd := m.rspProd + 1 }).emit
      (.response (4 * f + n) slot (m.rspBase.toNat + 64 * slot) r (r.bytes false []))).count 198
    s.record f 2 (BitVec.ofNat 16 n)
      (leBytes 2 slot ++ leBytes 2 r.id.toNat ++ leBytes 2 r.status.toNat ++ leBytes 4 r.tag.toNat)
  else s

/-- R160, R163: a response entry goes out in a datagram, encrypted as its command was; `sizes` are those of its result's fields. -/
def udpAnswer (k : Nat) (secret : Bool) (sizes : List Nat) (r : Response) (s : State) : State := udpSend k 1 secret (r.bytes true sizes) s

/-- R163: sends a response datagram and keeps it among the last 16 sequence numbers answered; BAD_SESSION and SEQUENCE answer none (R148). -/
def udpRespond (k : Nat) (sizes : List Nat) (r : Response) (s : State) : State :=
  let u := s.udp k
  let r := { r with flags := BitVec.ofNat 8 (packBits [(1, 1, b2n s.disagree)]) }
  let kept : StoredRsp :=
    { seq := r.seq, id := r.id, flags := r.flags, status := r.status, detail := r.detail, tag := r.tag, result := r.result, sizes := sizes }
  let all := if r.status = 6 ∨ r.status = 16 then u.stored else (kept :: u.stored).take 16
  let secret := match u.waiting with | t :: _ => t.secret | [] => u.secret
  udpAnswer k secret sizes r (s.modUdp k fun u => { u with stored := all })

/-- R163: a stored response is sent again, under a new counter. -/
def udpResend (k : Nat) (secret : Bool) (r : StoredRsp) (s : State) : State :=
  udpAnswer k secret r.sizes
    { id := r.id, flags := r.flags, tag := r.tag, status := r.status, seq := r.seq, detail := r.detail, result := r.result } s

/-- R163: the stored response of a sequence number on a path: a command that repeats it is not executed again. -/
def kcpStored (c : KcpCtx) (s : State) : Option StoredRsp :=
  match c.via with
  | .mailbox _ => none
  | .udp k => (s.udp k).stored.find? fun r => r.seq == c.seq

/-- R148, R155: a response on the session consumes a sequence number unless it is BAD_SESSION or SEQUENCE. -/
def sessAnswered (c : KcpCtx) (st : Status) (s : State) : State :=
  s.modSession c fun x =>
    { x with answered := satInc x.answered,
             refusals := if st = .ok ∨ st = .inProgress then x.refusals else satInc x.refusals,
             expected := if st = .badSession ∨ st = .sequence then x.expected else x.expected + 1 }

/-- R142: the quiet flag counts from KCP 3.2 on and suppresses an OK response. -/
def kcpQuiet (c : KcpCtx) (version : Nat) (st : Status) : Bool := c.flags.getLsbD 1 && decide (0x32 ≤ version) && st == .ok

/-- R136, R163: the path is done with its command. -/
def kcpRelease (c : KcpCtx) (s : State) : State :=
  match c.via with
  | .mailbox n => s.modMbx c.fn n fun m => { m with busy := false, taken := none }
  | .udp k => s.modUdp k fun u => { u with waiting := u.waiting.tail }

/-- Writes the command's response on its path (R140, R153, R163). -/
def kcpRespond (id : Nat) (c : KcpCtx) (version : Nat) (st : Status) (detail : Nat) (result : List Byte) (s : State) : State :=
  if kcpQuiet c version st then s
  else
    let r : Response :=
      { id := BitVec.ofNat 16 id, flags := 0, tag := c.tag, status := BitVec.ofNat 16 st.code, seq := c.seq,
        detail := BitVec.ofNat 32 detail, result := result }
    match c.via with
    | .mailbox n => mbxRespond c.fn n r s
    | .udp k => udpRespond k (kcpShape id c.params result.length) r s

/-- R142, R145: a fenced command waits while a command of its function that was taken earlier from any mailbox has no response. -/
def kcpFenced (c : KcpCtx) (version : Nat) (s : State) : Bool :=
  match kcpTaken c s with
  | none => false
  | some me =>
    c.flags.getLsbD 0 && decide (0x22 ≤ version) &&
      (List.range 4).any fun j =>
        match (s.mbx (s.kcpFn c) j).taken with
        | some other => decide (other.order < me.order) && !other.lapsed
        | none => false

/-- R153: the session on the command's path ended while it executed, so no response is written; SESS_OPEN and
SESS_CLOSE answer all the same. -/
def kcpSessionGone (id : Nat) (c : KcpCtx) (s : State) : Bool :=
  id != 0 && id != 1 && (s.kcpSession c).isNone

/-- R5, R140, R148, R155, R219: a command's response: the sequence number it consumes, a static field's refusal counted, its entry, and its path
released. -/
def kcpAnswer (id : Nat) (c : KcpCtx) (version : Nat) (r : Reply) : State :=
  let t := if id = 0 || id = 1 then r.st else sessAnswered c r.status r.st
  let t := if r.status = .busyStatic then t.count 395 else t
  kcpRelease c (kcpRespond id c version r.status r.detail (r.result.take 48) t)

/-- R150, R151: where a command ends that one of R151's checks refuses. -/
def kcpRefused (id : Nat) (c : KcpCtx) (version : Nat) (st : Status) (d : Nat) (s : State) : State :=
  kcpRelease c (kcpRespond id c version st d [] (if st = .badSession || id = 0 then s else sessAnswered c st s))

/-- The KCP version of the session on a path; without one, the lowest. -/
def State.kcpVersion (s : State) (c : KcpCtx) : Nat := match s.kcpSession c with | some x => x.version.toNat | none => 0x20

/-- One KCP command, whole: it is the one its path has taken, or nothing happens; it waits, repeats one answered, is refused, or has its effect
(log 6). `extra` is the variable part of its required length; `inSafe` whether the safe state accepts this form. The effect answers at once, or
leaves the answer to a later event. -/
def kcpBegin (id : Nat) (extra : Nat) (inSafe : Bool) (c : KcpCtx) (body : Nat → State → Reply ⊕ State) (s : State) :
    Host.Outcome State Fault Refusal :=
  let cmd := (kcpFind id).getD default
  let version := s.kcpVersion c
  let f := s.kcpFn c
  if !kcpHere id c s || kcpFenced c version s then done s
  else
    match kcpStored c s, c.via with
    | some r, .udp k => done (kcpRelease c (udpResend k (match kcpTaken c s with | some t => t.secret | none => false) r s))
    | _, _ =>
      match kcpCheck id cmd.pfOnly (cmd.fixed + extra) inSafe f (s.kcpSession c) c.handle c.seq c.len.toNat s with
      | some (st, d) => done (kcpRefused id c version st d s)
      | none =>
        match body f s with
        | .inr s => done (s.modTaken c fun t => { t with begun := true })
        | .inl r =>
          if kcpSessionGone id c r.st then done (kcpRelease c r.st)
          else done (kcpAnswer id c version r)

/-- One KCP command that answers at once. -/
def kcpRun (id : Nat) (extra : Nat) (inSafe : Bool) (c : KcpCtx) (body : Nat → State → Reply) (s : State) :
    Host.Outcome State Fault Refusal := kcpBegin id extra inSafe c (fun f s => .inl (body f s)) s

/-- A command whose index row decides everything but its own effect. -/
def kcp (id : Nat) (c : KcpCtx) (body : Nat → State → Reply) (s : State) : Host.Outcome State Fault Refusal :=
  kcpRun id 0 ((kcpFind id).getD default).inSafe c body s

/-- R150, R151, R154: the command taken on a path is answered here when its ID is not allocated: no row of its own does it. -/
def kcpUnknown (fn : Fin 16) (via : Via) (s : State) : Host.Outcome State Fault Refusal :=
  match kcpTaken { fn := fn, via := via, handle := 0, seq := 0, flags := 0, len := 0, tag := 0, params := [] } s with
  | none => done s
  | some t => if (kcpFind t.entry.id.toNat).isSome then done s else kcp t.entry.id.toNat (t.entry.ctx fn via) (fun _ s => replyOk s) s

/-- The answer that an event gives to a command that was left without one (R153: none once its session has ended). -/
def kcpFinish (id : Nat) (c : KcpCtx) (r : Reply) : State :=
  match kcpTaken c r.st with
  | none => r.st
  | some t =>
    if !t.begun || !t.entry.isFor id c then r.st
    else if t.lapsed || (r.st.kcpSession c).isNone then kcpRelease c r.st
    else kcpAnswer id c (r.st.kcpVersion c) r

end Sys2Proof.Machine
end

