-- ==== Sys2Proof/Machine/Mem.lean ====
section
/-! DEFINITION. CXL memory as the engines reach it: the device address map, reads, writes and poison (R96–R105). -/

namespace Sys2Proof.Machine

/-- One GiB in bytes. -/
def gib : Nat := 2 ^ 30

/-- CXL port `m`. -/
def State.port (s : State) (m : Nat) : CxlPort := tabGet s.mem.ports m

/-- Changes CXL port `m`. -/
def State.modPort (m : Nat) (f : CxlPort → CxlPort) (s : State) : State :=
  { s with mem := { s.mem with ports := tabMod s.mem.ports m f } }

/-- R96, R97: the port and port address of a device address, none outside every mapped range. -/
def State.memDecode (s : State) (a : Nat) : Option (Nat × Nat) :=
  let cap := fun m => (s.port m).gib * gib
  let sp := s.mem.spread * gib
  if a < 0x20000000000 then
    let m := a / 0x8000000000
    let x := a % 0x8000000000
    if x + sp < cap m then some (m, x) else none
  else if 0x40000000000 ≤ a ∧ a < 0x60000000000 then
    let y := a - 0x40000000000
    if y < 4 * sp then
      let m := y / 256 % 4
      some (m, cap m - sp + (y / 1024 * 256 + y % 256))
    else none
  else none

/-- R106, R107: port `m` serves reads and writes. -/
def State.portServes (s : State) (m : Nat) : Bool := (s.port m).state == .up && !s.fenced (52 + m)

/-- R106, R107: the port behind an address serves reads and writes. -/
def State.memUp (s : State) (a : Nat) : Bool :=
  match s.memDecode a with
  | some (m, _) => s.portServes m
  | none => false

/-- R99, R106: an address can be read: its port serves it, and with one port lost no part of the spread window can be read. -/
def State.memReads (s : State) (a : Nat) : Bool :=
  s.memUp a && (decide (a < 0x20000000000) || (s.portServes 0 && s.portServes 1 && s.portServes 2 && s.portServes 3))

/-- R103: the line of an address reads as poisoned. -/
def State.memPoison (s : State) (a : Nat) : Bool := tabGet s.mem.poison (a / 64)

/-- One byte of memory: none when its port does not serve it or its line is poisoned. -/
def State.memByte (s : State) (a : Nat) : Option Byte :=
  if s.memReads a && !s.memPoison a then some (tabGet s.mem.bytes a) else none

/-- `n` bytes from `a`, none when any of them is missing. -/
def State.memRead (s : State) (a : Nat) : Nat → Option (List Byte)
  | 0 => some []
  | n + 1 => (s.memByte a).bind fun b => (State.memRead s (a + 1) n).map (b :: ·)

/-- All of a device-address range is mapped (R96). -/
def State.memMapped (s : State) (a n : Nat) : Bool :=
  n == 0 || ((s.memDecode a).isSome && (s.memDecode (a + n - 1)).isSome &&
    decide (a / 0x8000000000 = (a + n - 1) / 0x8000000000 ∨ (0x40000000000 ≤ a ∧ a + n ≤ 0x60000000000)))

/-! ### The store region (R165) -/

/-- R165: where the truss store region of port `m` lies: 256 MiB at the top of the pinned part. -/
def State.storeBase (s : State) (m : Nat) : Nat := m * 0x8000000000 + ((s.port m).gib - s.mem.spread) * gib - 2 ^ 28

/-- R165: the two lowest-numbered present ports. -/
def State.storePorts (s : State) : List Nat :=
  ((List.range 4).filter fun m => (s.port m).state == .up || (s.port m).state == .initialising).take 2

/-- R165: the store regions in use, address and length. -/
def State.storeRegions (s : State) : List (Nat × Nat) := s.storePorts.map fun m => (s.storeBase m, 2 ^ 28)

/-- A range lies clear of the truss store region (R165). -/
def State.clearOfStore (s : State) (a n : Nat) : Bool :=
  s.storeRegions.all fun r => decide (a + n ≤ r.1 ∨ r.1 + r.2 ≤ a)

/-- R165: where slot `k`'s image lies on port `m`: the region's quarters in slot order (DEDUCED, log 20). -/
def State.storeSlotAt (s : State) (m k : Nat) : Nat := s.storeBase m + k * 2 ^ 26

/-- R165, R49: a copy of slot `k`'s image still stands in CXL memory. -/
def State.storeHolds (s : State) (k : Nat) (img : List Byte) : Bool :=
  (List.range 4).any fun m => s.memRead (s.storeSlotAt m k) img.length == some img

/-- R445: the fault-log region of port `m`: 1 MiB, taken to lie directly below the store region (PRESUMED, log 23). -/
def State.logBase (s : State) (m : Nat) : Nat := s.storeBase m - 2 ^ 20

/-- R386: a range lies clear of what firmware reserves for itself: the store and the fault-log regions. -/
def State.clearOfFirmware (s : State) (a n : Nat) : Bool :=
  s.storePorts.all fun m => decide (a + n ≤ s.logBase m ∨ s.storeBase m + 2 ^ 28 ≤ a)

/-! ### What has been initialised (R46) -/

/-- R97: how many of the first `y` bytes of the spread window lie on port `m`. -/
def spreadShare (y m : Nat) : Nat := y / 1024 * 256 + min 256 (y % 1024 - 256 * m)

/-- R96, R97: a mapped range as one range of addresses on each port that it touches: the port, the first address and the end. -/
def State.portSpans (s : State) (a n : Nat) : List (Nat × Nat × Nat) :=
  if a < 0x20000000000 then [(a / 0x8000000000, a % 0x8000000000, a % 0x8000000000 + n)]
  else
    (List.range 4).map fun m =>
      let b := (s.port m).gib * gib - s.mem.spread * gib
      (m, b + spreadShare (a - 0x40000000000) m, b + spreadShare (a - 0x40000000000 + n) m)

/-- R46: the address ranges of port `m` that the foreground step initialised and that the port has not lost since. -/
def State.foreOn (s : State) (m : Nat) : List (Nat × Nat) :=
  if (s.port m).foreLost then [] else (s.mem.fore.flatMap fun r => s.portSpans r.1 r.2).filterMap fun r => if r.1 = m then some r.2 else none

/-- The ranges `spans` cover every address from `lo` up to `hi`; `k` ranges are taken at most. -/
def covers (spans : List (Nat × Nat)) (hi : Nat) : Nat → Nat → Bool
  | 0, lo => decide (hi ≤ lo)
  | k + 1, lo =>
    decide (hi ≤ lo) ||
      (let e := spans.foldl (fun e r => if r.1 ≤ lo then max e r.2 else e) lo
       decide (lo < e) && covers spans hi k e)

/-- R46: every line of a device-address range is mapped and has been initialised: below its port's boundary or in the foreground step. -/
def State.memRangeInit (s : State) (a n : Nat) : Bool :=
  s.memMapped a n && (n == 0 || (s.portSpans a n).all fun r =>
    let done := (0, (s.port r.1).boundary) :: s.foreOn r.1
    covers done r.2.2 done.length r.2.1)

/-- Writes one byte; the line is then no longer poisoned only when the whole line is written (`memWrite`). -/
def State.memPut (a : Nat) (b : Byte) (s : State) : State :=
  { s with mem := { s.mem with bytes := tabSet s.mem.bytes a b } }

/-- Writes bytes from `a` on; a byte whose port is out is dropped and counted per write (R106, R109). -/
def State.memPuts (a : Nat) : List Byte → State → State
  | [], s => s
  | b :: bs, s => State.memPuts (a + 1) bs (if s.memUp a then s.memPut a b else s)

/-- R103: a line reads as poisoned until it is next written. -/
def State.memHeal (a n : Nat) (s : State) : State :=
  { s with mem := { s.mem with
      poison := tabKeep (fun k _ => decide (k < a / 64) || decide ((a + n - 1) / 64 < k) || !s.memUp (64 * k)) s.mem.poison } }

/-- The lines of a range that lie on port `m`. -/
def State.portLines (s : State) (m a n : Nat) : List Nat :=
  (memLines a n).filter fun l => match s.memDecode l with | some (p, _) => p == m | none => false

/-- How many lines of a range lie on port `m`. -/
def State.linesOn (s : State) (m a n : Nat) : Nat := (s.portLines m a n).length

/-- R118: what lies between two instants of the background initialisation of port `m`, from boundary `lo` to `hi`: the lines of it that the
foreground step had not initialised, counted as initialised in the background and as write data. -/
def State.countInit (m lo hi : Nat) (s : State) : State :=
  let fore := ((s.foreOn m).map fun r => (min hi r.2 - max lo r.1) / 64).sum
  let n := (hi - lo) / 64 - fore
  (s.countN (128 + 16 * m + 13) n).countN (128 + 16 * m + 2) n

/-- R46: how far the background initialisation of one port has come, with `left` bytes of the aggregate bandwidth to use; how much of it it uses is
open (log 30). -/
def bgPort (m : Nat) (x : Nat × State) : Nat × State :=
  let p := x.2.port m
  let room := p.gib * gib - p.boundary
  if (p.state != .up && p.state != .initialising) || room == 0 || x.1 < 64 then x
  else
    let d := x.2.draw
    let n := min room (d.1 % (x.1 / 64 + 1) * 64)
    (x.1 - n, (d.2.countInit m p.boundary (p.boundary + n)).modPort m fun p => { p with boundary := p.boundary + n })

/-- R46: the background initialisation goes on up to now: ascending on each port, at 40 GB/s (40 bytes per ns) together or less. -/
def State.bgAdvance (s : State) : State :=
  if s.boot.phase ≠ .running then s
  else
    let t := ((List.range 4).foldl (fun x m => bgPort m x) (40 * (s.now - s.boot.initAt), s)).2
    if t.boot.initAt = s.now then t else t.modBoot fun b => { b with initAt := s.now }

/-! ### Accesses -/

/-- A write that has been issued: memory, poison and the ports' counters; what falls on a lost port is dropped (R106, R109, R118). -/
def State.memStore (a : Nat) (bs : List Byte) (s : State) (w : Who := {}) : State :=
  if (s.memDecode a).isNone then s
  else
    let s := (List.range 4).foldl (fun (s : State) m =>
      let n := s.linesOn m a bs.length
      if n = 0 then s
      else if s.portServes m then
        (s.countN (128 + 16 * m + 2) n).traffic m true w (s.portLines m a bs.length)
      else s.count (128 + 16 * m + 14)) s
    (s.memHeal a bs.length).memPuts a bs

/-- R453: a write by an engine of the GM8, which the safe state stops before it is issued. -/
def State.memWrite (a : Nat) (bs : List Byte) (s : State) (w : Who := {}) : State := if s.flt.safe then s else s.memStore a bs w

/-- R165: an image is copied into slot `k`, once on each of the two ports. -/
def storeCopy (k : Nat) (img : List Byte) (s : State) : State :=
  s.storePorts.foldl (fun (s : State) m => s.memWrite (s.storeSlotAt m k) img) s

/-- The port of a device address; 4 when it has none. -/
def State.memPort (s : State) (a : Nat) : Nat := match s.memDecode a with | some (m, _) => m | none => 4

/-- R117, R118: port `m` answers a read with poison. -/
def poisonSeen (m : Nat) (s : State) : State := (s.count (128 + 16 * m + 5)).pend (483 + m)

/-- R103: the lines of a range that a working port answers with poison. -/
def State.poisonLines (s : State) (a n : Nat) : List Nat := (memLines a n).filter fun l => s.memReads l && s.memPoison l

/-- A read by an engine of the GM8, with the counters of the ports that serve it; each poisoned line is one poison response (R117, R118). -/
def State.memFetch (a n : Nat) (s : State) (w : Who := {}) : Option (List Byte) × State :=
  if (s.memDecode a).isNone then (none, s)
  else
    let t := (List.range 4).foldl (fun (t : State) m =>
      if s.portServes m then
        let k := s.linesOn m a n
        ((t.countN (128 + 16 * m) k).countN (128 + 16 * m + 1) k).traffic m false w (s.portLines m a n)
      else t) s
    (s.memRead a n, (s.poisonLines a n).foldl (fun (t : State) l => poisonSeen (s.memPort l) t) t)

/-- R103, R104: a read whose poisoned line is recorded under fault source `x`. -/
def State.memLoad (x a n : Nat) (s : State) (w : Who := {}) : Option (List Byte) × State :=
  let r := s.memFetch a n w
  if (s.poisonLines a n).isEmpty then r else (none, r.2.faultOpen x)

/-- R108: a port's content is lost: every byte it holds is forgotten. -/
def State.memForget (m : Nat) (s : State) : State :=
  let mine := fun a => match s.memDecode a with | some (p, _) => p == m | none => false
  { s with mem := { s.mem with bytes := tabKeep (fun a _ => !mine a) s.mem.bytes,
                               poison := tabKeep (fun l _ => !mine (64 * l)) s.mem.poison } }

/-- R107, R109, R98: a port other than `m` is absent, lost or out of service. -/
def State.otherPortOut (s : State) (m : Nat) : Bool :=
  (List.range 4).any fun k => k != m &&
    ((s.port k).state == .absent || (s.port k).state == .lost || (s.port k).state == .outOfService)

end Sys2Proof.Machine
end

