-- ==== Sys2Proof/Machine/Figures.lean ====
section
/-! DEFINITION. The figures admission works with: resources in force (R180), windows and fractions (R183), ring
layouts (R376), lane and scaler cost (R182, R266), instants of need (R299, R334) and wire bytes (R362). -/

namespace Sys2Proof.Machine

/-! ### Resources -/

/-- R95: usable read and write bandwidth of a trained port, MB/s. -/
def portBw (c : CxlPort) : Nat × Nat :=
  if c.width = 8 then (if c.fast then (58000, 55000) else (28500, 27000))
  else (if c.fast then (29000, 27500) else (14000, 13500))

/-- R122: raw bandwidth of the host link, MB/s. -/
def hostRaw (rate width : Nat) : Nat := width * ([0, 250, 500, 985, 1969, 3938].getD rate 0)

/-- R122: L_h, 1,000 ns until measured. -/
def State.hostLatency (s : State) : Nat := if s.host.latency = 0 then 1000 else s.host.latency.toNat

/-- R180: the resource figures in force. -/
def State.figures (s : State) : Figures :=
  let ps := (List.range 4).map s.port
  { present := ps.map fun c => c.state == .up || c.state == .initialising, reads := ps.map fun c => (portBw c).1,
    writes := ps.map fun c => (portBw c).2, latency := ps.map fun c => c.latency,
    host := if s.host.linkUp then hostRaw s.host.rate.toNat s.host.width.toNat else 0, hostLatency := s.hostLatency }

/-- R101, R122: bw_adm of port `p` in MB/s; 4 is the host link. -/
def Figures.adm (f : Figures) (p : Nat) : Nat :=
  if p = 4 then min (f.host * 85 / 100) (512 * 64 * 1000 / max 1 f.hostLatency)
  else min (f.reads.getD p 0) (896 * 64 * 1000 / max 1 (f.latency.getD p 0))

/-- R183: latency of port `p`, ns. -/
def Figures.lat (f : Figures) (p : Nat) : Nat := if p = 4 then f.hostLatency else f.latency.getD p 0

/-- R183: read tags of port `p`. -/
def portTags (p : Nat) : Nat := if p = 4 then 512 else 896

/-- R185: some recorded figure has fallen since. -/
def Figures.fallen (old new : Figures) : Bool :=
  (List.range 4).any (fun p => old.present.getD p false && !new.present.getD p false) ||
    (List.range 5).any (fun p => decide (new.adm p < old.adm p)) ||
    (List.range 4).any (fun p => decide (new.writes.getD p 0 < old.writes.getD p 0)) ||
    (List.range 5).any (fun p => decide (old.lat p < new.lat p))

/-! ### Windows and fractions -/

/-- A fraction, numerator and denominator. -/
abbrev Frac := Nat × Nat

/-- Adds two fractions; a denominator of 0 counts as nothing. -/
def fracAdd (a b : Frac) : Frac := if b.2 = 0 then a else (a.1 * b.2 + b.1 * a.2, a.2 * b.2)

/-- Sum of fractions. -/
def fracSum (l : List Frac) : Frac := l.foldl fracAdd (0, 1)

/-- R183: windows of 1,024 grains. -/
def windows (h : Nat) : List Nat := List.range (ceilDiv h 1024)

/-- R183: grains of `[lo, lo + len)` that fall into window `w`, intervals and windows both wrapping at H: the last window goes on at grain 0. -/
def overlap (h lo len w : Nat) : Nat :=
  (List.range 8).foldl (fun acc k =>
    acc + (min (lo + h + len) (1024 * w + 1024 + k * h) - max (lo + h) (1024 * w + k * h))) 0

/-- R183: window `w` holds grain `g`, the last one going on at grain 0. -/
def inWindow (h g w : Nat) : Bool := g / 1024 == w || decide (g + h < 1024 * w + 1024)

/-- R180, R183: a load that one entry of a section puts on a unit: the entry's index, an amount over a divisor, and the grains it is spread over. -/
structure Load where
  /-- R180: index of the entry in its section -/
  idx : Nat
  /-- R183: amount, times the divisor -/
  amount : Nat
  /-- R183: divisor -/
  share : Nat
  /-- R183: first grain -/
  lo : Nat
  /-- R183: grains -/
  len : Nat
  deriving DecidableEq, Repr, Inhabited

/-- R183: what some loads put into window `w`. -/
def loadIn (h : Nat) (l : List Load) (w : Nat) : Frac := fracSum (l.map fun x => (x.amount * overlap h x.lo x.len w, x.share * x.len))

/-- The least of some indices. -/
def leastIdx (l : List Nat) : Option Nat := l.foldl (fun m i => match m with | some k => some (min k i) | none => some i) none

/-- R180: the first entry that puts a load into a window that holds too much. -/
def firstOver (h : Nat) (tooMuch : Frac → Bool) (l : List Load) : Option Nat :=
  let full := (windows h).filter fun w => tooMuch (loadIn h l w)
  leastIdx ((l.filter fun x => full.any fun w => overlap h x.lo x.len w != 0).map (·.idx))

/-- The start of an interval that ends at `stop` and lasts `len`, moved by H so as not to fall below 0. -/
def backFrom (h stop len : Nat) : Nat := (stop + h * (len / h + 1) - len) % h

/-! ### Rings of camera sources -/

/-- R97: the port of a pinned device address; 5 for the spread window. -/
def devPort (a : Nat) : Nat := if a < 0x20000000000 then a / 0x8000000000 else 5

/-- R376: places one ring in the first region that has room after what is placed. -/
def placeRing (bytes : Nat) : List (Nat × Nat) → Option (Nat × List (Nat × Nat))
  | [] => none
  | (a, n) :: rest =>
    let b := upTo 256 a
    if b + bytes ≤ a + n then some (b, (b + bytes, a + n - (b + bytes)) :: rest) else placeRing bytes rest

/-- R376: places rings in order: each source with its ring's address, none where a ring fits nowhere. -/
def placeRings : List (Nat × Nat) → List (Nat × Nat) → Option (List (Nat × Nat))
  | [], _ => some []
  | (src, bytes) :: rest, regions =>
    match placeRing bytes regions with
    | none => none
    | some (a, regions) => (placeRings rest regions).map ((src, a) :: ·)

/-- R375: bytes of one buffer of a source. -/
def sourceBuffer (b : TBinding) : Nat :=
  match encFormat b.enc with | some f => (ringBuffer f b.width b.height).2.2 | none => 0

/-- R377: decoder of a source in variant `v`; 4 when it has none. -/
def Truss.decoderOf (t : Truss) (v : Nat) (num : Nat) : Nat :=
  match t.binding 1 num with
  | none => 4
  | some b =>
    if 34 ≤ v ∧ b.decoder = v - 34 then
      let mine := (t.bindings.filter fun x => x.kind == 1 && x.decoder == b.decoder).map (·.num)
      let k := (mine.filter (· < num)).length
      ((List.range 4).filter (· != b.decoder)).getD (k % 3) 4
    else b.decoder

/-- R376: the layout of every ring in variant `v`, none when one fits nowhere. `depth` gives D of a source. -/
def Truss.rings (t : Truss) (depth : Nat → Nat) (v : Nat) : Option (List (Nat × Nat)) :=
  let lost := if 18 ≤ v ∧ v < 22 then some (v - 18) else none
  let regs := (sortBy (fun (a b : TRegion) => decide (a.id ≤ b.id)) (t.regions.filter fun r => r.kind == 3 && lost != some (devPort r.addr))).map
    fun r => (r.addr, r.size)
  let srcs := (sortBy (fun (a b : TBinding) => decide (a.num ≤ b.num)) (t.bindings.filter fun b => b.kind == 1)).map
    fun b => (b.num, depth b.num * sourceBuffer b)
  placeRings srcs regs

/-- R376: ring address of a source in variant `v`. -/
def Truss.ringOf (t : Truss) (depth : Nat → Nat) (v num : Nat) : Option Nat :=
  (t.rings depth v).bind fun l => (l.find? fun e => e.1 == num).map (·.2)

/-- R375, R401: D of a source at the next truss switch. -/
def State.depthOf (s : State) (num : Nat) : Nat := (s.ing num).depthNext

/-! ### Lane cost -/

/-- R263, R265: stored width of a box, the stripe bound for a stitched one. -/
def TSlot.stored (e : TSlot) : Nat :=
  let w := ceilDiv e.maxW (max 1 e.dec)
  if bitOf 1 e.flags then ceilDiv w (max 1 e.stripes) + 24 else w

/-- R266: the cost of a layer of a strip at the bounds of its travel box. -/
def layerCost (o : TOutput) (e : TSlot) : Nat :=
  let d := max 1 e.dec
  let lb := min (ceilDiv ((o.strip - 1) * 256) (max 1 (e.vmin * d)) + 7) (ceilDiv e.maxH d + 5)
  let n := if bitOf 1 e.flags then e.stripes else 1
  let intake := if e.type = 2 then 0 else n * ceilDiv (lb * e.stored) 32
  max (ceilDiv (min o.width (e.x1 - e.x0) * o.strip) 4) intake + 16

/-- The slots in an item's mask. -/
def Truss.maskSlots (t : Truss) (i : TItem) : List TSlot :=
  (List.range 16).filterMap fun k => if bitOf k i.mask then t.slotAt i.out k else none

/-- R182: t(i), tokens of an item. -/
def Truss.tokens (t : Truss) (i : TItem) : Nat :=
  let o := t.output i.out
  max i.tokens (((t.maskSlots i).map fun e => ceilDiv (min o.width (e.x1 - e.x0) * o.strip) 4 + 16).sum)

/-- R182: d(i), grains an item occupies its lane at a pace. -/
def Truss.occupies (t : Truss) (pace : Nat) (i : TItem) : Nat := ceilDiv (20 * t.tokens i) pace

/-- R299: grains after the sill at which an active line of a head starts, rounded down. -/
def lineStart (x : HeadTiming) (k : Nat) : Nat :=
  let ht := x.hactive + x.hfp + x.hsync + x.hbp
  1000000000 * ((x.vsync + x.vbp + k) * ht + x.hsync + x.hbp) / (64 * max 1 x.clock)

/-- R299: grains after the sill at which the last active pixel of a line has scanned, rounded up. -/
def lineEnd (x : HeadTiming) (k : Nat) : Nat :=
  let ht := x.hactive + x.hfp + x.hsync + x.hbp
  ceilDiv (1000000000 * ((x.vsync + x.vbp + k) * ht + x.hsync + x.hbp + x.hactive)) (64 * max 1 x.clock)

/-- R298: frame time of a head, ns. -/
def HeadTiming.frameNs (x : HeadTiming) : Nat :=
  1000000000 * ((x.hactive + x.hfp + x.hsync + x.hbp) * (x.vactive + x.vfp + x.vsync + x.vbp)) / max 1 x.clock

/-- The timing a truss gives head `h`. -/
def Truss.timing (t : Truss) (h : Nat) : Option HeadTiming := t.timings.find? fun x => x.head == h

/-- R334: grains a slice row takes to encode at 2 Gpixel/s. -/
def encodeGrains (o : TOutput) : Nat := ceilDiv (o.width * o.strip) 128

/-- R176: grains a slice row keeps its encoder busy at a pace. -/
def encodeBusy (pace : Nat) (o : TOutput) : Nat := ceilDiv (o.width * o.strip * 1024) (128 * pace)

/-- R169: grain of the sill of an item's frame. -/
def Truss.itemSill (t : Truss) (i : TItem) : Nat :=
  match t.group (t.itemGroup i) with | some g => sillGrain t.h g i.frame | none => 0

/-- R334: start grain of the burst of a row of frame `j`, counted from the sill's own hyperperiod. -/
def Truss.burst (t : Truss) (v out row j sill : Nat) : Option Nat :=
  ((t.calOf v).mortises.find? fun m => m.out == out && m.row == row && m.frame == j && !m.replica).map fun m =>
    if m.start < sill then m.start + t.h else m.start

/-- R181 check 8: need and free of an item, grains after its sill; `timing` gives a head's timing. -/
def Truss.needFree (t : Truss) (timing : Nat → Option HeadTiming) (v : Nat) (i : TItem) : Option (Nat × Nat) :=
  let o := t.output i.out
  let sill := t.itemSill i
  if o.kind = 0 then
    (timing o.unit).map fun x =>
      (lineStart x (8 * i.strip) - 2, if i.strip < 4 then 0 else lineEnd x (8 * (i.strip - 4) + 7))
  else if o.kind = 1 then
    (t.burst v i.out i.strip i.frame sill).map fun b => (b - sill - encodeGrains o, 0)
  else some (2 * t.h, 0)

/-! ### The wire -/

/-- R320: fragment payload of a binding. -/
def TBinding.fragBytes (b : TBinding) : Nat := if b.frag = 0 then 1400 else b.frag

/-- Bytes of the fragments of a slice, in order. -/
def fragSizes (total frag : Nat) : List Nat :=
  (List.range (ceilDiv total (max 1 frag))).map fun k => min frag (total - frag * k)

/-- Slices in a row of an output. -/
def TOutput.perRow (o : TOutput) : Nat := o.width / max 1 o.sliceW

/-- Rows of an output. -/
def TOutput.rows (o : TOutput) : Nat := o.height / max 1 o.strip

/-- R362: w(m), wire bytes of a full row. -/
def State.rowBytes (s : State) (p : Nat) (o : TOutput) (b : TBinding) : Nat :=
  o.perRow * ((fragSizes (sliceBytes o.bpp o.sliceW o.strip) b.fragBytes).map fun n => max (n + s.overhead p b) 84).sum

/-- R362: control bytes per second that the endpoints placed on port `p` need, in a variant, times 64 H. -/
def State.controlBytes (s : State) (t : Truss) (p v : Nat) : Nat :=
  let outs := ((t.calOf v).mortises.filter fun m => m.port == p).map (·.out)
  let msg := fun (b : TBinding) n => max (n + s.overhead p b - 24) 84
  let each := (List.range t.outputs.length).map fun o =>
    if outs.contains o then
      let e := t.output o
      match t.binding 0 e.unit, t.group e.group with
      | some b, some g =>
        (msg b (16 + ceilDiv (e.perRow * e.rows) 8) + msg b 8) * g.f * 1000000000 + 10 * msg b 16 * (t.h * 64)
      | _, _ => 0
    else 0
  each.sum + msg {} 44 * (t.h * 64)

end Sys2Proof.Machine
end

