-- ==== Sys2Proof/Machine/Admit.lean ====
section
/-! DEFINITION. Admission: checks 2–24 in number order, each over every variant before the next (R180–R185, R298,
R299, R321, R362, R375–R377, R381–R385). -/

namespace Sys2Proof.Machine

/-- The first fault of a shared section. -/
def shared (x : Option Nat) : Fail := x.map fun i => (0, i)

/-- The first variant at which `f` finds a fault. -/
def perVariant (t : Truss) (f : TVariant → Option Nat) : Fail :=
  t.variants.findSome? fun v => (f v).map fun i => (v.id, i)

/-- The first fault of several. -/
def failOf (l : List Fail) : Fail := l.findSome? id

/-! ### Checks 2 and 3 -/

/-- R320, R321: slices of an endpoint output. -/
def TOutput.slices (o : TOutput) : Nat := o.perRow * o.rows

/-- R321: a slice width that no picture width may have. -/
def sliceBad (w sw : Nat) : Bool :=
  sw % 2 != 0 || decide (sw < 64) || decide (2560 < sw) || w % sw != 0 || decide (16 < w / max 1 sw) || decide (3840 < w)

/-- R181 check 2, R283, R297, R321, R382: faults of one output entry. -/
def outputBad (t : Truss) (i : Nat) : Bool :=
  let o := t.output i
  let earlier := t.outputs.take i
  decide (2 < o.kind) || !encOk o.kind o.enc || o.strip == 0 || o.height % max 1 o.strip != 0 ||
    (o.kind == 0 && (o.strip != 8 || decide (7 < o.unit) || (t.timing o.unit).isNone ||
      earlier.any fun e => e.kind == 0 && e.unit == o.unit)) ||
    (o.kind != 0 && o.strip != 8 && o.strip != 16) ||
    (o.kind == 1 && (decide (1023 < o.unit) || sliceBad o.width o.sliceW || decide (2160 < o.height) ||
      decide (o.bpp < 96) || decide (192 < o.bpp) || decide (4096 < o.slices) || (t.binding 0 o.unit).isNone ||
      earlier.any fun e => e.kind == 1 && e.unit == o.unit)) ||
    (o.kind == 1 && (match t.binding 0 o.unit with
      | some b => decide (64 < ceilDiv (sliceBytes o.bpp o.sliceW o.strip) b.fragBytes)
      | none => true)) ||
    (o.wb != 0 && ((encFormat o.enc).isNone || decide (4 < o.wb) || earlier.any fun e => e.wb == o.wb)) ||
    (t.group o.group).isNone ||
    (match t.slotAt i 15 with | some e => !bitOf 2 e.flags | none => true)

/-- R181 check 2, R277: faults of one slot entry. -/
def slotBad2 (t : Truss) (i : Nat) : Bool :=
  let e := t.slots.getD i {}
  let earlier := t.slots.take i
  decide (8191 < e.slot) || decide (15 < e.pos) || decide (3 < e.type) || decide (t.outputs.length ≤ e.out) ||
    ((t.output e.out).slots.getD e.pos 0xFFFF != e.slot) || (bitOf 2 e.flags != (e.pos == 15)) ||
    earlier.any (fun x => x.slot == e.slot || (x.out == e.out && x.pos == e.pos))

/-- R321, R375: faults of one binding. -/
def bindingBad (t : Truss) (i : Nat) : Bool :=
  let b := t.bindings.getD i {}
  let earlier := t.bindings.take i
  decide (1 < b.kind) || (b.kind == 0 && decide (1023 < b.num)) || (b.kind == 1 && decide (255 < b.num)) ||
    earlier.any (fun x => (x.kind == b.kind && x.num == b.num) || x.peer == b.peer) ||
    (bitOf 0 b.flags && decide (((List.range 4).filter fun p => bitOf p b.ports).length < 2)) ||
    (b.kind == 1 && ((encFormat b.enc).isNone || decide (b.enc < 0x10) || !encOk 1 b.enc || sliceBad b.width b.sliceW ||
      decide (2160 < b.height)))

/-- R288: an output state that names a table that is missing or of the wrong kind. -/
def outStateBad (t : Truss) (c : OutColour) : Bool :=
  let kind := fun i => u (tabGetD [] t.tables i) 4 1
  (c.matrix != 0xFF && kind c.matrix != 1) || (c.lut != 0xFF && kind c.lut != 4) || (c.regamma == 4 && kind c.regTable != 3)

/-- R181 check 2: counts. -/
def check2 (t : Truss) : Fail :=
  shared (firstOf [
    if 16 < t.groups.length ∨ 8192 < t.slots.length then some 0 else none,
    firstBad (outputBad t) (List.range t.outputs.length),
    if 1024 < (t.outputs.filter fun o => o.kind == 1).length then some 0 else none,
    if 262144 < ((t.outputs.filter fun o => o.kind == 1).map TOutput.slices).sum then some 0 else none,
    firstBad (slotBad2 t) (List.range t.slots.length),
    firstBad (bindingBad t) (List.range t.bindings.length),
    firstBad (fun e => outStateBad t e.2) t.outStates,
    if 2 ^ 21 < (t.tables.map fun e => upTo 64 e.2.length).sum then some 0 else none])

/-- R181 check 3: the grain by which an item's deadline must lie: its next frame's item, or that frame's sill and its own offset. -/
def deadlineLimit (t : Truss) (items : List TItem) (g : TGroup) (i : TItem) : Nat :=
  let last := i.frame + 1 == g.f
  let j := if last then 0 else i.frame + 1
  let wrap := if last then t.h else 0
  match items.find? fun x => x.out == i.out && x.strip == i.strip && x.frame == j with
  | some x => x.start + wrap
  | none => sillGrain t.h g j + wrap + (i.start - sillGrain t.h g i.frame)

/-- R181 check 3, R321: time. -/
def check3 (t : Truss) : Fail :=
  failOf [
    if t.h < 15625 ∨ 15625000 < t.h then some (0, 0) else none,
    shared (firstBad (fun g => decide (t.h / max 1 g.f < 15625) || decide (t.h / max 1 g.f ≤ g.phase) ||
      ((t.outputs.any fun o => o.kind == 1 && o.group == g.id) &&
        (let a := if g.ann = 0 then 800 else g.ann
         decide (a < 200) || decide (min 5000 (t.h / max 1 g.f * 64 / 2000) < a)))) t.groups),
    perVariant t fun v =>
      let items := t.itemsOf v.id
      firstOf [
        firstBad (fun i => decide (t.h ≤ i.start) ||
          (match t.group (t.itemGroup i) with
           | some g => decide (g.f ≤ i.frame) || decide (deadlineLimit t items g i ≤ i.deadline)
           | none => true)) items,
        firstBad (fun m => decide (t.h ≤ m.start)) (t.calOf v.id).mortises]]

/-! ### Checks 4–6 -/

/-- R181 check 4: faults of one region. -/
def State.regionBad (s : State) (r : TRegion) : Bool :=
  let p := devPort r.addr
  decide (5 < r.kind) || r.addr % 256 != 0 || r.size % 256 != 0 || r.size == 0 || !s.memRangeInit r.addr r.size ||
    !s.clearOfStore r.addr r.size ||
    (if p = 5 then s.mem.spread == 0
     else !((s.port p).state == .up || (s.port p).state == .initialising))

/-- R181 check 4: memory; a ring that fits in no region fails it (R376). -/
def State.check4 (s : State) (t : Truss) : Fail :=
  failOf [shared (firstBad s.regionBad t.regions), if (t.rings s.depthOf 0).isNone then some (0, 0) else none]

/-- R178, R228: the size of the initial source of a format 3 slot, of a cell map its expanded grid (with the cell size of the slot's window in
force, DEDUCED, log 20); none when its surface is not allocated. -/
def State.initialSize (s : State) (t : Truss) (e : TSlot) : Option (Nat × Nat) :=
  if e.type = 3 then (t.binding 1 e.source).map fun b => (b.width, b.height)
  else if e.handle = 0xFFFF ∨ !(s.surf e.handle).allocated then none
  else
    let x := s.surf e.handle
    let w := (s.slot e.slot).active
    some (if e.type = 1 then (x.width * w.cellW, x.height * w.cellH) else (x.width, x.height))

/-- R178: a format 3 truss with each slot's scales and initial source fixed from its initial surface. -/
def State.fixScales (s : State) (t : Truss) : Truss :=
  if t.format ≠ 3 then t
  else
    { t with slots := t.slots.map fun e =>
        if e.type = 2 then { e with hmin := 256, hmax := 256, vmin := 256, vmax := 256 }
        else
          match s.initialSize t e with
          | none => e
          | some (w, h) =>
            { e with hmin := 256 * e.dst.w / max 1 w, hmax := ceilDiv (256 * e.dst.w) (max 1 w),
                     vmin := 256 * e.dst.h / max 1 h, vmax := ceilDiv (256 * e.dst.h) (max 1 h), src := ⟨0, 0, w, h⟩ } }

/-- R181 check 5: faults of one travel box in variant `v`. -/
def State.boxBad (s : State) (t : Truss) (v : Nat) (e : TSlot) : Bool :=
  let o := t.output e.out
  let regionOn := fun p => t.regions.any fun r => (r.kind == 0 || r.kind == 1 || r.kind == 3) && devPort r.addr == p
  let rangeBad := fun lo hi => decide (lo < 32) || decide (hi < lo) || decide (4096 < hi)
  decide (e.x1 ≤ e.x0) || decide (o.width < e.x1) || decide (e.y1 ≤ e.y0) || decide (o.height < e.y1) ||
    rangeBad e.hmin e.hmax || rangeBad e.vmin e.vmax ||
    (t.format == 3 && e.type != 2 && (s.initialSize t e).isNone) ||
    (decide (e.type < 2) && (if e.port = 4 then !bitOf 0 e.flags else if e.port ≤ 5 then !regionOn e.port else true)) ||
    (e.type == 3 && (match t.ringOf s.depthOf v e.source with
      | some a => if v = 0 then devPort a != e.port else decide (18 ≤ v ∧ v < 22 ∧ devPort a = v - 18)
      | none => !(decide (18 ≤ v ∧ v < 22))))

/-- R181 check 5: travel boxes. -/
def State.check5 (s : State) (t : Truss) : Fail := perVariant t fun v => firstBad (s.boxBad t v.id) t.slots

/-- R181 check 6, R263, R265: line buffer. -/
def check6 (t : Truss) : Fail :=
  shared (firstBad (fun e => e.type != 2 &&
    (decide (24576 < e.stored) || decide (min 6 (24576 / max 1 e.stored) < e.taps) || e.taps == 0 ||
      (e.dec != 1 && e.dec != 2 && e.dec != 4) || (bitOf 1 e.flags && (decide (e.stripes < 2) || decide (8 < e.stripes))))) t.slots)

/-! ### Checks 7, 8 and 10 -/

/-- R182 check 7: consecutive items of a lane, wrapping at H, given with their occupancies. -/
def laneClash (h : Nat) (l : List (Nat × Nat × Nat)) : Option Nat :=
  let after := l.drop 1 ++ (l.take 1).map fun e => (e.1, e.2.1 + h, e.2.2)
  ((l.zip after).find? fun p => decide (p.2.2.1 < p.1.2.1 + p.1.2.2)).map fun p => p.1.1

/-- The items of a lane as index, start and occupancy, in start order; `move` places an instant (check 19). -/
def laneItems (t : Truss) (pace : Nat) (move : TItem → Nat → Nat) (items : List TItem) (lane : Nat) : List (Nat × Nat × Nat) :=
  (items.zipIdx.filter fun e => e.1.lane == lane).map fun e => (e.2, move e.1 e.1.start, t.occupies pace e.1)

/-- R182 check 7, R184, R266: lane occupancy, and the estimates of the items. -/
def check7 (t : Truss) (move : TItem → Nat → Nat) : Fail :=
  perVariant t fun v =>
    let items := t.itemsOf v.id
    let clash := (List.range 16).findSome? fun k => laneClash t.h (laneItems t (t.pace v.id) move items k)
    firstOf [
      firstBad (fun i => decide (i.tokens < ((t.maskSlots i).map (layerCost (t.output i.out))).sum)) items,
      clash]

/-- R182 check 8, R299: an item of variant `v` breaks sill ≤ start, start + d ≤ deadline ≤ need, or free ≤ start. -/
def Truss.itemLate (t : Truss) (timing : Nat → Option HeadTiming) (v : Nat) (move : TItem → Nat → Nat) (i : TItem) : Bool :=
  let sill := t.itemSill i
  match t.needFree timing v i with
  | none => true
  | some (need, free) =>
    decide (i.start < sill) || decide (i.deadline < i.start) || decide (move i i.deadline < move i i.start + t.occupies (t.pace v) i) ||
      decide (move i (sill + need) < move i i.deadline) || decide (move i i.start < move i (sill + free))

/-- R181 check 8. -/
def check8 (t : Truss) (timing : Nat → Option HeadTiming) (move : TItem → Nat → Nat) : Fail :=
  perVariant t fun v => firstBad (t.itemLate timing v.id move) (t.itemsOf v.id)

/-- Instants as compiled. -/
def unmoved : TItem → Nat → Nat := fun _ x => x

/-- R181 check 10: run-ahead. -/
def check10 (t : Truss) : Fail :=
  perVariant t fun v => firstBad (fun i => decide (i.start + 3906 < t.itemSill i + i.lead)) (t.itemsOf v.id)

/-! ### Checks 9 and 11–14 -/

/-- R183: ports an entry's bytes count on, with the divisor of its share. -/
def entryPorts (e : TFetch) : List (Nat × Nat) :=
  if e.port = 5 then (List.range 4).map fun p => (p, 4) else [(e.port, 1)]

/-- R183: four times b(i, p), the bytes of an item on a port. -/
def itemBytes4 (es : List TFetch) (p : Nat) : Nat :=
  (es.map fun e => ((entryPorts e).filter fun x => x.1 == p).foldl (fun a x => a + 4 * e.bytes / x.2) 0).sum

/-- R183 check 9, R236: lead time on port `p`. -/
def leadBad (t : Truss) (f : Figures) (v p : Nat) (i : TItem) : Bool :=
  let es := t.entriesOf v i
  let b := itemBytes4 es p
  let l := if es.any fun e => e.kind == 2 && (entryPorts e).any fun x => x.1 == p then 2 * f.lat p + 128 else f.lat p
  b != 0 && (f.adm p == 0 || decide (i.lead < ceilDiv (4 * l * f.adm p + b * 1000) (256 * f.adm p) + 4))

/-- R183: what the fetch entries of a variant read on port `p`. -/
def readLoads (t : Truss) (v p : Nat) : List Load :=
  (t.itemsOf v).flatMap fun i =>
    (t.entriesOf v i).zipIdx.flatMap fun e => ((entryPorts e.1).filter fun x => x.1 == p).map fun x =>
      { idx := i.first + e.2, amount := e.1.bytes, share := x.2, lo := backFrom t.h i.start i.lead, len := i.lead }

/-- R183: bytes a port moves in a window at 95 % of a bandwidth in MB/s, times 1,000. -/
def windowLimit (mbps : Nat) : Nat := 95 * mbps * 65536 / 100

/-- R183: more than 95 % of a bandwidth in MB/s in a window. -/
def overLimit (mbps : Nat) (r : Frac) : Bool := decide (windowLimit mbps * r.2 < 1000 * r.1)

/-- R183 check 11: the first fetch entry that reads in a window in which port `p` reads too much. -/
def readsBad (t : Truss) (f : Figures) (v p : Nat) : Option Nat := firstOver t.h (overLimit (f.adm p)) (readLoads t v p)

/-- R183: the entries that hold tags on port `p` at a grain: index, and four times their tags. -/
def tagsHeld (t : Truss) (v p g : Nat) : List (Nat × Nat) :=
  ((t.itemsOf v).filter fun i => decide ((g + t.h - backFrom t.h i.start i.lead) % t.h < i.lead)).flatMap fun i =>
    (t.entriesOf v i).zipIdx.flatMap fun e => ((entryPorts e.1).filter fun x => x.1 == p).map fun x => (i.first + e.2, e.1.tags * 4 / x.2)

/-- R183: tags held on port `p` at a grain. -/
def tagsAt (t : Truss) (v p g : Nat) : Nat := ceilDiv ((tagsHeld t v p g).map (·.2)).sum 4

/-- R183: the grains at which the count of tags rises: where an item's fetch begins. -/
def tagGrains (t : Truss) (v : Nat) : List Nat := (t.itemsOf v).map fun i => backFrom t.h i.start i.lead

/-- R183: most tags held at once on port `p`. -/
def peakTags (t : Truss) (v p : Nat) : Nat := (tagGrains t v).foldl (fun m g => max m (tagsAt t v p g)) 0

/-- R183 check 13: the first fetch entry that holds a tag of port `p` at a grain at which too many are held. -/
def tagsBad (t : Truss) (v p : Nat) : Option Nat :=
  leastIdx (((tagGrains t v).filter fun g => decide (portTags p < tagsAt t v p g)).flatMap fun g => (tagsHeld t v p g).map (·.1))

/-- R385: bytes a writeback engine writes per frame of an output. -/
def wbBytes (o : TOutput) : Nat :=
  match (encFormat o.enc).bind fmtOf with | some f => surfBytes f o.height (f.bytes * o.width) (f.bytes * o.width * o.height) | none => 0

/-- R385: what writeback writes in a variant, by output index. -/
def wbLoads (t : Truss) (v : Nat) : List Load :=
  (List.range t.outputs.length).flatMap fun k =>
    let o := t.output k
    if o.wb = 0 ∨ !t.keepsOut v k then []
    else if o.kind = 0 then
      match t.timing o.unit, t.group o.group with
      | some x, some g =>
        let lo := lineStart x 0
        (List.range g.f).map fun j =>
          { idx := k, amount := wbBytes o, share := 1, lo := (sillGrain t.h g j + lo) % t.h, len := lineEnd x (x.vactive - 1) - lo }
      | _, _ => []
    else
      ((t.itemsOf v).filter fun i => i.out == k).map fun i =>
        { idx := k, amount := wbBytes o * o.strip, share := o.height, lo := i.start, len := i.deadline - i.start }

/-- R376: the sources whose rings lie on port `p`, with their indices. -/
def State.ringsOn (s : State) (t : Truss) (v p : Nat) : List (TBinding × Nat) :=
  t.bindings.zipIdx.filter fun b => b.1.kind == 1 && (match t.ringOf s.depthOf v b.1.num with | some a => devPort a == p | none => false)

/-- R385: a writeback target lies on port `p`. -/
def wbOn (t : Truss) (p : Nat) : Bool := t.regions.any fun r => r.kind == 4 && (devPort r.addr == p || devPort r.addr == 5)

/-- R385: bytes written in window `w` on port `p`, as a fraction. -/
def State.windowWrites (s : State) (t : Truss) (v p w : Nat) : Frac :=
  let rings := fracSum ((s.ringsOn t v p).map fun b => (sourceBuffer b.1 * 65536 * 10, b.1.period * 1000 * 9))
  if wbOn t p then fracAdd rings (loadIn t.h (wbLoads t v) w) else rings

/-- R181 check 12: writes on port `p` against 95 % of the write bandwidth: the first source with a ring there, or the first output written to it (log 20). -/
def State.writesBad (s : State) (t : Truss) (f : Figures) (v p : Nat) : Option Nat :=
  let full := (windows t.h).filter fun w => overLimit (f.writes.getD p 0) (s.windowWrites t v p w)
  if full.isEmpty then none
  else
    match (s.ringsOn t v p).head? with
    | some b => some b.2
    | none => leastIdx (((wbLoads t v).filter fun x => full.any fun w => overlap t.h x.lo x.len w != 0).map (·.idx))

/-- R180: the lowest of the indices at which some units fail. -/
def firstUnit (n : Nat) (bad : Nat → Option Nat) : Option Nat := leastIdx ((List.range n).filterMap bad)

/-- R181 checks 9 and 11–14. -/
def check9 (t : Truss) (f : Figures) : Fail :=
  perVariant t fun v => firstBad (fun i => (List.range 4).any fun p => leadBad t f v.id p i) (t.itemsOf v.id)
def check11 (t : Truss) (f : Figures) : Fail := perVariant t fun v => firstUnit 4 (readsBad t f v.id)
def State.check12 (s : State) (t : Truss) (f : Figures) : Fail := perVariant t fun v => firstUnit 4 (s.writesBad t f v.id)
def check13 (t : Truss) : Fail := perVariant t fun v => firstUnit 5 (tagsBad t v.id)
def check14 (t : Truss) (f : Figures) : Fail :=
  perVariant t fun v => firstOf [firstBad (leadBad t f v.id 4) (t.itemsOf v.id), readsBad t f v.id 4]

/-! ### Checks 15–18 -/

/-- R334: what the items of a variant encode on encoder `e`, at 128 pixels a grain in their encode slots. -/
def encodeLoads (t : Truss) (v e : Nat) : List Load :=
  (t.itemsOf v).zipIdx.filterMap fun i =>
    let o := t.output i.1.out
    if bitOf 1 i.1.dest ∧ bitsOf 5 3 i.1.dest = e then
      (t.burst v i.1.out i.1.strip i.1.frame (t.itemSill i.1)).map fun b =>
        { idx := i.2, amount := encodeGrains o, share := 1, lo := backFrom t.h b (encodeGrains o), len := encodeGrains o }
    else none

/-- R181 check 15: an encoder's pixels in each window. -/
def check15 (t : Truss) : Fail :=
  perVariant t fun v => firstUnit 8 fun e => firstOver t.h (fun r => decide (1024 * r.2 < r.1)) (encodeLoads t v.id e)

/-- R181 check 16, R377: the sources that decoder `d` decodes in a variant, with their indices. -/
def decodedBy (t : Truss) (v d : Nat) : List (TBinding × Nat) :=
  t.bindings.zipIdx.filter fun b => b.1.kind == 1 && t.decoderOf v b.1.num == d

/-- R181 check 16: pixels per second of a decoder, as a fraction. -/
def decoderRate (t : Truss) (v d : Nat) : Frac :=
  fracSum ((decodedBy t v d).map fun b => (b.1.width * b.1.height * 1000000, max 1 b.1.period))

/-- R181 check 16, R377: decoders. -/
def check16 (t : Truss) : Fail :=
  perVariant t fun v =>
    let beyond := fun (limit : Nat) (r : Frac) => decide (limit * r.2 < r.1)
    firstOf [
      firstUnit 4 fun d => if beyond 2000000000 (decoderRate t v.id d) then (decodedBy t v.id d).head?.map (·.2) else none,
      if beyond 8000000000 (fracSum ((List.range 4).map (decoderRate t v.id))) then firstBad (fun b => b.kind == 1) t.bindings else none,
      firstBad (fun b => b.kind == 1 && decide (3 < b.decoder)) t.bindings]

/-- R362 17b: the first of a port's mortises, in start order with their indices, that does not keep the kerf to the next, wrapping at H. -/
def mortiseClash (h : Nat) (l : List (TMortise × Nat)) : Option Nat :=
  let after := l.drop 1 ++ (l.take 1).map fun m => ({ m.1 with start := m.1.start + h }, m.2)
  ((l.zip after).find? fun p => decide (p.2.1.start < p.1.1.start + p.1.1.len + 8)).map fun p => p.1.2

/-- R362 17e: the first mortise beyond the 131,072 of a port, or beyond the 128 that start in a bucket. -/
def mortiseMany (h : Nat) (l : List (TMortise × Nat)) : Option Nat :=
  firstOf ((l.drop 131072).head?.map (·.2) ::
    (List.range (ceilDiv h 4096)).map fun k => ((l.filter fun m => m.1.start / 4096 == k).drop 128).head?.map (·.2))

/-- R362 17a, 17c, 17d: faults of one mortise. -/
def State.mortiseBad (s : State) (t : Truss) (m : TMortise) : Bool :=
  let o := t.output m.out
  match t.binding 0 o.unit, t.group o.group with
  | some b, some g =>
    let w := s.rowBytes m.port o b
    let sill := sillGrain t.h g m.frame
    let start := if m.start < sill then m.start + t.h else m.start
    o.kind != 1 || decide (m.len * s.lineRate m.port < w) || decide (m.bytes < w) || m.len == 0 ||
      (s.ethCfg m.port).mode == 0 || !bitOf m.port b.ports ||
      decide (sill + frameGrains t.h g m.frame < start + m.len + ceilDiv (b.tslk * 1000) 64)
  | _, _ => true

/-- R362 17f: bytes port `p` may send in window `w`, times 8,000,000: its mortises, kerfs and classes. -/
def State.windowEgress (s : State) (t : Truss) (v p w : Nat) : Nat :=
  let ms := (t.calOf v).mortises.filter fun m => m.port == p
  let grains := (ms.map fun m => overlap t.h m.start m.len w).sum + 8 * (ms.filter fun m => inWindow t.h m.start w).length
  let top := fun (f : RateSet → Nat) => (t.cals.map fun c => f (c.2.rates.getD p {})).foldl max 0
  let shaped := fun rate burst => rate * 65536 + 8000000 * burst
  8000000 * (grains * s.lineRate p) + shaped (top (·.control)) (top (·.controlBurst)) + shaped (top (·.repair)) (top (·.repairBurst)) +
    shaped (top (·.manage)) (top (·.manageBurst)) + shaped 2000 512

/-- R362 17g: the longest run of grains outside mortises and kerfs that lies in window `w`, the last window going on at grain 0; grains count from
one hyperperiod earlier. -/
def openRun (t : Truss) (v p w : Nat) : Nat :=
  let lo := 1024 * w + t.h
  let hi := lo + 1024
  let ms := (t.calOf v).mortises.filter fun m => m.port == p
  let all := (List.range 3).flatMap fun k => ms.map fun m => (m.start + k * t.h, m.len)
  let ends := (all.filter fun m => decide (m.1 < hi + 8) && decide (lo < m.1 + m.2)).foldl
    (fun (acc : Nat × Nat) m => (max acc.1 (min (m.1 - 8) hi - acc.2), max acc.2 (m.1 + m.2))) (0, lo)
  max ends.1 (hi - ends.2)

/-- R362, R368: what port `p` fails in variant `v`: a mortise, or the entry of the port in the calendar's header (log 20). -/
def State.calendarBad (s : State) (t : Truss) (v p : Nat) : Option Nat :=
  let cal := t.calOf v
  let ms := cal.mortises.zipIdx.filter fun m => m.1.port == p
  let c := s.ethCfg p
  let rate := cal.rates.getD p {}
  let header := !cal.groups.isEmpty && ((t.group (cal.groups.getD p 0)).isNone || decide (rate.control * 125 * (t.h * 64) < s.controlBytes t p v))
  let full := (windows t.h).any fun w => decide (8000000 * (c.cap * s.lineRate p) < s.windowEgress t v p w) ||
    decide (openRun t v p w < ceilDiv (c.largest + 20) (s.lineRate p))
  firstOf [mortiseClash t.h ms, mortiseMany t.h ms, if header || full then some p else none]

/-- R181 check 17, R362, R368: the calendar. -/
def State.check17 (s : State) (t : Truss) : Fail :=
  perVariant t fun v => firstOf [
    firstBad (s.mortiseBad t) (t.calOf v.id).mortises,
    firstUnit 4 (s.calendarBad t v.id)]

/-- R44, R159: REFCLK in Hz, by the board record's code. -/
def refHz (code : Nat) : Nat := if code = 1 then 50000000 else if code = 2 then 100000000 else 25000000

/-- R298: link capacity of lanes and rate, bit/s times 0.8. -/
def linkBits (lanes rate : Nat) : Nat := lanes * ([0, 2700, 5400, 8100].getD rate 0) * 800000

/-- R298: a timing carries its pixels at lanes and rate. -/
def carries (x : HeadTiming) (bits lanes rate : Nat) : Bool := decide (x.clock * 3 * bits * 103 ≤ linkBits lanes rate * 100)

/-- R62, R63: PLL settings outside their ranges on a head PLL. -/
def State.pllBad (s : State) (k m n p : Nat) : Bool :=
  let f := refHz s.boot.board.refFreq.toNat
  let pfd := f / max 1 m
  let vco := f * n / max 1 m
  let out := vco / max 1 p
  let bandB := s.boot.board.bands.getLsbD k
  m == 0 || decide (64 < m) || decide (n < 16) || decide (8191 < n) || decide (p < 4) || decide (255 < p) ||
    (if bandB then decide (pfd < 4000000) || decide (50000000 < pfd) else decide (pfd < 500000) || decide (4000000 < pfd)) ||
    decide (vco < 2500000000) || decide (5400000000 < vco) || decide (out < 25000000) || decide (660000000 < out)

/-- R181 check 18, R298: faults of one head timing of a truss. -/
def State.timingBad (s : State) (t : Truss) (x : HeadTiming) : Bool :=
  let sum := x.hfp + x.hsync + x.hbp
  match t.outputOf 0 x.head with
  | none => decide (7 < x.head)
  | some k =>
    let o := t.output k
    match t.group o.group with
    | none => true
    | some g =>
      let nominal := t.h / max 1 g.f * 64
      decide (7 < x.pll) || s.pllBad x.pll x.m x.n x.p || decide (1 < x.sink) || decide (7 < x.flags) ||
        x.hactive != o.width || x.vactive != o.height || decide (3840 < x.hactive) || decide (2160 < x.vactive) ||
        decide (x.hfp < 8) || decide (x.hsync < 8) || decide (x.hbp < 8) || decide (sum < 64) ||
        decide (x.vfp = 0) || decide (x.vsync = 0) || decide (x.vbp = 0) ||
        x.clock != refHz s.boot.board.refFreq.toNat * x.n / (max 1 x.m * max 1 x.p) ||
        decide (x.clock < 25000000) || decide (660000000 < x.clock) ||
        (t.timings.any fun y => y.head != x.head && y.pll == x.pll && y.clock != x.clock) ||
        !(x.lanes == 1 || x.lanes == 2 || x.lanes == 4) || decide (x.rate = 0) || decide (3 < x.rate) ||
        !carries x (encBits o.enc) x.lanes x.rate ||
        decide (1000 * x.frameNs < 997 * nominal) || decide (1003 * nominal < 1000 * x.frameNs)

/-- R181 check 18: head timing. -/
def State.check18 (s : State) (t : Truss) : Fail := shared (firstBad (s.timingBad t) t.timings)

/-! ### Checks 19–23 -/

/-- R181 check 19, R194: groups whose frames may be compressed. -/
def stretches (t : Truss) (g : Nat) : Bool :=
  match t.group g with
  | some e => e.base == 1 || (e.base == 0 && t.outputs.any fun o => o.kind == 0 && o.group == g)
  | none => false

/-- R181 check 19: an instant moved to sill + floor(0.9965 × (instant − sill)). -/
def compressed (t : Truss) (i : TItem) (x : Nat) : Nat :=
  if stretches t (t.itemGroup i) then t.itemSill i + (x - t.itemSill i) * 9965 / 10000 else x

/-- R181 check 19: realign margin. -/
def check19 (t : Truss) (timing : Nat → Option HeadTiming) : Fail :=
  if t.groups.any fun g => stretches t g.id then failOf [check7 t (compressed t), check8 t timing (compressed t)] else none

/-- R184: the items of group `g` in variant `v` and of every other group in variant `w` clash on a lane. -/
def switchClash (t : Truss) (v w g : Nat) : Option Nat :=
  let mine := ((t.itemsOf v).zipIdx.filter fun e => t.itemGroup e.1 == g).map fun e => (e.1, e.2, t.pace v)
  let theirs := ((t.itemsOf w).zipIdx.filter fun e => t.itemGroup e.1 != g).map fun e => (e.1, e.2, t.pace w)
  (List.range 16).findSome? fun k =>
    laneClash t.h (sortBy (fun a b => decide (a.2.1 ≤ b.2.1))
      (((mine ++ theirs).filter fun e => e.1.lane == k).map fun e => (e.2.1, e.1.start, t.occupies e.2.2 e.1)))

/-- R181 check 20, R184: variants. The travel boxes, groups and epoch are shared, so every variant has those of variant 0. -/
def check20 (t : Truss) : Fail :=
  perVariant t fun v => firstOf [
    if v.id = 0 ∧ v.aliasOf ≠ 0 then some 0 else none,
    if 2 ≤ v.id ∧ v.id < 18 then firstBad (fun i => i.lane == v.id - 2) (t.itemsOf v.id) else none,
    if 22 ≤ v.id ∧ v.id < 26 then firstBad (fun m => m.port == v.id - 22) (t.calOf v.id).mortises else none,
    if 26 ≤ v.id ∧ v.id < 34 then firstBad (fun i => bitOf 1 i.dest && bitsOf 5 3 i.dest == v.id - 26) (t.itemsOf v.id) else none,
    (t.variants.filter fun w => w.id != v.id).findSome? fun w => t.groups.findSome? fun g => switchClash t v.id w.id g.id]

/-- R181 check 21, R376: port loss. -/
def State.check21 (s : State) (t : Truss) : Fail :=
  perVariant t fun v =>
    if 18 ≤ v.id ∧ v.id < 22 then
      let m := v.id - 18
      let copy := fun (r : TRegion) => !bitOf 1 r.flags || (devPort r.addr != m && devPort r.addr != 5) ||
        t.regions.any fun o => bitOf 1 o.flags && o.size == r.size && devPort o.addr != m && devPort o.addr != 5
      firstOf [firstBad (fun e => e.port == m || e.port == 5) (t.fetchesOf v.id),
        firstBad (fun e => decide (e.type < 2) && (e.port == m || e.port == 5) && t.keeps v.id e) t.slots,
        firstBad (fun r => !copy r) t.regions,
        if (t.rings s.depthOf v.id).isNone then some 0 else none]
    else none

/-- R176: firmware's own figures for a variant. -/
def State.ownSummary (s : State) (t : Truss) (v : Nat) : TSummary :=
  let items := t.itemsOf v
  let top := fun (f : Nat → Frac) => (windows t.h).foldl (fun m w => max m (ceilDiv (f w).1 (max 1 (f w).2))) 0
  { variant := v,
    lanes := (List.range 16).map fun k => ((items.filter fun i => i.lane == k).map (t.occupies (t.pace v))).sum,
    reads := (List.range 5).map fun p => top (loadIn t.h (readLoads t v p)),
    writes := (List.range 4).map fun p => top (s.windowWrites t v p),
    tags := (List.range 5).map (peakTags t v),
    encoders := (List.range 8).map fun e =>
      ((items.filter fun i => bitOf 1 i.dest && bitsOf 5 3 i.dest == e).map fun i => encodeBusy (t.pace v) (t.output i.out)).sum,
    decoders := (List.range 4).map fun d =>
      let r := decoderRate t v d
      ceilDiv (r.1 * t.h * 64 * 1024) (128 * 1000000000 * r.2 * t.pace v),
    egress := (List.range 4).map fun p => (windows t.h).foldl (fun m w => max m (ceilDiv (s.windowEgress t v p w) 8000000)) 0 }

/-- Every figure of `a` is at least that of `b`; a list the summary does not carry is not compared (R178). -/
def coversFigures (a b : List Nat) : Bool := a.isEmpty || (a.zip b).all fun p => decide (p.2 ≤ p.1)

/-- R181 check 22: summaries. -/
def State.check22 (s : State) (t : Truss) : Fail :=
  perVariant t fun v =>
    if v.aliasOf ≠ v.id then none
    else
      match t.summaries.find? fun x => x.variant == v.id with
      | none => some 0
      | some x =>
        let o := s.ownSummary t v.id
        if coversFigures x.lanes o.lanes && coversFigures x.reads o.reads && coversFigures x.writes o.writes &&
          coversFigures x.tags o.tags && coversFigures x.encoders o.encoders && coversFigures x.decoders o.decoders &&
          coversFigures x.egress o.egress then none else some 0

/-- R181 check 23: standing trusses. -/
def check23 (t : Truss) : Fail :=
  if !bitOf 0 t.flags then none
  else
    failOf [
      if (findSect t.dir 13 0xFF).isNone then some (0, 0) else none,
      shared (firstBad (fun e => e.port == 4) t.slots),
      perVariant t fun v => firstBad (fun e => e.port == 4) (t.fetchesOf v.id),
      shared (firstBad (fun a => !(t.regions.any fun r => bitOf 0 r.flags && decide (r.addr ≤ a.addr) &&
        decide (a.addr + a.len ≤ r.addr + r.size))) t.assets)]

/-! ### The whole -/

/-- R180: ADMISSION detail: check number, variant and index. -/
def admissionDetail (check : Nat) (f : Nat × Nat) : Nat := check + 256 * f.1 + 65536 * min f.2 0xFFFF

/-- R180: the checks in number order; `changes` counts what R185 counts. -/
def State.admission (s : State) (img : List Byte) (t : Truss) (changes : Nat) : Option Nat :=
  let t := s.fixScales t
  let f := s.figures
  let ones : List (Nat × (Unit → Fail)) := [
    (1, fun _ => check1 0x10 img t), (2, fun _ => check2 t), (3, fun _ => check3 t), (4, fun _ => s.check4 t),
    (5, fun _ => s.check5 t), (6, fun _ => check6 t), (7, fun _ => check7 t unmoved), (8, fun _ => check8 t t.timing unmoved),
    (9, fun _ => check9 t f), (10, fun _ => check10 t), (11, fun _ => check11 t f), (12, fun _ => s.check12 t f),
    (13, fun _ => check13 t), (14, fun _ => check14 t f), (15, fun _ => check15 t), (16, fun _ => check16 t),
    (17, fun _ => s.check17 t), (18, fun _ => s.check18 t), (19, fun _ => check19 t t.timing), (20, fun _ => check20 t),
    (21, fun _ => s.check21 t), (22, fun _ => s.check22 t), (23, fun _ => check23 t),
    (24, fun _ => if 2 ≤ changes then some (0, 0) else none)]
  ones.findSome? fun c => (c.2 ()).map (admissionDetail c.1)

/-- R185: checks 4 and 9–17 with the figures now in force, for a switch. -/
def State.readmission (s : State) (t : Truss) : Option Nat :=
  let f := s.figures
  let ones : List (Nat × (Unit → Fail)) := [
    (4, fun _ => s.check4 t), (9, fun _ => check9 t f), (10, fun _ => check10 t), (11, fun _ => check11 t f),
    (12, fun _ => s.check12 t f), (13, fun _ => check13 t), (14, fun _ => check14 t f), (15, fun _ => check15 t),
    (16, fun _ => check16 t), (17, fun _ => s.check17 t)]
  ones.findSome? fun c => (c.2 ()).map (admissionDetail c.1)

end Sys2Proof.Machine
end

