-- ==== Sys2Proof/Machine/Windows.lean ====
section
/-! DEFINITION. Live layer windows and the arm: fields, writes to the shadow set and its lock, the travel-box checks,
accepting, refusing and withdrawing an arm (R197–R201, R215, R223, R231, R232, R290, R291). -/

namespace Sys2Proof.Machine

/-! ### Tables and banks in force -/

/-- R259, R268, R289: the image of colour table `i` as groups on store slot `k` read it; none when empty or failed.
Tables loaded by command belong to the running truss. -/
def State.colourTable (s : State) (k i : Nat) : Option (List Byte) :=
  if tabGet s.seq.tableFailed (256 * k + i) then none
  else if tabGet s.seq.tablesKept (256 * k + i) ≠ [] then some (tabGet s.seq.tablesKept (256 * k + i))
  else
    match (s.trussIn k).tables.find? fun e => e.1 == i with
    | some e => some e.2
    | none => if k + 1 = s.seq.running then (s.seq.tables.find? fun e => e.1 == i).map (·.2) else none

/-- R287: the kind of a table image. -/
def tableKind (b : List Byte) : Nat := u b 4 1

/-- R289: table `i` is there and of kind `kind`. -/
def State.tableIs (s : State) (k i kind : Nat) : Bool :=
  match s.colourTable k i with | some b => tableKind b == kind | none => false

/-! ### The lock and writes to a shadow set -/

/-- R200: the shadow set of group `g` is locked: an arm is accepted or its copy is under way. -/
def State.locked (s : State) (g : Nat) : Bool := (s.group g).arm.isSome || (s.group g).copying

/-- R200, R219: counts one late write of group `g`. -/
def State.countLate (g : Nat) (s : State) : State :=
  (s.modGroup g fun c => { c with lateWrites := satInc c.lateWrites, lateNow := satInc c.lateNow, lateWrite := true }).count 394

/-- R197: function `f` writes one register of a slot's shadow window. -/
def State.putShadow (f x off : Nat) (v : Word) (s : State) : State :=
  s.modSlot x fun c =>
    { c with shadow := c.shadow.put off v, unpublished := true,
             writes := (c.writes.filter fun w => w.1 != f || w.2.1 != off) ++ [(f, off, v)] }

/-- R134, R200: a shadow window without the writes of the functions that `hit` names: the values it was refilled with, and the other writes. -/
def SlotSt.without (hit : Nat → Bool) (c : SlotSt) : SlotSt :=
  let kept := c.writes.filter fun w => !hit w.1
  { c with shadow := kept.foldl (fun w x => w.put x.2.1 x.2.2) (c.pending.getD c.active), writes := kept, unpublished := !kept.isEmpty }

/-! ### Surfaces and the travel box -/

/-- R223: function `f` may name handle `h`. -/
def State.mayUse (s : State) (f h : Nat) : Bool :=
  h != 0xFFFF && (s.surf h).allocated && ((s.surf h).owner == f || (s.surf h).flags.getLsbD 1)

/-- R249: the port a surface lies on: 0–3, 4 host memory, 5 spread. -/
def Surface.port (x : Surface) : Nat := if x.flags.getLsbD 0 then 4 else devPort x.addr

/-- R228: the cell grid of a window, in pixels. -/
def Llw.cellGrid (w : Llw) : Nat × Nat := (w.cols * w.cellW, w.rows * w.cellH)

/-- R225–R228: the size of what a slot's source rectangle lies on. -/
def State.sourceSize (s : State) (t : Truss) (e : TSlot) (w : Llw) : Nat × Nat :=
  if e.type = 1 then w.cellGrid
  else if e.type = 3 then match t.binding 1 e.source with | some b => (b.width, b.height) | none => (0, 0)
  else ((s.surf w.surfaceHandle).width, (s.surf w.surfaceHandle).height)

/-- R198 code 6, R224, R375: the format of what a window names: for an ingest-linked slot its source's ring format. -/
def State.windowFormat (s : State) (t : Truss) (e : TSlot) (w : Llw) : Option Fmt :=
  if e.type = 3 then ((t.binding 1 e.source).bind fun b => encFormat b.enc).bind fmtOf else fmtOf (s.surf w.surfaceHandle).format

/-- R198 codes 3 and 4, R226: a size outside its scale range. -/
def scaleBad (dst src lo hi : Nat) : Bool := decide (256 * dst < lo * src) || decide (hi * src < 256 * dst)

/-- R232: the cell-map conditions of code 9. -/
def State.cellBad (s : State) (f : Nat) (e : TSlot) (w : Llw) : Bool :=
  let map := s.surf w.surfaceHandle
  let atlas := s.surf w.atlasHandle
  let outside := fun v lo hi => decide (v < lo) || decide (hi < v)
  outside w.cellW 4 64 || outside w.cellH 4 64 || outside w.perRow 1 4095 || w.cols == 0 || w.rows == 0 ||
    decide (e.maxW < w.cols * w.cellW) || decide (e.maxH < w.rows * w.cellH) ||
    !(map.format == 0x50 || map.format == 0x51) || decide (map.width < w.cols) || decide (map.height < w.rows) ||
    !s.mayUse f w.atlasHandle || atlas.port != e.port ||
    !(atlas.format == 0x01 || atlas.format == 0x12 || atlas.format == 0x20) ||
    (match fmtOf atlas.format with | some x => decide (e.bpp < x.box) | none => true) ||
    decide (atlas.width < w.perRow * w.cellW)

/-- R232, R291: the conditions of code 9 for any layer type. -/
def State.fieldsBad (s : State) (f k : Nat) (t : Truss) (e : TSlot) (w : Llw) : Bool :=
  let rgb := e.type != 2 && (match s.windowFormat t e w with | some x => !x.ycc | none => false)
  let ratio := fun dst src => decide (4096 * ceilDiv src w.dec < 256 * dst)
  w.readyKind == 3 || bitsOf 0 2 w.fetch.toNat == 3 || decide (e.dec < w.dec) ||
    (e.type != 2 && (ratio w.dst.w w.src.w || ratio w.dst.h w.src.h)) ||
    (e.type == 1 && s.cellBad f e w) ||
    (e.type == 3 && !((s.surf w.surfaceHandle).made == 2 && (s.surf w.surfaceHandle).source == e.source)) ||
    (decide (1 ≤ w.matrix ∧ w.matrix ≤ 3) && rgb) || decide (5 < w.matrix) || decide (4 < w.degamma) ||
    (w.matrix == 5 && !s.tableIs k w.matrixTable 1) || (w.degamma == 4 && !s.tableIs k w.degammaTable 2) ||
    (e.type == 3 && (t.binding 1 e.source).isNone)

/-- R376: the ring in force of a source lies on a port that variant `v` uses. -/
def State.ringPortOk (s : State) (v src : Nat) : Bool := !(decide (18 ≤ v ∧ v < 22) && devPort (s.ing src).addr == v - 18)

/-- R198: the first condition, in code order, that a visible slot's window fails; 0 when it passes. -/
def State.boxCode (s : State) (f k v : Nat) (t : Truss) (e : TSlot) (w : Llw) : Nat :=
  let h := w.surfaceHandle
  let x := s.surf h
  let solid := e.type == 2
  let size := s.sourceSize t e w
  let srcH := if solid then w.dst.h else w.src.h
  if !solid && !s.mayUse f h then 1
  else if w.dst.x < e.x0 ∨ e.x1 < w.dst.x + w.dst.w ∨ w.dst.y < e.y0 ∨ e.y1 < w.dst.y + w.dst.h then 2
  else if !solid && scaleBad w.dst.w w.src.w e.hmin e.hmax then 3
  else if scaleBad w.dst.h srcH e.vmin e.vmax then 4
  else if !solid && (decide (e.maxW < w.src.w) || decide (e.maxH < w.src.h)) then 5
  else if !solid && e.type != 1 && (match s.windowFormat t e w with | some y => decide (e.bpp < y.box) | none => true) then 6
  else if !solid && (if e.type = 3 then !s.ringPortOk v e.source else x.port != e.port || (x.port == 4 && !bitOf 0 e.flags)) then 7
  else if !solid && (decide (size.1 < w.src.x + w.src.w) || decide (size.2 < w.src.y + w.src.h)) then 8
  else if s.fieldsBad f k t e w then 9
  else 0

/-- R198: the first slot of group `g` whose shadow window breaks its box, with the code. -/
def State.armBad (s : State) (f g : Nat) (t : Truss) : Option (Nat × Nat) :=
  let k := (s.group g).store - 1
  (t.groupSlots g).findSome? fun e =>
    let w := (s.slot e.slot).shadow
    if w.visible then
      let c := s.boxCode f k (s.group g).variant t e w
      if c = 0 then none else some (e.slot, c)
    else none

/-! ### Arm and disarm -/

/-- R216: SILL_ARM_STATUS of group `g`. -/
def State.armStatus (s : State) (g : Nat) : Nat :=
  let c := s.group g
  let waiting := allFns.any fun f => (s.fn f).heldArms.contains g
  packBits [(0, 3, c.result.toNat), (3, 1, b2n waiting), (4, 1, b2n (match c.arm with | some a => a.wait != 0 | none => false)),
    (5, 1, b2n c.lateWrite), (6, 13, c.badSlot.toNat), (19, 4, c.reason.toNat)]

/-- R217: the arm-result record of group `g`, to the function whose arm it is. -/
def State.armResult (f g result slot : Nat) (n : Word) (s : State) : State :=
  let s := s.modGroup g fun c => { c with result := BitVec.ofNat 3 result }
  (s.record f 4 (BitVec.ofNat 16 g)
    ([BitVec.ofNat 8 result, 0] ++ leBytes 2 slot ++ leBytes 4 n.toNat ++ leBytes 4 (s.armStatus g))).pend (121 + g)

/-- R199, R202, R216: the arm of a group that is accepted, until its copy completes: its target, and whether that is a later sill than the next. -/
def GroupSt.armHeld (c : GroupSt) : Option (Word × Bool) :=
  match c.arm with | some a => some (a.target, a.wait != 0) | none => if c.copying then some (c.n, false) else none

/-- R199, R201: an arm or disarm without effect. -/
def State.armIgnored (g : Nat) (s : State) : State :=
  (s.modGroup g fun c => { c with ignored := satInc c.ignored }).count 407

/-- R200: a slot's armed window is final; its surfaces are in use from acceptance on (R116). -/
def State.useSurfaces (g : Nat) (t : Truss) (s : State) : State :=
  (t.groupSlots g).foldl (fun (s : State) (e : TSlot) =>
    let w := (s.slot e.slot).shadow
    let s := s.modSlot e.slot fun c => { c with unpublished := false }
    let mark := fun h (s : State) => if h = 0xFFFF then s else s.modSurf h fun x => { x with inUse := true }
    if w.visible && e.type != 2 then (if e.type = 1 then mark w.atlasHandle (mark w.surfaceHandle s) else mark w.surfaceHandle s) else s) s

/-- R198, R199: an arm of group `g` from function `f` arrives, with the grant. Answers the result of its record. -/
def State.arrive (f g : Nat) (s : State) : Nat × State :=
  match s.grpTruss g with
  | none => (6, s)
  | some t =>
    match (s.group g).armHeld with
    | some a => (b2n a.2, (s.armIgnored g).armResult f g (b2n a.2) 0 a.1)
    | none =>
      match s.armBad f g t with
      | some (x, code) =>
        let s := s.modGroup g fun c => { c with badSlot := BitVec.ofNat 13 x, reason := BitVec.ofNat 4 code }
        (2, (s.count 390).armResult f g 2 x 0)
      | none =>
        let wait := s.usableWait g
        let target := s.frameAfter g wait
        let arm : Arm := { target := target, wait := wait, deferred := wait != 0, fn := f }
        let s := (s.modGroup g fun c => { c with arm := some arm }).useSurfaces g t
        let s := s.count 388
        let s := if wait = 0 then s else s.count 389
        (wait, s.armResult f g wait 0 target)

/-- R201, R218: the accepted arm of group `g` is withdrawn, with result 4 to the function `f`. -/
def State.withdraw (f g : Nat) (s : State) : State :=
  let target := match (s.group g).arm with | some a => a.target | none => 0
  let s := s.modGroup g fun c => { c with arm := none }
  let s := match s.grpTruss g with
    | some t => (t.groupSlots g).foldl (fun (s : State) (e : TSlot) => s.modSlot e.slot fun c => { c with unpublished := !c.writes.isEmpty }) s
    | none => s
  s.armResult f g 4 0 target

/-- R218: the accepted arm of group `g` is not applied; the function whose arm it was hears of it. -/
def State.dropArm (g : Nat) (s : State) : State := match (s.group g).arm with | some a => s.withdraw a.fn g | none => s

/-- R201: a disarm of group `g` from function `f` arrives. Answers 4 withdrawn, 5 refused, 6 no effect. -/
def State.disarm (f g : Nat) (s : State) : Nat × State :=
  match (s.group g).arm with
  | none => if (s.group g).copying then (5, (s.count 393).armResult f g 5 0 (s.group g).n) else (6, s.armIgnored g)
  | some a =>
    let past := a.wait == 0 && ((s.group g).cutoffPassed || decide ((s.group g).nextAt ≤ s.clk.plan + s.cutoffNs g))
    if past then (5, (s.count 393).armResult f g 5 0 a.target)
    else (4, (s.count 392).withdraw f g)

end Sys2Proof.Machine
end

