-- ==== Sys2Proof/Machine/Pixel.lean ====
section
/-! DEFINITION. The pixels of a strip, to the bit: surface pixels and patches, cells, pre-decimation, polyphase scaling,
colour conversion, blending, output colour and quantisation (R224–R244, R251–R264, R270–R285). -/

namespace Sys2Proof.Machine

/-- A pixel: three components and alpha. -/
structure Px where
  a : Nat := 0
  b : Nat := 0
  c : Nat := 0
  al : Nat := 0
  deriving DecidableEq, Repr, Inhabited

/-- A pixel as its read left it. -/
inductive Got where
  /-- Its bytes are in staging. -/
  | px (p : Px)
  /-- Patched as the slot's patch mode says (R243). -/
  | patch
  /-- Patched with the fill whatever the mode: poison in a map or atlas (R243). -/
  | fill
  deriving DecidableEq, Repr, Inhabited

/-- What staging holds of a slot's data for an item: bytes that landed, and addresses that read poisoned. -/
structure Staged where
  reads : List FRead

/-- One byte from staging. -/
def Staged.byte (g : Staged) (a : Nat) : Option Byte :=
  (g.reads.find? fun r => decide (r.addr ≤ a) && decide (a < r.addr + 64) && r.state == .landed).map fun r => r.data.getD (a - r.addr) 0

/-- The read that covers an address came back poisoned. -/
def Staged.poison (g : Staged) (a : Nat) : Bool :=
  g.reads.any fun r => decide (r.addr ≤ a) && decide (a < r.addr + 64) && r.state == .poisoned

/-- A little-endian word from staging. -/
def Staged.word (g : Staged) (a n : Nat) : Option Nat := ((List.range n).mapM fun i => g.byte (a + i)).map leNat

/-! ### Surface pixels -/

/-- R224: bits of the components of a format, in the order R, G, B or Y, Cb, Cr, then alpha; 0 for none. -/
def fmtBits (code : Nat) : Nat × Nat × Nat × Nat :=
  if code = 0x01 then (8, 8, 8, 8) else if code = 0x02 then (8, 8, 8, 0) else if code = 0x10 then (5, 6, 5, 0)
  else if code = 0x11 then (5, 5, 5, 1) else if code = 0x12 then (4, 4, 4, 4) else if code = 0x20 ∨ code = 0x22 then (8, 8, 8, 8)
  else if code = 0x21 then (8, 8, 8, 0) else if code = 0x23 then (10, 10, 10, 2) else if code = 0x34 then (10, 10, 10, 2)
  else if code = 0x32 then (10, 10, 10, 0) else if code = 0x40 ∨ code = 0x41 then (16, 16, 16, 16) else (8, 8, 8, 0)

/-- R224: a plane-0 element as a pixel. Chroma of a subsampled format is not in it. -/
def decodePx (code w : Nat) : Px :=
  if code = 0x01 then ⟨0, 0, 0, w⟩
  else if code = 0x02 then ⟨w, 128, 128, 0⟩
  else if code = 0x10 then ⟨bitsOf 11 5 w, bitsOf 5 6 w, bitsOf 0 5 w, 0⟩
  else if code = 0x11 then ⟨bitsOf 10 5 w, bitsOf 5 5 w, bitsOf 0 5 w, bitsOf 15 1 w⟩
  else if code = 0x12 then ⟨bitsOf 8 4 w, bitsOf 4 4 w, bitsOf 0 4 w, bitsOf 12 4 w⟩
  else if code = 0x20 then ⟨bitsOf 16 8 w, bitsOf 8 8 w, bitsOf 0 8 w, bitsOf 24 8 w⟩
  else if code = 0x21 then ⟨bitsOf 16 8 w, bitsOf 8 8 w, bitsOf 0 8 w, 0⟩
  else if code = 0x22 then ⟨bitsOf 0 8 w, bitsOf 8 8 w, bitsOf 16 8 w, bitsOf 24 8 w⟩
  else if code = 0x23 then ⟨bitsOf 20 10 w, bitsOf 10 10 w, bitsOf 0 10 w, bitsOf 30 2 w⟩
  else if code = 0x34 then ⟨bitsOf 10 10 w, bitsOf 0 10 w, bitsOf 20 10 w, bitsOf 30 2 w⟩
  else if code = 0x40 ∨ code = 0x41 then ⟨bitsOf 32 16 w, bitsOf 16 16 w, bitsOf 0 16 w, bitsOf 48 16 w⟩
  else if code = 0x32 then ⟨w / 64, 0, 0, 0⟩
  else ⟨w % 256, 0, 0, 0⟩

/-- R224: a chroma word as a pixel with Cb and Cr in its first two components. -/
def decodeChroma (code w : Nat) : Px :=
  if code = 0x32 then ⟨bitsOf 6 10 w, bitsOf 22 10 w, 0, 0⟩
  else if code = 0x30 then ⟨bitsOf 8 8 w, bitsOf 24 8 w, 0, 0⟩
  else ⟨bitsOf 0 8 w, bitsOf 8 8 w, 0, 0⟩

/-- A pixel at an address, with the 64-byte line it is read from. -/
def fetchPx (g : Staged) (addr bytes : Nat) (dec : Nat → Px) : Nat × Got :=
  (addr / 64, match g.word addr bytes with | some w => .px (dec w) | none => .patch)

/-- R224: plane-0 pixel (x, y) of a surface whose pixels start at `base`. -/
def lumaAt (g : Staged) (f : Fmt) (base stride x y : Nat) : Nat × Got :=
  let bytes := if f.code = 0x30 then 1 else f.bytes
  fetchPx g (base + y * stride + x * f.bytes) bytes (decodePx f.code)

/-- R224: the chroma element `k` of chroma line `y`. -/
def chromaAt (g : Staged) (f : Fmt) (base stride plane1 k y : Nat) : Nat × Got :=
  if f.code = 0x30 then fetchPx g (base + y * stride + k * 4) 4 (decodeChroma f.code)
  else fetchPx g (base + plane1 + y * stride + k * f.plane1) f.plane1 (decodeChroma f.code)

/-! ### Cells -/

/-- R230: out = (bg × (255 − c) + fg × c + 127) / 255. -/
def cellMix (bg fg c : Nat) : Nat := (bg * (255 - c) + fg * c + 127) / 255

/-- An 8-bit ARGB word as a pixel. -/
def argbPx (w : Nat) : Px := ⟨bitsOf 16 8 w, bitsOf 8 8 w, bitsOf 0 8 w, bitsOf 24 8 w⟩

/-- R229: glyph, foreground, background and the hidden bit of a cell entry, invert applied (R230). -/
def cellFields (code w : Nat) : Nat × Nat × Nat × Bool :=
  if code = 0x50 then (bitsOf 0 12 w, bitsOf 12 4 w, 0, false)
  else if bitOf 24 w then (bitsOf 0 16 w, bitsOf 20 4 w, bitsOf 16 4 w, bitOf 25 w)
  else (bitsOf 0 16 w, bitsOf 16 4 w, bitsOf 20 4 w, bitOf 25 w)

/-- R228: glyphs an atlas holds. -/
def atlasGlyphs (w : Llw) (atlas : Surface) : Nat := w.perRow * (atlas.height / max 1 w.cellH)

/-- R230: pixel (x, y) of the expanded grid. The map lies at `mapBase`. -/
def cellPx (g : Staged) (w : Llw) (map atlas : Surface) (mapBase x y : Nat) : Nat × Got :=
  let n := if map.format = 0x50 then 2 else 4
  let at1 := mapBase + (y / max 1 w.cellH) * map.stride + (x / max 1 w.cellW) * n
  let pal := fun i => argbPx (tabGet w.pal i).toNat
  match g.word at1 n with
  | none => (at1 / 64, if g.poison at1 then .fill else .patch)
  | some e =>
    let (glyph, fgi, bgi, hidden) := cellFields map.format e
    let fg := pal fgi
    let bg := pal bgi
    if hidden || decide (atlasGlyphs w atlas ≤ glyph) then (at1 / 64, .px bg)
    else
      let f := (fmtOf atlas.format).getD default
      let ax := glyph % max 1 w.perRow * w.cellW + x % max 1 w.cellW
      let ay := glyph / max 1 w.perRow * w.cellH + y % max 1 w.cellH
      let at2 := atlas.addr + ay * atlas.stride + ax * f.bytes
      match g.word at2 f.bytes with
      | none => (at2 / 64, if g.poison at2 then .fill else .patch)
      | some v =>
        if atlas.format = 0x01 then
          (at2 / 64, .px ⟨cellMix bg.a fg.a v, cellMix bg.b fg.b v, cellMix bg.c fg.c v, cellMix bg.al fg.al v⟩)
        else
          let p := decodePx atlas.format v
          (at2 / 64, .px (if atlas.format = 0x12 then ⟨p.a * 17, p.b * 17, p.c * 17, p.al * 17⟩ else p))

/-! ### Patches and pre-decimation -/

/-- R243: one line with its patches filled from the line before or the fill; the patched lines of 64 bytes are counted. -/
def patchLine (repeatMode : Bool) (fill : Px) (prev : Option (List Px)) (line : List (Nat × Got)) : List Px × Nat :=
  let px := line.zipIdx.map fun e =>
    match e.1.2 with
    | .px p => p
    | .fill => fill
    | .patch => if repeatMode then (match prev with | some l => l.getD e.2 fill | none => fill) else fill
  let bad := (line.filter fun e => match e.2 with | .px _ => false | _ => true).map (·.1)
  (px, bad.eraseDups.length)

/-- R243: the lines of a layer in the order delivered, and the spans patched. -/
def patchLines (repeatMode : Bool) (fill : Px) (lines : List (List (Nat × Got))) : List (List Px) × Nat :=
  let r := lines.foldl (fun (acc : List (List Px) × Nat) l =>
    let p := patchLine repeatMode fill acc.1.head? l
    (p.1 :: acc.1, acc.2 + p.2)) ([], 0)
  (r.1.reverse, r.2)

/-- R238: the mean of the pixels present in a block; `float` for ARGB16F. -/
def meanPx (float : Bool) (ps : List Px) : Px :=
  let n := max 1 ps.length
  let m := fun (f : Px → Nat) =>
    if float then (meanF16 (ps.map fun p => f16 (f p))).bits16 else ((ps.map f).sum + n / 2) / n
  ⟨m (·.a), m (·.b), m (·.c), m (·.al)⟩

/-- R238: one decimated line from the `d` lines of its blocks. -/
def decLine (float : Bool) (d : Nat) (lines : List (List Px)) : List Px :=
  let w := (lines.map List.length).foldl max 0
  (List.range (ceilDiv w d)).map fun k => meanPx float (lines.flatMap fun l => (l.drop (k * d)).take d)

/-- R238: lines decimated by `d`, the first at a block boundary. -/
def decLines (float : Bool) (d : Nat) (lines : List (List Px)) : List (List Px) :=
  if d ≤ 1 then lines
  else (List.range (ceilDiv lines.length d)).map fun k => decLine float d ((lines.drop (k * d)).take d)

/-! ### Scaling -/

/-- R261: widens an integer of `n` bits to 16 by bit replication; no bits stand for full scale. -/
def widen (n v : Nat) : Nat :=
  if n = 0 then 65535
  else
    let k := ceilDiv 16 n
    ((List.range k).foldl (fun acc _ => acc * 2 ^ n + v) 0) / 2 ^ (k * n - 16)

/-- R253: step between destination pixels, in 1/65,536 of a stored pixel. -/
def scaleStep (ws dst : Nat) : Nat := (ws * 65536 + dst / 2) / max 1 dst

/-- R253: p(x). -/
def scalePos (ws dst phase x : Nat) : Int :=
  let st := scaleStep ws dst
  (st / 2 : Nat) - 32768 + (phase * 1024 : Nat) + (x * st : Nat)

/-- R255: p in chroma coordinates; `s` is the siting. -/
def chromaPos (p : Int) (s : Nat) : Int := asr (p - s * 32768) 1

/-- R253: index and phase of a position. -/
def indexPhase (p : Int) : Int × Nat :=
  let i := asr p 16
  let ph := ((p % 65536).toNat + 0x200) / 1024
  if ph = 64 then (i + 1, 0) else (i, ph)

/-- R256, R257: coefficient of a bank: `image` when it is loaded, ROM otherwise. -/
def coef (bank : Nat) (image : Option (List Byte)) (taps ph k : Nat) : Int :=
  let centre := if taps = 8 then 3 else (taps - 1) / 2
  match image with
  | some b =>
    let base := if taps = 8 then 64 else if taps = 6 then 1088 else if taps = 5 then 1856 else if taps = 4 then 2496
      else if taps = 3 then 3008 else 3392
    signed 16 (u b (base + 2 * (taps * ph + k)) 2)
  | none =>
    if bank = 3 then (if k = centre then 1024 - 16 * ph else if k = centre + 1 then 16 * ph else 0)
    else if bank = 0 ∧ ph = 0 then (if k = centre then 1024 else 0)
    else Config.romCoef bank taps ph k

/-- R254: a stored index held within `[0, n)`. -/
def clampIndex (n : Nat) (i : Int) : Nat := clampTo (n - 1) i

/-- R261: one filtered component. -/
def filterInt (cs : List (Int × Nat)) : Nat := clampTo 65535 (asr ((cs.map fun e => e.1 * (e.2 : Int)).sum + 512) 10)

/-- R261: one filtered component of ARGB16F. -/
def filterFloat (cs : List (Int × Nat)) : Nat :=
  (cs.foldl (fun (acc : Dy) e => (acc.add ⟨e.1 * (f16 e.2).m, (f16 e.2).e - 10⟩).to32) ⟨0, 0⟩).bits16

/-- R261: a filtered pixel. -/
def filterPx (float : Bool) (cs : List (Int × Px)) : Px :=
  let f := fun (g : Px → Nat) =>
    if float then filterFloat (cs.map fun e => (e.1, g e.2)) else filterInt (cs.map fun e => (e.1, g e.2))
  ⟨f (·.a), f (·.b), f (·.c), f (·.al)⟩

/-- A filter bank as a slot uses it: coefficient of taps, phase and tap. -/
abbrev Bank := Nat → Nat → Nat → Int

/-- R254: the stored lines that a vertical position reads: index and coefficient. -/
def vTaps (bank : Bank) (taps n : Nat) (p : Int) : List (Nat × Int) :=
  let (i, ph) := indexPhase p
  if taps = 1 then [(clampIndex n (if 32 ≤ ph then i + 1 else i), 1024)]
  else (List.range taps).map fun (k : Nat) => (clampIndex n (i - (((taps - 1) / 2 : Nat) : Int) + (k : Int)), bank taps ph k)

/-- R254: the stored pixels that a horizontal position reads. -/
def hTaps (bank : Bank) (n : Nat) (p : Int) : List (Nat × Int) :=
  let (i, ph) := indexPhase p
  (List.range 8).map fun (k : Nat) => (clampIndex n (i - 3 + (k : Int)), bank 8 ph k)

/-- A plane of stored lines, by index. -/
abbrev Plane := List (Nat × List Px)

/-- A stored line of a plane. -/
def Plane.line (p : Plane) (i : Nat) : List Px := ((p.find? fun e => e.1 == i).map (·.2)).getD []

/-- R251: the vertical pass for one destination row over `cols` columns; one tap passes the line unchanged. -/
def vPass (float : Bool) (bank : Bank) (taps : Nat) (pl : Plane) (cols n : Nat) (p : Int) : List Px :=
  let ts := vTaps bank taps n p
  if taps = 1 then (pl.line ((ts.map (·.1)).headD 0)).take cols
  else (List.range cols).map fun x => filterPx float (ts.map fun e => (e.2, (pl.line e.1).getD x default))

/-- R251: the horizontal pass for one destination pixel; `row` holds stored pixels from `lo` on, of `n` in the layer. -/
def hPass (float : Bool) (bank : Bank) (row : List Px) (lo n : Nat) (p : Int) : Px :=
  filterPx float ((hTaps bank n p).map fun e => (e.2, row.getD (e.1 - lo) default))

/-! ### Colour in -/

/-- R272: oy, ky, oc, kc of a depth and range. -/
def rangeRow (depth : Nat) (limited : Bool) : Int × Int × Int × Int :=
  if depth = 8 then (if limited then (4112, 19077, 32896, 18651) else (0, 16384, 32896, 16384))
  else if depth = 10 then (if limited then (4100, 19133, 32800, 18706) else (0, 16384, 32800, 16384))
  else (if limited then (4096, 19152, 32768, 18724) else (0, 16384, 32768, 16384))

/-- R272: m_rcr, m_gcb, m_gcr, m_bcb of BT.601 (1), BT.709 (2) and BT.2020 (3). -/
def inMatrix (m : Nat) : Int × Int × Int × Int :=
  if m = 1 then (22970, -5638, -11700, 29032) else if m = 2 then (25802, -3069, -7670, 30402) else (24160, -2696, -9361, 30825)

/-- Rounded to 1/16,384 and shifted. -/
def q14 (i : Int) : Int := asr (i + 8192) 14

/-- R280: row `j` of a kind 1 table applied to three values, before its clamp. -/
def matrixRow (b : List Byte) (x : Int × Int × Int) (j : Nat) : Int :=
  let m := fun i => signed 32 (u b (16 + 4 * i) 4)
  q14 (m (3 * j) * x.1 + m (3 * j + 1) * x.2.1 + m (3 * j + 2) * x.2.2) + m (9 + j)

/-- R280: a kind 1 table applied to three values. -/
def matrixTable (b : List Byte) (x : Int × Int × Int) : Nat × Nat × Nat :=
  let row := fun j => clampTo 1048575 (matrixRow b x j)
  (row 0, row 1, row 2)

/-- R272: stage 2, 16-bit R'G'B' from the scaler's output. `table` is the image of matrix 5. -/
def stage2 (f : Fmt) (w : Llw) (table : Option (List Byte)) (p : Px) : Nat × Nat × Nat :=
  let code := if w.matrix = 5 ∧ table.isNone then 0 else w.matrix
  let limited := if f.ycc && code == 0 then true else w.limited
  let (oy, ky, oc, kc) := rangeRow f.depth limited
  let cut := fun (t : Nat × Nat × Nat) => (min 65535 t.1, min 65535 t.2.1, min 65535 t.2.2)
  if f.ycc then
    let y1 := q14 ((p.a - oy) * ky)
    let cb := q14 ((p.b - oc) * kc)
    let cr := q14 ((p.c - oc) * kc)
    if code = 5 then cut (matrixTable (table.getD []) (y1, cb, cr))
    else if code = 4 then (clampTo 65535 y1, clampTo 65535 cb, clampTo 65535 cr)
    else
      let (rcr, gcb, gcr, bcb) := inMatrix (if code = 0 then 2 else code)
      (clampTo 65535 (y1 + q14 (rcr * cr)), clampTo 65535 (y1 + q14 (gcb * cb + gcr * cr)), clampTo 65535 (y1 + q14 (bcb * cb)))
  else
    let e := fun (v : Nat) => if limited then clampTo 65535 (q14 ((v - oy) * ky)) else v
    let t := (e p.a, e p.b, e p.c)
    if code = 5 then cut (matrixTable (table.getD []) ((t.1 : Int), (t.2.1 : Int), (t.2.2 : Int))) else t

/-- R273: reading a degamma table. -/
def readDegamma (e : Nat → Nat) (v : Nat) : Nat := (e (v / 64) * (64 - v % 64) + e (v / 64 + 1) * (v % 64) + 32) / 64

/-- R273: stage 3 for component `j`. -/
def stage3 (code : Nat) (table : Option (List Byte)) (j v : Nat) : Nat :=
  if code = 0 then v
  else if code = 4 then
    match table with
    | some b => readDegamma (fun k => u b (16 + 4 * (1025 * j + k)) 4) v
    | none => v
  else if code ≤ 3 then readDegamma (degammaRom code) v
  else v

/-- R271: a product with an alpha. -/
def mul16 (c a : Nat) : Nat := (c * a + 32767) / 65535

/-- R274: min(65,535, (v × 65,535 + a / 2) / a), or 0. -/
def unmul (v a : Nat) : Nat := if a = 0 then 0 else min 65535 ((v * 65535 + a / 2) / a)

/-- R274: a pixel lies within the slot's key; an ARGB16F component is compared as its 16 bits stand (DEDUCED, log 18). -/
def keyed (w : Llw) (p : Px) : Bool :=
  let inside := fun (lo v : Nat) => decide (bitsOf lo 8 w.keyLo.toNat * 257 ≤ v) && decide (v ≤ bitsOf lo 8 w.keyHi.toNat * 257)
  w.keyEn && inside 16 p.a && inside 8 p.b && inside 0 p.c

/-- What a layer takes from the tables and the output: whether the space is linear, and the tables its window names. -/
structure LayerCtx where
  linear : Bool
  bulletin : Bool
  matrix : Option (List Byte)
  degamma : Option (List Byte)

/-- R275: a colour without a surface, straight ARGB8888, through stages 3 and 5. -/
def flatPx (ctx : LayerCtx) (w : Llw) (argb al16 : Nat) : Px :=
  let ga := if ctx.bulletin then 65535 else w.ga
  let deg := fun j v => if ctx.linear then stage3 w.degamma ctx.degamma j v else v
  let a := mul16 al16 ga
  ⟨mul16 (deg 0 (bitsOf 16 8 argb * 257)) a, mul16 (deg 1 (bitsOf 8 8 argb * 257)) a, mul16 (deg 2 (bitsOf 0 8 argb * 257)) a, a⟩

/-- R272: a binary16 component in working units. -/
def floatWork (top v : Nat) : Nat :=
  let d := f16 v
  if 65535 * top / 100 < d.scaled 65535 then roundDiv (65535 * top) 100 else d.scaled 65535

/-- R270 stages 2–5: a scaled pixel as premultiplied working colour; the second component tells whether it was keyed.
A premultiplied ARGB16F source stays premultiplied on a linear-space output, since it skips stage 3 (DEDUCED, log 18). -/
def layerPx (ctx : LayerCtx) (f : Fmt) (w : Llw) (p : Px) : Px × Bool :=
  let ga := if ctx.bulletin then 65535 else w.ga
  if f.code = 0x01 then (flatPx ctx w w.fill.toNat p.al, false)
  else if !ctx.bulletin && keyed w p then (⟨0, 0, 0, 0⟩, true)
  else
    let float := f.code == 0x40
    let src := if f.alpha then (if float then floatWork 100 p.al else p.al) else 65535
    let a := mul16 src ga
    let (r, g, b) := if float then (floatWork 1599 p.a, floatWork 1599 p.b, floatWork 1599 p.c) else stage2 f w ctx.matrix p
    let pre := w.premult
    let deg := fun j v =>
      let v := if pre && ctx.linear && !float then unmul v src else v
      if ctx.linear && !float then stage3 w.degamma ctx.degamma j v else v
    let straight := !pre || (ctx.linear && !float)
    let out := fun j v => if straight then mul16 (deg j v) a else mul16 v ga
    (⟨out 0 r, out 1 g, out 2 b, a⟩, false)

/-! ### Blending -/

/-- R276: lays a layer pixel over a destination; the second component counts the components clamped. -/
def blendPx (mode : Nat) (l d : Px) : Px × Nat :=
  let inv := 65535 - l.al
  let col := fun c C =>
    if mode = 0 then c + mul16 C inv
    else if mode = 1 then c + C
    else if mode = 2 then mul16 c (min 65535 C) + mul16 c (65535 - d.al) + mul16 C inv
    else c
  let al := if mode = 1 then l.al + d.al else if mode = 3 then l.al else l.al + mul16 d.al inv
  let a := col l.a d.a
  let b := col l.b d.b
  let c := col l.c d.c
  (⟨min 1048575 a, min 1048575 b, min 1048575 c, min 65535 al⟩,
    b2n (decide (1048575 < a)) + b2n (decide (1048575 < b)) + b2n (decide (1048575 < c)) + b2n (decide (65535 < al)))

/-! ### Colour out -/

/-- The tables an output state names, when they are there (R288). -/
structure OutCtx where
  matrix : Option (List Byte)
  regamma : Option (List Byte)
  lut : Option (List Byte)

/-- R281: reading a regamma table. -/
def readRegamma (e : Nat → Nat) (v : Nat) : Nat := (e (v / 16) * (16 - v % 16) + e (v / 16 + 1) * (v % 16) + 8) / 16

/-- R281: stage 8 for component `j`. -/
def stage8 (o : OutColour) (ctx : OutCtx) (j v : Nat) : Nat :=
  let v := min 65535 v
  if o.space = 0 ∨ o.regamma = 0 then v
  else if o.regamma = 4 then
    match ctx.regamma with
    | some b => readRegamma (fun k => u b (16 + 2 * (4097 * j + k)) 2) v
    | none => v
  else readRegamma (regammaRom o.regamma) v

/-- R282: stage 9, component `j` of the tetrahedral interpolation. -/
def stage9 (b : List Byte) (r g bl j : Nat) : Nat :=
  let c := fun x y z => (u b (16 + 8 * ((((bl / 4096 + z) * 17) + (g / 4096 + y)) * 17 + (r / 4096 + x)) + 2 * j) 2 : Int)
  let fr := r % 4096
  let fg := g % 4096
  let fb := bl % 4096
  let base := 4096 * c 0 0 0
  let acc : Int :=
    if fg ≤ fr ∧ fb ≤ fg then base + fr * (c 1 0 0 - c 0 0 0) + fg * (c 1 1 0 - c 1 0 0) + fb * (c 1 1 1 - c 1 1 0)
    else if fb ≤ fr ∧ fg ≤ fb then base + fr * (c 1 0 0 - c 0 0 0) + fb * (c 1 0 1 - c 1 0 0) + fg * (c 1 1 1 - c 1 0 1)
    else if fr ≤ fb ∧ fg ≤ fr then base + fb * (c 0 0 1 - c 0 0 0) + fr * (c 1 0 1 - c 0 0 1) + fg * (c 1 1 1 - c 1 0 1)
    else if fr ≤ fg ∧ fb ≤ fr then base + fg * (c 0 1 0 - c 0 0 0) + fr * (c 1 1 0 - c 0 1 0) + fb * (c 1 1 1 - c 1 1 0)
    else if fb ≤ fg ∧ fr ≤ fb then base + fg * (c 0 1 0 - c 0 0 0) + fb * (c 0 1 1 - c 0 1 0) + fr * (c 1 1 1 - c 0 1 1)
    else base + fb * (c 0 0 1 - c 0 0 0) + fg * (c 0 1 1 - c 0 0 1) + fr * (c 1 1 1 - c 0 1 1)
  clampTo 65535 (asr (acc + 2048) 12)

/-- R271: components that stage 7 clamps. -/
def outClamps (o : OutColour) (ctx : OutCtx) (p : Px) : Nat :=
  match ctx.matrix with
  | some m => if o.matrix = 0xFF then 0 else ((List.range 3).filter fun j =>
      let v := matrixRow m ((p.a : Int), (p.b : Int), (p.c : Int)) j; decide (v < 0) || decide (1048575 < v)).length
  | none => 0

/-- R270 stages 7–9. -/
def outPx (o : OutColour) (ctx : OutCtx) (p : Px) : Px :=
  let (r, g, b) := match ctx.matrix with
    | some m => if o.matrix = 0xFF then (p.a, p.b, p.c) else matrixTable m ((p.a : Int), (p.b : Int), (p.c : Int))
    | none => (p.a, p.b, p.c)
  let r := stage8 o ctx 0 r
  let g := stage8 o ctx 1 g
  let b := stage8 o ctx 2 b
  match ctx.lut with
  | some t => if o.lut = 0xFF then ⟨r, g, b, p.al⟩ else ⟨stage9 t r g b 0, stage9 t r g b 1, stage9 t r g b 2, p.al⟩
  | none => ⟨r, g, b, p.al⟩

/-- R284: the encoding matrix, m = 1 BT.709, 2 BT.601, 3 BT.2020. -/
def outMatrix (m : Nat) : (Int × Int × Int) × (Int × Int × Int) × (Int × Int × Int) :=
  if m = 1 then ((3483, 11718, 1183), (-1877, -6315, 8192), (8192, -7441, -751))
  else if m = 2 then ((4899, 9617, 1868), (-2765, -5427, 8192), (8192, -6860, -1332))
  else ((4304, 11108, 972), (-2288, -5904, 8192), (8192, -7533, -659))

/-- R284: 16-bit Y, Cb and Cr of a pixel. -/
def toYcc (m : Nat) (p : Px) : Px :=
  let (ky, kb, kr) := outMatrix m
  let s := fun (k : Int × Int × Int) => q14 (k.1 * p.a + k.2.1 * p.b + k.2.2 * p.c)
  ⟨clampTo 65535 (s ky), clampTo 65535 (s kb + 32768), clampTo 65535 (s kr + 32768), p.al⟩

/-- R285: the dither matrix. -/
def ditherT (x y : Nat) : Nat := [0, 8, 2, 10, 12, 4, 14, 6, 3, 11, 1, 9, 15, 7, 13, 5].getD (4 * (y % 4) + x % 4) 0

/-- R285: d of a pixel. -/
def ditherD (mode n x y : Nat) : Nat :=
  if mode = 0 then 32767
  else if mode = 1 then (2 * ditherT x y + 1) * 2048
  else (2 * ((ditherT x y + 5 * (n % 4)) % 16) + 1) * 2048

/-- R285: code = o + (w × s + d) / 65,535. -/
def quantise (o s d w : Nat) : Nat := o + (w * s + d) / 65535

/-- R285: o and s of a component: `chroma` for Cb and Cr. -/
def quantRow (limited chroma : Bool) (b : Nat) : Nat × Nat :=
  if limited then (16 * 2 ^ (b - 8), (if chroma then 224 else 219) * 2 ^ (b - 8)) else (0, 2 ^ b - 1)

/-- R284: the mean of some samples. -/
def meanOf (xs : List Nat) : Nat := (xs.sum + xs.length / 2) / max 1 xs.length

/-- R270 stages 10 and 11: the codes of a strip whose first line is output line `y0`, from stage 9 pixels. -/
def encodeStrip (enc : Nat) (o : OutColour) (n y0 : Nat) (rows : List (List Px)) : Strip :=
  let bits := encBits enc
  let d := fun x y => ditherD o.dither n x (y0 + y)
  let grid := fun (f : Px → Nat) (q : Nat × Nat) =>
    rows.zipIdx.map fun l => l.1.zipIdx.map fun p => quantise q.1 q.2 (d p.2 l.2) (f p.1)
  let alpha := rows.map fun l => l.map (·.al)
  if encChroma enc = 0 then
    let q := quantRow (enc % 2 == 1) false bits
    { a := grid (·.a) q, b := grid (·.b) q, c := grid (·.c) q, alpha := alpha }
  else
    let ycc := rows.map fun l => l.map (toYcc (enc / 16))
    let qy := quantRow true false bits
    let qc := quantRow true true bits
    let full := fun (f : Px → Nat) (q : Nat × Nat) =>
      ycc.zipIdx.map fun l => l.1.zipIdx.map fun p => quantise q.1 q.2 (d p.2 l.2) (f p.1)
    let sub := fun (f : Px → Nat) (v : Nat) =>
      (List.range (ceilDiv ycc.length v)).map fun j =>
        let ls := (ycc.drop (v * j)).take v
        (List.range (ceilDiv ((ls.map List.length).foldl max 0) 2)).map fun k =>
          quantise qc.1 qc.2 (d (2 * k) (v * j)) (meanOf (ls.flatMap fun l => ((l.drop (2 * k)).take 2).map f))
    let chroma := fun f => if encChroma enc = 1 then full f qc else sub f (if encChroma enc = 2 then 1 else 2)
    { a := full (·.a) qy, b := chroma (·.b), c := chroma (·.c), alpha := alpha }

end Sys2Proof.Machine
end

