-- ==== Sys2Proof/Machine/Compose.lean ====
section
/-! DEFINITION. A layer's geometry in a frame, the reads it needs, and the composition of a strip from what staging
holds (R225–R244, R251–R265, R270–R285, R409). -/

namespace Sys2Proof.Machine

/-- Distinct elements, ascending. -/
def sortedDistinct (l : List Nat) : List Nat := (sortBy (fun a b => decide (a ≤ b)) l).eraseDups

/-- The lowest-numbered lists of given lengths that a list splits into. -/
def regroup {α : Type} : List Nat → List α → List (List α)
  | [], _ => []
  | n :: ns, l => l.take n :: regroup ns (l.drop n)

/-! ### Banks -/

/-- R256, R258: the ROM bank whose band holds a ratio. -/
def romBank (r : Nat) : Nat := if 256 ≤ r then 0 else if 128 ≤ r then 1 else 2

/-- R257: flags, band minimum and band maximum of a bank image. -/
def bankBand (b : List Byte) : Nat × Nat × Nat := (u b 5 1, u b 6 2, u b 8 2)

/-- R259: what bank `n` holds for a truss in store slot `k`: none when empty or failed; ROM banks have no image. Banks loaded by command belong to
the running truss. -/
def State.bankImage (s : State) (k n : Nat) : Option (Option (List Byte)) :=
  if n < 4 then some none
  else if tabGet s.seq.bankFailed (32 * k + n) then none
  else
    match (s.trussIn k).banks.find? fun e => e.1 == n with
    | some e => some (some e.2)
    | none => if k + 1 = s.seq.running then (s.seq.banks.find? fun e => e.1 == n).map fun e => some e.2 else none

/-- R258: the bank that auto mode takes. -/
def State.autoBank (s : State) (k dst stored : Nat) : Nat :=
  let r := 256 * dst / max 1 stored
  let fits := fun n => match s.bankImage k n with
    | some (some b) => let x := bankBand b; bitOf 0 x.1 && decide (x.2.1 ≤ r) && decide (r ≤ x.2.2)
    | _ => false
  (((List.range 28).map (· + 4)).find? fits).getD (romBank r)

/-- R258, R260: the bank an axis uses: the slot's own when it is there, else auto. -/
def State.bankOf (s : State) (k setting dst stored : Nat) : Nat :=
  if setting = 0xFF ∨ (s.bankImage k setting).isNone then s.autoBank k dst stored else setting

/-- The coefficients of bank `n`. -/
def State.bankCoef (s : State) (k n : Nat) : Bank := coef n ((s.bankImage k n).getD none)

/-! ### Geometry -/

/-- A layer in a frame: what it reads and how it is scaled. -/
structure Geo where
  w : Llw := {}
  fmt : Fmt := {code := 0, box := 1, bytes := 1}
  cell : Bool := false
  map : Surface := {}
  atlas : Surface := {}
  base : Nat := 0
  stride : Nat := 0
  plane1 : Nat := 0
  host : Option Nat := none
  src : Rect := {}
  d : Nat := 1
  ws : Nat := 0
  hs : Nat := 0
  taps : Nat := 6
  sh : Nat := 0
  sv : Nat := 0
  /-- R264: per stripe, first and end destination column, first and end stored column. -/
  stripes : List (Nat × Nat × Nat × Nat) := []
  deriving Inhabited

/-- R262: taps for a stored width. -/
def tapsFor (w : Nat) : Nat := min 6 (24576 / max 1 w)

/-- R264: the stripes of a layer. -/
def stripesOf (n ws dw hphase : Nat) : List (Nat × Nat × Nat × Nat) :=
  if n ≤ 1 then [(0, dw, 0, ws)]
  else
    let p := fun x => scalePos ws dw hphase x
    let d := fun s => s * dw / n
    let c := fun s => if s = n then asr (p (dw - 1)) 16 + 1 else asr (p (d s)) 16
    (List.range n).map fun s => (d s, d (s + 1), (c s - 7).toNat, min ws (c (s + 1) + 7).toNat)

/-- R262, R263: the widest stripe. -/
def stripeWidth (l : List (Nat × Nat × Nat × Nat)) : Nat := (l.map fun e => e.2.2.2 - e.2.2.1).foldl max 0

/-- R263: a window whose stored width exceeds the line buffer. -/
def wideWindow (e : TSlot) (w : Llw) : Bool :=
  e.type != 2 && decide (24576 < stripeWidth (stripesOf (if bitOf 1 e.flags then e.stripes else 1) (ceilDiv w.src.w w.dec) w.dst.w
    (bitsOf 0 6 w.phase.toNat)))

/-- R206: the window that a slot shows in the current frame. -/
def SlotSt.shownWindow (c : SlotSt) : Llw := c.held.getD c.active

/-- R262, R263: the widest stripe of a layer. -/
def Geo.width (g : Geo) : Nat := stripeWidth g.stripes

/-- R250: the copy of a map that a frame of group `g` shows: the other one where a cell write falls due at the next sill. -/
def State.copyFor (s : State) (g handle : Nat) (ahead : Bool) : Nat :=
  let due := ahead && s.seq.deferred.any fun x => x.group == g && x.wait == 0 &&
    (match x.op with | .cells _ h _ _ _ => h == handle | .fill _ h _ _ _ _ => h == handle | .lay _ h _ _ => h == handle | _ => false)
  let c := (s.surf handle).copy
  if due then 1 - c else c

/-- R222: bytes of one copy of a surface. -/
def Surface.bytes (x : Surface) : Nat :=
  match fmtOf x.format with | some f => surfBytes f x.height x.stride x.plane1 | none => 0

/-- The geometry of slot entry `e` showing window `w` from source `base`, of a format, size and layout given. -/
def geoFrom (s : State) (e : TSlot) (w : Llw) (f : Fmt) (base stride plane1 : Nat) (host : Option Nat) (src : Rect) : Geo :=
  let scl := (s.slot e.slot).scl
  let d := w.dec
  let ws := ceilDiv src.w d
  let n := if bitOf 1 e.flags then e.stripes else 1
  let g : Geo := { w := w, fmt := f, base := base, stride := stride, plane1 := plane1, host := host, src := src, d := d,
                   ws := ws, hs := ceilDiv src.h d, sh := if scl.sh = 2 then 0 else scl.sh,
                   sv := if scl.sv = 2 then b2n f.subV else scl.sv,
                   stripes := stripesOf n ws w.dst.w (bitsOf 0 6 w.phase.toNat) }
  { g with taps := tapsFor g.width }

/-- R225–R228: the geometry of slot entry `e` with window `w` in a frame; `buffer` is the address of the ingest buffer, plus one. -/
def State.geo (s : State) (t : Truss) (g : Nat) (e : TSlot) (w : Llw) (buffer : Nat) (ahead : Bool) : Geo :=
  if e.type = 1 then
    let map := s.surf w.surfaceHandle
    let atlas := s.surf w.atlasHandle
    let f : Fmt := { code := 0x20, box := 4, bytes := 4, alpha := true }
    let host := if map.flags.getLsbD 0 then some map.owner else none
    { geoFrom s e w f (map.addr + s.copyFor g w.surfaceHandle ahead * map.bytes) map.stride 0 host w.src with
      cell := true, map := map, atlas := atlas }
  else if e.type = 3 then
    match t.binding 1 e.source with
    | none => {}
    | some b =>
      let code := (encFormat b.enc).getD 0
      let f := (fmtOf code).getD default
      let r := ringBuffer code b.width b.height
      geoFrom s e w f (buffer - 1) r.1 r.2.1 none w.src
  else
    let x := s.surf w.surfaceHandle
    geoFrom s e w ((fmtOf x.format).getD default) x.addr x.stride x.plane1 (if x.flags.getLsbD 0 then some x.owner else none) w.src

/-- R409: the geometry of a slot that shows a pattern surface, its whole area as source. -/
def State.patternGeo (s : State) (e : TSlot) (w : Llw) (h : Nat) : Geo :=
  let x := s.surf h
  geoFrom s e w ((fmtOf x.format).getD default) x.addr x.stride x.plane1 none ⟨0, 0, x.width, x.height⟩

/-- The destination rows of a layer that a strip composes, counted from the top of its rectangle. -/
def stripRows (o : TOutput) (strip : Nat) (r : Rect) : List Nat :=
  let lo := strip * o.strip
  let hi := min o.height (lo + o.strip)
  ((List.range (hi - lo)).map (· + lo)).filterMap fun y => if r.y ≤ y ∧ y < r.y + r.h then some (y - r.y) else none

/-- R253: vertical position of a destination row. -/
def Geo.vPos (g : Geo) (y : Nat) : Int := scalePos g.hs g.w.dst.h (bitsOf 8 6 g.w.phase.toNat) y

/-- R255: vertical position in chroma lines. -/
def Geo.vPosC (g : Geo) (y : Nat) : Int := if g.fmt.subV then chromaPos (g.vPos y) g.sv else g.vPos y

/-- R255: stored chroma lines. -/
def Geo.hsC (g : Geo) : Nat := if g.fmt.subV then ceilDiv g.hs 2 else g.hs

/-- R262, R266: the stored lines that some rows need. -/
def Geo.lumaLines (g : Geo) (rows : List Nat) : List Nat :=
  sortedDistinct (rows.flatMap fun y => (vTaps (fun _ _ _ => 0) g.taps g.hs (g.vPos y)).map (·.1))

/-- R255: the stored chroma lines that some rows need; none for a format without chroma subsampling. -/
def Geo.chromaLines (g : Geo) (rows : List Nat) : List Nat :=
  if g.fmt.subH then sortedDistinct (rows.flatMap fun y => (vTaps (fun _ _ _ => 0) g.taps g.hsC (g.vPosC y)).map (·.1)) else []

/-- R238: the source lines behind a stored line. -/
def sourceLines (d n l : Nat) : List Nat := ((List.range d).map (· + l * d)).filter (· < n)

/-- Source lines of chroma, counted from the source rectangle. -/
def Geo.srcC (g : Geo) : Nat := if g.fmt.subV then ceilDiv g.src.h 2 else g.src.h

/-- Stored chroma columns that a stripe reads (log 17). -/
def Geo.chromaCols (g : Geo) (lo hi : Nat) : Nat × Nat :=
  if g.stripes.length ≤ 1 then (0, ceilDiv g.ws 2) else (lo / 2 - 4, min (ceilDiv g.ws 2) (ceilDiv hi 2 + 4))

/-! ### Reads -/

/-- The 64-byte lines that cover a range of bytes. -/
def linesOver (a n : Nat) : List Nat := if n = 0 then [] else (List.range ((a + n - 1) / 64 + 1 - a / 64)).map fun i => (a / 64 + i) * 64

/-- R233: reads of a plane-0 line. -/
def Geo.read0 (g : Geo) (lo hi y : Nat) : List Nat :=
  let x0 := g.src.x + lo * g.d
  let x1 := g.src.x + min g.src.w (hi * g.d)
  let q := if g.fmt.code = 0x30 then (x0 / 2 * 2, upTo 2 x1) else (x0, x1)
  linesOver (g.base + (g.src.y + y) * g.stride + q.1 * g.fmt.bytes) ((q.2 - q.1) * g.fmt.bytes)

/-- R233: reads of a plane-1 line; YUYV carries its chroma in plane 0. -/
def Geo.read1 (g : Geo) (lo hi c : Nat) : List Nat :=
  let y := (if g.fmt.subV then g.src.y / 2 else g.src.y) + c
  let x0 := g.src.x / 2 + lo * g.d
  let x1 := g.src.x / 2 + min (ceilDiv g.src.w 2) (hi * g.d)
  if g.fmt.code = 0x30 then linesOver (g.base + y * g.stride + 4 * x0) (4 * (x1 - x0))
  else linesOver (g.base + g.plane1 + y * g.stride + x0 * g.fmt.plane1) ((x1 - x0) * g.fmt.plane1)

/-- R233: the reads of one stripe of a direct or ingest-linked layer, in order, each 64-byte line once. -/
def Geo.directReads (g : Geo) (stripe : Nat) (rows : List Nat) : List Nat :=
  let e := g.stripes.getD stripe (0, 0, 0, 0)
  let cc := g.chromaCols e.2.2.1 e.2.2.2
  let ys := (g.lumaLines rows).flatMap (sourceLines g.d g.src.h)
  let cs := (g.chromaLines rows).flatMap (sourceLines g.d g.srcC)
  let v := if g.fmt.subV then 2 else 1
  let r := ys.foldl (fun (acc : List Nat × List Nat) y =>
    let now := acc.2.filter (· ≤ y / v)
    (acc.1 ++ g.read0 e.2.2.1 e.2.2.2 y ++ now.flatMap (g.read1 cc.1 cc.2), acc.2.filter (¬ · ≤ y / v))) ([], cs)
  (r.1 ++ r.2.flatMap (g.read1 cc.1 cc.2)).eraseDups

/-- R224: bytes of a map element. -/
def mapBytes (code : Nat) : Nat := if code = 0x50 then 2 else 4

/-- The first and last cell column of a layer's source rectangle. -/
def Geo.cellCols (g : Geo) : Nat × Nat :=
  (g.src.x / max 1 g.w.cellW, (g.src.x + g.src.w - 1) / max 1 g.w.cellW)

/-- Lines of the expanded grid that some rows need. -/
def Geo.gridLines (g : Geo) (rows : List Nat) : List Nat :=
  ((g.lumaLines rows).flatMap (sourceLines g.d g.src.h)).map (· + g.src.y)

/-- R236: the map reads of a cell-map layer. -/
def Geo.mapReads (g : Geo) (rows : List Nat) : List Nat :=
  let c := g.cellCols
  let n := mapBytes g.map.format
  ((sortedDistinct ((g.gridLines rows).map (· / max 1 g.w.cellH))).flatMap fun r =>
    linesOver (g.base + r * g.stride + c.1 * n) ((c.2 + 1 - c.1) * n)).eraseDups

/-- R236: the atlas reads that the map entries in the 64 bytes at `line` name. -/
def Geo.glyphReads (g : Geo) (rows : List Nat) (line : Nat) (data : List Byte) : List Nat :=
  let n := mapBytes g.map.format
  let c := g.cellCols
  let ls := g.gridLines rows
  let ab := ((fmtOf g.atlas.format).getD default).bytes
  let cells := (sortedDistinct (ls.map (· / max 1 g.w.cellH))).flatMap fun r =>
    ((List.range (c.2 + 1 - c.1)).map (· + c.1)).filterMap fun k =>
      let a := g.base + r * g.stride + k * n
      if line ≤ a ∧ a + n ≤ line + 64 then some (r, leNat ((data.drop (a - line)).take n)) else none
  (cells.flatMap fun e =>
    let x := cellFields g.map.format e.2
    if x.2.2.2 || decide (atlasGlyphs g.w g.atlas ≤ x.1) then []
    else
      (ls.filter fun y => y / max 1 g.w.cellH == e.1).flatMap fun y =>
        let ay := x.1 / max 1 g.w.perRow * g.w.cellH + y % max 1 g.w.cellH
        linesOver (g.atlas.addr + ay * g.atlas.stride + x.1 % max 1 g.w.perRow * g.w.cellW * ab) (g.w.cellW * ab)).eraseDups

/-! ### Fills -/

/-- R275: LLW_FILL as a pixel of the source's own format; with the identity matrix a YCbCr source takes BT.709 (DESIGN CHOICE, log 18). -/
def fillPx (f : Fmt) (w : Llw) : Px :=
  let c := w.fill.toNat
  let v := fun lo => bitsOf lo 8 c
  let bits := fmtBits f.code
  if f.code = 0x40 then
    let x := fun n => (Dy.mk ((n * 2 ^ 40 / 255 : Nat) : Int) (-40)).to16.bits16
    ⟨x (v 16), x (v 8), x (v 0), x (v 24)⟩
  else if f.code = 0x01 then ⟨0, 0, 0, v 24⟩
  else if f.ycc then
    let m := if w.matrix = 1 then 2 else if w.matrix = 3 then 3 else 1
    let p := toYcc m ⟨v 16 * 257, v 8 * 257, v 0 * 257, 0⟩
    let limited := w.matrix == 0 || w.limited
    let b := if f.depth = 10 then 10 else 8
    let q := fun chroma x => let r := quantRow limited chroma b; quantise r.1 r.2 x 32767
    ⟨q false p.a, q true p.b, q true p.c, if bits.2.2.2 = 0 then 0 else quantise 0 (2 ^ bits.2.2.2 - 1) (v 24 * 257) 32767⟩
  else
    let q := fun n x => if n = 0 then 0 else quantise 0 (2 ^ n - 1) (x * 257) 32767
    ⟨q bits.1 (v 16), q bits.2.1 (v 8), q bits.2.2.1 (v 0), q bits.2.2.2 (v 24)⟩

/-! ### Layers -/

/-- The scaled pixels of a layer of a strip, and what came about on the way. -/
structure LayerOut where
  /-- Rows: destination row and its pixels, left to right. -/
  rows : List (Nat × List Px) := []
  /-- R244: spans patched by repeat and by fill, and poisoned ones among them. -/
  byRepeat : Nat := 0
  byFill : Nat := 0
  poisoned : Nat := 0
  /-- R247: cells expanded and glyphs out of range. -/
  cells : Nat := 0
  badGlyphs : Nat := 0
  /-- R268: stored pixels taken in. -/
  taken : Nat := 0
  /-- R247: lines delivered after pre-decimation. -/
  decimated : Nat := 0
  /-- R266: intake in tokens. -/
  intake : Nat := 0
  deriving Inhabited

/-- The distinct 64-byte lines of a source line whose pixels `p` names. -/
def badLines (p : Got → Bool) (l : List (Nat × Got)) : List Nat := ((l.filter fun e => p e.2).map (·.1)).eraseDups

/-- R261: stored pixels widened to 16 bits; `chroma` for a chroma plane. -/
def widenPx (f : Fmt) (chroma : Bool) (p : Px) : Px :=
  if f.code = 0x40 then p
  else
    let b := fmtBits f.code
    if f.ycc && chroma then ⟨widen (if f.depth = 10 then 10 else 8) p.a, widen (if f.depth = 10 then 10 else 8) p.b, 0, 0⟩
    else ⟨widen b.1 p.a, widen b.2.1 p.b, widen b.2.2.1 p.c, widen b.2.2.2 p.al⟩

/-- One plane of one stripe: source lines patched, decimated and widened. Answers the plane, the spans patched by repeat
and by fill, and the poisoned ones. -/
def planeOf (g : Geo) (st : Staged) (chroma : Bool) (lines : List Nat) (n : Nat) (got : Nat → List (Nat × Got)) :
    Plane × Nat × Nat × Nat :=
  let groups := lines.map (sourceLines g.d n)
  let raw := (groups.flatMap id).map got
  let rep := !g.w.fetch.getLsbD 2
  let fill := if chroma then (let p := fillPx g.fmt g.w; ⟨p.b, p.c, 0, 0⟩) else fillPx g.fmt g.w
  let px := (patchLines rep fill raw).1
  let bad := raw.flatMap (badLines fun e => match e with | .px _ => false | _ => true)
  let forced := raw.flatMap (badLines fun e => match e with | .fill => true | _ => false)
  let nf := if rep then forced.length else bad.length
  let dec := (regroup (groups.map List.length) px).map fun ls => decLines (g.fmt.code == 0x40) g.d ls
  let rows := dec.map fun ls => (ls.headD []).map (widenPx g.fmt chroma)
  (lines.zip rows, bad.length - nf, nf, (bad.filter fun a => st.poison (64 * a)).length)

/-- R251–R264: a stripe of a layer, scaled. -/
def stripeOut (g : Geo) (st : Staged) (bankH bankV : Bank) (rows : List Nat) (e : Nat × Nat × Nat × Nat) : LayerOut :=
  let float := g.fmt.code == 0x40
  let (d0, d1, lo, hi) := e
  let x0 := lo * g.d
  let x1 := min g.src.w (hi * g.d)
  let luma := g.lumaLines rows
  let got0 := fun y => (List.range (x1 - x0)).map fun i =>
    if g.cell then cellPx st g.w g.map g.atlas g.base (g.src.x + x0 + i) (g.src.y + y)
    else lumaAt st g.fmt g.base g.stride (g.src.x + x0 + i) (g.src.y + y)
  let p0 := planeOf g st false luma g.src.h got0
  let cc := g.chromaCols lo hi
  let cx0 := cc.1 * g.d
  let cx1 := min (ceilDiv g.src.w 2) (cc.2 * g.d)
  let got1 := fun c => (List.range (cx1 - cx0)).map fun i =>
    chromaAt st g.fmt g.base g.stride g.plane1 (g.src.x / 2 + cx0 + i) ((if g.fmt.subV then g.src.y / 2 else g.src.y) + c)
  let p1 := if g.fmt.subH then planeOf g st true (g.chromaLines rows) g.srcC got1 else ([], 0, 0, 0)
  let px := fun x => scalePos g.ws g.w.dst.w (bitsOf 0 6 g.w.phase.toNat) x
  let out := rows.map fun y =>
    let l := vPass float bankV g.taps p0.1 (hi - lo) g.hs (g.vPos y)
    let c := if g.fmt.subH then vPass float bankV g.taps p1.1 (cc.2 - cc.1) g.hsC (g.vPosC y) else []
    (y, ((List.range (d1 - d0)).map (· + d0)).map fun x =>
      let p := hPass float bankH l lo g.ws (px x)
      if g.fmt.subH then
        let q := hPass float bankH c cc.1 (ceilDiv g.ws 2) (chromaPos (px x) g.sh)
        ⟨p.a, q.a, q.b, p.al⟩
      else p)
  let w := hi - lo
  { rows := out, byRepeat := p0.2.1 + p1.2.1, byFill := p0.2.2.1 + p1.2.2.1, poisoned := p0.2.2.2 + p1.2.2.2,
    taken := luma.length * w, decimated := if g.d = 1 then 0 else luma.length, intake := ceilDiv (luma.length * w) 32 }

/-- R230: cells of a strip, and those with a glyph out of range, as far as their entries were read. -/
def cellTally (g : Geo) (st : Staged) (rows : List Nat) : Nat × Nat :=
  if !g.cell then (0, 0)
  else
    let c := g.cellCols
    let n := mapBytes g.map.format
    let es := (sortedDistinct ((g.gridLines rows).map (· / max 1 g.w.cellH))).flatMap fun r =>
      ((List.range (c.2 + 1 - c.1)).map (· + c.1)).filterMap fun k => st.word (g.base + r * g.stride + k * n) n
    (es.length, (es.filter fun e => decide (atlasGlyphs g.w g.atlas ≤ (cellFields g.map.format e).1)).length)

/-- R258, R267: the bank an axis uses on a scaler: the one selected at the sill, or auto selection among banks 0–2 on a scaler whose bank table waits
to be reloaded, or where the bank has failed since. -/
def State.bankOn (s : State) (lane k selected dst stored : Nat) : Nat :=
  if s.seq.scalerRom.getLsbD lane ∨ (s.bankImage k selected).isNone then romBank (256 * dst / max 1 stored) else selected

/-- A whole layer of a strip: its stripes in ascending order (R264), each read from its own entries. -/
def layerOut (s : State) (lane k : Nat) (e : TSlot) (g : Geo) (st : Nat → Staged) (rows : List Nat) : LayerOut :=
  let c := s.slot e.slot
  let bh := s.bankCoef k (s.bankOn lane k c.usedH g.w.dst.w g.ws)
  let bv := s.bankCoef k (s.bankOn lane k c.usedV g.w.dst.h g.hs)
  let parts := g.stripes.zipIdx.map fun x => stripeOut g (st x.2) bh bv rows x.1
  let tally := cellTally g (st 0) rows
  let sum := fun (f : LayerOut → Nat) => (parts.map f).sum
  { rows := rows.map fun y => (y, parts.flatMap fun p => ((p.rows.find? fun r => r.1 == y).map (·.2)).getD []),
    byRepeat := sum (·.byRepeat), byFill := sum (·.byFill), poisoned := sum (·.poisoned), cells := tally.1, badGlyphs := tally.2,
    taken := sum (·.taken), decimated := sum (·.decimated), intake := sum (·.intake) }

/-- R275, R409: a marker colour in the working space, opaque. -/
def markerPx (ctx : LayerCtx) (w : Llw) (argb : Nat) : Px :=
  let deg := fun j v => if ctx.linear then stage3 w.degamma ctx.degamma j v else v
  ⟨deg 0 (bitsOf 16 8 argb * 257), deg 1 (bitsOf 8 8 argb * 257), deg 2 (bitsOf 0 8 argb * 257), 65535⟩

/-! ### The strip -/

/-- The canvas of a strip and the tallies of its composition. -/
structure Canvas where
  rows : List (List Px) := []
  blended : Nat := 0
  bulletin : Nat := 0
  keyed : Nat := 0
  clamped : Nat := 0
  deriving Inhabited

/-- R276: blends one layer's pixels into the canvas. `at'` gives the pixel at a column and line of the strip, and whether it was keyed. -/
def Canvas.layer (c : Canvas) (mode : Nat) (bulletin : Bool) (at' : Nat → Nat → Option (Px × Bool)) : Canvas :=
  let rows := c.rows.zipIdx.map fun r => r.1.zipIdx.map fun p =>
    match at' p.2 r.2 with
    | some (l, key) => let b := blendPx mode l p.1; (b.1, 1, b2n key, b.2)
    | none => (p.1, 0, 0, 0)
  let sum := fun (f : Px × Nat × Nat × Nat → Nat) => (rows.map fun r => (r.map f).sum).sum
  let n := sum (·.2.1)
  { rows := rows.map fun r => r.map (·.1), blended := c.blended + n, bulletin := c.bulletin + (if bulletin then n else 0),
    keyed := c.keyed + sum (·.2.2.1), clamped := c.clamped + sum (·.2.2.2) }

/-- R273, R288: what a layer's window takes from the tables. A failed table leaves matrix 0 or degamma 0 (R292). -/
def State.layerCtx (s : State) (k : Nat) (oc : OutColour) (w : Llw) (bulletin : Bool) : LayerCtx :=
  { linear := oc.space == 1, bulletin := bulletin,
    matrix := if w.matrix = 5 then s.colourTable k w.matrixTable else none,
    degamma := if w.degamma = 4 then s.colourTable k w.degammaTable else none }

/-- What a slot lays into a strip: nothing, one colour over its rectangle, or its scaled layer. -/
inductive Lays where
  | nothing
  | flat (argb : Nat)
  | layer (g : Geo)

/-- R215, R221, R228: a direct or cell-map window names a surface that is there, a cell-map window a grid too. -/
def State.showable (s : State) (e : TSlot) (w : Llw) : Bool :=
  decide (2 ≤ e.type) || ((s.surf w.surfaceHandle).allocated && (e.type == 0 || ((s.surf w.atlasHandle).allocated && w.cellW != 0 && w.cellH != 0)))

/-- R204, R206, R277, R409, R411: what a slot of group `g` lays in the current frame. -/
def State.lays (s : State) (t : Truss) (g : Nat) (e : TSlot) : Lays :=
  let c := s.slot e.slot
  let w := c.shownWindow
  let bulletin := e.pos == 15
  if c.dropped || !w.visible || (bulletin && tabGet s.svc.inForce g == 0) then .nothing
  else if e.type = 2 then .flat w.solid.toNat
  else if !s.showable e w then .nothing
  else
    match c.shown with
    | .omitted => .nothing
    | .filled => .flat c.active.fill.toNat
    | .held => if c.hadSurface then .layer (s.geo t g e w c.buffer false) else .nothing
    | .window =>
      if e.type = 3 then
        match (tabGet s.svc.mosaics e.slot).shows with
        | .pattern h => .layer (s.patternGeo e w h)
        | .fill => .flat w.fill.toNat
        | _ => .layer (s.geo t g e w c.buffer false)
      else .layer (s.geo t g e w c.buffer false)

/-- R244, R247, R268: counts what came about in a layer, and reports poison and glyphs (R241, R230). -/
def State.tallyLayer (g : Nat) (o : TOutput) (e : TSlot) (geo : Geo) (l : LayerOut) (s : State) : State :=
  let n := l.byRepeat + l.byFill
  let s := (((s.countN 69 n).countN 70 l.byRepeat).countN 71 l.byFill).countN 73 l.poisoned
  let s := ((s.countN 78 l.cells).countN 79 l.badGlyphs).countN 80 l.decimated
  let s := (s.count 96).countUnits 97 64 l.taken
  let s := if geo.taps < 6 then s.count 98 else s
  let s := if geo.taps < e.taps then s.count 99 else s
  let s := if 1 < geo.stripes.length then s.countN 101 geo.stripes.length else s
  let s := if ceilDiv (geo.w.dst.w * o.strip) 4 < l.intake then s.count 109 else s
  let first := l.badGlyphs != 0 && !(s.slot e.slot).glyphNow
  let s := s.modSlot e.slot fun c =>
    { c with patched := satAdd c.patched n, patchedNow := satAdd c.patchedNow n, poisoned := satAdd c.poisoned l.poisoned,
             below6 := if geo.taps < 6 then satInc c.below6 else c.below6,
             belowAdm := if geo.taps < e.taps then satInc c.belowAdm else c.belowAdm,
             glyphNow := c.glyphNow || l.badGlyphs != 0, glyphFrames := if first then satInc c.glyphFrames else c.glyphFrames }
  let s := s.modGroup g fun c => { c with patched := satAdd c.patched n }
  let s := if first then s.faultOpen 146 else s
  if l.poisoned = 0 then s else s.faultOpen (if o.kind ≤ 2 ∧ e.type = 1 then 152 else 151)

/-- What staging holds for a slot's stripe of an item. -/
def State.stagedFor (s : State) (g item : Nat) (n : Word) (slot stripe : Nat) : Staged :=
  ⟨(s.seq.issues.filter fun x => x.group == g && x.item == item && x.n == n && x.slot == slot && !x.dropped &&
      (x.stripe == stripe || x.kind == 2)).flatMap (·.reads)⟩

/-- R277: one position of an item. -/
def State.composePos (g k item : Nat) (t : Truss) (i : TItem) (n : Word) (oc : OutColour) (pos : Nat) (acc : Canvas × State) :
    Canvas × State :=
  let s := acc.2
  let o := t.output i.out
  let y0 := i.strip * o.strip
  match (if bitOf pos i.mask then t.slotAt i.out pos else none) with
  | none => acc
  | some e =>
    let w := (s.slot e.slot).shownWindow
    let acc := if (s.slot e.slot).wide && !(stripRows o i.strip w.dst).isEmpty then (acc.1, s.count 100) else acc
    let s := acc.2
    let bulletin := pos == 15
    let ctx := s.layerCtx k oc w bulletin
    let mode := if bulletin then 0 else w.mode
    let inside := fun x y => decide (w.dst.x ≤ x) && decide (x < w.dst.x + w.dst.w) && decide (w.dst.y ≤ y) && decide (y < w.dst.y + w.dst.h)
    match s.lays t g e with
    | .nothing => acc
    | .flat argb =>
      let p := flatPx ctx w argb (bitsOf 24 8 argb * 257)
      (acc.1.layer mode bulletin fun x y => if inside x (y0 + y) then some (p, false) else none, s)
    | .layer geo =>
      let rows := stripRows o i.strip w.dst
      if rows.isEmpty then acc
      else
        let l := layerOut s i.lane k e geo (s.stagedFor g item n e.slot) rows
        let ms := tabGet s.svc.mosaics e.slot
        let marked := e.type == 3 && ms.shows == .marker
        let edge := fun x y => decide (x < ms.set.width) || decide (w.dst.w ≤ x + ms.set.width) || decide (y < ms.set.width) ||
          decide (w.dst.h ≤ y + ms.set.width)
        let pix := fun x y =>
          if inside x (y0 + y) then
            let dx := x - w.dst.x
            let dy := y0 + y - w.dst.y
            if marked && edge dx dy then some (markerPx ctx w ms.set.colour.toNat, false)
            else ((l.rows.find? fun r => r.1 == dy).map (·.2)).bind fun r => (r[dx]?).map (layerPx ctx geo.fmt w)
          else none
        (acc.1.layer mode bulletin pix, s.tallyLayer g o e geo l)

/-- R270: composes the strip of an item from what has landed; answers the strip, whether a span was patched, and the state. -/
def State.compose (g k item : Nat) (t : Truss) (i : TItem) (n : Word) (s : State) : Strip × Bool × State :=
  let o := t.output i.out
  let oc := tabGet s.seq.colour (65536 * k + i.out)
  let bg : Px := ⟨mul16 oc.bgR oc.bgA, mul16 oc.bgG oc.bgA, mul16 oc.bgB oc.bgA, oc.bgA⟩
  let h := min o.strip (o.height - i.strip * o.strip)
  let before := s.group g
  let r := (List.range 16).foldl (fun (acc : Canvas × State) pos => State.composePos g k item t i n oc pos acc)
    ({ rows := List.replicate h (List.replicate o.width bg) }, s)
  let c := r.1
  let s := r.2
  let table := fun (i kind : Nat) => if i ≠ 0xFF ∧ s.tableIs k i kind then s.colourTable k i else none
  let ctx : OutCtx := { matrix := table oc.matrix 1, regamma := table oc.regTable 3, lut := table oc.lut 4 }
  let px := c.rows.map fun l => l.map (outPx oc ctx)
  let late := (c.rows.map fun l => (l.map (outClamps oc ctx)).sum).sum
  let s := (((s.countUnits 32 1024 c.blended).countUnits 38 1024 c.bulletin).countN 33 c.keyed).countN 34 (c.clamped + late)
  (encodeStrip o.enc oc n.toNat (i.strip * o.strip) px, (s.group g).patched != before.patched, s)

end Sys2Proof.Machine
end

