-- ==== Sys2Proof/Machine/Fetch.lean ====
section
/-! DEFINITION. The fetch engine: the window values an entry uses, its reads and their tags, staging, data that lands,
run-ahead and its recomparison (R191, R203, R233–R245). -/

namespace Sys2Proof.Machine

/-! ### The plan of a frame -/

/-- R213: the variant that fences, removals and pace require of a group that enters a truss. -/
def State.wantNew (s : State) : Nat :=
  let c := s.covered.filter fun x => s.fenced x || s.removedPorts.contains x || (decide (57 ≤ x) && (s.eth (x - 57)).lost)
  match c with
  | [] => if s.paceReduced then 1 else s.seq.forced.getD 0
  | x :: _ => lossVariant x

/-- R212, R213: store slot and variant of a group's next frame. -/
def State.nextPlan (s : State) (g : Nat) : Nat × Nat :=
  let c := s.group g
  let stay := (c.store - 1, match c.variantNext with | (v, 0) :: _ => v | _ => c.variant)
  match c.switchTo with
  | some (k, t) => if k < 16 ∧ t ≤ c.nextAt then (k, s.runnable (k + 1) s.wantNew) else stay
  | none => stay

/-- R169: grains from an item's sill to its start. -/
def Truss.startOffset (t : Truss) (i : TItem) : Nat :=
  let g := t.itemSill i
  if i.start < g then i.start + t.h - g else i.start - g

/-! ### Window values -/

/-- R204: what a slot that is not ready shows. -/
def policyShown (w : Llw) : Shown := if w.policy = 1 then .omitted else if w.policy = 2 then .filled else .held

/-- R206: a window too wide for the line buffer gives way to the window shown before, under the policy. -/
def widthChecked (c : SlotSt) (e : TSlot) (r : Llw × Bool × Shown) : Llw × Bool × Shown :=
  if wideWindow e r.1 then (c.shownWindow, r.2.1, policyShown r.1) else r

/-- R203, R239: the window values a slot is due to use in the next frame, whether a new window is held pending, and what it shows. -/
def State.windowDue (s : State) (g : Nat) (e : TSlot) : Llw × Bool × Shown :=
  let c := s.slot e.slot
  let armed := match (s.group g).arm with | some a => a.wait == 0 | none => false
  let stay := (c.active, c.pending.isSome, if c.pending.isSome then policyShown c.active else .window)
  widthChecked c e <|
    if (s.group g).cutoffPassed then
      if c.notReady then (c.active, true, policyShown c.active)
      else if armed then (c.shadow, false, .window)
      else if c.takePending then (c.pending.getD c.active, false, .window)
      else stay
    else if armed then (c.shadow, c.pending.isSome, .window)
    else stay

/-- The slot's window, pending mark and show in the frame that runs. -/
def State.windowNow (s : State) (e : TSlot) : Llw × Bool × Shown :=
  let c := s.slot e.slot
  (c.shownWindow, c.pending.isSome, c.shown)

/-- What a slot reads in a frame: its geometry, when it reads anything. `ahead` for the next frame. -/
def State.fetchGeo (s : State) (k v g : Nat) (e : TSlot) (ahead : Bool) : Option Geo :=
  let t := s.trussIn k
  let c := s.slot e.slot
  let stays := k + 1 == (s.group g).store
  let w := if ahead then (if stays || (c.hadSurface && (s.slotEntry e.slot).isSome) then s.windowDue g e else (Llw.start e, false, .window))
           else s.windowNow e
  let dropped := if ahead then !t.keeps v e else c.dropped
  let hidden := e.pos == 15 && tabGet s.svc.inForce g == 0 && !ahead
  if dropped || hidden || !w.1.visible || e.type == 2 || !s.showable e w.1 then none
  else
    match w.2.2 with
    | .omitted => none
    | .filled => none
    | .held => if c.hadSurface then some (s.geo t g e w.1 c.buffer ahead) else none
    | .window =>
      if e.type = 3 then
        let shows := if ahead && (s.group g).cutoffPassed then c.nextMosaic else (tabGet s.svc.mosaics e.slot).shows
        let buffer := if ahead then (if (s.group g).cutoffPassed then c.nextBuffer else (s.ing e.source).latestBuf) else c.buffer
        match shows with
        | .pattern h => some (s.patternGeo e w.1 h)
        | .fill => none
        | _ => if buffer = 0 then none else some (s.geo t g e w.1 buffer ahead)
      else some (s.geo t g e w.1 0 ahead)

/-! ### Reads -/

/-- R97: the port of a read: 4 for host memory, 5 where nothing is mapped. -/
def State.readPort (s : State) (host : Bool) (a : Nat) : Nat :=
  if host then 4 else match s.memDecode a with | some (m, _) => m | none => 5

/-- R99, R106, R107, R245: port `p` serves a read of address `a` now. -/
def State.serves (s : State) (p a owner : Nat) : Bool := if p = 4 then s.fnReach owner else s.memReads a

/-- Changes fetch entry `i`. -/
def State.modIssue (i : Nat) (f : Issue → Issue) (s : State) : State := s.modSeq fun q => { q with issues := q.issues.modify i f }

/-- R100: tags of a port's pool in use. -/
def State.tagsUsed (s : State) (p : Nat) : Nat :=
  (s.seq.issues.map fun x => (x.reads.filter fun r => r.port == p && r.state == .issued).length).sum

/-- R237: 64-byte units of a lane's staging in use. -/
def State.staged (s : State) (lane : Nat) : Nat :=
  ((s.seq.issues.filter fun x => x.lane == lane && !x.dropped).map fun x =>
    (x.reads.filter fun r => r.state == .issued || r.state == .landed || r.state == .poisoned).length).sum

/-- R471: the privilege bit of an entry's reads: the owner of the handle it reads, or the device itself. -/
def State.fetchPriv (s : State) (x : Issue) : Nat :=
  let shown := match (tabGet s.svc.mosaics x.slot).shows with | .pattern p => p | _ => x.window.surfaceHandle
  let h := if x.kind = 2 then x.window.atlasHandle else shown
  if (s.surf h).made = 0 then (s.surf h).owner else 16

/-- R245, R111, R470: what an issued read shows on its path. -/
def readOut (x : Issue) (r : FRead) (s : State) : State :=
  let w : Who := ⟨if x.ahead then 3 else 1, x.lane, s.fetchPriv x⟩
  if r.port = 4 then s.hostRead r.addr 64 ((s.fn x.owner).noSnoop.getLsbD x.group) w
  else (s.count (128 + 16 * r.port)).traffic r.port false w [r.addr]

/-- R234, R237: tries to issue read `j` of entry `i`; answers the ports blocked behind a waiting read. -/
def tryRead (i j : Nat) (acc : List Nat × State) : List Nat × State :=
  let s := acc.2
  let x := s.seq.issues.getD i {}
  let r := x.reads.getD j {}
  let put := fun (f : FRead → FRead) (s : State) => s.modIssue i fun x => { x with reads := x.reads.modify j f }
  if r.state != .waiting || acc.1.contains r.port then acc
  else if !s.serves r.port r.addr x.owner then (acc.1, put (fun r => { r with state := .missing }) s)
  else if 32768 ≤ s.staged x.lane then
    (r.port :: acc.1, put (fun r => { r with forStaging := true }) (if r.forStaging then s else s.count 76))
  else if portTags r.port ≤ s.tagsUsed r.port ∨ x.tags ≤ (x.reads.filter fun r => r.state == .issued).length then
    (r.port :: acc.1, put (fun r => { r with since := if r.since = 0 then s.clk.plan + 1 else r.since }) s)
  else
    let waited := if r.since = 0 then 0 else (s.clk.plan + 1 - r.since) / 64
    let s := ((put (fun r => { r with state := .issued }) s).countN 77 waited).countN 214 (if r.port = 4 then waited else 0)
    (acc.1, readOut x r s)

/-- R234: issues every read that can go, in entry issue order. -/
def pumpReads (s : State) : State :=
  ((List.range s.seq.issues.length).foldl (fun acc i =>
    (List.range (s.seq.issues.getD i {}).reads.length).foldl (fun acc j => tryRead i j acc) acc) ([], s)).2

/-- R235: the byte budget is reached: reads beyond it are not issued. -/
def budgetReached (slot n : Nat) (s : State) : State :=
  let first := !(s.slot slot).budgetNow
  let s := (s.countN 75 n).modSlot slot fun c =>
    { c with budgetNow := true, budgetFrames := if first then satInc c.budgetFrames else c.budgetFrames }
  if first then s.faultOpen 143 else s

/-- R233, R235: the reads of some addresses, those beyond the byte budget left unread. -/
def makeReads (s : State) (host : Bool) (room : Nat) (as : List Nat) : List FRead :=
  as.zipIdx.map fun e =>
    { addr := e.1, port := s.readPort host e.1, state := if e.2 < room then .waiting else .missing }

/-- R233: issues entry `entry` of an item for frame `n` from store slot `k` and variant `v`. -/
def issueEntry (k v g item entry : Nat) (n : Word) (ahead : Bool) (s : State) : State :=
  let t := s.trussIn k
  let i := (t.itemsOf v).getD item default
  let f := (t.entriesOf v i).getD entry default
  match t.slotAt i.out f.pos with
  | none => s
  | some e =>
    match s.fetchGeo k v g e ahead with
    | none => s
    | some geo =>
      let rows := stripRows (t.output i.out) i.strip geo.w.dst
      if rows.isEmpty then s
      else
        let as := if f.kind = 1 then geo.mapReads rows else geo.directReads f.stripe rows
        let room := f.bytes / 64
        let x : Issue := { group := g, item := item, n := n, entry := entry, slot := e.slot, ahead := ahead, window := geo.w,
                           wasPending := (if ahead then s.windowDue g e else s.windowNow e).2.1, store := k, variant := v,
                           owner := geo.host.getD 16, lane := i.lane, kind := f.kind, stripe := f.stripe, tags := f.tags,
                           reads := makeReads s geo.host.isSome room as }
        let s := (s.modSeq fun q => { q with issues := q.issues ++ [x] }).count 64
        pumpReads (if room < as.length then budgetReached e.slot (as.length - room) s else s)

/-- R236: the atlas reads of a map read that has landed, added to the layer's kind 2 entry. -/
def issueAtlas (x : Issue) (line : Nat) (data : List Byte) (s : State) : State :=
  let t := s.trussIn x.store
  let i := (t.itemsOf x.variant).getD x.item default
  let f1 := (t.entriesOf x.variant i).getD x.entry default
  match t.slotAt i.out f1.pos, (t.entriesOf x.variant i).findIdx? fun f => f.kind == 2 && f.pos == f1.pos with
  | some e, some entry =>
    let f := (t.entriesOf x.variant i).getD entry default
    match s.fetchGeo x.store x.variant x.group e (x.ahead && (s.group x.group).n != x.n) with
    | none => s
    | some geo =>
      let rows := stripRows (t.output i.out) i.strip geo.w.dst
      let mine := fun (y : Issue) => y.group == x.group && y.item == x.item && y.n == x.n && y.entry == entry && !y.dropped
      let have' := (s.seq.issues.filter mine).flatMap fun y => y.reads.map (·.addr)
      let as := (geo.glyphReads rows line data).filter fun a => !have'.contains a
      let room := f.bytes / 64 - have'.length
      let reads := makeReads s geo.host.isSome room as
      let s := if s.seq.issues.any mine then
          s.modSeq fun q => { q with issues := q.issues.map fun y => if mine y then { y with reads := y.reads ++ reads } else y }
        else
          (s.modSeq fun q => { q with issues := q.issues ++
            [{ x with entry := entry, kind := 2, stripe := 0, tags := f.tags, owner := geo.host.getD 16, reads := reads }] }).count 64
      pumpReads (if room < as.length then budgetReached e.slot (as.length - room) s else s)
  | _, _ => s

/-! ### Data that lands -/

/-- The first read that waits for a line on a port. -/
def State.findRead (s : State) (p a : Nat) : Option (Nat × Nat) :=
  s.seq.issues.zipIdx.findSome? fun x =>
    (x.1.reads.findIdx? fun r => r.port == p && r.addr == a && r.state == .issued).map fun j => (x.2, j)

/-- Drops entries that hold and await nothing any more. -/
def sweepIssues (s : State) : State :=
  s.modSeq fun q => { q with issues := q.issues.filter fun x => !(x.reads.isEmpty && (x.dropped || x.closed)) }

/-- R118, R247: counts the data of a read. -/
def countData (p : Nat) (ahead : Bool) (s : State) : State :=
  let s := if p < 4 then (s.count (128 + 16 * p + 1)).count 65 else s.count 66
  if ahead then (let s := s.count 67; if p < 4 then s.count (128 + 16 * p + 3) else s) else s

/-- R234, R241, R242, R245: data, poison or an error completes read `j` of entry `i`. -/
def landRead (i j : Nat) (data : Option (List Byte)) (poison : Bool) (s : State) : State :=
  let x := s.seq.issues.getD i {}
  let r := x.reads.getD j {}
  let s := if data.isSome then countData r.port x.ahead s else s
  let s := if poison && r.port < 4 then poisonSeen r.port s else s
  let gone := s.modIssue i fun x => { x with reads := x.reads.eraseIdx j }
  let s :=
    if x.dropped then
      sweepIssues (if poison then (let g := gone.count 74; if r.port < 4 then g.count (128 + 16 * r.port + 6) else g) else gone)
    else if x.closed then
      let g := (gone.count 72).modSlot x.slot fun c => { c with late := satInc c.late }
      sweepIssues (if r.port < 4 then g.count (128 + 16 * r.port + 7) else g)
    else
      let how : ReadState := if data.isNone then .missing else if poison then .poisoned else .landed
      let s := s.modIssue i fun x => { x with reads := x.reads.modify j fun r => { r with state := how, data := if poison then [] else data.getD [] } }
      let s := if data.isNone then (s.count 81).faultOpen 145 else s
      if x.kind = 1 ∧ how = .landed then issueAtlas x r.addr (data.getD []) s else s
  pumpReads s

/-- R234: a read completes: CXL data comes from memory, host data from the host, none for an error. -/
def execReadDataLand (port : Fin 5) (address : Long) (host : Option (List Byte)) (s : State) : Host.Outcome State Fault Refusal :=
  match s.findRead port address.toNat with
  | none => done s
  | some (i, j) =>
    if port.val = 4 then done (landRead i j (host.map (fitBytes 64)) false s)
    else
      let a := address.toNat
      let poison := s.memPoison a || (s.port port).viral
      if s.serves port a 0 then done (landRead i j (some ((List.range 64).map fun k => tabGet s.mem.bytes (a + k))) poison s)
      else done s

/-- R106: a port's tags are released: its reads are patched, and what discarded entries awaited is forgotten. -/
def loseReads (p : Nat → FRead → Bool) (s : State) : State :=
  sweepIssues (s.modSeq fun q => { q with issues := q.issues.map fun x =>
    let hit := fun (r : FRead) => p x.owner r && (r.state == .issued || r.state == .waiting)
    if x.dropped || x.closed then { x with reads := x.reads.filter fun r => !hit r }
    else { x with reads := x.reads.map fun r => if hit r then { r with state := .missing } else r } })

/-! ### Issue -/

/-- R192, R233: entry `entry` of an item of group `g` is issued at its instant: for the current frame, or ahead of the next sill. -/
def execFetchIssue (g : Fin 16) (item entry : Nat) (s : State) : Host.Outcome State Fault Refusal :=
  let c := s.group g
  let here := fun (n : Word) => s.seq.issues.any fun x => x.group == g.val && x.item == item && x.n == n && x.entry == entry && !x.dropped
  if s.seqStopped || !s.grpRuns g then done s
  else
    let k := c.store - 1
    let t := s.trussIn k
    let plan := s.nextPlan g
    let t' := s.trussIn plan.1
    let current := match (t.itemsOf c.variant)[item]? with
      | some i => if c.begun && i.frame == c.j && t.itemGroup i == g.val && !c.issued.contains item && !here c.n &&
          decide (entry < i.count) then some i else none
      | none => none
    match current with
    | some i =>
      if ((t.entriesOf c.variant i).getD entry default).kind = 2 then done s
      else
        let at' := if t.startOffset i < i.lead then c.sillAt else s.instant g t ((t.itemSill i + t.startOffset i - i.lead) % t.h)
        if at' + 8 < s.clk.plan then done s else done (issueEntry k c.variant g item entry c.n false (s.untilPlan at'))
    | none =>
      match (t'.itemsOf plan.2)[item]? with
      | none => done s
      | some i =>
        let n := s.frameAfter g 0
        let f := (t'.entriesOf plan.2 i).getD entry default
        if i.frame = c.nextJ ∧ t'.itemGroup i = g.val ∧ f.ahead = true ∧ f.kind ≠ 2 ∧ t'.startOffset i < i.lead ∧ entry < i.count ∧ !here n then
          done (issueEntry plan.1 plan.2 g item entry n true (s.untilPlan (c.nextAt - (i.lead - t'.startOffset i) * grain)))
        else done s

/-! ### Recomparison -/

/-- R240: the values compared. -/
def Llw.fetchKey (w : Llw) : List Word := [w.handle, w.srcXy, w.srcWh, w.fetch &&& 3, w.geom, w.grid, w.atlas]

/-- R240: discards an entry that ran ahead. -/
def dropIssue (i : Nat) (s : State) : State :=
  let x := s.seq.issues.getD i {}
  let held := x.reads.filter fun r => r.state == .issued || r.state == .landed || r.state == .poisoned
  let s := held.foldl (fun (s : State) r => if r.port < 4 then s.count (128 + 16 * r.port + 4) else s) (s.countN 68 held.length)
  let s := s.modSlot x.slot fun c => { c with discarded := satAdd c.discarded held.length }
  s.modIssue i fun x => { x with dropped := true, reads := x.reads.filter fun r => r.state == .issued }

/-- R240: compares entry `i` with the values now due, and issues it again where they differ. -/
def recompareAt (g i : Nat) (s : State) : State :=
  let x := s.seq.issues.getD i {}
  let n := s.frameAfter g 0
  if x.group != g || !x.ahead || x.dropped || x.closed || x.n != n || x.store + 1 != (s.group g).store then s
  else
    let t := s.trussIn x.store
    let it := (t.itemsOf x.variant).getD x.item default
    let f := (t.entriesOf x.variant it).getD x.entry default
    match t.slotAt it.out f.pos with
    | none => s
    | some e =>
      let w := s.windowDue g e
      let geo := s.fetchGeo x.store x.variant g e true
      if geo.isSome && w.1.fetchKey == x.window.fetchKey && w.2.1 == x.wasPending then s
      else
        let s := dropIssue i s
        if geo.isNone || f.kind == 2 then s else (issueEntry x.store x.variant g x.item x.entry n true s).count 82

/-- R240: every run-ahead entry of the group's next frame is compared. -/
def recompare (g : Nat) (s : State) : State :=
  sweepIssues ((List.range s.seq.issues.length).foldl (fun (s : State) i => recompareAt g i s) s)

end Sys2Proof.Machine
end

