-- ==== Sys2Proof/Machine/Cq.lean ====
section
/-! DEFINITION. Completion queues: how a completion is posted, written, held or dropped (R392–R394), and how a request line asserts (R389–R390). -/

namespace Sys2Proof.Machine

/-- R397: records a completion queue holds; a log2_size outside 6–16 acts as 6. -/
def DmaCq.size (c : DmaCq) : Nat := if 6 ≤ c.log2Size.toNat ∧ c.log2Size.toNat ≤ 16 then 2 ^ c.log2Size.toNat else 64

/-- R397: DMA_CQq_STATUS.full. -/
def DmaCq.full (c : DmaCq) : Bool := (c.prod - c.cons).toNat == c.size

/-- R393: the 32 bytes of a completion record. -/
def CplRec.bytes (r : CplRec) (phase dropped : Bool) : List Byte :=
  [BitVec.ofNat 8 r.kind, BitVec.ofNat 8 r.status] ++ leBytes 2 r.unit ++ leBytes 4 r.tag ++ leBytes 8 r.time ++
    leBytes 4 (packBits [(0, 24, r.count), (24, 1, b2n phase), (25, 1, b2n dropped)]) ++ leBytes 4 r.info ++ leBytes 8 r.extra

/-- A write of the GM8 to the host memory of function `f`, when it can be issued (R135). -/
def State.hostStore (f a : Nat) (bs : List Byte) (w : Who) (s : State) : State := if s.fnReach f then s.hostWrite a bs w else s

/-- R398: source 33 + q is asserted while the queue holds records not consumed. -/
def cqLevel (q : Nat) (s : State) : State := s.setCond (33 + q) ((s.cq q).prod != (s.cq q).cons)

/-- R392, R393: writes a record into queue `q`, which runs and has space. -/
def cqWrite (q : Nat) (r : CplRec) (s : State) : State :=
  let c := s.cq q
  let a := c.base.toNat + 32 * (c.prod.toNat % c.size)
  let bs := r.bytes (c.prod.toNat / c.size % 2 == 0) c.owesDrop
  let s := if c.host then s.hostStore c.owner a bs ⟨16, 69, c.owner⟩ else s.memWrite a bs ⟨16, 69, c.owner⟩
  cqLevel q (s.modCq q fun c => { c with prod := c.prod + 1, owesDrop := false })

/-- R394: a record of kind 1 or 2 that finds its queue full. -/
def cqDrop (q : Nat) (s : State) : State :=
  (s.modCq q fun c => { c with overflow := true, dropped := satInc c.dropped, owesDrop := true }).count 359

/-- R392: a completion is posted to queue `q`: the count advances; answers the record with that count. -/
def cqPost (q : Nat) (r : CplRec) (s : State) : CplRec × State :=
  let n := (s.cq q).count + 1
  ({ r with time := s.clk.plan, count := n.toNat }, s.modCq q fun c => { c with count := n })

/-- R394, R401: an ingest or writeback frame is posted to its queue, plus one; 0 none. -/
def postFrame (queue : Nat) (r : CplRec) (s : State) : State :=
  if queue = 0 then s
  else
    let q := queue - 1
    let p := cqPost q r s
    if !(s.cq q).enable then p.2 else if (s.cq q).full then cqDrop q p.2 else cqWrite q p.1 p.2

/-- R390: one request on a line, counted by every channel whose descriptor names it. -/
def State.assertLine (line : Nat) (s : State) : State :=
  (List.range 32).foldl (fun (s : State) c =>
    let x := s.ch c
    match x.current with
    | some d =>
      if d.line = line ∧ x.enable ∧ !x.safe ∧ !x.error then
        if x.requests = 255 then (s.modCh c fun x => { x with overrun := true }).count 356
        else (s.modCh c fun x => { x with requests := x.requests + 1 }).count 355
      else s
    | none => s) s

end Sys2Proof.Machine
end

