-- ==== Sys2Proof/Machine/Wb.lean ====
section
/-! DEFINITION. Writeback: targets, the bytes of a strip in memory, the end of a frame, and its commands (R381–R385, R401). -/

namespace Sys2Proof.Machine

/-- R381: the group, truss and output that engine `e` serves. -/
def State.wbOutput (s : State) (e : Nat) : Option (Nat × Truss × Nat) :=
  allGroups.findSome? fun g =>
    (s.grpTruss g).bind fun t => (t.outputs.findIdx? fun o => o.wb == e + 1 && o.group == g).map fun o => (g, t, o)

/-- R380, R396, R399: engine `e` may write. -/
def State.wbRuns (s : State) (e : Nat) : Bool := !s.flt.safe && !s.fenced (127 + e)

/-- R383: the first target in rotation, from `i` on, that is not in use, with how many were passed over. -/
def State.wbPick (s : State) (ts : List Nat) (i : Nat) : Option (Nat × Nat) :=
  ((List.range ts.length).find? fun k => !(s.surf (ts.getD ((i + k) % ts.length) 0xFFFF)).inUse).map fun k => ((i + k) % ts.length, k)

/-- R383, R398: the first skip and the first unwritten frame in a sill period each pend the engine's source. -/
def wbTell (e : Nat) (skip : Bool) (s : State) : State :=
  if (if skip then (s.wb e).toldSkip else (s.wb e).toldNone) then s
  else (s.modWb e fun w => if skip then { w with toldSkip := true } else { w with toldNone := true }).pend (425 + e)

/-! ### End of a frame -/

/-- R384, R393, R389: a frame of engine `e` has ended: its count and record, or the record with status 7 and its fault. -/
def wbReport (e : Nat) (s : State) : State :=
  let w := s.wb e
  let rec' : CplRec := { kind := 2, unit := e, tag := w.frameN.toNat, info := w.target - 1, extra := w.frameN.toNat }
  let s := s.modWb e fun w => { w with busy := false, ended := false, target := 0, bad := false }
  if w.target = 0 then s
  else if w.bad then
    let s := (s.modWb e fun w => { w with incomplete := satInc w.incomplete }).count 370
    ((postFrame w.queue { rec' with status := 7 } s).pend (425 + e)).fault (127 + e) 1
  else
    let s := (s.modWb e fun w => { w with complete := satInc w.complete, count := w.count + 1, lastN := w.frameN }).count (366 + e)
    (postFrame w.queue rec' s).assertLine (20 + e)

/-- R383: engine `e` starts the frame `n` of its output: the next free target in rotation, or none. An earlier frame that has ended is
reported first. -/
def wbStart (e : Nat) (n : Word) (s : State) : State :=
  let s := if (s.wb e).ended then wbReport e s else s
  let w := s.wb e
  if w.targets.isEmpty || !s.wbRuns e then s.modWb e fun w => { w with busy := false, target := 0 }
  else
    match s.wbPick w.targets w.next with
    | some (i, passed) =>
      let s := s.modWb e fun w =>
        { w with busy := true, target := i + 1, next := (i + 1) % w.targets.length, frameN := n, bad := false, skipped := satAdd w.skipped passed }
      if passed = 0 then s else wbTell e true (s.countN 371 passed)
    | none =>
      wbTell e false ((s.modWb e fun w => { w with busy := true, target := 0, frameN := n, bad := false, notWritten := satInc w.notWritten }).count 372)

/-! ### Bytes of a strip -/

/-- R382: alpha of stage 6 in `n` bits. -/
def wbAlpha (n a : Nat) : Nat := (a * (2 ^ n - 1) + 32767) / 65535

/-- R382: an RGB code widened to 8 bits. -/
def wbWiden6 (enc v : Nat) : Nat := if encBits enc = 6 then v * 4 + v / 16 else v

/-- R375, R382: an 8-bit 4:4:4 component widened to 10 bits. -/
def widen10 (enc v : Nat) : Nat := if encBits enc = 8 then v * 4 + v / 64 else v

/-- R224, R382: a plane-0 element of a pixel with three components and alpha, for an encoding. -/
def wbElement (enc : Nat) (a b c al : Nat) : List Byte :=
  let f := (encFormat enc).getD 0
  if f = 0x20 then leBytes 4 (packBits [(0, 8, wbWiden6 enc c), (8, 8, wbWiden6 enc b), (16, 8, wbWiden6 enc a), (24, 8, wbAlpha 8 al)])
  else if f = 0x23 then leBytes 4 (packBits [(0, 10, c), (10, 10, b), (20, 10, a), (30, 2, wbAlpha 2 al)])
  else if f = 0x34 then leBytes 4 (packBits [(0, 10, widen10 enc b), (10, 10, widen10 enc a), (20, 10, widen10 enc c), (30, 2, wbAlpha 2 al)])
  else if f = 0x32 then leBytes 2 (a * 64)
  else [BitVec.ofNat 8 a]

/-- R224: a chroma element of a two-plane format. -/
def chromaElement (enc cb cr : Nat) : List Byte :=
  if encFormat enc = some 0x32 then leBytes 2 (cb * 64) ++ leBytes 2 (cr * 64) else [BitVec.ofNat 8 cb, BitVec.ofNat 8 cr]

/-- The component of a plane at a line and column, 0 beyond it. -/
def at2 (p : List (List Nat)) (y x : Nat) : Nat := (p.getD y []).getD x 0

/-- The bytes of line `y` of a strip in plane 0. -/
def line0 (enc : Nat) (st : Strip) (y : Nat) : List Byte :=
  let n := (st.a.getD y []).length
  (List.range n).flatMap fun x =>
    let sub := decide (2 ≤ encChroma enc)
    wbElement enc (at2 st.a y x) (if sub then 0 else at2 st.b y x) (if sub then 0 else at2 st.c y x) (at2 st.alpha y x)

/-- The bytes of chroma line `y` of a strip in plane 1. -/
def line1 (enc : Nat) (st : Strip) (y : Nat) : List Byte :=
  (List.range (st.b.getD y []).length).flatMap fun x => chromaElement enc (at2 st.b y x) (at2 st.c y x)

/-- R106, R383: writes bytes of the frame; what falls on a port that is out makes the frame incomplete. -/
def wbPut (e a : Nat) (bs : List Byte) (s : State) : State :=
  let s := (s.memWrite a bs ⟨1, 64 + e, 16⟩).countUnits 373 64 bs.length
  if (memLines a bs.length).all s.memUp then s else s.modWb e fun w => { w with bad := true }

/-- R382: engine `e` writes a strip whose first line is line `y0` of the output. -/
def wbStrip (e enc y0 : Nat) (st : Strip) (s : State) : State :=
  let w := s.wb e
  if !w.busy || w.target == 0 then s
  else if !s.wbRuns e then s.modWb e fun w => { w with bad := true }
  else
    let x := s.surf (w.targets.getD (w.target - 1) 0xFFFF)
    let s := (List.range st.a.length).foldl (fun (s : State) y => wbPut e (x.addr + (y0 + y) * x.stride) (line0 enc st y) s) s
    if encChroma enc < 2 then s
    else
      let c0 := if encChroma enc = 3 then y0 / 2 else y0
      (List.range st.b.length).foldl (fun (s : State) y => wbPut e (x.addr + x.plane1 + (c0 + y) * x.stride) (line1 enc st y) s) s

/-- R381, R384: a strip of the frame that engine `e` writes is missing. -/
def wbMissing (e : Nat) (s : State) : State := if (s.wb e).busy then s.modWb e fun w => { w with bad := true } else s

/-- R384: a writeback frame ends. A head's frame has ended at its last active pixel (R310); any other ends once its output's items have
all completed or passed their deadlines. -/
def execWbFrameDone (e : Fin 4) (s : State) : Host.Outcome State Fault Refusal :=
  let w := s.wb e
  if s.flt.safe || !w.busy then done s
  else if w.ended then done (wbReport e s)
  else
    match s.wbOutput e with
    | none => done (wbReport e (wbMissing e s))
    | some (g, t, o) =>
      let c := s.group g
      let items := (t.itemsOf c.variant).zipIdx.filter fun i => i.1.out == o && i.1.frame == c.j
      if (t.output o).kind ≠ 0 ∧ (w.frameN ≠ c.n ∨ items.all fun i => c.finished.contains i.2 || c.missed.contains i.2) then done (wbReport e s)
      else done s

/-! ### Commands -/

/-- R383: the first target that may not be one, as an index. -/
def State.wbTargetBad (s : State) (f : Nat) (t : Truss) (o : TOutput) (hs : List Nat) : Option Nat :=
  hs.findIdx? fun h =>
    let x := s.surf h
    !s.mayUse f h || some x.format != encFormat o.enc || x.width != o.width || x.height != o.height || x.flags.getLsbD 0 || x.made == 2 ||
      !(t.regions.any fun r => r.kind == 4 && decide (r.addr ≤ x.addr) &&
        decide (x.addr + surfBytes ((fmtOf x.format).getD default) x.height x.stride x.plane1 ≤ r.addr + r.size))

/-- R147, R383, R401: WB_SET_TARGET. An engine that serves no running output is refused with STATE. -/
def execWbSetTarget (c : KcpCtx) (engine count queue : Byte) (handles : List Half) (s : State) : Host.Outcome State Fault Refusal :=
  kcp 0x0510 c (fun f s =>
    let e := engine.toNat
    let hs := (handles.take count.toNat).map (·.toNat)
    if 3 < e then badParam 0 s
    else
      match s.wbOutput e with
      | none => refuse .state 0 s
      | some (g, t, o) =>
        if !s.hasGroup f g then refuse .notGranted 1 s
        else if count.toNat < 2 ∨ 8 < count.toNat then badParam 1 s
        else if 7 < queue.toNat ∧ queue ≠ 0xFF then badParam 2 s
        else
          match s.wbTargetBad f t (t.output o) hs with
          | some i => badParam (4 + 2 * i) s
          | none =>
            replyOk (s.modSeq fun q => { q with deferred := q.deferred ++
              [{ group := g, wait := s.usableWait g, fn := f,
                 op := .target e (if queue = 0xFF then 0 else queue.toNat + 1) hs }] })) s

/-- R401: WB_QUERY. -/
def execWbQuery (c : KcpCtx) (engine : Byte) (s : State) : Host.Outcome State Fault Refusal :=
  kcp 0x0511 c (fun f s =>
    let e := engine.toNat
    let w := s.wb e
    if 3 < e then badParam 0 s
    else
      match s.wbOutput e with
      | none => refuse .state 0 s
      | some (g, _, o) =>
        if !s.hasGroup f g then refuse .notGranted 1 s
        else replyOk s (leBytes 2 o ++ leBytes 1 w.targets.length ++ leBytes 1 w.next ++ leBytes 4 w.complete.toNat ++
          leBytes 4 w.incomplete.toNat ++ leBytes 4 w.skipped.toNat ++ leBytes 4 w.notWritten.toNat ++ leBytes 4 w.lastN.toNat ++
          (List.range 8).flatMap fun i => leBytes 2 (w.targets.getD i 0xFFFF))) s

end Sys2Proof.Machine
end

