-- ==== Sys2Proof/Machine/HeadOps.lean ====
section
/-! DEFINITION. PLL gates and what they stop, the links and frames of the heads, and the next sill of a group (R62–R76, R193–R196,
R300–R308). -/

namespace Sys2Proof.Machine

/-! ### PLLs -/

/-- R62: REFCLK in Hz, of the board record in force. -/
def State.refHz (s : State) : Nat := Sys2Proof.Machine.refHz s.boot.board.refFreq.toNat

/-- R62: `n` PFD cycles of PLL `k` in ns. -/
def State.pfdNs (s : State) (k n : Nat) : Nat := n * (s.pll k).m * 1000000000 / s.refHz

/-- R70: the value of n in force. -/
def Pll.nNow (p : Pll) : Nat := ((p.nProg : Int) + p.nOffset).toNat

/-- R296, R195: frame time of a head under the n its PLL now has, ns. -/
def State.headFrameNs (s : State) (x : HeadTiming) : Nat :=
  let p := s.pll x.pll
  1000000000 * ((x.hactive + x.hfp + x.hsync + x.hbp) * (x.vactive + x.vfp + x.vsync + x.vbp) * p.m * p.p) / max 1 (s.refHz * p.nNow)

/-- R296: ns from a head's frame start to `px` pixels of its clock. -/
def State.pixelsNs (s : State) (x : HeadTiming) (px : Nat) : Nat :=
  let p := s.pll x.pll
  1000000000 * (px * p.m * p.p) / max 1 (s.refHz * p.nNow)

/-! ### Sills to come -/

/-- R194: the lowest head of a group, and whether the group's sills follow its frame starts: on time base 1 while SYNC_IN is accepted, on
time base 0 during a realign (R76). -/
def State.leadHead (s : State) (g : Nat) : Option Nat :=
  match s.grpTruss g with
  | none => none
  | some t =>
    match ((t.outputs.filter fun o => o.kind == 0 && o.group == g).map (·.unit)).foldl (fun (m : Option Nat) h =>
        match m with | some x => some (min x h) | none => some h) none, t.group g with
    | some h, some e =>
      if (s.head h).scanning && ((e.base == 1 && s.clk.syncPresent) || (e.base == 0 && s.clk.realigning.getLsbD g)) then some h else none
    | _, _ => none

/-- R194: on time base 1, the first sill at or after a plan time: hyperperiod, frame, reference of that hyperperiod. -/
def State.refNext (s : State) (t : Truss) (e : TGroup) (g since : Nat) : Nat × Nat × Nat :=
  let c := s.group g
  let hp := t.h * grain
  let q := (since - c.reference) / max 1 hp
  let ref := c.reference + q * hp
  match (List.range e.f).find? fun j => decide (since ≤ ref + sillGrain t.h e j * grain) with
  | some j => (c.nextHyper + q, j, ref)
  | none => (c.nextHyper + q + 1, 0, ref + hp)

/-- R193, R194, R196: puts a group's next sill at the first one of its grid at or after a plan time. -/
def regrid (g since : Nat) (s : State) : State :=
  match s.grpTruss g with
  | none => s
  | some t =>
    match t.group g with
    | none => s
    | some e =>
      if e.base = 1 then
        let x := s.refNext t e g since
        s.modGroup g fun c => { c with nextHyper := x.1, nextJ := x.2.1, nextAt := x.2.2 + sillGrain t.h e x.2.1 * grain, reference := x.2.2,
                                       cutoffPassed := false, announced := false }
      else
        let x := s.gridNext t e since
        s.modGroup g fun c => { c with nextHyper := x.1, nextJ := x.2, nextAt := s.gridSill t e x.1 x.2, cutoffPassed := false, announced := false }

/-- R76, R218: group `g` is placed on its grid again: with heads on time base 0 by tracking, else by a frame that reaches the grid sill at least 2 ms
and a period after the last sill. -/
def regridFar (g : Nat) (s : State) : State :=
  match (s.grpTruss g).bind fun t => (t.group g).map fun e => (t, e) with
  | none => s
  | some (t, e) =>
    if e.base = 0 ∧ t.hasHead g then s.modClk fun c => { c with realigning := putBit c.realigning g true }
    else regrid g (max (s.clk.plan + msNs 2) ((s.group g).sillAt + framePeriod t.h e (s.group g).j)) s

/-! ### Link state of a head -/

/-- R312: the state a head reports. -/
def State.headState (s : State) (h : Nat) : HeadState :=
  let x := s.head h
  if (s.headGroup h).isNone && s.seq.running != 0 then .notInTruss
  else if x.power = 2 then .off
  else if x.state = .streaming ∧ x.power = 1 then .idle
  else x.state

/-- R312: the link-state record of a head. -/
def headRecord (h : Nat) (s : State) : State :=
  let x := s.head h
  s.linkRecord 3 h (s.headState h).code x.rate x.lanes

/-- R312: a link event of a head: its record and interrupt source. -/
def headEvent (h : Nat) (s : State) : State := (headRecord h s).pend (145 + h)

/-- R306: an AUX transaction of firmware's own. -/
def headAuxOwn (h req addr : Nat) (data : List Byte) (s : State) : State := s.emit (.aux h req addr data)

/-- R311: sets the sink's power through DPCD 0x600, 1 for D0 and 2 for D3 (PRESUMED, the standard's codes). -/
def sinkPower (h v : Nat) (s : State) : State := if (s.head h).hpd then headAuxOwn h 8 0x600 [BitVec.ofNat 8 v] s else s

/-- R298: bits per component that head `h` sends, or will send once its group takes the running truss. -/
def State.headBits (s : State) (h : Nat) : Nat :=
  match s.headGroup h with
  | some (_, t, o) => encBits (t.output o).enc
  | none => match s.running.bind fun t => (t.outputOf 0 h).map fun o => (t.output o).enc with | some e => encBits e | none => 8

/-- R306: the configurations of a training in the order they are tried: lanes and rate. -/
def State.headConfigs (s : State) (h : Nat) : List (Nat × Nat) :=
  match (s.head h).timing with
  | none => []
  | some x =>
    let k := (s.head h).sink
    let l := min x.lanes k.lanes
    let r := min x.rate k.rate
    let lanes := [l, l / 2, l / 4].filter fun n => n != 0
    (lanes.flatMap fun n => (List.range r).map fun i => (n, r - i)).filter fun c => carries x (s.headBits h) c.1 c.2

/-- R306: tries the first of some configurations; with none left the head reports training failed. -/
def tryConfigs (h : Nat) (cs : List (Nat × Nat)) (s : State) : State :=
  match cs with
  | c :: _ => s.modHead h fun x => { x with state := .training, tryLanes := c.1, tryRate := c.2, lanes := 0, rate := 0 }
  | [] =>
    let s := s.modHead h fun x => { x with state := .failed, lanes := 0, rate := 0, failures := satInc x.failures }
    (headEvent h s).fault (32 + h) 1

/-- R306, R308: firmware trains the link of a plugged head, from the first configuration or from the one last trained. Nothing is trained
while PLL9 is gated, which leaves the head plugged. -/
def startTraining (h : Nat) (fromLast : Bool) (s : State) : State :=
  let x := s.head h
  if !x.hpd then s
  else if (s.pll 9).gated || x.timing.isNone || x.power == 2 then s.modHead h fun x => { x with state := .plugged, lanes := 0, rate := 0 }
  else
    let cs := s.headConfigs h
    let cs := if fromLast then cs.dropWhile fun c => c != (x.tryLanes, x.tryRate) else cs
    let s := s.modHead h fun x => { x with state := .training, trainings := satInc x.trainings, lanes := 0, rate := 0 }
    tryConfigs h cs (headRecord h (s.count (288 + 4 * h + 3)))

/-- R67, R308: the link of a head drops with PLL9. -/
def dropLink (h : Nat) (s : State) : State :=
  let x := s.head h
  if x.state = .training ∨ x.state = .streaming ∨ x.state = .failed then
    headEvent h (s.modHead h fun x => { x with state := .plugged, lanes := 0, rate := 0, losses := if x.state = .streaming then satInc x.losses else x.losses })
  else s

/-! ### Scanning -/

/-- R310, R311: a head stops scanning; the frame its writeback engine writes is incomplete. -/
def stopHead (h : Nat) (s : State) : State :=
  if !(s.head h).scanning then s
  else
    let s := s.modHead h fun x => { x with scanning := false }
    match s.headGroup h with
    | some (_, t, o) => if (t.output o).wb = 0 then s else wbMissing ((t.output o).wb - 1) s
    | none => s

/-- R68, R306, R311: the head can scan: a timing in force, its PLL's gate and PLL8's open, and no fence. A head whose group has not taken its first
truss yet does not begin (R45); one that no truss names scans the safe field (R55, R188). -/
def State.canScan (s : State) (h : Nat) : Bool :=
  match (s.head h).timing with
  | none => false
  | some x => !(s.pll x.pll).gated && (!s.planGated || s.flt.safe) && !s.fenced (32 + h) && !(s.head h).relocking &&
    ((s.headGroup h).isSome || s.seq.running == 0 || (s.head h).scanning)

/-- R311: the lines of the head's items are discarded: its PLL is gated or it is fenced. -/
def State.headDiscards (s : State) (h : Nat) : Bool :=
  match (s.head h).timing with
  | none => true
  | some x => (s.pll x.pll).gated || s.planGated || s.fenced (32 + h)

/-- R300: the output background as stage 11 encodes it, the first line taken as delivered. -/
def State.backLine (s : State) (h : Nat) : List (List Nat) :=
  match s.headGroup h with
  | none => []
  | some (g, t, o) =>
    let oc := tabGet s.seq.colour (65536 * ((s.group g).store - 1) + o)
    let bg : Px := ⟨mul16 oc.bgR oc.bgA, mul16 oc.bgG oc.bgA, mul16 oc.bgB oc.bgA, oc.bgA⟩
    let k := (s.group g).store - 1
    let table := fun (i kind : Nat) => if i ≠ 0xFF ∧ s.tableIs k i kind then s.colourTable k i else none
    let ctx : OutCtx := { matrix := table oc.matrix 1, regamma := table oc.regTable 3, lut := table oc.lut 4 }
    let st := encodeStrip (t.output o).enc oc (s.group g).n.toNat 0 [List.replicate (t.output o).width (outPx oc ctx bg)]
    [st.a.headD [], st.b.headD [], st.c.headD [], st.alpha.headD []]

/-- R300: a head starts afresh, with nothing in its strip FIFO. -/
def freshHead (h : Nat) (s : State) : State :=
  let l := s.backLine h
  s.modHead h fun x => { x with bufs := [], last := l, delivered := l }

/-- The heads that PLL `k` feeds. -/
def State.pllHeads (s : State) (k : Nat) : List Nat :=
  (List.range 8).filter fun h => match (s.head h).timing with | some x => x.pll == k | none => false

/-- R66, R67: the gate of PLL `k` closes. -/
def closeGate (k : Nat) (s : State) : State :=
  if (s.pll k).gated then s
  else
    let s := if k = 8 then pmuStop s else s
    let s := s.modPll k fun p => { p with gated := true }
    if k < 8 then (s.pllHeads k).foldl (fun (s : State) h => stopHead h s) s
    else if k = 8 then
      if s.flt.safe then s else (List.range 8).foldl (fun (s : State) h => stopHead h s) s
    else (List.range 8).foldl (fun (s : State) h => dropLink h s) s

/-- R68, R80: PLL `k` begins a lock attempt from its stored calibration; its settle count is the one now set. -/
def acquirePll (k : Nat) (s : State) : State :=
  s.modPll k fun p => { p with acquiring := true, attemptAt := s.now, settling := false, opening := false, settle := s.bootMram.settle }

/-- R63, R303, R304: firmware programs a head PLL: its gate closes and it relocks; one whose n is under 2,000 is not tracked. Settings it already
has change nothing. R68: one that is reported failed takes its settings and stays gated until the relock command or the next start. -/
def programPll (x : HeadTiming) (s : State) : State :=
  let p := s.pll x.pll
  if p.m = x.m ∧ p.nProg = x.n ∧ p.p = x.p then s
  else
    let s := closeGate x.pll s
    let s := s.modPll x.pll fun p =>
      { p with m := x.m, nProg := x.n, p := x.p, nOffset := 0, target := 0, trackErr := 0, locked := false, attempts := 0, recal := false, opening := false,
               settling := false, acquiring := false, trackSrc := if x.n < 2000 then 0 else p.trackSrc, bandB := s.boot.board.bands.getLsbD x.pll }
    if p.failed then s else acquirePll x.pll s

/-- R78: the mask of heads that each PLL feeds. -/
def refreshPllHeads (s : State) : State :=
  (List.range 8).foldl (fun (s : State) k => s.modPll k fun p =>
    { p with heads := BitVec.ofNat 8 ((s.pllHeads k).foldl (fun m h => m + 2 ^ h) 0) }) s

/-- R304, R308: a head's new timing takes effect at a sill. -/
def takeTiming (h : Nat) (x : HeadTiming) (s : State) : State :=
  let old := (s.head h).timing
  let s := refreshPllHeads (s.modHead h fun c => { c with timing := some x, shadow := none, shadowBy := 0 })
  let same := match old with | some y => y.pll == x.pll && y.m == x.m && y.p == x.p && y.n == x.n | none => false
  let link := (s.head h).lanes != x.lanes || (s.head h).rate != x.rate
  let s := if same then s.modHead h fun c => { c with delivered := s.backLine h } else
    (s.pllHeads x.pll).foldl (fun (s : State) k => freshHead k (s.modHead k fun c => { c with relocking := true })) (programPll x s)
  if (s.head h).state = .training ∨ (link ∧ (s.head h).state = .streaming) then startTraining h false s else s

/-- R304, R68: the heads of PLL `k` may scan again from the next sill: its gate is open and a link that is being trained is trained. -/
def endRelock (h : Nat) (s : State) : State :=
  match (s.head h).timing with
  | none => s
  | some x =>
    if (s.head h).relocking && !(s.pll x.pll).gated && (s.head h).state != .training then s.modHead h fun c => { c with relocking := false } else s

/-- R63, R311, R312: a head that the running truss now names: firmware programs its PLL, gives it the tracking source of its group's time base where
its n lets it be tracked, and trains its link. -/
def joinHead (h g base : Nat) (x : HeadTiming) (s : State) : State :=
  let new := (s.head h).timing.isNone
  let s := programPll x (refreshPllHeads (s.modHead h fun c => { c with timing := some x, shadow := none, shadowBy := 0 }))
  let s := s.modPll x.pll fun p =>
    { p with trackSrc := if p.nProg < 2000 then 0 else if base = 1 then 1 else 2, trackGroup := BitVec.ofNat 4 g, deadband := 64 }
  let s := freshHead h s
  if new then (if (s.head h).hpd then startTraining h false (sinkPower h 1 s) else headRecord h s)
  else if (s.head h).state = .streaming ∧ !carries x (s.headBits h) (s.head h).lanes (s.head h).rate then startTraining h false s
  else s

/-- R213, R311: a head that no running truss names any more: its link goes off and its sink to D3. -/
def leaveHead (h : Nat) (s : State) : State :=
  if (s.head h).timing.isNone then s
  else
    let s := stopHead h s
    let s := refreshPllHeads (s.modHead h fun c =>
      { c with timing := none, shadow := none, shadowBy := 0, scanning := false, lanes := 0, rate := 0, relocking := false, power := 0, powerNext := none,
               state := if c.hpd then .plugged else .unplugged })
    headEvent h (sinkPower h 2 s)

end Sys2Proof.Machine
end

