-- ==== Sys2Proof/Machine/Layers.lean ====
section
/-! DEFINITION. Live-window writes and reads, and the surface, layer and cell commands (R197, R200, R215, R221–R223, R231, R248–R250). -/

namespace Sys2Proof.Machine

/-! ### Live windows -/

/-- R215: LLW_STATUS of slot `x`. -/
def State.llwStatus (s : State) (x : Nat) : Nat :=
  let c := s.slot x
  packBits [(0, 1, b2n c.pending.isSome), (1, 1, b2n (c.shown == .held || (c.shown == .window && c.heldFrames != 0))), (2, 1, b2n (c.shown == .omitted)), (3, 1, b2n (c.shown == .filled)),
    (4, 1, b2n c.stale), (5, 1, b2n c.dropped), (16, 16, c.heldFrames.toNat)]

/-- R215: LLW_ACTIVE of slot `x`. -/
def State.llwActive (s : State) (x : Nat) : Nat :=
  let c := s.slot x
  packBits [(0, 16, c.active.surfaceHandle), (16, 16, match c.pending with | some w => w.surfaceHandle | none => 0xFFFF)]

/-- R171, R215: bytes 8 to 39 of a slot entry, as LLW_BOXk reads them. -/
def TSlot.box (e : TSlot) (k : Nat) : Nat :=
  if k = 0 then packBits [(0, 16, e.x0), (16, 16, e.y0)] else if k = 1 then packBits [(0, 16, e.x1), (16, 16, e.y1)]
  else if k = 2 then packBits [(0, 16, e.hmin), (16, 16, e.hmax)] else if k = 3 then packBits [(0, 16, e.vmin), (16, 16, e.vmax)]
  else if k = 4 then packBits [(0, 16, e.maxW), (16, 16, e.maxH)]
  else if k = 5 then packBits [(0, 8, e.bpp), (8, 8, e.dec), (16, 8, e.taps), (24, 8, e.flags)]
  else if k = 6 then packBits [(0, 8, e.port), (8, 8, e.stripes), (16, 16, e.handle)]
  else e.fill

/-- R215, R231, R290: the register at offset `off` of a window's shadow set. -/
def Llw.reg (w : Llw) (off : Nat) : Word :=
  if off = 0 then w.handle else if off = 4 then w.ready else if off = 8 then w.dstXy else if off = 0xC then w.dstWh
  else if off = 0x10 then w.srcXy else if off = 0x14 then w.srcWh else if off = 0x18 then w.phase else if off = 0x1C then w.ctrl
  else if off = 0x20 then w.fill else if off = 0x100 then w.fetch else if off = 0x104 then w.solid else if off = 0x108 then w.geom
  else if off = 0x10C then w.grid else if off = 0x110 then w.atlas else if off = 0x180 then w.csc else if off = 0x184 then w.blend
  else if off = 0x188 then w.keyLo else if off = 0x18C then w.keyHi
  else if 0x140 ≤ off ∧ off < 0x180 then tabGet w.pal ((off - 0x140) / 4) else 0

/-- R215: what a read of offset `off` of slot `x`'s window returns to a function that holds the slot. -/
def State.llwRead (s : State) (x off : Nat) : Nat :=
  match s.slotEntry x with
  | none => 0
  | some (_, _, e) =>
    if off = 0x40 then s.llwActive x else if off = 0x44 then s.llwStatus x else if off = 0x48 then (s.slot x).nrCount.toNat
    else if 0x80 ≤ off ∧ off < 0xA0 then e.box ((off - 0x80) / 4)
    else ((s.slot x).shadow.reg (off / 4 * 4)).toNat

/-- R200: a write of one register of slot `x`'s window by function `f`. -/
def writeWindow (f x off : Nat) (v : Word) (s : State) : State :=
  match s.slotEntry x with
  | none => s
  | some (g, _, _) =>
    if (Llw.mask off).isNone then s
    else if s.locked g then s.countLate g
    else s.putShadow f x off v

/-- R123, R124, R200: a live-window register write. -/
def execLlwWrite (fn : Fin 16) (slot : BitVec 13) (offset : BitVec 9) (value : Word) (s : State) : Host.Outcome State Fault Refusal :=
  if !s.barOpen fn then done s else
  let s := s.bar0
  if offset.toNat % 4 ≠ 0 ∨ !s.hasSlot fn slot.toNat then done (s.denied fn)
  else done (writeWindow fn slot.toNat offset.toNat value s)

/-! ### Surfaces -/

/-- R249: copies a surface occupies. -/
def copiesOf (flags : Nat) : Nat := if bitOf 3 flags then 2 else 1

/-- R222: the first parameter of a descriptor that breaks a rule, by its byte offset in SURF_ALLOC. -/
def State.surfBad (s : State) (f : Fmt) (x : Surface) : Option Nat :=
  let n := x.bytes * copiesOf x.flags.toNat
  let host := x.flags.getLsbD 0
  if x.width = 0 ∨ 32768 < x.width ∨ (f.subH ∧ x.width % 2 ≠ 0) then some 2
  else if x.height = 0 ∨ 32768 < x.height ∨ (f.subV ∧ x.height % 2 ≠ 0) then some 4
  else if x.addr % (if host then 64 else 256) ≠ 0 then some 8
  else if host ∧ 2 ^ 64 < x.addr + n then some 8
  else if !host ∧ (!s.memMapped x.addr n ∨ !s.clearOfStore x.addr n) then some 8
  else if x.stride % 64 ≠ 0 ∨ x.stride < leastStride f x.width ∨ 2 ^ 24 < x.stride then some 16
  else if f.plane1 ≠ 0 ∧ (x.plane1 % 256 ≠ 0 ∨ x.plane1 < x.stride * x.height) then some 20
  else none

/-- R221: the lowest free handle. -/
def State.freeHandle (s : State) : Option Nat := (List.range 65535).find? fun h => !(s.surf h).allocated

/-- R249: SURF_ALLOC. -/
def execSurfAlloc (c : KcpCtx) (format width height : Half) (flags : Byte) (address : Long) (stride plane1 : Word) (handle : Half)
    (s : State) : Host.Outcome State Fault Refusal :=
  kcp 0x0200 c (fun f s =>
    let s := s.bgAdvance
    match fmtOf format.toNat with
    | none => badParam 0 s
    | some fm =>
      let st := if stride = 0 then leastStride fm width.toNat else stride.toNat
      let x : Surface :=
        { allocated := true, format := format.toNat, width := width.toNat, height := height.toNat, flags := flags &&& 0xF, owner := f,
          addr := address.toNat, stride := st, plane1 := if fm.plane1 = 0 then 0 else if plane1 = 0 then st * height.toNat else plane1.toNat }
      let n := x.bytes * copiesOf flags.toNat
      match s.surfBad fm x with
      | some o => badParam o s
      | none =>
        if flags.getLsbD 0 ∧ !s.hasHostMem f then refuse .notGranted 3 s
        else if !flags.getLsbD 0 ∧ !s.memRangeInit address.toNat n then refuse .state 0 s
        else if handle ≠ 0xFFFF ∧ (s.surf handle.toNat).allocated then refuse .state 0 s
        else
          match (if handle = 0xFFFF then s.freeHandle else some handle.toNat) with
          | none => refuse .noResource 0 s
          | some h => replyOk (s.modSurf h fun _ => x) (leBytes 2 h ++ [BitVec.ofNat 8 x.port, 0] ++ leBytes 8 n)) s

/-- R249: the slots whose window, as `view` gives it, names a handle as its surface or its atlas. -/
def State.namedBy (s : State) (h : Nat) (view : SlotSt → Option Llw) : List Nat :=
  (s.seq.slots.filter fun e => (s.slotEntry e.1).isSome &&
    (match view e.2 with | some w => w.surfaceHandle == h || w.atlasHandle == h | none => false)).map (·.1)

/-- R249: SURF_FREE. -/
def execSurfFree (c : KcpCtx) (handle : Half) (s : State) : Host.Outcome State Fault Refusal :=
  kcp 0x0201 c (fun f s =>
    let h := handle.toNat
    let x := s.surf h
    let shadow := s.namedBy h fun c => some c.shadow
    let pending := s.namedBy h fun c => c.pending
    let active := s.namedBy h fun c => some c.active
    let target := s.dma.wb.any fun e => e.2.targets.contains h
    if !s.mayUse f h then badParam 0 s
    else if x.inUse || x.made != 0 || !shadow.isEmpty || !pending.isEmpty || !active.isEmpty || target then refuse .state 0 s
    else replyOk (s.modSurf h fun _ => {})) s

/-- R249: what SURF_QUERY reports of a handle; an ingest handle stands for its source's ring. -/
def State.surfView (s : State) (h : Nat) : Surface :=
  let x := s.surf h
  if x.made = 2 then
    let b := ((allGroups.findSome? s.grpTruss).bind fun t => t.binding 1 x.source).getD default
    let code := (encFormat b.enc).getD 0
    let r := ringBuffer code b.width b.height
    { x with format := code, width := b.width, height := b.height, flags := 2, owner := 0, addr := (s.ing x.source).addr,
             stride := r.1, plane1 := r.2.1 }
  else x

/-- R249: SURF_QUERY. -/
def execSurfQuery (c : KcpCtx) (handle : Half) (s : State) : Host.Outcome State Fault Refusal :=
  kcp 0x0202 c (fun f s =>
    let h := handle.toNat
    if !s.mayUse f h then badParam 0 s
    else
      let x := s.surfView h
      let shadow := s.namedBy h fun c => some c.shadow
      let pending := s.namedBy h fun c => c.pending
      let active := s.namedBy h fun c => some c.active
      let use := packBits [(0, 1, b2n (!active.isEmpty)), (1, 1, b2n (!pending.isEmpty)), (2, 1, b2n (!shadow.isEmpty))]
      replyOk s (leBytes 2 x.format ++ leBytes 2 x.width ++ leBytes 2 x.height ++ [x.flags, BitVec.ofNat 8 x.owner] ++ leBytes 8 x.addr ++
        leBytes 4 x.stride ++ leBytes 4 x.plane1 ++ [BitVec.ofNat 8 x.port, BitVec.ofNat 8 use, 0, 0] ++
        leBytes 2 (sortedDistinct (active ++ pending ++ shadow)).length)) s

/-- R249: a window of another function names the handle. -/
def State.namedByOther (s : State) (h owner : Nat) : Bool :=
  let all := s.namedBy h (fun c => some c.shadow) ++ s.namedBy h (fun c => c.pending) ++ s.namedBy h (fun c => some c.active)
  all.any fun x => !s.hasSlot owner x || (List.range 15).any fun i => i + 1 != owner && rangeCovers (s.fn (i + 1)).slots x

/-- R249: SURF_SHARE. -/
def execSurfShare (c : KcpCtx) (handle : Half) (share : Byte) (s : State) : Host.Outcome State Fault Refusal :=
  kcp 0x0203 c (fun f s =>
    let h := handle.toNat
    if !s.mayUse f h then badParam 0 s
    else if 1 < share.toNat then badParam 2 s
    else if share = 0 ∧ s.namedByOther h (s.surf h).owner then refuse .state 0 s
    else replyOk (s.modSurf h fun x => { x with flags := putBit x.flags 1 (share == 1) })) s

/-! ### Layers -/

/-- R249, R215: a command that names a slot: NOT_GRANTED without the grant, STATE when the running truss lacks it. -/
def withSlot (f x : Nat) (s : State) (go : Nat → Truss → TSlot → Reply) : Reply :=
  if !s.hasSlot f x then refuse .notGranted 0 s
  else match s.slotEntry x with
    | none => refuse .state 0 s
    | some (g, t, e) => go g t e

/-- R146, R200: a write of shadow-set content: LATE_WRITE while the set is locked. -/
def unlocked (g : Nat) (s : State) (go : State → Reply) : Reply :=
  if s.locked g then refuse .lateWrite g (s.countLate g) else go s

/-- Function `f` writes several registers of a slot's shadow window: offset and value. -/
def putAll (f x : Nat) (regs : List (Nat × Word)) (s : State) : State :=
  regs.foldl (fun (s : State) r => s.putShadow f x r.1 r.2) s

/-- R249: LAYER_SET. -/
def execLayerSet (c : KcpCtx) (slot mask : Half) (values : List Word) (s : State) : Host.Outcome State Fault Refusal :=
  kcp 0x0210 c (fun f s =>
    withSlot f slot.toNat s fun g _ _ =>
      if 511 < mask.toNat then badParam 2 s
      else unlocked g s fun s =>
        replyOk (putAll f slot.toNat (((List.range 9).filter fun k => mask.getLsbD k).map fun k => (4 * k, values.getD k 0)) s)) s

/-- R249: LAYER_SET_TYPE. -/
def execLayerSetType (c : KcpCtx) (slot : Half) (first count : Byte) (values : List Word) (s : State) : Host.Outcome State Fault Refusal :=
  kcpRun 0x0211 (boundedExtra 4 11 count.toNat) ((kcpFind 0x0211).getD default).inSafe c (fun f s =>
    withSlot f slot.toNat s fun g _ _ =>
      let offs := (List.range count.toNat).map fun i => 0x100 + 4 * (first.toNat + i)
      if 31 < first.toNat then badParam 2 s
      else if count = 0 ∨ 11 < count.toNat then badParam 3 s
      else if offs.any fun o => (Llw.mask o).isNone || decide (0x180 ≤ o) then badParam 2 s
      else unlocked g s fun s => replyOk (putAll f slot.toNat (offs.zipIdx.map fun o => (o.1, values.getD o.2 0)) s)) s

/-- R249: LAYER_QUERY. -/
def execLayerQuery (c : KcpCtx) (slot : Half) (s : State) : Host.Outcome State Fault Refusal :=
  kcp 0x0212 c (fun f s =>
    withSlot f slot.toNat s fun _ _ _ =>
      let x := slot.toNat
      let q := s.slot x
      replyOk s (leBytes 4 (s.llwActive x) ++ leBytes 4 (s.llwStatus x) ++ leBytes 4 q.nrCount.toNat ++ leBytes 4 q.patched.toNat ++
        leBytes 2 q.patchedLast.toNat ++ [0, 0] ++ leBytes 4 q.discarded.toNat ++ leBytes 4 q.poisoned.toNat ++ leBytes 4 q.late.toNat ++
        leBytes 2 q.budgetFrames.toNat ++ leBytes 2 q.glyphFrames.toNat)) s

/-! ### Cells -/

/-- R250: writes cells into one copy of a map: cell index and entry. -/
def State.writeCells (h copy cols : Nat) (cells : List (Nat × Nat)) (s : State) : State :=
  let m := s.surf h
  let n := mapBytes m.format
  cells.foldl (fun (s : State) c =>
    let a := m.addr + copy * m.bytes + c.1 / max 1 cols * m.stride + c.1 % max 1 cols * n
    if m.flags.getLsbD 0 then s.hostWrite a (leBytes n c.2) {} else s.memWrite a (leBytes n c.2)) s

/-- R250: the cells of a deferred cell write: slot, handle, columns and cells. -/
def SillOp.cellWrite : SillOp → Option (Nat × Nat × Nat × List (Nat × Nat))
  | .cells slot h cols first es => some (slot, h, cols, es.zipIdx.map fun e => (first + e.2, e.1))
  | .fill slot h cols first count e => some (slot, h, cols, (List.range count).map fun i => (first + i, e))
  | .lay slot h cols l => some (slot, h, cols, l)
  | _ => none

/-- R147: puts a command off until `wait` sills of the group have passed. A cell write due at the next sill goes into the copy
that is not shown at once (R250). -/
def State.deferAt (g wait f : Nat) (op : SillOp) (s : State) : State :=
  let s := s.modSeq fun q => { q with deferred := q.deferred ++ [{ group := g, wait := wait, fn := f, op := op }] }
  match op.cellWrite with
  | some (_, h, cols, cells) => if wait = 0 then s.writeCells h (1 - (s.surf h).copy) cols cells else s
  | none => s

/-- R147: puts a command off to the group's first sill whose cutoff has not passed. -/
def State.defer (g f : Nat) (op : SillOp) (s : State) : State := s.deferAt g (s.usableWait g) f op

/-- R249, R250: the map a slot shows, when cells may be written to it: its handle, columns and rows. -/
def State.cellMap (s : State) (e : TSlot) : Option (Nat × Nat × Nat) :=
  let w := (s.slot e.slot).active
  let m := s.surf w.surfaceHandle
  if e.type = 1 ∧ w.surfaceHandle ≠ 0xFFFF ∧ m.allocated ∧ m.flags.getLsbD 3 ∧ (m.format = 0x50 ∨ m.format = 0x51) then
    some (w.surfaceHandle, w.cols, w.rows)
  else none

/-- R250: accepts a cell write on a slot; answers the frame at which it applies. -/
def cellReply (f g : Nat) (op : SillOp) (s : State) : Reply :=
  let n := s.frameAfter g (s.usableWait g)
  replyOk (s.defer g f op) (leBytes 4 n.toNat)

/-- R249: bytes of an entry of the map that a slot shows. -/
def State.entryBytes (s : State) (x : Nat) : Nat :=
  if (s.surf (s.slot x).active.surfaceHandle).format = 0x50 then 2 else 4

/-- R249, R250: CELL_WRITE. -/
def execCellWrite (c : KcpCtx) (slot : Half) (count : Byte) (first : Word) (entries : List Word) (s : State) :
    Host.Outcome State Fault Refusal :=
  kcpRun 0x0220 (boundedExtra (s.entryBytes slot.toNat) (40 / s.entryBytes slot.toNat) count.toNat) ((kcpFind 0x0220).getD default).inSafe c (fun f s =>
    withSlot f slot.toNat s fun g _ e =>
      match s.cellMap e with
      | none => refuse .state 0 s
      | some (h, cols, rows) =>
        let n := s.entryBytes slot.toNat
        if count = 0 ∨ 40 / n < count.toNat then badParam 2 s
        else if cols * rows < first.toNat + count.toNat then badParam 4 s
        else cellReply f g (.cells e.slot h cols first.toNat ((List.range count.toNat).map fun i => (entries.getD i 0).toNat % 2 ^ (8 * n))) s) s

/-- R249, R250: CELL_FILL. -/
def execCellFill (c : KcpCtx) (slot : Half) (first count entry : Word) (s : State) : Host.Outcome State Fault Refusal :=
  kcp 0x0221 c (fun f s =>
    withSlot f slot.toNat s fun g _ e =>
      match s.cellMap e with
      | none => refuse .state 0 s
      | some (h, cols, rows) =>
        if cols * rows ≤ first.toNat then badParam 4 s
        else if cols * rows < first.toNat + count.toNat then badParam 8 s
        else cellReply f g (.fill e.slot h cols first.toNat count.toNat (entry.toNat % 2 ^ (8 * s.entryBytes e.slot))) s) s

end Sys2Proof.Machine
end

