-- ==== Sys2Proof/Machine/AdtOps.lean ====
section
/-! DEFINITION. The display transport's shared parts: digests, sessions, what a received datagram must pass, the announced set, and slices
on their way (R316–R347). -/

namespace Sys2Proof.Machine

/-! ### CRC-64 (R330) -/

/-- R337: the CRC-64 over digests in slice order, each as 8 bytes, most significant first. -/
def digestsOf (ds : List Nat) : Nat := (crc64 (ds.flatMap fun d => beBytes 8 d)).toNat

/-! ### Sessions -/

/-- R337: every held digest of a session becomes 0, unknown. -/
def resetHeld (k : Nat) (s : State) : State := s.modPeer k fun p => { p with held := [], fresh := true }

/-- R326, R344, R348: a session ends; the peer's record keeps the reason. -/
def closeSession (k reason : Nat) (s : State) : State :=
  if !(s.peer k).inSession then s
  else
    let s := keepRtag k (s.peerState k 0 reason)
    let s := s.modAdt fun a => { a with buffer := a.buffer.filter fun x => x.endpoint != k }
    s.modPeer k fun p => { (default : Peer) with reason := p.reason, holdOff := p.holdOff, bound := p.bound, blank := p.blank, stop := p.stop, addr := p.addr,
                                                  port := p.port, lastFrame := p.lastFrame }

/-- R326: sends LEAVE and ends the session. -/
def leaveSession (k reason : Nat) (s : State) : State :=
  if !(s.peer k).inSession then s else closeSession k reason (s.adtSend k "LEAVE" 4 [reason])

/-- R331, R336, R340, R341: frames are announced to an endpoint: in session, neither holding nor blanked. -/
def State.follows (s : State) (k : Nat) : Bool := (s.peer k).inSession && (s.peer k).holding == 0 && (s.blankOn k).isNone

/-- R344: slices may be sent to an endpoint: it is live as well. -/
def State.receives (s : State) (k : Nat) : Bool := s.follows k && (s.peer k).state != 3

/-- R325, R338, R347: repair is enabled in a session: from version 1.1, and of a source only where its binding permits it and it can retransmit. -/
def Peer.repairable (p : Peer) (k : Nat) (b : TBinding) : Bool :=
  decide (0x11 ≤ p.version) && (decide (k < 1024) || (bitOf 3 b.flags && bitOf 5 p.hello.caps))

/-- R340: tells an endpoint to hold: reason 0 group stopped, 1 output not in the running variant, 2 host request. -/
def sendHold (k reason : Nat) (s : State) : State :=
  if !(s.peer k).inSession || (s.peer k).holding == reason + 1 || (s.blankOn k).isSome || s.planGated || (s.pll 9).gated then s
  else
    let s := (s.adtSend k "HOLD" 12 [(s.peer k).kept.toNat, 0, reason]).count 244
    (s.modPeer k fun p => { p with holding := reason + 1, holdEnd := 0 }).liveAgain k

/-- R340: an endpoint's hold ends: its next ANNOUNCE or SWAP ends it at the peer. -/
def endHold (k : Nat) (s : State) : State :=
  if (s.peer k).holding = 0 then s else (s.modPeer k fun p => { p with holding := 0, holdEnd := 0 }).liveAgain k

/-- R340, R341: what an endpoint whose session has just opened, or whose blank has ended, must show: the safe field, a host blank, or its picture
held while its group is stopped or its output not in the running variant. -/
def settleEndpoint (k : Nat) (s : State) : State :=
  if 1024 ≤ k ∨ !(s.peer k).inSession then s
  else if s.flt.safe then s.sendBlank k (s.safeBlank 0)
  else if s.seq.running = 0 then s.sendBlank k (s.safeBlank 1)
  else
    match s.blankOn k, s.endpoint k with
    | some b, _ => s.sendBlank k b
    | none, some (g, t, o) => if t.keepsOut (s.group g).variant o then s else sendHold k 1 s
    | none, none => sendHold k 0 s

/-- R341: an endpoint's blank ends: its held digests are reset. -/
def endBlank (k : Nat) (s : State) : State :=
  if (s.peer k).blank.isNone then s
  else settleEndpoint k ((resetHeld k (s.modPeer k fun p => { p with blank := none, blankDue := 0 })).liveAgain k)

/-- R341, R411: the bulletin starts or ends in a group: host blanks of its endpoints are lifted, or sent again. -/
def bulletinBlanks (g : Nat) (s : State) : State :=
  s.openEndpoints.foldl (fun (s : State) k =>
    match (s.peer k).blank, s.endpoint k with
    | some b, some (g', _, _) =>
      if g' ≠ g ∨ b.reason ≠ 2 then s
      else if tabGet s.svc.inForce g ≠ 0 then settleEndpoint k ((resetHeld k s).liveAgain k)
      else s.sendBlank k b
    | _, _ => s) s

/-! ### Receiving -/

/-- R346: a sequence number is accepted: the highest and those seen below it, or none. -/
def seqAccept (p : Peer) (n : Word) : Option (Word × List Nat) :=
  let up := (n - p.rxHigh).toNat
  let down := (p.rxHigh - n).toNat
  if up ≠ 0 ∧ up < 2 ^ 31 then some (n, ((p.rxSeen.map (· + up)) ++ [up]).filter fun d => decide (d ≤ 4096))
  else if 1 ≤ down ∧ down ≤ 4096 ∧ !p.rxSeen.contains down then some (p.rxHigh, down :: p.rxSeen)
  else none

/-- R317: answers a datagram of an unknown session, once a second for each source address. -/
def answerUnknown (d : AdtDgram) (s : State) : State :=
  let s := s.count 250
  let last := tabGet s.adt.rejected d.addr
  if last ≠ 0 ∧ s.now < last - 1 + secNs 1 then s
  else
    let s := s.modAdt fun a => { a with rejected := tabSet a.rejected d.addr (s.now + 1) }
    (s.sendIp d.eth 1 d.addr { wire := 122, what := "REJECT", dest := d.addr, fields := [d.addr, d.udp, d.session.toNat, 3, 0x10, 0x20, 0] }).count 241

/-- R317, R346: a datagram of a session other than a HELLO: the peer it comes from, when it passes every check. `source` and `since` say which
peers and versions its type belongs to, `sizeOk` whether its body has the size its type requires. -/
def adtTake (source : Option Bool) (since : Nat) (sizeOk : Bool) (d : AdtDgram) (s : State) : Option Nat × State :=
  if !s.adtPort d.eth then (none, s.rxDiscard d.eth (s.adtWire d.eth d.size {}))
  else
    let s := s.rxFrame d.eth (s.adtWire d.eth d.size {})
    if d.fragmented then (none, s)
    else if d.magic ≠ 0x4144 ∨ !(d.version = 0x10 ∨ d.version = 0x11 ∨ d.version = 0x20) ∨ d.version.toNat < since ∨ d.len.toNat ≠ d.size ∨ !sizeOk ∨
        d.session = 0 then (none, s.count 249)
    else
      match s.adt.peers.find? fun e => e.2.id == d.session.toNat with
      | none => (none, answerUnknown d s)
      | some (k, p) =>
        let kind := match source with | some b => b == decide (1024 ≤ k) | none => true
        if !kind || p.addr != d.addr || p.port != d.udp || p.version != d.version.toNat then (none, s.count 249)
        else
          match seqAccept p d.seq with
          | none => (none, (s.count 249).count 239)
          | some (high, seen) =>
            let s := (s.learn d.eth d.addr d.mac).modPeer k fun p => { p with rxHigh := high, rxSeen := seen, eth := d.eth, lastValid := s.now }
            (some k, if p.state = 3 then s.peerState k (s.liveState k) 0 else s)

/-! ### The announced set -/

/-- The slices of an output that meet a rectangle of it. -/
def TOutput.slicesOf (o : TOutput) (r : Rect) : List Nat :=
  if r.w = 0 ∨ r.h = 0 then []
  else
    let rows := (List.range o.rows).filter fun i => decide (i * o.strip < r.y + r.h) && decide (r.y < (i + 1) * o.strip)
    let cols := (List.range o.perRow).filter fun c => decide (c * o.sliceW < r.x + r.w) && decide (r.x < (c + 1) * o.sliceW)
    rows.flatMap fun i => cols.map fun c => i * o.perRow + c

/-- The slices of an output. -/
def TOutput.sliceCount (o : TOutput) : Nat := o.perRow * o.rows

/-- R332: the sill that comes is one at which an arm of the group, a command of R147, a variant or a truss takes effect. -/
def GroupSt.armedNow (c : GroupSt) : Bool := match c.arm with | some a => a.wait == 0 | none => false

/-- R332: every slice of endpoint `k` is announced for the next frame. -/
def State.fullSet (s : State) (k g : Nat) (t : Truss) (o : Nat) : Bool :=
  let c := s.group g
  let e := (t.group g).getD {}
  (e.k != 0 && ((s.frameAfter g 0).toNat + k) % e.k == 0) || (s.peer k).fresh ||
    (match c.variantNext with | v :: _ => v.2 == 0 | [] => false) || (match c.switchTo with | some x => decide (x.2 ≤ c.nextAt) | none => false) ||
    (c.armedNow && !(tabGet s.seq.colourDirty (65536 * (c.store - 1) + o)).isEmpty)

/-- R332: the slot's rectangles are announced for the next frame, whatever its slices hold. -/
def State.slotMoves (s : State) (g : Nat) (e : TSlot) : Bool :=
  let c := s.slot e.slot
  let due := fun (p : SillOp → Bool) => s.seq.deferred.any fun d => d.group == g && d.wait == 0 && p d.op
  c.unpublished || (s.group g).armedNow || c.pending.isSome || c.shown != .window || c.stale || c.heldFrames != 0 ||
    (tabGet s.svc.mosaics e.slot).shows != .frame ||
    due (fun op => match op.cellWrite with | some (x, _) => x == e.slot | none => (match op with | .scale x _ => x == e.slot | .mosaic x _ => x == e.slot | _ => false)) ||
    (e.pos == 15 && due fun op => match op with | .bulletin _ _ => true | _ => false) ||
    (e.type == 3 && (s.peer (1024 + e.source)).inSession)

/-- R332: A(n) of endpoint `k` for the frame that the next sill begins, ascending. -/
def State.announced (s : State) (k g : Nat) (t : Truss) (o : Nat) : List Nat :=
  let out := t.output o
  if s.fullSet k g t o then List.range out.sliceCount
  else
    let moved := ((t.groupSlots g).filter fun e => e.out == o && s.slotMoves g e).flatMap fun e =>
      let c := s.slot e.slot
      (out.slicesOf c.active.dst ++ out.slicesOf c.shadow.dst) ++ (match c.pending with | some w => out.slicesOf w.dst | none => [])
    (List.range out.sliceCount).filter fun i => moved.contains i || (s.peer k).dirty.contains i

/-- R331: time valid: the time base is locked or grandmaster, and the group's sills lie on network time. -/
def State.timeValid (s : State) (g : Nat) : Bool :=
  (s.clk.mode == 1 || s.clk.mode == 3) && (match (s.grpTruss g).bind fun t => t.group g with | some e => e.base == 0 | none => false)

/-- R342, R415: the bulletin flags are set, from recognition until the bulletin has ended everywhere. -/
def State.bulletinOn (s : State) : Bool := !s.svc.raises.isEmpty || allGroups.any fun g => tabGet s.svc.inForce g != 0

/-- R343: sends a HEARTBEAT. -/
def sendBeat (k : Nat) (s : State) : State :=
  let net := ((s.clk.plan : Int) + s.clk.ntOffset).toNat
  let flags := packBits [(0, 1, b2n (s.clk.mode == 1 || s.clk.mode == 3)), (1, 1, b2n s.bulletinOn), (2, 1, b2n s.flt.safe),
    (3, 1, b2n ((s.peer k).holding != 0))]
  s.adtSend k "HEARTBEAT" 16 [net, s.adtCfg.inst.toNat, flags]

/-- R331: sends an endpoint the ANNOUNCE it holds; flag [3] marks an update. -/
def sendAnnounce (k : Nat) (update : Bool) (s : State) : State :=
  match s.endpoint k with
  | none => s
  | some (_, t, o) =>
    let p := s.peer k
    let n := (t.output o).sliceCount
    let full := decide (p.ann.length = n)
    let flags := packBits [(0, 1, b2n p.annValid), (1, 1, b2n full), (2, 1, b2n s.bulletinOn), (3, 1, b2n update)]
    let at' := if p.annValid then ((p.annTime : Int) + s.clk.ntOffset).toNat else 0
    (s.adtSend k "ANNOUNCE" (16 + (if full then 0 else ceilDiv n 8)) ([p.annFrame.toNat, at', flags, p.ann.length] ++ if full then [] else p.ann)).count 236

/-- R331, R332: builds and sends the ANNOUNCE of endpoint `k` for the frame that the next sill begins. -/
def announce (k g : Nat) (t : Truss) (o : Nat) (s : State) : State :=
  let set := s.announced k g t o
  let c := s.group g
  let period := match t.group g with | some e => framePeriod t.h e c.nextJ | none => 0
  let s := s.modPeer k fun p =>
    { p with ann := set, annFrame := s.frameAfter g 0, annTime := c.nextAt + period, annValid := s.timeValid g, fresh := p.state == 3,
             dirty := p.dirty.filter fun i => !set.contains i }
  sendAnnounce k false s

/-! ### Slices -/

/-- R333: slices of endpoint `k` to be announced again. -/
def markDirty (k : Nat) (is : List Nat) (s : State) : State :=
  s.modPeer k fun p => { p with dirty := p.dirty ++ is.filter fun i => !p.dirty.contains i }

/-- R328: the codes of columns of a strip, plane by plane. -/
def stripCodes (enc x0 w : Nat) (st : Strip) : List Nat :=
  let sub := decide (2 ≤ encChroma enc)
  let cut := fun (p : List (List Nat)) (half : Bool) => p.flatMap fun l => if half then (l.drop (x0 / 2)).take (w / 2) else (l.drop x0).take w
  cut st.a false ++ cut st.b sub ++ cut st.c sub

/-- R334: the deadline of a group's frame for slices of endpoint `k`: P(n) − tSLK. -/
def State.slackAt (s : State) (k g : Nat) : Nat := (s.group g).nextAt - usNs ((s.peerBinding k).getD {}).tslk

/-- R329: body sizes of the fragments of a slice of endpoint `k`. -/
def State.fragsOf (s : State) (k : Nat) (x : Slice) : List Nat := fragSizes x.payload.length ((s.peerBinding k).getD {}).fragBytes

/-- R316, R329: the fields of one fragment of a slice. -/
def sliceFields (x : Slice) (flags frag offset len : Nat) (count : Nat) : List Nat :=
  [x.n.toNat, x.index, frag, count, x.digest, offset, flags] ++ (((x.payload.drop offset).take len).map (·.toNat))

/-- R339: the repair queue of port `p` would have sent `bytes` more by then. -/
def State.repairBy (s : State) (p bytes since : Nat) : Option Nat :=
  let q := s.queue p 2
  if q.rate = 0 ∨ q.closed then none
  else some (max since s.clk.plan + ceilDiv (((q.frames.map (·.wire)).sum + bytes) * 8000000) q.rate)

/-- R334, R339: sends fragments of a slice in the repair class when they can finish by P(n) − tSLK; answers whether they can. -/
def repairFrags (k g : Nat) (x : Slice) (flags : Nat) (want : Nat → Bool) (since : Nat) (s : State) : Bool × State :=
  let b := (s.peerBinding k).getD {}
  let p := (s.bindingPorts b (s.peer k).version).headD 0
  let sizes := (s.fragsOf k x).zipIdx.filter fun e => want e.2
  let wire := (sizes.map fun e => s.adtWire p (24 + e.1) b).sum
  match s.repairBy p wire since with
  | none => (false, s)
  | some t =>
    if s.slackAt k g < t then (false, s)
    else
      let f := b.fragBytes
      (true, sizes.foldl (fun (s : State) e =>
        s.adtSendBy 2 k "SLICE" (24 + e.1) (sliceFields x flags e.2 (e.2 * f) e.1 (s.fragsOf k x).length)) s)

/-- R350: a slice of endpoint `k` has been sent: counters 224 and 225, 232 in a refresh frame, and what it will hold. -/
def sliceSent (k : Nat) (x : Slice) (s : State) : State :=
  let s := (s.count 224).countUnits 225 64 x.payload.length
  let s := if bitOf 2 x.flags then s.count 232 else s
  s.modPeer k fun p => { p with sentNow := tabSet p.sentNow x.index x.digest, sent := p.sent + 1 }

/-- R334: a slice that is not ready when its mortise opens. -/
def lateSlice (k g : Nat) (x : Slice) (s : State) : State :=
  let r := repairFrags k g x x.flags (fun _ => true) x.readyAt s
  if r.1 then
    (sliceSent k x r.2).modAdt fun a => { a with buffer := (a.buffer.filter fun y => !(y.endpoint == k && y.index == x.index && y.n == x.n)) ++
      [{ x with seq := some (s.peer k).txSeq, ports := List.range 4 }] }
  else markDirty k [x.index] (s.count 231)

/-- R333: what becomes of one encoded slice of a receiving endpoint: kept for its mortise, skipped, or marked dirty. -/
def placeSlice (k g : Nat) (x : Slice) (patched : Bool) (s : State) : State :=
  let p := s.peer k
  let inSet := p.version < 0x11 || (p.annFrame == x.n && p.ann.contains x.index)
  let same := tabGet p.held x.index == x.digest && x.digest != 0
  let keep := fun (x : Slice) (s : State) =>
    if p.opened.any fun e => e.1 == x.row then lateSlice k g x s else s.modAdt fun a => { a with buffer := a.buffer ++ [x] }
  if inSet then keep x (if same && decide (0x11 ≤ p.version) then s.count 227 else s)
  else if same then s.count 226
  else if patched then markDirty k [x.index] (s.count 229)
  else keep { x with flags := x.flags ||| 2 } (markDirty k [x.index] (s.count 228))

/-- R328, R330, R333, R349: a strip of an endpoint output is encoded, slice by slice. -/
def encodeRow (g : Nat) (t : Truss) (i : TItem) (n : Word) (strip : Strip) (patched : Bool) (s : State) : State :=
  let o := t.output i.out
  let k := o.unit
  let e := bitsOf 5 3 i.dest
  let row := (List.range o.perRow).map fun c => i.strip * o.perRow + c
  if s.fenced (40 + e) then markDirty k row s
  else
    let s := (s.countUnits (320 + e) 1024 (o.width * o.strip)).countN (328 + e) o.perRow
    if !s.receives k then s
    else
      let kk := ((t.group g).getD {}).k
      let refresh := kk != 0 && (n.toNat + k) % kk == 0
      (List.range o.perRow).foldl (fun (s : State) c =>
        let codes := stripCodes o.enc (c * o.sliceW) o.sliceW strip
        let payload := Config.dscEncode o.bpp o.enc o.sliceW codes
        placeSlice k g { out := i.out, endpoint := k, n := n, index := i.strip * o.perRow + c, digest := (crc64 payload).toNat, payload := payload,
                         flags := if refresh then 4 else 0, row := i.strip, readyAt := s.clk.plan + encodeGrains o * grain } patched s) s

/-- R363, R346, R354: one slice leaves port `p` in its mortise; a copy on a second port carries the same numbers. Datagrams to a peer that the port
does not know are discarded, and its address is asked for. -/
def burstSlice (p : Nat) (x : Slice) (s : State) : State :=
  let k := x.endpoint
  let b := (s.peerBinding k).getD {}
  let frags := (s.fragsOf k x).zipIdx
  let first := x.seq.isNone
  let seq := match x.seq with | some v => v | none => (s.peer k).txSeq
  let ps := s.bindingPorts b (s.peer k).version
  let s := if first then sliceSent k x (s.modPeer k fun q => { q with txSeq := q.txSeq + BitVec.ofNat 32 frags.length }) else s
  let addr := (s.peer k).addr
  let known := s.resolved p addr
  let s := if known ∨ (tabGet (s.eth p).neighbours addr).tries ≠ 0 then s else s.askNeighbour p addr
  let s := if known then s else s.countN (256 + 8 * p + 7) frags.length
  let s := if !known then s else frags.foldl (fun (s : State) e =>
    let wire := s.adtWire p (24 + e.1) b
    (s.emit (.net ⟨"SLICE", k, [p, (tabGet (s.eth p).neighbours addr).mac] ++ s.adtHead k b.vlan (s.ethCfg p).pcpSlice ps (seq + BitVec.ofNat 32 e.2) ++ sliceFields x x.flags e.2 (e.2 * b.fragBytes) e.1 frags.length⟩)).sentFrame
      p wire 1 false) s
  s.modAdt fun a => { a with buffer := a.buffer.map fun y =>
    if y.endpoint = k ∧ y.index = x.index ∧ y.n = x.n then { y with seq := some seq, ports := p :: y.ports } else y }

/-! ### Presentation -/

/-- R337: at P(n) the slices sent in frame n take their digests as held, and the frame's summary is kept. -/
def settleHeld (k : Nat) (n : Word) (count : Nat) (s : State) : State :=
  s.modPeer k fun p =>
    let held := p.sentNow.foldl (fun t e => tabSet t e.1 (if p.unrepaired.contains e.1 then 0 else e.2)) p.held
    let sum := digestsOf ((List.range count).map fun i => tabGet held i)
    { p with held := held, summaries := ((n.toNat, sum) :: p.summaries).take 32, sentNow := [], unrepaired := [], repairedNow := 0, opened := [] }

/-- R336: a SWAP is sent to an endpoint at P(n). -/
def Peer.wantsSwap (p : Peer) (n : Word) : Bool :=
  decide (p.version < 0x20) || !p.flags.getLsbD 0 || (!p.annValid && p.annFrame == n)

/-- R336, R337, R348: frame `n` of a group is presented at its sill by endpoint `k`. -/
def present (k : Nat) (n : Word) (count : Nat) (s : State) : State :=
  let s := settleHeld k n count s
  let mine := fun (x : Slice) => x.endpoint == k && x.n == n
  let unsent := (s.adt.buffer.filter fun x => mine x && x.seq.isNone).map (·.index)
  let s := markDirty k unsent (s.modAdt fun a => { a with buffer := a.buffer.filter fun x => !mine x })
  if !s.follows k then s
  else
    let s := if (s.peer k).wantsSwap n then (s.adtSend k "SWAP" 8 [n.toNat, 0]).count 237 else s
    (s.modPeer k fun p => { p with presented := true, kept := n }).liveAgain k

end Sys2Proof.Machine
end

