-- ==== Sys2Proof/Machine/Adt.lean ====
section
/-! DEFINITION. The display transport: beacons, sessions, heartbeats, announcements, slice bursts, repairs, blanks, and its commands
(R315–R351). -/

namespace Sys2Proof.Machine

/-! ### Beacons and sessions -/

/-- R316: the key of a peer by its kind and number. -/
def peerKey (source : Bool) (number : Nat) : Nat := if source then 1024 + number % 256 else number % 1024

/-- R322: where port `p` sends its beacons, and from which of its addresses: on each Internet Protocol it has an address for; a group that ADT_CONFIG
sets belongs to one of the two. -/
def State.beaconTo (s : State) (p : Nat) : List (Nat × Nat) :=
  let c := s.ethCfg p
  let g := s.adtCfg.group
  let v4 := if c.ipv4 = 0 ∨ 2 ^ 32 ≤ g then [] else [(if g = 0 then leNat [239, 193, 86, 10] else g, c.ipv4)]
  let v6 := if c.ipv6 = 0 ∨ (g ≠ 0 ∧ g < 2 ^ 32) then [] else
    [(if g = 0 then leNat ([0xFF, 0x05] ++ zeros 12 ++ [0x86, 0x10]) else g, c.ipv6)]
  v4 ++ v6

/-- R322: the GM8 sends a BEACON on each port that carries ADT, and sets the instant of the next. -/
def execBeaconTimer (s : State) : Host.Outcome State Fault Refusal :=
  if s.boot.phase != .running then done s else
  let s := s.untilAon s.adt.beaconDue
  let first := s.adt.portsUp != 0 && decide (s.now < s.adt.portsUp - 1 + secNs 1)
  let s := s.modAdt fun a => { a with beaconDue := s.now + (if first then msNs 50 else secNs 1) }
  if !s.adtCfg.beacon then done s
  else
    let net := ((s.clk.plan : Int) + s.clk.ntOffset).toNat
    let flags := packBits [(0, 1, b2n (s.clk.mode == 1 || s.clk.mode == 3)), (1, 1, b2n s.flt.safe)]
    done ((List.range 4).foldl (fun (s : State) p =>
      if s.adtPort p then
        (s.beaconTo p).foldl (fun (s : State) (e : Nat × Nat) =>
          s.enqueue p 1 { wire := s.adtWire p 44 {}, what := "BEACON", dest := e.1,
                          fields := [0x20, leNat deviceId, s.adtCfg.inst.toNat, 0x10, 0x20, s.adtCfg.port, net, flags, e.2] }) s
      else s) s)

/-- R324: the binding that a HELLO's role and peer ID name in the running truss, with what ADT_BIND has put in its place: its key, whether its
address is fixed, and the address. -/
def State.bindingOf (s : State) (role peer : Nat) : Option (Nat × TBinding × Bool × Nat) :=
  s.running.bind fun t =>
    (t.bindings.filter fun b => b.kind == role).findSome? fun b =>
      let k := if b.kind = 1 then 1024 + b.num else b.num
      match (s.peer k).bound with
      | some (fixed, id, addr) => if id = peer then some (k, b, fixed, addr) else none
      | none => if b.peer = peer then some (k, b, bitOf 1 b.flags, b.addr) else none

/-- R324: the version chosen, none without a common one. -/
def chooseVersion (h : Hello) (b : TBinding) : Option Nat :=
  let lo := max h.lowest b.lowest
  let hi := min h.highest 0x20
  [0x20, 0x11, 0x10].find? fun v => decide (lo ≤ v) && decide (v ≤ hi)

/-- The stream of a peer: width, height, slice width and height, encoding, bits per pixel, frame period in ns, K, group. -/
structure Stream where
  width : Nat := 0
  height : Nat := 0
  sliceW : Nat := 0
  sliceH : Nat := 0
  enc : Nat := 0
  bpp : Nat := 0
  period : Nat := 0
  k : Nat := 0
  group : Nat := 0
  deriving DecidableEq, Repr, Inhabited

/-- R325: the stream of peer `k` in the running trusses. -/
def State.stream (s : State) (k : Nat) : Stream :=
  if k < 1024 then
    match s.endpoint k with
    | some (g, t, o) =>
      let x := t.output o
      let e := (t.group g).getD {}
      { width := x.width, height := x.height, sliceW := x.sliceW, sliceH := x.strip, enc := x.enc, bpp := x.bpp,
        period := t.h * grain / max 1 e.f, k := e.k, group := g }
    | none => {}
  else
    let b := (s.peerBinding k).getD {}
    { width := b.width, height := b.height, sliceW := b.sliceW, sliceH := b.sliceH, enc := b.enc, bpp := b.bpp, period := b.period * 1000 }

/-- R324: the stream needs more than the HELLO offers. -/
def beyondHello (x : Stream) (b : TBinding) (h : Hello) : Bool :=
  (encChroma x.enc == 3 && !bitOf 2 h.caps) || (encChroma x.enc == 2 && !bitOf 3 h.caps) || (decide (8 < encBits x.enc) && !bitOf 4 h.caps) ||
    decide (h.maxSlice < x.sliceW) || decide (h.maxWidth < x.width) || decide (h.maxHeight < x.height) || decide (h.maxFrag < b.fragBytes)

/-- R324: the reason to reject a HELLO, or the version to accept it at. -/
def State.helloAnswer (s : State) (d : AdtDgram) (h : Hello) : Nat ⊕ (Nat × TBinding × Nat) :=
  match s.bindingOf h.role h.peer with
  | none => .inl 2
  | some (k, b, fixed, addr) =>
    if fixed ∧ d.addr ≠ addr then .inl 2
    else
      match chooseVersion h b with
      | none => .inl 5
      | some v =>
        let p := s.peer k
        if b.tslk < h.tslk ∨ (bitOf 2 b.flags ∧ (v < 0x20 ∨ !bitOf 1 h.caps)) then .inl 6
        else if beyondHello (s.stream k) b h then .inl 7
        else if p.inSession ∧ p.state ≠ 3 ∧ p.addr ≠ d.addr then .inl 4
        else if p.holdOff ≠ 0 ∧ s.now < p.holdOff - 1 then .inl 8
        else .inr (k, b, v)

/-- R328: what the picture parameter set of a stream says: version 1.2, bits per component, line buffer depth, block prediction, variable bit rate,
conversion from RGB, native 4:2:2, native 4:2:0, simple 4:2:2, bits per pixel, picture and slice size, and slice chunk size. Its rate-control parameters
are DSC 1.2b's. -/
def Stream.pps (x : Stream) : List Nat :=
  [0x12, encBits x.enc, encBits x.enc + 1, 1, 0, b2n (encChroma x.enc == 0), b2n (encChroma x.enc == 2), b2n (encChroma x.enc == 3), 0, x.bpp,
    x.width, x.height, x.sliceW, x.sliceH, ceilDiv (x.bpp * x.sliceW) 128]

/-- R325: sends ACCEPT; `again` marks a reconfiguration of the session. -/
def sendAccept (k : Nat) (b : TBinding) (again : Bool) (s : State) : State :=
  let p := s.peer k
  let x := s.stream k
  let twice := decide (1 < (s.bindingPorts b p.version).length)
  let flags := packBits [(0, 1, b2n (p.repairable k b)), (1, 1, b2n twice), (2, 1, b2n again), (3, 1, b2n (bitOf 2 b.flags))]
  s.adtSend k "ACCEPT" 168 ([p.version, flags, k % 1024, x.width, x.height, x.sliceW, x.sliceH, x.enc, x.bpp, b.fragBytes, x.period, x.k, x.group,
    p.heartbeat, p.hold, b.tslk, p.repair, 1, s.adtCfg.inst.toNat] ++ x.pps)

/-- R377: the decoder that the variants in force give a source; 4 for none. -/
def State.decoderNow (s : State) (src : Nat) : Nat := (s.ing src).decoder

/-- R324, R325, R346, R348: an accepted HELLO opens a session. -/
def openSession (k : Nat) (b : TBinding) (v : Nat) (d : AdtDgram) (h : Hello) (s : State) : State :=
  let old := s.peer k
  let r := ((keepRtag k s).modAdt fun a => { a with buffer := a.buffer.filter fun x => x.endpoint != k }).drawHandle
  let s := r.2.modPeer k fun _ =>
    { (default : Peer) with id := r.1.toNat, version := v, addr := d.addr, port := d.udp, eth := d.eth, hello := h, heartbeat := s.adtCfg.heartbeat,
                            repair := s.adtCfg.repair, hold := s.adtCfg.hold, lastValid := s.now, nextBeat := s.now + msNs s.adtCfg.heartbeat, holdOff := 0,
                            bound := old.bound, blank := old.blank, stop := old.stop, state := old.state }
  let s := (sendAccept k b false s).count 242
  let s := if bitOf 0 b.flags ∧ v < 0x20 ∧ k < 1024 then s.count 248 else s
  let s := settleEndpoint k (s.peerState k 1 1)
  let s := if 1024 ≤ k then s.modIng (k - 1024) fun x => { x with now := [], started := 0, prevAt := 0, tooSoon := 0 } else s
  if 1024 ≤ k ∧ s.decoderNow (k - 1024) = 4 then (s.adtSend k "SOURCE_CTRL" 4 [0, 1]).modPeer k fun p => { p with stop := 2 }
  else s.modPeer k fun p => { p with stop := 0 }

/-- R317, R323, R324: a HELLO arrives. -/
def execAdtHelloRx (d : AdtDgram) (hello : Hello) (s : State) : Host.Outcome State Fault Refusal :=
  if !s.adtPort d.eth then done (s.rxDiscard d.eth (s.adtWire d.eth d.size {}))
  else
    let s := s.rxFrame d.eth (s.adtWire d.eth d.size {})
    if d.fragmented then done s
    else if d.magic ≠ 0x4144 ∨ !(d.version = 0x10 ∨ d.version = 0x11 ∨ d.version = 0x20) ∨ d.len ≠ 32 ∨ d.size ≠ 32 ∨ d.session ≠ 0 ∨ d.seq ≠ 0 ∨
        1 < hello.role then done (s.count 249)
    else
      let s := (s.learn d.eth d.addr d.mac).count 240
      match s.helloAnswer d hello with
      | .inr (k, b, v) => done (openSession k b v d hello s)
      | .inl r =>
        let retry := if r = 8 then (match s.bindingOf hello.role hello.peer with | some (k, _) => ceilDiv ((s.peer k).holdOff - 1 - s.now) 1000000000 | none => 0) else 0
        done ((s.sendIp d.eth 1 d.addr { wire := s.adtWire d.eth 8 {}, what := "REJECT", dest := d.addr, fields := [d.addr, d.udp, 0, r, 0x10, 0x20, retry] }).count 241)

/-- R344, R337: a peer's HEARTBEAT: its summary is compared for the frame it names. -/
def execAdtHeartbeatRx (d : AdtDgram) (frame : Word) (summary : Nat) (flags _late : Half) (offset : Int) (s : State) :
    Host.Outcome State Fault Refusal :=
  match adtTake none 0x10 (d.size == 32) d s with
  | (none, s) => done s
  | (some k, s) =>
    let s := s.modPeer k fun p => { p with flags := flags, lastFrame := frame, offset := offset }
    let p := s.peer k
    match (if k < 1024 ∧ 0x11 ≤ p.version then p.summaries.find? fun e => e.1 == frame.toNat else none) with
    | some e =>
      if e.2 = summary then done s
      else done ((resetHeld k (s.modPeer k fun p => { p with mismatches := satInc p.mismatches })).count 238)
    | none => done s

/-- R326: a peer's LEAVE ends its session. -/
def execAdtLeaveRx (d : AdtDgram) (_reason : Half) (s : State) : Host.Outcome State Fault Refusal :=
  match adtTake none 0x10 (d.size == 4) d s with
  | (none, s) => done s
  | (some k, s) => done (closeSession k 9 s)

/-- R343, R344: a HEARTBEAT to a peer every tHB. -/
def execAdtHeartbeatTx (source : Bool) (number : Half) (s : State) : Host.Outcome State Fault Refusal :=
  let k := peerKey source number.toNat
  if !(s.peer k).inSession then done s
  else
    let s := s.untilAon (s.peer k).nextBeat
    done (sendBeat k (s.modPeer k fun p => { p with nextBeat := s.now + msNs p.heartbeat }))

/-- R344: no valid datagram for 4 tHB. -/
def execAdtPeerNotLive (source : Bool) (number : Half) (s : State) : Host.Outcome State Fault Refusal :=
  let k := peerKey source number.toNat
  let p := s.peer k
  if !p.inSession || p.state == 3 then done s
  else
    let s := resetHeld k ((s.untilAon (p.lastValid + msNs (4 * p.heartbeat))).peerState k 3 0)
    done (s.modAdt fun a => { a with buffer := a.buffer.filter fun x => x.endpoint != k })

/-- R344: no valid datagram for 8 tHB. -/
def execAdtSessionTimeout (source : Bool) (number : Half) (s : State) : Host.Outcome State Fault Refusal :=
  let k := peerKey source number.toNat
  let p := s.peer k
  if !p.inSession || p.state != 3 then done s
  else done ((closeSession k 10 (s.untilAon (p.lastValid + msNs (8 * p.heartbeat)))).count 243)

/-! ### Frames -/

/-- The endpoints of group `g`: their keys and outputs. -/
def State.groupEndpoints (s : State) (g : Nat) : List (Nat × Truss × Nat) :=
  match s.grpTruss g with
  | none => []
  | some t => (t.outputs.zipIdx.filter fun e => e.1.kind == 1 && e.1.group == g).map fun e => (e.1.unit, t, e.2)

/-- R331: at sill − tANN each endpoint in session of version 1.1 or later that neither holds nor is blanked is sent its ANNOUNCE. -/
def execAnnounceTime (g : Fin 16) (s : State) : Host.Outcome State Fault Refusal :=
  if !s.grpRuns g || (s.group g).announced || s.seqStopped then done s
  else
    let s := s.untilPlan ((s.group g).nextAt - s.annNs g)
    let s := (s.groupEndpoints g).foldl (fun (s : State) x =>
      if s.follows x.1 && decide (0x11 ≤ (s.peer x.1).version) then announce x.1 g x.2.1 x.2.2 s else s) s
    done (s.modGroup g fun c => { c with announced := true })

/-- R361, R363, R370, R334: the mortise at an index of its calendar opens on its port and carries its row's slices; the rest is late. -/
def execMortiseOpen (p : Fin 4) (g : Fin 16) (index : Nat) (s : State) : Host.Outcome State Fault Refusal :=
  match s.grpTruss g with
  | none => done s
  | some t =>
    let c := s.group g
    match (t.calOf c.variant).mortises[index]? with
    | none => done s
    | some m =>
      let o := t.output m.out
      let k := o.unit
      if m.port ≠ p.val ∨ o.group ≠ g.val ∨ m.frame ≠ c.j ∨ !c.begun ∨ s.planGated ∨ s.flt.safe ∨ ((s.peer k).opened.contains (m.row, p.val)) then done s
      else
        let at' := s.instant g t m.start
        let free := (s.eth p).lastEnd + 8 * grain
        let moved := (s.eth p).lastEnd != 0 && decide (at' < free)
        let s := s.untilPlan (if moved then free else at')
        let s := s.modEth p fun e =>
          { e with lastEnd := s.clk.plan + m.len * grain, openNow := some { index := index, stop := s.clk.plan + m.len * grain, group := g },
                   moved := if moved then e.moved + 1 else e.moved }
        let s := if moved then s.fault (57 + p) 7 else s
        let mine := s.adt.buffer.filter fun x => !x.ports.contains p.val && x.out == m.out && x.n == c.n && x.row == m.row && x.endpoint == k
        let s := s.modPeer k fun q => { q with opened := (m.row, p.val) :: q.opened }
        let more := (t.calOf c.variant).mortises.any fun y =>
          y.out == m.out && y.row == m.row && y.frame == m.frame && y.port != m.port && !(s.peer k).opened.contains (y.row, y.port)
        if !s.portCarries p || (s.eth p).lost || (s.eth p).badBucket == m.start / 4096 + 1 then
          done (if more then s else markDirty k ((mine.filter fun x => x.seq.isNone).map (·.index)) s)
        else if !s.receives k then done s
        else
          let b := (s.peerBinding k).getD {}
          let wire := fun (x : Slice) => ((s.fragsOf k x).map fun n => s.adtWire p (24 + n) b).sum
          let r := mine.foldl (fun (acc : Nat × State) x =>
            if x.readyAt ≤ acc.2.clk.plan ∧ acc.1 + wire x ≤ m.len * acc.2.lineRate p then (acc.1 + wire x, burstSlice p x acc.2)
            else if m.replica ∧ (more ∨ x.seq.isSome) then acc
            else (acc.1, lateSlice k g x acc.2)) (0, s)
          done (r.2.modEth p fun e => { e with busyUntil := r.2.clk.plan * 1024 + ceilDiv (r.1 * grain * 1024) (r.2.lineRate p) })

/-- R338, R339: an endpoint's REPAIR. -/
def execAdtRepairRx (d : AdtDgram) (frame : Word) (flags : Half) (entries : List (Half × Long)) (s : State) : Host.Outcome State Fault Refusal :=
  match adtTake (some false) 0x11 (d.size == 8 + 12 * entries.length && decide (entries.length ≤ 100)) d s with
  | (none, s) => done s
  | (some k, s) =>
    let s := s.count 233
    match (if s.receives k then s.endpoint k else none) with
    | none => done s
    | some (g, _, _) =>
      let limit := match (s.peerBinding k) with | some b => (if b.repairs = 0 then 16 else b.repairs) | none => 0
      let current := frame == (s.group g).n
      let refuse' := fun (i : Nat) (s : State) =>
        markDirty k [i] ((s.count 235).modPeer k fun p => { p with unrepaired := i :: p.unrepaired })
      if !current then done (s.countN 235 entries.length)
      else if s.slackAt k g < s.clk.plan then done (entries.foldl (fun (s : State) e => refuse' e.1.toNat s) s)
      else
        let s := if flags.getLsbD 0 ∧ (s.peer k).annFrame = frame then sendAnnounce k false s else s
        done (entries.foldl (fun (s : State) e =>
          let i := e.1.toNat
          match s.adt.buffer.find? fun x => x.endpoint == k && x.n == frame && x.index == i && x.seq.isSome with
          | none => s
          | some x =>
            if limit ≤ (s.peer k).repairedNow then refuse' i s
            else
              let want := fun f => e.2.getLsbD f
              let r := repairFrags k g x (x.flags ||| 1) want s.clk.plan s
              if r.1 then
                let n := ((s.fragsOf k x).zipIdx.filter fun f => want f.2).length
                (r.2.countN 234 n).modPeer k fun p => { p with repairs := p.repairs + 1, repairedNow := p.repairedNow + 1, unrepaired := p.unrepaired.filter (· != i) }
              else refuse' i s) s)

/-- R341: the BLANK of an endpoint is repeated every 1 s while it lasts. -/
def execAdtBlankRepeat (number : Half) (s : State) : Host.Outcome State Fault Refusal :=
  let k := peerKey false number.toNat
  match s.blankOn k with
  | none => done s
  | some b => if (s.peer k).inSession then done ((s.untilAon (s.peer k).blankDue).emitBlank k b) else done s

/-- R340: a HOLD with a duration ends. -/
def execAdtHoldEnd (number : Half) (s : State) : Host.Outcome State Fault Refusal :=
  let k := peerKey false number.toNat
  if (s.peer k).holdEnd = 0 then done s else done (endHold k (s.untilAon ((s.peer k).holdEnd - 1)))

/-! ### Commands (R351) -/

/-- R351: ADT_CONFIG. -/
def execAdtConfig (c : KcpCtx) (port heartbeat hold repair : Half) (beacon : Byte) (group : BitVec 128) (s : State) :
    Host.Outcome State Fault Refusal :=
  kcp 0x0400 c (fun _ s =>
    let outside := fun (v : Half) lo hi => decide (v.toNat < lo) || decide (hi < v.toNat)
    let p := if port = 0 then 56410 else port.toNat
    if outside heartbeat 100 1000 then badParam 2 s
    else if outside hold 1 3600 then badParam 4 s
    else if outside repair 500 10000 then badParam 6 s
    else if 1 < beacon.toNat then badParam 8 s
    else
      let s := if p = s.adtCfg.port then s else (s.adt.peers.map (·.1)).foldl (fun (s : State) k => closeSession k 0 s) s
      replyOk { s with adtCfg := { s.adtCfg with port := p, heartbeat := heartbeat.toNat, hold := hold.toNat, repair := repair.toNat,
                                                 beacon := beacon == 1, group := group.toNat } }) s

/-- R351: a command that names a peer: its kind and number, and for an endpoint the grant of its output's group. -/
def withPeer (f : Nat) (kind : Byte) (number : Half) (s : State) (go : Nat → Reply) : Reply :=
  if 1 < kind.toNat then badParam 0 s
  else if (if kind = 1 then decide (255 < number.toNat) else decide (1023 < number.toNat)) then badParam 2 s
  else
    let k := peerKey (kind == 1) number.toNat
    let granted := kind == 1 || f == 0 || (match s.endpoint k with | some (g, _, _) => s.hasGroup f g | none => false)
    if granted then go k else refuse .notGranted 1 s

/-- R351: ADT_QUERY. -/
def execAdtQuery (c : KcpCtx) (kind : Byte) (number : Half) (s : State) : Host.Outcome State Fault Refusal :=
  kcp 0x0401 c (fun f s =>
    withPeer f kind number s fun k =>
      let p := s.peer k
      replyOk s (leBytes 1 p.state ++ leBytes 1 p.version ++ leBytes 2 p.reason ++ leBytes 4 p.id ++ leBytes 16 p.addr ++ leBytes 2 p.port ++
        leBytes 2 p.flags.toNat ++ leBytes 4 p.lastFrame.toNat ++ leBytes 4 p.sent.toNat ++ leBytes 4 p.repairs.toNat ++
        leBytes 4 (signedField 32 p.offset) ++ leBytes 2 p.mismatches.toNat)) s

/-- R351: ADT_BIND. -/
def execAdtBind (c : KcpCtx) (kind fixed : Byte) (number : Half) (peer : Long) (address : BitVec 128) (s : State) : Host.Outcome State Fault Refusal :=
  kcp 0x0402 c (fun f s =>
    withPeer f kind number s fun k =>
      if 1 < fixed.toNat then badParam 1 s
      else if (s.peerBinding k).isNone then refuse .state 0 s
      else if (match s.bindingOf kind.toNat peer.toNat with | some x => x.1 != k | none => false) then badParam 4 s
      else
        let s := leaveSession k 11 s
        replyOk (s.modPeer k fun p => { p with bound := some (fixed == 1, peer.toNat, address.toNat) })) s

/-- R351: ADT_DISCONNECT. -/
def execAdtDisconnect (c : KcpCtx) (kind : Byte) (number hold : Half) (s : State) : Host.Outcome State Fault Refusal :=
  kcp 0x0403 c (fun f s =>
    withPeer f kind number s fun k =>
      if 3600 < hold.toNat then badParam 4 s
      else
        let s := leaveSession k 8 s
        replyOk (s.modPeer k fun p => { p with holdOff := if hold = 0 then 0 else s.now + secNs hold.toNat + 1 })) s

/-- R351: a command over a range of endpoints, each of which needs its group's grant. -/
def withRange (f : Nat) (first count : Half) (s : State) (go : List Nat → Reply) : Reply :=
  if 1023 < first.toNat then badParam 0 s
  else if count = 0 ∨ 1024 < first.toNat + count.toNat then badParam 2 s
  else
    let ks := ((List.range count.toNat).map (· + first.toNat)).filter fun k => (s.endpoint k).isSome
    if ks.any fun k => match s.endpoint k with | some (g, _, _) => !s.hasGroup f g | none => false then refuse .notGranted 1 s else go ks

/-- R351: ADT_REFRESH. -/
def execAdtRefresh (c : KcpCtx) (first count : Half) (s : State) : Host.Outcome State Fault Refusal :=
  kcp 0x0404 c (fun f s => withRange f first count s fun ks => replyOk (ks.foldl (fun (s : State) k => resetHeld k s) s)) s

/-- R341, R351: ADT_BLANK. -/
def execAdtBlank (c : KcpCtx) (first count : Half) (op notice : Byte) (background colour : BitVec 24) (s : State) : Host.Outcome State Fault Refusal :=
  kcp 0x0405 c (fun f s =>
    withRange f first count s fun ks =>
      if 1 < op.toNat then badParam 4 s
      else if 1 < notice.toNat then badParam 5 s
      else
        let swap := fun (v : BitVec 24) => bitsOf 0 8 v.toNat * 65536 + bitsOf 8 8 v.toNat * 256 + bitsOf 16 8 v.toNat
        let b : Blank := { reason := 2, colour := swap background, notice := swap colour, hasNotice := notice == 1 }
        replyOk (ks.foldl (fun (s : State) k =>
          if op = 0 then (match (s.peer k).blank with | some x => (if x.reason = 2 then endBlank k s else s) | none => s)
          else
            let s := s.modPeer k fun p => { p with blank := some b }
            if (s.peer k).inSession && (s.blankOn k).isSome then s.sendBlank k b else s) s)) s

/-- R347, R351: ADT_SOURCE_CTRL. -/
def execAdtSourceCtrl (c : KcpCtx) (source op : Byte) (s : State) : Host.Outcome State Fault Refusal :=
  kcp 0x0406 c (fun _ s =>
    let k := 1024 + source.toNat
    if 1 < op.toNat then badParam 1 s
    else if !(s.peer k).inSession || s.decoderNow source.toNat == 4 then refuse .state 0 s
    else replyOk ((s.adtSend k "SOURCE_CTRL" 4 [op.toNat, 0]).modPeer k fun p => { p with stop := if op = 0 then 1 else 0 })) s

/-- R351: ADT_STATS: bound endpoints and sources in each state, and the counters as of the last sill. -/
def execAdtStats (c : KcpCtx) (s : State) : Host.Outcome State Fault Refusal :=
  kcp 0x0407 c (fun _ s =>
    let keys : List Nat := match s.running with | some t => t.bindings.map (fun (b : TBinding) => if b.kind = 1 then 1024 + b.num else b.num) | none => []
    let tally := fun (src : Bool) => (List.range 6).flatMap fun st =>
      leBytes 2 (keys.filter fun k => decide (1024 ≤ k) == src && (s.peer k).state == st).length
    replyOk s (tally false ++ tally true ++ (List.range 12).flatMap fun i => leBytes 2 (s.adt.stats.getD i 0))) s

end Sys2Proof.Machine
end

