-- ==== Sys2Proof/Machine/Pmu.lean ====
section
/-! DEFINITION. The counter page, its rows and the counter commands (R465–R482). -/

namespace Sys2Proof.Machine

/-! ### Reads and writes -/

/-- The value of counter `c`: 0–447 always-running, 448 + f filtered. -/
def State.counter (s : State) (c : Nat) : Nat := if c < 448 then tabGet s.pmu.cnt c else (s.fc (c - 448)).val

/-- R474, R477, R480: a function sees counter `c` on its BAR0 page, or on its BAR2 page. -/
def State.seesCounter (s : State) (f : Nat) (user : Bool) (c : Nat) : Bool :=
  decide (c < 480) && ((!user && f == 0) || (decide (448 ≤ c) && s.hasCounter f (c - 448)))

/-- R469, R480: a function may write counter `c`. -/
def State.writesCounter (s : State) (f : Nat) (user : Bool) (c : Nat) : Bool :=
  s.seesCounter f user c && (user || f == 0)

/-- The latch of a function's page. -/
def pageKey (f : Nat) (user : Bool) : Nat := 2 * f + b2n user

/-- R468: the odd counter that a low-word read of counter `c` latches, when `c` is the even one of a chained pair. -/
def State.pairOf (s : State) (c : Nat) : Option Nat :=
  if 448 ≤ c ∧ c % 2 = 0 ∧ (s.fc (c - 448 + 1)).set.chain then some (c + 1) else none

/-- R468: a 64-bit read of a counter uses no latch. -/
def State.counterWide (f : Nat) (user : Bool) (s : State) : State :=
  s.modPmu fun p => { p with latch := tabMod p.latch (pageKey f user) fun l => { l with prev := 0 } }

/-- R468: a 32-bit read of a counter's low word: what it returns, and the latch it leaves. -/
def State.counterLo (f : Nat) (user : Bool) (c : Nat) (s : State) : Nat × State :=
  let key := pageKey f user
  let l := tabGet s.pmu.latch key
  if l.odd = c + 1 then
    (l.oddVal % 2 ^ 32, s.modPmu fun p => { p with latch := tabSet p.latch key { l with prev := c + 1, hi := l.oddVal / 2 ^ 32 } })
  else
    let v := s.counter c
    let odd := match s.pairOf c with | some o => (o + 1, s.counter o) | none => (0, 0)
    (v % 2 ^ 32, s.modPmu fun p => { p with latch := tabSet p.latch key { prev := c + 1, hi := v / 2 ^ 32, odd := odd.1, oddVal := odd.2 } })

/-- R468: a read of a counter's low word, 32 or 64 bits wide. -/
def execPmuCntLoRead (fn : Fin 16) (user : Bool) (counter : BitVec 9) (wide : Bool) (s : State) : Host.Outcome State Fault Refusal :=
  if !s.barOpen fn then done s else
  let s := if user then s else s.bar0
  let c := counter.toNat
  if !s.seesCounter fn user c then done ((s.denied fn).emit (.readData fn 0 false))
  else if wide then done ((s.counterWide fn user).emit (.readData fn (s.counter c) false))
  else done ((s.counterLo fn user c).2.emit (.readData fn (s.counterLo fn user c).1 false))

/-- R468: what a read of a counter's high word returns. -/
def State.counterHi (s : State) (f : Nat) (user : Bool) (c : Nat) : Nat :=
  let l := tabGet s.pmu.latch (pageKey f user)
  if !s.seesCounter f user c then 0
  else if l.prev = c + 1 then l.hi
  else if l.odd = c + 1 then l.oddVal / 2 ^ 32
  else s.counter c / 2 ^ 32

/-- R469: a write to a counter's high word stages bits 39:32. -/
def execPmuCntHiWrite (fn : Fin 16) (user : Bool) (counter : BitVec 9) (value : Word) (s : State) : Host.Outcome State Fault Refusal :=
  if !s.barOpen fn then done s else
  let s := if user then s else s.bar0
  if !s.writesCounter fn user counter.toNat then done (s.denied fn)
  else done (s.modPmu fun p => { p with staged := tabSet p.staged fn (value.toNat % 256) })

/-- R469: a write to a counter's low word, or to all of it, is committed for the next update. -/
def execPmuCntLoWrite (fn : Fin 16) (user : Bool) (counter : BitVec 9) (wide : Bool) (value : Long) (s : State) :
    Host.Outcome State Fault Refusal :=
  if !s.barOpen fn then done s else
  let s := if user then s else s.bar0
  let c := counter.toNat
  if !s.writesCounter fn user c then done (s.denied fn)
  else
    let v := if wide then value.toNat % 2 ^ 40 else tabGet s.pmu.staged fn * 2 ^ 32 + value.toNat % 2 ^ 32
    done (s.modPmu fun p => { p with staged := if wide then p.staged else tabErase p.staged fn, ops := p.ops ++ [.write c v] })

/-! ### Updates and snapshots -/

/-- R465: the counters are updated, 4 ns or more after the last update; not while PLL8 is gated. -/
def execPmuUpdate (s : State) : Host.Outcome State Fault Refusal :=
  if s.planGated then done s else done (pmuUpdate (s.untilPlan ((s.pmu.updated / 4 + 1) * 4)))

/-- R475: PMU_SNAP_CTRL.take. -/
def execPmuSnapTakeBit (fn : Fin 16) (s : State) : Host.Outcome State Fault Refusal :=
  if !s.barOpen fn then done s else
  let s := s.bar0
  if fn.val ≠ 0 then done (s.denied fn) else done (s.modPmu fun p => { p with trig := p.trig ||| 1 })

/-- R476: PMU_SNAP_CTRL.release0 and release1. -/
def execPmuSnapReleaseBit (fn : Fin 16) (bank : Fin 2) (s : State) : Host.Outcome State Fault Refusal :=
  if !s.barOpen fn then done s else
  let s := s.bar0
  if fn.val ≠ 0 then done (s.denied fn) else done (s.modPmu fun p => { p with kept := putBit p.kept bank false })

/-- R475: the copy of a snapshot is complete, `ns` after its update, within 2 us. -/
def execSnapshotDone (ns : Nat) (s : State) : Host.Outcome State Fault Refusal :=
  match s.pmu.copy with
  | none => done s
  | some x =>
    let s := s.untilPlan (x.time + min ns 2000)
    let b := (x.number + 1) % 2
    let s := s.modPmu fun p => { p with copy := none, banks := tabSet p.banks b x, active := b, kept := putBit p.kept b true }
    done ((s.recordTo (fun f => f == 0 || (s.fn f).counters != 0) 7 (BitVec.ofNat 16 b)
      ([BitVec.ofNat 8 x.mask, 0, 0, 0] ++ leBytes 4 x.number)).pend (473 + b))

/-- R477: a read of the low word of the active snapshot's plan time latches the high word, as R79 gives. -/
def execSnapTimeLoRead (fn : Fin 16) (s : State) : Host.Outcome State Fault Refusal :=
  if !s.barOpen fn then done s else
  let t := (tabGet s.pmu.banks s.pmu.active).time
  done (((s.counterWide fn true).modPmu fun p => { p with timeHi := tabSet p.timeHi fn (t / 2 ^ 32 % 2 ^ 32 + 1) }).emit (.readData fn (t % 2 ^ 32) false))

/-! ### Bandwidth windows -/

/-- R479: grain within the running truss's hyperperiod of a plan time, and the hyperperiod's length. -/
def State.hyperPos (s : State) (at' : Nat) : Option (Nat × Nat) :=
  s.running.bind fun t =>
    if t.h = 0 then none
    else
      let base := match t.groups with | g :: _ => g.base | [] => 1
      let x := if base = 0 then ((at' : Int) + s.clk.ntOffset - t.epoch).toNat else at'
      some (x / grain % t.h, t.h)

/-- R479: plan time at which engine `n`'s current window ends. -/
def State.bwEnd (s : State) (n : Nat) : Nat :=
  let x := tabGet s.pmu.bw n
  let c := s.bwSet n
  let len := 64 * 2 ^ c.k
  match (if c.align then s.hyperPos x.since else none) with
  | some (pos, h) => (x.since / grain + (min ((pos / len + 1) * len) h - pos)) * grain
  | none => (x.since / grain / len + 1) * len * grain

/-- R479: PMU_BWn_PEAK_AT for a window that started at a plan time. -/
def State.bwGrain (s : State) (n since : Nat) : Nat :=
  match (if (s.bwSet n).align then s.hyperPos since else none) with
  | some (pos, _) => pos
  | none => since / grain

/-- R479: a bandwidth window ends. -/
def execBwWindowEnd (n : Fin 18) (s : State) : Host.Outcome State Fault Refusal :=
  let at' := s.bwEnd n
  let s := s.untilPlan at'
  let c := s.bwSet n
  let x := tabGet s.pmu.bw n
  let sum := BitVec.ofNat 32 (x.bytes / 64)
  let higher := decide (x.peak.toNat < sum.toNat)
  let above := c.threshold != 0 && decide (c.threshold < sum.toNat)
  let y : BwSt := { bytes := 0, since := at', last := sum, peak := if higher then sum else x.peak,
                    peakAt := if higher then BitVec.ofNat 32 (s.bwGrain n x.since) else x.peakAt,
                    above := if above then satInc x.above else x.above, short := false }
  let s := s.modPmu fun p => { p with bw := tabSet p.bw n y }
  done (if above then s.pend 475 else s)

/-- R479: PMU_BWn_ADM: the summary figure of the variant in force, for admission's own window and class. -/
def State.bwAdmitted (s : State) (n : Nat) : Nat :=
  let c := s.bwSet n
  if c.k ≠ 4 ∨ !c.align ∨ c.cls ≠ 1 then 0
  else
    match s.running with
    | none => 0
    | some t =>
      let v := match allGroups.find? fun g => (s.group g).store == s.seq.running with | some g => (s.group g).variant | none => 0
      match t.summaries.find? fun x => x.variant == t.real v with
      | none => 0
      | some x =>
        let bytes := if n < 4 then x.reads.getD n 0 else if n < 8 then x.writes.getD (n - 4) 0 else if n = 8 then x.reads.getD 4 0
          else if 10 ≤ n ∧ n < 14 then x.egress.getD (n - 10) 0 else 0
        ceilDiv bytes 64

/-- R480: PMU_BWn_CFG. -/
def State.bwCfg (s : State) (n : Nat) : Nat :=
  let c := s.bwSet n
  packBits [(0, 4, c.k), (4, 1, b2n c.align), (5, 1, b2n (tabGet s.pmu.bw n).short), (8, 5, c.cls)]

/-! ### Commands -/

/-- R470: a master code. -/
def masterOk (m : Nat) : Bool := decide (m ≤ 16) || (decide (32 ≤ m) && decide (m ≤ 69)) || (decide (80 ≤ m) && decide (m ≤ 95)) || m == 0xFF

/-- R470–R474, R482: PMU_FC_SET. -/
def execPmuFcSet (c : KcpCtx) (counter mode path direction cls master chain clear : Byte) (privilege : Word) (event : Half) (low high : Long)
    (s : State) : Host.Outcome State Fault Refusal :=
  kcp 0x0800 c (fun f s =>
    let k := counter.toNat
    if 31 < k then badParam 0 s
    else if !s.hasCounter f k then refuse .notGranted 5 s
    else if 3 < mode.toNat then badParam 1 s
    else if mode = 3 ∧ f ≠ 0 then refuse .notGranted 5 s
    else if 6 < path.toNat then badParam 2 s
    else if 3 < direction.toNat then badParam 3 s
    else if 31 < cls.toNat then badParam 4 s
    else if !masterOk master.toNat then badParam 5 s
    else if 1 < chain.toNat ∨ (chain = 1 ∧ (k % 2 = 0 ∨ !s.hasCounter f (k - 1))) then badParam 6 s
    else if 1 < clear.toNat then badParam 7 s
    else if 0x1FFFF < privilege.toNat then badParam 8 s
    else if mode = 3 ∧ 447 < event.toNat then badParam 12 s
    else if low.toNat % 256 ≠ 0 then badParam 16 s
    else if high.toNat % 256 ≠ 0 then badParam 24 s
    else
      let x : FcSet :=
        { mode := mode.toNat, path := path.toNat, dir := direction.toNat, cls := cls.toNat, master := master.toNat, chain := chain == 1,
          priv := if f = 0 then privilege.toNat else 2 ^ f, event := event.toNat, lo := low.toNat, hi := high.toNat }
      replyOk (s.modPmu fun p => { p with fc := tabMod p.fc k fun y => { y with next := some x },
                                          ops := if clear = 1 then p.ops ++ [.write (448 + k) 0] else p.ops })) s

/-- R480: PMU_FCf_STATUS as a function that holds the counter reads it. -/
def FcSt.status (x : FcSt) : Nat := packBits [(0, 1, b2n x.ovf), (1, 1, b2n x.lost), (2, 1, 1)]

/-- R480: PMU_FCf_CFG. -/
def FcSet.cfg (x : FcSet) : Nat :=
  packBits [(0, 2, x.mode), (2, 3, x.path), (5, 2, x.dir), (7, 5, x.cls), (12, 1, b2n x.chain), (16, 9, x.event)]

/-- R482: PMU_FC_QUERY. -/
def execPmuFcQuery (c : KcpCtx) (counter : Byte) (s : State) : Host.Outcome State Fault Refusal :=
  kcp 0x0801 c (fun f s =>
    let k := counter.toNat
    if 31 < k then badParam 0 s
    else if !s.hasCounter f k then refuse .notGranted 5 s
    else
      let x := s.fc k
      let y := x.set
      replyOk s ((([y.mode, y.path, y.dir, y.cls, y.master, b2n y.chain, 0].map fun n => BitVec.ofNat 8 n) ++ leBytes 4 y.priv ++ leBytes 2 y.event ++
        [0, 0] ++ leBytes 8 y.lo ++ leBytes 8 y.hi ++ [0]) ++ leBytes 8 x.val ++ leBytes 4 x.status)) s

/-- R475, R476, R482: PMU_SNAP_CFG. -/
def execPmuSnapCfg (c : KcpCtx) (mask group cls hold : Byte) (period : Word) (s : State) : Host.Outcome State Fault Refusal :=
  kcp 0x0810 c (fun _ s =>
    if 15 < mask.toNat then badParam 0 s
    else if 15 < group.toNat then badParam 1 s
    else if 4 < cls.toNat then badParam 2 s
    else if 1 < hold.toNat then badParam 3 s
    else if mask.getLsbD 2 ∧ (period.toNat < 15625 ∨ 156250000 < period.toNat) then badParam 4 s
    else
      replyOk { s with pmuMram := { s.pmuMram with mask := mask.toNat, group := group.toNat, cls := cls.toNat, hold := hold == 1, period := period.toNat } }) s

/-- R475, R482: PMU_SNAP_TAKE. -/
def execPmuSnapTake (c : KcpCtx) (s : State) : Host.Outcome State Fault Refusal :=
  kcp 0x0811 c (fun _ s =>
    if s.pmu.copy.isSome then refuse .state 0 s
    else replyOk (s.modPmu fun p => { p with trig := p.trig ||| 1 }) (leBytes 4 (s.pmu.snaps + 1))) s

/-- R480: PMU_SNAP_STATUS. -/
def PmuSt.snapStatus (p : PmuSt) : Nat := packBits [(0, 1, p.active), (1, 1, b2n p.copy.isSome), (16, 16, p.missed.toNat)]

/-- R482: PMU_SNAP_QUERY. -/
def execPmuSnapQuery (c : KcpCtx) (s : State) : Host.Outcome State Fault Refusal :=
  kcp 0x0812 c (fun f s =>
    if !s.hasFltRead f then refuse .notGranted 7 s
    else
      let m := s.pmuMram
      replyOk s (leBytes 4 s.pmu.snapStatus ++ leBytes 4 (tabGet s.pmu.banks 0).number ++ leBytes 4 (tabGet s.pmu.banks 1).number ++
        [BitVec.ofNat 8 m.mask, BitVec.ofNat 8 m.group, BitVec.ofNat 8 m.cls, BitVec.ofNat 8 (b2n m.hold)] ++ leBytes 4 m.period)) s

/-- The peak and the over count of a bandwidth engine are cleared (R479, R482). -/
def BwSt.clear (x : BwSt) : BwSt := { x with peak := 0, peakAt := 0, above := 0 }

/-- R479, R482: PMU_BW_SET. -/
def execPmuBwSet (c : KcpCtx) (engine k align cls : Byte) (threshold : Word) (clear : Byte) (s : State) : Host.Outcome State Fault Refusal :=
  kcp 0x0820 c (fun _ s =>
    let n := engine.toNat
    if 17 < n then badParam 0 s
    else if 14 < k.toNat then badParam 1 s
    else if 1 < align.toNat then badParam 2 s
    else if 31 < cls.toNat then badParam 3 s
    else if 1 < clear.toNat then badParam 8 s
    else
      let s := bwPartial n s
      let y : BwSet := { k := k.toNat, align := align == 1, cls := cls.toNat, threshold := threshold.toNat }
      let s := { s with pmuMram := { s.pmuMram with bw := tabSet s.pmuMram.bw n y } }
      replyOk (if clear = 1 then s.modPmu fun p => { p with bw := tabMod p.bw n BwSt.clear } else s)) s

/-- R482: PMU_BW_QUERY. -/
def execPmuBwQuery (c : KcpCtx) (engine : Byte) (s : State) : Host.Outcome State Fault Refusal :=
  kcp 0x0821 c (fun f s =>
    let n := engine.toNat
    if !s.hasFltRead f then refuse .notGranted 7 s
    else if 17 < n then badParam 0 s
    else
      let x := tabGet s.pmu.bw n
      replyOk s (leBytes 4 x.last.toNat ++ leBytes 4 x.peak.toNat ++ leBytes 4 x.peakAt.toNat ++ leBytes 4 x.above.toNat ++
        leBytes 4 (s.bwAdmitted n) ++ leBytes 4 (s.bwCfg n) ++ leBytes 4 (s.bwSet n).threshold)) s

/-- R482: PMU_CLEAR. -/
def execPmuClear (c : KcpCtx) (mask : Byte) (s : State) : Host.Outcome State Fault Refusal :=
  kcp 0x0830 c (fun _ s =>
    if 15 < mask.toNat then badParam 0 s
    else
      replyOk (s.modPmu fun p =>
        { p with ops := p.ops ++ (if mask.getLsbD 0 then [.clear false] else []) ++ (if mask.getLsbD 2 then [.clear true] else []),
                 ovf := if mask.getLsbD 1 then [] else p.ovf, lost := if mask.getLsbD 1 then [] else p.lost,
                 fc := if mask.getLsbD 1 then tabMap (fun _ x => { x with ovf := false, lost := false }) p.fc else p.fc,
                 bw := if mask.getLsbD 3 then tabMap (fun _ x => x.clear) p.bw else p.bw })) s

end Sys2Proof.Machine
end

