-- ==== Sys2Proof/Machine/Dma.lean ====
section
/-! DEFINITION. The DMA engine: descriptors, data movement, completion, request lines, registers and commands (R386–R401). -/

namespace Sys2Proof.Machine

/-! ### Descriptors -/

/-- R397: entries of a channel's ring; a log2_size outside 2–12 acts as 2. -/
def DmaCh.size (c : DmaCh) : Nat := if 2 ≤ c.log2Size.toNat ∧ c.log2Size.toNat ≤ 12 then 2 ^ c.log2Size.toNat else 4

/-- R4, R387: a descriptor from its 64 bytes; reserved bits are ignored. -/
def readDesc (b : List Byte) : Desc :=
  let u := fun (off n : Nat) => leNat ((b.drop off).take n)
  let ctl := u 0 4
  { op := bitsOf 0 2 ctl, srcHost := bitOf 2 ctl, dstHost := bitOf 3 ctl, post := bitOf 4 ctl, irq := bitOf 5 ctl, wait := bitOf 6 ctl,
    tag := BitVec.ofNat 32 (u 4 4), src := u 8 8, dst := u 16 8, bytes := u 24 4,
    lines := max 1 (u 28 4), srcStride := u 32 4, dstStride := u 36 4, pattern := (b.drop 40).take 8, line := u 48 1, queue := u 49 1,
    burst := u 50 1 }

/-- Bytes of host memory as a command's reads find it. -/
def hostBytes (m : HostMem) (a n : Nat) : Option (List Byte) :=
  m.findSome? fun r => if r.1 ≤ a ∧ a + n ≤ r.1 + r.2.length then some ((r.2.drop (a - r.1)).take n) else none

/-- R123, R386: a device range lies in the apertures granted to function `f`: every unit of 16 GiB that it touches does. -/
def State.inAperture (s : State) (f a n : Nat) : Bool :=
  let unit := 16 * gib
  (List.range (ceilDiv (a % unit + n) unit)).all fun i =>
    (s.fn f).apertures.any fun e => e.2.valid && decide (e.2.first ≤ (a / unit + i) * unit) && decide ((a / unit + i) * unit < e.2.first + e.2.extent * unit)

/-- R386: the owner may reach a device range. -/
def State.dmaMay (s : State) (f a n : Nat) : Bool :=
  if f = 0 then s.memRangeInit a n && s.clearOfFirmware a n else s.inAperture f a n && s.memMapped a n

/-- R386, R387, R392: a descriptor that completes with status 4. -/
def State.descBad (s : State) (f : Nat) (d : Desc) : Bool :=
  let side := fun (base stride : Nat) => (List.range d.lines).all fun i => s.dmaMay f (base + i * stride) d.bytes
  decide (2 ≤ d.op) || d.bytes == 0 || (decide (64 ≤ d.line) && d.line != 0xFF) || decide (8 ≤ d.queue) || decide (10 < d.burst) ||
    (s.cq d.queue).owner != f || (d.op == 0 && !d.srcHost && !side d.src d.srcStride) || (!d.dstHost && !side d.dst d.dstStride)

/-- Bytes that a descriptor moves. -/
def Desc.total (d : Desc) : Nat := d.bytes * d.lines

/-! ### Completion -/

/-- R392, R394: posts the current descriptor's completion, or holds its record while the queue is full. A descriptor refused for its
queue posts nothing there (log 21). -/
def dmaPost (c : Nat) (d : Desc) (status bytes : Nat) (s : State) : State :=
  let x := s.ch c
  if !d.post || s.flt.safe || decide (8 ≤ d.queue) || (s.cq d.queue).owner != x.owner then s
  else
    let p := cqPost d.queue { kind := 0, status := status, unit := c, tag := d.tag.toNat, info := bytes } s
    if !(s.cq d.queue).enable then p.2
    else if (s.cq d.queue).full then p.2.modCh c fun x => { x with held := some (d.queue, p.1) }
    else cqWrite d.queue p.1 p.2

/-- R393, R397: the current descriptor of channel `c` ends with a status. -/
def dmaEnd (c status : Nat) (s : State) : State :=
  let x := s.ch c
  match x.current with
  | none => s
  | some d =>
    let s := dmaPost c d status x.moved s
    let stop := status == 4
    let s := s.modCh c fun x =>
      { x with current := none, moved := 0, requests := 0, cons := x.cons + 1, lastStatus := BitVec.ofNat 8 status,
               completed := satInc x.completed, error := x.error || stop }
    let s := s.count 352
    let s := if status = 0 then s else s.count 357
    if d.irq || stop then s.pend (1 + c) else s

/-- R386: a descriptor is refused: status 4, and the channel stops in error. -/
def dmaRefuse (c : Nat) (s : State) : State := (dmaEnd c 4 s).fault (95 + c) 1

/-- R386: channel `c` may work: it runs, its owner holds its grant, it is neither stopped nor fenced, and the device is not in the safe state (R396). -/
def State.dmaRuns (s : State) (c : Nat) : Bool :=
  let x := s.ch c
  x.enable && !x.error && !x.safe && !s.flt.safe && !s.fenced (95 + c) && s.hasDma x.owner c

/-- R386, R388: the channel takes its next descriptor, which host memory `m` or device memory gives. An unreadable one stops it in
error with status 2 (log 21). -/
def dmaTake (c : Nat) (m : HostMem) (s : State) : State :=
  let x := s.ch c
  if !s.dmaRuns c || x.current.isSome || x.held.isSome || x.cons == x.prod then s
  else
    let a := x.base.toNat + 64 * (x.cons.toNat % x.size)
    let r := if x.host then (if s.fnReach x.owner then hostBytes m a 64 else none, s.hostRead a 64 false ⟨4, 32 + c, x.owner⟩) else s.memLoad 155 a 64 ⟨4, 32 + c, x.owner⟩
    match r.1 with
    | none =>
      ((r.2.modCh c fun x => { x with error := true, lastStatus := 2 }).fault (95 + c) 2).pend (1 + c)
    | some b =>
      let d := readDesc b
      let s := r.2.modCh c fun x => { x with current := some d, moved := 0, requests := 0 }
      let s := s.bgAdvance
      if s.descBad x.owner d then dmaRefuse c s else s

/-! ### Data -/

/-- How a piece of a transfer ended. -/
inductive Moved where
  | ok | poisoned | hostError | dropped
  deriving DecidableEq, Repr, Inhabited

/-- R393: the status of a piece that failed. -/
def Moved.status : Moved → Nat
  | .ok => 0 | .poisoned => 1 | .hostError => 2 | .dropped => 5

/-- R386, R387: moves `n` bytes of line `i` from column `col` on. -/
def movePiece (c : Nat) (d : Desc) (m : HostMem) (i col n : Nat) (s : State) : Moved × State :=
  let f := (s.ch c).owner
  let src := d.src + i * d.srcStride + col
  let dst := d.dst + i * d.dstStride + col
  let got : Moved × List Byte × State :=
    if d.op = 1 then (.ok, (List.range n).map fun k => d.pattern.getD ((col + k) % 8) 0, s)
    else if d.srcHost then
      let s := s.hostRead src n false ⟨4, 32 + c, f⟩
      match (if s.fnReach f then hostBytes m src n else none) with
      | some b => (.ok, b, s)
      | none => (.hostError, [], s)
    else
      let w := s.draw
      let r := (w.2.countN 358 w.1).memLoad 155 src n ⟨4, 32 + c, f⟩
      match r.1 with
      | some b => (.ok, b, r.2)
      | none => (if (memLines src n).any fun l => s.memUp l && s.memPoison l then .poisoned else .hostError, [], r.2)
  match got.1 with
  | .ok =>
    let s := (if d.op = 0 then got.2.2.countUnits 353 64 n else got.2.2).countUnits 354 64 n
    if d.dstHost then (if s.fnReach f then .ok else .hostError, s.hostStore f dst got.2.1 ⟨4, 32 + c, f⟩)
    else (if (memLines dst n).all s.memUp then .ok else .dropped, s.memWrite dst got.2.1 ⟨4, 32 + c, f⟩)
  | e => (e, got.2.2)

/-- R390: moves the next `n` bytes of the channel's byte sequence, line by line; stops at the first piece that fails. -/
def moveBytes (c : Nat) (d : Desc) (m : HostMem) (n : Nat) (s : State) : Moved × State :=
  let lo := (s.ch c).moved
  let hi := min d.total (lo + n)
  (List.range d.lines).foldl (fun (acc : Moved × State) i =>
    let a := max lo (i * d.bytes)
    let b := min hi ((i + 1) * d.bytes)
    if acc.1 = .ok ∧ a < b then
      let r := movePiece c d m i (a - i * d.bytes) (b - a) acc.2
      (r.1, if r.1 = .ok then r.2.modCh c fun x => { x with moved := x.moved + (b - a), total := x.total + (b - a) } else r.2)
    else acc) (.ok, s)

/-- R393, R399: a piece has failed: the descriptor ends with its status, a host-memory error with detail 2. -/
def dmaFails (c : Nat) (e : Moved) (s : State) : State :=
  let s := dmaEnd c e.status s
  if e = .hostError then s.fault (95 + c) 2 else s

/-- R387: bytes of one burst. -/
def Desc.burstBytes (d : Desc) : Nat := 64 * 2 ^ d.burst

/-- R388, R390: channel `c` moves one burst for one counted request of `line`. -/
def serveRequest (line : Nat) (m : HostMem) (c : Nat) (s : State) : State :=
  let x := s.ch c
  match x.current with
  | some d =>
    if d.line = line ∧ x.requests ≠ 0 ∧ x.moved < d.total ∧ s.dmaRuns c then
      let s := s.modDma fun y => { y with lastServed := tabSet y.lastServed x.prio.toNat (c + 1) }
      let r := moveBytes c d m d.burstBytes (s.modCh c fun x => { x with requests := x.requests - 1 })
      if r.1 = .ok then r.2 else dmaTake c m (dmaFails c r.1 r.2)
    else s
  | none => s

/-- R388, R390: the channels whose descriptors name a line move one burst each for a counted request, the higher priority first, and round robin
between channels of equal priority. -/
def execDmaRequest (line : Fin 64) (m : HostMem) (s : State) : Host.Outcome State Fault Refusal :=
  done ([3, 2, 1, 0].foldl (fun (s : State) p =>
    let next := tabGet s.dma.lastServed p
    ((List.range 32).map fun i => (next + i) % 32).foldl (fun (s : State) c =>
      if (s.ch c).prio.toNat = p then serveRequest line.val m c s else s) s) s)

/-- R392: the current descriptor's writes land: one without a request line moves all its data first; then it is posted, and the next
is taken. A paced descriptor ends once its last burst has moved. A channel without one takes the next that it has. -/
def execDmaDescDone (c : Fin 32) (m : HostMem) (s : State) : Host.Outcome State Fault Refusal :=
  let x := s.ch c
  match x.current with
  | none => done (dmaTake c m s)
  | some d =>
    if x.error || x.safe || s.flt.safe || s.fenced (95 + c) then done s
    else if d.line = 0xFF then
      let r := moveBytes c d m d.total s
      done (dmaTake c m (if r.1 = .ok then dmaEnd c 0 r.2 else dmaFails c r.1 r.2))
    else if x.moved = d.total then done (dmaTake c m (dmaEnd c 0 s))
    else done s

/-! ### Registers -/

/-- R386, R138: a write of DMA_CHc_PROD; one beyond the ring is ignored. -/
def execDmaDoorbell (fn : Fin 16) (c : Fin 32) (value : Word) (m : HostMem) (s : State) : Host.Outcome State Fault Refusal :=
  if !s.barOpen fn then done s else
  let s := s.bar0
  if !s.hasDma fn c then done (s.denied fn)
  else
    let p : BitVec 17 := value.setWidth 17
    if (s.ch c).size < (p - (s.ch c).cons).toNat then done s
    else done (dmaTake c m (s.modCh c fun x => { x with prod := p }))

/-- R397, R519: a write of DMA_CHc_CFG; setting enable makes the writer the owner. -/
def execDmaChCfgWrite (fn : Fin 16) (c : Fin 32) (value : Word) (m : HostMem) (s : State) : Host.Outcome State Fault Refusal :=
  if !s.barOpen fn then done s else
  let s := s.bar0
  if !s.hasDma fn c then done (s.denied fn)
  else
    let x := s.ch c
    let size : BitVec 4 := value.extractLsb' 1 4
    let host := value.getLsbD 5
    let bad := x.enable && (size != x.log2Size || host != x.host)
    let s := if bad then s.count 395 else s
    let s := s.modCh c fun x =>
      { x with enable := value.getLsbD 0, prio := value.extractLsb' 6 2, refused := x.refused || bad,
               log2Size := if x.enable then x.log2Size else size, host := if x.enable then x.host else host,
               owner := if value.getLsbD 0 && !x.enable then fn.val else x.owner }
    done (dmaTake c m s)

/-- R396: the current descriptor is posted with status 3 and the channel stops. -/
def dmaAbort (c : Nat) (s : State) : State := (dmaEnd c 3 s).modCh c fun x => { x with enable := false }

/-- R396: a write of 1 to DMA_CHc_CTRL.abort. -/
def execDmaChAbort (fn : Fin 16) (c : Fin 32) (s : State) : Host.Outcome State Fault Refusal :=
  if !s.barOpen fn then done s else
  let s := s.bar0
  if !s.hasDma fn c then done (s.denied fn) else done (dmaAbort c s)

/-- R397: a write of 1 to DMA_CHc_CTRL.resume: the channel leaves error and goes on at the next descriptor. -/
def execDmaChResume (fn : Fin 16) (c : Fin 32) (m : HostMem) (s : State) : Host.Outcome State Fault Refusal :=
  if !s.barOpen fn then done s else
  let s := s.bar0
  if !s.hasDma fn c then done (s.denied fn)
  else if (s.ch c).error then done (dmaTake c m (s.modCh c fun x => { x with error := false })) else done s

/-- R389: a write of DMA_SWREQ. -/
def execDmaSwreq (fn : Fin 16) (value : Half) (s : State) : Host.Outcome State Fault Refusal :=
  if !s.barOpen fn then done s else
  let s := s.bar0
  if s.hasFn fn then done ((setBits value).foldl (fun (s : State) i => s.assertLine (24 + i)) s) else done s

/-- R391: DREQ `line` shows a rising edge that qualified, or a pulse too short; `levels` are the pins as sampled. Ignored in the safe state. -/
def execDreqEdge (line : Fin 4) (qualified : Bool) (levels : BitVec 4) (s : State) : Host.Outcome State Fault Refusal :=
  if s.flt.safe || s.boot.phase != .running || (s.pll 9).gated then done s
  else
    let s := s.modDma fun d => { d with dreq := levels }
    if qualified then done (s.assertLine line) else done ((s.modDma fun d => { d with dreqShort := satInc d.dreqShort }).count 374)

/-- R392: function `f` may write the registers of queue `q`. -/
def State.mayCq (s : State) (f q : Nat) : Bool := f == 0 || (s.cq q).owner == f

/-- R394: channels whose record waits for queue `q` write it as space appears, and take their next descriptor. -/
def cqDrain (q : Nat) (m : HostMem) (s : State) : State :=
  (List.range 32).foldl (fun (s : State) c =>
    match (s.ch c).held with
    | some (k, r) =>
      if k = q ∧ !(s.cq q).full ∧ !s.flt.safe then
        let s := s.modCh c fun x => { x with held := none }
        dmaTake c m (if (s.cq q).enable then cqWrite q r s else s)
      else s
    | none => s) s

/-- R394, R397: a write of DMA_CQq_CONS; a value that would make PROD − CONS exceed the size is ignored, as R128 gives for a ring. -/
def execDmaCqConsWrite (fn : Fin 16) (q : Fin 8) (value : Word) (m : HostMem) (s : State) : Host.Outcome State Fault Refusal :=
  if !s.barOpen fn then done s else
  let s := s.bar0
  if !s.mayCq fn q then done (s.denied fn)
  else
    let v : BitVec 17 := value.setWidth 17
    if (s.cq q).size < ((s.cq q).prod - v).toNat then done s
    else done (cqDrain q m (cqLevel q (s.modCq q fun c => { c with cons := v })))

/-- R392, R397, R519: a write of DMA_CQq_CFG. -/
def execDmaCqCfgWrite (fn : Fin 16) (q : Fin 8) (value : Word) (m : HostMem) (s : State) : Host.Outcome State Fault Refusal :=
  if !s.barOpen fn then done s else
  let s := s.bar0
  if !s.mayCq fn q then done (s.denied fn)
  else
    let c := s.cq q
    let size : BitVec 5 := value.extractLsb' 1 5
    let host := value.getLsbD 6
    let s := if c.enable && (size != c.log2Size || host != c.host) then s.count 395 else s
    done (cqDrain q m (s.modCq q fun c =>
      { c with enable := value.getLsbD 0, log2Size := if c.enable then c.log2Size else size, host := if c.enable then c.host else host }))

/-! ### Other events -/

/-- R133, R396: the data link drops: descriptors that touch host memory end with status 6. -/
def dmaSurprise (s : State) : State :=
  (List.range 32).foldl (fun (s : State) c =>
    match (s.ch c).current with
    | some d => if d.dstHost || (d.op == 0 && d.srcHost) then dmaEnd c 6 s else s
    | none => s) s

/-- R396: an FLR of function `f` aborts its channels and disables its queues. -/
def dmaFlr (f : Nat) (s : State) : State :=
  let s := (List.range 32).foldl (fun (s : State) c => if (s.ch c).owner = f ∧ (s.ch c).enable then dmaAbort c s else s) s
  (List.range 8).foldl (fun (s : State) q => if (s.cq q).owner = f then s.modCq q fun c => { c with enable := false } else s) s

/-! ### What the registers read -/

/-- R397: DMA_CHc_STATUS. -/
def State.chStatus (s : State) (c : Nat) : Nat :=
  let x := s.ch c
  let waits := match x.current with | some d => d.line != 0xFF && x.requests == 0 && decide (x.moved < d.total) | none => false
  packBits [(0, 1, b2n x.current.isSome), (1, 1, b2n waits), (2, 1, b2n x.error), (3, 1, b2n x.safe), (4, 1, b2n x.refused),
    (5, 1, b2n x.overrun), (8, 8, x.lastStatus.toNat), (16, 16, x.completed.toNat)]

/-- R397: DMA_CHc_PENDING. -/
def State.chPending (s : State) (c : Nat) : Nat :=
  let x := s.ch c
  packBits [(0, 8, x.requests.toNat), (8, 8, match x.current with | some d => d.line | none => 0xFF)]

/-- R397: the DMA block's register at offset `o` of the block, as function `f` reads it. -/
def State.dmaReg (s : State) (f o : Nat) : Nat :=
  let c := o / 0x80
  let x := s.ch c
  let q := (o - 0x2000) / 0x40
  let y := s.cq q
  if o < 0x1000 then
    if !s.hasDma f c then 0
    else match o % 0x80 with
      | 0 => x.base.toNat % 2 ^ 32
      | 4 => x.base.toNat / 2 ^ 32
      | 8 => packBits [(0, 1, b2n x.enable), (1, 4, x.log2Size.toNat), (5, 1, b2n x.host), (6, 2, x.prio.toNat)]
      | 0xC => x.prod.toNat
      | 0x10 => x.cons.toNat
      | 0x14 => s.chStatus c
      | 0x18 => s.chPending c
      | _ => 0
  else if 0x2000 ≤ o ∧ o < 0x2200 then
    if !s.mayCq f q then 0
    else match o % 0x40 with
      | 0 => y.base.toNat % 2 ^ 32
      | 4 => y.base.toNat / 2 ^ 32
      | 8 => packBits [(0, 1, b2n y.enable), (1, 5, y.log2Size.toNat), (6, 1, b2n y.host)]
      | 0xC => y.prod.toNat
      | 0x10 => y.cons.toNat
      | 0x14 => y.count.toNat
      | 0x18 => packBits [(0, 1, b2n y.full), (1, 1, b2n y.overflow), (16, 16, y.dropped.toNat)]
      | _ => 0
  else if o = 0x3004 then packBits [(0, 4, s.dma.dreq.toNat), (16, 16, s.dma.dreqShort.toNat)]
  else if 0x3010 ≤ o ∧ o < 0x3020 then (s.wb ((o - 0x3010) / 4)).count.toNat
  else 0

/-! ### Commands -/

/-- R401: DMA_CQ_CFG. -/
def execDmaCqCfg (c : KcpCtx) (queue owner : Byte) (s : State) : Host.Outcome State Fault Refusal :=
  kcp 0x0520 c (fun _ s =>
    if 7 < queue.toNat then badParam 0 s
    else if 15 < owner.toNat then badParam 1 s
    else if (s.cq queue.toNat).enable then refuse .state 0 s
    else replyOk (s.modCq queue.toNat fun x => { x with owner := owner.toNat })) s

/-- R401: DMA_REQ_MAP. -/
def execDmaReqMap (c : KcpCtx) (line : Byte) (source : Half) (s : State) : Host.Outcome State Fault Refusal :=
  kcp 0x0521 c (fun _ s =>
    if line.toNat < 40 ∨ 55 < line.toNat then badParam 0 s
    else if source ≠ 0xFFFF ∧ 255 < source.toNat then badParam 2 s
    else replyOk (s.modDma fun d => { d with reqMap := tabSet d.reqMap line.toNat (if source = 0xFFFF then 0 else source.toNat + 1) })) s

/-- R401: DMA_QUERY; a channel the function does not hold is NOT_GRANTED, kind 4 (R156). -/
def execDmaQuery (c : KcpCtx) (channel : Byte) (s : State) : Host.Outcome State Fault Refusal :=
  kcp 0x0522 c (fun f s =>
    let k := channel.toNat
    if 31 < k then badParam 0 s
    else if !s.hasDma f k then refuse .notGranted 4 s
    else replyOk s (leBytes 4 (s.chStatus k) ++ leBytes 4 (s.chPending k) ++ [BitVec.ofNat 8 (s.ch k).owner] ++ zeros 3 ++
      leBytes 8 ((s.ch k).total / 64))) s

end Sys2Proof.Machine
end

