-- ==== Sys2Proof/Machine/FaultCmds.lean ====
section
/-! DEFINITION. The fault collector's events, force bits and commands (R435–R464). -/

namespace Sys2Proof.Machine

/-- R435, R452: samples ERR_N: driven low and read high for 4 consecutive cycles is source 180. -/
def fltSamplePin (high : Bool) (s : State) : List (Nat × Word × Bool) × State :=
  let n := if s.errnDriven && high then s.flt.errnHigh + 1 else 0
  (if n = 4 then [(180, 0, false)] else [], s.modFlt fun c => { c with errnPin := high, errnHigh := n })

/-- R436: both rails alike for 4 cycles. -/
def execBrokenWire (source : Fin 192) (s : State) : Host.Outcome State Fault Refusal :=
  done (s.faults [(source.val, 0, true)])

/-- R443: the source's live bit falls. -/
def execFaultLiveFall (source : Fin 192) (s : State) : Host.Outcome State Fault Refusal :=
  done (s.fltFall source)

/-- R449: the end of a quiet period: a recovery, or a lock. -/
def quietEnd (x : Nat) (s : State) : State :=
  let rep := unitRep x
  let e := (s.fltSrc rep).quietEnd
  if e = 0 then s
  else
    let s := s.untilAon (e - 1)
    let n := s.fltRecoveries rep
    let k := (s.fltSrc rep).quietK
    let s := s.modFltSrc rep fun c => { c with quietEnd := 0, quietClass := 0 }
    if n < k then
      let s := (s.putFence rep false).modFltSrc rep fun c => { c with recoveredAt := s.now :: c.recoveredAt }
      chooseVariants (fltUncover rep (fltRecoveryEvent rep 2 (s.count 430)))
    else fltRecoveryEvent rep 3 ((s.putLock rep true).count 431)

/-- R441: the 28 bytes of a record that its CRC covers. -/
def FltRec.body (r : FltRec) : List Byte :=
  [BitVec.ofNat 8 r.source, BitVec.ofNat 8 (packBits [(0, 3, r.cls), (4, 3, r.rawCls)])] ++ leBytes 2 r.flags.toNat ++
    leBytes 4 r.detail.toNat ++ leBytes 8 r.time.toNat ++ leBytes 4 r.logSeq.toNat ++ leBytes 4 r.occ.toNat ++
    leBytes 2 r.start.toNat ++ [r.recoveries, r.ring]

/-- R441: the 32 bytes of a record. -/
def FltRec.bytes (r : FltRec) : List Byte := r.body ++ leBytes 4 (crc32c r.body).toNat

/-- R445: a record in the fault-log region, at the place of its log sequence number on both ports. -/
def logCopy (r : FltRec) (s : State) : State :=
  s.storePorts.foldl (fun (s : State) m => s.memStore (s.logBase m + 32 * (r.logSeq.toNat % 32768)) r.bytes) s

/-- R445, R104, R67: the oldest ring entry is mirrored to the MRAM log and copied to the fault-log region, unless PLL9 is gated. A region that a
poisoned line has spoilt is rewritten with it. -/
def execFaultRingMirror (s : State) : Host.Outcome State Fault Refusal :=
  match s.flt.ring with
  | [] => done s
  | r :: rest =>
    if (s.pll 9).gated then done s
    else
      let all := if s.flt.regionBad then s.fltMram.log else []
      done ((r :: all).foldl (fun (s : State) r => logCopy r s)
        ((s.modFlt fun c => { c with ring := rest, mirror := c.mirror + 1, regionBad := false }).modFltMram fun c =>
          { c with log := (r :: c.log).take 32768 }))

/-- R451: the ERR_N pulse time expires. -/
def execErrnPulseEnd (s : State) : Host.Outcome State Fault Refusal :=
  if s.flt.pulseEnd = 0 then done s
  else done ((s.untilAon (s.flt.pulseEnd - 1)).modFlt fun c => { c with pulseEnd := 0 })

/-- R458: a control core's watchdog expires; another core restarts it. -/
def execCoreWatchdogExpiry (core : Fin 4) (s : State) : Host.Outcome State Fault Refusal :=
  done (s.fault 186 (BitVec.ofNat 32 core))

/-- R459: a write of FLT_FORCE, as its fields give; rails that an earlier write holds stay held until a release. -/
def fltForce (fn : Nat) (v : Nat) (s : State) : State :=
  let x := v % 256
  if !s.flt.testUnlocked || !s.hasFltRead fn then s.denied fn
  else if 191 < x then s
  else if bitOf 13 v then fltReturn x s
  else
    let broken := bitOf 12 v
    let hold := bitOf 11 v
    let cls := bitsOf 8 3 v
    let hold := hold || (s.fltSrc x).forced
    if s.railsNew x broken then
      let detail := if broken then BitVec.allOnes 32 else s.flt.forceDetail
      let p := s.classify x detail broken true (if cls ≤ 4 ∧ !broken then some cls else none)
      let s := (fltCycle [p.1] p.2).modFltSrc x fun c => { c with forced := hold }
      if hold then s else fltReturn x s
    else s.modFltSrc x fun c => { c with forced := hold }

/-- R459: a force write with neither broken nor release. -/
def execFltForceAssert (fn : Fin 16) (value : Word) (s : State) : Host.Outcome State Fault Refusal :=
  if !s.barOpen fn then done s else
  let s := s.bar0
  done (fltForce fn (value &&& 0xFFF).toNat s)

/-- R459: a force write with broken. -/
def execFltForceBroken (fn : Fin 16) (value : Word) (s : State) : Host.Outcome State Fault Refusal :=
  if !s.barOpen fn then done s else
  let s := s.bar0
  done (fltForce fn ((value &&& 0xFFF) ||| 0x1000).toNat s)

/-- R459: a force write with release. -/
def execFltForceRelease (fn : Fin 16) (value : Word) (s : State) : Host.Outcome State Fault Refusal :=
  if !s.barOpen fn then done s else
  let s := s.bar0
  done (fltForce fn ((value &&& 0x1FFF) ||| 0x2000).toNat s)

/-! ### What hosts read -/

/-- R460: FLT_STATUS. -/
def State.fltStatus (s : State) : Nat :=
  let causes := s.flt.src.filter fun e => e.2.cause
  packBits [(0, 1, b2n s.flt.safe), (1, 1, b2n s.flt.first.isSome), (2, 1, b2n s.flt.next.isSome), (3, 1, b2n s.disagree),
    (4, 1, b2n s.flt.testUnlocked), (5, 1, b2n s.errnDriven), (6, 1, b2n s.flt.errnPin), (7, 1, b2n (!causes.isEmpty)),
    (8, 3, causes.foldl (fun m e => max m e.2.lastClass.toNat) 0)]

/-- R460: FLT_SRCs. -/
def State.fltSrcWord (s : State) (x : Nat) : Nat :=
  let c := s.fltSrc x
  packBits [(0, 3, c.lastClass.toNat), (3, 3, (s.fltCfg x).minClass), (8, 8, c.count.toNat), (16, 4, s.fltRecoveries x),
    (20, 1, b2n (s.fenced x)), (21, 1, b2n (s.fltLocked x)), (22, 1, b2n ((s.fltSrc (unitRep x)).quietEnd != 0)),
    (23, 1, b2n c.forced)]

/-- The first 20 bytes of a record, zeros when it is empty. -/
def recHead (r : Option FltRec) : List Byte := match r with | some r => r.body.take 20 | none => zeros 20

/-! ### Commands -/

/-- R463: 0x0700. -/
def execFltQuery (c : KcpCtx) (s : State) : Host.Outcome State Fault Refusal :=
  kcp 0x0700 c (fun f s =>
    if !s.hasFltRead f then refuse .notGranted 7 s
    else replyOk s (leBytes 4 s.fltStatus ++ leBytes 4 s.flt.overflow.toNat ++ recHead s.flt.first ++ recHead s.flt.next)) s

/-- The log records from sequence `first` on, oldest first, at most `n`. -/
def logFrom (log : List FltRec) (first : Word) (n : Nat) : List FltRec :=
  ((log.reverse.dropWhile fun r => r.logSeq != first)).take n

/-- R445, R463: the records that can be read, newest first: the 4,096 of MRAM, and the older ones while a port with the fault-log region is up. -/
def State.faultLog (s : State) : List FltRec :=
  if s.storePorts.any (fun m => s.portServes m) then s.fltMram.log else s.fltMram.log.take 4096

/-- R463: FLT_LOG_READ's own part. -/
def fltLogRead (c : KcpCtx) (first : Word) (count : Half) (mode : Byte) (address : Long) (f : Nat) (s : State) : Reply :=
  let log := s.faultLog
  let newest := match log.head? with | some r => r.logSeq.toNat | none => 0
  let oldest := match log.getLast? with | some r => r.logSeq.toNat | none => 0
  let n := count.toNat
  if !s.hasFltRead f then refuse .notGranted 7 s
  else if 2 < mode.toNat then badParam 6 s
  else if n < 1 ∨ 32768 < n ∨ (mode = 0 ∧ n ≠ 1) then badParam 4 s
  else if mode = 2 ∧ overUdp c then refuse .denied 0 s
  else if log.isEmpty ∨ newest < first.toNat then refuse .state newest s
  else if first.toNat < oldest then refuse .state oldest s
  else
    let rs := logFrom log first n
    let bytes := rs.flatMap FltRec.bytes
    if mode = 0 then replyOk s (bytes ++ leBytes 4 oldest ++ leBytes 4 newest)
    else if mode = 1 then
      if !s.memMapped address.toNat bytes.length then badParam 8 s
      else replyOk (s.memWrite address.toNat bytes) (leBytes 2 rs.length)
    else replyOk (s.hostWrite address.toNat bytes ⟨16, 69, f⟩) (leBytes 2 rs.length)

/-- R463, R464: 0x0701; in the safe state in mode 0 only. -/
def execFltLogRead (c : KcpCtx) (first : Word) (count : Half) (mode : Byte) (address : Long) (s : State) :
    Host.Outcome State Fault Refusal :=
  kcpRun 0x0701 0 (mode == 0) c (fltLogRead c first count mode address) s

/-- R442, R443, R463: an acknowledgement, and the collector cycle that applies it. -/
def fltAck (kind first count : Nat) (_f : Nat) (s : State) : Reply :=
  if kind = 0 then replyOk (fltMove (s.modFlt fun c => { c with first := none })) (zeros 4)
  else if kind = 1 then
    if 192 ≤ first then badParam 2 s
    else if 192 < first + count then badParam 4 s
    else
      let r := fltClear (fun x => decide (first ≤ x) && decide (x < first + count)) s
      replyOk (fltMove r.2.2) (leBytes 2 r.1 ++ leBytes 2 r.2.1)
  else if kind = 2 then
    let r := fltClear (fun _ => true) s
    replyOk (fltMove r.2.2) (leBytes 2 r.1 ++ leBytes 2 r.2.1)
  else badParam 0 s

/-- R463: 0x0702. -/
def execFltAck (c : KcpCtx) (kind : Byte) (first count : Half) (s : State) : Host.Outcome State Fault Refusal :=
  kcp 0x0702 c (fltAck kind.toNat first.toNat count.toNat) s

/-- R463: 0x0703, settings of a range of sources, held in MRAM. -/
def execFltSetSource (c : KcpCtx) (first count : Half) (minClass n ceiling : Byte) (w : Word) (s : State) :
    Host.Outcome State Fault Refusal :=
  kcp 0x0703 c (fun _ s =>
    let a := first.toNat
    let k := count.toNat
    if 192 ≤ a then badParam 0 s
    else if 192 < a + k then badParam 2 s
    else if a ≤ 182 ∧ 175 < a + k then badParam 0 s
    else if 4 < minClass.toNat then badParam 4 s
    else if ceiling.toNat < 2 ∨ 4 < ceiling.toNat then badParam 6 s
    else if w.toNat < 1 ∨ 86400 < w.toNat then badParam 8 s
    else
      let g : FltCfg := { minClass := minClass.toNat, n := n, w := w.toNat, ceiling := ceiling.toNat }
      replyOk (s.modFltMram fun m => { m with cfg := tabModAll m.cfg (((List.range k).map (· + a))) fun _ _ => g })) s

/-- R463: 0x0704. -/
def execFltSetRecovery (c : KcpCtx) (k : Byte) (q2 q3 : Half) (s : State) : Host.Outcome State Fault Refusal :=
  kcp 0x0704 c (fun _ s =>
    if k.toNat < 1 ∨ 15 < k.toNat then badParam 0 s
    else if q2.toNat < 1 ∨ 3600 < q2.toNat then badParam 2 s
    else if q3.toNat < 1 ∨ 3600 < q3.toNat then badParam 4 s
    else replyOk (s.modFltMram fun m => { m with k := k.toNat, q2 := q2.toNat, q3 := q3.toNat })) s

/-- R463: FLT_UNFENCE's own part. -/
def fltUnfence (x : Nat) (_f : Nat) (s : State) : Reply :=
  let rep := unitRep x
  if 191 < x ∨ (fenceBit x).isNone then badParam 0 s
  else if (unitSources x).any (fun y => (s.fltSrc y).live) then refuse .state 0 s
  else if 4 ≤ (s.fltSrc rep).quietClass then refuse .state 0 s
  else
    let s := (s.putFence rep false).putLock rep false
    let s := s.modFltSrc rep fun c => { c with quietEnd := 0, quietClass := 0, recoveredAt := [] }
    replyOk (chooseVariants (fltUncover rep s))

/-- R451, R463: 0x0706. -/
def execFltSetErrn (c : KcpCtx) (pulseClass levelClass : Byte) (pulseUs : Half) (swLevel : Byte) (s : State) :
    Host.Outcome State Fault Refusal :=
  kcp 0x0706 c (fun _ s =>
    if 7 < pulseClass.toNat then badParam 0 s
    else if 7 < levelClass.toNat then badParam 1 s
    else if pulseUs.toNat < 10 then badParam 2 s
    else if 1 < swLevel.toNat then badParam 4 s
    else
      let s := s.modFltMram fun m =>
        { m with pulseClass := BitVec.ofNat 3 pulseClass.toNat, levelClass := BitVec.ofNat 3 levelClass.toNat, pulseUs := pulseUs }
      replyOk (s.modFlt fun f => { f with swLevel := swLevel == 1 })) s

/-- R454: where a safe field image breaks its layout, none when it is sound. -/
def safeFieldBad (bs : List Byte) : Option Nat :=
  let w := leNat ((bs.drop 10).take 2)
  let h := leNat ((bs.drop 12).take 2)
  let n := 16 + ceilDiv w 8 * h
  if bs.take 4 ≠ [0x47, 0x4D, 0x53, 0x46] then some 0
  else if 1024 < w then some 10
  else if 256 < h then some 12
  else if bs.length ≠ n + 4 then some 16
  else if leNat ((bs.drop n).take 4) ≠ (crc32c (bs.take n)).toNat then some n
  else none

/-- R454, R463: 0x0707. -/
def execFltSetSafeField (c : KcpCtx) (address : Long) (length : Word) (s : State) : Host.Outcome State Fault Refusal :=
  kcp 0x0707 c (fun _ s =>
    let a := address.toNat
    let n := length.toNat
    if !s.memMapped a n then badParam 0 s
    else if n < 20 ∨ 16 + 128 * 256 + 4 < n then badParam 8 s
    else
      match s.memFetch a n with
      | (none, s) => refuse .media 0 s
      | (some bs, s) =>
        match safeFieldBad bs with
        | some off => badParam off s
        | none => replyOk (s.modFltMram fun m => { m with safeField := bs })) s

/-- R463: 0x0708; the entry is scheduled 100 µs after the response. -/
def execFltEnterSafe (c : KcpCtx) (confirm : Word) (s : State) : Host.Outcome State Fault Refusal :=
  kcp 0x0708 c (fun _ s =>
    if confirm ≠ 0x53414645 then badParam 0 s
    else replyOk (s.modFlt fun f => { f with enterSafeDue := s.now + usNs 100 + 1 })) s

/-- R463: 100 µs after FLT_ENTER_SAFE, source 187 enters the safe state. -/
def execFltEnterSafeDue (s : State) : Host.Outcome State Fault Refusal :=
  if s.flt.enterSafeDue = 0 then done s
  else
    let s := s.untilAon (s.flt.enterSafeDue - 1)
    done ((s.modFlt fun f => { f with enterSafeDue := 0 }).fault 187 1)

/-- R463: 0x0709. -/
def execFltSrcQuery (c : KcpCtx) (source : Half) (s : State) : Host.Outcome State Fault Refusal :=
  kcp 0x0709 c (fun f s =>
    let x := source.toNat
    if !s.hasFltRead f then refuse .notGranted 7 s
    else if 191 < x then badParam 0 s
    else
      let g := s.fltCfg x
      let e := s.fltSrc x
      replyOk s (leBytes 4 (s.fltSrcWord x) ++ leBytes 4 e.occ.toNat ++ [g.n, BitVec.ofNat 8 g.ceiling, 0, 0] ++
        leBytes 4 g.w ++ leBytes 4 e.lastDetail.toNat ++ leBytes 8 e.lastTime.toNat)) s

end Sys2Proof.Machine
end

