-- ==== Sys2Proof/Machine/Clk.lean ====
section
/-! DEFINITION. References, PLLs, tracking, SYNC_IN, SYNC_OUT and the clock commands (R60–R80). -/

namespace Sys2Proof.Machine

/-! ### Registers (R78) -/

/-- R78: CLK_REF_STATUS. -/
def State.clkRef (s : State) : Nat :=
  packBits [(0, 1, b2n s.clk.refOk), (1, 1, b2n s.host.peRefclk), (2, 2, s.boot.board.refFreq.toNat), (16, 16, s.clk.lossCount.toNat)]

/-- R78: CLK_TIME_STATUS; its rate field is a in units of 2^−24. -/
def State.clkTime (s : State) : Nat :=
  packBits [(0, 2, s.clk.mode.toNat), (2, 1, b2n s.clk.valid), (3, 1, b2n (s.clk.realigning != 0)),
    (4, 1, b2n (s.planGated && s.clk.refOk)), (8, 24, signedField 24 (asr s.clk.rate 16))]

/-- R78: CLK_SYNC_STATUS. -/
def State.clkSync (s : State) : Nat := packBits [(0, 1, b2n s.clk.syncPresent), (16, 16, s.clk.syncRejected.toNat)]

/-- R78: CLK_PLLk_CFG. -/
def Pll.cfg (p : Pll) : Nat := packBits [(0, 7, p.m), (7, 13, p.nNow), (20, 8, p.p), (28, 1, b2n p.bandB)]

/-- R78: CLK_PLLk_STATUS. -/
def Pll.status (p : Pll) : Nat :=
  packBits [(0, 1, b2n p.locked), (1, 1, b2n p.gated), (2, 1, b2n p.failed), (3, 2, p.trackSrc.toNat), (5, 4, p.trackGroup.toNat),
    (9, 8, signedField 8 p.nOffset), (17, 8, p.heads.toNat)]

/-- R78: CLK_PLLk_EVENTS. -/
def Pll.events (p : Pll) : Nat := packBits [(0, 16, p.losses.toNat), (16, 16, p.relocks.toNat)]

/-- R79: a read of CLK_TIME_LO latches CLK_TIME_HI for the function. -/
def execClkTimeLoRead (fn : Fin 16) (s : State) : Host.Outcome State Fault Refusal :=
  if !s.barOpen fn then done s else
  let s := s.bar0
  let v := s.planTime.toNat
  done ((s.modClk fun c => { c with timeHiLatch := tabSet c.timeHiLatch fn (v / 2 ^ 32 + 1) }).emit (.readData fn (v % 2 ^ 32) false))

/-- R79: a read of CLK_NT_OFFSET_LO latches CLK_NT_OFFSET_HI for the function. -/
def execClkNtOffsetLoRead (fn : Fin 16) (s : State) : Host.Outcome State Fault Refusal :=
  if !s.barOpen fn then done s else
  let s := s.bar0
  let v := signedField 64 s.clk.ntOffset
  done ((s.modClk fun c => { c with offsetHiLatch := tabSet c.offsetHiLatch fn (v / 2 ^ 32 + 1) }).emit (.readData fn (v % 2 ^ 32) false))

/-! ### Tracking -/

/-- R71: the SYNC period in force, ns: of the lowest PLL that tracks SYNC_IN, or of a group on time base 1; 0 without either, and then every edge
is rejected (DESIGN CHOICE, log 23). -/
def State.syncPeriod (s : State) : Nat :=
  match (List.range 8).find? fun k => (s.pll k).trackSrc = 1 ∧ (s.pll k).syncPeriod ≠ 0 with
  | some k => (s.pll k).syncPeriod
  | none => (allGroups.findSome? fun g => (s.grpTruss g).bind fun t => (t.group g).bind fun e => if e.base = 1 then some (t.h * grain) else none).getD 0

/-- R70: e of PLL `k` at a frame start now, from its tracking source; none when the source is missing. -/
def State.trackError (s : State) (k : Nat) : Option Int :=
  let p := s.pll k
  let g := p.trackGroup.toNat
  match s.grpTruss g with
  | none => none
  | some t =>
    match t.group g with
    | none => none
    | some e =>
      if p.trackSrc = 2 then
        let x := s.gridNext t e (s.clk.plan - t.h * grain / e.f / 2)
        some ((s.clk.plan : Int) - (s.gridSill t e x.1 x.2 : Nat))
      else if p.trackSrc = 1 ∧ s.clk.syncPresent then
        let period := max 1 s.syncPeriod
        let near := fun (j : Nat) =>
          let r := ((s.clk.plan : Int) - (s.clk.syncAccepted - 1 + sillGrain t.h e j * grain : Nat)) % (period : Nat)
          if 2 * r ≤ (period : Nat) then r else r - (period : Nat)
        some ((List.range e.f).foldl (fun (m : Int) j => if (near j).natAbs < m.natAbs then near j else m) (near 0))
      else none

/-- R70: d of PLL `k` for an error e over a frame of `frame` ns. -/
def Pll.steer (p : Pll) (e : Int) (frame : Nat) : Int :=
  let limit : Int := (35 * p.nProg / 10000 : Nat)
  if e.natAbs ≤ p.deadband then 0
  else max (-limit) (min limit ((2 * e * p.nProg + 2 * frame) / (4 * max 1 frame : Nat)))

/-- R70, R71: a PLL whose tracking source is missing keeps n at its last value. -/
def holdN (k : Nat) (s : State) : State := s.modPll k fun p => { p with target := p.nOffset }

/-- R70: the tracking source of PLL `k` is missing: no SYNC_IN edges are accepted, or its group runs no truss. -/
def State.trackMissing (s : State) (k : Nat) : Bool :=
  let p := s.pll k
  (p.trackSrc == 1 && !s.clk.syncPresent) || (p.trackSrc == 2 && !s.grpRuns p.trackGroup.toNat)

/-- R70: the tracker of PLL `k` measures at a frame start of its lowest head. -/
def trackMeasure (k : Nat) (s : State) : State :=
  let p := s.pll k
  if p.trackSrc = 0 || s.flt.safe || s.planGated then s
  else
    match s.trackError k with
    | none => holdN k s
    | some e =>
      let frame := match s.grpTruss p.trackGroup.toNat with
        | some t => (match t.group p.trackGroup.toNat with | some x => t.h * grain / max 1 x.f | none => 1)
        | none => 1
      s.modPll k fun p => { p with trackErr := e, target := p.steer e frame }

/-- R70: n of PLL `k` moves one step toward its target, at least 64 PFD cycles after the step before, while its tracking source is there. -/
def execTrackerNStep (k : Fin 8) (s : State) : Host.Outcome State Fault Refusal :=
  let p := s.pll k
  if p.gated || s.planGated || s.flt.safe || s.trackMissing k || p.nOffset == p.target then done s
  else
    let s := if p.stepAt = 0 then s else s.untilPlan (p.stepAt - 1 + s.pfdNs k 64)
    done (s.modPll k fun p => { p with nOffset := if p.nOffset < p.target then p.nOffset + 1 else p.nOffset - 1, stepAt := s.clk.plan + 1 })

/-! ### SYNC_IN and SYNC_OUT -/

/-- R71: an interval lies within 5 % of the SYNC period. -/
def syncNear (period d : Nat) : Bool := decide (95 * period ≤ 100 * d) && decide (100 * d ≤ 105 * period)

/-- R71: a rising SYNC_IN edge. The first edge of all has no period, so it is not accepted (log 23). -/
def execSyncInEdge (afterNs highNs : Nat) (s : State) : Host.Outcome State Fault Refusal :=
  let s := s.elapse afterNs
  if s.planGated || s.boot.phase != .running then done s
  else
    let t := s.clk.plan
    let period := s.syncPeriod
    let near := fun last => last != 0 && syncNear period (t - (last - 1))
    if 100 ≤ highNs ∧ period ≠ 0 ∧ (near s.clk.syncLast || near s.clk.syncAccepted) then
      done (s.modClk fun c => { c with syncPresent := true, syncLast := t + 1, syncAccepted := t + 1 })
    else done (s.modClk fun c => { c with syncLast := t + 1, syncRejected := satInc c.syncRejected })

/-- R71: three consecutive expected edges are missing; the trackers on SYNC_IN hold n. -/
def execSyncInMissing (s : State) : Host.Outcome State Fault Refusal :=
  if !s.clk.syncPresent then done s
  else
    let s := s.untilPlan (s.clk.syncAccepted - 1 + 3 * s.syncPeriod + s.syncPeriod / 20)
    let s := s.modClk fun c => { c with syncPresent := false }
    done ((List.range 8).foldl (fun (s : State) k => if (s.pll k).trackSrc = 1 then holdN k s else s) s)

/-- R73: the next whole second of network time at or after now, in plan time. -/
def State.nextSecond (s : State) : Nat :=
  let net : Int := s.clk.plan + s.clk.ntOffset
  (-((-net) / 1000000000) * 1000000000 - s.clk.ntOffset).toNat

/-- R73: the next instant at which a sill of group `g`, offset, lies at or after now. -/
def State.syncOutAt (s : State) (g : Nat) (offset : Int) : Option Nat :=
  (s.grpTruss g).bind fun t => (t.group g).map fun e =>
    let since := ((s.clk.plan : Int) - offset * grain).toNat
    let at' := if e.base = 1 then (let x := s.refNext t e g since; x.2.2 + sillGrain t.h e x.2.1 * grain)
               else (let x := s.gridNext t e since; s.gridSill t e x.1 x.2)
    ((at' : Int) + offset * grain).toNat

/-- R73: a configuration comes into force, once a pulse in progress has been completed. -/
def setSyncOut (x : SyncOutCfg) (s : State) : State :=
  if s.pins.syncOut then s.modClk fun c => { c with syncOutNext := some x } else s.modClk fun c => { c with syncOut := x, syncOutNext := none }

/-- R73: SYNC_OUT rises for the width in force. -/
def riseSyncOut (s : State) : State :=
  (s.modPins fun p => { p with syncOut := true }).modClk fun c => { c with syncOutFall := c.plan + c.syncOut.width * grain + 1 }

/-- R73: SYNC_OUT rises: at a whole second, or at a sill of its group plus the offset. A change into or out of second mode comes into force at
the whole second; until then a sill pulse of the old setting still rises. -/
def execSyncOutRise (s : State) : Host.Outcome State Fault Refusal :=
  if s.pins.syncOut || s.planGated then done s
  else
    match s.clk.syncOutNext with
    | some x =>
      let sill := if s.clk.syncOut.mode = 1 ∧ !s.seqStopped then s.syncOutAt s.clk.syncOut.group s.clk.syncOut.offset else none
      match sill.filter fun t => decide (t < s.nextSecond) with
      | some t => done (riseSyncOut (s.untilPlan t))
      | none =>
        let s := (s.untilPlan s.nextSecond).modClk fun c => { c with syncOut := x, syncOutNext := none }
        done (if x.mode = 2 then riseSyncOut s else s)
    | none =>
      if s.clk.syncOut.mode = 2 then done (riseSyncOut (s.untilPlan s.nextSecond))
      else if s.clk.syncOut.mode = 1 ∧ !s.seqStopped then
        match s.syncOutAt s.clk.syncOut.group s.clk.syncOut.offset with
        | some t => done (riseSyncOut (s.untilPlan t))
        | none => done s
      else done s

/-- R73: SYNC_OUT falls at the end of its width; its generator stands still while PLL8 is gated (R77). -/
def execSyncOutFall (s : State) : Host.Outcome State Fault Refusal :=
  if !s.pins.syncOut || s.planGated then done s
  else
    let s := (s.untilPlan (s.clk.syncOutFall - 1)).modPins fun p => { p with syncOut := false }
    let s := s.modClk fun c => { c with syncOutFall := 0 }
    match s.clk.syncOutNext with
    | some x =>
      if x.mode ≠ 2 ∧ (x.mode = 1 ∨ s.clk.syncOut.mode = 1) then done (s.modClk fun c => { c with syncOut := x, syncOutNext := none }) else done s
    | none => done s

/-! ### Time base -/

/-- R355: the sync interval, ns. -/
def State.syncNs (s : State) : Nat :=
  let l := s.netMram.time.logSync
  if l < 0 then 1000000000 / 2 ^ l.natAbs else 1000000000 * 2 ^ l.toNat

/-- R75: no valid synchronisation for three sync intervals in locked mode. -/
def execTimeHoldover (s : State) : Host.Outcome State Fault Refusal :=
  if s.clk.mode ≠ 1 then done s
  else done (setTimeMode 2 (s.untilPlan (s.net.lastSync.toNat + 3 * s.syncNs)))

/-! ### Commands (R80) -/

/-- R80: CLK_QUERY. -/
def execClkQuery (c : KcpCtx) (pll : Byte) (s : State) : Host.Outcome State Fault Refusal :=
  kcp 0x0900 c (fun _ s =>
    if 9 < pll.toNat then badParam 0 s
    else
      let p := s.pll pll.toNat
      replyOk s (leBytes 8 s.planTime.toNat ++ leBytes 8 (signedField 64 s.clk.ntOffset) ++ leBytes 4 s.clkTime ++ leBytes 4 p.cfg ++
        leBytes 4 p.status ++ leBytes 4 p.events)) s

/-- R80: the group of the heads that PLL `k` feeds, with its time base and hyperperiod. -/
def State.pllGroup (s : State) (k : Nat) : Option (Nat × Nat × Nat) :=
  (s.pllHeads k).findSome? fun h => (s.headGroup h).bind fun x => (x.2.1.group x.1).map fun e => (x.1, e.base, x.2.1.h)

/-- R63, R80, R147, R194: CLK_SET_TRACK. -/
def execClkSetTrack (c : KcpCtx) (pll source group : Byte) (deadband : Half) (period : Word) (s : State) : Host.Outcome State Fault Refusal :=
  kcp 0x0901 c (fun f s =>
    let k := pll.toNat
    let ns := period.toNat
    if 7 < k then badParam 0 s
    else if 2 < source.toNat then badParam 1 s
    else if 15 < group.toNat then badParam 2 s
    else if ns < 1000000 ∨ 1000000000 < ns then badParam 6 s
    else
      match s.pllGroup k with
      | none => refuse .state 0 s
      | some (g, base, h) =>
        if base = 1 ∧ ns ≠ h * grain then badParam 6 s
        else if source ≠ 0 ∧ (s.pll k).nProg < 2000 then refuse .state 0 s
        else
          let d := if deadband = 0 then 64 else deadband.toNat
          replyOk (s.defer g f (.track k source.toNat group.toNat d ns))) s

/-- R73, R80, R147: CLK_SET_SYNC_OUT. Mode 1 for a group that no running truss holds is refused with STATE (DESIGN CHOICE, log 23). -/
def execClkSetSyncOut (c : KcpCtx) (mode group : Byte) (width : Half) (offset : Word) (s : State) : Host.Outcome State Fault Refusal :=
  kcp 0x0902 c (fun f s =>
    let g := group.toNat
    if 2 < mode.toNat then badParam 0 s
    else if mode = 1 ∧ 15 < g then badParam 1 s
    else if mode ≠ 0 ∧ width = 0 then badParam 2 s
    else if offset.toInt < -1000000 ∨ 1000000 < offset.toInt then badParam 4 s
    else if mode = 1 ∧ !s.grpRuns g then refuse .state 0 s
    else
      let x : SyncOutCfg := { mode := BitVec.ofNat 2 mode.toNat, group := g, width := width.toNat, offset := offset.toInt }
      let now := s.clk.syncOut
      if mode = 1 then replyOk (s.defer g f (.syncOut 1 g width.toNat offset.toInt))
      else if mode = 0 ∧ now.mode = 1 ∧ s.grpRuns now.group then replyOk (s.defer now.group f (.syncOut 0 g width.toNat offset.toInt))
      else if mode = 0 ∧ now.mode = 0 then replyOk (s.modClk fun c => { c with syncOut := x, syncOutNext := none })
      else replyOk (s.modClk fun c => { c with syncOutNext := some x })) s

/-- R68, R80: CLK_RELOCK. A PLL that is locked is left as it is. -/
def execClkRelock (c : KcpCtx) (pll : Byte) (s : State) : Host.Outcome State Fault Refusal :=
  kcp 0x0903 c (fun _ s =>
    let k := pll.toNat
    if 9 < k then badParam 0 s
    else if 8 ≤ k ∧ s.seq.running ≠ 0 then refuse .state 0 s
    else if (s.pll k).locked then replyOk s
    else replyOk (acquirePll k (s.modPll k fun p => { p with failed := false, attempts := 0, recal := false }))) s

/-- R80: CLK_SET_SETTLE. -/
def execClkSetSettle (c : KcpCtx) (count : Half) (s : State) : Host.Outcome State Fault Refusal :=
  kcp 0x0904 c (fun _ s =>
    if count.toNat < 1024 then badParam 0 s else replyOk (s.modBootMram fun b => { b with settle := count.toNat })) s

end Sys2Proof.Machine
end

