-- ==== Sys2Proof/Machine/Heads.lean ====
section
/-! DEFINITION. The heads: frames and lines as they scan, hot-plug, training, AUX, and the head commands (R295–R314). -/

namespace Sys2Proof.Machine

/-! ### Frames and lines -/

/-- R314: a head's power changes. -/
def applyPower (h v : Nat) (s : State) : State :=
  let old := (s.head h).power
  if v = old then s
  else
    let s := s.modHead h fun x => { x with power := v }
    if v = 2 then
      headEvent h (sinkPower h 2 (s.modHead h fun x => { x with state := if x.hpd then .plugged else .unplugged, lanes := 0, rate := 0 }))
    else if old = 2 ∧ (s.head h).hpd then startTraining h false (sinkPower h 1 s)
    else headEvent h s

/-- R296: plan time of the next frame start of a head: a frame after the last one, or the next sill of its group. -/
def State.nextFrameStart (s : State) (h : Nat) (x : HeadTiming) : Nat :=
  if (s.head h).scanning then (s.head h).frameStart + s.headFrameNs x
  else
    match s.headGroup h with
    | some (g, _, _) => if s.seqStopped || (s.group g).sillAt == s.clk.plan then s.clk.plan else (s.group g).nextAt
    | none => s.clk.plan

/-- R76, R194: a group whose sills follow this head has its next sill now, and is on its grid once the tracker's last error is within the deadband
(DESIGN CHOICE, log 23). -/
def leadFrame (h : Nat) (s : State) : State :=
  match s.headGroup h with
  | none => s
  | some (g, t, _) =>
    if s.leadHead g ≠ some h then s
    else
      let p := s.pll (match (s.head h).timing with | some x => x.pll | none => 0)
      let half := match t.group g with | some e => t.h * grain / e.f / 2 | none => 0
      let s := if ((s.group g).nextAt : Int) - s.clk.plan < half ∧ (s.clk.plan : Int) - (s.group g).nextAt < half ∧ s.clk.plan ≠ (s.group g).sillAt then
        s.modGroup g fun c => { c with nextAt := s.clk.plan } else s
      if s.clk.realigning.getLsbD g ∧ p.trackErr.natAbs ≤ p.deadband then s.modClk fun c => { c with realigning := putBit c.realigning g false } else s

/-- R301, R383: the number of the frame that a head of group `g` begins to scan now: that of the nearest sill. -/
def State.frameNear (s : State) (g : Nat) : Word :=
  let c := s.group g
  if c.begun ∧ c.nextAt - s.clk.plan ≥ (c.nextAt - c.sillAt + 1) / 2 then c.n else s.frameAfter g 0

/-- R301: strips of frames before the one that begins are no longer shown. -/
def dropStale (h : Nat) (s : State) : State :=
  match s.headGroup h with
  | none => s
  | some (g, _, _) => s.modHead h fun x => { x with bufs := tabMap (fun _ b => if b.n = s.frameNear g then b else {}) x.bufs }

/-- R310, R383: a head with a writeback engine starts a frame of it. -/
def headWbStart (h : Nat) (s : State) : State :=
  match s.headGroup h with
  | none => s
  | some (g, t, o) =>
    if (t.output o).wb = 0 || s.flt.safe then s
    else wbStart ((t.output o).wb - 1) (s.frameNear g) s

/-- R296, R306, R314: head `h` begins a frame. -/
def execHeadFrameStart (h : Fin 8) (s : State) : Host.Outcome State Fault Refusal :=
  let s := endRelock h s
  match (s.head h).timing with
  | none => done s
  | some x =>
    if !s.canScan h then done s
    else
      let was := (s.head h).scanning
      let s := s.untilPlan (s.nextFrameStart h x)
      let s := if was then (s.modHead h fun c => { c with frames := c.frames + 1 }).count (288 + 4 * h) else s
      let s := match (s.head h).powerNext with
        | some v => applyPower h v (s.modHead h fun c => { c with powerNext := none })
        | none => s
      let back := s.backLine h
      let s := s.modHead h fun c =>
        { c with scanning := true, frameStart := s.clk.plan, line := 0, repeatedNow := false,
                 last := if was then c.last else back, delivered := if was then c.delivered else back }
      let s := dropStale h s
      let s := if (s.pllHeads x.pll).head? = some h.val then trackMeasure x.pll s else s
      done (headWbStart h (leadFrame h s))

/-- R454: line `y` of the safe field in a head's encoding. -/
def State.safeLine (s : State) (h : Nat) (x : HeadTiming) (y : Nat) : List (List Nat) :=
  let f := s.safeField
  let px := fun v => (⟨bitsOf 16 8 v * 257, bitsOf 8 8 v * 257, bitsOf 0 8 v * 257, 65535⟩ : Px)
  let w := f.2.2.1
  let bh := f.2.2.2
  let x0 : Int := ((x.hactive : Int) - w) / 2
  let y0 : Int := ((x.vactive : Int) - bh) / 2
  let row := (List.range x.hactive).map fun (i : Nat) =>
    let bx := (i : Int) - x0
    let by' := (y : Int) - y0
    if 0 ≤ bx ∧ bx < w ∧ 0 ≤ by' ∧ by' < bh ∧
        bitOf (7 - bx.toNat % 8) (s.fltMram.safeField.getD (16 + by'.toNat * ceilDiv w 8 + bx.toNat / 8) 0).toNat then px f.2.1 else px f.1
  let enc := match s.headGroup h with | some (_, t, o) => (t.output o).enc | none => 0
  let st := encodeStrip enc { dither := 0 } 0 y [row]
  [st.a.headD [], st.b.headD [], st.c.headD [], st.alpha.headD []]

/-- R310: a line that a head scans goes to its writeback engine. -/
def headWbLine (h y : Nat) (l : List (List Nat)) (s : State) : State :=
  match s.headGroup h with
  | none => s
  | some (_, t, o) =>
    let out := t.output o
    if out.wb = 0 then s
    else wbStrip (out.wb - 1) out.enc y { a := [l.getD 0 []], b := [l.getD 1 []], c := [l.getD 2 []], alpha := [l.getD 3 []] } s

/-- R301, R302, R311: an active line starts: the committed strip's line, or the last line again; the safe field in the safe state and on a head
that no truss names (R55, R188). `ecc`: 0 no error in its buffer line,
1 corrected, 2 uncorrectable. -/
def execHeadLineStart (h : Fin 8) (ecc : Fin 3) (s : State) : Host.Outcome State Fault Refusal :=
  match (s.head h).timing with
  | none => done s
  | some x =>
    let y := (s.head h).line
    if !(s.head h).scanning || decide (x.vactive ≤ y) then done s
    else
      let ht := x.hactive + x.hfp + x.hsync + x.hbp
      let s := s.untilPlan ((s.head h).frameStart + s.pixelsNs x ((x.vsync + x.vbp + y) * ht + x.hsync + x.hbp))
      if s.flt.safe || (s.headGroup h).isNone then
        let l := s.safeLine h x y
        done ((s.modHead h fun c => { c with line := y + 1, last := l }).emit (.headLine h y false))
      else
        let b := tabGet (s.head h).bufs (y / 8 % 4)
        let there := b.committed && b.strip == y / 8
        let bad := there && ecc == 2
        let l := if there && !bad then
          [b.lines.a.getD (y % 8) [], b.lines.b.getD (y % 8) [], b.lines.c.getD (y % 8) [], b.lines.alpha.getD (y % 8) []] else (s.head h).last
        let first := !there && !(s.head h).repeatedNow
        let s := s.modHead h fun c =>
          { c with line := y + 1, last := l, repeated := if there then c.repeated else c.repeated + 1, repeatedNow := c.repeatedNow || !there,
                   bufs := if there ∧ (y % 8 = 7 ∨ y + 1 = x.vactive) then tabSet c.bufs (y / 8 % 4) {} else c.bufs }
        let s := if there then s else s.count (288 + 4 * h + 1)
        let s := if first then s.fault (32 + h) 3 else s
        let s := if there ∧ ecc = 1 then s.fault (32 + h) 4 else if bad then s.fault (32 + h) 5 else s
        done (headWbLine h y l (s.emit (.headLine h y (!there || bad))))

/-- R310: the last active pixel of a frame that is written back; the frame of a head that does not scan is incomplete. -/
def execHeadWritebackFrameEnd (h : Fin 8) (s : State) : Host.Outcome State Fault Refusal :=
  match (s.head h).timing, s.headGroup h with
  | some x, some (_, t, o) =>
    let e := (t.output o).wb - 1
    if (t.output o).wb = 0 || !(s.wb e).busy || (s.wb e).ended then done s
    else
      let ht := x.hactive + x.hfp + x.hsync + x.hbp
      let s := if (s.head h).scanning then
        s.untilPlan ((s.head h).frameStart + s.pixelsNs x ((x.vsync + x.vbp + x.vactive - 1) * ht + x.hsync + x.hbp + x.hactive)) else s
      done (s.modWb e fun w => { w with ended := true, bad := w.bad || !(s.head h).scanning })
  | _, _ => done s

/-! ### Hot-plug and training -/

/-- R305, R306: a plug: firmware reads the sink's capabilities and trains. A head that no truss names, or that is off, sends its sink to D3. -/
def plugHead (h : Nat) (sink : SinkCaps) (s : State) : State :=
  let s := (s.modHead h fun x => { x with hpd := true, sink := sink, state := .plugged }).pend (137 + h)
  if (s.head h).timing.isNone || (s.head h).power == 2 then headRecord h (sinkPower h 2 s)
  else if (s.pll 9).gated then headRecord h s
  else startTraining h false s

/-- R18: HPD is not sensed while the GM8 is in reset. -/
def State.senses (s : State) : Bool := s.boot.phase == .running || s.boot.phase == .limp

/-- R305, R306: HPD rises. -/
def execHpdPlug (h : Fin 8) (sink : SinkCaps) (s : State) : Host.Outcome State Fault Refusal :=
  if (s.head h).hpd || !s.senses then done s else done (plugHead h sink s)

/-- R305, R308: an unplug: training stops, the main link goes off, scanning continues. -/
def execHpdUnplug (h : Fin 8) (s : State) : Host.Outcome State Fault Refusal :=
  if !(s.head h).hpd then done s
  else
    let s := (s.modHead h fun x => { x with hpd := false, sink := {}, state := .unplugged, lanes := 0, rate := 0 }).pend (137 + h)
    done (headRecord h (endRelock h s))

/-- R307, R308: a short low pulse: firmware reads the link status and retrains a link that has lost lock; during training it is ignored. -/
def execIrqHpd (h : Fin 8) (linkLost : Bool) (s : State) : Host.Outcome State Fault Refusal :=
  if !(s.head h).hpd then done s
  else
    let s := s.pend (137 + h)
    if linkLost ∧ (s.head h).state = .streaming then
      let s := (s.modHead h fun x => { x with losses := satInc x.losses }).fault (32 + h) 2
      done (startTraining h true s)
    else done s

/-- R305: a pulse under 0.25 ms. -/
def execHpdShortPulse (h : Fin 8) (s : State) : Host.Outcome State Fault Refusal :=
  if !s.senses then done s else done (s.modHead h fun x => { x with shortPulses := satInc x.shortPulses })

/-- R306: a training attempt ends. -/
def execLinkTrainingAttemptEnd (h : Fin 8) (ok : Bool) (s : State) : Host.Outcome State Fault Refusal :=
  let x := s.head h
  if x.state ≠ .training then done s
  else if ok then
    done (endRelock h (headEvent h (s.modHead h fun x => { x with state := .streaming, lanes := x.tryLanes, rate := x.tryRate })))
  else
    let rest := (s.headConfigs h).dropWhile fun c => c != (x.tryLanes, x.tryRate)
    let s := if rest.length < 2 then s else s.modHead h fun x => { x with failures := satInc x.failures }
    done (endRelock h (tryConfigs h (rest.drop 1) s))

/-! ### Commands -/

/-- R314: a command that names a head: its group's grant; STATE for a head that no running truss names. -/
def withHead (f h : Nat) (s : State) (go : Nat → Truss → Nat → Reply) : Reply :=
  if 7 < h then badParam 0 s
  else
    match s.headGroup h with
    | none => refuse .state 0 s
    | some (g, t, o) => if !s.hasGroup f g then refuse .notGranted 1 s else go g t o

/-- R314: HEAD_QUERY and HEAD_AUX, which a head that no truss names also answers, to the physical function. -/
def withAnyHead (f h : Nat) (s : State) (go : Reply ⊕ State) : Reply ⊕ State :=
  if 7 < h then .inl (badParam 0 s)
  else
    match s.headGroup h with
    | none => if f ≠ 0 then .inl (refuse .notGranted 1 s) else go
    | some (g, _, _) => if !s.hasGroup f g then .inl (refuse .notGranted 1 s) else go

/-- R314: HEAD_QUERY. -/
def execHeadQuery (c : KcpCtx) (head view : Byte) (s : State) : Host.Outcome State Fault Refusal :=
  kcpBegin 0x0300 0 true c (fun f s =>
    let h := head.toNat
    withAnyHead f h s <| .inl (
      let x := s.head h
      let t := x.timing.getD {}
      if 2 < view.toNat then badParam 1 s
      else if view = 1 then replyOk s (match x.timing with | some t => t.bytes | none => zeros 32)
      else if view = 2 then replyOk s (match x.shadow, x.timing with | some t, _ => t.bytes | none, some t => t.bytes | none, none => zeros 32)
      else
        let wb := match s.headGroup h with | some (_, t, o) => (t.output o).wb != 0 | none => false
        let flags := packBits [(0, 1, b2n x.hpd), (1, 1, b2n x.scanning), (2, 1, b2n (x.timing.isSome && (s.pll t.pll).gated)),
          (3, 1, b2n (s.fenced (32 + h))), (4, 1, b2n (t.sink == 1 && bitOf 2 t.flags && x.sink.assr)), (5, 1, b2n (x.sink.backlight != 0)), (6, 1, b2n wb)]
        replyOk s (leBytes 1 (s.headState h).code ++ leBytes 1 t.sink ++ leBytes 1 x.lanes ++ leBytes 1 x.rate ++ leBytes 1 t.pll ++ leBytes 1 flags ++
          zeros 2 ++ leBytes 4 x.frames.toNat ++ leBytes 4 x.repeated.toNat ++ leBytes 4 x.discarded.toNat ++ leBytes 2 x.trainings.toNat ++
          leBytes 2 x.failures.toNat ++ leBytes 2 x.losses.toNat ++ leBytes 2 x.shortPulses.toNat ++ leBytes 8 x.frameStart ++ [x.sink.revision] ++
          leBytes 1 x.sink.lanes ++ leBytes 1 x.sink.rate ++ zeros 1))) s

/-- R304: the timing of a head in the shadow set. -/
def State.shadowTiming (s : State) (h : Nat) : Option HeadTiming := match (s.head h).shadow with | some x => some x | none => (s.head h).timing

/-- R304: the check, variant and index that a new timing of head `h` fails: 18, 8 or 19. -/
def State.timingFails (s : State) (t : Truss) (h : Nat) (x : HeadTiming) : Option Nat :=
  let at' := fun k => if k = h then some x else (match s.shadowTiming k with | some y => some y | none => t.timing k)
  let t' := { t with timings := t.timings.map fun y => (at' y.head).getD y }
  if s.timingBad t' x then some (admissionDetail 18 (0, (t.timings.findIdx? fun y => y.head == h).getD 0))
  else
    match check8 t at' unmoved with
    | some e => some (admissionDetail 8 e)
    | none => (check19 t at').map fun e => admissionDetail 19 e

/-- R146, R304, R314: HEAD_SET_TIMING. -/
def execHeadSetTiming (c : KcpCtx) (entry : List Byte) (s : State) : Host.Outcome State Fault Refusal :=
  kcp 0x0301 c (fun f s =>
    let x := readTiming (fitBytes 32 entry) 0
    withHead f x.head s fun g t _ =>
      unlocked g s fun s =>
        if (List.range 8).any fun k => k != x.head && (match s.shadowTiming k with | some y => y.pll == x.pll && y.clock != x.clock | none => false) then
          refuse .state 0 s
        else
          match s.timingFails t x.head x with
          | some d => refuse .admission d s
          | none => replyOk (s.modHead x.head fun c => { c with shadow := some x, shadowBy := putBit 0 f true })) s

/-- R314: HEAD_SET_POWER. -/
def execHeadSetPower (c : KcpCtx) (head power : Byte) (s : State) : Host.Outcome State Fault Refusal :=
  kcp 0x0302 c (fun f s =>
    withHead f head.toNat s fun _ _ _ =>
      if 2 < power.toNat then badParam 1 s else replyOk (s.modHead head.toNat fun x => { x with powerNext := some power.toNat })) s

/-- R314: HEAD_RETRAIN. -/
def execHeadRetrain (c : KcpCtx) (head : Byte) (s : State) : Host.Outcome State Fault Refusal :=
  kcp 0x0303 c (fun f s =>
    withHead f head.toNat s fun _ _ _ =>
      if !(s.head head.toNat).hpd then refuse .state 0 s else replyOk (startTraining head.toNat false s)) s

/-- R309: a DPCD write that firmware keeps for itself while the head is enabled. -/
def dpcdOwned (a n : Nat) : Bool :=
  let meets := fun lo hi => decide (a ≤ hi) && decide (lo < a + n)
  meets 0x100 0x11F || meets 0x600 0x600 || meets 0x700 0x7FF

/-- R295: the AUX request code of an op (PRESUMED, the standard's: native 9 and 8, I2C 1 and 0). -/
def auxReq (op : Nat) : Nat := [9, 8, 1, 0].getD op 0

/-- R309, R314: HEAD_AUX: the request goes out, and the sink's reply answers the command. A second one of the head waits. -/
def execHeadAux (c : KcpCtx) (head op length i2c : Byte) (address : Word) (data : List Byte) (s : State) : Host.Outcome State Fault Refusal :=
  if (s.head head.toNat).aux.isSome then done s
  else kcpBegin 0x0304 0 (op.toNat % 2 == 0) c (fun f s =>
    let h := head.toNat
    let n := length.toNat
    let native := decide (op.toNat < 2)
    let a := if native then address.toNat else i2c.toNat
    let enabled := (s.headGroup h).isSome && (s.head h).power != 2
    withAnyHead f h s (
      if 3 < op.toNat then .inl (badParam 1 s)
      else if n = 0 ∨ 16 < n then .inl (badParam 2 s)
      else if !native && decide (127 < i2c.toNat) then .inl (badParam 3 s)
      else if native && decide (2 ^ 20 ≤ address.toNat) then .inl (badParam 4 s)
      else if !(s.head h).hpd then .inl (refuse .state 0 s)
      else if op = 1 ∧ enabled ∧ dpcdOwned a n then .inl (refuse .state 0 s)
      else
        let d := if op.toNat % 2 = 1 then data.take n else []
        .inr ((s.modHead h fun x => { x with aux := some { c := c, op := op.toNat, len := n, addr := a, data := d, tries := 0 } }).emit
          (.aux h (auxReq op.toNat) a d)))) s

/-- R295, R309: the sink's reply to a host's AUX transaction, or none within 400 us, as always while PLL9 is gated (R77). A defer is retried up to 7 times. -/
def execAuxReply (h : Fin 8) (reply : Option (BitVec 4)) (data : List Byte) (s : State) : Host.Outcome State Fault Refusal :=
  match (s.head h).aux with
  | none => done s
  | some x =>
    let ends := fun (r : Reply) => done (kcpFinish 0x0304 x.c r)
    let gone := s.modHead h fun y => { y with aux := none }
    match (if (s.pll 9).gated then none else reply) with
    | none => ends (refuse .media 0 (gone.elapse (usNs 400)))
    | some r =>
      if r = 2 ∨ r = 8 then
        if 7 ≤ x.tries then ends (refuse .media 0 gone)
        else done ((s.modHead h fun y => { y with aux := some { x with tries := x.tries + 1 } }).emit (.aux h (auxReq x.op) x.addr x.data))
      else
        let got := if x.op % 2 = 0 then data.take x.len else []
        let moved := if r ≠ 0 then 0 else if x.op % 2 = 0 then got.length else x.len
        ends (replyOk gone (leBytes 1 r.toNat ++ leBytes 1 moved ++ zeros 2 ++ fitBytes 16 (if r = 0 then got else [])))

/-- R314: HEAD_SET_BACKLIGHT: the level cut to the panel's bits, in DPCD 0x722 and 0x723 (PRESUMED, the standard's addresses). -/
def execHeadSetBacklight (c : KcpCtx) (head : Byte) (level : Half) (s : State) : Host.Outcome State Fault Refusal :=
  kcp 0x0305 c (fun f s =>
    withHead f head.toNat s fun _ _ _ =>
      let h := head.toNat
      let n := (s.head h).sink.backlight
      if n = 0 then refuse .state 0 s
      else
        let v := level.toNat / 2 ^ (16 - min 16 n)
        replyOk (headAuxOwn h 8 0x722 (beBytes 2 v) (s.modHead h fun x => { x with backlight := level }))) s

end Sys2Proof.Machine
end

