-- ==== Sys2Proof/Machine/Mac.lean ====
section
/-! DEFINITION. The calendar's wheel, shaping, the choice of the next frame, rate sets, and the calendar commands (R359, R363–R368, R374). -/

namespace Sys2Proof.Machine

/-! ### Shaping -/

/-- R364, R365: rate in kbit/s and burst in bytes of queue `q`; the time class has fixed ones. -/
def NetQueue.shape (x : NetQueue) (q : Nat) : Nat × Nat := if q = 0 then (2000, 512) else (x.rate, x.burst)

/-- R365: queue `q` may send `l` bytes at `now`, in 1/1,024 ns; its NET is not before now. -/
def NetQueue.eligible (x : NetQueue) (q now l : Nat) : Bool :=
  let p := x.shape q
  !x.closed && p.1 != 0 && decide ((max x.net now - now) * p.1 * 125 + l * 1024000000000 ≤ p.2 * 1024000000000)

/-- R365: NET after sending `l` bytes at `now`. -/
def NetQueue.sent (x : NetQueue) (q now l : Nat) : NetQueue :=
  { x with frames := x.frames.drop 1, net := max x.net now + ceilDiv (l * 1024000000000) ((x.shape q).1 * 125) }

/-- R366: a queue takes a new rate and burst at `now`, in 1/1,024 ns; its debt in bytes is preserved. -/
def NetQueue.setRate (x : NetQueue) (now rate burst : Nat) : NetQueue :=
  let x := { x with burst := burst }
  if rate = 0 then { x with rate := 0, debt := if x.closed then x.debt else (x.net - now) * x.rate, closed := true }
  else if x.closed then { x with rate := rate, net := now + ceilDiv x.debt rate, debt := 0, closed := false }
  else if now < x.net then { x with rate := rate, net := now + ceilDiv ((x.net - now) * x.rate) rate }
  else { x with rate := rate }

/-- R365: the items of a mask taken from another rate set. -/
def RateSet.take (m : Byte) (x r : RateSet) : RateSet :=
  let r := if m.getLsbD 0 then { r with control := x.control, controlBurst := x.controlBurst } else r
  let r := if m.getLsbD 1 then { r with repair := x.repair, repairBurst := x.repairBurst } else r
  if m.getLsbD 2 then { r with manage := x.manage, manageBurst := x.manageBurst } else r

/-- R134, R200: a port's shadow rate set without the writes of the functions that `hit` names. -/
def EthSt.without (hit : Nat → Bool) (e : EthSt) : EthSt :=
  let kept := e.rateWrites.filter fun w => !hit w.1
  { e with rateWrites := kept, shadow := if kept.isEmpty then none else some (kept.foldl (fun r w => w.2.2.take w.2.1 r) e.rates) }

/-- R366, R368: port `p` takes a rate set. -/
def loadRates (p : Nat) (r : RateSet) (s : State) : State :=
  let now := s.clk.plan * 1024
  let s := s.modEth p fun e => { e with rates := r }
  let s := s.modQueue p 1 fun x => x.setRate now r.control r.controlBurst
  let s := s.modQueue p 2 fun x => x.setRate now r.repair r.repairBurst
  s.modQueue p 3 fun x => x.setRate now r.manage r.manageBurst

/-- R360, R368: the rate group of port `p` in a truss and variant. -/
def Truss.rateGroup (t : Truss) (v p : Nat) : Nat := (t.calOf v).groups.getD p 0xFF

/-- R368: at a variant or truss switch of group `g` the ports whose rate group it is take the rate sets of the new calendar. -/
def calendarRates (g v : Nat) (t : Truss) (s : State) : State :=
  (List.range 4).foldl (fun (s : State) p =>
    if t.rateGroup v p = g then loadRates p ((t.calOf v).rates.getD p {}) (s.modEth p fun e => { e with shadow := none, rateWrites := [] }) else s) s

/-! ### The wheel -/

/-- R359: the calendar bucket that runs now, and the buckets of the hyperperiod. -/
def State.bucketNow (s : State) (t : Truss) : Nat × Nat :=
  let net := ((s.clk.plan : Int) + s.clk.ntOffset - t.epoch).toNat
  (net / grain % max 1 t.h / 4096, ceilDiv t.h 4096)

/-- R359: while a bucket runs, the next one is expanded into the fine wheel. A fresh expansion of a bucket ends what a parity error left in it. -/
def execCalendarBucketExpand (p : Fin 4) (s : State) : Host.Outcome State Fault Refusal :=
  match s.running with
  | none => done s
  | some t =>
    if s.planGated then done s
    else
      let b := s.bucketNow t
      let next := (b.1 + 1) % max 1 b.2
      let ms := allGroups.flatMap fun g =>
        match s.grpTruss g with
        | none => []
        | some t => (((t.calOf (s.group g).variant).mortises.zipIdx.filter fun (m : TMortise × Nat) =>
            m.1.port == p.val && (t.output m.1.out).group == g && m.1.start / 4096 == next)).map fun m => (g, m.2)
      done (s.modEth p fun e => { e with bucket := next + 1, wheel := ms, badBucket := if e.badBucket = next + 1 then 0 else e.badBucket })

/-! ### The next frame -/

/-- R361, R367: plan time of the next mortise of port `p`, from now on, in its groups' current and next frames; none while no mortise sends. -/
def State.nextMortise (s : State) (p : Nat) : Option Nat :=
  if s.planGated || s.flt.safe then none
  else
    (allGroups.flatMap fun g =>
      match s.grpTruss g with
      | none => []
      | some t =>
        let c := s.group g
        match t.group g with
        | none => []
        | some e =>
          ((t.calOf c.variant).mortises.filter fun (m : TMortise) => m.port == p && (t.output m.out).group == g).flatMap fun m =>
            let gs := sillGrain t.h e c.nextJ
            let ahead := c.nextAt + (if m.start < gs then m.start + t.h - gs else m.start - gs) * grain
            (if m.frame = c.j ∧ c.begun then [s.instant g t m.start] else []) ++ (if m.frame = c.nextJ then [ahead] else [])).foldl
      (fun (best : Option Nat) x =>
        if x < s.clk.plan then best else match best with | some b => some (min b x) | none => some x) none

/-- R67, R357: the head frame of queue `q` may leave port `p`: while PLL8 is gated only time and management frames, and without a SAK in
must-secure mode only 802.1AS and MKA. -/
def State.frameMay (s : State) (p q : Nat) (f : QFrame) : Bool :=
  s.portUp p && (q == 0 || q == 3 || !s.planGated) && (s.portCarries p || q == 0 || f.what == "MKA")

/-- R367: sends the head frame of queue `q` at `now`, in 1/1,024 ns. -/
def sendFrame (p q now : Nat) (f : QFrame) (s : State) : State :=
  let s := s.modQueue p q fun x => x.sent q now f.wire
  let s := s.modEth p fun e => { e with busyUntil := now + ceilDiv (f.wire * grain * 1024) (s.lineRate p) }
  (s.emit (.net ⟨f.what, f.dest, [p, f.mac] ++ f.fields⟩)).sentFrame p f.wire ([16, 2, 4, 8].getD q 8) (q == 0 || f.what == "MKA")

/-- R367, R373: a frame waits at a kerf; it is counted once. -/
def kerfWait (p q : Nat) (f : QFrame) (s : State) : State :=
  if f.waited then s
  else
    let s := s.modQueue p q fun x => { x with frames := { f with waited := true } :: x.frames.drop 1 }
    (s.modEth p fun e => { e with kerfWaits := e.kerfWaits + 1 }).count (256 + 8 * p + 4)

/-- R367: looks through the queues by priority for a frame that may start at `now`, in 1/1,024 ns, and ends before `limit`. -/
def selectFrame (p now : Nat) (limit : Option Nat) : List Nat → State → State
  | [], s => s
  | q :: qs, s =>
    let x := s.queue p q
    match x.frames with
    | [] => selectFrame p now limit qs s
    | f :: _ =>
      if !s.frameMay p q f || !x.eligible q now f.wire then selectFrame p now limit qs s
      else
        let fits := match limit with | some l => decide (now + ceilDiv (f.wire * grain * 1024) (s.lineRate p) ≤ l) | none => true
        if fits then sendFrame p q now f s else selectFrame p now limit qs (kerfWait p q f s)

/-- R365, R367: at a frame end, or at a grain boundary while the line is idle, the MAC starts the best frame that clears the kerf. -/
def execMacSelectFrame (p : Fin 4) (s : State) : Host.Outcome State Fault Refusal :=
  if !s.portUp p then done s
  else
    let busy := (s.eth p).busyUntil
    let s := s.untilPlan (busy / 1024)
    let now := max busy (s.clk.plan * 1024)
    let s := [0, 1, 2, 3].foldl (fun (s : State) q => s.modQueue p q fun x => { x with net := max x.net now }) s
    done (selectFrame p now ((s.nextMortise p).map fun t => (t - 8 * grain) * 1024) [0, 1, 2, 3] s)

/-! ### Commands -/

/-- R368: the rate group of port `p` in the variant it runs; 0xFF without a running truss. -/
def State.rateGroup (s : State) (p : Nat) : Nat :=
  match s.running with
  | none => 0xFF
  | some t => allGroups.find? (fun g => s.grpRuns g && t.rateGroup (s.group g).variant p == g) |>.getD (t.rateGroup 0 p)

/-- R362, R374: peak share of 17f, 1/1,024 of the port's bytes. -/
def State.peakShare (s : State) (t : Truss) (v p : Nat) : Nat :=
  ((windows t.h).map fun w => ceilDiv (s.windowEgress t v p w) (8000000 * s.lineRate p)).foldl max 0

/-- R374: CAL_QUERY. -/
def execCalQuery (c : KcpCtx) (port variant : Byte) (s : State) : Host.Outcome State Fault Refusal :=
  kcp 0x0450 c (fun _ s =>
    let p := port.toNat
    if 3 < p then badParam 0 s
    else
      match s.running with
      | none => refuse .state 0 s
      | some t =>
        let v := if variant = 0xFF then (s.group (s.rateGroup p)).variant else variant.toNat
        if !t.hasVariant v then badParam 1 s
        else
          let e := s.eth p
          let r := e.rates
          let now : Int := (s.clk.plan * 1024 : Nat)
          replyOk s (leBytes 4 ((t.calOf v).mortises.filter fun m => m.port == p).length ++ leBytes 2 (s.peakShare t v p) ++ leBytes 2 (s.ethCfg p).cap ++
            leBytes 4 r.control ++ leBytes 4 r.repair ++ leBytes 4 r.manage ++ leBytes 2 r.controlBurst ++ leBytes 2 r.repairBurst ++
            leBytes 2 r.manageBurst ++ zeros 2 ++ ([1, 2, 3].flatMap fun q => leBytes 4 (signedField 32 (((s.queue p q).net - now) / 1024))) ++
            leBytes 4 e.kerfWaits.toNat ++ leBytes 4 e.moved.toNat)) s

/-- R374: a truss whose calendar in variant `v` gives port `p` another rate set. -/
def Truss.withRates (t : Truss) (v p : Nat) (r : RateSet) : Truss :=
  { t with cals := tabMod t.cals (t.real v) fun k => { k with rates := (List.range 4).map fun q => if q = p then r else k.rates.getD q {} } }

/-- R365, R368, R374: CAL_SET_RATES. -/
def execCalSetRates (c : KcpCtx) (port mask : Byte) (rates : List Word) (bursts : List Half) (s : State) : Host.Outcome State Fault Refusal :=
  kcp 0x0451 c (fun f s =>
    let p := port.toNat
    if 3 < p then badParam 0 s
    else
      match s.running with
      | none => refuse .state 0 s
      | some t =>
        let g := s.rateGroup p
        let on := fun i => mask.getLsbD i
        let rate := fun i => (rates.getD i 0).toNat
        let burst := fun i => (bursts.getD i 0).toNat
        let x : RateSet := { control := rate 0, repair := rate 1, manage := rate 2, controlBurst := burst 0, repairBurst := burst 1, manageBurst := burst 2 }
        let r := x.take mask ((s.eth p).shadow.getD (s.eth p).rates)
        if !s.hasGroup f g then refuse .notGranted 1 s
        else if 7 < mask.toNat then badParam 1 s
        else
          match (List.range 3).find? fun i => on i && decide ((bursts.getD i 0).toNat < (s.ethCfg p).largest + 20) with
          | some i => badParam (16 + 2 * i) s
          | none =>
            match s.check17 (t.withRates (s.group g).variant p r) with
            | some e => refuse .admission (admissionDetail 17 e) s
            | none => unlocked g s fun s => replyOk (s.modEth p fun e => { e with shadow := some r, rateWrites := e.rateWrites ++ [(f, mask, x)] })) s

end Sys2Proof.Machine
end

