-- ==== Sys2Proof/Machine/Net.lean ====
section
/-! DEFINITION. The Ethernet ports: links, loss, received frames, address resolution, MACsec keys and frame elimination
(R352–R358, R370, R371). -/

namespace Sys2Proof.Machine

/-! ### Links -/

/-- R354: port `p` announces its own addresses by gratuitous ARP and unsolicited Neighbor Advertisement. -/
def announceAddresses (p : Nat) (s : State) : State :=
  let c := s.ethCfg p
  let s := if c.ipv4 = 0 then s else s.manage p "ARP_GRATUITOUS" [c.ipv4]
  if c.ipv6 = 0 then s else s.manage p "NA_UNSOLICITED" [c.ipv6]

/-- R322, R354: port `p` begins to carry traffic: it announces its addresses, and beacons quicken for 1 s. -/
def beginTraffic (p : Nat) (s : State) : State :=
  if !s.portCarries p then s
  else
    let s := announceAddresses p s
    if (s.ethCfg p).adt then s.modAdt fun a => { a with portsUp := s.now + 1, beaconDue := s.now } else s

/-- R370: port `p` is lost. -/
def losePort (p : Nat) (s : State) : State :=
  if (s.eth p).lost then s
  else chooseVariants ((s.modEth p fun e => { e with lost := true }).fault (57 + p) 1)

/-- R370, R371: the link of port `p` goes down. -/
def dropEth (p : Nat) (s : State) : State :=
  ethEvent p (losePort p (s.modEth p fun e =>
    { e with up := false, secured := false, mkaLive := false, rekey := false, asCapable := false, pdelayAt := 0, openNow := none }))

/-- R370: an Ethernet link goes down. -/
def execEthLinkDown (p : Fin 4) (s : State) : Host.Outcome State Fault Refusal :=
  if !(s.eth p).up then done s else done (dropEth p s)

/-- R357: MKA opens on port `p`, where MACsec is on and its key slot holds a CAK. -/
def startMka (p : Nat) (s : State) : State :=
  let c := s.ethCfg p
  if c.secMode ≠ 0 ∧ (tabGet s.netMram.keys c.keySlot).present then s.manage p "MKA" [0] else s

/-- R354, R371: an Ethernet link comes up. -/
def execEthLinkUp (p : Fin 4) (rxInvert : Bool) (s : State) : Host.Outcome State Fault Refusal :=
  let c := s.ethCfg p
  if (s.eth p).up || !c.enabled || c.mode == 0 || (s.pll 9).gated || s.boot.phase != .running then done s
  else
    let s := s.modEth p fun e => { e with up := true, upAt := s.now, rxInvert := rxInvert, secured := false, mkaLive := false, mkaAt := s.now }
    done (beginTraffic p (ethEvent p (startMka p s)))

/-- R370: a lost port returns once its link has been up for 1 s and its fence has cleared; in must-secure mode with a live MKA peer. -/
def execEthLinkUpSettled (p : Fin 4) (s : State) : Host.Outcome State Fault Refusal :=
  let e := s.eth p
  if !e.lost || !s.portUp p || s.fenced (57 + p) || ((s.ethCfg p).secMode == 2 && !e.mkaLive) then done s
  else done (chooseVariants ((s.untilAon (e.upAt + secNs 1)).modEth p fun e => { e with lost := false }))

/-! ### Received frames -/

/-- R352, R353, R357: a received frame that the port does not accept, or that fails MACsec integrity or replay. -/
def execEthFrameDiscard (p : Fin 4) (integrity : Bool) (wire : Half) (s : State) : Host.Outcome State Fault Refusal :=
  if !s.portUp p then done s
  else if integrity then done ((s.rxFrame p wire.toNat).count (256 + 8 * p + 5))
  else done (s.rxDiscard p wire.toNat)

/-- R354: an address of port `p`. -/
def State.ownAddress (s : State) (p a : Nat) : Bool := a != 0 && ((s.ethCfg p).ipv4 == a || (s.ethCfg p).ipv6 == a)

/-- R354: an ARP or Neighbor Discovery message: a request for an address of the port is answered, and an answer resolves its sender. -/
def execArpNdRx (p : Fin 4) (reply : Bool) (target sender : BitVec 128) (mac : BitVec 48) (s : State) : Host.Outcome State Fault Refusal :=
  if !s.portUp p then done s
  else if !s.portCarries p || !s.ownAddress p target.toNat then done (s.rxDiscard p)
  else if reply then
    let s := s.rxFrame p
    if (tabGet (s.eth p).neighbours sender.toNat).tries = 0 then done s else done (s.learn p sender.toNat mac.toNat)
  else
    done ((s.rxFrame p).manage p (if target.toNat < 2 ^ 32 then "ARP_REPLY" else "NA") [target.toNat, sender.toNat, mac.toNat])

/-- R353: an echo request to an address of the port is answered, at most 100 in any second. -/
def execIcmpEchoRx (p : Fin 4) (target sender : BitVec 128) (mac : BitVec 48) (bytes : Half) (s : State) : Host.Outcome State Fault Refusal :=
  if !s.portUp p then done s
  else if !s.portCarries p || !s.ownAddress p target.toNat then done (s.rxDiscard p)
  else
    let s := (s.rxFrame p (max 84 (bytes.toNat + 20))).learn p sender.toNat mac.toNat
    let recent := (s.eth p).echoes.filter fun t => decide (s.now < t + secNs 1)
    if 100 ≤ recent.length then done s
    else
      let s := s.modEth p fun e => { e with echoes := recent ++ [s.now] }
      done (s.enqueue p 3 { wire := max 84 (bytes.toNat + 20), what := "ECHO_REPLY", dest := sender.toNat, mac := mac.toNat, fields := [target.toNat] })

/-- R354: an address that is still unresolved is asked for again, every 200 ms. -/
def execArpRetry (p : Fin 4) (address : BitVec 128) (s : State) : Host.Outcome State Fault Refusal :=
  let n := tabGet (s.eth p).neighbours address.toNat
  if n.resolved || n.tries == 0 || decide (5 ≤ n.tries) then done s
  else done ((s.untilAon (n.since + msNs (200 * n.tries))).askNeighbour p address.toNat)

/-- R354: an address unresolved after 1 s: what waits for it is discarded and counted. -/
def execArpGiveUp (p : Fin 4) (address : BitVec 128) (s : State) : Host.Outcome State Fault Refusal :=
  let a := address.toNat
  let n := tabGet (s.eth p).neighbours a
  if n.resolved || n.tries == 0 then done s
  else
    let s := s.untilAon (n.since + secNs 1)
    let waiting := ((s.eth p).unresolved.filter fun e => e.1 == a).length
    let s := s.modEth p fun e => { e with neighbours := tabErase e.neighbours a, unresolved := e.unresolved.filter fun e => e.1 != a }
    done (s.countN (256 + 8 * p + 7) waiting)

/-- R354: an entry without a datagram for 300 s ages out. -/
def execNeighbourAgeOut (p : Fin 4) (address : BitVec 128) (s : State) : Host.Outcome State Fault Refusal :=
  let a := address.toNat
  let n := tabGet (s.eth p).neighbours a
  if !n.resolved then done s
  else done ((s.untilAon (n.since + secNs 300)).modEth p fun e => { e with neighbours := tabErase e.neighbours a })

/-! ### MACsec -/

/-- R357: MKA starts afresh on port `p`: no SAK and no live peer. -/
def restartMka (p : Nat) (s : State) : State :=
  let was := s.ethCode p
  let s := s.modEth p fun e => { e with secured := false, mkaLive := false, mkaAt := s.now, rekey := false, packet := 0 }
  let s := startMka p s
  if s.ethCode p = was then s else ethEvent p s

/-- R357, R371: a valid MKA frame keeps its peer live, and may install a new SAK. -/
def execMkaRx (p : Fin 4) (install : Bool) (s : State) : Host.Outcome State Fault Refusal :=
  let c := s.ethCfg p
  if !s.portUp p then done s
  else if c.secMode = 0 ∨ !(tabGet s.netMram.keys c.keySlot).present then done (s.rxDiscard p)
  else
    let s := (s.rxFrame p).modEth p fun e => { e with mkaLive := true, mkaAt := s.now }
    if !install then done s
    else
      let was := s.ethCode p
      let carried := s.portCarries p
      let s := (s.modEth p fun e => { e with secured := true, packet := 1, rekey := false }).pend (433 + p)
      let s := if s.ethCode p = was then s else ethEvent p s
      done (if carried then s else beginTraffic p s)

/-- R357, R370: no live MKA peer for 6 s in must-secure mode loses the port. -/
def execMkaPeerTimeout (p : Fin 4) (s : State) : Host.Outcome State Fault Refusal :=
  if (s.ethCfg p).secMode ≠ 2 ∨ !s.portUp p then done s
  else
    let s := (s.untilAon ((s.eth p).mkaAt + secNs 6)).modEth p fun e => { e with mkaLive := false, secured := false }
    done (ethEvent p (losePort p s))

/-! ### Elimination (R358) -/

/-- R358: the elimination entry of a received stream. -/
def State.cbEntry (s : State) (p mac vlan : Nat) : Option Nat :=
  (s.netMram.cb.find? fun e => e.2.valid && bitOf p e.2.ports && e.2.mac == mac && e.2.vlan == vlan).map (·.1)

/-- R358: what the vector recovery algorithm makes of a frame. -/
inductive Recovered where
  | passed | duplicate | outside
  deriving DecidableEq, Repr, Inhabited

/-- R358: vector recovery with a history of some length. -/
def CbRun.take (r : CbRun) (history : Nat) (seq : Half) (now : Nat) : Recovered × CbRun :=
  if !r.running then (.passed, { running := true, high := seq, seen := [0], last := now })
  else
    let up := (seq - r.high).toNat
    let down := (r.high - seq).toNat
    if up = 0 ∨ (down < history ∧ r.seen.contains down) then (.duplicate, r)
    else if down < history then (.passed, { r with seen := down :: r.seen, last := now })
    else if up < history then
      (.passed, { r with high := seq, seen := 0 :: ((r.seen.map (· + up)).filter fun d => decide (d < history)), last := now })
    else (.outside, r)

/-- R358: a frame with an R-TAG passes vector recovery: a duplicate is eliminated, and one outside the history is discarded. -/
def execCbFrameRx (p : Fin 4) (mac : BitVec 48) (vlan : BitVec 12) (seq wire : Half) (s : State) : Host.Outcome State Fault Refusal :=
  if !s.portUp p then done s
  else
    match s.cbEntry p mac.toNat vlan.toNat with
    | none => done s
    | some i =>
      let r := (tabGet s.net.cb i).take (tabGet s.netMram.cb i).history seq s.now
      let s := s.modNet fun n => { n with cb := tabSet n.cb i r.2 }
      match r.1 with
      | .passed => done s
      | .duplicate => done ((s.rxFrame p wire.toNat).count (256 + 8 * p + 6))
      | .outside => done (s.rxDiscard p wire.toNat)

/-- R358: the recovery function of an entry resets after its timeout without an accepted frame. -/
def execCbResetTimeout (entry : Byte) (s : State) : Host.Outcome State Fault Refusal :=
  let i := entry.toNat
  let r := tabGet s.net.cb i
  if !r.running then done s
  else done ((s.untilAon (r.last + msNs (tabGet s.netMram.cb i).timeout)).modNet fun n => { n with cb := tabErase n.cb i })

end Sys2Proof.Machine
end

