-- ==== Sys2Proof/Machine/Ptp.lean ====
section
/-! DEFINITION. Network time: Sync, Announce and Pdelay messages, the choice of slave port and grandmaster, and the entry into locked mode with
its realign (R75, R76, R355, R356). -/

namespace Sys2Proof.Machine

/-! ### Realign (R76) -/

/-- R76: puts a group's accepted arm at the frame number its sill now has. -/
def renumberArm (g : Nat) (s : State) : State :=
  s.modGroup g fun c => { c with arm := c.arm.map fun a => { a with target := s.frameAfter g a.wait } }

/-- R76: one network-timed group realigns to the new grid. -/
def realignGroup (g : Nat) (s : State) : State :=
  match s.grpTruss g with
  | none => s
  | some t =>
    match t.group g with
    | none => s
    | some e =>
      let c := s.group g
      let p0 := framePeriod t.h e c.j
      let near := s.gridNext t e (c.nextAt - p0 / 2)
      let on := s.gridSill t e near.1 near.2 == c.nextAt
      let mark := fun (s : State) => s.modClk fun k => { k with realigning := k.realigning ||| BitVec.ofNat 16 (2 ^ g) }
      if e.base ≠ 0 then s
      else if on ∨ t.outputs.any fun o => o.kind == 0 && o.group == g then
        let s := renumberArm g (s.modGroup g fun c => { c with nextHyper := near.1, nextJ := near.2 })
        if on then s else mark s
      else renumberArm g <| State.count 406 (regrid g (max (s.clk.plan + msNs 2) (c.sillAt + p0)) (mark s))

/-- R75, R76: the time base enters locked mode with a measured offset. -/
def lockTime (measured : Int) (s : State) : State :=
  let far := decide (1000 < (measured - s.clk.ntOffset).natAbs)
  let first := !s.clk.everLocked
  let s := (setTimeMode 1 s).modClk fun c => { c with everLocked := true }
  if first || far then
    allGroups.foldl (fun (s : State) g => realignGroup g s) (s.modClk fun c => { c with ntOffset := measured, realigning := 0 })
  else s

/-! ### Choosing a clock (R355, R356) -/

/-- Lexicographic order of priority vectors. -/
def vecLt : List Nat → List Nat → Bool
  | a :: as, b :: bs => if a < b then true else if b < a then false else vecLt as bs
  | [], _ :: _ => true
  | _, [] => false

/-- R355: port `p` runs 802.1AS. -/
def State.asPort (s : State) (p : Nat) : Bool := s.portUp p && bitOf p s.netMram.time.ports

/-- R355: the GM8's own priority vector. -/
def State.ownVector (s : State) : List Nat :=
  let c := s.netMram.time
  [c.priority1, c.clockClass, c.accuracy, Config.clockVariance, c.priority2, Config.clockIdentity, 0]

/-- R356: the asCapable port with the best vector, the lowest-numbered among equals. -/
def State.bestPort (s : State) : Option Nat :=
  ((List.range 4).filter fun p => s.asPort p && (s.eth p).asCapable && !(s.eth p).announce.isEmpty).foldl (fun (m : Option Nat) p =>
    match m with
    | some b => if vecLt (s.eth p).announce (s.eth b).announce then some p else m
    | none => some p) none

/-- R371, R374: port `p` becomes the slave port, with the grandmaster it offers. -/
def takeSlave (p : Nat) (s : State) : State :=
  let v := (s.eth p).announce
  let moved := s.net.slave ≠ p + 1
  let s := s.modNet fun n => { n with slave := p + 1, steps := v.getD 6 0 + 1, gm := v.getD 5 0, gmPriority := v.getD 0 0, gmClass := v.getD 1 0 }
  let s := if moved then ((s.modEth p fun e => { e with syncAt := s.now }).modNet fun n => { n with slaveMoved := s.clk.mode == 1 }).pend (433 + p) else s
  if s.clk.mode = 3 then setTimeMode (if s.clk.everLocked then 2 else 0) s else s

/-- R355, R75: the GM8 is grandmaster: a is 0, and CLK_NT_OFFSET stays. -/
def becomeGrandmaster (s : State) : State :=
  let old := s.net.slave
  let c := s.netMram.time
  let s := s.modNet fun n => { n with slave := 0, steps := 0, gm := Config.clockIdentity, gmPriority := c.priority1, gmClass := c.clockClass }
  let s := if old = 0 then s else s.pend (433 + (old - 1))
  if s.clk.mode = 3 then s
  else ((setTimeMode 3 s).modClk fun c => { c with rate := 0 }).modNet fun n => { n with syncDue := s.now, announceDue := s.now }

/-- R356: no port offers a grandmaster: the time base enters holdover. -/
def noSlave (s : State) : State :=
  let old := s.net.slave
  let s := s.modNet fun n => { n with slave := 0, steps := 0, gm := 0, gmPriority := 0, gmClass := 0 }
  let s := if old = 0 then s else s.pend (433 + (old - 1))
  if s.clk.mode = 1 then setTimeMode 2 s else if s.clk.mode = 3 then setTimeMode (if s.clk.everLocked then 2 else 0) s else s

/-- R355, R356: chooses slave port or grandmaster by the role. -/
def selectClock (s : State) : State :=
  let role := s.netMram.time.role
  if role = 2 then becomeGrandmaster s
  else
    match s.bestPort with
    | some p => if role = 1 ∧ vecLt s.ownVector (s.eth p).announce then becomeGrandmaster s else takeSlave p s
    | none => if role = 1 then becomeGrandmaster s else noSlave s

/-! ### Messages -/

/-- R355, R356, R69, R74, R75: a Sync: on the slave port it feeds the servo, whose outputs come with it (log 25). The servo steers a in locked mode alone.
Sixteen good Syncs without a missed interval between them lock the time base, or realign it after REFCLK was lost; the first Sync after the slave port
has moved is held to the 1 us of R76. -/
def execPtpSyncRx (p : Fin 4) (measured : Long) (estimate rate ratio : Word) (s : State) : Host.Outcome State Fault Refusal :=
  if !s.portUp p then done s
  else if !s.asPort p || s.netMram.time.role == 2 then done (s.rxFrame p)
  else
    let s := (s.rxFrame p).modEth p fun e => { e with syncAt := s.now }
    if s.net.slave ≠ p.val + 1 then done s
    else
      let good := decide (estimate.toInt.natAbs ≤ 100)
      let next := decide (s.planTime.toNat < s.net.lastSync.toNat + 2 * s.syncNs)
      let s := s.modNet fun n => { n with lastSync := s.planTime, offset := estimate.toInt, ratio := ratio.toInt }
      let locked := s.clk.mode == 1 && s.clk.everLocked
      let s := s.modClk fun c =>
        { c with rate := if c.mode = 1 then max (-1099511627) (min 1099511627 rate.toInt) else c.rate,
                 goodSyncs := if locked ∨ !good then 0 else if next then c.goodSyncs + 1 else 1 }
      let moved := s.net.slaveMoved
      let s := s.modNet fun n => { n with slaveMoved := false }
      if (!locked ∧ 16 ≤ s.clk.goodSyncs) ∨ (locked ∧ moved) then done (lockTime measured.toInt s) else done s

/-- R356: an Announce takes part in the choice of slave port and grandmaster; role 2 ignores it. -/
def execPtpAnnounceRx (p : Fin 4) (priority1 clockClass accuracy : Byte) (variance : Half) (priority2 : Byte) (identity : Long) (steps : Half)
    (s : State) : Host.Outcome State Fault Refusal :=
  if !s.portUp p then done s
  else if !s.asPort p || s.netMram.time.role == 2 then done (s.rxFrame p)
  else
    done (selectClock ((s.rxFrame p).modEth p fun e =>
      { e with announce := [priority1.toNat, clockClass.toNat, accuracy.toNat, variance.toNat, priority2.toNat, identity.toNat, steps.toNat] }))

/-- R355, R364: an 802.1AS message in the time class of every 802.1AS port. -/
def sendTime (what : String) (wire : Nat) (fields : List Nat) (s : State) : State :=
  (List.range 4).foldl (fun (s : State) p =>
    if s.asPort p then s.enqueue p 0 { wire := wire, what := what, fields := s.netMram.time.domain :: fields } else s) s

/-- R355: as grandmaster, the next Sync or Announce that is due. -/
def execPtpSyncTx (s : State) : Host.Outcome State Fault Refusal :=
  if s.clk.mode ≠ 3 then done s
  else if s.net.announceDue < s.net.syncDue then
    let s := s.untilAon s.net.announceDue
    done ((sendTime "ANNOUNCE_AS" 114 s.ownVector s).modNet fun n => { n with announceDue := n.announceDue + secNs 1 })
  else
    let s := s.untilAon s.net.syncDue
    let net := ((s.clk.plan : Int) + s.clk.ntOffset).toNat
    done ((sendTime "FOLLOW_UP" 114 [net] (sendTime "SYNC" 84 [] s)).modNet fun n => { n with syncDue := n.syncDue + s.syncNs })

/-- R356, R372: the slave port has missed 3 Sync intervals: another port that offers the same grandmaster takes over; without one
the time base enters holdover and the clock is chosen again. -/
def execPtpSyncTimeout (p : Fin 4) (s : State) : Host.Outcome State Fault Refusal :=
  if s.net.slave ≠ p.val + 1 then done s
  else
    let s := (s.untilAon ((s.eth p).syncAt + 3 * s.syncNs)).fault (57 + p) 8
    let s := s.modEth p fun e => { e with announce := [] }
    let gm := s.net.gm
    match (List.range 4).find? fun q => s.asPort q && (s.eth q).asCapable && (s.eth q).announce.getD 5 0 == gm && !(s.eth q).announce.isEmpty with
    | some q => done (takeSlave q s)
    | none => done (selectClock (if s.clk.mode = 1 then setTimeMode 2 s else s))

/-- R355: every Pdelay interval each 802.1AS port sends a Pdelay request. -/
def execPtpPdelayTimer (s : State) : Host.Outcome State Fault Refusal :=
  if s.boot.phase != .running then done s else
  let s := s.untilAon s.net.pdelayDue
  let s := (List.range 4).foldl (fun (s : State) p => if s.asPort p then s.modEth p fun e => { e with pdelayAt := s.clk.plan + 1 } else s) s
  done ((sendTime "PDELAY_REQ" 92 [] s).modNet fun n => { n with pdelayDue := s.now + secNs 1 })

/-- R355: a Pdelay request is answered; a response gives the mean path delay and whether the port is asCapable. -/
def execPtpPdelayRx (p : Fin 4) (response capable : Bool) (delay : Word) (s : State) : Host.Outcome State Fault Refusal :=
  if !s.portUp p then done s
  else if !s.asPort p then done (s.rxFrame p)
  else
    let s := s.rxFrame p
    if !response then
      let s := s.enqueue p 0 { wire := 92, what := "PDELAY_RESP" }
      done (s.enqueue p 0 { wire := 92, what := "PDELAY_RESP_FOLLOW_UP" })
    else if (s.eth p).pdelayAt = 0 then done s
    else
      let was := (s.eth p).asCapable
      let s := s.modEth p fun e => { e with pdelayAt := 0, delay := delay.toInt, asCapable := capable }
      done (if was = capable then s else selectClock s)

end Sys2Proof.Machine
end

