-- ==== Sys2Proof/Machine/NetCmds.lean ====
section
/-! DEFINITION. The port, network-time, MACsec and elimination commands (R374). -/

namespace Sys2Proof.Machine

/-- R374: a command that would make the running truss fail check 17 is refused with ADMISSION; `s'` is the state it would leave. -/
def keepsCheck17 (s s' : State) (go : State → Reply) : Reply :=
  match s.running.bind fun t => s'.check17 t with
  | some e => refuse .admission (admissionDetail 17 e) s
  | none => go s'

/-- Changes a port's configuration. -/
def State.modCfg (p : Nat) (f : PortCfg → PortCfg) (s : State) : State := s.modNetMram fun n => { n with ports := tabMod n.ports p f }

/-- R374: the FEC codewords of port `p` since they were last read: what the line has done is open. -/
def countFec (p : Nat) (s : State) : State :=
  if (s.ethCfg p).mode ≠ 1 ∨ !(s.eth p).up then s
  else
    let a := s.draw
    let b := a.2.draw
    b.2.modEth p fun e => { e with fecOk := e.fecOk + BitVec.ofNat 32 a.1, fecBad := e.fecBad + BitVec.ofNat 32 b.1 }

/-- R374: NET_PORT_QUERY. -/
def execNetPortQuery (c : KcpCtx) (port : Byte) (s : State) : Host.Outcome State Fault Refusal :=
  kcp 0x0440 c (fun _ s =>
    let p := port.toNat
    if 3 < p then badParam 0 s
    else
      let s := countFec p s
      let k := s.ethCfg p
      let e := s.eth p
      let flags := packBits [(0, 1, b2n e.up), (1, 1, b2n k.txInvert), (2, 1, b2n e.rxInvert), (3, 1, b2n k.adt), (4, 1, b2n (s.net.slave == p + 1))]
      replyOk s (leBytes 1 (s.ethCode p) ++ leBytes 1 k.mode ++ leBytes 1 flags ++ zeros 1 ++ leBytes 2 k.largest ++ leBytes 1 (s.rateGroup p) ++ zeros 1 ++
        leBytes 4 k.ipv4 ++ leBytes 16 k.ipv6 ++ leBytes 4 (if e.up then (s.now - e.upAt) / 1000000 else 0) ++ leBytes 4 e.fecOk.toNat ++
        leBytes 4 e.fecBad.toNat ++ leBytes 4 (signedField 32 e.delay) ++ zeros 4)) s

/-- R4, R352, R374: NET_PORT_CFG. Bits [7:1] of its flags are reserved and ignored (DEDUCED, log 25). -/
def execNetPortCfg (c : KcpCtx) (port mode txInvert adt : Byte) (largest : Half) (pcpSlice pcpControl pcpRepair flags : Byte) (cap : Half) (s : State) :
    Host.Outcome State Fault Refusal :=
  kcp 0x0441 c (fun _ s =>
    let p := port.toNat
    if 3 < p then badParam 0 s
    else if 3 < mode.toNat then badParam 1 s
    else if 1 < txInvert.toNat then badParam 2 s
    else if 1 < adt.toNat then badParam 3 s
    else if largest.toNat < 1522 ∨ 9216 < largest.toNat then badParam 4 s
    else if 7 < pcpSlice.toNat then badParam 6 s
    else if 7 < pcpControl.toNat then badParam 7 s
    else if 7 < pcpRepair.toNat then badParam 8 s
    else if cap = 0 ∨ 1024 < cap.toNat then badParam 10 s
    else if (s.ethCfg p).enabled then refuse .busyStatic 0 s
    else
      let s' := s.modCfg p fun k =>
        { k with mode := mode.toNat, txInvert := txInvert == 1, adt := adt == 1, largest := largest.toNat, pcpSlice := pcpSlice.toNat,
                 pcpControl := pcpControl.toNat, pcpRepair := pcpRepair.toNat, rtag := flags.getLsbD 0, cap := cap.toNat }
      keepsCheck17 s s' fun s => replyOk s) s

/-- R370, R374: NET_PORT_ENABLE. -/
def execNetPortEnable (c : KcpCtx) (port enable : Byte) (s : State) : Host.Outcome State Fault Refusal :=
  kcp 0x0442 c (fun _ s =>
    let p := port.toNat
    if 3 < p then badParam 0 s
    else if 1 < enable.toNat then badParam 1 s
    else if (s.ethCfg p).enabled = (enable == 1) then replyOk s
    else
      let s := s.modCfg p fun k => { k with enabled := enable == 1 }
      replyOk (if enable = 1 then ethEvent p s else dropEth p s)) s

/-- R354, R374: NET_SET_ADDR. -/
def execNetSetAddr (c : KcpCtx) (port version prefixLen : Byte) (address : BitVec 128) (s : State) : Host.Outcome State Fault Refusal :=
  kcp 0x0443 c (fun _ s =>
    let p := port.toNat
    let v4 := version == 4
    if 3 < p then badParam 0 s
    else if version ≠ 4 ∧ version ≠ 6 then badParam 1 s
    else if (if v4 then 32 else 128) < prefixLen.toNat then badParam 2 s
    else
      let set := fun (s : State) => s.modCfg p fun k =>
        if v4 then { k with ipv4 := address.toNat % 2 ^ 32, prefix4 := prefixLen.toNat } else { k with ipv6 := address.toNat, prefix6 := prefixLen.toNat }
      keepsCheck17 s (set s) fun _ =>
        let old := if v4 then (s.ethCfg p).ipv4 else (s.ethCfg p).ipv6
        let mine := (s.adt.peers.filter fun e => old != 0 && e.2.inSession && e.2.eth == p && decide (e.2.addr < 2 ^ 32) == v4).map (·.1)
        let s := set (mine.foldl (fun (s : State) k => leaveSession k 0 s) s)
        replyOk (announceAddresses p s)) s

/-- R355, R356, R374: NET_TIME_CFG. -/
def execNetTimeCfg (c : KcpCtx) (role domain priority1 priority2 clockClass accuracy logSync ports : Byte) (asymmetry : List Half) (s : State) :
    Host.Outcome State Fault Refusal :=
  kcp 0x0444 c (fun _ s =>
    if 2 < role.toNat then badParam 0 s
    else if 127 < domain.toNat then badParam 1 s
    else if logSync.toInt < -5 ∨ 0 < logSync.toInt then badParam 6 s
    else if 15 < ports.toNat then badParam 7 s
    else
      let s := s.modNetMram fun n =>
        { n with time := { role := role.toNat, domain := domain.toNat, priority1 := priority1.toNat, priority2 := priority2.toNat,
                           clockClass := clockClass.toNat, accuracy := accuracy.toNat, logSync := logSync.toInt, ports := ports.toNat } }
      let s := (List.range 4).foldl (fun (s : State) p => s.modCfg p fun k => { k with asymmetry := (asymmetry.getD p 0).toInt }) s
      replyOk (selectClock s)) s

/-- R374: NET_TIME_QUERY. -/
def execNetTimeQuery (c : KcpCtx) (s : State) : Host.Outcome State Fault Refusal :=
  kcp 0x0445 c (fun _ s =>
    let n := s.net
    replyOk s (leBytes 1 s.clk.mode.toNat ++ leBytes 1 (if n.slave = 0 then 0xFF else n.slave - 1) ++ leBytes 2 n.steps ++ leBytes 8 n.gm ++
      leBytes 4 (signedField 32 n.offset) ++ leBytes 4 (signedField 32 n.ratio) ++ ((List.range 4).flatMap fun p => leBytes 2 (signedField 16 (s.eth p).delay)) ++
      leBytes 8 n.lastSync.toNat ++ leBytes 1 n.gmPriority ++ leBytes 1 n.gmClass ++ zeros 2)) s

/-- R357, R374: NET_MACSEC_CFG. -/
def execNetMacsecCfg (c : KcpCtx) (port mode cipher keySlot : Byte) (replay : Word) (keyPrio : Byte) (s : State) : Host.Outcome State Fault Refusal :=
  kcp 0x0446 c (fun _ s =>
    let p := port.toNat
    if 3 < p then badParam 0 s
    else if 2 < mode.toNat then badParam 1 s
    else if 1 < cipher.toNat then badParam 2 s
    else if 3 < keySlot.toNat then badParam 3 s
    else
      let s' := s.modCfg p fun k =>
        { k with secMode := mode.toNat, cipher := cipher.toNat, keySlot := keySlot.toNat, replay := replay.toNat, keyPrio := keyPrio.toNat }
      keepsCheck17 s s' fun s => replyOk (restartMka p s)) s

/-- R357, R374: NET_MACSEC_KEY. -/
def execNetMacsecKey (c : KcpCtx) (slot op len : Byte) (cak ckn : List Byte) (s : State) : Host.Outcome State Fault Refusal :=
  kcp 0x0447 c (fun _ s =>
    let k := slot.toNat
    if overUdp c then refuse .denied 0 s
    else if 3 < k then badParam 0 s
    else if 1 < op.toNat then badParam 1 s
    else if op = 0 ∧ (len = 0 ∨ 12 < len.toNat) then badParam 2 s
    else
      let key : MkaKey := if op = 0 then { present := true, ckn := ckn.take len.toNat, cak := fitBytes 32 cak } else {}
      let s := s.modNetMram fun n => { n with keys := tabSet n.keys k key }
      replyOk ((List.range 4).foldl (fun (s : State) p =>
        if (s.ethCfg p).secMode ≠ 0 ∧ (s.ethCfg p).keySlot = k then restartMka p s else s) s)) s

/-- R358, R374: NET_CB_CFG. -/
def execNetCbCfg (c : KcpCtx) (entry op ports history : Byte) (mac : BitVec 48) (vlan timeout : Half) (s : State) : Host.Outcome State Fault Refusal :=
  kcp 0x0448 c (fun _ s =>
    let i := entry.toNat
    if 1 < op.toNat then badParam 1 s
    else if op = 0 ∧ (15 < ports.toNat ∨ ((List.range 4).filter fun p => ports.getLsbD p).length ≠ 2) then badParam 2 s
    else if op = 0 ∧ (history.toNat < 2 ∨ 32 < history.toNat) then badParam 3 s
    else if op = 0 ∧ 4095 < vlan.toNat then badParam 10 s
    else if op = 0 ∧ (timeout.toNat < 10 ∨ 1000 < timeout.toNat) then badParam 12 s
    else
      let e : CbEntry := if op = 0 then { valid := true, ports := ports.toNat, history := history.toNat, mac := mac.toNat, vlan := vlan.toNat,
                                          timeout := timeout.toNat } else {}
      let s := s.modNetMram fun n => { n with cb := tabSet n.cb i e }
      replyOk (s.modNet fun n => { n with cb := tabErase n.cb i })) s

end Sys2Proof.Machine
end

