-- ==== Sys2Proof/Machine/Scaler.lean ====
section
/-! DEFINITION. The scaler commands: coefficient banks and each slot's choice of bank and siting (R256–R260, R269). -/

namespace Sys2Proof.Machine

/-- R260: a scaler setting names bank `n` explicitly. -/
def SclSet.names (x : SclSet) (n : Nat) : Bool := x.h == n || x.v == n

/-- R260: the slots that name bank `n`, in force or pending. -/
def State.bankUsers (s : State) (n : Nat) : List Nat :=
  (s.seq.slots.filter fun e => (s.slotEntry e.1).isSome &&
    (e.2.scl.names n || s.seq.deferred.any fun d => match d.op with | .scale x set => x == e.1 && set.names n | _ => false)).map (·.1)

/-- R260: the running truss carries bank `n`. -/
def State.trussBank (s : State) (n : Nat) : Bool := match s.running with | some t => t.banks.any fun e => e.1 == n | none => false

/-- R260: SCL_BANK_LOAD of bank `n` is refused with BUSY. -/
def State.bankBusy (s : State) (n : Nat) : Bool := !(s.bankUsers n).isEmpty || s.trussBank n || s.seq.switch.isSome

/-- R268: a bank load refused or failed. -/
def bankRefuse (st : Status) (detail : Nat) (s : State) : Reply := refuse st detail (s.count 105)

/-- R269: SCL_BANK_LOAD. -/
def execSclBankLoad (c : KcpCtx) (bank : Byte) (address : Long) (s : State) : Host.Outcome State Fault Refusal :=
  kcp 0x0240 c (fun _ s =>
    let n := bank.toNat
    let a := address.toNat
    if n < 4 ∨ 31 < n then bankRefuse .badParam 0 s
    else if !s.memMapped a 3648 then bankRefuse .badParam 4 s
    else if s.bankBusy n then bankRefuse .busy n s
    else
      match s.memLoad 154 a 3648 with
      | (none, s) => bankRefuse .media 0 s
      | (some b, s) =>
        match bankBad b with
        | some o => bankRefuse .badParam o s
        | none =>
          if u b 4 1 ≠ n then bankRefuse .badParam 4 s
          else replyOk ((s.modSeq fun q => { q with banks := tabInsert q.banks n b }).count 104)) s

/-- R256: flags and band of a ROM bank; bank 3 has no band. -/
def romBand (n : Nat) : Nat × Nat × Nat :=
  if n = 0 then (1, 256, 4096) else if n = 1 then (1, 128, 255) else if n = 2 then (1, 32, 127) else (0, 0, 0)

/-- R257, R269: a ROM bank as an image; the spec gives its name no value, so the name is free (log 10). -/
def romImage (n : Nat) (name : List Byte) : List Byte :=
  let b := romBand n
  let set := fun (taps : Nat) => (List.range 64).flatMap fun ph => (List.range taps).flatMap fun k => leBytes 2 (signedField 16 (coef n none taps ph k))
  leBytes 4 0x42434D47 ++ [BitVec.ofNat 8 n, BitVec.ofNat 8 b.1] ++ leBytes 2 b.2.1 ++ leBytes 2 b.2.2 ++ zeros 6 ++ fitBytes 16 name ++
    zeros 32 ++ set 8 ++ set 6 ++ set 5 ++ set 4 ++ set 3 ++ set 2

/-- R269: where bank `n` comes from: 0 ROM, 1 truss, 2 command, 3 empty, 4 failed; and its image. -/
def State.bankSource (s : State) (n : Nat) : Nat × Option (List Byte) :=
  if n < 4 then (0, none)
  else if tabGet s.seq.bankFailed (32 * (s.seq.running - 1) + n) then (4, none)
  else
    match (s.running.bind fun t => t.banks.find? fun e => e.1 == n), s.seq.banks.find? fun e => e.1 == n with
    | some e, _ => (1, some e.2)
    | none, some e => (2, some e.2)
    | none, none => (3, none)

/-- R269: SCL_BANK_QUERY. An empty or failed bank has no image to copy. -/
def execSclBankQuery (c : KcpCtx) (bank copy : Byte) (address : Long) (s : State) : Host.Outcome State Fault Refusal :=
  kcpRun 0x0241 0 (copy != 1) c (fun _ s =>
    let n := bank.toNat
    let a := address.toNat
    if 31 < n then badParam 0 s
    else if 1 < copy.toNat then badParam 1 s
    else if copy = 1 ∧ !s.memMapped a 3648 then badParam 4 s
    else
      let d := s.draw
      let s := d.2
      let src := s.bankSource n
      let img : List Byte := if n < 4 then romImage n (leBytes 16 d.1) else src.2.getD []
      let s := if copy = 1 ∧ img ≠ [] then s.memWrite a img else s
      replyOk s ([BitVec.ofNat 8 src.1] ++ fitBytes 1 ((img.drop 5).take 1) ++ fitBytes 4 ((img.drop 6).take 4) ++
        leBytes 2 (s.bankUsers n).length ++ fitBytes 16 ((img.drop 16).take 16))) s

/-- R269: a bank that a slot may name: 0xFF, or a bank that is neither empty nor failed. -/
def State.bankNamed (s : State) (k n : Nat) : Bool := n == 0xFF || (s.bankImage k n).isSome

/-- R269: SCL_SET_SLOT; the setting is referenced from acceptance and applies as R147 gives. -/
def execSclSetSlot (c : KcpCtx) (slot : Half) (h v sh sv : Byte) (s : State) : Host.Outcome State Fault Refusal :=
  kcp 0x0242 c (fun f s =>
    withSlot f slot.toNat s fun g _ e =>
      let k := (s.group g).store - 1
      if 31 < h.toNat ∧ h ≠ 0xFF then badParam 2 s
      else if 31 < v.toNat ∧ v ≠ 0xFF then badParam 3 s
      else if 2 < sh.toNat then badParam 4 s
      else if 2 < sv.toNat then badParam 5 s
      else if !s.bankNamed k h.toNat || !s.bankNamed k v.toNat then refuse .state 0 s
      else
        let x : SclSet := { h := h.toNat, v := v.toNat, sh := sh.toNat, sv := sv.toNat }
        replyOk ((s.modSlot e.slot fun c => { c with sclNext := some x }).defer g f (.scale e.slot x))) s

/-- R269: SCL_QUERY_SLOT. -/
def execSclQuerySlot (c : KcpCtx) (slot : Half) (s : State) : Host.Outcome State Fault Refusal :=
  kcp 0x0243 c (fun f s =>
    withSlot f slot.toNat s fun _ _ e =>
      let q := s.slot e.slot
      let stripes := if bitOf 1 e.flags then e.stripes else 1
      replyOk s ([BitVec.ofNat 8 q.scl.h, BitVec.ofNat 8 q.scl.v, BitVec.ofNat 8 q.usedH, BitVec.ofNat 8 q.usedV, BitVec.ofNat 8 q.usedT,
        BitVec.ofNat 8 stripes] ++ leBytes 2 q.storedW ++ leBytes 4 q.below6.toNat ++ leBytes 4 q.belowAdm.toNat ++ leBytes 4 q.tooWide.toNat)) s

end Sys2Proof.Machine
end

