-- ==== Sys2Proof/Machine/Colour.lean ====
section
/-! DEFINITION. The colour store and the colour commands: tables, output colour states, layer colour fields (R279, R286–R294). -/

namespace Sys2Proof.Machine

/-! ### The store -/

/-- R286: bytes of the colour store. -/
def colourStoreBytes : Nat := 2097152

/-- The store slots whose trusses groups run on. -/
def State.liveStores (s : State) : List Nat :=
  (List.range 4).filter fun k => allGroups.any fun g => (s.group g).store == k + 1

/-- R286: bytes that tables occupy, table `skip` of those loaded by command left out. -/
def State.storeUsed (s : State) (skip : Option Nat) : Nat :=
  (s.liveStores.map fun k => ((s.trussIn k).tables.map fun e => upTo 64 e.2.length).sum).sum +
    ((s.seq.tables.filter fun e => some e.1 != skip).map fun e => upTo 64 e.2.length).sum

/-- R290: a window names table `i`. -/
def Llw.namesTable (w : Llw) (i : Nat) : Bool := (w.matrix == 5 && w.matrixTable == i) || (w.degamma == 4 && w.degammaTable == i)

/-- R279: an output state names table `i`. -/
def OutColour.namesTable (o : OutColour) (i : Nat) : Bool := i != 0xFF && (o.matrix == i || o.regTable == i || o.lut == i)

/-- The keys of the outputs of the running trusses. -/
def State.outKeys (s : State) : List Nat :=
  s.liveStores.flatMap fun k => ((s.trussIn k).outputs.zipIdx.filter fun o => (s.group o.1.group).store == k + 1).map fun o => 65536 * k + o.2

/-- R289: output states and slots that name table `i`, in force, pending or in a shadow set. -/
def State.tableUsers (s : State) (i : Nat) : Nat :=
  (s.outKeys.filter fun o => (tabGet s.seq.colour o).namesTable i || (tabGet s.seq.colourShadow o).namesTable i).length +
    (s.seq.slots.filter fun e => (s.slotEntry e.1).isSome &&
      (e.2.shadow.namesTable i || e.2.active.namesTable i || (match e.2.pending with | some w => w.namesTable i | none => false))).length

/-- R288: stages of an output state that are bypassed for a missing or failed table, bit j for stage 7 + j. -/
def State.bypassOf (s : State) (k : Nat) (o : OutColour) : Nat :=
  packBits [(0, 1, b2n (o.matrix != 0xFF && !s.tableIs k o.matrix 1)),
    (1, 1, b2n (o.space == 1 && o.regamma == 4 && !s.tableIs k o.regTable 3)), (2, 1, b2n (o.lut != 0xFF && !s.tableIs k o.lut 4))]

/-- R288, R292, R293: the bypassed stages of every output as they now stand; a stage newly bypassed is counted. -/
def refreshBypass (s : State) : State :=
  s.outKeys.foldl (fun (s : State) key =>
    let old := tabGet s.seq.bypass key
    let new := s.bypassOf (key / 65536) (tabGet s.seq.colour key)
    let fresh := ((List.range 3).filter fun j => bitOf j new && !bitOf j old).length
    (s.modSeq fun q => { q with bypass := tabSet q.bypass key new }).countN 37 fresh) s

/-- R289: the running truss carries table `i`. -/
def State.trussTable (s : State) (i : Nat) : Bool := match s.running with | some t => t.tables.any fun e => e.1 == i | none => false

/-- R293: a table load refused or failed. -/
def tableRefuse (st : Status) (detail : Nat) (s : State) : Reply := refuse st detail (s.count 36)

/-- R289: what a table image needs of the store: its room. -/
def putTable (i : Nat) (b : List Byte) (s : State) : Reply :=
  match tableBad b with
  | some o => tableRefuse .badParam o s
  | none =>
    if u b 5 1 ≠ i then tableRefuse .badParam 5 s
    else if colourStoreBytes < s.storeUsed (some i) + upTo 64 b.length then tableRefuse .noResource 0 s
    else
      replyOk (refreshBypass ((s.modSeq fun q =>
        { q with tables := tabInsert q.tables i b, tableFailed := tabKeep (fun k _ => k % 256 != i) q.tableFailed }).count 35))

/-- R294: COL_TABLE_LOAD. -/
def execColTableLoad (c : KcpCtx) (index : Byte) (address : Long) (s : State) : Host.Outcome State Fault Refusal :=
  kcp 0x0260 c (fun _ s =>
    let i := index.toNat
    let a := address.toNat
    if !s.memMapped a 16 then tableRefuse .badParam 4 s
    else if s.tableUsers i ≠ 0 ∨ s.seq.switch.isSome then tableRefuse .busy i s
    else if s.trussTable i then tableRefuse .state i s
    else
      match s.memLoad 154 a 16 with
      | (none, s) => tableRefuse .media 0 s
      | (some h, s) =>
        let n := tableLen (u h 4 1)
        if n = 0 ∨ u h 0 4 ≠ 0x54434D47 ∨ u h 8 4 ≠ n then putTable i h s
        else if !s.memMapped a n then tableRefuse .badParam 4 s
        else
          match s.memLoad 154 a n with
          | (none, s) => tableRefuse .media 0 s
          | (some b, s) => putTable i b s) s

/-- R294: where table `i` comes from: 0 empty, 1 truss, 2 command, 3 failed; and its image. -/
def State.tableSource (s : State) (i : Nat) : Nat × List Byte :=
  let k := s.seq.running - 1
  let truss := s.running.bind fun t => t.tables.find? fun e => e.1 == i
  let own := s.seq.tables.find? fun e => e.1 == i
  let b := match truss, own with | some e, _ => e.2 | none, some e => e.2 | none, none => []
  if tabGet s.seq.tableFailed (256 * k + i) then (3, b)
  else if tabGet s.seq.tablesKept (256 * k + i) ≠ [] then (1, tabGet s.seq.tablesKept (256 * k + i))
  else match truss, own with | some _, _ => (1, b) | none, some _ => (2, b) | none, none => (0, [])

/-- R294: COL_TABLE_QUERY. -/
def execColTableQuery (c : KcpCtx) (index : Byte) (s : State) : Host.Outcome State Fault Refusal :=
  kcp 0x0261 c (fun _ s =>
    let x := s.tableSource index.toNat
    replyOk s ([BitVec.ofNat 8 x.1, BitVec.ofNat 8 (u x.2 4 1)] ++ leBytes 2 (s.tableUsers index.toNat) ++
      leBytes 4 (upTo 64 x.2.length) ++ leBytes 4 (colourStoreBytes - s.storeUsed none))) s

/-- R289, R294: COL_TABLE_FREE. -/
def execColTableFree (c : KcpCtx) (index : Byte) (s : State) : Host.Outcome State Fault Refusal :=
  kcp 0x0262 c (fun _ s =>
    let i := index.toNat
    if s.tableUsers i ≠ 0 then refuse .busy i s
    else if (s.tableSource i).1 ≠ 2 then refuse .state i s
    else replyOk (s.modSeq fun q => { q with tables := tabErase q.tables i })) s

/-! ### Output colour states -/

/-- The running output `o`: its group and the store slot of its truss. -/
def State.liveOutput (s : State) (o : Nat) : Option (Nat × Nat) :=
  allGroups.findSome? fun g =>
    (s.grpTruss g).bind fun t => if o < t.outputs.length ∧ (t.output o).group = g then some (g, (s.group g).store - 1) else none

/-- R294: a command that names an output: BAD_PARAM where no running truss has it, NOT_GRANTED without its group's grant. -/
def withOutput (f o : Nat) (s : State) (go : Nat → Nat → Reply) : Reply :=
  match s.liveOutput o with
  | none => badParam 0 s
  | some (g, k) => if !s.hasGroup f g then refuse .notGranted 1 s else go g k

/-- R279: the output state that a mask of items sets. -/
def OutColour.put (m : Byte) (space : Nat) (bg : List Nat) (matrix regamma regTable lut dither : Nat) (o : OutColour) : OutColour :=
  let o := if m.getLsbD 0 then { o with space := space } else o
  let o := if m.getLsbD 1 then { o with bgR := bg.getD 0 0, bgG := bg.getD 1 0, bgB := bg.getD 2 0, bgA := bg.getD 3 0 } else o
  let o := if m.getLsbD 2 then { o with matrix := matrix } else o
  let o := if m.getLsbD 3 then { o with regamma := regamma } else o
  let o := if m.getLsbD 4 then { o with regTable := regTable } else o
  let o := if m.getLsbD 5 then { o with lut := lut } else o
  if m.getLsbD 6 then { o with dither := dither } else o

/-- R279: the items of a mask taken from another output state. -/
def OutColour.take (m : Byte) (x o : OutColour) : OutColour :=
  o.put m x.space [x.bgR, x.bgG, x.bgB, x.bgA] x.matrix x.regamma x.regTable x.lut x.dither

/-- R294: COL_SET_OUTPUT: the items that the mask names, into the output's shadow state. -/
def execColSetOutput (c : KcpCtx) (output : Half) (mask space : Byte) (background : List Half) (matrix regamma regTable lut dither : Byte)
    (s : State) : Host.Outcome State Fault Refusal :=
  kcp 0x0263 c (fun f s =>
    withOutput f output.toNat s fun g k =>
      let wrong := fun (bit : Nat) (i : Byte) (kind : Nat) => mask.getLsbD bit && i != 0xFF && !s.tableIs k i.toNat kind
      if mask.getLsbD 7 then badParam 2 s
      else if mask.getLsbD 0 ∧ 1 < space.toNat then badParam 3 s
      else if mask.getLsbD 3 ∧ 4 < regamma.toNat then badParam 13 s
      else if mask.getLsbD 6 ∧ 2 < dither.toNat then badParam 16 s
      else if wrong 2 matrix 1 || wrong 4 regTable 3 || wrong 5 lut 4 then refuse .state 0 s
      else unlocked g s fun s =>
        let key := 65536 * k + output.toNat
        let x := (default : OutColour).put mask space.toNat (background.map BitVec.toNat) matrix.toNat regamma.toNat regTable.toNat lut.toNat dither.toNat
        let new := x.take mask (tabGet s.seq.colourShadow key)
        replyOk (s.modSeq fun q =>
          { q with colourShadow := tabSet q.colourShadow key new, colourDirty := tabMod q.colourDirty key fun l => l ++ [(f, mask, x)] })) s

/-- R294: the items of an output state as bytes. -/
def OutColour.bytes (o : OutColour) : List Byte :=
  [BitVec.ofNat 8 o.space] ++ leBytes 2 o.bgR ++ leBytes 2 o.bgG ++ leBytes 2 o.bgB ++ leBytes 2 o.bgA ++
    [BitVec.ofNat 8 o.matrix, BitVec.ofNat 8 o.regamma, BitVec.ofNat 8 o.regTable, BitVec.ofNat 8 o.lut, BitVec.ofNat 8 o.dither]

/-- R294: COL_QUERY_OUTPUT. -/
def execColQueryOutput (c : KcpCtx) (output : Half) (view : Byte) (s : State) : Host.Outcome State Fault Refusal :=
  kcp 0x0264 c (fun f s =>
    withOutput f output.toNat s fun _ k =>
      let key := 65536 * k + output.toNat
      if 1 < view.toNat then badParam 2 s
      else
        let o := tabGet (if view = 1 then s.seq.colourShadow else s.seq.colour) key
        replyOk s (o.bytes ++ [BitVec.ofNat 8 ((s.trussIn k).output output.toNat).enc, BitVec.ofNat 8 (s.bypassOf k o)])) s

/-- R294: COL_SET_SLOT, as writes of the slot's colour registers. -/
def execColSetSlot (c : KcpCtx) (slot : Half) (mask : Byte) (values : List Word) (s : State) : Host.Outcome State Fault Refusal :=
  kcp 0x0265 c (fun f s =>
    withSlot f slot.toNat s fun g _ _ =>
      let k := (s.group g).store - 1
      let w := ({} : Llw).put 0x180 (values.getD 0 0)
      if 15 < mask.toNat then badParam 2 s
      else if mask.getLsbD 0 ∧ ((w.matrix = 5 ∧ !s.tableIs k w.matrixTable 1) ∨ (w.degamma = 4 ∧ !s.tableIs k w.degammaTable 2)) then
        refuse .state 0 s
      else unlocked g s fun s =>
        replyOk (putAll f slot.toNat (((List.range 4).filter fun k => mask.getLsbD k).map fun k => (0x180 + 4 * k, values.getD k 0)) s)) s

end Sys2Proof.Machine
end

