-- ==== Sys2Proof/Machine/TrussCmds.lean ====
section
/-! DEFINITION. Loading, checking and unloading trusses, the embedded planner, and the standing trusses (R165, R177–R190). -/

namespace Sys2Proof.Machine

/-! ### Store slots -/

/-- R189: the code of a store slot's state, in the order R179 lists them (log 20). -/
def SlotState.code : SlotState → Nat
  | .empty => 0 | .loading => 1 | .admitted => 2 | .failed => 3 | .running => 4

/-- R179: no load, check, commit or standing write has the slot. -/
def StoreSlot.idle (x : StoreSlot) : Bool := match x.job with | .none => true | _ => false

/-- R186: a commit whose base is slot `k` fails when the slot's content changes. -/
def State.touchBase (k : Nat) (s : State) : State :=
  (List.range 4).foldl (fun (s : State) j => s.modStore j fun x =>
    match x.job with | .commit b _ cs => if b = k then { x with job := .commit b true cs } else x | _ => x) s

/-- R190: the completion record of a command: code, subject, status and its detail. -/
def completion (fn code subject : Nat) (st : Status) (detail : Nat) (s : State) : State :=
  s.serviceEvent (· == fn) 0x0100 code subject (leBytes 2 st.code ++ leBytes 4 detail)

/-! ### Signatures -/

/-- R486, R492: the planner key is there: the key engine passed its test, and level 2 debug has not disabled it. -/
def State.plannerKey (s : State) : Bool := s.sec.level != 2 && !s.sec.keyFailed

/-- R177, R486–R488: SIGNATURE detail of a signature block over `signed` bytes; `sigOk` is what the key engine found of the signature; a
block that is not formed as R177 gives has a bad one (DEDUCED, log 20). 2 is left out without a security version. -/
def State.sigDetail (s : State) (signed : List Byte) (x : TSig) (sigOk : Bool) (security : Option Nat) : Option Nat :=
  let slot := tabGet s.secMram.keys x.keySlot
  let keyOk :=
    if x.keySlot = 7 then s.plannerKey && x.keyId == Config.plannerKeyId
    else decide (1 ≤ x.keySlot ∧ x.keySlot ≤ 6) && slot.state == 1 && u (leBytes 48 (Config.sha3 slot.key)) 0 16 == x.keyId
  if Config.sha3 signed ≠ x.digest then some 4
  else if !keyOk then some 3
  else if !x.formed || !sigOk then some 1
  else match security with | some v => if v < s.secMram.trussCounter.toNat then some 2 else none | none => none

/-- R499: counts a verification. -/
def countVerify (bad : Bool) (s : State) : State := (if bad then s.count 443 else s).count 442

/-! ### Loading -/

/-- R179, R189, R190: a job of slot `k` has failed: the slot fails, keeps an ADMISSION or SIGNATURE detail, and its completion is reported under `code`. -/
def jobFailed (k code : Nat) (st : Status) (detail : Nat) (s : State) : State :=
  let fn := (s.store k).jobFn
  let kept := fun (x : StoreSlot) => if st = .admission ∨ st = .signature then detail else x.detail
  completion fn code k st detail (s.modStore k fun x => { x with state := .failed, job := .none, detail := kept x })

/-- R177–R181: the digest, signature and admission of an image copied into slot `k`: none when it is admitted, else what refuses it. -/
def admitInto (k : Nat) (img : List Byte) (sigOk : Bool) (version : Nat) (s : State) : Option (Status × Nat) × State :=
  let t := readTruss img
  let s := s.bgAdvance.modStore k fun x => { x with image := img, truss := some t, signed := false, variantsRead := false }
  if t.format = 4 ∧ version < 0x30 then (some (.unsupported, 0x30), s)
  else
    let sd := if t.sig.off = 0 then some 4 else s.sigDetail (img.take t.sig.off) t.sig sigOk (some t.security)
    match sd with
    | some d => (some (.signature, d), (countVerify true s).faultOpen 160)
    | none =>
      let s := countVerify false (s.modStore k fun x => { x with signed := true })
      match s.admission img t (s.store k).changes with
      | some d => (some (.admission, d), s.modStore k fun x => { x with variantsRead := d % 256 != 1 })
      | none =>
        let f := s.figures
        let t := s.fixScales t
        (none, s.modStore k fun x =>
          { x with state := .admitted, truss := some t, detail := 0, variantsRead := true, figures := f, job := .none, changes := 0 })

/-- R165, R179, R180, R190: an image has been copied into slot `k`, or could not be: its checks run and its completion is reported. -/
def loadEnds (k okCode badCode : Nat) (img : Except Nat (List Byte)) (sigOk : Bool) (s : State) : State :=
  let x := s.store k
  match img with
  | .error d => jobFailed k badCode .media d s
  | .ok img =>
    if 2 ^ 26 < img.length then jobFailed k badCode .noResource 0 s
    else
    match admitInto k img sigOk x.jobVersion (storeCopy k img s) with
    | (some (st, d), s) => jobFailed k badCode st d s
    | (none, s) => completion x.jobFn okCode k .ok 0 s

/-- R179: a load replaces what a check or a standing write was at work on: it fails with STATE, and a standing slot being written is left bad
(DEDUCED, log 20). -/
def dropJob (k : Nat) (s : State) : State :=
  let x := s.store k
  match x.job with
  | .check => completion x.jobFn 1 k .state 0 s
  | .standing to' =>
    completion x.jobFn 3 to' .state 0 ((s.modTruss fun q => { q with standing := tabSet q.standing to' {} }).modBoot fun b => { b with flashBusy := false })
  | _ => s

/-- R179, R189: TRUSS_LOAD. -/
def execTrussLoad (c : KcpCtx) (slot source standing : Byte) (address length : Long) (s : State) : Host.Outcome State Fault Refusal :=
  kcp 0x0100 c (fun f s =>
    let k := slot.toNat
    let x := s.store k
    let a := address.toNat
    let n := length.toNat
    if 3 < k then badParam 0 s
    else if 2 < source.toNat then badParam 1 s
    else if source = 2 ∧ 1 < standing.toNat then badParam 2 s
    else if source ≠ 2 ∧ 2 ^ 26 < n then refuse .noResource 0 s
    else if source = 0 ∧ !s.memMapped a n then badParam 4 s
    else if x.state = .running then refuse .state 0 s
    else if x.state = .loading then refuse .busy k s
    else if source = 2 ∧ !(tabGet s.truss.standing standing.toNat).valid then refuse .state 0 s
    else
      let s := ((dropJob k s).touchBase k).modStore k fun _ =>
        { state := .loading, job := .load source.toNat standing.toNat a n, jobFn := f, jobVersion := s.kcpVersion c,
          fromStanding := if source = 2 then standing.toNat + 1 else 0 }
      ⟨.inProgress, 0, [], s⟩) s

/-- R179: the copy of slot `k` ends: from device memory, from host memory as `host` gives it, or from flash. `sigOk` is what the key
engine found of the signature. -/
def execTrussLoadDone (slot : Fin 4) (host : Option (List Byte)) (sigOk : Bool) (s : State) : Host.Outcome State Fault Refusal :=
  let x := s.store slot
  match x.job with
  | .load source standing a n =>
    if source = 0 then
      match s.memFetch a n with
      | (some img, s) => done (loadEnds slot 0 1 (.ok img) sigOk s)
      | (none, s) => done (loadEnds slot 0 1 (.error (if (s.poisonLines a n).isEmpty then 1 else 2)) sigOk s)
    else if source = 1 then
      match (if s.fnReach x.jobFn then host else none) with
      | some img => done (loadEnds slot 0 1 (.ok (fitBytes n img)) sigOk (s.hostRead a n false {}))
      | none => done (loadEnds slot 0 1 (.error 1) sigOk s)
    else
      let img := (tabGet s.truss.standing standing).image
      done (loadEnds slot 0 1 (.ok img) sigOk (s.countN 439 (ceilDiv img.length 65536)))
  | _ => done s

/-! ### Check, query, unload -/

/-- R179, R150, R189: TRUSS_CHECK. A slot that a check or a standing write is at work on is BUSY (DEDUCED, log 20). A slot that is empty, or failed before its signature was found good, has nothing to check (log 20). -/
def execTrussCheck (c : KcpCtx) (slot : Byte) (s : State) : Host.Outcome State Fault Refusal :=
  kcp 0x0101 c (fun f s =>
    let k := slot.toNat
    let x := s.store k
    if 3 < k then badParam 0 s
    else if !x.idle then refuse .busy k s
    else if x.state = .empty ∨ !x.signed then refuse .state 0 s
    else ⟨.inProgress, 0, [], s.modStore k fun x => { x with job := .check, jobFn := f, changes := 0 }⟩) s

/-- R179, R180: a check ends. -/
def execTrussCheckDone (slot : Fin 4) (s : State) : Host.Outcome State Fault Refusal :=
  let x := s.store slot
  match x.job with
  | .check =>
    let s := s.bgAdvance
    let t := readTruss x.image
    match s.admission x.image t x.changes with
    | some d =>
      done (completion x.jobFn 1 slot .admission d (s.modStore slot fun x =>
        { x with state := if x.state = .running then .running else .failed, detail := d, job := .none, changes := 0 }))
    | none =>
      let f := s.figures
      done (completion x.jobFn 0 slot .ok 0 (s.modStore slot fun x =>
        { x with state := if x.state = .running then .running else .admitted, truss := some (s.fixScales t), figures := f, job := .none, changes := 0,
                 variantsRead := true }))
  | _ => done s

/-- R189: variants of a slot's truss that are not aliases. -/
def StoreSlot.variantCount (x : StoreSlot) : Nat :=
  match x.truss with
  | some t => if x.variantsRead then (t.variants.filter fun v => v.aliasOf == v.id).length else 0
  | none => 0

/-- R189: TRUSS_QUERY. -/
def execTrussQuery (c : KcpCtx) (slot : Byte) (s : State) : Host.Outcome State Fault Refusal :=
  kcp 0x0102 c (fun _ s =>
    let k := slot.toNat
    let x := s.store k
    let t := x.truss.getD { format := 0, id := 0, parent := 0 }
    if 3 < k then badParam 0 s
    else
      let variant := fun (g : Nat) => if x.state = .running ∧ (s.group g).store = k + 1 then (s.group g).variant else 0xFF
      replyOk s ([BitVec.ofNat 8 x.state.code, BitVec.ofNat 8 t.format, BitVec.ofNat 8 x.variantCount, 0] ++ leBytes 8 t.id ++
        leBytes 8 t.parent ++ leBytes 4 x.detail ++ leBytes 4 x.image.length ++ allGroups.map fun g => BitVec.ofNat 8 (variant g))) s

/-- R189: TRUSS_UNLOAD. -/
def execTrussUnload (c : KcpCtx) (slot : Byte) (s : State) : Host.Outcome State Fault Refusal :=
  kcp 0x0103 c (fun _ s =>
    let k := slot.toNat
    let x := s.store k
    if 3 < k then badParam 0 s
    else if x.state = .running then refuse .state 0 s
    else if !x.idle then refuse .busy k s
    else replyOk ((s.touchBase k).modStore k fun _ => {})) s

/-! ### The embedded planner -/

/-- R144, R186: bytes of a change after its kind. -/
def changeLen (kind : Nat) : Nat :=
  if kind = 0 then 13 else if kind = 2 then 45 else if kind = 4 then 27 else if kind = 1 ∨ kind = 3 ∨ kind = 5 then 3 else 0

/-- R186: the grant that a change needs and lacks: slots for kinds 2, 3 and 4, groups for kinds 0 and 5. -/
def State.changeDenied (s : State) (f : Nat) (b : List Byte) : Option Nat :=
  let kind := u b 0 1
  if kind = 0 ∨ kind = 5 then (if s.hasGroup f (u b 1 1) then none else some 1)
  else if kind = 2 ∨ kind = 3 ∨ kind = 4 then (if s.hasSlot f (u b 2 2) then none else some 0)
  else none

/-- R186: a change that names a group or slot beyond the last. -/
def changeBad (b : List Byte) : Option Nat :=
  let kind := u b 0 1
  if 5 < kind then some 0
  else if (kind = 0 ∨ kind = 5) ∧ 15 < u b 1 1 then some 1
  else if (kind = 2 ∨ kind = 3 ∨ kind = 4) ∧ 8191 < u b 2 2 then some 2
  else none

/-- R186: an output index of a change, of the base truss: outputs removed, and outputs that take a slot. -/
def changeOut (b : List Byte) : Option Nat :=
  if u b 0 1 = 1 then some (u b 2 2) else if u b 0 1 = 2 then some (u b 4 2) else none

/-- R186: function `f` holds the groups of the base's outputs that its changes name, which are known at the commit (DEDUCED, log 20). -/
def State.commitDenied (s : State) (f : Nat) (base : Truss) (changes : List (List Byte)) : Bool :=
  changes.any fun b => match changeOut b with
    | some o => decide (o < base.outputs.length) && !s.hasGroup f (base.output o).group
    | none => false

/-- R189: PLAN_CHANGE: `bytes` is the change, its kind first. -/
def execPlanChange (c : KcpCtx) (bytes : List Byte) (s : State) : Host.Outcome State Fault Refusal :=
  kcpRun 0x0110 (changeLen (u bytes 0 1)) ((kcpFind 0x0110).getD default).inSafe c (fun f s =>
    let b := fitBytes (1 + changeLen (u bytes 0 1)) bytes
    let held := tabGet s.truss.changes f
    match changeBad b with
    | some o => badParam o s
    | none =>
      match s.changeDenied f b with
      | some k => refuse .notGranted k s
      | none =>
        if 256 ≤ held.length then refuse .noResource 0 s
        else replyOk (s.modTruss fun t => { t with changes := tabSet t.changes f (held ++ [b]) }) (leBytes 2 (held.length + 1))) s

/-- R189: PLAN_DISCARD. -/
def execPlanDiscard (c : KcpCtx) (s : State) : Host.Outcome State Fault Refusal :=
  kcp 0x0112 c (fun f s => replyOk (s.modTruss fun t => { t with changes := tabErase t.changes f })) s

/-- R186, R189, R492: PLAN_COMMIT. -/
def execPlanCommit (c : KcpCtx) (base target : Byte) (s : State) : Host.Outcome State Fault Refusal :=
  kcp 0x0111 c (fun f s =>
    let b := s.store base.toNat
    let x := s.store target.toNat
    if 3 < base.toNat then badParam 0 s
    else if 3 < target.toNat ∨ target = base then badParam 1 s
    else if x.state = .running then refuse .state 0 s
    else if !x.idle then refuse .busy target.toNat s
    else if !(b.state == .admitted || b.state == .running) || !s.plannerKey then refuse .state 0 s
    else if s.commitDenied f (s.trussIn base.toNat) (tabGet s.truss.changes f) then refuse .notGranted 1 s
    else
      let job : StoreJob := .commit base.toNat false (tabGet s.truss.changes f)
      let s := (s.touchBase target.toNat).modTruss fun t => { t with changes := tabErase t.changes f }
      ⟨.inProgress, 0, [], s.modStore target.toNat fun _ => { state := .loading, job := job, jobFn := f, jobVersion := 0x32 }⟩) s

/-- The bytes of slot `x`'s entry in a format 4 image. -/
def slotBytes (img : List Byte) (x : Nat) : Option (List Byte) :=
  ((findSect (readTruss img).dir 3 0xFF).bind fun d => (entryOffs d 64).find? fun o => u img o 2 == x).map fun o => (img.drop o).take 64

/-- The entries of two outputs describe the same picture on the same unit. -/
def sameOut (a b : TOutput) : Bool :=
  a.kind == b.kind && a.group == b.group && a.unit == b.unit && a.width == b.width && a.height == b.height && a.strip == b.strip && a.enc == b.enc

/-- R186: the derived image carries one change, unless a later change of the set undoes it; an output index beyond the base's is an added output's. -/
def carries1 (base : Truss) (img : List Byte) (t : Truss) (b : List Byte) (later : List (List Byte)) : Bool :=
  let kind := u b 0 1
  let again := fun (ks : List Nat) (o n : Nat) => later.any fun c => ks.contains (u c 0 1) && u c o n == u b o n
  if kind = 0 then
    t.outputs.any (fun o => o.kind == 1 && o.unit == u b 2 2 && o.group == u b 1 1 && o.width == u b 4 2 && o.height == u b 6 2 &&
      o.strip == u b 8 1 && o.enc == u b 9 1 && o.bpp == u b 10 2 && o.sliceW == u b 12 2) ||
      later.any fun c => u c 0 1 == 1 && decide (base.outputs.length ≤ u c 2 2)
  else if kind = 1 then
    let o := base.output (u b 2 2)
    decide (base.outputs.length ≤ u b 2 2) || o.kind == 2 || !(t.outputs.any fun x => x.kind == o.kind && x.unit == o.unit) ||
      later.any fun c => u c 0 1 == 0 && o.kind == 1 && u c 2 2 == o.unit
  else if kind = 2 then
    (slotBytes img (u b 2 2)).any (fun e => (e.drop 4).take 28 == (b.drop 6).take 28 && (e.drop 34).take 12 == (b.drop 34).take 12) ||
      again [2, 3, 4] 2 2
  else if kind = 3 then (slotBytes img (u b 2 2)).isNone || again [2] 2 2
  else if kind = 4 then (slotBytes img (u b 2 2)).any (fun e => (e.drop 8).take 24 == (b.drop 4).take 24) || again [2, 3, 4] 2 2
  else (t.groups.any fun g => g.id == u b 1 1 && g.k == u b 2 2) || again [5] 1 1

/-- R186: what the planner may derive from a base: the marks of a derived truss, the changes, and the base's items where and when they were, those
of removed outputs apart. -/
def derivedOk (base : Truss) (img : List Byte) (changes : List (List Byte)) : Bool :=
  let t := readTruss img
  let low := (base.id % 65536 + 1) % 65536
  let adds := (changes.filter fun b => u b 0 1 == 0).length
  let cuts := (changes.filter fun b => u b 0 1 == 1).map fun b => u b 2 2
  bitOf 1 t.flags && t.parent == base.id && t.id == base.id / 65536 * 65536 + low && t.security == base.security && t.sig.keySlot == 7 &&
    t.outputs.length + cuts.length == base.outputs.length + adds &&
    (changes.zipIdx.all fun b => carries1 base img t b.1 (changes.drop (b.2 + 1))) &&
    (base.variants.all fun v => ((base.itemsOf v.id).filter fun i => !cuts.contains i.out).all fun i => (t.itemsOf v.id).any fun j =>
      j.start == i.start && j.lane == i.lane && j.strip == i.strip && j.frame == i.frame && sameOut (t.output j.out) (base.output i.out))

/-- R186: a commit ends: `derived` is the planner's image, none when its new items do not fit (log 20). -/
def execPlanCommitDone (slot : Fin 4) (derived : Option (List Byte)) (s : State) : Host.Outcome State Fault Refusal :=
  let x := s.store slot
  match x.job with
  | .commit base changed changes =>
    if changed then done (jobFailed slot 5 .state 0 s)
    else
      match (derived.filter fun img => derivedOk (s.trussIn base) img changes) with
      | none => let d := s.draw; done (jobFailed slot 5 .admission (d.1 % 2 ^ 32) d.2)
      | some img => done (loadEnds slot 4 5 (.ok img) true s)
  | _ => done s

/-! ### Standing trusses -/

/-- Standing slot `k`. -/
def State.standing (s : State) (k : Nat) : StandingSlot := tabGet s.truss.standing k

/-- R189: STANDING_QUERY. -/
def execStandingQuery (c : KcpCtx) (slot : Byte) (s : State) : Host.Outcome State Fault Refusal :=
  kcp 0x0120 c (fun _ s =>
    let k := slot.toNat
    let x := s.standing k
    if 1 < k then badParam 0 s
    else
      let t := readTruss x.image
      replyOk s ([BitVec.ofNat 8 (b2n x.valid), BitVec.ofNat 8 (b2n (s.truss.preferred == k)), 0, 0] ++ leBytes 8 t.id ++
        leBytes 4 t.security ++ leBytes 8 (x.assets.map List.length).sum)) s

/-- R187, R189, R489: STANDING_WRITE into the slot that is not preferred. -/
def execStandingWrite (c : KcpCtx) (slot : Byte) (s : State) : Host.Outcome State Fault Refusal :=
  kcp 0x0121 c (fun f s =>
    let k := slot.toNat
    let x := s.store k
    if 3 < k then badParam 0 s
    else if !x.idle || s.boot.flashBusy then refuse .busy k s
    else if !(x.state == .admitted || x.state == .running) || !(s.trussIn k).flags.testBit 0 then refuse .state 0 s
    else
      let s := s.modBoot fun b => { b with flashBusy := true }
      ⟨.inProgress, 0, [], s.modStore k fun x => { x with job := .standing (1 - s.truss.preferred), jobFn := f }⟩) s

/-- R498, R499: a fault of the flash or the MRAM. -/
def storeFault (x : Nat) (s : State) : State := (s.faultOpen x).pend 491

/-- R499: flash sectors erased; how many is open (log 10). -/
def flashErased (s : State) : State := let d := s.draw; d.2.countN 441 d.1

/-- R67, R187: the write of a standing slot ends, flash access being stopped while PLL9 is gated; `ok` tells whether flash took it and it read back as written. -/
def execStandingWriteDone (ok : Bool) (s : State) : Host.Outcome State Fault Refusal :=
  match (List.range 4).find? fun k => !(s.pll 9).gated && match (s.store k).job with | .standing _ => true | _ => false with
  | none => done s
  | some k =>
    let x := s.store k
    match x.job with
    | .standing to' =>
      let t := s.trussIn k
      let reads := t.assets.foldl (fun (acc : Option (List (List Byte)) × State) a =>
        let r := acc.2.memFetch a.addr a.len
        (acc.1.bind fun l => r.1.map fun b => l ++ [b], r.2)) (some [], s)
      let s := ((flashErased reads.2).modBoot fun b => { b with flashBusy := false }).modStore k fun x => { x with job := .none }
      let size := x.image.length + (t.assets.map (·.len)).sum
      match (if ok then reads.1 else none) with
      | some assets =>
        let s := s.modTruss fun q =>
          { q with standing := tabSet q.standing to' { valid := true, image := x.image, assets := assets }, preferred := to' }
        let s := (s.countN 440 (ceilDiv size 65536)).modSec fun c => { c with m3 := t.sig.digest }
        done (completion x.jobFn 2 to' .ok 0 (s.pend 489))
      | none =>
        let s := s.modTruss fun q => { q with standing := tabSet q.standing to' {} }
        let s := if ok then s else storeFault 172 s
        done (completion x.jobFn 3 to' .media 0 (s.pend 489))
    | _ => done s

/-- R189: STANDING_SELECT. -/
def execStandingSelect (c : KcpCtx) (slot : Byte) (s : State) : Host.Outcome State Fault Refusal :=
  kcp 0x0122 c (fun _ s =>
    let k := slot.toNat
    if 1 < k then badParam 0 s
    else if !(s.standing k).valid then refuse .state 0 s
    else replyOk (s.modTruss fun t => { t with preferred := k })) s

end Sys2Proof.Machine
end

