-- ==== Sys2Proof/Machine/Sequencer.lean ====
section
/-! DEFINITION. Arms and disarms as they arrive, the sequencer commands, and the acceptance of a truss switch (R198–R201, R212–R220). -/

namespace Sys2Proof.Machine

/-! ### Arms -/

/-- R123, R217, R219: an arm or disarm of a group that is not granted; 391 counts the arms. -/
def armDenied (arm : Bool) (f g : Nat) (s : State) : State := (s.countN 391 (b2n arm)).armResult f g 3 0 0

/-- R198, R240: an arm of a granted group arrives; run-ahead entries are compared with what is now due. -/
def armArrives (f g : Nat) (s : State) : Nat × State :=
  let r := s.arrive f g
  (r.1, recompare g r.2)

/-- R201: a disarm of a granted group arrives. -/
def disarmArrives (f g : Nat) (s : State) : Nat × State :=
  let r := s.disarm f g
  (r.1, recompare g r.2)

/-- R112, R198, R201: a write of SILL_ARM of group `g` by function `f`; both bits set act as a disarm. A doorbell arm waits for the function's
earlier BAR4 writes. -/
def sillDoorbell (f g : Nat) (arm disarm : Bool) (s : State) : State :=
  if !s.grpRuns g || !(arm || disarm) then s
  else if !s.hasGroup f g then armDenied (!disarm) f g (s.denied f)
  else if disarm then (disarmArrives f g s).2
  else if (s.fn f).inFlight.isEmpty then (armArrives f g s).2
  else s.modFn f fun x => { x with heldArms := x.heldArms ++ [g] }

/-- R112, R198: a doorbell arm of group `g` by function `f`. -/
def execSillArmArm (fn g : Fin 16) (s : State) : Host.Outcome State Fault Refusal :=
  if !s.barOpen fn then done s else done (sillDoorbell fn g true false s.bar0)

/-- R201: a doorbell disarm. -/
def execSillArmDisarm (fn g : Fin 16) (s : State) : Host.Outcome State Fault Refusal :=
  if !s.barOpen fn then done s else done (sillDoorbell fn g false true s.bar0)

/-- A mask with the bits of some groups. -/
def maskOf (gs : List Nat) : Nat := gs.foldl (fun m g => m + 2 ^ g) 0

/-- R220: what each group of a mask answers to an arm or disarm: 7 for a group not granted. -/
def maskRun (arm : Bool) (go : Nat → Nat → State → Nat × State) (f : Nat) (mask : Half) (s : State) : List (Nat × Nat) × State :=
  ((List.range 16).filter fun g => mask.getLsbD g).foldl (fun (acc : List (Nat × Nat) × State) g =>
    let r := if !acc.2.hasGroup f g then (7, armDenied arm f g acc.2) else go f g acc.2
    (acc.1 ++ [(g, r.1)], r.2)) ([], s)

/-- The groups whose answer is among some codes. -/
def answered (l : List (Nat × Nat)) (codes : List Nat) : Nat := maskOf ((l.filter fun e => codes.contains e.2).map (·.1))

/-- R220: SEQ_ARM. A deferred arm is in the accepted mask and in the deferred mask (log 20). -/
def execSeqArm (c : KcpCtx) (mask : Half) (s : State) : Host.Outcome State Fault Refusal :=
  kcp 0x0141 c (fun f s =>
    let r := maskRun true armArrives f mask s
    replyOk r.2 (leBytes 2 (answered r.1 [0, 1]) ++ leBytes 2 (answered r.1 [1]) ++ leBytes 2 (answered r.1 [2, 7]))) s

/-- R220: SEQ_DISARM. -/
def execSeqDisarm (c : KcpCtx) (mask : Half) (s : State) : Host.Outcome State Fault Refusal :=
  kcp 0x0142 c (fun f s =>
    let r := maskRun false disarmArrives f mask s
    replyOk r.2 (leBytes 2 (answered r.1 [4]) ++ leBytes 2 (answered r.1 [5, 7]))) s

/-! ### Sill registers -/

/-- R216: SILL_CFG. -/
def State.sillCfg (s : State) (g : Nat) : Nat := packBits [(0, 16, s.cutoffNs g / 1000), (16, 16, s.annNs g / 1000)]

/-- R216: SILL_VARIANT. -/
def State.sillVariant (s : State) (g : Nat) : Nat :=
  let c := s.group g
  let t := (s.grpTruss g).getD default
  let e := (t.group g).getD {}
  packBits [(0, 6, c.variant), (6, 1, b2n (t.reduced c.variant)), (8, 2, e.base),
    (10, 1, b2n (s.clk.realigning.getLsbD g || (c.begun && c.period != framePeriod t.h e c.j))),
    (11, 1, b2n (s.seqStopped)), (12, 2, c.store - 1)]

/-- R216: SILL_LATE, SILL_NR and SILL_MISS. -/
def GroupSt.late (c : GroupSt) : Nat := packBits [(0, 16, c.lateWrites.toNat), (16, 16, c.ignored.toNat)]
def GroupSt.nr (c : GroupSt) : Nat := packBits [(0, 16, c.nrLast.toNat), (16, 16, c.nrTotal.toNat)]
def GroupSt.miss (c : GroupSt) : Nat := packBits [(0, 16, c.missLast.toNat), (16, 16, c.missTotal.toNat)]

/-- R216: SILL_TARGET. -/
def GroupSt.target (c : GroupSt) : Nat := match c.arm with | some a => a.target.toNat | none => if c.copying then c.n.toNat else 0

/-- R216: a register of group `g`'s sill block, but for the latch of SILL_NEXT (R79); 0 for a group that no running truss holds. -/
def State.sillReg (s : State) (g off : Nat) : Nat :=
  let c := s.group g
  if !s.grpRuns g then 0
  else if off = 0 then b2n (c.arm.isSome || c.copying) else if off = 4 then s.armStatus g
  else if off = 8 then c.n.toNat else if off = 0xC then c.target
  else if off = 0x10 then c.nextAt % 2 ^ 32 else if off = 0x14 then c.nextAt / 2 ^ 32
  else if off = 0x18 then s.sillCfg g else if off = 0x1C then s.sillVariant g
  else if off = 0x20 then c.late else if off = 0x24 then c.nr else if off = 0x28 then c.miss else 0

/-- R220: SEQ_QUERY. -/
def execSeqQuery (c : KcpCtx) (group : Byte) (s : State) : Host.Outcome State Fault Refusal :=
  kcp 0x0143 c (fun f s =>
    let g := group.toNat
    if 15 < g then badParam 0 s
    else if !s.hasGroup f g then refuse .notGranted 1 s
    else
      let w := fun off => leBytes 4 (s.sillReg g off)
      replyOk s (w 4 ++ w 8 ++ w 0xC ++ w 0x10 ++ w 0x14 ++ w 0x18 ++ w 0x1C ++ w 0x20 ++ w 0x24 ++ w 0x28)) s

/-- R220: SEQ_SET_CUTOFF. -/
def execSeqSetCutoff (c : KcpCtx) (group : Byte) (us : Half) (s : State) : Host.Outcome State Fault Refusal :=
  kcp 0x0144 c (fun f s =>
    let g := group.toNat
    let t := (s.grpTruss g).getD default
    let limit := match t.group g with | some e => t.h / e.f * grain / 2 / 1000 | none => 0
    if 15 < g then badParam 0 s
    else if !s.grpRuns g then refuse .state 0 s
    else if us ≠ 0 ∧ (us.toNat < 100 ∨ limit < us.toNat) then badParam 2 s
    else replyOk (s.modSeq fun q => { q with deferred := q.deferred ++ [{ group := g, wait := 0, fn := f, op := .cutoff us.toNat }] })) s

/-- R220: a fence or pace condition in force requires a variant other than `v`. -/
def State.otherRequired (s : State) (v : Nat) : Bool :=
  if s.covered.isEmpty then s.paceReduced && v != 1 else !s.covered.any fun x => lossVariant x == v

/-- R220: SEQ_FORCE_VARIANT. -/
def execSeqForceVariant (c : KcpCtx) (variant : Byte) (s : State) : Host.Outcome State Fault Refusal :=
  kcp 0x0145 c (fun _ s =>
    let v := variant.toNat
    if v = 0xFF then replyOk (chooseVariants (s.modSeq fun q => { q with forced := none }))
    else if 37 < v then badParam 0 s
    else if s.otherRequired v || (match s.running with | some t => !t.hasVariant v | none => false) then refuse .state 0 s
    else replyOk (chooseVariants (s.modSeq fun q => { q with forced := some v }))) s

/-! ### Truss switch -/

/-- Sills of a truss's grid from a plan time on: instant, hyperperiod and frame. -/
def State.gridFrom (s : State) (t : Truss) (e : TGroup) (since : Nat) : Nat → List (Nat × Nat × Nat)
  | 0 => []
  | n + 1 =>
    let x := s.gridNext t e since
    let at' := s.gridSill t e x.1 x.2
    (at', x.1, x.2) :: State.gridFrom s t e (at' + 1) n

/-- R213: the first sill that lies on both grids, after `since` and within 2 s of now. A group on time base 1 in both trusses keeps its grid
when hyperperiod, rate and phase agree (log 20). -/
def State.commonSill (s : State) (old new : Truss) (a b : TGroup) (g since : Nat) : Option (Nat × Nat × Nat) :=
  let c := s.group g
  if a.base = 1 ∨ b.base = 1 then
    if a.base = b.base ∧ old.h = new.h ∧ a.f = b.f ∧ a.phase = b.phase then
      let p := framePeriod old.h a c.nextJ
      let x := if since < c.nextAt then (c.nextAt, c.nextHyper, c.nextJ)
               else (c.nextAt + p, if c.nextJ + 1 < a.f then c.nextHyper else c.nextHyper + 1, (c.nextJ + 1) % max 1 a.f)
      if x.1 ≤ s.clk.plan + secNs 2 then some x else none
    else none
  else
    (s.gridFrom old a (since + 1) 2001).findSome? fun x =>
      let y := s.gridNext new b x.1
      if x.1 ≤ s.clk.plan + secNs 2 ∧ s.gridSill new b y.1 y.2 = x.1 then some (x.1, y.1, y.2) else none

/-- R213: the switch instant of group `g` to store slot `k`: the target (16 to leave), the instant, and the new hyperperiod and frame;
none when the group takes no part. The outer answer is none when the two grids have no common sill. -/
def State.switchOf (s : State) (k g : Nat) : Option (Option (Nat × Nat × Nat × Nat)) :=
  let new := s.trussIn k
  let c := s.group g
  match s.grpTruss g, new.group g with
  | none, none => some none
  | none, some b =>
    let y := s.gridNext new b (s.clk.plan + msNs 2)
    some (some (k, s.gridSill new b y.1 y.2, y.1, y.2))
  | some old, none =>
    let e := (old.group g).getD {}
    let at' := if s.usableWait g = 0 then c.nextAt else c.nextAt + framePeriod old.h e c.nextJ
    some (some (16, at', 0, 0))
  | some old, some b =>
    let a := (old.group g).getD {}
    (s.commonSill old new a b g (s.clk.plan + s.cutoffNs g)).map fun x => some (k, x)

/-- A fetch entry that reads during a switch: port, index in its section, first instant, bytes over a share, and four times its tags. -/
structure ReadsAt where
  port : Nat
  index : Nat
  first : Nat
  bytes : Nat
  share : Nat
  tags : Nat

/-- An item that runs during a switch: its lane, when it starts and ends, whether it breaks check 8, and its reads. -/
structure RunsAt where
  index : Nat
  lane : Nat
  start : Nat
  stop : Nat
  late : Bool
  reads : List ReadsAt

/-- R194: frames of a group on time base 1 whose sills lie in `[lo, hi)`, as it counts on from a sill of frame `j` at plan time `at'`: instant and
frame. -/
def refSills (h : Nat) (e : TGroup) (at' j lo hi : Nat) : List (Nat × Nat) :=
  let hp := max 1 (h * grain)
  let ref := at' - sillGrain h e j * grain
  let first := (ref + hp * ((lo - ref) / hp)) - (if lo < ref then hp * ((ref - lo) / hp + 1) else 0)
  ((List.range ((hi - first) / hp + 1)).flatMap fun q => (List.range e.f).map fun j => (first + q * hp + sillGrain h e j * grain, j)).filter
    fun x => decide (lo ≤ x.1) && decide (x.1 < hi)

/-- R213: the items of group `g` under variant `v` of store slot `k` in the frames whose sills lie in `[lo, hi)`; on time base 1 these count on from
the sill of frame `j` at `at'`. `timing` gives the timing of a head. -/
def State.runsIn (s : State) (k v g : Nat) (timing : Nat → Option HeadTiming) (at' j lo hi : Nat) : List RunsAt :=
  let t := s.trussIn k
  match t.group g with
  | none => []
  | some e =>
    let sills := if e.base = 1 then refSills t.h e at' j lo hi
      else ((s.gridFrom t e lo 2100).filter fun x => x.1 < hi).map fun x => (x.1, x.2.2)
    sills.flatMap fun x =>
      ((t.itemsOf v).zipIdx.filter fun i => i.1.frame == x.2 && t.itemGroup i.1 == g).map fun i =>
        let start := x.1 + t.startOffset i.1 * grain
        { index := i.2, lane := i.1.lane, start := start, stop := start + t.occupies (t.pace v) i.1 * grain, late := t.itemLate timing v unmoved i.1,
          reads := (t.entriesOf v i.1).zipIdx.flatMap fun f => (entryPorts f.1).map fun p =>
            { port := p.1, index := i.1.first + f.2, first := start - i.1.lead * grain, bytes := f.1.bytes, share := p.2, tags := 4 * f.1.tags / p.2 } }

/-- R213 with check 7: the first item that a later one meets on its lane. -/
def switchLane (l : List RunsAt) : Option Nat :=
  (List.range 16).findSome? fun lane =>
    let xs := sortBy (fun a b => decide (a.start ≤ b.start)) (l.filter fun x => x.lane == lane)
    ((xs.zip (xs.drop 1)).find? fun p => decide (p.2.start < p.1.stop)).map fun p => p.2.index

/-- The reads of port `p`, each with the instant at which it ends. -/
def readsOn (l : List RunsAt) (p : Nat) : List (ReadsAt × Nat) :=
  l.flatMap fun x => (x.reads.filter fun r => r.port == p).map fun r => (r, x.start)

/-- R213 with check 11: the first fetch entry that reads in a window, counted from the first switch, in which a CXL port reads too much. -/
def switchReads (f : Figures) (l : List RunsAt) (lo hi : Nat) : Option Nat :=
  let part := fun (a : Nat) (r : ReadsAt × Nat) => min (a + 65536) r.2 - max a r.1.first
  let starts := (List.range (ceilDiv (hi - lo) 65536)).map fun w => lo + w * 65536
  firstUnit 4 fun p =>
    let rs := readsOn l p
    let full := starts.filter fun a => overLimit (f.adm p) (fracSum (rs.map fun r => (r.1.bytes * part a r, r.1.share * max 1 (r.2 - r.1.first))))
    leastIdx ((rs.filter fun r => full.any fun a => part a r != 0).map fun r => r.1.index)

/-- R213 with check 13: the first fetch entry that holds a tag of a CXL port or of the host link when too many are held. -/
def switchTags (l : List RunsAt) : Option Nat :=
  firstUnit 5 fun p =>
    let rs := readsOn l p
    let at' := fun (a : Nat) => rs.filter fun x => decide (x.1.first ≤ a) && decide (a < x.2)
    let full := (rs.map fun r => r.1.first).filter fun a => decide (4 * portTags p < ((at' a).map fun x => x.1.tags).sum)
    leastIdx (full.flatMap fun a => (at' a).map fun x => x.1.index)

/-- R213: the combined schedule from the first switch to the last: ADMISSION detail of the check that fails, in number order. -/
def State.switchClashes (s : State) (k : Nat) (plan : List (Nat × Nat × Nat × Nat × Nat)) : Option Nat :=
  let lo := (plan.map fun x => x.2.2.1).foldl min ((plan.map fun x => x.2.2.1).foldl max 0)
  let hi := (plan.map fun x => x.2.2.1).foldl max 0
  let v := s.runnable (k + 1) s.wantNew
  let runs := allGroups.flatMap fun g =>
    let c := s.group g
    let t := s.trussIn (c.store - 1)
    let sw := plan.find? fun x => x.1 == g
    let till := match sw with | some x => x.2.2.1 | none => hi
    let old := if s.grpRuns g then
      s.runsIn (c.store - 1) c.variant g (fun h => (s.head h).timing) c.nextAt c.nextJ (max s.clk.plan (lo - framePeriod t.h ((t.group g).getD {}) c.j)) till
      else []
    let new := match sw with
      | some x => if x.2.1 = k then s.runsIn k v g (s.trussIn k).timing x.2.2.1 x.2.2.2.2 x.2.2.1 hi else []
      | none => []
    old ++ new
  (failOf [shared (switchLane runs) |>.map fun x => (7, x.2), ((runs.find? (·.late)).map fun x => (8, x.index)),
    (switchReads s.figures runs lo hi).map fun i => (11, i), (switchTags runs).map fun i => (13, i)]).map fun x => admissionDetail x.1 (0, x.2)

/-- R213: accepts a switch to store slot `k`: every group takes its target and instant. -/
def takeSwitch (f k : Nat) (plan : List (Nat × Nat × Nat × Nat × Nat)) (s : State) : State :=
  let s := plan.foldl (fun (s : State) x =>
    s.modGroup x.1 fun c =>
      let c := { c with switchTo := some (x.2.1, x.2.2.1) }
      if c.store = 0 then { c with nextAt := x.2.2.1, nextHyper := x.2.2.2.1, nextJ := x.2.2.2.2, cutoffPassed := false, announced := false } else c) s
  let s := s.modSeq fun q =>
    { q with switch := some { store := k, old := q.running, fn := f }, running := if q.running = 0 then k + 1 else q.running }
  s.modStore k fun x => { x with state := .running }

/-- R213: the switch instants of all groups, or none where two grids have no common sill. -/
def State.switchPlan (s : State) (k : Nat) : Option (List (Nat × Nat × Nat × Nat × Nat)) :=
  allGroups.foldl (fun acc g =>
    match acc, s.switchOf k g with
    | some l, some (some x) => some (l ++ [(g, x)])
    | some l, some none => some l
    | _, _ => none) (some [])

/-- R213, R220: SEQ_SWITCH. -/
def execSeqSwitch (c : KcpCtx) (slot : Byte) (s : State) : Host.Outcome State Fault Refusal :=
  kcp 0x0140 c (fun f s =>
    let k := slot.toNat
    let x := s.store k
    if 3 < k then badParam 0 s
    else if x.state ≠ .admitted then refuse .state 0 s
    else if s.seq.switch.isSome || !x.idle then refuse .busy k s
    else
      match (if x.figures.fallen s.figures then s.readmission (s.trussIn k) else none) with
      | some d => refuse .admission d s
      | none =>
        match s.switchPlan k with
        | none => refuse .state 0 s
        | some plan =>
          match s.switchClashes k plan with
          | some d => refuse .admission d s
          | none =>
            let ts := plan.map fun x => x.2.2.1
            let last := ts.foldl max 0
            replyOk (takeSwitch f k plan s) (leBytes 8 (ts.foldl min last) ++ leBytes 8 last ++ leBytes 2 (maskOf (plan.map (·.1))))) s

end Sys2Proof.Machine
end

