-- ==== Sys2Proof/Machine/SvcText.lean ====
section
/-! DEFINITION. Text as firmware lays it into cells: UTF-8, character maps and layout (R402, R403). -/

namespace Sys2Proof.Machine

/-! ### UTF-8 -/

/-- R403: a decoder between two bytes: code points so far, newest first, none for an invalid sequence; the continuation bytes still to come
with the value so far and the next byte's range. -/
structure Utf8 where
  out : List (Option Nat) := []
  need : Nat := 0
  acc : Nat := 0
  lo : Nat := 0
  hi : Nat := 0

/-- A leading byte: continuation bytes, value, and range of the next byte; none for a byte that leads nothing. -/
def utf8Lead (b : Nat) : Option (Nat × Nat × Nat × Nat) :=
  if b < 0x80 then some (0, b, 0, 0)
  else if b < 0xC2 then none
  else if b < 0xE0 then some (1, b % 32, 0x80, 0xBF)
  else if b = 0xE0 then some (2, 0, 0xA0, 0xBF)
  else if b = 0xED then some (2, 13, 0x80, 0x9F)
  else if b < 0xF0 then some (2, b % 16, 0x80, 0xBF)
  else if b = 0xF0 then some (3, 0, 0x90, 0xBF)
  else if b < 0xF4 then some (3, b % 8, 0x80, 0xBF)
  else if b = 0xF4 then some (3, 4, 0x80, 0x8F)
  else none

/-- A byte where no sequence is under way. -/
def utf8Start (out : List (Option Nat)) (b : Nat) : Utf8 :=
  match utf8Lead b with
  | none => { out := none :: out }
  | some (0, a, _, _) => { out := some a :: out }
  | some (n + 1, a, lo, hi) => { out := out, need := n + 1, acc := a, lo := lo, hi := hi }

/-- One byte; one that cannot continue the sequence under way ends it as invalid, and starts the next. -/
def utf8Byte (u : Utf8) (b : Byte) : Utf8 :=
  match u.need with
  | 0 => utf8Start u.out b.toNat
  | n + 1 =>
    if u.lo ≤ b.toNat ∧ b.toNat ≤ u.hi then
      let a := u.acc * 64 + b.toNat % 64
      if n = 0 then { out := some a :: u.out } else { u with need := n, acc := a, lo := 0x80, hi := 0xBF }
    else utf8Start (none :: u.out) b.toNat

/-- R403: the code points of a text, none for each invalid sequence. -/
def utf8 (text : List Byte) : List (Option Nat) :=
  let u := text.foldl utf8Byte {}
  (if u.need = 0 then u.out else none :: u.out).reverse

/-! ### Layout -/

/-- R403: U+000A ends a line. -/
def textLines : List (Option Nat) → List (Option Nat) → List (List (Option Nat))
  | [], [] => []
  | [], acc => [acc.reverse]
  | c :: cs, acc => if c = some 10 then acc.reverse :: textLines cs [] else textLines cs (c :: acc)

/-- R403: where a line longer than `cols` breaks: after how many code points, and how many the next line skips. -/
def breakAt (cols : Nat) (l : List (Option Nat)) : Nat × Nat :=
  match ((List.range (cols + 1)).filter fun i => l.getD i none == some 0x20).getLast? with
  | some i => (i, i + 1)
  | none => (cols, cols)

/-- R403: a line wrapped to `cols`; every break takes at least one code point. -/
def wrapLine (cols : Nat) : Nat → List (Option Nat) → List (List (Option Nat))
  | 0, l => [l]
  | fuel + 1, l =>
    if l.length ≤ cols then [l]
    else
      let b := breakAt cols l
      let rest := l.drop b.2
      l.take b.1 :: (if rest.isEmpty then [] else wrapLine cols fuel rest)

/-- R403: the lines of a text in `cols` columns. -/
def wrapText (cols : Nat) (text : List Byte) : List (List (Option Nat)) :=
  (textLines (utf8 text) []).flatMap fun l => wrapLine (max 1 cols) l.length l

/-- R403: a code point's glyph. -/
def CharMap.glyph (m : CharMap) (c : Option Nat) : Nat :=
  match c.bind fun p => m.entries.find? fun e => e.1 == p with
  | some e => e.2
  | none => m.replace

/-- R403: the glyphs of a rectangle, row by row, and the lines dropped; `block` centres the text block between the rows. -/
def layText (m : CharMap) (cols rows just : Nat) (block : Bool) (text : List Byte) : List Nat × Nat :=
  let lines := wrapText cols text
  let kept := lines.take rows
  let top := if block then (rows - kept.length) / 2 else 0
  let cell := fun (i : Nat) =>
    let y := i / cols
    if y < top then m.space
    else
      match kept[y - top]? with
      | none => m.space
      | some l =>
        let pad := if just = 2 then cols - l.length else if just = 1 then (cols - l.length) / 2 else 0
        let x := i % cols
        if x < pad then m.space else match l[x - pad]? with | some c => m.glyph c | none => m.space
  ((List.range (cols * rows)).map cell, lines.length - rows)

/-- R403: a cell's entry in a CELL16 (0x50) or CELL32 map. -/
def cellEntry (m : CharMap) (format fg bg glyph : Nat) : Nat :=
  if format = 0x50 then (if 4095 < glyph then m.replace % 4096 else glyph) + (fg % 16) * 4096
  else glyph % 65536 + (fg % 16) * 65536 + (bg % 16) * 1048576

/-- R403: laid glyphs as cells of a map of `grid` columns, the rectangle's first cell at (`col`, `row`). -/
def laidCells (m : CharMap) (format fg bg grid col row cols : Nat) (glyphs : List Nat) : List (Nat × Nat) :=
  glyphs.zipIdx.map fun g => ((row + g.2 / max 1 cols) * grid + col + g.2 % max 1 cols, cellEntry m format fg bg g.1)

/-! ### Character map images (R402) -/

/-- R402: the entries of a character map image: code point and glyph. -/
def charEntries (b : List Byte) (n : Nat) : List (Nat × Nat) := (List.range n).map fun i => (u b (16 + 8 * i) 4, u b (16 + 8 * i + 4) 2)

/-- R402: the byte at which a character map image breaks the layout; `n` entries follow the header. -/
def charMapBad (b : List Byte) (n : Nat) : Option Nat :=
  let es := charEntries b n
  if u b 0 4 ≠ 0x4D434D47 then some 0
  else if n = 0 ∨ 65536 < n then some 4
  else ((es.zip (es.drop 1)).zipIdx.find? fun x => decide (x.1.2.1 ≤ x.1.1.1)).map fun x => 16 + 8 * (x.2 + 1)

/-- R402: a character map from its image. -/
def charMapOf (b : List Byte) : CharMap :=
  { loaded := true, replace := u b 8 2, space := u b 10 2, entries := charEntries b (u b 4 4) }

end Sys2Proof.Machine
end

