-- ==== Sys2Proof/Machine/SvcOps.lean ====
section
/-! DEFINITION. The fields of the information boards and the emergency bulletin, as commands, pins, sills and starts use them (R404–R406,
R411–R416). -/

namespace Sys2Proof.Machine

/-! ### Fields -/

/-- R404: entry `k` of the field table. -/
def State.fieldDef (s : State) (k : Nat) : FieldDef := tabGet s.svcMram.fields k
/-- Field `k`. -/
def State.field (s : State) (k : Nat) : FieldSt := tabGet s.svc.fields k
/-- Changes field `k`. -/
def State.modField (k : Nat) (f : FieldSt → FieldSt) (s : State) : State := s.modSvc fun v => { v with fields := tabMod v.fields k f }
/-- R402: character map `k`. -/
def State.charMap (s : State) (k : Nat) : CharMap := tabGet s.svc.maps k

/-- R404: a field's rectangle lies within a grid. -/
def FieldDef.within (d : FieldDef) (w : Llw) : Bool := decide (d.col + d.cols ≤ w.cols) && decide (d.row + d.rows ≤ w.rows)

/-- R404: where a field that is not dormant stands: its slot's group and entry. -/
def State.fieldLive (s : State) (d : FieldDef) : Option (Nat × TSlot) :=
  if !d.defined then none
  else (s.slotEntry d.slot).bind fun x => if x.2.2.type = 1 ∧ d.within (s.slot d.slot).active then some (x.1, x.2.2) else none

/-- R403: a field's text as cells of a map with `grid` columns, and the lines dropped. -/
def State.fieldCells (s : State) (d : FieldDef) (fg bg format grid : Nat) (text : List Byte) : List (Nat × Nat) × Nat :=
  let m := s.charMap d.map
  let x := layText m d.cols d.rows d.just false text
  (laidCells m format fg bg grid d.col d.row d.cols x.1, x.2)

/-- R496: writes a field's persisted text, at most once in 10 s. -/
def persistText (k : Nat) (text : List Byte) (s : State) : State :=
  let f := s.field k
  if f.writtenAt ≠ 0 ∧ s.now < f.writtenAt - 1 + secNs 10 then s.modField k fun f => { f with persist := some text }
  else if tabGet s.svcMram.texts k = text then s.modField k fun f => { f with persist := none }
  else
    (s.modSvcMram fun m => { m with texts := tabSet m.texts k text }).modField k fun f => { f with persist := none, writtenAt := s.now + 1 }

/-- R405, R406, R418: commits a field's text, laid into `cells`, at frame `n` of group `g`. -/
def commitField (f k g : Nat) (d : FieldDef) (h cols : Nat) (laid : List (Nat × Nat) × Nat) (text : List Byte) (n : Word) (s : State) : State :=
  let s := s.defer g f (.lay d.slot h cols laid.1)
  let s := s.modField k fun x => { x with frame := n, commits := satInc x.commits }
  let s := if d.flags.getLsbD 0 then persistText k text s else s
  let hears := fun y => s.hasSlot y d.slot
  let s := if d.flags.getLsbD 1 then (s.serviceEvent hears 0x0600 0 k (leBytes 4 n.toNat ++ zeros 4)).pend 498 else s
  if laid.2 = 0 then s else (s.serviceEvent hears 0x0600 1 k (leBytes 4 n.toNat ++ leBytes 2 laid.2 ++ zeros 2)).pend 498

/-! ### Messages and raises -/

/-- R412: message `k`: 0–7 in MRAM, 8–15 in firmware memory. -/
def State.message (s : State) (k : Nat) : Message := if k < 8 then tabGet s.svcMram.messages k else tabGet s.svc.messages k

/-- R413: the raise shown: of highest priority, and among equals the most recent. -/
def State.topRaise (s : State) : Option Raise :=
  s.svc.raises.foldl (fun best r =>
    match best with
    | none => some r
    | some b => if (s.message b.message).prio < (s.message r.message).prio then some r else some b) none

/-- R414: the cell-map bulletin slots of a group. -/
def State.bulletinSlots (t : Truss) (g : Nat) : List TSlot := (t.groupSlots g).filter fun e => e.pos == 15 && e.type == 1

/-- R411, R414: lays message `m` into the idle copy of a bulletin slot's map, shown after `wait` sills. -/
def layBulletin (g wait m : Nat) (e : TSlot) (s : State) : State :=
  match s.cellMap e with
  | none => s
  | some (h, cols, rows) =>
    let msg := s.message m
    let cm := s.charMap msg.map
    let x := layText cm cols rows 1 true msg.text
    s.deferAt g wait 16 (.lay e.slot h cols (laidCells cm (s.surf h).format msg.fg msg.bg cols 0 0 cols x.1))

/-- R414: sills of group `g` that pass before the first one usable for a laying that is complete now. -/
def State.bulletinWait (s : State) (g : Nat) (t : Truss) : Nat :=
  let c := s.group g
  let ends := t.outputs.any fun o => o.kind == 1 && o.group == g
  let tb := if ends then max (s.cutoffNs g) (s.annNs g) else s.cutoffNs g
  let p := match t.group g with | some e => framePeriod t.h e c.nextJ | none => 0
  let k := if p = 0 then 0 else ceilDiv (s.clk.plan + tb - c.nextAt) p
  if c.cutoffPassed ∨ (ends ∧ c.announced) then max 1 k else k

/-- A group's bulletin change still to come is dropped. -/
def dropBulletin (g : Nat) (s : State) : State :=
  s.modSeq fun q => { q with deferred := q.deferred.filter fun d => d.group != g || (match d.op with | .bulletin _ _ => false | _ => true) }

/-- R414: the message laid, `laid` counting from 1, takes effect in group `g` at its first usable sill. -/
def stageBulletin (laid origin g : Nat) (s : State) : State :=
  match s.grpTruss g with
  | none => s
  | some t =>
    let wait := s.bulletinWait g t
    let s := (State.bulletinSlots t g).foldl (fun (s : State) e => layBulletin g wait (laid - 1) e s) (dropBulletin g s)
    s.deferAt g wait 16 (.bulletin laid origin)

/-- R411, R413: the bulletin ends in group `g` at the first sill whose cutoff has not passed. -/
def endBulletin (g : Nat) (s : State) : State :=
  let s := dropBulletin g s
  if s.grpRuns g ∧ tabGet s.svc.inForce g ≠ 0 then s.defer g 16 (.bulletin 0 0) else s

/-- R413, R414: the raises or a message have changed: the message now shown is to be laid, or the bulletin ends. -/
def refreshBulletin (edited : Bool) (s : State) : State :=
  match s.topRaise with
  | none => allGroups.foldl (fun (s : State) g => endBulletin g s) (s.modSvc fun v => { v with laying := 0, laid := 0, shown := none })
  | some r =>
    if s.svc.shown = some r ∧ !edited then s
    else s.modSvc fun v => { v with laying := r.message + 1, shown := some r, changedAt := s.clk.plan }

/-- R413, R415: a raise is recognised. -/
def raiseBulletin (r : Raise) (s : State) : State :=
  let s := s.modSvc fun v => { v with raises := r :: v.raises.filter fun x => x.origin != r.origin, recognised := s.clk.plan }
  s.openEndpoints.foldl (fun (s : State) k => sendBeat k s) (refreshBulletin false s)

/-- R413: the raises that `p` names are cleared. -/
def clearRaises (p : Raise → Bool) (s : State) : State :=
  refreshBulletin false (s.modSvc fun v => { v with raises := v.raises.filter fun x => !p x })

/-- R414: cells in the bulletin maps of the running trusses. -/
def State.bulletinCells (s : State) : Nat :=
  (allGroups.map fun g =>
    match s.grpTruss g with
    | some t => ((State.bulletinSlots t g).map fun e => (s.slot e.slot).active.cols * (s.slot e.slot).active.rows).sum
    | none => 0).sum

/-- R414: the longest a laying takes, ns. -/
def State.layingNs (s : State) : Nat :=
  let n := s.bulletinCells
  msNs (2 + if 262144 < n then ceilDiv (n - 262144) 131072 else 0)

/-- R414, R416: at a sill of group `g`, a bulletin slot that has taken another map, and a group that the message has not reached, get the
message at the next usable sill. `was` gives the handles that the slots had before the sill. -/
def relayBulletin (g : Nat) (was : List (Nat × Nat)) (s : State) : State :=
  match s.grpTruss g with
  | none => s
  | some t =>
    if s.svc.laid = 0 then s
    else
      let moved := (State.bulletinSlots t g).filter fun e => !was.contains (e.slot, (s.slot e.slot).active.surfaceHandle)
      let s := moved.foldl (fun (s : State) e => layBulletin g (s.usableWait g) (s.svc.laid - 1) e s) s
      let due := s.seq.deferred.any fun d => d.group == g && (match d.op with | .bulletin _ _ => true | _ => false)
      if tabGet s.svc.inForce g = s.svc.laid ∨ due then s
      else s.deferAt g (s.bulletinWait g t) 16 (.bulletin s.svc.laid s.svc.laidOrigin)

/-- The maps that the bulletin slots of a group show. -/
def State.bulletinMaps (s : State) (g : Nat) : List (Nat × Nat) :=
  match s.grpTruss g with
  | none => []
  | some t => (State.bulletinSlots t g).map fun e => (e.slot, (s.slot e.slot).active.surfaceHandle)

/-! ### EMERG_N -/

/-- R418: the EMERG_N event. -/
def emergEvent (released : Bool) (s : State) : State :=
  (s.serviceEvent (fun f => s.hasCmdGroup f 6) 0x0600 6 (b2n released) (leBytes 8 s.clk.plan)).pend 496

/-- R413, R415, R419: EMERG_N is recognised as asserted; in the safe state, disabled, or with an empty message it is logged only. -/
def emergAssert (s : State) : State :=
  let s := emergEvent false (s.modSvc fun v => { v with emerg := true })
  let m := s.svcMram.emergMessage
  if s.flt.safe ∨ !s.svcMram.emergEnable ∨ (s.message m).text.isEmpty then s else raiseBulletin { origin := .emerg, message := m } s

/-- R413: EMERG_N is recognised as released. -/
def emergRelease (s : State) : State :=
  let s := emergEvent true (s.modSvc fun v => { v with emerg := false })
  clearRaises (fun r => r.origin == .emerg) s

end Sys2Proof.Machine
end

