-- ==== Sys2Proof/Machine/SillOps.lean ====
section
/-! DEFINITION. What a publish cutoff decides and what a sill applies: the armed shadow set, deferred commands, a variant
switch and a truss switch (R147, R202–R207, R212–R214, R259, R327, R368, R376, R409). -/

namespace Sys2Proof.Machine

/-! ### The cutoff -/

/-- R204: the ready condition of a window is met; a unit that does not exist counts nothing. -/
def State.readyMet (s : State) (w : Llw) : Bool :=
  let reached := fun (count : BitVec 24) => decide ((count - BitVec.ofNat 24 w.readyCount).toNat < 2 ^ 23)
  if w.readyKind = 0 then true
  else if w.readyKind = 1 then reached (s.cq w.readyUnit).count
  else if w.readyKind = 2 then reached (s.wb w.readyUnit).count
  else false

/-- R376, R409: a surface lies on a port that variant `v` uses. -/
def State.portUsed (s : State) (v h : Nat) : Bool :=
  let p := (s.surf h).port
  !(decide (18 ≤ v ∧ v < 22) && (p == v - 18 || p == 5))

/-- R408: the pattern handles of a slot: its own, or those that flash assets made, lowest first. -/
def State.patternHandles (s : State) (m : Mosaic) : List Nat :=
  if m.given then [m.pattern0, m.pattern1]
  else ((s.seq.surfaces.filter fun e => e.2.allocated && e.2.made == 1 && e.2.pattern).map (·.1)).take 2

/-- R409: what an ingest-linked slot shows with `held` held frames, in variant `v`. -/
def State.mosaicShow (s : State) (v : Nat) (e : TSlot) (m : Mosaic) (held : Nat) : MosaicShow :=
  if e.stale ≠ 0 ∧ e.stale < held then
    match (s.patternHandles m).find? fun h => h != 0xFFFF && (s.surf h).allocated && s.portUsed v h with
    | some h => .pattern h
    | none => .fill
  else if m.m ≠ 0 ∧ m.m ≤ held then .marker
  else .frame

/-- R408: the mosaic settings of a slot in the next frame: those due at the sill, or those in force. -/
def State.mosaicNext (s : State) (g x : Nat) : Mosaic :=
  s.seq.deferred.foldl (fun (m : Mosaic) d =>
    match d.op with | .mosaic y set => if d.group = g ∧ d.wait = 0 ∧ y = x then set else m | _ => m) (tabGet s.svc.mosaics x).set

/-- R380: plan time at which a source's latest frame completed, plus one; 0 without one. -/
def IngSt.latestAt (x : IngSt) : Nat := if x.latest = 0 then 0 else (tabGet x.bufs (x.latest - 1)).doneAt + 1

/-- R207, R409: what a cutoff decides for an ingest-linked slot: the frame it takes and how it shows it. -/
def takeIngest (g v : Nat) (e : TSlot) (s : State) : State :=
  let c := s.slot e.slot
  let x := s.ing e.source
  let buffer := if x.latestBuf = 0 then c.buffer else x.latestBuf
  let at' := if x.latestBuf = 0 then c.ingAt else x.latestAt
  let fresh := buffer != 0 && (buffer != c.buffer || at' != c.ingAt)
  let held := if fresh then 0 else (satInc c.heldFrames).toNat
  s.modSlot e.slot fun c => { c with nextBuffer := buffer, nextIngAt := at', nextMosaic := s.mosaicShow v e (s.mosaicNext g e.slot) held }

/-- R203, R204, R207: the publish cutoff of a group: its armed set is final, and what each slot shows next is decided. -/
def passCutoff (g : Nat) (s : State) : State :=
  match s.grpTruss g with
  | none => s
  | some t =>
    let armed := (s.group g).armedNow
    let v := (s.nextPlan g).2
    let s := (t.groupSlots g).foldl (fun (s : State) e =>
      let c := s.slot e.slot
      let notReady := armed && e.type != 2 && c.shadow.handle != c.active.handle && !s.readyMet c.shadow
      let take := !armed && (match c.pending with | some w => s.readyMet w | none => false)
      let s := s.modSlot e.slot fun c => { c with notReady := notReady, takePending := take }
      if e.type = 3 then takeIngest g v e s else s) s
    recompare g (s.modGroup g fun c => { c with cutoffPassed := true })

/-! ### Step 1: the armed shadow set -/

/-- R202, R205: a slot takes its armed window, or holds it pending; without an arm it takes a pending window found ready. -/
def takeWindow (armed : Bool) (e : TSlot) (s : State) : State :=
  let c := s.slot e.slot
  let s := s.modSlot e.slot fun c => { c with held := some c.shownWindow }
  if c.notReady then s.modSlot e.slot fun c => { c with pending := some c.shadow }
  else if armed then s.modSlot e.slot fun c => { c with active := c.shadow, pending := none }
  else if c.takePending then (s.modSlot e.slot fun c => { c with active := c.pending.getD c.active, pending := none }).count 401
  else s

/-- R202: the shadow states of a group's outputs, rate sets and heads come into force. -/
def takeShadows (g : Nat) (t : Truss) (s : State) : State :=
  let k := (s.group g).store - 1
  let outs := t.outputs.zipIdx.filter fun o => o.1.group == g
  let s := outs.foldl (fun (s : State) (o : TOutput × Nat) =>
    let key := 65536 * k + o.2
    let s := s.modSeq fun q => { q with colour := tabSet q.colour key (tabGet q.colourShadow key), colourDirty := tabErase q.colourDirty key }
    match (if o.1.kind = 0 then (s.head o.1.unit).shadow else none) with
    | some x => takeTiming o.1.unit x s
    | none => s) s
  let s := (List.range 4).foldl (fun (s : State) p =>
    match (s.eth p).shadow with
    | some r => if t.rateGroup (s.group g).variant p = g then loadRates p r (s.modEth p fun e => { e with shadow := none, rateWrites := [] }) else s
    | none => s) s
  refreshBypass s

/-- R202, R205, R218: step 1 of a sill. A parity error leaves the group its settings. Answers whether an arm applied, and whether it had been
deferred. -/
def applyArm (g : Nat) (parity : Bool) (s : State) : (Bool × Bool) × State :=
  match s.grpTruss g with
  | none => ((false, false), s)
  | some t =>
    let now := (s.group g).armedNow
    let arm := (s.group g).arm.getD {}
    if now && parity then
      let s := (t.groupSlots g).foldl (fun (s : State) (e : TSlot) =>
        s.modSlot e.slot fun c => { c with notReady := false, held := some c.shownWindow }) (s.faultOpen 136)
      ((false, false), s.dropArm g)
    else
      let s := (t.groupSlots g).foldl (fun (s : State) e => takeWindow now e s) s
      if now then ((true, arm.deferred), (takeShadows g t s).modGroup g fun c => { c with arm := none, copying := true })
      else ((false, false), s.modGroup g fun c => { c with arm := c.arm.map fun a => { a with wait := a.wait - 1 } })

/-! ### Step 2: deferred commands -/

/-- R248: the event of cells that a function's command has written. -/
def cellsApplied (f slot : Nat) (n : Word) (s : State) : State :=
  (s.serviceEvent (· == f) 0x0200 1 slot (leBytes 4 n.toNat ++ zeros 4)).count 83

/-- R147: one deferred command of group `g` takes effect at the sill of frame `n`. -/
def applyOp (g : Nat) (n : Word) (d : Deferred) (s : State) : State :=
  match d.op with
  | .track k source group deadband period =>
    s.modPll k fun p =>
      { p with trackSrc := BitVec.ofNat 2 source, trackGroup := BitVec.ofNat 4 group, deadband := deadband, syncPeriod := period,
               target := if source = 0 then 0 else p.target }
  | .syncOut mode group width offset => setSyncOut { mode := BitVec.ofNat 2 mode, group := group, width := width, offset := offset } s
  | .snoop f on => s.modFn f fun x => { x with noSnoop := putBit x.noSnoop g on }
  | .grant f => s.modFn f fun x => { x with groupsInForce := putBit x.groupsInForce g (x.groups.getLsbD g) }
  | .scale x set => s.modSlot x fun c => { c with scl := set, sclNext := if c.sclNext = some set then none else c.sclNext }
  | .target e queue handles => s.modWb e fun w => { w with targets := handles, queue := queue, next := 0 }
  | .cutoff us => s.modGroup g fun c => { c with cutoffSet := if us = 0 then 0 else us + 1 }
  | .mosaic x set => s.modSvc fun v => { v with mosaics := tabMod v.mosaics x fun m => { m with set := set } }
  | .bulletin message origin =>
    let was := tabGet s.svc.inForce g
    let wasOrigin := tabGet s.svc.origins g
    let s := s.modSvc fun v => { v with inForce := tabSet v.inForce g message, origins := tabSet v.origins g origin }
    let s := bulletinBlanks g s
    if message = was ∧ (message = 0 ∨ origin = wasOrigin) then s
    else
      (s.serviceEvent (fun f => s.hasCmdGroup f 6) 0x0600 (if message = 0 then 5 else 4) g
        (if message = 0 then zeros 4 ++ leBytes 4 n.toNat else [BitVec.ofNat 8 (message - 1), BitVec.ofNat 8 origin, 0, 0] ++ leBytes 4 n.toNat)).pend 495
  | .cells slot _ _ _ _ => cellsApplied d.fn slot n s
  | .fill slot _ _ _ _ _ => cellsApplied d.fn slot n s
  | .lay _ _ _ _ => if 16 ≤ d.fn then s else s.count 83

/-- R250: the maps that cells due now are written to change to their other copy, and the cells go into the copy no longer shown. -/
def flipMaps (ops : List Deferred) (s : State) : State :=
  let writes := ops.filterMap fun d => d.op.cellWrite
  let s := ((writes.map fun w => w.2.1).eraseDups).foldl (fun (s : State) h => s.modSurf h fun x => { x with copy := 1 - x.copy }) s
  writes.foldl (fun (s : State) w => s.writeCells w.2.1 (1 - (s.surf w.2.1).copy) w.2.2.1 w.2.2.2) s

/-- R147, R202, R250: step 2 of a sill: the commands due take effect in taking order; the rest wait one sill less, and cells then due are
written into the copy not shown. -/
def applyOps (g : Nat) (n : Word) (s : State) : State :=
  let mine := s.seq.deferred.filter fun d => d.group == g
  let due := mine.filter fun d => d.wait == 0
  let s := s.modSeq fun q => { q with deferred := (q.deferred.filter fun d => d.group != g || d.wait != 0).map fun d =>
    if d.group = g then { d with wait := d.wait - 1 } else d }
  let s := due.foldl (fun (s : State) d => applyOp g n d s) (flipMaps due s)
  ((mine.filter fun d => d.wait == 1).filterMap fun d => d.op.cellWrite).foldl (fun (s : State) w =>
    s.writeCells w.2.1 (1 - (s.surf w.2.1).copy) w.2.2.1 w.2.2.2) s

/-! ### Rings of camera sources -/

/-- R377: the decoder a source has in variant `v`: none when it is fenced. -/
def State.decoderFor (s : State) (t : Truss) (v num : Nat) : Nat :=
  let d := t.decoderOf v num
  if d < 4 ∧ s.fenced (48 + d) then 4 else d

/-- R347, R377: a source whose decoder is gone stops, and one that has a decoder again starts. -/
def steerSource (num : Nat) (s : State) : State :=
  let k := 1024 + num
  let p := s.peer k
  if !p.inSession then s
  else if (s.ing num).decoder = 4 ∧ p.stop = 0 then (s.adtSend k "SOURCE_CTRL" 4 [0, 1]).modPeer k fun p => { p with stop := 2 }
  else if (s.ing num).decoder < 4 ∧ p.stop = 2 then (s.adtSend k "SOURCE_CTRL" 4 [1, 1]).modPeer k fun p => { p with stop := 0 }
  else s

/-- R221: the handle that stands for a source, when there is one. -/
def State.ingestHandle (s : State) (num : Nat) : Option Nat :=
  (s.seq.surfaces.find? fun x => x.2.allocated && x.2.made == 2 && x.2.source == num).map (·.1)

/-- R221, R375: the ingest handle of a source, made where it has none. It persists across truss switches and warm starts that resume. -/
def ensureIngestHandle (num : Nat) (s : State) : State :=
  match s.ingestHandle num with
  | some h => s.modIng num fun x => { x with handle := h }
  | none =>
    match s.freeHandle with
    | none => s
    | some h =>
      (s.modSurf h fun _ => { allocated := true, flags := 2, made := 2, source := num }).modIng num fun x => { x with handle := h }

/-- R375–R377: lays out the rings of a truss in variant `v`; a ring that stays where it was keeps its frames. `newTruss` at a truss switch. -/
def relayRings (newTruss : Bool) (t : Truss) (v : Nat) (s : State) : State :=
  let depth := fun i => if newTruss then (s.ing i).depthNext else (s.ing i).depth
  match t.rings depth v with
  | none => s
  | some l =>
    l.foldl (fun (s : State) (e : Nat × Nat) =>
      let bytes := match t.binding 1 e.1 with | some b => sourceBuffer b | none => 0
      let d := s.decoderFor t v e.1
      let x := s.ing e.1
      let same := x.bound && x.addr == e.2 && x.bufBytes == bytes && x.depth == depth e.1
      let s := ensureIngestHandle e.1 s
      let s := s.modIng e.1 fun x =>
        if same then { x with decoder := d }
        else { x with bound := true, addr := e.2, bufBytes := bytes, depth := depth e.1, decoder := d, bufs := [], latest := 0, now := [] }
      steerSource e.1 s) s

/-! ### Step 3: a variant switch -/

/-- R212, R340: slots and endpoints of a group that its variant drops or keeps. -/
def settleVariant (g v : Nat) (t : Truss) (s : State) : State :=
  let s := (t.groupSlots g).foldl (fun (s : State) (e : TSlot) => s.modSlot e.slot fun c => { c with dropped := !t.keeps v e }) s
  (s.groupEndpoints g).foldl (fun (s : State) x =>
    if !t.keepsOut v x.2.2 then sendHold x.1 1 s
    else if (s.peer x.1).holding = 1 ∨ (s.peer x.1).holding = 2 then endHold x.1 s
    else s) s

/-- R212, R368, R376: group `g` takes variant `v`. -/
def takeVariant (g v : Nat) (s : State) : State :=
  match s.grpTruss g with
  | none => s
  | some t =>
    let s := bwSwitch ((s.modGroup g fun c => { c with variant := v }).count 402)
    relayRings false t v (calendarRates g v t (settleVariant g v t s))

/-- R212: step 3 of a sill. -/
def applyVariant (g : Nat) (s : State) : State :=
  let due := (s.group g).variantNext
  let s := s.modGroup g fun c => { c with variantNext := (due.filter fun x => x.2 != 0).map fun x => (x.1, x.2 - 1) }
  match due.find? fun x => x.2 == 0 with
  | some x => takeVariant g x.1 s
  | none => s

/-! ### Step 4: a truss switch -/

/-- R171, R214: two entries have an identical travel box on outputs of the same kind and unit. -/
def sameBox (t u : Truss) (a b : TSlot) : Bool :=
  let o := t.output a.out
  let p := u.output b.out
  o.kind == p.kind && o.unit == p.unit && a.pos == b.pos && a.type == b.type && a.source == b.source &&
    [a.x0, a.y0, a.x1, a.y1, a.hmin, a.hmax, a.vmin, a.vmax, a.maxW, a.maxH, a.bpp, a.dec, a.taps, a.flags, a.port, a.stripes] ==
      [b.x0, b.y0, b.x1, b.y1, b.hmin, b.hmax, b.vmin, b.vmax, b.maxW, b.maxH, b.bpp, b.dec, b.taps, b.flags, b.port, b.stripes]

/-- The truss that a switch leaves. -/
def State.oldTruss (s : State) : Option Truss := s.seq.switch.bind fun x => if x.old = 0 then none else (s.store (x.old - 1)).truss

/-- R259: an explicit bank that the new table lacks reverts to auto. -/
def revertBanks (k : Nat) (x : SclSet) (s : State) : SclSet × State :=
  let gone := fun n => n != 0xFF && decide (4 ≤ n) && !(s.trussIn k).banks.any fun e => e.1 == n
  ({ x with h := if gone x.h then 0xFF else x.h, v := if gone x.v then 0xFF else x.v }, s.countN 103 (b2n (gone x.h) + b2n (gone x.v)))

/-- R214, R259: a slot of the new truss keeps what it has, or starts from its entry. -/
def startSlot (g k v : Nat) (t : Truss) (e : TSlot) (s : State) : State :=
  let kept : Bool := match s.oldTruss with
    | some old => (old.slots.find? fun x => x.slot == e.slot).any fun x => sameBox old t x e
    | none => false
  if kept then
    let r := revertBanks k (s.slot e.slot).scl s
    let s := r.2.modSlot e.slot fun c => { c with scl := r.1 }
    match (s.slot e.slot).sclNext with
    | some x =>
      let r := revertBanks k x s
      let s := r.2.modSlot e.slot fun c => { c with sclNext := some r.1 }
      s.modSeq fun q => { q with deferred := q.deferred.map fun d =>
        match d.op with | .scale y set => if y = e.slot then { d with op := .scale y (revertBanks k set s).1 } else d | _ => d }
    | none => s
  else
    let w := Llw.start e
    let s := s.modSlot e.slot fun _ => { shadow := w, active := w, held := some w }
    let s := s.modSvc fun v => { v with mosaics := tabErase v.mosaics e.slot }
    let s := if e.type = 3 then takeIngest g v e s else s
    if e.handle = 0xFFFF ∨ e.type = 2 then s else s.modSurf e.handle fun x => { x with inUse := true }

/-- R384: the engine of an output ends its frame, and writes nothing until it is given targets again. -/
def dropTargets (o : TOutput) (s : State) : State :=
  if o.wb = 0 then s
  else
    let e := o.wb - 1
    let s := if (s.wb e).busy then wbReport e (if (s.wb e).ended then s else wbMissing e s) else s
    s.modWb e fun w => { w with targets := [], next := 0 }

/-- R327: a peer of the new truss keeps its session, and is told of a changed stream. -/
def moveEndpoint (k : Nat) (was : Stream) (wasBinding : Option TBinding) (s : State) : State :=
  let b := (s.peerBinding k).getD {}
  let old := wasBinding.getD {}
  let s := s.modPeer k fun p => { p with bound := none }
  if !(s.peer k).inSession then s
  else if was = s.stream k ∧ old.fragBytes = b.fragBytes ∧ old.tslk = b.tslk then s
  else resetHeld k (sendAccept k b true s)

/-- R213, R314, R327: heads and endpoints of a group that leaves its truss. -/
def leaveOutputs (g : Nat) (old new : Truss) (s : State) : State :=
  (old.outputs.filter fun o => o.group == g).foldl (fun (s : State) o =>
    let there := match new.outputOf o.kind o.unit with | some i => (new.output i).group | none => 16
    let joined := there != 16 && there != g && (s.group there).store == (match s.seq.switch with | some x => x.store + 1 | none => 0)
    let s := dropTargets o s
    if joined ∨ there = g then s
    else if o.kind = 0 then (if there = 16 then leaveHead o.unit s else stopHead o.unit s)
    else if o.kind = 1 then (if (new.binding 0 o.unit).isNone then leaveSession o.unit 2 s else sendHold o.unit 0 s)
    else s) s

/-- R213, R214: group `g` takes the truss in store slot `k`. -/
def takeTruss (g k : Nat) (s : State) : State :=
  let t := s.trussIn k
  let e := (t.group g).getD {}
  let first := !(allGroups.any fun h => (s.group h).store == k + 1)
  let v := s.runnable (k + 1) s.wantNew
  let s := match s.grpTruss g with | some old => leaveOutputs g old t s | none => s
  let ends := (t.outputs.filter fun o => o.kind == 1 && o.group == g).map fun o => (o.unit, s.stream o.unit, s.peerBinding o.unit)
  let s := s.modGroup g fun c => { c with store := k + 1, variant := v, variantNext := [], cutoffSet := 0, switchTo := none }
  let s := if first then relayRings true t v s else s
  let s := (t.groupSlots g).foldl (fun (s : State) e => startSlot g k v t e s) s
  let s := (t.outputs.zipIdx.filter fun o => o.1.group == g).foldl (fun (s : State) (o : TOutput × Nat) =>
    let key := 65536 * k + o.2
    let c := tabGet t.outStates o.2
    let s := s.modSeq fun q => { q with colour := tabSet q.colour key c, colourShadow := tabSet q.colourShadow key c }
    let s := dropTargets o.1 s
    match (if o.1.kind = 0 then t.timing o.1.unit else none) with
    | some x => joinHead o.1.unit g e.base x s
    | none => s) s
  let s := ends.foldl (fun (s : State) (x : Nat × Stream × Option TBinding) => moveEndpoint x.1 x.2.1 x.2.2 s) s
  bwSwitch ((refreshBypass (calendarRates g v t (settleVariant g v t s))).count 403)

/-- R213: group `g` leaves: the new truss does not hold it. -/
def leaveTruss (g : Nat) (s : State) : State :=
  let new := match s.seq.switch with | some x => s.trussIn x.store | none => default
  let s := match s.grpTruss g with | some old => leaveOutputs g old new s | none => s
  let s := s.modSeq fun q => { q with deferred := q.deferred.filter fun d => d.group != g }
  let s := s.modSvc fun v => { v with inForce := tabErase v.inForce g, origins := tabErase v.origins g }
  (s.modGroup g fun _ => {}).count 403

/-- R108, R214, R259, R327, R447: the last group has switched. -/
def endSwitch (x : Switch) (s : State) : State :=
  let t := s.trussIn x.store
  let was := (s.dma.ing.map fun e => (e.1, s.stream (1024 + e.1), s.peerBinding (1024 + e.1)))
  let s := if x.old = 0 ∨ x.old = x.store + 1 then s else s.modStore (x.old - 1) fun y => { y with state := .admitted }
  let gone := fun (per k : Nat) => x.old != 0 && k / per == x.old - 1
  let s := s.modSeq fun q =>
    { q with running := x.store + 1, switch := none, banks := [], tables := [], bankFailed := tabKeep (fun k _ => !gone 32 k) q.bankFailed,
             tablesKept := tabKeep (fun k _ => !gone 256 k) q.tablesKept,
             tableFailed := tabKeep (fun k _ => !gone 256 k) q.tableFailed, colour := tabKeep (fun k _ => !gone 65536 k) q.colour,
             colourShadow := tabKeep (fun k _ => !gone 65536 k) q.colourShadow, colourDirty := tabKeep (fun k _ => !gone 65536 k) q.colourDirty,
             bypass := tabKeep (fun k _ => !gone 65536 k) q.bypass }
  let s := s.modSeq fun q => { q with slots := tabKeep (fun i _ => t.slots.any fun e => e.slot == i) q.slots }
  let s := was.foldl (fun (s : State) (e : Nat × Stream × Option TBinding) =>
    let k := 1024 + e.1
    match t.binding 1 e.1 with
    | some _ => moveEndpoint k e.2.1 e.2.2 s
    | none =>
      (leaveSession k 2 s).modIng e.1 fun y => { (default : IngSt) with depthNext := y.depthNext, queue := y.queue, handle := y.handle }) s
  let s := s.openEndpoints.foldl (fun (s : State) k => if (t.binding 0 k).isNone then leaveSession k 2 s else s) s
  let s := (List.range 8).foldl (fun (s : State) h => if (s.headGroup h).isNone then leaveHead h s else s) s
  let s := (s.modSec fun c => { c with m2 := t.sig.digest }).modBootMram fun b => { b with resume := some (t.id, t.sig.digest) }
  let s := { s with mem := { s.mem with ports := tabMap (fun _ (p : CxlPort) => if p.state = PortState.up then { p with awaitTruss := false } else p) s.mem.ports } }
  let s := s.modFlt fun f => { f with order := f.order.filter fun y => s.fenced y || (decide (57 ≤ y) && (s.eth (y - 57)).lost) }
  let s := chooseVariants s
  if 16 ≤ x.fn then s
  else
    let d := s.draw
    let d2 := d.2.draw
    d2.2.serviceEvent (· == x.fn) 0x0140 0 d.1 (leBytes 8 d2.1)

/-- R213, R214: ends the switch once every group has made its own. -/
def settleSwitch (s : State) : State :=
  match s.seq.switch with
  | none => s
  | some x => if allGroups.any fun g => (s.group g).switchTo.isSome then s else endSwitch x s

end Sys2Proof.Machine
end

