-- ==== Sys2Proof/Machine/Sill.lean ====
section
/-! DEFINITION. The publish cutoff, the sill and the end of its copy (R193–R196, R202–R208, R216, R217, R336). -/

namespace Sys2Proof.Machine

/-! ### Placing the next sill -/

/-- R194: on time base 1 without heads, the reference moved toward the latest accepted SYNC_IN edge, by at most 0.35 % of a frame. -/
def State.pullReference (s : State) (t : Truss) (e : TGroup) (ref : Nat) : Nat :=
  if !s.clk.syncPresent || s.clk.syncAccepted == 0 || t.hasHead e.id then ref
  else
    let h : Nat := max 1 (t.h * grain)
    let d : Int := ((s.clk.syncAccepted : Int) - 1 - ref) % (h : Nat)
    let d := if 2 * d ≤ (h : Nat) then d else d - (h : Nat)
    let limit : Int := (t.h * grain * 35 / (10000 * max 1 e.f) : Nat)
    ((ref : Int) + max (-limit) (min limit d)).toNat

/-- R193–R196: the sill after the one just issued, and the period fixed for the frame it begins. `far` tells that the sill missed its instant, so
that a group is placed on its grid again: without heads by a frame that reaches the grid sill at least 2 ms and a period on (R76, R218). -/
def placeNext (g : Nat) (far : Bool) (s : State) : State :=
  match s.grpTruss g with
  | none => s
  | some t =>
    match t.group g with
    | none => s
    | some e =>
      let c := s.group g
      let p0 := framePeriod t.h e c.j
      let h' := if c.j + 1 < e.f then c.hyper else c.hyper + 1
      let j' := if c.j + 1 < e.f then c.j + 1 else 0
      let ahead := c.sillAt + max p0 (msNs 2)
      let wrap := if j' = 0 then t.h * grain else 0
      let own := if t.hasHead g then c.sillAt - sillGrain t.h e c.j * grain else c.reference
      let s :=
        match (s.leadHead g).bind fun h => (s.head h).timing with
        | some x => s.modGroup g fun c => { c with nextHyper := h', nextJ := j', nextAt := c.sillAt + s.headFrameNs x, reference := own + wrap }
        | none =>
          if e.base = 1 then
            if far ∧ !t.hasHead g then regrid g ahead s
            else
              let ref := s.pullReference t e (own + wrap)
              s.modGroup g fun c => { c with nextHyper := h', nextJ := j', reference := ref, nextAt := ref + sillGrain t.h e j' * grain }
          else
            let x := s.gridNext t e (if far then ahead else c.sillAt + p0 / 2)
            let s := if t.hasHead g then s else s.modClk fun c => { c with realigning := putBit c.realigning g far }
            s.modGroup g fun c => { c with nextHyper := x.1, nextJ := x.2, nextAt := s.gridSill t e x.1 x.2 }
      let s := s.modGroup g fun c => { c with period := c.nextAt - c.sillAt }
      if (s.group g).period = p0 then s else s.count 406

/-! ### The frame that begins -/

/-- R208, R219: one slot of a sill's count of slots not ready. -/
def countNotReady (x : Nat) (shown : Shown) (s : State) : State :=
  let s := (s.modSlot x fun c => { c with nrCount := satInc c.nrCount }).count 396
  s.count (match shown with | .omitted => 398 | .filled => 399 | _ => 397)

/-- R207, R409, R410: an ingest-linked slot takes what the cutoff chose; answers whether it holds its frame. -/
def showIngest (e : TSlot) (n : Word) (s : State) : Bool × State :=
  let c := s.slot e.slot
  let fresh := c.nextBuffer != 0 && (c.nextBuffer != c.buffer || c.nextIngAt != c.ingAt)
  let ms := tabGet s.svc.mosaics e.slot
  let was := ms.patterned
  let now := match c.nextMosaic with | .pattern _ => true | _ => false
  let overNow := match c.nextMosaic with | .pattern _ => true | .fill => true | _ => false
  let held := if fresh then 0 else satInc c.heldFrames
  let s := s.modSlot e.slot fun c => { c with heldFrames := held, buffer := c.nextBuffer, ingAt := c.nextIngAt, stale := overNow }
  let s := s.modSvc fun v => { v with mosaics := tabMod v.mosaics e.slot fun m =>
    { m with shows := c.nextMosaic, patterned := now || (was && overNow), patterns := if now && !was then satInc m.patterns else m.patterns } }
  let s := if overNow && !c.stale then s.count 400 else s
  let hears := fun f => s.hasSlot f e.slot
  let s :=
    if now && !was then
      (s.serviceEvent hears 0x0600 2 e.slot (leBytes 2 e.source ++ leBytes 2 held.toNat ++ leBytes 4 n.toNat)).pend 497
    else if was && !overNow then (s.serviceEvent hears 0x0600 3 e.slot (leBytes 2 e.source ++ zeros 2 ++ leBytes 4 n.toNat)).pend 497
    else s
  (!fresh, s)

/-- R258, R268, R269: the banks, taps and stored width of a slot's frame, from what it shows in it. -/
def scaleFrame (g k : Nat) (e : TSlot) (s : State) : State :=
  if e.type = 2 then s
  else
    let c := s.slot e.slot
    let w := c.shownWindow
    let n := if bitOf 1 e.flags then e.stripes else 1
    let own := geoFrom s e w default 0 0 0 none w.src
    let geo := match s.lays (s.trussIn k) g e with | .layer x => x | _ => own
    let width := stripeWidth (stripesOf n geo.ws w.dst.w (bitsOf 0 6 w.phase.toNat))
    let h := s.bankOf k c.scl.h w.dst.w geo.ws
    let v := s.bankOf k c.scl.v w.dst.h geo.hs
    let moved := fun (set old new : Nat) => b2n (set == 0xFF && c.storedW != 0 && old != new)
    (s.modSlot e.slot fun c => { c with usedH := h, usedV := v, usedT := tapsFor width, storedW := width }).countN 102
      (moved c.scl.h c.usedH h + moved c.scl.v c.usedV v)

/-- R204, R206–R208, R249, R263: what a slot shows in the frame that begins. -/
def beginSlot (g k : Nat) (n : Word) (e : TSlot) (s : State) : State :=
  let c := s.slot e.slot
  let wide := wideWindow e c.active
  let r := if e.type = 3 then showIngest e n s else (false, s)
  let s := r.2
  let overlaid := (s.slot e.slot).stale
  let empty := e.type == 3 && (s.slot e.slot).buffer == 0 && !overlaid
  let shown := if c.pending.isSome || wide || empty then policyShown c.active else .window
  let s := s.modSlot e.slot fun c =>
    { c with shown := shown, wide := wide, held := if wide then c.held else none, tooWide := if wide then satInc c.tooWide else c.tooWide,
             heldFrames := if e.type = 3 then c.heldFrames else if shown = .held then satInc c.heldFrames else 0,
             hadSurface := c.hadSurface || (shown == .window && (if e.type = 3 then c.buffer != 0 else c.active.surfaceHandle != 0xFFFF)),
             patchedLast := c.patchedNow, patchedNow := 0, budgetNow := false, glyphNow := false, notReady := false, takePending := false }
  let fill := match (tabGet s.svc.mosaics e.slot).shows with | .fill => e.type == 3 | _ => false
  let s := scaleFrame g k e s
  if (shown != .window || (e.type == 3 && r.1) || fill) && !(s.slot e.slot).dropped then
    (countNotReady e.slot (if fill && shown == .window then .filled else shown) s).modGroup g fun c => { c with nrLast := satInc c.nrLast, nrTotal := satInc c.nrTotal }
  else s

/-- R116: a slot uses a surface: its window in force or shown, its pending window, its pattern, or the shadow window of an accepted arm. -/
def State.slotUses (s : State) (g : Nat) (e : TSlot) (h : Nat) : Bool :=
  let c := s.slot e.slot
  let uses := fun (w : Llw) => w.visible && e.type != 2 && (w.surfaceHandle == h || (e.type == 1 && w.atlasHandle == h))
  uses c.active || uses c.shownWindow || (match c.pending with | some w => uses w | none => false) || ((s.group g).arm.isSome && uses c.shadow) ||
    (match (tabGet s.svc.mosaics e.slot).shows with | .pattern p => p == h | _ => false)

/-- R116, R248: surfaces that no slot uses any more are released, with an event where one was asked for. -/
def releaseSurfaces (g : Nat) (n : Word) (s : State) : State :=
  let idle := (s.seq.surfaces.filter fun x => x.2.inUse &&
    !(allGroups.any fun h => match s.grpTruss h with | some t => (t.groupSlots h).any fun e => s.slotUses h e x.1 | none => false)).map (·.1)
  idle.foldl (fun (s : State) h =>
    let x := s.surf h
    let s := s.modSurf h fun x => { x with inUse := false }
    if x.flags.getLsbD 2 then s.serviceEvent (· == x.owner) 0x0200 0 h ([BitVec.ofNat 8 g] ++ leBytes 4 n.toNat ++ zeros 3) else s) s

/-- R383: engines of the group's outputs that take strips start the frame `n`; a frame that has not ended does so now. -/
def startWritebacks (g : Nat) (t : Truss) (oldV oldJ : Nat) (n : Word) (s : State) : State :=
  let c := s.group g
  (t.outputs.zipIdx.filter fun o => o.1.group == g && o.1.wb != 0).foldl (fun (s : State) (o : TOutput × Nat) =>
    let e := o.1.wb - 1
    let s := s.modWb e fun w => { w with toldSkip := false, toldNone := false }
    if o.1.kind = 0 then s
    else
      let items := (t.itemsOf oldV).zipIdx.filter fun i => i.1.out == o.2 && i.1.frame == oldJ
      let overNow := items.all fun i => c.finished.contains i.2 || c.missed.contains i.2
      let s := if (s.wb e).busy && !(s.wb e).ended then (if overNow then s else wbMissing e s).modWb e fun w => { w with ended := true } else s
      if t.keepsOut c.variant o.2 then wbStart e n s else if (s.wb e).ended then wbReport e s else s) s

/-- R336, R337: the frame that ends is presented by the group's endpoints. -/
def presentGroup (g : Nat) (s : State) : State :=
  if !(s.group g).begun then s
  else (s.groupEndpoints g).foldl (fun (s : State) x => present x.1 (s.group g).n (x.2.1.output x.2.2).sliceCount s) s

/-- R331: an announced time that the period just fixed moves by more than a grain is announced again. -/
def reannounce (g : Nat) (s : State) : State :=
  (s.groupEndpoints g).foldl (fun (s : State) x =>
    let p := s.peer x.1
    let c := s.group g
    let far := grain < ((c.nextAt : Int) - p.annTime).natAbs
    if s.follows x.1 ∧ 0x11 ≤ p.version ∧ p.annFrame = c.n ∧ !p.ann.isEmpty ∧ far then
      sendAnnounce x.1 true (s.modPeer x.1 fun p => { p with annTime := c.nextAt })
    else s) s

/-- R52: once every group has passed its first sill and no fault of class 3 or 4 has been recorded, the start is declared successful. -/
def firstSill (g : Nat) (s : State) : State :=
  if !s.boot.firstSills.getLsbD g then s
  else
    let s := s.modBoot fun b => { b with firstSills := putBit b.firstSills g false }
    if s.boot.firstSills = 0 ∧ !s.boot.declared ∧ !s.boot.severeSince then
      (s.modBoot fun b => { b with declared := true, stage := if s.flt.safe then b.stage else 11, watchdogDue := 0 }).modBootMram fun b =>
        { b with selFail := 0, goldFail := 0 }
    else s

/-! ### The rows -/

/-- R203: a group's publish cutoff. -/
def execPublishCutoff (g : Fin 16) (s : State) : Host.Outcome State Fault Refusal :=
  if !s.grpRuns g || (s.group g).cutoffPassed || s.seqStopped then done s
  else done (passCutoff g (s.untilPlan ((s.group g).nextAt - s.cutoffNs g)))

/-- R213: the truss switch that group `g` makes at its next sill: a store slot, 16 to leave. -/
def State.switchDue (s : State) (g : Nat) : Option Nat :=
  (s.group g).switchTo.bind fun x => if x.2 ≤ (s.group g).nextAt then some x.1 else none

/-- R196, R213: hyperperiod and frame of the sill that comes, as the truss that then runs numbers it, with that truss's entry. -/
def State.sillNumber (s : State) (g : Nat) : Option (TGroup × Nat × Nat) :=
  let c := s.group g
  match s.switchDue g with
  | some k =>
    if k = 16 then (s.grpTruss g).bind fun t => (t.group g).map fun e => (e, c.nextHyper, c.nextJ)
    else
      let t := s.trussIn k
      (t.group g).map fun e =>
        if e.base = 1 then (e, 0, c.nextJ)
        else let x := s.gridNext t e (c.nextAt - framePeriod t.h e 0 / 2); (e, x.1, x.2)
  | none => (s.grpTruss g).bind fun t => (t.group g).map fun e => (e, c.nextHyper, c.nextJ)

/-- R202: steps 1 to 4 at the sill of frame `n` of a group that does not leave; answers what the report says of the arm. -/
def sillSteps (g : Nat) (parity : Bool) (n : Word) (s : State) : (Bool × Bool) × State :=
  let r := applyArm g parity s
  let s := applyOps g n r.2
  match s.switchDue g with
  | none => (r.1, applyVariant g s)
  | some k => (r.1, settleSwitch (takeTruss g k s))

/-- R131, R200, R208, R217: the sill report. -/
def sillReport (g : Nat) (arm : Bool × Bool) (s : State) : State :=
  let c := s.group g
  let flags := packBits [(0, 1, b2n arm.1), (1, 1, b2n arm.2), (2, 1, b2n (c.lateNow != 0)), (3, 1, b2n (c.nrLast != 0))]
  let s := (s.recordTo (fun f => s.hasGroup f g) 3 (BitVec.ofNat 16 g)
    (leBytes 4 c.n.toNat ++ [BitVec.ofNat 8 c.variant, BitVec.ofNat 8 flags] ++ leBytes 2 c.nrLast.toNat ++ leBytes 2 c.lateNow.toNat ++
      leBytes 4 c.patched.toNat ++ zeros 2)).pend (105 + g)
  s.modGroup g fun c => { c with lateNow := 0, patched := 0 }

/-- R196, R202: frame `n` of group `g` begins at its sill. -/
def beginGroup (g : Nat) (n : Word) (hyper j at' : Nat) (s : State) : State :=
  s.modGroup g fun c =>
    { c with n := n, hyper := hyper, j := j, sillAt := at', begun := true, cutoffPassed := false, announced := false, copyDue := true, nrLast := 0,
             missLast := c.missNow, missNow := 0, issued := [], finished := [], missed := [],
             reference := if c.begun then c.reference else at' }

/-- R213, R217: the sill of frame `n` at which group `g` leaves: steps 1 and 2, its report, and what it leaves behind. -/
def leaveAtSill (g : Nat) (parity : Bool) (n : Word) (s : State) : State :=
  let r := applyArm g parity s
  let s := (applyOps g n r.2).modGroup g fun c => { c with n := n, nrLast := 0 }
  let s := (sillReport g r.1 s).count 405
  snapSill g (releaseSurfaces g n (settleSwitch (leaveTruss g s)))

/-- R196–R208: what follows the steps of a sill in a group that goes on: frame `n` begins, its slots take what they show, and the sill is reported. -/
def openFrame (g : Nat) (far : Bool) (n : Word) (hyper j at' : Nat) (arm : Bool × Bool) (was : GroupSt) (e : TGroup) (t : Truss) (s : State) : State :=
  let s := startWritebacks g t was.variant was.j n s
  let s := beginGroup g n hyper j at' s
  let s := if was.begun || e.base != 1 then s else s.modGroup g fun c => { c with reference := c.sillAt - sillGrain t.h e j * grain }
  let s := if far && e.base == 0 && t.hasHead g then s.modClk fun c => { c with realigning := putBit c.realigning g true } else s
  let s := (placeNext g far s).count 405
  let s := (t.groupSlots g).foldl (fun (s : State) x => beginSlot g ((s.group g).store - 1) n x s) s
  let s := releaseSurfaces g n (sillReport g arm s)
  let s := s.modAdt fun a => { a with stats := (List.range 12).map fun i => s.eventTotal (224 + i) % 65536 }
  snapSill g (s.modSeq fun q => { q with scalerRom := 0 })

/-- R192–R208, R217, R218: the sill of group `g`, issued `how.off` grains from its instant; one more than 1 grain off is a fault, after which the group is
placed on its grid again. -/
def execSill (g : Fin 16) (how : SillIn) (s : State) : Host.Outcome State Fault Refusal :=
  let c := s.group g
  if (!s.grpRuns g && (s.switchDue g).isNone) || s.seqStopped then done s
  else
    match s.sillNumber g with
    | none => done s
    | some (e, hyper, j) =>
      let at' := ((c.nextAt : Int) + grain * how.off.toInt).toNat
      let far := decide (1 < how.off.toInt.natAbs)
      let s := if s.grpRuns g && !c.cutoffPassed then passCutoff g (s.untilPlan (c.nextAt - s.cutoffNs g)) else s
      let s := presentGroup g (s.untilPlan at')
      let s := if far then s.faultOpen 138 else s
      let n := frameNumber e hyper j
      if s.flt.safe then done s
      else if s.switchDue g = some 16 then done (firstSill g (leaveAtSill g how.parity n s))
      else
        let maps := s.bulletinMaps g
        let r := sillSteps g how.parity n s
        match r.2.grpTruss g with
        | none => done r.2
        | some t => done (firstSill g (relayBulletin g maps (reannounce g (openFrame g far n hyper j at' r.1 c e t r.2))))

/-- R202: a slot's shadow window takes the values in force, or those of its pending window. -/
def refillSlot (e : TSlot) (s : State) : State :=
  s.modSlot e.slot fun c => { c with shadow := c.pending.getD c.active, unpublished := false, writes := [] }

/-- R202: an output's shadow colour state takes the values in force. -/
def State.refillColour (key : Nat) (s : State) : State :=
  s.modSeq fun q => { q with colourShadow := tabSet q.colourShadow key (tabGet q.colour key), colourDirty := tabErase q.colourDirty key }

/-- R202: the shadow set takes the values in force, except that a pending window keeps its pending values. -/
def refillShadow (g : Nat) (s : State) : State :=
  match s.grpTruss g with
  | none => s
  | some t =>
    let k := (s.group g).store - 1
    let s := (t.groupSlots g).foldl (fun (s : State) e => refillSlot e s) s
    (t.outputs.zipIdx.filter fun o => o.1.group == g).foldl (fun (s : State) (o : TOutput × Nat) =>
      let s := s.refillColour (65536 * k + o.2)
      if o.1.kind = 0 then s.modHead o.1.unit fun h => { h with shadow := none, shadowBy := 0 } else s) s

/-- R202, R203, R389: 8 grains after the sill a copy is complete, the lock ends, and the group's request line asserts. -/
def execSillCopyDone (g : Fin 16) (s : State) : Host.Outcome State Fault Refusal :=
  if !(s.group g).copyDue then done s
  else
    let s := s.untilPlan ((s.group g).sillAt + 8 * grain)
    let s := if (s.group g).copying then refillShadow g s else s
    done ((s.modGroup g fun c => { c with copying := false, copyDue := false }).assertLine (4 + g))

/-- R79, R216: a read of SILL_NEXT_LO latches the upper half. -/
def execSillNextLoRead (fn g : Fin 16) (s : State) : Host.Outcome State Fault Refusal :=
  if !s.barOpen fn then done s else
  let s := s.bar0
  if !s.hasGroup fn g then done ((s.denied fn).emit (.readData fn 0 false))
  else
    let at' := if s.grpRuns g then (s.group g).nextAt else 0
    done ((s.modClk fun c => { c with sillNextLatch := tabSet c.sillNextLatch (16 * fn + g) (at' / 2 ^ 32 + 1) }).emit (.readData fn (at' % 2 ^ 32) false))

end Sys2Proof.Machine
end

