-- ==== Sys2Proof/Machine/Items.lean ====
section
/-! DEFINITION. Work items on the lanes: issue, start, completion and deadline (R191, R192, R209–R212, R237, R242, R300, R333, R381). -/

namespace Sys2Proof.Machine

/-- R237: entries of an item keep only what still has to arrive: it has completed or been abandoned. -/
def releaseItem (g item : Nat) (n : Word) (s : State) : State :=
  sweepIssues (s.modSeq fun q => { q with issues := q.issues.map fun x =>
    if x.group = g ∧ x.item = item ∧ x.n = n then { x with closed := true, reads := x.reads.filter fun r => r.state == .issued } else x })

/-- R237, R242: at its start an item takes what has landed: reads that wait are given up, and later data is discarded. -/
def closeItem (g item : Nat) (n : Word) (s : State) : State :=
  let mine := fun (x : Issue) => (x.group == g && x.item == item && x.n == n && !x.dropped)
  let late := (s.seq.issues.filter mine).any (fun x => x.reads.any (fun r => r.state == .waiting && r.forStaging))
  let shut := fun (x : Issue) =>
    if mine x then { x with closed := true, reads := x.reads.filter fun r => r.state != .waiting && r.state != .missing } else x
  let s := sweepIssues (s.modSeq fun q => { q with issues := q.issues.map shut })
  if late then s.faultOpen 144 else s

/-- R242, R270: a lane starts an item: it composes the strip from what has landed. -/
def startRun (lane : Nat) (r : Run) (s : State) : State :=
  let t := s.trussIn r.store
  let i := (t.itemsOf r.variant).getD r.item default
  let x := s.compose r.group r.store r.item t i r.n
  let s := x.2.2.modLane lane fun l => { l with run := some { r with strip := x.1, patched := x.2.1 } }
  pumpReads (closeItem r.group r.item r.n s)

/-- R192: an item may not run where its lane or scaler is fenced. -/
def State.laneFenced (s : State) (k : Nat) : Bool := s.fenced k || s.fenced (16 + k)

/-- R191: item `item` of group `g`, when it is one of the frame that runs. -/
def State.frameItem (s : State) (g item : Nat) : Option (Truss × TItem) :=
  let c := s.group g
  (s.grpTruss g).bind fun t =>
    ((t.itemsOf c.variant)[item]?).bind fun i => if c.begun && i.frame == c.j && t.itemGroup i == g then some (t, i) else none

/-- R191: an item that stands before `item` in the section and falls due at the same instant has not been issued. -/
def State.earlierDue (s : State) (g item : Nat) (t : Truss) (i : TItem) : Bool :=
  let c := s.group g
  ((t.itemsOf c.variant).take item).zipIdx.any fun x =>
    let h := t.itemGroup x.1
    let d := s.group h
    d.store == c.store && t.real d.variant == t.real c.variant && d.begun && x.1.frame == d.j && !d.issued.contains x.2 && !d.missed.contains x.2 &&
      s.instant h t x.1.start == s.instant g t i.start

/-- R191: an instant lies at most 8 ns back. -/
def State.inTime (s : State) (at' : Nat) : Bool := decide (s.clk.plan ≤ at' + 8)

/-- R192: an item that waits still belongs to the frame that runs. -/
def State.runStands (s : State) (r : Run) : Bool :=
  let c := s.group r.group
  c.begun && c.n == r.n && c.store == r.store + 1 && !c.missed.contains r.item

/-- R212: an item that joins a lane waits there for an item of another group in another variant, or for one that itself waited so. -/
def LaneSt.contends (l : LaneSt) (r : Run) : Bool :=
  (l.run.toList ++ l.queue).any fun x => x.contended || (x.group != r.group && x.store == r.store && x.variant != r.variant)

/-- R192: a lane that is free starts the first item that still waits for it. -/
def startNext (lane : Nat) (s : State) : State :=
  if (s.lane lane).run.isSome then s
  else
    match (s.lane lane).queue.dropWhile fun r => !s.runStands r with
    | [] => s.modLane lane fun l => { l with queue := [] }
    | r :: rest => startRun lane r (s.modLane lane fun l => { l with queue := rest })

/-- R191, R192, R218: an item is issued at its start grain, in section order and within 8 ns, and starts once its lane is free. `bad` tells that
its entry, or a fetch entry of it, reads with a parity error. -/
def execItemIssue (g : Fin 16) (item : Nat) (bad : Bool) (s : State) : Host.Outcome State Fault Refusal :=
  match s.frameItem g item with
  | none => done s
  | some (t, i) =>
    let c := s.group g
    if s.flt.safe || s.boot.phase != .running || c.issued.contains item || c.missed.contains item || s.earlierDue g item t i ||
      !s.inTime (s.instant g t i.start) then done s
    else
      let s := (s.untilPlan (s.instant g t i.start)).modGroup g fun c => { c with issued := item :: c.issued }
      if s.planGated then done (s.modGroup g fun c => { c with finished := item :: c.finished })
      else if bad then done (s.faultOpen 137)
      else if s.laneFenced i.lane then done s
      else
        let r : Run := { group := g, item := item, n := c.n, variant := c.variant, store := c.store - 1 }
        let r := { r with contended := (s.lane i.lane).contends r }
        done (startNext i.lane ((s.count 384).modLane i.lane fun l => { l with queue := l.queue ++ [r] }))

/-- R192: a lane that is free starts the next item that waits for it. -/
def execLaneFreeStart (lane : Fin 16) (s : State) : Host.Outcome State Fault Refusal :=
  if s.flt.safe || s.planGated || s.laneFenced lane then done s else done (startNext lane s)

/-! ### Delivery -/

/-- The line of a strip at an index, one list per component. -/
def Strip.line (st : Strip) (y : Nat) : List (List Nat) := [st.a.getD y [], st.b.getD y [], st.c.getD y [], st.alpha.getD y []]

/-- R300, R311: a strip is committed to a head's strip FIFO, or discarded where the head takes none. -/
def commitStrip (h strip : Nat) (n : Word) (st : Strip) (s : State) : State :=
  if s.headDiscards h then (s.modHead h fun x => { x with discarded := x.discarded + 1 }).count (288 + 4 * h + 2)
  else
    s.modHead h fun x =>
      { x with bufs := tabSet x.bufs (strip % 4) { committed := true, strip := strip, n := n, lines := st },
               delivered := if st.a.isEmpty then x.delivered else st.line (st.a.length - 1) }

/-- R381: a strip goes to the engine of its output, when that engine writes this frame. -/
def wbDeliver (o : TOutput) (strip : Nat) (n : Word) (st : Strip) (s : State) : State :=
  if o.wb = 0 ∨ o.kind = 0 ∨ (s.wb (o.wb - 1)).frameN ≠ n then s else wbStrip (o.wb - 1) o.enc (strip * o.strip) st s

/-- R300, R333, R381: a strip that is complete goes to its output. -/
def deliver (t : Truss) (i : TItem) (r : Run) (s : State) : State :=
  let o := t.output i.out
  if o.kind = 0 then commitStrip o.unit i.strip r.n r.strip s
  else
    let s := if o.kind = 1 then encodeRow r.group t i r.n r.strip r.patched s else s
    wbDeliver o i.strip r.n r.strip s

/-- R293, R300: the item that a lane runs completes. -/
def execItemComplete (lane : Fin 16) (s : State) : Host.Outcome State Fault Refusal :=
  match (s.lane lane).run with
  | none => done s
  | some r =>
    let t := s.trussIn r.store
    let i := (t.itemsOf r.variant).getD r.item default
    let stands := s.runStands r && !s.flt.safe && !s.laneFenced lane
    let s := releaseItem r.group r.item r.n (s.modLane lane fun l => { l with run := none })
    if !stands then done (pumpReads s)
    else
      let s := ((s.countUnits lane 1024 i.tokens).count (16 + lane)).modGroup r.group fun c => { c with finished := r.item :: c.finished }
      done (pumpReads (deliver t i r s))

/-! ### Deadlines -/

/-- R209: the first lines of a strip, the rest repeating the line last delivered. -/
def shortStrip (st : Strip) (lines height : Nat) (last : List (List Nat)) : Strip :=
  let pad := fun (p : List (List Nat)) (k : Nat) =>
    let have' := p.take lines
    have' ++ List.replicate (height - have'.length) (if lines = 0 then last.getD k [] else have'.getLastD (last.getD k []))
  { a := pad st.a 0, b := pad st.b 1, c := pad st.c 2, alpha := pad st.alpha 3 }

/-- R209, R210: what becomes of the output of an item past its deadline: `st` is its strip so far, of which `lines` lines are complete. -/
def missOutput (g : Nat) (t : Truss) (i : TItem) (st : Strip) (lines : Nat) (s : State) : State :=
  let o := t.output i.out
  let n := (s.group g).n
  if o.kind = 0 then
    let height := min o.strip (o.height - i.strip * o.strip)
    let lines := min lines (min height st.a.length)
    (commitStrip o.unit i.strip n (shortStrip st lines height (s.head o.unit).delivered) (s.count 385)).countN 387 (height - lines)
  else
    let s := s.count 386
    let s := if o.kind = 1 then (markDirty o.unit ((List.range o.perRow).map fun c => i.strip * o.perRow + c) s).countN 230 o.perRow else s
    if o.wb = 0 ∨ (s.wb (o.wb - 1)).frameN ≠ n then s else wbMissing (o.wb - 1) s

/-- R192, R209–R212: an item has not completed at its deadline; `lines` of its lines are complete. -/
def execItemDeadline (g : Fin 16) (item : Nat) (lines : Byte) (s : State) : Host.Outcome State Fault Refusal :=
  match s.frameItem g item with
  | none => done s
  | some (t, i) =>
    let c := s.group g
    if s.flt.safe || s.boot.phase != .running || c.finished.contains item || c.missed.contains item || (s.planGated && !c.issued.contains item) then done s
    else
      let s := s.untilPlan (s.instant g t i.deadline)
      let l := s.lane i.lane
      let mine := fun (r : Run) => r.group == g.val && r.item == item && r.n == c.n
      let runs := match l.run with | some r => mine r | none => false
      let contended := (l.run.toList ++ l.queue).any fun r => mine r && r.contended
      let st := match l.run with | some r => if mine r then r.strip else {} | none => {}
      let s := s.modLane i.lane fun l => { l with run := if runs then none else l.run, queue := l.queue.filter fun r => !mine r }
      let s := releaseItem g item c.n s
      let s := s.modGroup g fun c => { c with missed := item :: c.missed, missNow := satInc c.missNow, missTotal := satInc c.missTotal }
      let s := missOutput g t i st (if runs then lines.toNat else 0) s
      let s := if c.missed.isEmpty then s.faultOpen 135 else s
      done (pumpReads (if contended then (s.count 404).faultOpen 139 else s))

end Sys2Proof.Machine
end

