-- ==== Sys2Proof/Machine/Pace.lean ====
section
/-! DEFINITION. Pace monitors, the adaptive-voltage loop, the regulator and the pace commands (R81–R93). -/

namespace Sys2Proof.Machine

/-- Monitor `i`. -/
def State.mon (s : State) (i : Nat) : PaceMon := tabGet s.pace.mons i

/-- Changes monitor `i`. -/
def State.modMon (i : Nat) (f : PaceMon → PaceMon) (s : State) : State := s.modPace fun p => { p with mons := tabMod p.mons i f }

/-- R85: monitor `i` counts in the minimums: healthy, or replaced by its healthy partner lane. -/
def State.monHealthy (s : State) (i : Nat) : Bool := !(s.mon i).failed

/-- R85: monitors that have failed. -/
def State.monsFailed (s : State) : Nat := ((List.range 24).filter fun i => (s.mon i).failed).length

/-- R516: detail of a pace fault: its code, and the monitor's margin as a signed 16-bit value. -/
def paceDetail (code : Nat) (margin : Int) : Word := BitVec.ofNat 32 (code + 65536 * signedField 16 margin)

/-- R84: the margin of a count. -/
def paceMargin (i count : Nat) : Int :=
  let f : Int := max 1 (Config.floorCount i)
  max (-2048) (min 2047 ((((count : Int) - f) * 1024).tdiv f))

/-- R86: a new target replaces a pending one; interrupt 449 when it reaches vmax. -/
def paceTarget (mv : Nat) (s : State) : State :=
  if s.pace.openLoop then s
  else
    let now := if s.pace.wanted = 0 then s.pace.target else s.pace.wanted - 1
    let s := s.modPace fun p => { p with wanted := mv + 1 }
    if mv = s.pace.cfg.vmax ∧ now ≠ mv then s.pend 449 else s

/-- R86: V, the target last set. -/
def State.volts (s : State) : Nat := if s.pace.wanted = 0 then s.pace.target else s.pace.wanted - 1

/-- R36, R87: a transaction goes out to the core regulator at its address, at the bus rate, with PEC. -/
def busOut (cmd data : Nat) (s : State) : State :=
  s.emit (.pmbus s.boot.board.regAddr.toNat (if s.boot.board.pmbusRate = 0 then 400 else 100) cmd data)

/-- R86, R87: starts the next transaction when the bus is free: a command repeated after an error, the latest target, then what waits. -/
def pumpBus (s : State) : State :=
  match s.pace.bus with
  | some _ => s
  | none =>
    let next := fun (t : PmTrans) (rest : List PmTrans) => busOut t.cmd t.data (s.modPace fun p => { p with bus := some t, busQueue := rest })
    let target := fun (mv : Nat) => busOut 0x21 mv (s.modPace fun p => { p with wanted := 0, target := mv, bus := some { cmd := 0x21, data := mv } })
    match s.pace.busQueue with
    | [] => if s.pace.wanted ≠ 0 ∧ !s.pace.openLoop then target (s.pace.wanted - 1) else s
    | t :: rest => if !t.again ∧ s.pace.wanted ≠ 0 ∧ !s.pace.openLoop then target (s.pace.wanted - 1) else next t rest

/-- R87: queues a transaction. -/
def busSend (cmd data : Nat) (s : State) : State :=
  pumpBus (s.modPace fun p => { p with busQueue := p.busQueue ++ [{ cmd := cmd, data := data }] })

/-- R87: enters open-loop mode (detail 2), retried every 10 s; no VOUT_COMMAND that waits is sent any more. -/
def openLoop (s : State) : State :=
  let s := (s.fault 183 2).pend 452
  s.modPace fun p =>
    { p with openLoop := true, modeOk := false, wanted := 0, settling := 0, lastBad := false, retryAt := s.now + secNs 10,
             busQueue := p.busQueue.filter fun t => t.cmd != 0x21 }

/-- R87: a regulator error: the command is repeated once, and a second error in a row opens the loop. An alert whose STATUS_WORD cannot be read is
recorded all the same; what its detail carries is open (log 10). -/
def regulatorError (t : Option PmTrans) (s : State) : State :=
  let s := s.modPace fun p => { p with regErrors := satInc p.regErrors }
  let s := if t.any (fun t => t.cmd = 0x79) ∧ (s.pace.openLoop ∨ s.pace.lastBad) then
      let d := s.draw
      d.2.fault 183 (BitVec.ofNat 32 (3 + 65536 * (d.1 % 65536)))
    else s
  if s.pace.openLoop then (s.fault 183 1).pend 452
  else if s.pace.lastBad then openLoop s
  else
    let s := (s.fault 183 1).pend 452
    let s := s.modPace fun p => { p with lastBad := true }
    match t with
    | some t => s.modPace fun p => { p with busQueue := { t with again := true } :: p.busQueue }
    | none => s

/-- R86: a window below alarm raises the target by 20 mV. -/
def windowRaise (s : State) : State :=
  let mv := min (s.volts + 20) s.pace.cfg.vmax
  let s := s.modPace fun p => { p with raisedAt := s.now, fastRaises := satInc p.fastRaises }
  pumpBus (paceTarget mv s)

/-- R85: monitor `i` is declared failed; more than two failed hold the loop at vmax. -/
def monitorFail (i : Nat) (s : State) : State :=
  if (s.mon i).failed then s
  else
    let s := s.modMon i fun m => { m with failed := true, low := none }
    let s := (s.fault (71 + i) (paceDetail 1 (s.mon i).margin)).pend 454
    if 2 < s.monsFailed then pumpBus (paceTarget s.pace.cfg.vmax (s.modPace fun p => { p with held := true })) else s

/-- R90: follows how long every healthy monitor has held margin at or above lo. -/
def goodRun (s : State) : State :=
  let good := (List.range 24).all fun i => !s.monHealthy i || decide ((s.pace.cfg.lo : Int) ≤ (s.mon i).margin)
  s.modPace fun p => { p with goodSince := if good then (if p.goodSince = 0 then s.now + 1 else p.goodSince) else 0 }

/-- R88: the escalation condition holds. The 32 windows may have begun before the target reached vmax or the loop was opened (DESIGN CHOICE, log 19). -/
def State.escalating (s : State) : Bool :=
  (s.pace.openLoop || s.pace.target == s.pace.cfg.vmax) &&
    (List.range 24).any fun i => s.monHealthy i && decide (32 ≤ (s.mon i).below)

/-- R89: margin of the reduced-pace floor of the running truss. -/
def State.reducedFloor (s : State) : Int := match s.running with | some t => (t.pf : Int) - 1024 | none => -256

/-- R89: some group runs a variant at the reduced pace. -/
def State.runsReduced (s : State) : Bool :=
  allGroups.any fun g => match s.grpTruss g with | some t => t.reduced (s.group g).variant | none => false

/-- R84, R85, R86, R89: the end of monitor `i`'s window. A window of a failed monitor is told as any other (447, 448), and moves the target no more. -/
def execPaceWindow (i : Fin 24) (count : Nat) (s : State) : Host.Outcome State Fault Refusal :=
  let s := s.untilAon (s.mon i).nextAt
  let s := s.modMon i fun m => { m with nextAt := s.now + 10240 }
  if (s.pll 9).gated || s.boot.phase != .running then done s
  else
    let m := paceMargin i count
    let reduced := s.runsReduced
    let lowest := fun (w : Option Int) => some (match w with | some w => min w m | none => m)
    let s := s.modMon i fun c =>
      { c with margin := m, worst := lowest c.worst, low := lowest c.low, alarm := decide (m < s.pace.cfg.alarm),
               below := if m < s.pace.cfg.alarm then c.below + 1 else 0, breach := if reduced ∧ m < s.reducedFloor then c.breach + 1 else 0 }
    let s := if m < s.pace.cfg.alarm then s.pend 447 else s
    let s := if m < 0 then (s.modPace fun p => { p with breaches := satInc p.breaches }).pend 448 else s
    let s := if count = 0 ∨ m = 2047 then monitorFail i s else s
    if !s.monHealthy i then done (goodRun s)
    else
      let s := if m < s.pace.cfg.alarm then windowRaise s else s
      let s := if s.escalating then s else s.modPace fun p => { p with escalated := false }
      done (goodRun s)

/-- R86: the loop once the lowest margin of the period is known. A raise that vmax or open-loop mode holds back, and a lowering that vmin does, are
counted all the same (DESIGN CHOICE, log 19). -/
def loopStep (m : Int) (s : State) : State :=
  let c := s.pace.cfg
  if m < c.lo then
    let s := s.modPace fun p => { p with raisedAt := s.now, above := 0, raises := satInc p.raises }
    paceTarget (min (s.volts + c.stepUp) c.vmax) s
  else if (c.hi : Int) < m then
    let s := s.modPace fun p => { p with above := p.above + 1 }
    if 16 ≤ s.pace.above ∧ s.pace.raisedAt + msNs 100 ≤ s.now ∧ s.boot.declared ∧ !s.pace.held ∧ !s.pace.openLoop then
      let s := s.modPace fun p => { p with above := 0, lowers := satInc p.lowers }
      paceTarget (max (s.volts - c.stepDown) c.vmin) s
    else s
  else s.modPace fun p => { p with above := 0 }

/-- R85, R86: the lowest margin of the loop period among the healthy monitors, and its monitor. -/
def State.lowestOfPeriod (s : State) : Option (Int × Nat) :=
  ((List.range 24).filter s.monHealthy).foldl (fun b i =>
    match b, (s.mon i).low with
    | some l, some m => if m < l.1 then some (m, i) else some l
    | none, some m => some (m, i)
    | b, none => b) none

/-- R86, R91, R93: the end of a loop period; settings written since take effect here. -/
def execAvsLoopPeriod (tj : Int) (s : State) : Host.Outcome State Fault Refusal :=
  if s.boot.phase != .running then done s else
  let s := s.untilAon s.pace.loopAt
  let code := BitVec.ofNat 8 (max 0 (min 255 (tj + 64))).toNat
  let s := (s.modPace fun p => { p with cfg := s.paceMram, tj := code }).modBoot fun b => { b with tj := tj }
  let s := s.modPace fun p => { p with loopAt := s.now + msNs (max 1 p.cfg.period) }
  if (s.pll 9).gated then done s
  else
    let s := if s.pace.held ∧ s.volts ≠ s.pace.cfg.vmax then paceTarget s.pace.cfg.vmax s else s
    match s.lowestOfPeriod with
    | none => done (pumpBus s)
    | some l =>
      let s := s.modPace fun p => { p with mons := tabMap (fun _ m => { m with low := none }) p.mons, minMargin := l.1, minMon := l.2 }
      done (pumpBus (loopStep l.1 s))

/-- R88: the monitor with the lowest margin among the healthy. -/
def State.lowestMon (s : State) : Nat :=
  ((List.range 24).filter s.monHealthy).foldl (fun b i => if (s.mon i).margin < (s.mon b).margin then i else b)
    (((List.range 24).find? s.monHealthy).getD 0)

/-- R88: escalation to reduced pace. One that comes while reduced pace is already required is counted and told again, as R88 says of every escalation. -/
def execPaceEscalate (s : State) : Host.Outcome State Fault Refusal :=
  if s.escalating && !s.pace.escalated then
    let i := s.lowestMon
    let s := s.modPace fun p => { p with escalated := true, awaitReturn := true, goodSince := 0, entries := satInc p.entries, reducedSeen := true }
    done (chooseVariants ((s.fault (71 + i) (paceDetail 2 (s.mon i).margin)).pend 450))
  else done s

/-- R89: 32 windows below the reduced-pace floor while the reduced variant runs. -/
def execPaceReducedFloorBreach (i : Fin 24) (s : State) : Host.Outcome State Fault Refusal :=
  if s.runsReduced && s.monHealthy i && decide (32 ≤ (s.mon i).breach) then
    done ((s.modMon i fun m => { m with breach := 0 }).fault (71 + i) (paceDetail 3 (s.mon i).margin))
  else done s

/-- R90: the return condition is met. -/
def execPaceReturn (s : State) : Host.Outcome State Fault Refusal :=
  if s.pace.awaitReturn && s.pace.goodSince != 0 then
    let s := s.untilAon (s.pace.goodSince - 1 + secNs 10)
    done (chooseVariants (s.modPace fun p => { p with awaitReturn := false }))
  else done s

/-- R87: READ_VOUT has answered: settled within 10 mV of the target, or polled again. In open-loop mode it closes the loop once VOUT_MODE has
answered linear; a loop held at vmax commands it then (R85). -/
def voutRead (mv : Nat) (s : State) : State :=
  let near := decide (mv ≤ s.pace.target + 10) && decide (s.pace.target ≤ mv + 10)
  let closes := s.pace.openLoop && s.pace.modeOk
  let s := s.modPace fun p =>
    { p with read := mv, openLoop := p.openLoop && !closes, settling := if near then 0 else p.settling, lastBad := if near then false else p.lastBad }
  let s := if closes && s.pace.held then paceTarget s.pace.cfg.vmax s else s
  s.modPace fun p => { p with voutAt := s.now + (if p.settling = 0 then msNs 100 else usNs 200) }

/-- R87: a transaction completes with data. One that is free of error ends a run of errors, but for a VOUT_COMMAND and while a target is settling. -/
def busAnswer (t : PmTrans) (v : Nat) (s : State) : State :=
  let s := if t.cmd = 0x21 ∨ t.cmd = 0x8B ∨ s.pace.settling ≠ 0 then s else s.modPace fun p => { p with lastBad := false }
  if t.cmd = 0x21 then s.modPace fun p => { p with settling := s.now + 1, voutAt := s.now + usNs 200 }
  else if t.cmd = 0x8B then voutRead v s
  else if t.cmd = 0x8C then s.modPace fun p => { p with iout := BitVec.ofNat 16 v }
  else if t.cmd = 0x20 then
    if v / 32 % 8 = 0 then busSend 0x8B 0 (s.modPace fun p => { p with modeOk := true }) else if s.pace.openLoop then s else openLoop s
  else if t.cmd = 0x79 then busSend 0x03 0 (s.fault 183 (BitVec.ofNat 32 (3 + 65536 * (v % 65536))))
  else s

/-- R87: the transaction on the bus ends, with its answer, or without acknowledgement or with a bad PEC. -/
def execPmbusTransactionDone (ok : Bool) (value : Half) (s : State) : Host.Outcome State Fault Refusal :=
  match s.pace.bus with
  | none => done s
  | some t =>
    let s := s.modPace fun p => { p with bus := none }
    done (pumpBus (if ok then busAnswer t value.toNat s else regulatorError (some t) s))

/-- R87: the READ_VOUT poll; none in open-loop mode. -/
def execReadVoutPoll (s : State) : Host.Outcome State Fault Refusal :=
  if s.pace.openLoop || s.boot.phase != .running then done s
  else
    let s := s.untilAon s.pace.voutAt
    done (busSend 0x8B 0 (s.modPace fun p => { p with voutAt := s.now + (if p.settling = 0 then msNs 100 else usNs 200) }))

/-- R87: READ_VOUT is not within 10 mV of the target 1 ms after the command; the command is repeated. -/
def execRegulatorSettleTimeout (s : State) : Host.Outcome State Fault Refusal :=
  if s.pace.settling = 0 then done s
  else
    let s := s.untilAon (s.pace.settling - 1 + msNs 1)
    let s := s.modPace fun p => { p with settling := 0 }
    done (pumpBus (regulatorError (some { cmd := 0x21, data := s.pace.target }) s))

/-- R87: the READ_IOUT poll, in open-loop mode too. -/
def execReadIoutPoll (s : State) : Host.Outcome State Fault Refusal :=
  if s.boot.phase != .running then done s
  else
    let s := s.untilAon s.pace.ioutAt
    done (busSend 0x8C 0 (s.modPace fun p => { p with ioutAt := s.now + msNs 100 }))

/-- R87: the regulator is retried every 10 s in open-loop mode. -/
def execOpenLoopRetry (s : State) : Host.Outcome State Fault Refusal :=
  if s.pace.openLoop then
    let s := s.untilAon s.pace.retryAt
    done (busSend 0x20 0 (s.modPace fun p => { p with retryAt := s.now + secNs 10, modeOk := false }))
  else done s

/-- R87: PM_ALERT_N is asserted: STATUS_WORD is read, logged with detail 3, and the faults are cleared; it is not sensed before firmware runs (R18). -/
def execPmAlert (s : State) : Host.Outcome State Fault Refusal :=
  if s.boot.phase != .running then done s else done (busSend 0x79 0 (s.pend 453))

/-! ### Registers and commands -/

/-- R91: PACE_STATUS. -/
def State.paceStatus (s : State) : Nat :=
  let reduced := allGroups.any fun g => s.grpRuns g && (s.group g).variant == 1
  packBits [(0, 2, if s.pace.openLoop then 1 else if s.pace.held then 2 else 0), (2, 1, b2n reduced),
    (3, 1, b2n (s.pace.target == s.pace.cfg.vmax)), (4, 5, s.pace.minMon), (9, 12, signedField 12 s.pace.minMargin),
    (24, 8, s.pace.tj.toNat)]

/-- R91: the pace register at offset `o` of its block. -/
def State.paceReg (s : State) (o : Nat) : Nat :=
  let p := s.pace
  if o = 0 then s.paceStatus
  else if o = 4 then packBits [(0, 12, p.target), (16, 12, p.read)]
  else if o = 8 then p.iout.toNat
  else if o = 0xC then packBits [(0, 12, p.cfg.vmin), (16, 12, p.cfg.vmax)]
  else if o = 0x10 then packBits [(0, 10, p.cfg.lo), (10, 10, p.cfg.hi), (20, 10, p.cfg.alarm)]
  else if o = 0x14 then packBits [(0, 16, p.raises.toNat), (16, 16, p.lowers.toNat)]
  else if o = 0x18 then packBits [(0, 16, p.fastRaises.toNat), (16, 16, p.breaches.toNat)]
  else if o = 0x1C then packBits [(0, 16, p.entries.toNat), (16, 16, p.regErrors.toNat)]
  else if 0x40 ≤ o ∧ o < 0xA0 then
    let m := s.mon ((o - 0x40) / 4)
    packBits [(0, 12, signedField 12 m.margin), (12, 12, signedField 12 (m.worst.getD 0)), (24, 1, b2n m.failed), (25, 1, b2n m.alarm)]
  else 0

/-- R93: PACE_QUERY. -/
def execPaceQuery (c : KcpCtx) (s : State) : Host.Outcome State Fault Refusal :=
  kcp 0x0910 c (fun _ s =>
    replyOk s (([0, 4, 8, 0x14, 0x18, 0x1C].flatMap fun o => leBytes 4 (s.paceReg o)) ++
      leBytes 4 (((List.range 24).map fun i => b2n (s.mon i).failed * 2 ^ i).sum))) s

/-- R93: PACE_SET_BAND. -/
def execPaceSetBand (c : KcpCtx) (lo hi alarm : Half) (s : State) : Host.Outcome State Fault Refusal :=
  kcp 0x0911 c (fun _ s =>
    if hi.toNat ≤ lo.toNat then badParam 0 s
    else if 1023 < hi.toNat ∨ hi.toNat - lo.toNat < 51 then badParam 2 s
    else if alarm = 0 ∨ lo.toNat ≤ alarm.toNat then badParam 4 s
    else replyOk { s with paceMram := { s.paceMram with lo := lo.toNat, hi := hi.toNat, alarm := alarm.toNat } }) s

/-- R93: a step of the loop, 5–20 mV in steps of 5. -/
def stepBad (b : Byte) : Bool := decide (b.toNat < 5) || decide (20 < b.toNat) || b.toNat % 5 != 0

/-- R93: PACE_SET_LIMITS. -/
def execPaceSetLimits (c : KcpCtx) (vmin vmax : Half) (up down period : Byte) (s : State) : Host.Outcome State Fault Refusal :=
  kcp 0x0912 c (fun _ s =>
    if vmin.toNat < 720 ∨ vmax.toNat < vmin.toNat + 20 then badParam 0 s
    else if 860 < vmax.toNat then badParam 2 s
    else if stepBad up then badParam 4 s
    else if stepBad down then badParam 5 s
    else if period = 0 ∨ 100 < period.toNat then badParam 6 s
    else replyOk { s with paceMram := { s.paceMram with vmin := vmin.toNat, vmax := vmax.toNat, stepUp := up.toNat,
                                                        stepDown := down.toNat, period := period.toNat } }) s

/-- R93: PACE_CLEAR. -/
def execPaceClear (c : KcpCtx) (s : State) : Host.Outcome State Fault Refusal :=
  kcp 0x0913 c (fun _ s =>
    replyOk (s.modPace fun p =>
      { p with mons := (List.range 24).foldl (fun t i => tabMod t i fun m => { m with worst := none }) p.mons, raises := 0, lowers := 0,
               fastRaises := 0, breaches := 0, entries := 0, regErrors := 0 })) s

/-- R93, R90: PACE_FORCE_REDUCED; leave is refused while R88's escalation condition holds. -/
def execPaceForceReduced (c : KcpCtx) (enter : Byte) (s : State) : Host.Outcome State Fault Refusal :=
  kcp 0x0914 c (fun _ s =>
    if 1 < enter.toNat then badParam 0 s
    else if enter = 1 then
      replyOk (chooseVariants (s.modPace fun p => { p with forced := true }))
    else if s.escalating then refuse .state 0 s
    else replyOk (chooseVariants (s.modPace fun p => { p with forced := false }))) s

end Sys2Proof.Machine
end

