-- ==== Sys2Proof/Machine/Session.lean ====
section
/-! DEFINITION. KCP sessions, grants and the maintenance settings (R153–R164). -/

namespace Sys2Proof.Machine

/-! ### Sessions -/

/-- R153: what becomes of the command taken when its session ends: one that has begun goes on without a response, any other lapses. -/
def Taken.ended (t : Taken) : Option Taken := if t.begun then some { t with lapsed := true } else none

/-- R153: the session on a mailbox ends. -/
def closeMbx (f n : Nat) (s : State) : State :=
  if (s.mbx f n).session.isSome then
    s.modMbx f n fun m => { m with session := none, taken := m.taken.bind Taken.ended, busy := (m.taken.bind Taken.ended).isSome }
  else s

/-- R161: a UDP session ends and its entry is free. -/
def closeUdp (k : Nat) (s : State) : State := s.modHost fun h => { h with udp := tabSet h.udp k {} }

/-- The UDP sessions in use that `p` names end. -/
def closeUdpIf (p : UdpSess → Bool) (s : State) : State :=
  (List.range 8).foldl (fun s k => if (s.udp k).inUse && p (s.udp k) then closeUdp k s else s) s

/-- R42, R133: every session of every function ends, UDP sessions too. -/
def closeAllSessions (s : State) : State :=
  closeUdpIf (fun _ => true) (allFns.foldl (fun s f => (List.range 4).foldl (fun s n => closeMbx f n s) s) s)

/-- R134: the sessions of one function end, and the UDP sessions whose key carries its role. -/
def closeFnSessions (f : Nat) (s : State) : State :=
  closeUdpIf (fun u => u.role == f) ((List.range 4).foldl (fun s n => closeMbx f n s) s)

/-- R153: the versions supported, highest first. -/
def kcpVersions : List Nat := [0x32, 0x31, 0x30, 0x22, 0x21, 0x20]

/-- R153: the version chosen for a host's range. -/
def kcpChoose (lo hi : Nat) : Option Nat := kcpVersions.find? fun v => decide (lo ≤ v) && decide (v ≤ hi)

/-- R155: firmware version bytes: major, minor, patch. -/
def State.fwBytes (s : State) : List Byte := leBytes 3 s.boot.fwVersion.toNat

/-- R155: the command groups a function is granted, bit k for group k. -/
def State.cmdGroupMask (s : State) (f : Nat) : Nat := if f = 0 then 0x0FFE else (s.fn f).cmdGroups.toNat % 4096 / 2 * 2

/-- The path's number as SESS_OPEN and SESS_INFO report it (R155). -/
def viaByte (c : KcpCtx) : Byte := match c.via with | .mailbox n => BitVec.ofNat 8 n.val | .udp _ => 0xFF

/-- R155: the sessions a function has open. -/
def State.sessionsOf (s : State) (f : Nat) : Nat :=
  ((List.range 4).filter fun n => (s.mbx f n).session.isSome).length +
    ((List.range 8).filter fun k => (s.udp k).inUse && (s.udp k).opened && (s.udp k).role == f).length

/-- R153, R155: the session that SESS_OPEN opens. -/
def newSession (v : Nat) (handle : Word) (s : State) : Session :=
  { version := BitVec.ofNat 8 v, handle := handle, expected := 1, openedAt := s.planTime }

/-- R153, R155: SESS_OPEN's own part. -/
def sessOpen (c : KcpCtx) (lo hi mask : Nat) (f : Nat) (s : State) : Reply :=
  if hi < lo then badParam 0 s
  else if overUdp c ∧ hi < 0x31 then refuse .version 0x3220 s
  else
    match kcpChoose lo hi with
    | none => refuse .version 0x3220 s
    | some v =>
      match c.via with
      | .mailbox n =>
        let h := s.drawHandle
        let s := h.2.modMbx f n fun m => { m with session := some (newSession v h.1 s) }
        replyOk s ([BitVec.ofNat 8 v, 0x20, 0x32, viaByte c] ++ leBytes 4 h.1.toNat ++ [BitVec.ofNat 8 f, 0] ++
          leBytes 2 (s.cmdGroupMask f) ++ s.fwBytes ++ [0] ++ leBytes 8 s.clk.plan)
      | .udp k =>
        let h := (s.udp k).session.handle
        let s := s.modUdp k fun u =>
          { u with opened := true, session := newSession v h s, deadline := s.now + secNs 30, eventMask := BitVec.ofNat 10 mask, stored := [] }
        replyOk s ([BitVec.ofNat 8 v, 0x20, 0x32, viaByte c] ++ leBytes 4 h.toNat ++ [BitVec.ofNat 8 f, 0] ++
          leBytes 2 (s.cmdGroupMask f) ++ s.fwBytes ++ [0] ++ leBytes 8 s.clk.plan)

/-- R153, R155: 0x0000. The client name has no effect. -/
def execSessOpen (c : KcpCtx) (hostMin hostMax : Byte) (_client : List Byte) (mask : Half) (s : State) :
    Host.Outcome State Fault Refusal :=
  kcp 0x0000 c (sessOpen c hostMin.toNat hostMax.toNat mask.toNat) s

/-- R155: 0x0001; its response is the last written for the session. -/
def execSessClose (c : KcpCtx) (s : State) : Host.Outcome State Fault Refusal :=
  kcp 0x0001 c (fun f s =>
    match c.via with
    | .mailbox n => replyOk (s.modMbx f n fun m => { m with session := none })
    | .udp k => replyOk (s.modUdp k fun u => { u with opened := false, inUse := false })) s

/-- R155: what SESS_INFO returns. -/
def sessInfo (c : KcpCtx) (f : Nat) (s : State) : List Byte :=
  let x := (s.kcpSession c).getD {}
  [x.version, viaByte c, 0, 0] ++ leBytes 4 x.handle.toNat ++ leBytes 4 x.answered.toNat ++ leBytes 4 x.refusals.toNat ++
    leBytes 2 (x.expected + 1).toNat ++ [BitVec.ofNat 8 (s.sessionsOf f), 0] ++ leBytes 8 x.openedAt.toNat

/-- R155: 0x0002. -/
def execSessInfo (c : KcpCtx) (s : State) : Host.Outcome State Fault Refusal :=
  kcp 0x0002 c (fun f s => replyOk s (sessInfo c f s)) s

/-- R155: 0x0003, the parameter bytes copied. -/
def execSessNop (c : KcpCtx) (bytes : List Byte) (s : State) : Host.Outcome State Fault Refusal :=
  kcp 0x0003 c (fun _ s => replyOk s (fitBytes c.len.toNat bytes)) s

/-! ### Grants -/

/-- R144: the length of a grant's value. -/
def grantLen (kind op : Nat) : Nat :=
  if op = 0 then
    match kind with
    | 0 => 4 | 1 => 2 | 2 => 14 | 3 => 1 | 4 => 4 | 5 => 4 | 6 => 4 | 7 => 1 | 8 => 2 | _ => 0
  else 0

/-- R156: indices a kind has. -/
def grantIndices (kind : Nat) : Nat := match kind with | 0 => 8 | 2 => 4 | 6 => 16 | _ => 1

/-- R156: every 16 GiB of an aperture range lies in one port's pinned window or in the spread window. -/
def State.apertureMapped (s : State) (a units : Nat) : Bool :=
  (List.range units).all fun i => s.memMapped (a + i * 16 * gib) (16 * gib)

/-- R156: where a grant's value is out of its space, as a parameter offset. -/
def grantBad (kind : Nat) (v : List Byte) (s : State) : Option Nat :=
  let a := leNat (v.take 2)
  let b := leNat ((v.drop 2).take 2)
  match kind with
  | 0 => if 8191 < a then some 4 else if 8192 < a + b then some 6 else none
  | 2 =>
    let addr := leNat ((v.drop 4).take 8)
    let n := leNat ((v.drop 12).take 2)
    if addr % (16 * gib) ≠ 0 then some 8
    else if n = 0 ∨ 384 < n then some 16
    else if s.apertureMapped addr n then none else some 8
  | 3 => if 1 < leNat (v.take 1) then some 4 else none
  | 6 => if a < 1 ∨ 639 < a then some 4 else if b < a ∨ 639 < b then some 6 else none
  | 7 => if 1 < leNat (v.take 1) then some 4 else none
  | _ => none

/-- R156: the function with one grant set, or withdrawn when the value is none. -/
def putGrant (kind index : Nat) (v : Option (List Byte)) (x : FnSt) : FnSt :=
  let bs := v.getD (zeros 14)
  let range := fun (first extent : Nat) => if v.isSome then { valid := true, first := first, extent := extent : GrantRange } else {}
  let lo := leNat (bs.take 2)
  let hi := leNat ((bs.drop 2).take 2)
  match kind with
  | 0 => { x with slots := tabSet x.slots index (range lo hi) }
  | 1 => { x with groups := BitVec.ofNat 16 lo }
  | 2 => { x with apertures := tabSet x.apertures index (range (leNat ((bs.drop 4).take 8)) (leNat ((bs.drop 12).take 2))) }
  | 3 => { x with hostMem := leNat (bs.take 1) == 1 }
  | 4 => { x with dma := BitVec.ofNat 32 (leNat (bs.take 4)) }
  | 5 => { x with counters := BitVec.ofNat 32 (leNat (bs.take 4)) }
  | 6 => { x with irqs := tabSet x.irqs index (range lo hi) }
  | 7 => { x with fltRead := leNat (bs.take 1) == 1 }
  | _ => { x with cmdGroups := BitVec.ofNat 16 (lo % 4096 / 2 * 2) }

/-- R156: an aperture segment (device address) lies in a remaining range. -/
def apertureCovers (t : Tab GrantRange) (a : Nat) : Bool :=
  t.any fun e => e.2.valid && decide (e.2.first ≤ a) && decide (a + 16 * gib ≤ e.2.first + e.2.extent * 16 * gib)

/-- R156, R428: what a narrower grant takes with it: aperture segments that no remaining range covers, and
membership of the target sets of sources no longer covered, at the next round. -/
def grantTrim (f : Nat) (s : State) : State :=
  let s := s.modFn f fun x => { x with segs := tabKeep (fun _ v => apertureCovers x.apertures ((v - 1) * 16 * gib)) x.segs }
  (s.intc.src.filter fun e => e.2.host.targets.getLsbD f && !s.hasIrq f e.1).foldl (fun s e => s.intQueue (.drop e.1 f)) s

/-- R156: the bytes a grant reads as, from its value's first byte. -/
def grantBytes (kind index : Nat) (x : FnSt) : List Byte :=
  let two := fun (r : GrantRange) => leBytes 2 r.first ++ leBytes 2 r.extent
  match kind with
  | 0 => two (tabGet x.slots index)
  | 1 => leBytes 2 x.groups.toNat
  | 2 => zeros 4 ++ leBytes 8 (tabGet x.apertures index).first ++ leBytes 2 (tabGet x.apertures index).extent
  | 3 => [BitVec.ofNat 8 (b2n x.hostMem)]
  | 4 => leBytes 4 x.dma.toNat
  | 5 => leBytes 4 x.counters.toNat
  | 6 => two (tabGet x.irqs index)
  | 7 => [BitVec.ofNat 8 (b2n x.fltRead)]
  | _ => leBytes 2 x.cmdGroups.toNat

/-- R155: what SESS_GRANT_QUERY reports of function 0 at index 0. -/
def grantPf (kind : Nat) : List Byte :=
  match kind with
  | 0 => leBytes 2 0 ++ leBytes 2 8192
  | 1 => leBytes 2 0xFFFF
  | 2 => zeros 4 ++ leBytes 8 0 ++ leBytes 2 384
  | 3 => [1]
  | 4 => leBytes 4 0xFFFFFFFF
  | 5 => leBytes 4 0xFFFFFFFF
  | 6 => leBytes 2 1 ++ leBytes 2 639
  | 7 => [1]
  | _ => leBytes 2 0x0FFE

/-- R155: 0x0006. A virtual function that names another is refused with BAD_PARAM (log 14). -/
def execSessGrantQuery (c : KcpCtx) (fn kind index : Byte) (s : State) : Host.Outcome State Fault Refusal :=
  kcp 0x0006 c (fun f s =>
    let g := fn.toNat
    if 15 < g ∨ (f ≠ 0 ∧ g ≠ f) then badParam 0 s
    else if 8 < kind.toNat then badParam 1 s
    else
      let bs := if g = 0 then (if index = 0 then grantPf kind.toNat else [])
                else if grantIndices kind.toNat ≤ index.toNat then []
                else grantBytes kind.toNat index.toNat (s.fn g)
      replyOk s (fitBytes 24 bs)) s

/-! ### Maintenance -/

/-- R41, R158: 0x0B00; the reset begins no earlier than 100 µs after the response. -/
def execMntReset (c : KcpCtx) (kind : Byte) (confirm : Word) (s : State) : Host.Outcome State Fault Refusal :=
  kcp 0x0B00 c (fun _ s =>
    if kind ≠ 0 then badParam 0 s
    else if confirm ≠ 0x4B525354 then badParam 4 s
    else replyOk (s.modHost fun h => { h with kcpResetDue := s.now + usNs 100 + 1 })) s

/-- R159: an item's length; none for an item that does not exist. -/
def cfgLen (item : Nat) : Option Nat :=
  match item with | 0 => some 1 | 1 => some 1 | 2 => some 1 | 3 => some 2 | 4 => some 4 | _ => none

/-- R144: the variable part of MNT_CFG_SET's length: the item's length, where the length field gives it. -/
def cfgExtra (item length : Nat) : Nat := if cfgLen item = some length then length else 0

/-- R159: an item's value. -/
def cfgValue (b : BoardCfg) (item : Nat) : Nat :=
  match item with
  | 0 => b.refFreq.toNat | 1 => b.pmbusRate.toNat | 2 => b.regAddr.toNat | 3 => b.bands.toNat | _ => b.subsystem.toNat

/-- R159: an item set. -/
def cfgPut (b : BoardCfg) (item v : Nat) : BoardCfg :=
  match item with
  | 0 => { b with refFreq := BitVec.ofNat 8 v }
  | 1 => { b with pmbusRate := BitVec.ofNat 8 v }
  | 2 => { b with regAddr := BitVec.ofNat 8 v }
  | 3 => { b with bands := BitVec.ofNat 16 v }
  | _ => { b with subsystem := BitVec.ofNat 32 v }

/-- R159: REFCLK frequency of a code, kHz. -/
def refKhzOf (code : Nat) : Nat := match code with | 0 => 25000 | 1 => 50000 | _ => 100000

/-- R159: the value is accepted for the item, apart from the measurement of item 0. -/
def cfgAccepts (item v : Nat) : Bool :=
  match item with
  | 0 => decide (v ≤ 2)
  | 1 => decide (v ≤ 1)
  | 2 => decide (0x08 ≤ v) && decide (v ≤ 0x77)
  | 3 => bitOf 8 v && bitOf 9 v && decide (v < 1024)
  | _ => true

/-- R158: 0x0B02. -/
def execMntCfgGet (c : KcpCtx) (item : Half) (s : State) : Host.Outcome State Fault Refusal :=
  kcp 0x0B02 c (fun _ s =>
    match cfgLen item.toNat with
    | none => badParam 0 s
    | some n =>
      replyOk s (leBytes 2 item.toNat ++ [BitVec.ofNat 8 n, 0] ++ leBytes 16 (cfgValue s.bootMram.board item.toNat) ++
        leBytes 16 (cfgValue s.boot.board item.toNat))) s

/-- R159: 0x0B03; held in MRAM for the next cold start. `refKhz` is REFCLK as it measures now. -/
def execMntCfgSet (c : KcpCtx) (item : Half) (length : Byte) (value : List Byte) (refKhz : Nat) (s : State) :
    Host.Outcome State Fault Refusal :=
  kcpRun 0x0B03 (cfgExtra item.toNat length.toNat) false c (fun _ s =>
    let v := leNat (value.take length.toNat)
    if overUdp c then refuse .denied 0 s
    else
      match cfgLen item.toNat with
      | none => badParam 0 s
      | some n =>
        if length.toNat ≠ n then badParam 2 s
        else if !cfgAccepts item.toNat v then badParam 4 s
        else if item = 0 ∧ (100 * refKhz < 99 * refKhzOf v ∨ 101 * refKhzOf v < 100 * refKhz) then refuse .state 0 s
        else replyOk (s.modBootMram fun m => { m with board := cfgPut m.board item.toNat v })) s

/-- R162: 0x0B04; a change of address, port or VLAN, or enable 0, closes every UDP session. -/
def execMntSetNetmgmt (c : KcpCtx) (enable ports ipVersion : Byte) (port vlan : Half) (pcp prefixLen : Byte)
    (address : BitVec 128) (s : State) : Host.Outcome State Fault Refusal :=
  kcp 0x0B04 c (fun _ s =>
    let port' := if port = 0 then 56411 else port
    if 1 < enable.toNat then badParam 0 s
    else if 15 < ports.toNat then badParam 1 s
    else if ipVersion ≠ 4 ∧ ipVersion ≠ 6 then badParam 2 s
    else if 4094 < vlan.toNat then badParam 6 s
    else if 7 < pcp.toNat then badParam 8 s
    else if (if ipVersion = 4 then 32 else 128) < prefixLen.toNat then badParam 9 s
    else
      let o := s.netMgmt
      let n : NetMgmt := { enable := enable == 1, ports := ports, ipVersion := ipVersion, port := port', vlan := vlan, pcp := pcp,
                           prefixLen := prefixLen, address := address }
      let s := { s with netMgmt := n }
      if !n.enable || n.address != o.address || n.port != o.port || n.vlan != o.vlan || n.ipVersion != o.ipVersion then
        replyOk (closeUdpIf (fun _ => true) s)
      else replyOk s) s

/-- R164: 0x0B05; installing over a slot or erasing it closes the UDP sessions that use it. -/
def execMntNetkey (c : KcpCtx) (slot op role : Byte) (key : List Byte) (s : State) : Host.Outcome State Fault Refusal :=
  kcp 0x0B05 c (fun _ s =>
    let k := slot.toNat
    let version := match s.kcpSession c with | some x => x.version.toNat | none => 0
    if overUdp c then refuse .denied 0 s
    else if 7 < k then badParam 0 s
    else if 1 < op.toNat then badParam 1 s
    else if 15 < role.toNat ∨ (version < 0x32 ∧ role ≠ 0) then badParam 2 s
    else
      let new : NetKey := if op = 0 then { present := true, role := role.toNat, key := fitBytes 32 key } else {}
      replyOk (closeUdpIf (fun u => u.keySlot == k) { s with netKeys := tabSet s.netKeys k new })) s

/-! ### KCP over UDP -/

/-- R162: firmware answers KCP over UDP: enabled, and at least one key slot holds a key. -/
def State.udpOn (s : State) : Bool := s.boot.phase == .running && s.netMgmt.enable && s.netKeys.any fun e => e.2.present

/-- R163: a source address is being ignored. -/
def State.udpIgnored (s : State) (peer : Nat) : Bool := decide (s.now + 1 < (tabGet s.host.udpPeers peer).ignoredUntil)

/-- R163: a datagram is dropped without a response; 16 drops within 1 s ignore its address for 10 s. -/
def udpDrop (peer : Nat) (s : State) : State :=
  let drops := s.now :: (tabGet s.host.udpPeers peer).drops.filter fun x => decide (s.now < x + secNs 1)
  let p : UdpPeer := if 16 ≤ drops.length then { ignoredUntil := s.now + secNs 10 + 1 } else { drops := drops }
  s.modHost fun h => { h with udpDrops := satInc h.udpDrops, udpPeers := tabSet h.udpPeers peer p }

/-- R160: the fields of a received datagram. -/
structure KcpDgram where
  /-- R160: magic, framing version and lengths are as R160 gives -/
  framed : Bool
  /-- R160: kind -/
  kind : Nat
  /-- R160: encrypted -/
  secret : Bool
  /-- R160: key slot -/
  slot : Nat
  /-- R160: session handle -/
  handle : Word
  /-- R160: counter -/
  counter : Long
  /-- R160: body, deciphered -/
  body : List Byte
  deriving DecidableEq, Repr

/-- R160: a datagram as its header and body read. -/
def readDgram (a : UdpIn) : KcpDgram :=
  let num := fun (at' n : Nat) => beNat ((a.bytes.drop at').take n)
  let kind := num 3 1 % 128
  let size := if kind < 2 then 64 else 32
  let secret := bitOf 7 (num 3 1)
  { framed := num 0 2 == 0x4B43 && num 2 1 == 1 && num 20 2 == size && a.bytes.length == 24 + size + 16, kind := kind, secret := secret,
    slot := num 4 2, handle := BitVec.ofNat 32 (num 8 4), counter := BitVec.ofNat 64 (num 12 8),
    body := fitBytes size (if secret then a.plain else a.bytes.drop 24) }

/-- R162: the address that the GM8 answers KCP at; of an IPv4 one the first four bytes count. -/
def NetMgmt.at (n : NetMgmt) : Nat := if n.ipVersion = 4 then n.address.toNat % 2 ^ 32 else n.address.toNat

/-- R162: the datagram reaches the address, the UDP port and one of the Ethernet ports that KCP is answered at. -/
def State.kcpHears (s : State) (a : UdpIn) : Bool :=
  s.udpOn && bitOf a.port s.netMgmt.ports.toNat && a.dport == s.netMgmt.port && a.dst.toNat == s.netMgmt.at

/-- R353, R357, R373: the frame's length on the wire. -/
def State.kcpWire (s : State) (a : UdpIn) : Nat := s.mgmtWire a.port a.bytes.length

/-- R162, R163, R353: a UDP datagram arrives; `go` takes it when it is one for KCP from an address that is not ignored. -/
def kcpArrives (a : UdpIn) (go : State → Host.Outcome State Fault Refusal) (s : State) : Host.Outcome State Fault Refusal :=
  if !s.portUp a.port then done s
  else if !s.portCarries a.port || !s.kcpHears a then done (s.rxDiscard a.port (s.kcpWire a))
  else
    let s := s.rxFrame a.port (s.kcpWire a)
    if s.udpIgnored a.src.toNat then done s else go s

/-- R161: the session key of a handshake. -/
def sessionKey (key : List Byte) (peerNonce deviceNonce : List Byte) (handle : Word) : Nat :=
  (Config.kmac256 key (peerNonce ++ deviceNonce ++ beBytes 4 handle.toNat)).toNat

/-- R161: a hello is accepted: session entry `k` is provisional, and the challenge goes out under the management key. -/
def helloTaken (k : Nat) (a : UdpIn) (d : KcpDgram) (s : State) : State :=
  let key := tabGet s.netKeys d.slot
  let nonce := s.draw
  let device := beBytes 16 nonce.1
  let h := nonce.2.drawHandle
  let u : UdpSess :=
    { inUse := true, keySlot := d.slot, role := key.role, session := { handle := h.1 }, peer := a.src.toNat, udpPort := a.sport.toNat,
      eth := a.port, key := sessionKey key.key (d.body.take 16) device h.1, deadline := s.now + secNs 2 }
  (h.2.modHost fun x => { x with udp := tabSet x.udp k u }).sendKcp a.port a.src.toNat a.sport.toNat
    (sealDgram (beNat key.key) 4 false d.slot h.1 0 (device ++ beBytes 4 h.1.toNat ++ zeros 12))

/-- R160: the body of an encrypted hello as the management key of its slot deciphers it. -/
def State.helloPlain (s : State) (bytes : List Byte) : List Byte :=
  (List.range 32).map (Config.gcmByte (beNat (tabGet s.netKeys (beNat ((bytes.drop 4).take 2))).key) 0 (fitBytes 32 (bytes.drop 24)))

/-- R160, R161, R163: a hello; ignored when all 8 sessions are in use. -/
def execKcpUdpHello (port : Fin 4) (ends : UdpEnds) (bytes : List Byte) (tagOk : Bool) (s : State) : Host.Outcome State Fault Refusal :=
  let a : UdpIn := { toUdpEnds := ends, port := port, bytes := bytes, tagOk := tagOk, plain := s.helloPlain bytes }
  kcpArrives a (fun s =>
    let d := readDgram a
    if !d.framed || d.kind != 3 || !a.tagOk || 7 < d.slot || !(tabGet s.netKeys d.slot).present || d.counter != 0 then
      done (udpDrop a.src.toNat s)
    else
      let s := s.learn a.port a.src.toNat a.mac.toNat
      match (List.range 8).find? fun k => !(s.udp k).inUse with
      | none => done s
      | some k => done (helloTaken k a d s)) s

/-- R160, R161: the session that a datagram's handle and key slot name. -/
def State.dgramSession (s : State) (d : KcpDgram) : Option Nat :=
  (List.range 8).find? fun k => (s.udp k).inUse && (s.udp k).session.handle == d.handle && (s.udp k).keySlot == d.slot

/-- R161, R163: the counter is higher than the highest accepted; the first on a provisional handle is 1. -/
def UdpSess.countsUp (u : UdpSess) (counter : Long) : Bool := decide (u.rxCounter < counter) && (u.opened || counter == 1)

/-- R163: a command datagram is accepted: its counter becomes the highest, an open session stays open for 30 s more, and the peer is at its source. -/
def dgramAccepted (k : Nat) (a : UdpIn) (d : KcpDgram) (s : State) : State :=
  (s.learn a.port a.src.toNat a.mac.toNat).modUdp k fun u =>
    { u with rxCounter := d.counter, peer := a.src.toNat, udpPort := a.sport.toNat, eth := a.port, secret := d.secret,
             deadline := if u.opened then s.now + secNs 30 else u.deadline }

/-- R163: the entry of an accepted datagram waits for its turn. -/
def dgramWaits (k : Nat) (d : KcpDgram) (s : State) : State :=
  let t : Taken := { entry := readEntry true d.body, order := s.host.taken, secret := d.secret }
  (s.modUdp k fun u => { u with waiting := u.waiting ++ [t] }).modHost fun h => { h with taken := h.taken + 1 }

/-- R160, R161, R163: a command datagram. A repeat of a sequence number answered has its stored response sent again; any other entry waits, and its
own command follows and gives its response (log 6). -/
def execKcpUdpCommand (port : Fin 4) (ends : UdpEnds) (bytes : List Byte) (tagOk : Bool) (plain : List Byte) (s : State) :
    Host.Outcome State Fault Refusal :=
  let a : UdpIn := { toUdpEnds := ends, port := port, bytes := bytes, tagOk := tagOk, plain := plain }
  kcpArrives a (fun s =>
    let d := readDgram a
    match s.dgramSession d with
    | none => done (udpDrop a.src.toNat s)
    | some k =>
      if !d.framed || d.kind != 0 || !a.tagOk || !(s.udp k).countsUp d.counter then done (udpDrop a.src.toNat s)
      else
        let s := dgramAccepted k a d s
        match (s.udp k).stored.find? fun r => r.seq == (readEntry true d.body).seq with
        | some r => done (udpResend k d.secret r s)
        | none => kcpUnknown 0 (.udp (Fin.ofNat 8 k)) (dgramWaits k d s)) s

/-- R161: a provisional handle lapses after 2 s without a valid SESS_OPEN. -/
def execKcpUdpHandleLapse (k : Fin 8) (s : State) : Host.Outcome State Fault Refusal :=
  let u := s.udp k
  if u.inUse && !u.opened then done (closeUdp k (s.untilAon u.deadline)) else done s

/-- R163: a session ends after 30 s with no accepted datagram. -/
def execKcpUdpSessionIdle (k : Fin 8) (s : State) : Host.Outcome State Fault Refusal :=
  let u := s.udp k
  if u.inUse && u.opened then done (closeUdp k (s.untilAon u.deadline)) else done s

/-- R163: an ignored source address is accepted again after 10 s. -/
def execKcpUdpIgnoreEnd (peer : Nat) (s : State) : Host.Outcome State Fault Refusal :=
  let p := tabGet s.host.udpPeers peer
  if p.ignoredUntil = 0 then done s
  else
    let s := s.untilAon (p.ignoredUntil - 1)
    done (s.modHost fun h => { h with udpPeers := tabSet h.udpPeers peer {} })

end Sys2Proof.Machine
end

