-- ==== Sys2Proof/Machine/Mailbox.lean ====
section
/-! DEFINITION. Mailboxes and their doorbells, KCP over UDP, grants, and the status and maintenance queries (R136–R163). -/

namespace Sys2Proof.Machine

/-! ### Mailboxes -/

/-- R138: the doorbell of mailbox `n` of function `f` takes effect: the entries up to `prod` become available, or it is ignored. -/
def mbxBell (f n : Nat) (prod : BitVec 17) (s : State) : State :=
  let m := s.mbx f n
  if m.size < (prod - m.cmdCons).toNat then
    (s.modMbx f n fun m => { m with cmdProd := m.avail, badDoorbell := true, ignored := satInc m.ignored }).count 213
  else
    let s := s.modMbx f n fun m => { m with cmdProd := prod, avail := prod }
    if prod = m.cmdCons then s else s.pend (41 + 4 * f + n)

/-- R138: a doorbell; one that arrives while enable is 0 is kept. -/
def mbxRing (f n : Nat) (value : Word) (s : State) : State :=
  let prod := BitVec.ofNat 17 value.toNat
  if (s.mbx f n).enable then mbxBell f n prod s else s.modMbx f n fun m => { m with cmdProd := prod }

/-- R112, R138: a write of MBXn_CMD_PROD; it waits for the function's earlier BAR4 writes. -/
def execMbxDoorbell (fn : Fin 16) (n : Fin 4) (value : Word) (s : State) : Host.Outcome State Fault Refusal :=
  if !s.barOpen fn then done s
  else
    let s := s.bar0
    if (s.fn fn).inFlight.isEmpty then done (mbxRing fn n value s)
    else done (s.modFn fn fun x => { x with heldBells := x.heldBells ++ [(n.val, value)] })

/-- R137, R519: the size field of a running mailbox keeps its value, and the refusal is counted. -/
def mbxSize (f n : Nat) (size : BitVec 4) (s : State) : State :=
  let m := s.mbx f n
  if !m.enable then s.modMbx f n fun m => { m with log2Size := size }
  else if size = m.log2Size then s
  else (s.modMbx f n fun m => { m with refused := true }).count 395

/-- R137–R139: the enable field: set again, it lets a stopped mailbox run and acts on a doorbell kept. -/
def mbxEnable (f n : Nat) (on : Bool) (s : State) : State :=
  let m := s.mbx f n
  if on = m.enable then s
  else if !on then s.modMbx f n fun m => { m with enable := false, stopped := false }
  else
    let s := s.modMbx f n fun m => { m with enable := true, stopped := false }
    if m.cmdProd = m.avail then s else mbxBell f n m.cmdProd s

/-- R137: a write of MBXn_CFG. -/
def execMbxCfgWrite (fn : Fin 16) (n : Fin 4) (value : Word) (s : State) : Host.Outcome State Fault Refusal :=
  if !s.barOpen fn then done s
  else done (mbxEnable fn n (value.getLsbD 0) (mbxSize fn n (BitVec.ofNat 4 (value.toNat / 2)) s.bar0))

/-- R136, R139: a write of MBXn_RSP_CONS. -/
def execMbxRspConsWrite (fn : Fin 16) (n : Fin 4) (value : Word) (s : State) : Host.Outcome State Fault Refusal :=
  if !s.barOpen fn then done s
  else done (s.bar0.modMbx fn n fun m => { m with rspCons := BitVec.ofNat 17 value.toNat })

/-- R139: the mailbox may take a command: enabled, not stopped, none taken, an entry available and a response slot free. -/
def Mbx.takes (m : Mbx) : Bool :=
  m.enable && !m.stopped && m.taken.isNone && m.cmdCons != m.avail && m.rspSpace

/-- R139, R141: the next entry of a mailbox is read; `entry` is the 64 bytes that host memory holds there, none when the read ends in an error. The
entry's own command follows and gives its response (log 6). -/
def execMbxTakeCommand (fn : Fin 16) (n : Fin 4) (entry : Option (List Byte)) (s : State) : Host.Outcome State Fault Refusal :=
  let m := s.mbx fn n
  if !s.hasFn fn || s.boot.phase != .running then done s
  else if !m.takes then kcpUnknown fn (.mailbox n) s
  else
    let failed := fun (s : State) => s.modMbx fn n fun m => { m with fetchError := true, stopped := true }
    if !s.fnReach fn then done (failed s)
    else
      let s := s.hostRead (m.cmdBase.toNat + 64 * (m.cmdCons.toNat % m.size)) 64 false ⟨16, 69, fn⟩
      match entry with
      | none => done (failed s)
      | some bytes =>
        let t : Taken := { entry := readEntry false bytes, order := s.host.taken }
        kcpUnknown fn (.mailbox n) (((s.modMbx fn n fun m => { m with cmdCons := m.cmdCons + 1, busy := true, taken := some t }).modHost
          fun h => { h with taken := h.taken + 1 }).count 197)

/-! ### Grants -/

/-- R123: the groups whose grant changes take it at their next sill, a group of no running truss at once. -/
def grantGroups (f : Nat) (s : State) : State :=
  allGroups.foldl (fun (s : State) g =>
    let x := s.fn f
    if x.groups.getLsbD g == x.groupsInForce.getLsbD g then s
    else if s.grpRuns g then s.deferAt g 0 f (.grant f)
    else s.modFn f fun x => { x with groupsInForce := putBit x.groupsInForce g (x.groups.getLsbD g) }) s

/-- R474: a filtered counter whose grant is withdrawn is set to off and keeps its value. -/
def grantCounters (was now : Word) (s : State) : State :=
  (setBits (was &&& ~~~now)).foldl (fun (s : State) k =>
    s.modPmu fun p => { p with fc := tabMod p.fc k fun x => { x with next := some { x.set with mode := 0 } } }) s

/-- R156: SESS_GRANT's own part. -/
def sessGrant (fn kind index op : Nat) (value : List Byte) (s : State) : Reply :=
  if fn < 1 ∨ 15 < fn then badParam 0 s
  else if 8 < kind then badParam 1 s
  else if grantIndices kind ≤ index then badParam 2 s
  else if 1 < op then badParam 3 s
  else
    match (if op = 0 then grantBad kind value s else none) with
    | some off => badParam off s
    | none =>
      let was := (s.fn fn).counters
      let s := s.modFn fn (putGrant kind index (if op = 0 then some value else none))
      let s := if kind = 1 then grantGroups fn s else s
      let s := if kind = 5 then grantCounters was (s.fn fn).counters s else s
      replyOk (grantTrim fn s)

/-- R156: 0x0005. -/
def execSessGrant (c : KcpCtx) (fn kind index op : Byte) (value : List Byte) (s : State) : Host.Outcome State Fault Refusal :=
  kcpRun 0x0005 (grantLen kind.toNat op.toNat) true c (fun _ s => sessGrant fn.toNat kind.toNat index.toNat op.toNat value s) s

/-! ### Views of units and peers -/

/-- The fault source of a unit of kind 0–7 (R456). -/
def viewSource (kind index : Nat) : Nat :=
  match kind with
  | 0 => index | 1 => 16 + index | 2 => 32 + index | 3 => 40 + index | 4 => 48 + index | 5 => 52 + index | 6 => 57 + index | _ => 71

/-- R344: the peer is in session and a valid datagram has arrived from it within 4 × tHB. -/
def State.peerLive (s : State) (k : Nat) : Bool :=
  let p := s.peer k
  p.inSession && decide (s.now ≤ p.lastValid + 4 * msNs p.heartbeat)

/-- R455, R456: the hardware view: 0 in service, 1 fenced or not live, 2 locked. -/
def State.hwView (s : State) (kind index : Nat) : Nat :=
  if kind = 8 then 1 - b2n (s.peerLive index)
  else if kind = 9 then 1 - b2n (s.peerLive (1024 + index))
  else
    let x := viewSource kind index
    if s.fltLocked x then 2 else b2n (s.fenced x)

/-- R455: a peer is live in firmware's view in session state 1, 2, 4 or 5. -/
def Peer.liveView (p : Peer) : Bool := p.state == 1 || p.state == 2 || p.state == 4 || p.state == 5

/-- R455, R456: the firmware view. -/
def State.swView (s : State) (kind index : Nat) : Nat :=
  if kind = 8 then 1 - b2n (s.peer index).liveView
  else if kind = 9 then 1 - b2n (s.peer (1024 + index)).liveView
  else tabGet s.flt.fwView (65536 * kind + index)

/-- A bit for each of `n` units of a kind that a view finds out of service. -/
def viewMask (view : Nat → Nat → Nat) (kind n : Nat) : Nat :=
  ((List.range n).filter fun i => view kind i != 0).foldl (fun m i => m + 2 ^ i) 0

/-- R157: heads that scan, and heads that firmware takes to scan. -/
def State.headsScanning (s : State) (firmware : Bool) : Nat :=
  ((List.range 8).filter fun h =>
    let scans := (s.head h).scanning
    if firmware then (s.swView 2 h == 0) && (scans || s.fenced (32 + h)) else scans).foldl (fun m h => m + 2 ^ h) 0

/-- R157: how many peers `p` finds among those from key `lo` on, below `hi`. -/
def State.countPeers (s : State) (lo hi : Nat) (p : Nat → Bool) : Nat :=
  (s.adt.peers.filter fun e => decide (lo ≤ e.1) && decide (e.1 < hi) && p e.1).length

/-- The identifier of the running truss, as its header carries it. -/
def State.runningId (s : State) : Nat := match s.running with | some t => t.id | none => 0

/-- R157: groups with an accepted arm not yet copied. -/
def State.armedGroups (s : State) : Nat :=
  (allGroups.filter fun g => (s.group g).arm.isSome || (s.group g).copying).foldl (fun m g => m + 2 ^ g) 0

/-- R157: what SESS_STATUS reports. -/
def State.sessStatus (s : State) : List Byte :=
  let hw := viewMask s.hwView
  let sw := viewMask s.swView
  let flags := packBits [(0, 1, b2n s.disagree), (1, 1, b2n s.flt.safe), (2, 1, bitsOf 2 1 s.paceStatus), (3, 1, b2n (s.sessionsOf 0 == 0))]
  let live := fun k => s.peerLive k
  let view := fun k => (s.peer k).liveView
  [BitVec.ofNat 8 flags, s.boot.stage.zeroExtend 8] ++ leBytes 2 s.armedGroups ++
    leBytes 2 (hw 0 16) ++ leBytes 2 (sw 0 16) ++ leBytes 2 (hw 1 16) ++ leBytes 2 (sw 1 16) ++
    [BitVec.ofNat 8 (hw 5 4 + 16 * hw 6 4), BitVec.ofNat 8 (sw 5 4 + 16 * sw 6 4), BitVec.ofNat 8 (hw 3 8), BitVec.ofNat 8 (sw 3 8),
     BitVec.ofNat 8 (hw 4 4 + 16 * sw 4 4), BitVec.ofNat 8 (s.headsScanning false), BitVec.ofNat 8 (s.headsScanning true), 0] ++
    leBytes 2 (s.countPeers 0 1024 live) ++ leBytes 2 (s.countPeers 0 1024 view) ++
    leBytes 2 (s.countPeers 1024 2048 live) ++ leBytes 2 (s.countPeers 1024 2048 view) ++
    leBytes 8 s.runningId ++ leBytes 4 s.flt.disagreeEvents.toNat ++ leBytes 8 s.clk.plan

/-- R157: 0x0004. -/
def execSessStatus (c : KcpCtx) (s : State) : Host.Outcome State Fault Refusal :=
  kcp 0x0004 c (fun _ s => replyOk s s.sessStatus) s

/-! ### Identity and start registers -/

/-- R30: ID_STRAP. -/
def State.idStrap (s : State) : Nat :=
  packBits [(0, 2, s.boot.strap.toNat), (2, 1, b2n s.boot.strapBad), (3, 1, b2n s.boot.sampledNow), (8, 8, 1), (16, 1, b2n s.boot.gradeT)]

/-- R58: ID_BOOT_STATUS. -/
def State.idBootStatus (s : State) : Nat :=
  let b := s.boot
  packBits [(0, 4, b.stage.toNat), (4, 2, b.image.toNat), (6, 2, s.bootMram.selFail.toNat), (8, 2, s.bootMram.goldFail.toNat),
    (10, 1, b2n b.warm), (11, 1, b2n b.bistRun), (12, 1, b2n b.tokenHit), (13, 1, b2n b.calReused), (14, 1, b2n b.trussResumed),
    (15, 1, b2n b.memInitDone), (16, 1, b2n b.resetIgnored)]

/-- R158: what MNT_INFO returns. -/
def State.mntInfo (s : State) : List Byte :=
  let boxes := (s.host.mbx.filter fun e => e.2.session.isSome).length
  let udp := ((List.range 8).filter fun k => (s.udp k).inUse && (s.udp k).opened).length
  s.fwBytes ++ [s.boot.image.zeroExtend 8] ++ leBytes 4 s.idBootStatus ++ leBytes 4 s.boot.cause.toNat ++ leBytes 8 s.clk.plan ++
    leBytes 8 s.runningId ++ [s.pace.tj, BitVec.ofNat 8 boxes, BitVec.ofNat 8 udp, 0] ++ (leBytes 48 s.boot.measurement).take 16

/-- R158: 0x0B01. -/
def execMntInfo (c : KcpCtx) (s : State) : Host.Outcome State Fault Refusal :=
  kcp 0x0B01 c (fun _ s => replyOk s s.mntInfo) s

end Sys2Proof.Machine
end

