-- ==== Sys2Proof/Machine/MemCmds.lean ====
section
/-! DEFINITION. The CXL ports' events, poison, BAR4 and the memory commands (R94–R119). -/

namespace Sys2Proof.Machine

/-! ### Links -/

/-- R185: a port or the host link has changed, or a latency has been measured again: an admission under way counts it. One that follows a load or a
commit runs whole as that ends, so only a check can be under way (log 20). -/
def stirAdmission (s : State) : State :=
  (List.range 4).foldl (fun (s : State) k => s.modStore k fun x =>
    if x.job = .check then { x with changes := min 2 (x.changes + 1) } else x) s

/-- R105, R106, R109: port `m` is lost; `cause` is 2 link down, 3 viral, 4 a recovery that lasted more than 1 ms. -/
def loseCxl (m cause : Nat) (s : State) : State :=
  let p := s.port m
  if p.state ≠ .up ∧ p.state ≠ .initialising then s
  else
    let detail := if s.otherPortOut m then 6 + 256 * cause else cause
    let s := s.modPort m fun p =>
      { p with state := .lost, viral := p.viral || cause == 3, boundary := 0, foreLost := true, countReturn := false, second := s.otherPortOut m }
    let s := stirAdmission (loseReads (fun _ r => r.port == m || (decide (r.port < 4) && decide (0x40000000000 ≤ r.addr))) (s.memForget m))
    (s.fault (52 + m) (BitVec.ofNat 32 detail)).pend (479 + m)

/-- R106: the link of port `m` goes down. -/
def execCxlLinkDown (m : Fin 4) (s : State) : Host.Outcome State Fault Refusal := done (loseCxl m 2 s)

/-- R105: the device of port `m` signals viral. -/
def execCxlViral (m : Fin 4) (s : State) : Host.Outcome State Fault Refusal := done (loseCxl m 3 (s.count (128 + 16 * m + 15)))

/-- R118, R119: port `m` has gone through a link recovery; how many flits it replayed is open (log 10). -/
def linkRecovery (m : Nat) (s : State) : State :=
  let d := s.draw
  ((d.2.count (128 + 16 * m + 11)).countN (128 + 16 * m + 12) d.1).modPort m fun p => { p with recoveries := satInc p.recoveries }

/-- R106: a link recovery lasts more than 1 ms. -/
def execCxlRecoveryTimeout (m : Fin 4) (s : State) : Host.Outcome State Fault Refusal := done (loseCxl m 4 (linkRecovery m s))

/-- R106: a link recovery completes within 1 ms. -/
def execCxlRecoveryDone (m : Fin 4) (s : State) : Host.Outcome State Fault Refusal :=
  if (s.port m).state = .up ∨ (s.port m).state = .initialising then
    done (((linkRecovery m s).fault (52 + m) 5).pend (479 + m))
  else done s

/-- R67, R107: port `m` may train: absent or lost, or out of service with CXLm_PERST_N high again; no port while PLL9 is gated. -/
def State.portTrains (s : State) (m : Nat) : Bool :=
  !(s.pll 9).gated && match (s.port m).state with
  | .absent => true
  | .lost => true
  | .outOfService => s.pins.cxlPerstN.getLsbD m
  | _ => false

/-- R94, R95, R101, R108: the link of port `m` trains while firmware runs. Below 32 GT/s or ×4 it is held down, and a device that needs an unsupported
option leaves the port absent; else its content counts as lost and the port is initialised before any read. -/
def execCxlLinkTrained (m : Fin 4) (x : CxlIn) (s : State) : Host.Outcome State Fault Refusal :=
  if s.boot.phase ≠ .running ∨ !s.portTrains m ∨ !x.up then done s
  else if x.gts < 32 ∨ x.width < 4 then
    done (stirAdmission (s.modPort m fun p => { p with state := .absent }) |>.fault (52 + m) 1)
  else if !x.supported then done (stirAdmission (s.modPort m fun p => { p with state := .absent }))
  else
    let back := decide ((s.port m).state ≠ .absent) && s.seq.running != 0
    done (stirAdmission (s.modPort m fun p =>
      { p with state := .initialising, fast := decide (64 ≤ x.gts), width := if 8 ≤ x.width then 8 else 4, deviceGib := x.gib,
               gib := min 512 x.gib, latency := x.latency, boundary := 0, viral := false, second := false, awaitTruss := p.awaitTruss || back,
               foreLost := true }))

/-- R108, R175: the running standing truss's flash assets that lie on port `m` are copied from flash again. -/
def recopyAssets (m : Nat) (s : State) : State :=
  let x := s.store (s.seq.running - 1)
  let held := (tabGet s.truss.standing (x.fromStanding - 1)).assets
  ((s.trussIn (s.seq.running - 1)).assets.zip held).foldl (fun (s : State) e =>
    if s.linesOn m e.1.addr e.2.length = 0 then s else s.memWrite e.1.addr e.2) s

/-- R108: when the running truss is the standing truss, firmware restores it to a port that has returned and is not fenced. -/
def rearmStanding (m : Nat) (s : State) : State :=
  let p := s.port m
  let k := s.seq.running - 1
  if !p.awaitTruss || p.state != .up || s.fenced (52 + m) || s.seq.running == 0 || (s.store k).fromStanding == 0 || s.seq.switch.isSome then s
  else
    match s.switchPlan k with
    | some plan => takeSwitch 16 k plan (recopyAssets m s)
    | none => s

/-- R108: every port that may be restored now is. -/
def rearmPorts (s : State) : State := (List.range 4).foldl (fun (s : State) m => rearmStanding m s) s

/-- R46, R108: port `m` has been initialised to its end, and returns. -/
def execCxlPortInitDone (m : Fin 4) (s : State) : Host.Outcome State Fault Refusal :=
  let p := s.port m
  if p.state ≠ .initialising then done s
  else
    let s := s.countInit m p.boundary (p.gib * gib)
    let s := s.modPort m fun p => { p with state := .up, boundary := p.gib * gib, countReturn := false }
    let s := if p.countReturn then s.modFltSrc (52 + m) fun c => { c with recoveredAt := s.now :: c.recoveredAt } else s
    done (rearmPorts ((stirAdmission s |>.linkRecord 1 m 1 (b2n p.fast) p.width).pend (479 + m)))

/-- R107: a write to port `m` is still on its way. -/
def State.portWrites (s : State) (m : Nat) : Bool := s.host.fns.any fun e => e.2.inFlight.any fun w => s.linesOn m w.1 w.2.length != 0

/-- R107: the groups that run a truss are all on port `m`'s loss variant, none of its tags is outstanding, and no write to it is on its way; the
writes of a port that was lost meanwhile are not waited for. -/
def State.portQuiet (s : State) (m : Nat) : Bool :=
  (allGroups.filter s.grpRuns).all (fun g => (s.group g).variant == s.runnable (s.group g).store (lossVariant (52 + m))) && s.tagsUsed m == 0 &&
    ((s.port m).state == .lost || !s.portWrites m)

/-- R107: a removal completes: CXLm_PERST_N falls and CXLm_REFCLK stops. -/
def execCxlOfflineComplete (m : Fin 4) (s : State) : Host.Outcome State Fault Refusal :=
  let p := s.port m
  if !p.removing || !s.portQuiet m then done s
  else
    let s := (s.memForget m).modPort m fun p =>
      { p with state := .outOfService, removing := false, boundary := 0, foreLost := true, countReturn := p.state == .up }
    let s := s.modPins fun q => { q with cxlPerstN := putBit q.cxlPerstN m false, cxlRefclk := putBit q.cxlRefclk m false }
    done (((stirAdmission s).linkRecord 1 m 3 (b2n p.fast) p.width).pend (479 + m))

/-- R449: the quiet period of the source's unit ends. -/
def execQuietPeriodEnd (source : Fin 192) (s : State) : Host.Outcome State Fault Refusal :=
  done (rearmPorts (quietEnd source s))

/-- R463: 0x0705. -/
def execFltUnfence (c : KcpCtx) (source : Half) (s : State) : Host.Outcome State Fault Refusal :=
  kcp 0x0705 c (fun f s =>
    let r := fltUnfence source.toNat f s
    { r with st := rearmPorts r.st }) s

/-! ### Poison -/

/-- R104, R260: a bank or table that a truss loads at a sill is poisoned. A bank is marked failed; of a table the one that was in force at its index
stays, and where there was none the new one counts as failed. Outside a switch what is in force has been loaded and stays (DEDUCED, log 32). -/
def keepTable (bank : Bool) (index : Nat) (s : State) : State :=
  match s.seq.switch with
  | none => s
  | some x =>
    if bank then s.modSeq fun q => { q with bankFailed := tabSet q.bankFailed (32 * x.store + index % 32) true }
    else
      let i := index % 256
      refreshBypass (match (if s.seq.running = 0 then none else s.colourTable (s.seq.running - 1) i) with
        | some b => s.modSeq fun q => { q with tablesKept := tabSet q.tablesKept (256 * x.store + i) b }
        | none => s.modSeq fun q => { q with tableFailed := tabSet q.tableFailed (256 * x.store + i) true })

/-- R104: firmware reloads a structure from its source, or falls back to the standing truss where the store holds it admitted; which of the two is open
(log 10). -/
def reloadOrFallBack (s : State) : State :=
  let d := s.draw
  let standing := (List.range 4).find? fun k => (s.store k).state == .admitted && (s.store k).fromStanding != 0
  if d.1 % 2 = 0 ∨ s.seq.switch.isSome then d.2
  else
    match standing.bind fun k => (d.2.switchPlan k).map fun p => (k, p) with
    | some (k, p) => takeSwitch 16 k p d.2
    | none => d.2

/-- R104: what a poisoned response does to the one that was to receive its data; `m` is the port and `a` the line's address. -/
def poisonUsed (m a : Nat) (use : PoisonUse) (s : State) : State :=
  let land := fun (want : Nat → Issue → Bool) (s : State) =>
    match s.seq.issues.zipIdx.findSome? fun x =>
        if want x.2 x.1 then (x.1.reads.findIdx? fun r => r.port == m && r.addr == a && r.state == .issued).map fun j => (x.2, j) else none with
    | some (i, j) => landRead i j (some []) true s
    | none => poisonSeen m s
  match use with
  | .runAhead => land (fun _ x => x.dropped) s
  | .surface entry => land (fun i x => i == entry && !x.dropped) s
  | .atlas entry => land (fun i x => i == entry && !x.dropped) s
  | .truss g item =>
    let s := (poisonSeen m s).faultOpen 153
    match s.frameItem g item with
    | none => s
    | some _ => s.modGroup g fun c => if c.issued.contains item then c else { c with issued := item :: c.issued }
  | .table bank index =>
    keepTable bank index ((poisonSeen m s).faultOpen 154)
  | .dma => (poisonSeen m s).faultOpen 155
  | .firmware => reloadOrFallBack ((poisonSeen m s).faultOpen 157)
  | .faultLog => (((poisonSeen m s).faultOpen 158).modBootMram fun b => { b with resume := none }).modFlt fun f => { f with regionBad := true }

/-- R103, R104: a read response is poisoned; its line reads as poisoned until it is next written. -/
def execPoisonResponse (address : BitVec 43) (use : PoisonUse) (s : State) : Host.Outcome State Fault Refusal :=
  let a := address.toNat / 64 * 64
  match s.memDecode a with
  | none => done s
  | some (m, _) =>
    if !s.memUp a then done s
    else done (poisonUsed m a use { s with mem := { s.mem with poison := tabSet s.mem.poison (a / 64) true } })

/-! ### BAR4 -/

/-- R470: who a BAR4 access of function `f` is. -/
def barWho (f : Nat) : Who := ⟨8, 80 + f, f⟩

/-- R112: the writes of function `f` that were on their way reach memory; its doorbells that waited for them take effect. -/
def landWrites (f : Nat) (s : State) : State :=
  let x := s.fn f
  let s := s.modFn f fun x => { x with inFlight := [], heldArms := [], heldBells := [] }
  let s := x.inFlight.foldl (fun (s : State) w => s.memStore w.1 w.2 (barWho f)) s
  let s := x.heldArms.foldl (fun (s : State) g => if s.grpRuns g then (armArrives f g s).2 else s) s
  x.heldBells.foldl (fun (s : State) b => mbxRing f b.1 b.2 s) s

/-- R114: the device address of a BAR4 offset, none in an unmapped segment. -/
def State.barAddress (s : State) (f : Nat) (offset : Nat) : Option Nat :=
  match tabGet (s.fn f).segs (offset / (16 * gib)) with
  | 0 => none
  | v + 1 => some (v * (16 * gib) + offset % (16 * gib))

/-- R114, R118: an access to an unmapped segment, counted for the function and under port 0 (log 14). -/
def barMiss (f : Nat) (s : State) : State := (s.modFn f fun x => { x with segMisses := satInc x.segMisses }).count 138

/-- R112, R114, R453: a posted write, which the safe state stops before it is issued. `lands` when it reaches memory at once, with every write of the function before it. -/
def execBar4Write (fn : Fin 16) (offset : BitVec 38) (bytes : List Byte) (lands : Bool) (s : State) : Host.Outcome State Fault Refusal :=
  if !s.barOpen fn then done s
  else
    let s := s.count 202
    match s.barAddress fn offset.toNat with
    | none => done (barMiss fn s)
    | some a =>
      let s := if s.memPort a < 4 then s.count (128 + 16 * s.memPort a + 9) else s
      let s := if s.flt.safe then s else s.modFn fn fun x => { x with inFlight := x.inFlight ++ [(a, bytes)] }
      done (if lands then landWrites fn s else s)

/-- R113, R114, R104: a read; the function's earlier writes have landed before it. -/
def execBar4Read (fn : Fin 16) (offset : BitVec 38) (len : Nat) (s : State) : Host.Outcome State Fault Refusal :=
  if !s.barOpen fn then done s
  else
    let s := landWrites fn (s.count 201)
    match s.barAddress fn offset.toNat with
    | none => done ((barMiss fn s).emit (.readData fn (256 ^ len - 1) false))
    | some a =>
      let s := if s.memPort a < 4 then s.count (128 + 16 * s.memPort a + 8) else s
      let poison := !(s.poisonLines a len).isEmpty
      match s.memLoad 156 a len (barWho fn) with
      | (some bs, s) => done (s.emit (.readData fn (leNat bs) false))
      | (none, s) => done (s.draw.2.emit (.readData fn s.draw.1 poison))

/-- R112: the function's earlier BAR4 writes have landed. -/
def execArmWritesLanded (fn : Fin 16) (s : State) : Host.Outcome State Fault Refusal := done (landWrites fn s)

/-! ### Commands -/

/-- R119: a port's state as MEM_QUERY codes it. -/
def PortState.code : PortState → Nat
  | .absent => 0 | .up => 1 | .lost => 2 | .outOfService => 3 | .initialising => 4

/-- R119: 0x0280. -/
def execMemQuery (c : KcpCtx) (port : Byte) (s : State) : Host.Outcome State Fault Refusal :=
  kcp 0x0280 c (fun _ s =>
    if 3 < port.toNat then badParam 0 s
    else
      let s := s.bgAdvance
      let p := s.port port.toNat
      replyOk s ([BitVec.ofNat 8 p.state.code, BitVec.ofNat 8 (b2n p.fast), BitVec.ofNat 8 p.width, 0] ++ leBytes 2 p.gib ++
        leBytes 2 p.deviceGib ++ leBytes 4 p.latency ++ leBytes 8 p.boundary ++ leBytes 2 s.mem.spread ++ leBytes 2 p.recoveries.toNat)) s

/-- R98, R119: 0x0281, held in MRAM for the next cold start. -/
def execMemSetInterleave (c : KcpCtx) (size : Half) (s : State) : Host.Outcome State Fault Refusal :=
  kcp 0x0281 c (fun _ s =>
    let n := size.toNat
    let ps := (List.range 4).map s.port
    if 512 < n then badParam 0 s
    else if ps.any fun p => p.state != .absent && decide (p.gib < n) then badParam 0 s
    else if n ≠ 0 ∧ ps.any (fun p => p.state == .absent) then refuse .state 0 s
    else replyOk (s.modBootMram fun b => { b with spread := n })) s

/-- R114, R119: 0x0282. -/
def execMemMapAperture (c : KcpCtx) (fn segment enable : Byte) (address : Long) (s : State) : Host.Outcome State Fault Refusal :=
  kcp 0x0282 c (fun f s =>
    let s := s.bgAdvance
    let g := fn.toNat
    let a := address.toNat
    if 15 < g ∨ (f ≠ 0 ∧ g ≠ f) then badParam 0 s
    else if 15 < segment.toNat then badParam 1 s
    else if 1 < enable.toNat then badParam 2 s
    else if enable = 0 then replyOk (s.modFn g fun x => { x with segs := tabSet x.segs segment.toNat 0 })
    else if a % (16 * gib) ≠ 0 ∨ !s.memMapped a (16 * gib) then badParam 4 s
    else if g ≠ 0 ∧ !apertureCovers (s.fn g).apertures a then refuse .notGranted 2 s
    else if !s.memRangeInit a (16 * gib) then refuse .state 0 s
    else replyOk (s.modFn g fun x => { x with segs := tabSet x.segs segment.toNat (a / (16 * gib) + 1) })) s

/-- R107, R119: 0x0283. -/
def execMemPortOffline (c : KcpCtx) (port : Byte) (s : State) : Host.Outcome State Fault Refusal :=
  kcp 0x0283 c (fun _ s =>
    let m := port.toNat
    let p := s.port m
    let other := (List.range 4).any fun k => k != m && ((s.port k).removing || (s.port k).state == .absent || (s.port k).state == .outOfService)
    if 3 < m then badParam 0 s
    else if p.removing then refuse .busy m s
    else if other ∨ s.mem.spread ≠ 0 ∨ p.state = .absent ∨ p.state = .outOfService then refuse .state m s
    else replyOk (chooseVariants (s.modPort m fun p => { p with removing := true }))) s

/-- R108, R119: 0x0284; CXLm_REFCLK runs and CXLm_PERST_N rises again, and the port may train. A port that is up, initialising or lost is refused with
STATE (DESIGN CHOICE, log 32). -/
def execMemPortOnline (c : KcpCtx) (port : Byte) (s : State) : Host.Outcome State Fault Refusal :=
  kcp 0x0284 c (fun _ s =>
    let m := port.toNat
    if 3 < m then badParam 0 s
    else if (s.port m).state ≠ .outOfService ∧ (s.port m).state ≠ .absent then refuse .state m s
    else replyOk (s.modPins fun q => { q with cxlPerstN := putBit q.cxlPerstN m true, cxlRefclk := putBit q.cxlRefclk m (!(s.pll 9).gated) })) s

/-- R111, R119: 0x0285; each group takes it at its first sill whose cutoff has not passed, a group of no truss at once. -/
def execMemSetSnoop (c : KcpCtx) (fn noSnoop : Byte) (s : State) : Host.Outcome State Fault Refusal :=
  kcp 0x0285 c (fun _ s =>
    let f := fn.toNat
    let on := noSnoop == 1
    if 15 < f then badParam 0 s
    else if 1 < noSnoop.toNat then badParam 1 s
    else
      replyOk (allGroups.foldl (fun (s : State) g =>
        if s.grpRuns g then s.defer g f (.snoop f on)
        else s.modFn f fun x => { x with noSnoop := putBit x.noSnoop g on }) s)) s

end Sys2Proof.Machine
end

