-- ==== Sys2Proof/Machine/HostLink.lean ====
section
/-! DEFINITION. The host link: its training and loss, the resets of functions, and the event rings (R42, R120–R135). -/

namespace Sys2Proof.Machine

/-! ### Unarmed shadow writes -/

/-- R134, R200: an output's shadow colour state without the writes of the functions that `hit` names. -/
def dropColour (hit : Nat → Bool) (key : Nat) (s : State) : State :=
  let kept := (tabGet s.seq.colourDirty key).filter fun w => !hit w.1
  s.modSeq fun q =>
    { q with colourDirty := tabSet q.colourDirty key kept,
             colourShadow := tabSet q.colourShadow key (kept.foldl (fun o w => w.2.2.take w.2.1 o) (tabGet q.colour key)) }

/-- R42, R134, R200: the unarmed writes of the functions that `hit` names leave the shadow sets that no accepted arm locks. -/
def discardShadows (hit : Nat → Bool) (s : State) : State :=
  (allGroups.filter fun g => !s.locked g).foldl (fun (s : State) g =>
    match s.grpTruss g with
    | none => s
    | some t =>
      let k := (s.group g).store - 1
      let s := (t.groupSlots g).foldl (fun (s : State) e => s.modSlot e.slot fun c => if c.writes.any fun w => hit w.1 then c.without hit else c) s
      let s := (t.outputs.zipIdx.filter fun o => o.1.group == g).foldl (fun (s : State) (o : TOutput × Nat) =>
        let s := dropColour hit (65536 * k + o.2) s
        if o.1.kind = 0 ∧ (setBits (s.head o.1.unit).shadowBy).any hit then s.modHead o.1.unit fun h => { h with shadow := none, shadowBy := 0 } else s) s
      (List.range 4).foldl (fun (s : State) p => if t.rateGroup (s.group g).variant p = g then s.modEth p (·.without hit) else s) s) s

/-! ### Resets -/

/-- R134: one function's mailboxes, sessions, rings, MSI-X state, segment table, unarmed shadow writes and change set are cleared; its
grants and accepted arms stand. Writes that reached the GM8 before the reset are carried out first (R133). -/
def clearFn (f : Nat) (s : State) : State :=
  let s := closeFnSessions f (landWrites f s)
  let s := discardShadows (· == f) (s.intRelease f)
  let s := dmaFlr f (loseReads (fun owner r => r.port == 4 && owner == f) s)
  let s := s.modTruss fun t => { t with changes := tabErase t.changes f }
  s.modHost fun h =>
    { h with mbx := tabKeep (fun k _ => k / 4 != f) h.mbx, rings := tabKeep (fun k _ => k / 4 != f) h.rings,
             msix := tabKeep (fun k _ => k / 128 != f) h.msix,
             fns := tabMod h.fns f fun x =>
               { x with bme := false, stale := false, staleAt := 0, staleDropped := 0, oweStale := false, segs := [] } }

/-- R134: every function is reset as by an FLR, and the virtual functions are disabled. -/
def clearAllFns (s : State) : State :=
  (allFns.foldl (fun (s : State) f => clearFn f s) s).modHost fun h =>
    { h with vfEnable := false, oweFlr := true, fns := tabMap (fun _ x => { x with enabled := false }) h.fns }

/-- R134: an FLR of a function. -/
def execFunctionLevelReset (fn : Fin 16) (s : State) : Host.Outcome State Fault Refusal :=
  if !s.reached fn then done s
  else
    let s := s.count 215
    done (if fn.val = 0 then clearAllFns s else clearFn fn s)

/-- R134: the PF writes VF Enable: set, the virtual functions exist; cleared, all is as after an FLR of the PF. -/
def execVfEnableWrite (enable : Bool) (s : State) : Host.Outcome State Fault Refusal :=
  if !s.reached 0 || enable == s.host.vfEnable then done s
  else if enable then
    done (s.modHost fun h =>
      { h with vfEnable := true, fns := tabModAll h.fns ((List.range 15).map (· + 1)) fun _ x => { x with enabled := true } })
  else done (clearAllFns s)

/-- R42, R430: the PCIe controller, every function's configuration, mailboxes, rings and MSI-X state are reset; every session ends and
unarmed shadow writes are discarded. -/
def portReset (s : State) : State :=
  let s := allFns.foldl (fun (s : State) f => landWrites f s) s
  let s := allFns.foldl (fun (s : State) f => s.intRelease f) (closeAllSessions s)
  let s := discardShadows (fun _ => true) (loseReads (fun _ r => r.port == 4) s)
  let s := s.modTruss fun t => { t with changes := [] }
  let s := s.modHost fun h =>
    { h with linkUp := false, training := false, rate := 0, width := 0, vfEnable := false, oweFlr := false, owesLatency := 0,
             mbx := [], rings := [], msix := [],
             fns := tabMap (fun _ x => { x with enabled := false, bme := false, stale := false, staleAt := 0, staleDropped := 0,
                                                oweStale := false }) h.fns }
  stirAdmission s

/-- R42, R57: the port leaves reset when PE_REFCLK is present and PERST_N is high, and training begins. -/
def sensePerst (s : State) : State :=
  let held := !s.host.peRefclk || s.host.perstLow || s.boot.phase == .powerOnReset || s.boot.phase == .pinReset
  if held == s.host.inReset then s
  else if held then (portReset s).modHost fun h => { h with inReset := true }
  else s.modHost fun h => { h with inReset := false, training := true }

/-- R42: PERST_N is asserted. -/
def execHostPortReset (s : State) : Host.Outcome State Fault Refusal :=
  done (sensePerst (s.modHost fun h => { h with perstLow := true }))

/-- R57: PERST_N is deasserted. -/
def execPerstNDeassert (s : State) : Host.Outcome State Fault Refusal :=
  done (sensePerst (s.modHost fun h => { h with perstLow := false }))

/-- R42: PE_REFCLK is lost. -/
def execPeRefclkLoss (s : State) : Host.Outcome State Fault Refusal :=
  done (sensePerst (s.modHost fun h => { h with peRefclk := false }))

/-- R42: PE_REFCLK returns, and PERST_N is sensed again. -/
def execPeRefclkReturn (s : State) : Host.Outcome State Fault Refusal :=
  done (sensePerst (s.modHost fun h => { h with peRefclk := true }))

/-- R133: the data link drops while PERST_N stays high; `dmaInFlight` writes to host memory are dropped. -/
def execSurpriseDown (dmaInFlight : Nat) (s : State) : Host.Outcome State Fault Refusal :=
  if !s.host.linkUp || s.host.inReset then done s
  else
    let s := dmaSurprise (portReset s)
    let s := s.modHost fun h =>
      { h with training := true, surpriseCount := satInc h.surpriseCount, surpriseAt := s.now + 1, surpriseFor := 0,
               surpriseOwed := satInc h.surpriseOwed, dmaDropped := satAdd h.dmaDropped dmaInFlight }
    done ((s.count 208).fault 56 1)

/-! ### Training -/

/-- R122: the running truss reads more from host memory than the link now admits. -/
def State.hostOver (s : State) : Bool :=
  match s.running with
  | some t => t.variants.any fun v => (readsBad t s.figures v.id 4).isSome
  | none => false

/-- R122, R517: a retrain to a lower rate or width that leaves the running truss above bw_adm is reported once. -/
def checkHostBw (s : State) : State :=
  if !s.host.lowTrain || !s.hostOver then s
  else
    (s.modHost fun h => { h with lowTrain := false }).fault 56
      (BitVec.ofNat 32 (2 + 256 * s.host.rate.toNat + 65536 * s.host.width.toNat))

/-- R122, R133, R134: what waits for the PF's ring 0 to be enabled: the measurement of L_h by 65,536 probe reads, and the records it owes. An L_h
above what ID_LINK.latency holds reads and counts as 65,535 ns (DESIGN CHOICE, log 39). -/
def settleRing0 (s : State) : State :=
  if !(s.ring 0 0).enable || !s.fnReach 0 then s
  else
    let s := if s.host.owesLatency = 0 then s
      else
        checkHostBw (stirAdmission (((s.countN 192 65536).countN 193 65536).modHost fun h =>
          { h with latency := BitVec.ofNat 16 (min 65535 (h.owesLatency - 1)), owesLatency := 0 }))
    s.payOwed

/-- R122, R133: the link trains; `latency` is the L_h that the probes measure. -/
def execHostLinkTrained (rate : BitVec 3) (width : BitVec 5) (latency : Nat) (s : State) : Host.Outcome State Fault Refusal :=
  let h := s.host
  if h.inReset ∨ rate = 0 ∨ 5 < rate.toNat ∨ !([1, 2, 4, 8].contains width.toNat) then done s
  else
    let again := h.linkUp || h.surpriseFor == 0 && h.surpriseAt != 0
    let s := if again then s.count 207 else s
    let ms := if h.linkUp || h.surpriseAt == 0 then h.surpriseFor else (s.now - (h.surpriseAt - 1)) / 1000000
    let s := s.modHost fun h =>
      { h with linkUp := true, training := false, rate := rate, width := width, owesLatency := latency + 1, surpriseFor := ms,
               lastRate := rate, lastWidth := width, lowTrain := decide (rate.toNat < h.lastRate.toNat) || decide (width.toNat < h.lastWidth.toNat),
               surpriseMs := if h.linkUp || h.surpriseAt == 0 then h.surpriseMs else BitVec.ofNat 16 (min 65535 ms) }
    let s := stirAdmission s
    let s := if h.linkUp then s.draw.2.linkRecord 0 0 s.draw.1 rate.toNat width.toNat else s
    done (settleRing0 (checkHostBw s))

/-! ### Bus mastering -/

/-- R135, R245: Bus Master Enable of a function is cleared: its host-memory fetches stop, and their spans are patched. -/
def execBusMasterDisable (fn : Fin 16) (s : State) : Host.Outcome State Fault Refusal :=
  if !s.reached fn then done s
  else done (loseReads (fun owner r => r.port == 4 && owner == fn.val) (s.modFn fn fun x => { x with bme := false }))

/-- R130: function `f` may write to host memory again: the messages pending on vectors that are not masked are sent. -/
def sendPending (f : Nat) (s : State) : State :=
  (List.range 128).foldl (fun (s : State) x =>
    let v := tabGet s.host.msix (128 * f + x)
    if v.masked || !v.pending then s
    else
      ((s.modHost fun h => { h with msix := tabMod h.msix (128 * f + x) fun v => { v with pending := false } }).emit (.msix f x)).count 196) s

/-- R130, R245: Bus Master Enable of a function is set; the messages it held back are sent. -/
def execBusMasterEnableSet (fn : Fin 16) (s : State) : Host.Outcome State Fault Refusal :=
  if !s.reached fn then done s
  else
    let s := sendPending fn (s.modFn fn fun x => { x with bme := true })
    done (if fn.val = 0 then settleRing0 s else s)

/-! ### Event rings -/

/-- R132: a ring's full instant follows its counts. -/
def EvtRing.noteFull (now : Nat) (r : EvtRing) : EvtRing :=
  { r with fullSince := if r.full then (if r.fullSince = 0 then now + 1 else r.fullSince) else 0 }

/-- R127, R128, R519: a write of EVT_RINGn_CFG. A ring enabled again restarts its sequence number and keeps PROD, CONS and so its phase (DESIGN
CHOICE, log 39). -/
def execEvtRingCfgWrite (fn : Fin 16) (n : Fin 4) (value : Word) (s : State) : Host.Outcome State Fault Refusal :=
  if !s.barOpen fn then done s
  else
    let s := s.bar0
    let r := s.ring fn n
    let size : BitVec 5 := value.extractLsb' 1 5
    let fmt := value.getLsbD 6
    let bad := r.enable && (size != r.log2Size || fmt != r.fmt1)
    let on := value.getLsbD 0
    let r' : EvtRing :=
      { r with enable := on, vector := value.extractLsb' 8 7, types := value.extractLsb' 16 10, refused := r.refused || bad,
               log2Size := if r.enable then r.log2Size else size, fmt1 := if r.enable then r.fmt1 else fmt,
               seq := if on && !r.enable then 0 else r.seq }
    let s := (if bad then s.count 395 else s).setRing fn n (r'.noteFull s.now)
    done (if fn.val = 0 ∧ n.val = 0 ∧ on ∧ !r.enable then settleRing0 s else s)

/-- R128, R132: a write of EVT_RINGn_CONS; a value that would make prod − cons exceed the size is ignored. A stale function leaves that
state, and its type 0x0A record is then the next record written. -/
def execEvtRingConsWrite (fn : Fin 16) (n : Fin 4) (value : Word) (s : State) : Host.Outcome State Fault Refusal :=
  if !s.barOpen fn then done s
  else
    let s := s.bar0
    let r := s.ring fn n
    let cons : BitVec 17 := value.setWidth 17
    if r.size < (r.prod - cons).toNat then done s
    else
      let s := s.setRing fn n (({ r with cons := cons } : EvtRing).noteFull s.now)
      if (s.fn fn).stale then
        let s := s.modFn fn fun x => { x with stale := false, oweStale := true }
        done (if s.fnReach fn then s.payStale fn else s)
      else done s

/-- R130: the oldest unsignalled record reaches timeout_us. -/
def execEvtCoalTimeout (fn : Fin 16) (n : Fin 4) (s : State) : Host.Outcome State Fault Refusal :=
  let r := s.ring fn n
  if r.coalTimeout = 0 ∨ r.unsignalled = 0 then done s
  else
    let s := s.untilAon (r.oldestAt + usNs r.coalTimeout.toNat)
    done (if s.fnReach fn then s.signal fn n else s)

/-- R132: the instant since which a ring that takes type 0x02 or 0x03 of function `f` has stayed full. -/
def State.fullSince (s : State) (f : Nat) : Option Nat :=
  let at' := fun t => match s.ringFor f t with | some n => (s.ring f n).fullSince | none => 0
  let ts := [at' 2, at' 3].filter fun t => t != 0
  ts.foldl (fun m t => some (match m with | some x => min x (t - 1) | none => t - 1)) none

/-- R132: such a ring has stayed full for 2 s, and the function is stale. -/
def execFunctionStale (fn : Fin 16) (s : State) : Host.Outcome State Fault Refusal :=
  match s.fullSince fn with
  | none => done s
  | some t =>
    if !s.hasFn fn || (s.fn fn).stale then done s
    else
      let s := s.untilAon (t + secNs 2)
      done (s.modFn fn fun x => { x with stale := true, staleAt := s.now, staleDropped := 0 })

end Sys2Proof.Machine
end

