-- ==== Sys2Proof/Machine/Sec.lean ====
section
/-! DEFINITION. Trust: firmware images, keys, anti-rollback, attestation, debug, tamper and host recovery (R483–R500). -/

namespace Sys2Proof.Machine

/-! ### Firmware images (R483) -/

/-- R177: bytes of a signature block. -/
def sigBytes : Nat := 3392

/-- R489: the largest firmware image. -/
def fwLimit : Nat := 8388608

/-- R483: the signature block of a firmware image. -/
def fwSig (img : List Byte) : TSig := readSig img (u img 8 8 - sigBytes)

/-- R483: magic and lengths. -/
def fwHeaderOk (img : List Byte) : Bool :=
  let n := u img 8 8
  u img 0 4 == 0x57464D47 && u img 4 2 == 1 && u img 6 2 == 256 && decide (256 + sigBytes ≤ n) && decide (n ≤ fwLimit) && decide (n ≤ img.length) &&
    (fwSig img).magicOk && (fwSig img).alg == 1 && (fwSig img).sigLen == 3309

/-- R483, R486: a key identifier is that of a fused vendor key that is not revoked. -/
def State.vendorKey (s : State) (id : Nat) : Bool :=
  (List.range 4).any fun i => Config.vendorKeyId i == id && !s.sec.vendorRevoked.getLsbD i

/-- R483, R490: the reason, as a code of R490, for which an image is invalid; none for a valid one. `sigOk` is what the key engine found. -/
def State.fwBad (s : State) (img : List Byte) (sigOk : Bool) : Option Nat :=
  let x := fwSig img
  if !fwHeaderOk img then some 2
  else if Config.sha3 (img.take x.off) ≠ x.digest then some 3
  else if x.keySlot ≠ 0 ∨ !s.vendorKey x.keyId then some 4
  else if !x.formed || !sigOk then some 5
  else if u img 16 4 < s.sec.fwCounter then some 6
  else if 0x10 < u img 24 2 then some 2
  else none

/-- R489: the directory entry of an image. -/
def fwEntry (img : List Byte) : FwImage :=
  { present := true, valid := true, version := BitVec.ofNat 24 (u img 20 3), security := BitVec.ofNat 32 (u img 16 4), digest := (fwSig img).digest }

/-- R489: image 0 A, 1 B, 2 golden. -/
def State.fwImage (s : State) (k : Nat) : FwImage := if k = 0 then s.boot.imgA else if k = 1 then s.boot.imgB else s.boot.imgGold

/-- Writes the directory entry of an image. -/
def putImage (k : Nat) (x : FwImage) (s : State) : State :=
  s.modBoot fun b => if k = 0 then { b with imgA := x } else if k = 1 then { b with imgB := x } else { b with imgGold := x }

/-- R489: a completion record of an image write: written or failed, target, status and detail. -/
def imageReport (x : ImageWrite) (code : Nat) (st : Status) (detail : Nat) (s : State) : State :=
  (s.serviceEvent (· == x.fn) 0x0A00 code x.target (leBytes 2 st.code ++ leBytes 4 detail)).pend 489

/-- R489, R500: SEC_IMAGE_WRITE. -/
def execSecImageWrite (c : KcpCtx) (target source : Byte) (length : Word) (address : Long) (s : State) : Host.Outcome State Fault Refusal :=
  kcp 0x0A04 c (fun f s =>
    let region := if target = 1 then 2 else if s.boot.image = 0 then 1 else if s.boot.image = 1 then 0 else if s.bootMram.selB then 0 else 1
    if 1 < target.toNat then badParam 0 s
    else if 1 < source.toNat then badParam 1 s
    else if fwLimit < length.toNat then badParam 4 s
    else if source = 0 ∧ !s.memMapped address.toNat length.toNat then badParam 8 s
    else if s.boot.flashBusy then refuse .busy 0 s
    else
      let w : ImageWrite := { target := target.toNat, source := source.toNat, region := region, len := length.toNat, addr := address.toNat, fn := f }
      ⟨.inProgress, 0, [], (s.modSec fun x => { x with write := some w }).modBoot fun b => { b with flashBusy := true }⟩) s

/-- R489, R499: an image is written to its region of flash, read back, verified again, and entered in the directory. -/
def imageInstalled (region : Nat) (img : List Byte) (s : State) : State :=
  let n := ceilDiv (u img 8 8) 65536
  putImage region (fwEntry img) (countVerify false (((flashErased s).countN 440 n).countN 439 n))

/-- R489: an image that passed both verifications takes its region. -/
def imageTaken (x : ImageWrite) (img : List Byte) (s : State) : State :=
  let s := imageInstalled x.region img s
  if x.target = 0 then s.modBootMram fun m => { m with selB := x.region == 1, selFail := 0 } else s

/-- R489: an image write ends: the image comes from device memory, or is `host`; `sigOk` is what the key engine found, and `ok` whether flash
took the image and it read back as written. -/
def execImageWriteDone (host : Option (List Byte)) (sigOk ok : Bool) (s : State) : Host.Outcome State Fault Refusal :=
  match (if (s.pll 9).gated then none else s.sec.write) with
  | none => done s
  | some x =>
    let s := (s.modSec fun c => { c with write := none }).modBoot fun b => { b with flashBusy := false }
    let r : Option (List Byte) × State :=
      if x.source = 0 then s.memLoad 155 x.addr x.len
      else if s.fnReach x.fn then (host.map (fitBytes x.len), s.hostRead x.addr x.len false ⟨16, 69, x.fn⟩) else (none, s)
    match r with
    | (none, s) => done (imageReport x 1 .media 0 s)
    | (some img, s) =>
      let bad := s.fwBad img sigOk
      let s := countVerify bad.isSome s
      match bad with
      | some 2 => done (imageReport x 1 .badParam 0 s)
      | some 3 => done (imageReport x 1 .signature 4 s)
      | some 4 => done (imageReport x 1 .signature 3 s)
      | some 5 => done (imageReport x 1 .signature 1 s)
      | some _ => done (imageReport x 1 .signature 2 s)
      | none =>
        if x.target = 1 ∧ !bitOf 0 (u img 26 2) then done (imageReport x 1 .state 0 s)
        else if !ok then done (imageReport x 1 .media 0 (storeFault 172 (flashErased s)))
        else done (imageReport x 0 .ok 0 (imageTaken x img s))

/-- R500: SEC_IMAGE_QUERY. -/
def execSecImageQuery (c : KcpCtx) (image : Byte) (s : State) : Host.Outcome State Fault Refusal :=
  kcp 0x0A05 c (fun _ s =>
    let k := image.toNat
    if 2 < k then badParam 0 s
    else
      let x := s.fwImage k
      let selected := k != 2 && s.bootMram.selB == (k == 1)
      replyOk s ([BitVec.ofNat 8 (b2n (x.present && x.valid)), BitVec.ofNat 8 (b2n selected), 0, 0] ++ leBytes 4 x.security.toNat ++
        leBytes 3 x.version.toNat ++ [0] ++ leBytes 16 x.digest)) s

/-- R488, R500: SEC_ROLLBACK_COMMIT. -/
def execSecRollbackCommit (c : KcpCtx) (kind : Byte) (value : Word) (s : State) : Host.Outcome State Fault Refusal :=
  kcp 0x0A06 c (fun _ s =>
    let n := value.toNat
    let now := if kind = 0 then s.sec.fwCounter else s.secMram.trussCounter.toNat
    let other := if s.bootMram.selB then s.boot.imgA else s.boot.imgB
    let standing := (List.range 2).filterMap fun k => let x := tabGet s.truss.standing k; if x.valid then some (readTruss x.image).security else none
    let versions := (match s.running with | some t => [t.security] | none => []) ++ standing
    if 1 < kind.toNat then badParam 0 s
    else if n < now ∨ (kind = 0 ∧ 127 < n) then badParam 4 s
    else if kind = 0 ∧ !(s.boot.image == (if s.bootMram.selB then 1 else 0) && decide (n ≤ s.boot.imgGold.security.toNat) &&
        decide (n ≤ other.security.toNat)) then refuse .state 0 s
    else if kind = 1 ∧ versions.any (fun v => decide (v < n)) then refuse .state 0 s
    else if n = now then replyOk s (leBytes 4 now)
    else
      let s := if kind = 0 then s.modSec fun x => { x with fwCounter := n } else s.modSecMram fun m => { m with trussCounter := value }
      replyOk (s.pend 490) (leBytes 4 n)) s

/-! ### Keys -/

/-- R486: the identifier of a public key. -/
def keyIdOf (key : List Byte) : List Byte := (leBytes 48 (Config.sha3 key)).take 16

/-- R500: a key slot's state, and its identifier. -/
def State.keySlot (s : State) (k : Nat) : Nat × List Byte :=
  if k = 0 then (if s.sec.vendorRevoked.getLsbD 0 then 2 else 1, leBytes 16 (Config.vendorKeyId 0))
  else if k = 7 then (if s.sec.level = 2 ∨ s.sec.keyFailed then (0, zeros 16) else (1, leBytes 16 Config.plannerKeyId))
  else
    let x := tabGet s.secMram.keys k
    (x.state, if x.state = 0 then zeros 16 else keyIdOf x.key)

/-- R487: what a key record leaves in the key store; an empty slot has no key to revoke. -/
def keyRecord (slot op : Nat) (key : List Byte) (s : State) : State :=
  s.modSecMram fun m =>
    { m with keys :=
        if op = 0 then tabSet m.keys slot { state := 1, key := key }
        else if slot = 1 then []
        else if (tabGet m.keys slot).state = 0 then m.keys
        else tabSet m.keys slot { tabGet m.keys slot with state := 2 } }

/-- R487, R500: SEC_KEY_INSTALL; `sigOk` is what the key engine found of the record's signature. -/
def execSecKeyInstall (c : KcpCtx) (address : Long) (sigOk : Bool) (s : State) : Host.Outcome State Fault Refusal :=
  kcp 0x0A02 c (fun _ s =>
    let a := address.toNat
    if overUdp c then refuse .denied 0 s
    else if !s.memMapped a 1960 then badParam 0 s
    else
      match s.memLoad 157 a 1960 with
      | (none, s) => refuse .media 0 s
      | (some b, s) =>
        let slot := u b 4 1
        let op := u b 5 1
        let key := b.drop 8
        if u b 0 4 ≠ 0x524B4D47 then badParam 0 s
        else if slot < 1 ∨ 6 < slot then badParam 4 s
        else if 1 < op then badParam 5 s
        else if slot = 1 ∧ op = 0 ∧ (tabGet s.secMram.keys 1).state = 0 then replyOk (keyRecord slot op key s)
        else
          match (if s.memMapped (a + 1960) sigBytes then s.memLoad 157 (a + 1960) sigBytes else (none, s)) with
          | (none, s) => refuse .signature 3 ((countVerify true s).faultOpen 160)
          | (some g, s) =>
            let x := readSig g 0
            match (if x.magicOk ∧ x.keySlot = 1 then s.sigDetail b x sigOk none else some 3) with
            | some d => refuse .signature d ((countVerify true s).faultOpen 160)
            | none => replyOk (keyRecord slot op key (countVerify false s))) s

/-- R500: SEC_KEY_QUERY. -/
def execSecKeyQuery (c : KcpCtx) (slot : Byte) (s : State) : Host.Outcome State Fault Refusal :=
  kcp 0x0A03 c (fun f s =>
    if !s.hasFltRead f then refuse .notGranted 7 s
    else if 7 < slot.toNat then badParam 0 s
    else
      let x := s.keySlot slot.toNat
      replyOk s ([BitVec.ofNat 8 x.1, 0, 0, 0] ++ x.2)) s

/-! ### Attestation -/

/-- R491: the report, up to the bytes that are signed. -/
def State.report (s : State) (nonce : List Byte) : List Byte :=
  let flags := packBits [(0, 1, b2n (s.sec.level == 1)), (1, 1, b2n s.sec.level2Seen), (2, 1, b2n s.sec.tamperSeen), (3, 1, b2n s.boot.tokenHit),
    (4, 1, b2n s.flt.safe)]
  let image := s.boot.image.toNat
  let running := match s.running with | some t => t.id | none => 0
  let m2 := if s.running.isSome then s.sec.m2 else 0
  leBytes 4 0x52414D47 ++ leBytes 2 1 ++ leBytes 2 flags ++ deviceId ++ fitBytes 32 nonce ++ leBytes 8 s.clk.plan ++
    leBytes 2 s.fltMram.startNumber.toNat ++ [0x10, BitVec.ofNat 8 image] ++ leBytes 3 s.boot.fwVersion.toNat ++ [0] ++
    leBytes 4 (s.fwImage image).security.toNat ++ leBytes 4 s.sec.fwCounter ++ leBytes 4 s.secMram.trussCounter.toNat ++ zeros 4 ++
    ([Config.romDigest, s.boot.measurement, m2, s.sec.m3, s.sec.m4].flatMap fun d => leBytes 48 d) ++ leBytes 8 running ++
    leBytes 8 (readTruss (tabGet s.truss.standing s.truss.preferred).image).id ++
    ((List.range 7).flatMap fun i => (s.keySlot (i + 1)).2)

/-- R491: the whole report with its signature. -/
def State.signedReport (s : State) (nonce : List Byte) : List Byte :=
  let b := s.report nonce
  b ++ leBytes 2 3309 ++ zeros 6 ++ fitBytes 3309 (Config.identitySign (Config.sha3 b)) ++ zeros 3

/-- Writes bytes for a command to device memory (mode 1) or host memory (mode 2). -/
def putOut (f mode a : Nat) (bs : List Byte) (s : State) : State :=
  if mode = 1 then s.memWrite a bs else s.hostWrite a bs ⟨16, 69, f⟩

/-- R491, R500: SEC_ATTEST. -/
def execSecAttest (c : KcpCtx) (mode : Byte) (address : Long) (nonce : List Byte) (s : State) : Host.Outcome State Fault Refusal :=
  kcp 0x0A00 c (fun f s =>
    let a := address.toNat
    if !s.hasFltRead f then refuse .notGranted 7 s
    else if mode ≠ 1 ∧ mode ≠ 2 then badParam 0 s
    else if mode = 1 ∧ !s.memMapped a 3768 then badParam 8 s
    else if mode = 2 ∧ overUdp c then refuse .denied 0 s
    else if s.sec.level = 2 ∨ s.sec.keyFailed then refuse .state 0 s
    else replyOk ((putOut f mode.toNat a (s.signedReport nonce) s).count 444) (leBytes 4 3768 ++ deviceId)) s

/-- R500: SEC_IDENTITY. -/
def execSecIdentity (c : KcpCtx) (mode : Byte) (address : Long) (s : State) : Host.Outcome State Fault Refusal :=
  kcp 0x0A01 c (fun f s =>
    let a := address.toNat
    let b := Config.identityKey ++ Config.identityChain
    if mode ≠ 1 ∧ mode ≠ 2 then badParam 0 s
    else if mode = 1 ∧ !s.memMapped a b.length then badParam 8 s
    else if mode = 2 ∧ overUdp c then refuse .denied 0 s
    else replyOk (putOut f mode.toNat a b s) (leBytes 4 b.length)) s

/-! ### Debug -/

/-- R492, R500: SEC_DEBUG_CHALLENGE. -/
def execSecDebugChallenge (c : KcpCtx) (s : State) : Host.Outcome State Fault Refusal :=
  kcp 0x0A07 c (fun _ s =>
    if s.sec.blocked then refuse .state 0 s
    else
      let d := s.draw
      let n := d.1 % 2 ^ 256
      replyOk (d.2.modSec fun x => { x with challenge := some n, challengeEnd := d.2.now + secNs 60 }) (leBytes 32 n ++ deviceId)) s

/-- R492: an unused challenge lapses after 60 s. -/
def execDebugChallengeLapse (s : State) : Host.Outcome State Fault Refusal :=
  if s.sec.challenge.isNone then done s
  else done ((s.untilAon s.sec.challengeEnd).modSec fun x => { x with challenge := none })

/-- R492: the challenge that stands. -/
def State.challengeNow (s : State) : Option Nat := if s.now < s.sec.challengeEnd then s.sec.challenge else none

/-- R177, R492: SIGNATURE detail of an unlock response. -/
def State.unlockSig (s : State) (b : List Byte) (x : TSig) (level : Nat) (sigOk : Bool) : Option Nat :=
  if !x.magicOk then some 3
  else if x.keySlot = 0 then
    if Config.sha3 b ≠ x.digest then some 4 else if !s.vendorKey x.keyId then some 3
    else if !x.formed || !sigOk then some 1 else none
  else if level = 2 ∨ x.keySlot = 7 then some 3
  else s.sigDetail b x sigOk none

/-- R492: what refuses an unlock response of 48 bytes and its signature block. -/
def State.unlockBad (s : State) (b : List Byte) (x : TSig) (sigOk : Bool) : Option (Status × Nat) :=
  let level := u b 4 1
  if u b 0 4 ≠ 0x55444D47 then some (.badParam, 0)
  else if level ≠ 1 ∧ level ≠ 2 then some (.badParam, 4)
  else if (b.drop 8).take 8 ≠ deviceId then some (.badParam, 8)
  else if s.challengeNow ≠ some (u b 16 32) then some (.badParam, 16)
  else (s.unlockSig b x level sigOk).map fun d => (.signature, d)

/-- R492: a failed unlock: its fault, the challenge gone, and after 3 within 10 minutes no more challenges. -/
def unlockFailed (s : State) : State :=
  let s := (s.faultOpen 161).modSec fun x =>
    { x with challenge := none, failures := (s.now :: x.failures).filter fun t => decide (s.now < t + secNs 600) }
  if 3 ≤ s.sec.failures.length then s.modSec fun x => { x with blocked := true } else s

/-- R459, R492, R499: debug is unlocked at a level; interrupt 488 pends when the level changes. -/
def unlocks (level : Nat) (s : State) : State :=
  let rises := decide (s.sec.level < level)
  let s := (s.modSec fun x => { x with challenge := none, level := max x.level level, level2Seen := x.level2Seen || level == 2 }).modFlt fun f =>
    { f with testUnlocked := true }
  let s := s.fault 162 (BitVec.ofNat 32 level)
  if rises then s.pend 488 else s

/-- R492, R500: SEC_DEBUG_UNLOCK; `sigOk` is what the key engine found of the response's signature. -/
def execSecDebugUnlock (c : KcpCtx) (address : Long) (sigOk : Bool) (s : State) : Host.Outcome State Fault Refusal :=
  kcp 0x0A08 c (fun _ s =>
    let a := address.toNat
    if overUdp c then refuse .denied 0 s
    else if !s.memMapped a (48 + sigBytes) then badParam 0 s
    else
      match s.memLoad 157 a (48 + sigBytes) with
      | (none, s) => refuse .media 0 s
      | (some b, s) =>
        let m := b.take 48
        let s := s.count 446
        match s.unlockBad m (readSig b 48) sigOk with
        | some (st, d) => refuse st d (unlockFailed (if st = .signature then countVerify true s else s))
        | none =>
          let s := unlocks (u m 4 1) (countVerify false s)
          replyOk s [BitVec.ofNat 8 s.sec.level]) s

/-! ### Tamper -/

/-- R493, R500: SEC_TAMPER_CFG. -/
def execSecTamperCfg (c : KcpCtx) (action : Byte) (s : State) : Host.Outcome State Fault Refusal :=
  kcp 0x0A09 c (fun _ s =>
    if overUdp c then refuse .denied 0 s
    else if 1 < action.toNat then badParam 0 s
    else replyOk (s.modSecMram fun m => { m with tamperAction := action })) s

/-- R493, R499: a tamper sensor reports. -/
def tamper (x : Nat) (s : State) : State :=
  (((s.modSec fun c => { c with tamperSeen := true }).faultOpen x).pend 487).count 445

/-- R493: every network key and CAK is erased: UDP sessions and MACsec close. -/
def eraseKeys (s : State) : State :=
  let s := closeUdpIf (fun _ => true) { s with netKeys := [] }
  (List.range 4).foldl (fun (s : State) p => if (s.ethCfg p).secMode ≠ 0 then restartMka p s else s)
    (s.modNetMram fun n => { n with keys := [] })

/-- R493: the supply and temperature sensors report in every state but the power-on reset. -/
def State.sensing (s : State) : Bool := s.boot.phase != .powerOnReset

/-- R493: TMPR_N has been low for 1 ms; it is sensed in reset too (R18). -/
def execTamperAssert (s : State) : Host.Outcome State Fault Refusal :=
  if s.pins.tmprLow then done s
  else
    let s := tamper 163 (s.modPins fun p => { p with tmprLow := true })
    done (if s.secMram.tamperAction = 1 then eraseKeys s else s)

/-- R493: TMPR_N has been high for 100 ms. -/
def execTamperRelease (s : State) : Host.Outcome State Fault Refusal :=
  if !s.pins.tmprLow then done s
  else done ((s.modPins fun p => { p with tmprLow := false }).pend 487)

/-- R493: a rail has been at `mv` for `ns`: a glitch for VDD_CORE below 0.62 V or VDDIO_1V8 below 1.50 V for more than 5 ns. -/
def execSupplyGlitch (rail : Rail) (mv ns : Nat) (s : State) : Host.Outcome State Fault Refusal :=
  let low : Bool := match rail with | .vddCore => decide (mv < 620) | .vddio1v8 => decide (mv < 1500) | _ => false
  if low && decide (5 < ns) && s.sensing then done (tamper 164 s) else done s

/-- R493: the junction temperature is `tj` degrees C: an alarm above 140 and below -55. -/
def execTemperatureAlarm (tj : Int) (s : State) : Host.Outcome State Fault Refusal :=
  let s := s.modBoot fun b => { b with tj := tj }
  if (140 < tj ∨ tj < -55) ∧ s.sensing then done (tamper 165 s) else done s

/-! ### Host recovery -/

/-- R490: a go: ignored while an installation is under way. -/
def rcvGo (cfg : Bool) (s : State) : State :=
  if s.boot.phase != .recovery || (decide (1 ≤ s.sec.rcvState.toNat) && decide (s.sec.rcvState.toNat ≤ 3)) then s
  else s.modSec fun x => { x with rcvState := 1, rcvReason := 0, rcvCfg := cfg }

/-- R490: ID_RCV_CTRL.go alone. -/
def execIdRcvGo (fn : Fin 16) (s : State) : Host.Outcome State Fault Refusal :=
  if !s.reached fn then done s else
  let s := s.bar0
  if fn.val ≠ 0 then done (s.denied fn) else done (rcvGo false s)

/-- R490: ID_RCV_CTRL.go together with cfg_reset. -/
def execIdRcvCfgReset (fn : Fin 16) (s : State) : Host.Outcome State Fault Refusal :=
  if !s.reached fn then done s else
  let s := s.bar0
  if fn.val ≠ 0 then done (s.denied fn) else done (rcvGo true s)

/-- R490: an installation has failed for a reason. -/
def rcvFailed (reason : Nat) (s : State) : State :=
  s.modSec fun x => { x with rcvState := 5, rcvReason := BitVec.ofNat 8 reason, rcvCfg := false }

/-- R490: board items 0–3 as cfg_reset restores them. -/
def rcvBoard (b : BoardCfg) : BoardCfg := { b with refFreq := 0, pmbusRate := 0, regAddr := 0x34, bands := 0x300 }

/-- R490: an image that is valid and written is installed as A, as golden where that one is invalid, and selected. -/
def rcvInstall (img : List Byte) (s : State) : State :=
  let gold := bitOf 0 (u img 26 2) && !(s.boot.imgGold.present && s.boot.imgGold.valid)
  let s := imageInstalled 0 img s
  let s := if gold then imageInstalled 2 img s else s
  let s := s.modBootMram fun m =>
    { m with selB := false, selFail := 0, goldFail := 0, board := if s.sec.rcvCfg then rcvBoard m.board else m.board }
  s.modSec fun x => { x with rcvState := 4, rcvCfg := false }

/-- R490: the installation ends: `image` is what the host's memory gave, `sigOk` what the key engine found, `ok` whether flash took it. The
ROM reads only while Bus Master Enable is set. -/
def execRcvInstallDone (image : Option (List Byte)) (sigOk ok : Bool) (s : State) : Host.Outcome State Fault Refusal :=
  if s.boot.phase != .recovery || s.sec.rcvState != 1 || !s.fnReach 0 || (s.pll 9).gated then done s
  else
    let n := s.sec.rcvLen.toNat
    let s := s.hostRead s.sec.rcvAddr.toNat n false { priv := 0 }
    match image with
    | none => done (rcvFailed 1 s)
    | some img =>
      if fwLimit < n ∨ s.sec.rcvAddr.toNat % 64 ≠ 0 then done (rcvFailed 2 s)
      else
        let bad := s.fwBad (fitBytes n img) sigOk
        let s := countVerify bad.isSome s
        match bad with
        | some r => done (rcvFailed r s)
        | none => if !ok then done (rcvFailed 7 (flashErased s)) else done (rcvInstall (fitBytes n img) s)

end Sys2Proof.Machine
end

