-- ==== Sys2Proof/Machine/RegWrite.lean ====
section
/-! DEFINITION. Writes to the registers of BAR0 that have no command of their own, field by field (R5, R519). An offset whose register is a
command's own is left to that command. -/

namespace Sys2Proof.Machine

/-- The low (`hi` false) or high half of an address register written. -/
def putHalf (hi : Bool) (v : Word) (a : Long) : Long :=
  if hi then BitVec.ofNat 64 (a.toNat % 2 ^ 32 + v.toNat * 2 ^ 32) else BitVec.ofNat 64 (a.toNat / 2 ^ 32 * 2 ^ 32 + v.toNat)

/-- A base register's half: bits 5:0 of the low half are reserved. -/
def putBase (hi : Bool) (v : Word) (a : Long) : Long := putHalf hi (if hi then v else v &&& 0xFFFFFFC0) a

/-- R5, R519: an at-start field of a running block: refused when it would change. Answers whether it is refused. -/
def refusedBase (running : Bool) (old new : Long) : Bool := running && old != new

/-- R126, R490: the ID block. -/
def writeId (f off : Nat) (v : Word) (s : State) : State :=
  if off = 0x18 then
    s.modHost fun h => { h with surpriseCount := v.setWidth 16, surpriseMs := (v >>> 16).setWidth 16 }
  else if 0x80 ≤ off ∧ off ≤ 0x90 then
    if s.boot.phase ≠ .recovery ∨ f ≠ 0 then s
    else if off = 0x80 then s.modSec fun x => { x with rcvAddr := putHalf false v x.rcvAddr }
    else if off = 0x84 then s.modSec fun x => { x with rcvAddr := putHalf true v x.rcvAddr }
    else if off = 0x88 then s.modSec fun x => { x with rcvLen := v }
    else s
  else if off ≤ 0x14 ∨ (0x40 ≤ off ∧ off ≤ 0x48) then s
  else s.denied f

/-- R136, R137: a mailbox. -/
def writeMbx (f n off : Nat) (v : Word) (s : State) : State :=
  let m := s.mbx f n
  let refuse := (s.modMbx f n fun m => { m with refused := true }).count 395
  if off < 8 then
    let b := putBase (off == 4) v m.cmdBase
    if refusedBase m.enable m.cmdBase b then refuse else s.modMbx f n fun m => { m with cmdBase := b }
  else if off < 0x10 then
    let b := putBase (off == 0xC) v m.rspBase
    if refusedBase m.enable m.rspBase b then refuse else s.modMbx f n fun m => { m with rspBase := b }
  else if off = 0x24 then
    s.modMbx f n fun m => { m with badDoorbell := m.badDoorbell && !v.getLsbD 2, refused := m.refused && !v.getLsbD 3,
                                   fetchError := m.fetchError && !v.getLsbD 4 }
  else if off < 0x24 then s
  else s.denied f

/-- R127, R128: an event ring. -/
def writeRing (f n off : Nat) (v : Word) (s : State) : State :=
  let r := s.ring f n
  if off < 8 then
    let b := putBase (off == 4) v r.base
    if refusedBase r.enable r.base b then (s.setRing f n { r with refused := true }).count 395 else s.setRing f n { r with base := b }
  else if off = 0xC then s.setRing f n { r with coalCount := v.setWidth 8, coalTimeout := (v >>> 8).setWidth 16 }
  else if off = 0x18 then s.setRing f n { r with overflow := r.overflow && !v.getLsbD 1, refused := r.refused && !v.getLsbD 2 }
  else if off < 0x18 then s
  else s.denied f

/-- R130, R135: a vector is no longer masked: a pending message is sent, unless the function may not write. -/
def unmaskVec (f x : Nat) (s : State) : State :=
  let k := 128 * f + x
  let v := tabGet s.host.msix k
  if v.masked || !v.pending || !s.fnReach f then s
  else
    ((s.modHost fun h => { h with msix := tabMod h.msix k fun v => { v with pending := false } }).emit (.msix f x)).count 196

/-- R120, R127: an entry of the MSI-X table. -/
def writeVec (f off : Nat) (v : Word) (s : State) : State :=
  let x := off / 16
  let put := fun (g : MsixVec → MsixVec) => s.modHost fun h => { h with msix := tabMod h.msix (128 * f + x) g }
  match off % 16 with
  | 0 => put fun e => { e with addr := putHalf false v e.addr }
  | 4 => put fun e => { e with addr := putHalf true v e.addr }
  | 8 => put fun e => { e with data := v }
  | _ => unmaskVec f x (put fun e => { e with masked := v.getLsbD 0 })

/-- R431: the interrupt block: every register that takes a write is a command's own. -/
def writeIntc (f off : Nat) (s : State) : State :=
  if off ≤ 0x10 ∨ (0x80 ≤ off ∧ off < 0xD0) ∨ (0x100 ≤ off ∧ off < 0x150) ∨ (0x180 ≤ off ∧ off < 0x1D0) then s else s.denied f

/-- R459, R460: the fault block; FLT_FORCE_DETAIL is discarded and counted while locked. -/
def writeFlt (f off : Nat) (v : Word) (s : State) : State :=
  if off = 0x800 then
    if s.flt.testUnlocked && s.hasFltRead f then s.modFlt fun c => { c with forceDetail := v } else s.denied f
  else if off = 0x804 then s
  else if !s.hasFltRead f then s.denied f
  else if off ≤ 0x10 ∨ (0x40 ≤ off ∧ off < 0xD8) ∨ (0x100 ≤ off ∧ off < 0x120) ∨ (0x200 ≤ off ∧ off < 0x800) then s
  else s.denied f

/-- R480: the sticky bits of one word of 32 counters, cleared where the write has a 1. -/
def clearSticky (k : Nat) (v : Word) (t : Tab Bool) : Tab Bool := tabKeep (fun c _ => c / 32 != k || !v.getLsbD (c % 32)) t

/-- R480: the counter page. -/
def writePmu (f off : Nat) (v : Word) (s : State) : State :=
  if off < 0xE00 then s
  else if off < 0xE38 ∨ (0xE40 ≤ off ∧ off < 0xE78) then
    if f ≠ 0 then s.denied f
    else if off < 0xE38 then s.modPmu fun p => { p with ovf := clearSticky ((off - 0xE00) / 4) v p.ovf }
    else s.modPmu fun p => { p with lost := clearSticky ((off - 0xE40) / 4) v p.lost }
  else if off = 0xE80 then s
  else if 0x1000 ≤ off ∧ off < 0x1400 then
    let k := (off - 0x1000) / 0x20
    if !s.hasCounter f k then s.denied f
    else if off % 0x20 = 0xC then
      s.modPmu fun p => { p with fc := tabMod p.fc k fun x => { x with ovf := x.ovf && !v.getLsbD 0, lost := x.lost && !v.getLsbD 1 } }
    else if off % 0x20 < 0xC then s
    else s.denied f
  else if 0x2000 ≤ off ∧ off < 0x5240 then s
  else s.denied f

/-- R78, R91, R123: the clock and pace registers; none takes a write. -/
def writeClk (f off : Nat) (s : State) : State :=
  if off < 0x1C ∨ (0x100 ≤ off ∧ off < 0x1A0) then s
  else if (0x200 ≤ off ∧ off < 0x220) ∨ (0x240 ≤ off ∧ off < 0x2A0) then (if s.hasFltRead f then s else s.denied f)
  else s.denied f

/-- R397, R519: the DMA block. -/
def writeDma (f off : Nat) (v : Word) (s : State) : State :=
  if off < 0x1000 then
    let c := off / 0x80
    let x := s.ch c
    let o := off % 0x80
    if !s.hasDma f c then s.denied f
    else if o < 8 then
      let b := putBase (o == 4) v x.base
      if refusedBase x.enable x.base b then (s.modCh c fun x => { x with refused := true }).count 395 else s.modCh c fun x => { x with base := b }
    else if o = 0x14 then s.modCh c fun x => { x with refused := x.refused && !v.getLsbD 4, overrun := x.overrun && !v.getLsbD 5 }
    else if o < 0x20 then s
    else s.denied f
  else if 0x2000 ≤ off ∧ off < 0x2200 then
    let q := (off - 0x2000) / 0x40
    let x := s.cq q
    let o := off % 0x40
    if !s.mayCq f q then s.denied f
    else if o < 8 then
      let b := putBase (o == 4) v x.base
      if refusedBase x.enable x.base b then s.count 395 else s.modCq q fun x => { x with base := b }
    else if o = 0x18 then s.modCq q fun x => { x with overflow := x.overflow && !v.getLsbD 1 }
    else if o < 0x1C then s
    else s.denied f
  else if off = 0x3000 ∨ off = 0x3004 ∨ (0x3010 ≤ off ∧ off < 0x3020) then s
  else s.denied f

/-- R216: the sill block. -/
def writeSill (f off : Nat) (v : Word) (s : State) : State :=
  let g := off / 0x100
  let o := off % 0x100
  if o = 0 then sillDoorbell f g (v.getLsbD 0) (v.getLsbD 1) s
  else if !s.hasGroup f g then s.denied f
  else if o = 4 then s.modGroup g fun c => { c with lateWrite := c.lateWrite && !v.getLsbD 5 }
  else if o < 0x2C then s
  else s.denied f

/-- R125: one 32-bit word of BAR0. -/
def writeReg (f off : Nat) (v : Word) (s : State) : State :=
  if off < 0x10000 then writeId f off v s
  else if s.boot.phase ≠ .running then s
  else if off < 0x20000 then
    if off - 0x10000 < 0x1000 then writeMbx f ((off - 0x10000) / 0x400) (off % 0x400) v s else s.denied f
  else if off < 0x20100 then writeRing f ((off - 0x20000) / 0x40) (off % 0x40) v s
  else if 0x28000 ≤ off ∧ off < 0x28800 then writeVec f (off - 0x28000) v s
  else if 0x2C000 ≤ off ∧ off < 0x2C010 then s
  else if off < 0x30000 then s.denied f
  else if off < 0x40000 then writeIntc f (off - 0x30000) s
  else if off < 0x50000 then writeFlt f (off - 0x40000) v s
  else if off < 0x60000 then writePmu f (off - 0x50000) v s
  else if off < 0x70000 then writeClk f (off - 0x60000) s
  else if off < 0x80000 then writeDma f (off - 0x70000) v s
  else if off < 0x100000 then s.denied f
  else if off < 0x500000 then s
  else if off < 0x501000 then writeSill f (off - 0x500000) v s
  else s.denied f

/-- Event 200 has counted one refusal more in `t` than in `s` (R124). -/
def refusedOnce (s t : State) : Bool := decide (tabGet s.pmu.inc 200 < tabGet t.pmu.inc 200)

/-- R124: a write of 8 bytes as its two words; refused in both it counts as one access. -/
def writeWide (f off : Nat) (v : Long) (s : State) : State :=
  let a := writeReg f off (v.setWidth 32) s
  let b := writeReg f (off + 4) ((v >>> 32).setWidth 32) a
  if refusedOnce s a && refusedOnce a b then
    (b.modFn f fun x => { x with denied := (a.fn f).denied }).modPmu fun p => { p with inc := tabMod p.inc 200 (· - 1) }
  else b

/-- R5, R124, R519: a write of 4 or 8 bytes at an offset of BAR0, applied field by field; one that is not naturally aligned is discarded. -/
def execRegisterWrite (fn : Fin 16) (offset : BitVec 26) (size : Nat) (value : Long) (s : State) : Host.Outcome State Fault Refusal :=
  if !s.reached fn then done s
  else
    let s := s.bar0
    let o := offset.toNat
    if size = 4 ∧ o % 4 = 0 then done (writeReg fn o (value.setWidth 32) s)
    else if size = 8 ∧ o % 8 = 0 then done (writeWide fn o value s)
    else done (s.denied fn)

end Sys2Proof.Machine
end

