-- ==== Sys2Proof/Machine/Boot.lean ====
section
/-! DEFINITION. Resets, the cold and the warm start, the boot-attempt counters, the boot watchdog and limp mode (R28–R58, R187, R188). -/

namespace Sys2Proof.Machine

/-! ### What a reset leaves -/

/-- R459: rails that a force held return to their unit; a quiet period that ran is over. What a source has recorded stays through a warm reset. -/
def FltSrc.afterReset (c : FltSrc) : FltSrc :=
  let c := { c with quietEnd := 0, quietClass := 0 }
  if c.forced then
    { c with forced := false, asserted := c.own.any fun p => !p.2, broken := c.own.any fun p => p.2, trans := c.trans || (c.own.isNone && c.cause) }
  else c

/-- R449, R455: after a reset the locked units are fenced, lowest source first, and firmware's view agrees. -/
def fenceLocked (s : State) : State :=
  let s := s.modFlt fun f =>
    { f with fence := s.fltMram.lock, order := (List.range 192).filter fun x => isCovered x && s.fltLocked x }
  let units := [(0, 16), (1, 16), (2, 8), (3, 8), (4, 4), (5, 4), (6, 4), (7, 1)]
  s.modFlt fun f =>
    { f with fwView := units.foldl (fun t u =>
        (List.range u.2).foldl (fun t i => tabSet t (65536 * u.1 + i) (s.hwView u.1 i)) t) [] }

/-- R443: the collector after a reset: its records and what its sources have recorded stay through a warm one. -/
def FltSt.afterReset (cold : Bool) (f : FltSt) : FltSt :=
  if cold then {}
  else
    { safe := f.safe, src := tabMap (fun _ c => c.afterReset) f.src, first := f.first, next := f.next, ring := f.ring, write := f.write,
      mirror := f.mirror, overflow := f.overflow, pulseEnd := f.pulseEnd, errnPin := f.errnPin, regionBad := f.regionBad }

/-- R133: the host port after a reset. -/
def HostSt.afterReset (cold : Bool) (h : HostSt) : HostSt :=
  { peRefclk := h.peRefclk, perstLow := h.perstLow, surpriseCount := if cold then 0 else h.surpriseCount, surpriseMs := if cold then 0 else h.surpriseMs }

/-- R46, R48: CXL memory after a reset: a cold one resets the expanders, and a warm one does not. -/
def MemSt.afterReset (cold : Bool) (m : MemSt) : MemSt :=
  if cold then {}
  else { m with ports := tabMap (fun _ (p : CxlPort) => { p with removing := false, awaitTruss := false, countReturn := false }) m.ports }

/-- R40, R187: a standing slot whose write a reset aborts holds nothing. -/
def abortStanding (s : State) : State :=
  (List.range 4).foldl (fun (s : State) k =>
    match (s.store k).job with | .standing x => s.modTruss fun t => { t with standing := tabErase t.standing x } | _ => s) s

/-- R39, R40, R48: every part of the GM8 but the always-on domain, the MRAM, the flash, the fuses and, in a warm reset, the CXL memory, PLL9 and
the surfaces and truss images it holds. -/
def enterReset (cold : Bool) (phase : Phase) (s : State) : State :=
  let s := abortStanding s
  let b := s.boot
  let boot : BootSt :=
    { phase := phase, gradeT := b.gradeT, strap := b.strap, strapBad := b.strapBad, tj := b.tj, imgA := b.imgA, imgB := b.imgB, imgGold := b.imgGold,
      steps := if cold then {} else b.steps, board := b.board, memInitDone := b.memInitDone && !cold, resetIgnored := b.resetIgnored && !cold }
  let clk : ClkSt := { aon := s.clk.aon, refOk := s.clk.refOk, plls := if cold then [] else tabSet [] 9 (s.pll 9) }
  let pins : PinSt :=
    { cxlPerstN := if cold then 0 else s.pins.cxlPerstN, cxlRefclk := if cold then 0 else s.pins.cxlRefclk, resetN := s.pins.resetN,
      emergLow := s.pins.emergLow, tmprLow := s.pins.tmprLow }
  let slots := if cold then [] else tabMap (fun _ (x : StoreSlot) => { (default : StoreSlot) with image := x.image, truss := x.truss }) s.truss.slots
  let t : State :=
    { s with
      boot := boot
      pins := pins
      clk := clk
      pace := {}
      mem := s.mem.afterReset cold
      host := s.host.afterReset cold
      intc := {}
      flt := s.flt.afterReset cold
      truss := { standing := s.truss.standing, preferred := s.truss.preferred, slots := slots }
      seq := { surfaces := if cold then [] else s.seq.surfaces }
      heads := []
      adt := {}
      net := {}
      dma := {}
      svc := {}
      sec := { fwCounter := s.sec.fwCounter, vendorRevoked := s.sec.vendorRevoked, level2Seen := s.sec.level2Seen && !cold, tamperSeen := s.sec.tamperSeen && !cold }
      pmu := {} }
  fenceLocked t

/-! ### The boot ROM -/

/-- R29: each strap bit takes the majority of its three reads. -/
def majority (x : BitVec 2 × BitVec 2 × BitVec 2) : BitVec 2 := (x.1 &&& x.2.1) ||| (x.1 &&& x.2.2) ||| (x.2.1 &&& x.2.2)

/-- R29, R30: the straps are sampled. -/
def sampleStraps (i : StartIn) (s : State) : State :=
  s.modBoot fun b => { b with strap := majority i.straps, strapBad := majority i.straps == 3, sampledNow := true }

/-- R54, R58, R441: a start begins, with its cause; `since` is its time 0. The GM8 counts its starts (R322, R441). -/
def beginStart (cause : Nat) (since : Nat) (s : State) : State :=
  let s := s.modBoot fun b =>
    { b with stage := 0, warm := cause != 0, cause := BitVec.ofNat 4 (2 ^ cause), sampledNow := false, startAt := since, severeSince := false,
             watchdogDue := since + secNs 8 + 1, watchdogExtended := false }
  let s := s.modFltMram fun m => { m with startNumber := m.startNumber + 1 }
  { s with adtCfg := { s.adtCfg with inst := s.adtCfg.inst + 1 }, clk := { s.clk with plan := 0, planFrac := 0 } }

/-- R38, R159: the ROM commands 0.80 V at the regulator's address and waits for READ_VOUT; where none answers, the start goes on in open-loop mode. The
board record is loaded at a cold start. ERR_N is released once the ROM self-test has passed (R44). -/
def romVolts (i : StartIn) (s : State) : State :=
  let s := s.modBoot fun b => { b with board := if b.steps.pllCal then b.board else s.bootMram.board }
  let s := busOut 0x8B 0 (busOut 0x21 800 (s.modPace fun p => { p with target := 800, read := i.vout.getD 0 }))
  let s := if i.vout.isNone then openLoop s else s
  s.modPins fun p => { p with errnHeld := false, flResetN := true }

/-- R48: the stored PLL calibration holds in this start. -/
def State.calHolds (s : State) (tj : Int) : Bool :=
  s.boot.warm && s.boot.steps.pllCal && s.bootMram.calValid && decide ((tj - s.bootMram.calTj).natAbs ≤ 40)

/-- R44, R68: PLL `k`, which has been calibrated, locks, or goes on trying with its gate closed. -/
def lockPll (k : Nat) (locks : Bool) (s : State) : State :=
  if locks then
    s.modPll k fun p => { p with locked := true, gated := false, acquiring := false, settling := false, opening := false, attempts := 0, recal := false }
  else ((acquirePll k (s.modPll k fun p => { p with locked := false, gated := true })).faultOpen (61 + k)).pend (437 + k)

/-- R61, R62: PLL8 or PLL9 with its fixed settings; the post-divider of its register is open (log 10). -/
def fixedPll (k : Nat) (locks : Bool) (s : State) : State :=
  let d := s.draw
  let p : Pll := { m := s.refHz / 25000000, nProg := if k = 8 then 160 else 200, p := d.1, bandB := true }
  lockPll k locks (d.2.modPll k fun _ => p)

/-- R44 step 3a, R48: the VCO calibration of the PLLs; PLL9 keeps running through a warm start while it is locked. -/
def calibrate (i : StartIn) (s : State) : State :=
  let held := s.calHolds i.tj
  let s := s.modBoot fun b => { b with stage := 1, calReused := held, tj := i.tj, steps := { b.steps with pllCal := true } }
  let s := if held then s else s.modBootMram fun m => { m with calValid := true, calTj := i.tj }
  let s := s.modClk fun c => { c with refOk := true, valid := true }
  let s := if s.boot.warm ∧ (s.pll 9).locked then s else fixedPll 9 (i.pllLocks.getLsbD 9) s
  fixedPll 8 (i.pllLocks.getLsbD 8) s

/-- R48: fault records that report an error of an SRAM. -/
def FltRec.ofSram (r : FltRec) : Bool :=
  let d := r.detail.toNat
  (r.source < 32 && d == 3) || (decide (32 ≤ r.source) && decide (r.source < 40) && d == 5) ||
    (decide (40 ≤ r.source) && decide (r.source < 52) && d == 3) || (decide (57 ≤ r.source) && decide (r.source < 61) && d == 4) ||
    (decide (95 ≤ r.source) && decide (r.source < 127) && d == 3) || (decide (127 ≤ r.source) && decide (r.source < 135) && d == 2) || r.source == 148

/-- R44 steps 3b and 4, R48: the SRAM BIST, run at a cold start or after an SRAM fault, and the MRAM scan. -/
def selfTests (s : State) : State :=
  let hurt := (s.fltMram.log.take 4096).any fun r => r.ofSram && decide (s.bootMram.bistSeq ≤ r.logSeq)
  let run := !s.boot.warm || !s.boot.steps.bist || hurt
  let s := s.modBoot fun b => { b with stage := 3, bistRun := run, steps := { b.steps with bist := true, mramScan := true } }
  if run then s.modBootMram fun m => { m with bistSeq := s.fltMram.logSeq } else s

/-- R53, R490: why image `k` is invalid, as a code of R490. -/
def State.imageBad (s : State) (k : Nat) (sigOk : Bool) : Option Nat :=
  let x := s.fwImage k
  if !sigOk then some 5 else if x.security.toNat < s.sec.fwCounter then some 6 else none

/-- R53, R498: the verification of image `k`. -/
def verifyImage (k : Nat) (sigOk : Bool) (s : State) : State :=
  if !(s.fwImage k).present then s
  else
    let bad := s.imageBad k sigOk
    let s := countVerify bad.isSome (putImage k { s.fwImage k with valid := bad.isNone } s)
    match bad with
    | some r => (s.fltFall 159).fault 159 (BitVec.ofNat 32 (k + 256 * r))
    | none => s

/-- R44 step 6, R48: signature verification, skipped while the warm token matches the images in flash. -/
def verifyImages (i : StartIn) (s : State) : State :=
  let token := [s.boot.imgA.digest, s.boot.imgB.digest, s.boot.imgGold.digest]
  let hit := s.boot.warm && s.boot.steps.verify && s.bootMram.warmToken == some token
  let s := s.modBoot fun b => { b with stage := 4, tokenHit := hit }
  if hit then s
  else
    let s := verifyImage 2 i.sigGold (verifyImage 1 i.sigB (verifyImage 0 i.sigA s))
    let all := (List.range 3).all fun k => (s.fwImage k).valid
    (s.modBootMram fun m => { m with warmToken := if all then some token else none }).modBoot fun b => { b with steps := { b.steps with verify := true } }

/-- What the boot ROM starts (R51). -/
inductive RomChoice where
  | recovery | limp
  | image (k : Nat)
  deriving DecidableEq, Repr, Inhabited

/-- R51–R53: the golden image, or limp mode. -/
def chooseGolden (s : State) : RomChoice × State :=
  if 3 ≤ s.bootMram.goldFail.toNat then (.limp, s)
  else if !s.boot.imgGold.valid then (.limp, s.modBootMram fun m => { m with goldFail := 3 })
  else (.image 2, s.modBootMram fun m => { m with goldFail := m.goldFail + 1 })

/-- R51–R53, R497: the choice of the image to start, with its counter; with no valid directory no image can be found. -/
def chooseImage (s : State) : RomChoice × State :=
  let k := if s.bootMram.selB then 1 else 0
  if s.boot.strap = 2 then (.recovery, s)
  else if (List.range 3).all (fun k => !(s.fwImage k).present) then (.limp, storeFault 173 (s.fltFall 173))
  else if s.boot.strap ≠ 1 ∧ s.bootMram.selFail.toNat < 3 then
    if (s.fwImage k).valid then (.image k, s.modBootMram fun m => { m with selFail := m.selFail + 1 })
    else chooseGolden (s.modBootMram fun m => { m with selFail := 3 })
  else chooseGolden s

/-! ### The safe field without a truss -/

/-- R55: a panel's preferred mode that limp mode may use: at most 1920 × 1200 at 60 Hz with a pixel clock of at most 165 MHz. -/
def panelSmall (m : PanelMode) : Bool :=
  decide (m.hactive ≤ 1920) && decide (m.vactive ≤ 1200) && decide (m.khz ≤ 165000) &&
    decide (2000 * m.khz < 121 * ((m.hactive + m.hfp + m.hsync + m.hbp) * (m.vactive + m.vfp + m.vsync + m.vbp)))

/-- R55: 1024 × 768 at 60 Hz (PRESUMED: VESA DMT 0x10). -/
def xgaMode : PanelMode :=
  { khz := 65000, hactive := 1024, hfp := 24, hsync := 136, hbp := 160, vactive := 768, vfp := 3, vsync := 6, vbp := 29 }

/-- R55: the timing of head `h` in limp mode; the PLL settings of a panel's mode are open within the ranges of R62 (log 10). -/
def limpTiming (h : Nat) (sink : SinkCaps) (s : State) : HeadTiming × State :=
  match s.bootMram.limp with
  | some x => ({ x with head := h, pll := h }, s)
  | none =>
    let m := match sink.preferred with | some m => if panelSmall m then m else xgaMode | none => xgaMode
    let a := s.draw
    let b := a.2.draw
    let c := b.2.draw
    ({ head := h, pll := h, clock := m.khz, m := 1 + a.1 % 64, p := 4 + b.1 % 252, n := 16 + c.1 % 8176, hactive := m.hactive, hfp := m.hfp, hsync := m.hsync, hbp := m.hbp,
       vactive := m.vactive, vfp := m.vfp, vsync := m.vsync, vbp := m.vbp, lanes := 4, rate := 4 }, c.2)

/-- R305: the sink that a start finds on head `h`. -/
def sinkOf (i : StartIn) (h : Nat) : Option SinkCaps := i.sinks.getD h none

/-- R44 step 12: a head that was given a timing has its PLL locked, and what is plugged in is trained. -/
def startHead (i : StartIn) (h : Nat) (s : State) : State :=
  let s := match (s.head h).timing with | some x => lockPll x.pll (i.pllLocks.getLsbD x.pll) s | none => s
  match sinkOf i h with
  | some k => plugHead h k s
  | none => s

/-- R55, R188: heads `hs` show the safe field with no truss. -/
def showSafeField (i : StartIn) (hs : List Nat) (s : State) : State :=
  let s := hs.foldl (fun (s : State) h =>
    let r := limpTiming h ((sinkOf i h).getD {}) s
    programPll r.1 (r.2.modHead h fun x => { x with timing := some r.1 })) s
  hs.foldl (fun (s : State) h => startHead i h s) (refreshPllHeads s)

/-- R55: limp mode. -/
def enterLimp (i : StartIn) (s : State) : State :=
  sensePerst (showSafeField i [0, 1] (s.modBoot fun b => { b with phase := .limp, stage := if s.flt.safe then 15 else 12, image := 3 }))

/-- R490: host recovery. The boot watchdog runs on, since no start is declared in it (R54). -/
def enterRecovery (s : State) : State :=
  sensePerst (s.modBoot fun b => { b with phase := .recovery, stage := if s.flt.safe then 15 else 13, image := 3 })

/-! ### Firmware starts -/

/-- R159, R484: the digest of the board configuration. -/
def BoardCfg.digest (b : BoardCfg) : Nat :=
  Config.sha3 ([b.refFreq, b.pmbusRate, b.regAddr] ++ leBytes 2 b.bands.toNat ++ leBytes 4 b.subsystem.toNat)

/-- R158, R484: the running image and the measurements. -/
def measure (k : Nat) (s : State) : State :=
  let x := s.fwImage k
  let st := s.standing s.truss.preferred
  let s := s.modBoot fun b => { b with phase := .running, image := BitVec.ofNat 2 k, fwVersion := x.version, measurement := x.digest }
  s.modSec fun c => { c with m3 := if st.valid then (readTruss st.image).sig.digest else 0, m4 := s.bootMram.board.digest }

/-- R85, R87, R93: firmware takes the regulator over and checks the pace monitors. -/
def startPace (i : StartIn) (s : State) : State :=
  let s := s.modPace fun p =>
    { p with cfg := s.paceMram, loopAt := s.now + msNs (max 1 s.paceMram.period), voutAt := s.now + msNs 100, ioutAt := s.now + msNs 100,
             tj := BitVec.ofNat 8 (max 0 (min 255 (i.tj + 64))).toNat }
  let s := busOut 0x20 0 s
  let s := if !s.pace.openLoop ∧ !i.linear then openLoop s else s
  (List.range 24).foldl (fun (s : State) m => if i.badMonitors.getLsbD m then monitorFail m s else s) s

/-- R94, R95: a link that trains at 32 GT/s or more, ×4 or wider, to a device that needs no option the port does not support. -/
def cxlGood (x : CxlIn) : Bool := x.up && x.supported && decide (32 ≤ x.gts) && decide (4 ≤ x.width)

/-- R95, R101: what training leaves in a port. -/
def cxlPut (x : CxlIn) (p : CxlPort) : CxlPort :=
  { p with fast := decide (64 ≤ x.gts), width := if 8 ≤ x.width then 8 else 4, deviceGib := x.gib, gib := min 512 x.gib, latency := x.latency,
           viral := false }

/-- R44 step 8a, R48, R94, R106: the link of port `m` trains at a start, or does not. Content that a port held stays through a warm start; one that
comes before the step was ever complete runs it as a cold start does. A device that needs an unsupported option leaves the port absent. -/
def trainCxl (i : StartIn) (m : Nat) (s : State) : State :=
  let x := i.cxl.getD m { up := false, gts := 0, width := 0, gib := 0, latency := 0, supported := true }
  let p := s.port m
  if s.boot.steps.cxl ∧ p.state = .outOfService then s
  else if cxlGood x then
    if !s.boot.steps.cxl then s.modPort m fun p => { cxlPut x p with state := PortState.up }
    else if p.state = .up then s.modPort m (cxlPut x)
    else s.modPort m fun p => { cxlPut x p with state := PortState.initialising, boundary := 0, foreLost := true }
  else if x.up then
    let s := (if s.boot.steps.cxl then s.memForget m else s).modPort m fun p => { p with state := .absent, boundary := 0, foreLost := true }
    if x.supported then (s.fltFall (52 + m)).fault (52 + m) 1 else s
  else if s.boot.steps.cxl ∧ (p.state = .up ∨ p.state = .initialising) then loseCxl m 2 (s.fltFall (52 + m))
  else s

/-- R18, R48, R98, R101: the expanders leave reset, their links train, and the first start since power-on to come this far takes the spread size. -/
def startCxl (i : StartIn) (s : State) : State :=
  let again := s.boot.steps.cxl
  let s := if again then s else s.modPins fun p => { p with cxlPerstN := 0xF, cxlRefclk := if (s.pll 9).gated then 0 else 0xF }
  let s := (List.range 4).foldl (fun (s : State) m => trainCxl i m s) s
  let s := s.modBoot fun b => { b with steps := { b.steps with cxl := true }, initAt := s.now }
  if again then s
  else
    let n := s.bootMram.spread
    let fits := (List.range 4).all fun m => (s.port m).state == .up && decide (n ≤ (s.port m).gib)
    let s := { s with mem := { s.mem with spread := if fits then n else 0 } }
    if n = 0 ∨ fits then s else s.fault 183 4

/-! ### The truss -/

/-- R46: the foreground step initialises the regions that a standing truss marks. -/
def foregroundInit (t : Truss) (s : State) : State :=
  (t.regions.filter fun r => r.flags.testBit 0).foldl (fun (s : State) r =>
    let s := (s.portSpans r.addr r.size).foldl (fun (s : State) p => s.countN (128 + 16 * p.1 + 2) ((p.2.2 - p.2.1) / 64)) s
    let inside := fun a => decide (r.addr ≤ a) && decide (a < r.addr + r.size)
    { s with mem := { s.mem with fore := (r.addr, r.size) :: s.mem.fore, bytes := tabKeep (fun a _ => !inside a) s.mem.bytes,
                                 poison := tabKeep (fun l _ => !inside (64 * l)) s.mem.poison } }) s

/-- R175, R221: the surface that a flash asset makes. Its geometry is not stated, and is open (log 10). -/
def assetSurface (t : Truss) (a : TAsset) (s : State) : State :=
  if a.handle = 0xFFFF then s
  else
    let w := s.draw
    let h := w.2.draw
    let st := h.2.draw
    let p := st.2.draw
    let d := p.2.draw
    let pattern := t.regions.any fun r => decide (r.addr ≤ a.addr) && decide (a.addr < r.addr + r.size) && r.flags.testBit 1
    d.2.modSurf a.handle fun _ =>
      { allocated := true, format := a.format, width := w.1, height := h.1, flags := BitVec.ofNat 8 (2 + 8 * (d.1 % 2)), addr := a.addr,
        stride := st.1, plane1 := p.1, made := 1, pattern := pattern }

/-- R402: character map `k` comes from the asset with no handle and format 0x00C0 + k. -/
def assetCharMap (a : TAsset) (b : List Byte) (s : State) : State :=
  let n := u b 4 4
  if a.handle = 0xFFFF ∧ 0xC0 ≤ a.format ∧ a.format < 0xD0 ∧ 16 + 8 * n ≤ b.length ∧ (charMapBad b n).isNone then
    s.modSvc fun v => { v with maps := tabSet v.maps (a.format - 0xC0) (charMapOf b) }
  else s

/-- R44 steps 8b to 11, R187: the truss of standing slot `k` is loaded into store slot 0, its regions initialised in the foreground where `fore` says
so, its assets copied, and admitted. -/
def loadStanding (i : StartIn) (fore : Bool) (k : Nat) (s : State) : Bool × State :=
  let x := s.standing k
  if !x.valid then (false, s)
  else
    let t := readTruss x.image
    let s := s.countN 439 (ceilDiv (x.image.length + (x.assets.map (·.length)).sum) 65536)
    let s := if fore then foregroundInit t s else s
    let s := (t.assets.zip x.assets).foldl (fun (s : State) (a : TAsset × List Byte) =>
      assetCharMap a.1 a.2 (assetSurface t a.1 (s.memWrite a.1.addr (fitBytes a.1.len a.2)))) s
    let s := s.modStore 0 fun _ => { fromStanding := k + 1 }
    match admitInto 0 x.image (if k = 0 then i.sigS0 else i.sigS1) 0x32 (storeCopy 0 x.image s) with
    | (none, s) => if t.flags.testBit 0 then (true, s) else (false, s.modStore 0 fun _ => {})
    | (some _, s) => (false, (s.modStore 0 fun _ => {}).modSeq fun q => { q with surfaces := [] })

/-- R49: the store slot whose image the resume record names and CXL memory still holds. -/
def State.resumeSlot (s : State) : Option Nat :=
  s.bootMram.resume.bind fun r => (List.range 4).find? fun k =>
    match (s.store k).truss with
    | some t => t.id == r.1 && t.sig.digest == r.2 && s.storeHolds k (s.store k).image
    | none => false

/-- R49: a warm start resumes the truss that was armed before it; the other store slots are empty after a start. -/
def resumeTruss (i : StartIn) (s : State) : Option Nat × State :=
  if !s.boot.warm then (none, s)
  else
    match s.resumeSlot with
    | none => (none, s)
    | some k =>
      let img := (s.store k).image
      match admitInto k img i.resumeOk 0x32 s with
      | (none, s) =>
        let s := s.modTruss fun t => { t with slots := tabKeep (fun j _ => j == k) t.slots }
        (some k, s.modBoot fun b => { b with trussResumed := true })
      | (some _, s) => (none, s)

/-- R44 steps 8b to 11, R49, R187: the truss that this start arms, by its store slot. -/
def chooseTruss (i : StartIn) (s : State) : Option Nat × State :=
  match resumeTruss i s with
  | (some k, s) => (some k, s)
  | (none, s) =>
    let s := (s.modTruss fun t => { t with slots := [] }).modSeq fun q => { q with surfaces := [] }
    let fore := !s.boot.steps.foreInit
    let a := loadStanding i fore s.truss.preferred s
    let b := if a.1 then a else loadStanding i fore (1 - s.truss.preferred) a.2
    (if b.1 then some 0 else none, b.2.modBoot fun b => { b with steps := { b.steps with foreInit := true } })

/-- R45: what a truss's regions beyond 16 GiB and assets beyond 64 MiB add to a cold start, ns. -/
def Truss.startExtra (t : Truss) : Nat :=
  msNs (5 * (ceilDiv (t.regions.map (·.size)).sum gib - 16) + 3 * (ceilDiv (t.assets.map (·.len)).sum (2 ^ 20) - 64))

/-- R54: firmware extends the watchdog once it knows the truss, to 5.5 s after the bound of R45; that of R50 never lies beyond 8 s. -/
def extendWatchdog (t : Truss) (s : State) : State :=
  let due := s.boot.startAt + msNs 8000 + t.startExtra + 1
  if !s.boot.warm ∧ s.boot.watchdogDue < due then s.modBoot fun b => { b with watchdogDue := due, watchdogExtended := true } else s

/-- R44, R50: how long after the release of the internal reset the truss is armed: within the bounds that the start guarantees. -/
def State.armDelay (s : State) (t : Truss) (i : StartIn) : Nat :=
  let redone := (if s.boot.calReused then 0 else 30) + (if s.boot.bistRun then 200 else 0) + (if s.boot.tokenHit then 0 else 200)
  if !s.boot.warm then min i.armAfter (msNs 1313 + t.startExtra) else min i.armAfter (msNs (295 + redone))

/-- R406: a persisted text is committed before the first sills: into both copies of its slot's map. -/
def restoreField (t : Truss) (k : Nat) (s : State) : State :=
  let d := s.fieldDef k
  let text := tabGet s.svcMram.texts k
  match t.slots.find? fun e => e.slot == d.slot with
  | none => s
  | some e =>
    let w := Llw.start e
    let m := s.surf w.surfaceHandle
    if !d.defined ∨ !d.flags.getLsbD 0 ∨ text.isEmpty ∨ e.type ≠ 1 ∨ !d.within w ∨ !m.allocated ∨ (m.format ≠ 0x50 ∧ m.format ≠ 0x51) then s
    else
      let laid := s.fieldCells d d.fg d.bg m.format w.cols text
      let s := s.writeCells w.surfaceHandle 0 w.cols laid.1
      let s := if m.flags.getLsbD 3 then s.writeCells w.surfaceHandle 1 w.cols laid.1 else s
      let s := s.modField k fun f => { f with commits := satInc f.commits }
      if d.flags.getLsbD 1 ∨ laid.2 ≠ 0 then s.pend 498 else s

/-- R406: every field that has a persisted text. -/
def restoreFields (t : Truss) (s : State) : State := (s.svcMram.texts.map (·.1)).foldl (fun (s : State) k => restoreField t k s) s

/-- R44 steps 12 and 13: the truss in store slot `k` is armed, its heads' PLLs locked and their links trained. -/
def armTruss (i : StartIn) (k : Nat) (s : State) : State :=
  let t := s.trussIn k
  let s := restoreFields t (extendWatchdog t s)
  let s := s.elapse (s.armDelay t i - s.clk.plan)
  let s := s.modBoot fun b => { b with stage := if s.flt.safe then 15 else 10, firstSills := BitVec.ofNat 16 (maskOf (t.groups.map (·.id))) }
  let s := match s.switchPlan k with | some plan => takeSwitch 16 k plan s | none => s
  let s := t.outputs.foldl (fun (s : State) o =>
    match (if o.kind = 0 then t.timing o.unit else none) with
    | some x => joinHead o.unit o.group ((t.group o.group).getD {}).base x s
    | none => s) s
  (List.range 8).foldl (fun (s : State) h => startHead i h s) s

/-- R188, R341: neither standing slot gave a truss: every head shows the safe field, endpoints in session are sent BLANK with notice, and the start is
declared. -/
def startWithout (i : StartIn) (s : State) : State :=
  let s := showSafeField i (List.range 8) (s.elapse (s.armDelay {} i - s.clk.plan)) |>.fault 183 5
  let s := (s.adt.peers.filter fun e => decide (e.1 < 1024) && e.2.inSession).foldl (fun (s : State) e => s.sendBlank e.1 (s.safeBlank 1)) s
  (s.modBoot fun b => { b with stage := if s.flt.safe then 15 else 11, declared := true, watchdogDue := 0 }).modBootMram fun m =>
    { m with selFail := 0, goldFail := 0 }

/-- R44, R48: firmware of image `k` starts: its links, its truss, and an EMERG_N that is low (R416). -/
def startFirmware (i : StartIn) (k : Nat) (s : State) : State :=
  let s := startCxl i (startPace i (sensePerst (measure k s)))
  let s := if s.netMram.time.role = 0 then s else selectClock s
  let r := chooseTruss i s
  let s := match r.1 with | some k => armTruss i k r.2 | none => startWithout i r.2
  if s.pins.emergLow then emergAssert s else s

/-- R44, R48: the ROM's steps from the calibration on; without REFCLK it waits (R47). -/
def romSteps (i : StartIn) (s : State) : State :=
  if !i.refclk then s.modBoot fun b => { b with phase := .waitRef, stage := 14 }
  else
    let s := s.modHost fun h => { h with peRefclk := i.peRefclk }
    let r := chooseImage (verifyImages i (selfTests (calibrate i s)))
    match r.1 with
    | .recovery => enterRecovery r.2
    | .limp => enterLimp i r.2
    | .image k => startFirmware i k r.2

/-- R44, R48: a start from its release on. -/
def runStart (i : StartIn) (s : State) : State := romSteps i (romVolts i s)

/-- R48: a warm start with its cause: 1 the pin, 2 KCP, 3 the watchdog. -/
def warmStart (cause : Nat) (i : StartIn) (s : State) : State :=
  let s := beginStart cause s.now s
  runStart i (if cause = 1 then sampleStraps i s else s)

/-- R34: an MRAM record that a power loss tore is discarded: what it set is as delivered. -/
def discardRecord (r : MramRecord) (s : State) : State :=
  match r with
  | .pllCal => s.modBootMram fun m => { m with calValid := false }
  | .warmToken => s.modBootMram fun m => { m with warmToken := none }
  | .resume => s.modBootMram fun m => { m with resume := none }
  | .limp => s.modBootMram fun m => { m with limp := none }
  | .board => s.modBootMram fun m => { m with board := {} }
  | .spread => s.modBootMram fun m => { m with spread := 0 }
  | .settle => s.modBootMram fun m => { m with settle := 4096 }
  | .pace => { s with paceMram := {} }
  | .safeField => s.modFltMram fun m => { m with safeField := [] }
  | .fieldDef k => s.modSvcMram fun m => { m with fields := tabErase m.fields k }
  | .fieldText k => s.modSvcMram fun m => { m with texts := tabErase m.texts k }
  | .message k => s.modSvcMram fun m => { m with messages := tabErase m.messages k }
  | .opKey k => s.modSecMram fun m => { m with keys := tabErase m.keys k }
  | .netMgmt => { s with netMgmt := {} }
  | .netKey k => { s with netKeys := tabErase s.netKeys k }
  | .ethPort p => { s with netMram := { s.netMram with ports := tabErase s.netMram.ports p } }
  | .mkaKey p => { s with netMram := { s.netMram with keys := tabErase s.netMram.keys p } }
  | .timeCfg => { s with netMram := { s.netMram with time := {} } }
  | .fault x => s.modFltMram fun m => { m with cfg := tabErase m.cfg x }
  | .counters => { s with pmuMram := {} }

/-- R44: a cold start; `since` is the instant the last rail became valid. Power was lost before it, so what it tore is discarded (R34). -/
def coldStart (since : Nat) (i : StartIn) (s : State) : State :=
  runStart i (sampleStraps i (beginStart 0 since (i.torn.foldl (fun (s : State) r => discardRecord r s) s)))

/-! ### The rows -/

/-- R33, R44: the internal power-on reset is released, 2 ms after the last rail became valid; a start waits for RESET_N to rise (R29). -/
def execPowerOnReset (i : StartIn) (s : State) : Host.Outcome State Fault Refusal :=
  let s := if s.boot.phase = .powerOnReset then s else enterReset true .powerOnReset s
  let since := s.now
  let s := s.elapse (msNs 2)
  if s.pins.resetN then done (coldStart since i s)
  else done (s.modBoot fun b => { b with phase := .pinReset, coldPending := true, startAt := since })

/-- R47: a retry, 100 ms after the last one. -/
def execRefclkWaitRetry (i : StartIn) (s : State) : Host.Outcome State Fault Refusal :=
  if s.boot.phase ≠ .waitRef then done s else done (romSteps i (s.elapse (msNs 100)))

/-- R35: the brown-out threshold of a rail, mV; none for a rail that is not watched. -/
def brownOutAt : Rail → Option Nat
  | .vddCore => some 660 | .vddSram => some 720 | .vddaPll => some 1600 | .vddio1v8 => some 1600 | .vddio3v3 => some 2900
  | .vddaSer => none | .vddaDp => none | .vddhSer => none | .vddhDp => none

/-- R35: a rail has been at `mv` for `ns`. -/
def execBrownOut (rail : Rail) (mv ns : Nat) (s : State) : Host.Outcome State Fault Refusal :=
  match brownOutAt rail with
  | none => done s
  | some t => if mv < t ∧ 2000 < ns then done (enterReset true .powerOnReset s) else done s

/-- R40, R43: RESET_N has been low for `ns`. Under 1 µs it is ignored, from 10 µs on it resets, and between the two it is open (log 10). -/
def execResetNAssert (lowNs : Nat) (s : State) : Host.Outcome State Fault Refusal :=
  if lowNs < 1000 then done s
  else
    let d := s.draw
    let s := if lowNs < 10000 then d.2 else s
    if lowNs < 10000 ∧ d.1 % 2 = 0 then done s
    else if s.boot.phase = .powerOnReset ∨ s.boot.phase = .pinReset then done (s.modPins fun p => { p with resetN := false })
    else if s.flt.safe then done (((s.modBoot fun b => { b with resetIgnored := true }).modPins fun p => { p with resetN := false }).faultOpen 183)
    else done ((enterReset false .pinReset s).modPins fun p => { p with resetN := false })

/-- R29, R40, R48: RESET_N rises. -/
def execResetNRelease (i : StartIn) (s : State) : Host.Outcome State Fault Refusal :=
  let s := s.modPins fun p => { p with resetN := true }
  if s.boot.phase ≠ .pinReset then done s
  else if s.boot.coldPending then done (coldStart s.boot.startAt i (s.modBoot fun b => { b with coldPending := false }))
  else done (warmStart 1 i s)

/-- R41: the KCP reset that was accepted begins. R43 refuses one in the safe state; one accepted before begins all the same (DEDUCED, log 36). -/
def execKcpResetBegin (i : StartIn) (s : State) : Host.Outcome State Fault Refusal :=
  if s.host.kcpResetDue = 0 ∨ s.boot.flashBusy then done s
  else done (warmStart 2 i (enterReset false .pinReset (s.untilAon (s.host.kcpResetDue - 1))))

/-- R54: the boot watchdog expires; in the safe state too, which a warm start keeps (R43). -/
def execBootWatchdogExpiry (i : StartIn) (s : State) : Host.Outcome State Fault Refusal :=
  if s.boot.watchdogDue = 0 then done s
  else done (warmStart 3 i (enterReset false .pinReset (s.untilAon (s.boot.watchdogDue - 1))))

/-- R46, R118: the background initialisation of all memory is complete. -/
def execMemInitDone (s : State) : Host.Outcome State Fault Refusal :=
  if s.boot.phase ≠ .running ∨ s.boot.memInitDone then done s
  else
    let s := s.bgAdvance
    let s := (List.range 4).foldl (fun (s : State) m =>
      let p := s.port m
      if p.state ≠ .up then s
      else (s.countInit m p.boundary (p.gib * gib)).modPort m fun p => { p with boundary := p.gib * gib }) s
    done (s.modBoot fun b => { b with memInitDone := true })

end Sys2Proof.Machine
end

