-- ==== Sys2Proof/Machine/ClkGate.lean ====
section
/-! DEFINITION. REFCLK, loss of lock and relock: what the gates of the PLLs take with them (R60, R65–R69, R72). -/

namespace Sys2Proof.Machine

/-- R65, R66, R68: PLL `k` is out of lock or out of reference. -/
def losePll (k : Nat) (s : State) : State :=
  let open' := !(s.pll k).gated
  closeGate k (s.modPll k fun p =>
    { p with locked := false, settling := false, opening := false, losses := if open' then satInc p.losses else p.losses,
             attempts := if open' then 0 else p.attempts, recal := if open' then false else p.recal })

/-- R18, R67: with PLL9's gate closed CXLm_REFCLK stops, and the CXL and Ethernet links drop; CXLm_PERST_N stays high. -/
def dropLinks (s : State) : State :=
  let s := s.modPins fun p => { p with cxlRefclk := 0 }
  let s := (List.range 4).foldl (fun (s : State) m => loseCxl m 2 s) s
  (List.range 4).foldl (fun (s : State) p => if (s.eth p).up then dropEth p s else s) s

/-- R60, R69: REFCLK is lost: every PLL is out of reference in one collector cycle. -/
def execRefclkLoss (s : State) : Host.Outcome State Fault Refusal :=
  if !s.clk.refOk then done s
  else
    let ks := List.range 10
    let open' := !(s.pll 9).gated
    let s := s.modClk fun c => { c with refOk := false, lossCount := satInc c.lossCount, valid := false }
    let s := ks.foldl (fun (s : State) k => (losePll k s).modPll k fun p => { p with acquiring := false }) s
    let r := ks.foldl (fun (acc : List (Nat × Word × Bool) × State) k =>
      let d := acc.2.draw
      (acc.1 ++ [(61 + k, BitVec.ofNat 32 d.1, false)], d.2)) ([], s)
    let s := ks.foldl (fun (s : State) k => s.pend (437 + k)) (r.2.faults r.1)
    done (if open' then dropLinks s else s)

/-- R60, R69: REFCLK is present again: every PLL relocks, and network time is acquired as at first. -/
def execRefclkReturn (s : State) : Host.Outcome State Fault Refusal :=
  if s.clk.refOk || s.boot.phase == .powerOnReset || s.boot.phase == .pinReset || s.boot.phase == .waitRef then done s
  else
    let s := s.modClk fun c => { c with refOk := true, valid := true, everLocked := false, goodSyncs := 0 }
    done ((List.range 10).foldl (fun (s : State) k => if (s.pll k).failed then s else acquirePll k s) s)

/-- R65, R67: PLL `k` loses lock. -/
def execPllLossOfLock (k : Fin 10) (s : State) : Host.Outcome State Fault Refusal :=
  if !(s.pll k).locked then done s
  else
    let t := ((acquirePll k (losePll k s)).faultOpen (61 + k)).pend (437 + k)
    done (if k.val = 9 ∧ (s.pll 9).gated = false then dropLinks t else t)

/-- R65, R68: PLL `k` is locked and its settle count starts. -/
def execPllLock (k : Fin 10) (s : State) : Host.Outcome State Fault Refusal :=
  if !(s.pll k).acquiring || !s.clk.refOk then done s
  else done (s.modPll k fun p => { p with locked := true, acquiring := false, settling := true, lockedAt := s.now })

/-- R68: the settle count of PLL `k` expires. -/
def execPllSettleDone (k : Fin 10) (s : State) : Host.Outcome State Fault Refusal :=
  let p := s.pll k
  if !p.settling then done s
  else done ((s.untilAon (p.lockedAt + s.pfdNs k p.settle)).modPll k fun p => { p with settling := false, opening := true })

/-- R68, R196: after PLL8 relocks each group resumes at its next sill on its grid, with an arm accepted before the loss. -/
def resumeGroups (s : State) : State :=
  let s := allGroups.foldl (fun (s : State) g =>
    if !s.grpRuns g then s
    else
      let s := regrid g s.clk.plan s
      let n := s.frameAfter g 0
      s.modGroup g fun c => { c with arm := c.arm.map fun a => { a with wait := 0, target := n } }) s
  s.modSeq fun q => { q with deferred := q.deferred.map fun d => { d with wait := 0 } }

/-- R68, R72: at the SYNC-aligned phase the gate of PLL `k` opens: with SYNC_IN as its tracking source, at the instant of an accepted edge; else
at the next grain boundary. After PLL9 relocks CXLm_REFCLK runs again where CXLm_PERST_N is high, and the heads retrain; CXL and Ethernet links come up
by their own rows. -/
def execPllGateOpen (k : Fin 10) (s : State) : Host.Outcome State Fault Refusal :=
  let p := s.pll k
  if !p.opening || (p.trackSrc == 1 && s.clk.syncAccepted != s.clk.plan + 1) then done s
  else
    let s := if p.trackSrc = 1 then s else s.untilPlan (ceilDiv s.clk.plan grain * grain)
    let s := s.modPll k fun p => { p with gated := false, opening := false, relocks := satInc p.relocks, attempts := 0, recal := false }
    let s := if k.val = 8 then pmuStart s else s
    if k.val < 8 then done ((s.pllHeads k).foldl (fun (s : State) h => endRelock h s) s)
    else if k.val = 8 then done (resumeGroups s)
    else done ((List.range 8).foldl (fun (s : State) h =>
      if (s.head h).hpd && (s.head h).state == .plugged then startTraining h false s else s)
        (s.modPins fun p => { p with cxlRefclk := p.cxlPerstN }))

/-- R68: PLL `k` has not locked within 50 ms of its attempt. -/
def execPllRelockTimeout (k : Fin 10) (s : State) : Host.Outcome State Fault Refusal :=
  let p := s.pll k
  if !p.acquiring then done s
  else
    let s := s.untilAon (p.attemptAt + msNs 50)
    if 3 ≤ p.attempts + 1 then
      done ((s.modPll k fun p => { p with attempts := p.attempts + 1, failed := true, acquiring := false }).pend (437 + k))
    else done (s.modPll k fun p => { p with attempts := p.attempts + 1, recal := true, attemptAt := s.now })

end Sys2Proof.Machine
end

