-- ==== Sys2Proof/Machine/Disagree.lean ====
section
/-! DEFINITION. Disagreements between the hardware view and the firmware view of a unit or a peer (R455, R456). -/

namespace Sys2Proof.Machine

/-- R456: units or peers of each kind. -/
def viewUnits (kind : Nat) : Nat := [16, 16, 8, 8, 4, 4, 4, 1, 1024, 256].getD kind 0

/-- R455: item `i` of truss `t` in variant `v`, or its output, uses a unit. -/
def State.itemUses (s : State) (t : Truss) (v kind index : Nat) (i : TItem) : Bool :=
  let o := t.output i.out
  if kind = 0 ∨ kind = 1 then i.lane == index
  else if kind = 3 then bitOf 1 i.dest && bitsOf 5 3 i.dest == index
  else if kind = 5 then
    (t.entriesOf v i).any (fun e => (entryPorts e).any fun p => p.1 == index) ||
      (bitOf 2 i.dest && (s.wb (bitsOf 3 2 i.dest)).targets.any fun h => (s.surf h).port == index)
  else kind == 6 && o.kind == 1 && (match t.binding 0 o.unit with | some b => bitOf index b.ports | none => false)

/-- R455: unit or peer `index` of a kind affects group `g`. -/
def State.viewAffects (s : State) (kind index g : Nat) : Bool :=
  match s.grpTruss g with
  | none => false
  | some t =>
    let v := (s.group g).variant
    if kind = 2 then t.outputs.any fun o => o.kind == 0 && o.unit == index && o.group == g
    else if kind = 7 then (t.itemsOf v).any fun i => t.itemGroup i == g
    else if kind = 8 then t.outputs.any fun o => o.kind == 1 && o.unit == index && o.group == g
    else if kind = 9 then (t.groupSlots g).any fun e => e.type == 3 && e.source == index
    else if kind = 4 then (t.groupSlots g).any fun e => e.type == 3 && t.decoderOf v e.source == index
    else (t.itemsOf v).any fun i => t.itemGroup i == g && s.itemUses t v kind index i

/-- R455: the groups that a unit or peer affects. -/
def State.viewGroups (s : State) (kind index : Nat) : Half :=
  BitVec.ofNat 16 ((allGroups.filter fun g => s.viewAffects kind index g).foldl (fun m g => m + 2 ^ g) 0)

/-- The disagreement that is open on a unit. -/
def State.openOn (s : State) (kind index : Nat) : Option Disagree := s.flt.disagreements.find? fun d => d.kind == kind && d.index == index

/-- Changes the disagreement that is open on a unit. -/
def modDisagree (kind index : Nat) (f : Disagree → Disagree) (s : State) : State :=
  s.modFlt fun c => { c with disagreements := c.disagreements.map fun d => if d.kind = kind ∧ d.index = index then f d else d }

/-- R456: the event of a disagreement, code 0 still open at 1 ms or 1 closed. -/
def disagreeEvent (code : Nat) (d : Disagree) (s : State) : State :=
  s.serviceEvent s.hearsFaults 0x0700 code (65536 * d.kind + d.index)
    ([BitVec.ofNat 8 d.hw, BitVec.ofNat 8 d.fw] ++ leBytes 2 d.groups.toNat ++ zeros 4)

/-- R455, R462: the two views of a unit have come to differ. -/
def execDisagreeOpen (kind : Fin 10) (index : Half) (s : State) : Host.Outcome State Fault Refusal :=
  let k := kind.val
  let i := index.toNat
  if viewUnits k ≤ i ∨ s.hwView k i = s.swView k i ∨ (s.openOn k i).isSome then done s
  else
    let d : Disagree :=
      { kind := k, index := i, hw := s.hwView k i, fw := s.swView k i, groups := s.viewGroups k i, openedAt := s.now, openedPlan := s.clk.plan }
    done ((s.modFlt fun c => { c with disagreements := c.disagreements ++ [d] }).count 435)

/-- R456: a disagreement is still open 1 ms after it opened. -/
def execDisagree1ms (kind : Fin 10) (index : Half) (s : State) : Host.Outcome State Fault Refusal :=
  match s.openOn kind.val index.toNat with
  | none => done s
  | some d =>
    if d.reported then done s
    else
      let s := (s.untilAon (d.openedAt + msNs 1)).modFlt fun c => { c with disagreeEvents := satInc c.disagreeEvents }
      done ((disagreeEvent 0 d (modDisagree d.kind d.index (fun d => { d with reported := true }) s)).pend 470)

/-- R455: the plan times at which the first sills after a disagreement opened have ended; none while a group is still to have its own. -/
def State.windowEnd (s : State) (d : Disagree) : Option Nat :=
  let gs := allGroups.filter fun g => d.groups.getLsbD g && s.grpRuns g
  if gs.isEmpty || gs.any (fun g => decide ((s.group g).sillAt ≤ d.openedPlan)) then none
  else some (gs.foldl (fun m g => max m ((s.group g).sillAt + 8 * grain)) 0)

/-- R455, R456: a disagreement is still open at the end of its window: the last first sill, after it opened, of the groups it affects. -/
def execDisagreeWindowEnd (kind : Fin 10) (index : Half) (s : State) : Host.Outcome State Fault Refusal :=
  match s.openOn kind.val index.toNat with
  | none => done s
  | some d =>
    if d.late then done s
    else
      match s.windowEnd d with
      | none => done s
      | some t =>
        let s := modDisagree d.kind d.index (fun d => { d with late := true }) (s.untilPlan t)
        done (s.fault 185 (BitVec.ofNat 32 (65536 * d.kind + d.index)))

/-- R455, R456: firmware brings its view to the hardware view; of a peer that is its session's state. -/
def execDisagreeClose (kind : Fin 10) (index : Half) (s : State) : Host.Outcome State Fault Refusal :=
  match s.openOn kind.val index.toNat with
  | none => done s
  | some d =>
    let hw := s.hwView d.kind d.index
    let s := if d.kind < 8 then s.modFlt fun c => { c with fwView := tabSet c.fwView (65536 * d.kind + d.index) hw }
      else if s.swView d.kind d.index = hw then s
      else
        let k := d.index + if d.kind = 9 then 1024 else 0
        if hw = 0 then s.peerState k (s.liveState k) 0 else resetHeld k (s.peerState k 3 0)
    let s := s.modFlt fun c => { c with disagreements := c.disagreements.filter fun x => x.kind != d.kind || x.index != d.index }
    done (if d.reported then disagreeEvent 1 { d with hw := hw, fw := hw } s else s)

end Sys2Proof.Machine
end

