-- ==== Sys2Proof/Machine/Ingest.lean ====
section
/-! DEFINITION. Camera ingest: slices received, frames checked, completed or abandoned, and the ingest commands
(R347, R375–R380, R401). -/

namespace Sys2Proof.Machine

/-- R347: slices of one frame of a source. -/
def TBinding.sliceCount (b : TBinding) : Nat := b.width / max 1 b.sliceW * ceilDiv b.height (max 1 b.sliceH)

/-- R380, R399: the ring of source `i` may be written. -/
def State.ingRuns (s : State) (i : Nat) : Bool := !s.flt.safe && (s.peer (1024 + i)).stop == 0 && !s.fenced (131 + i / 64)

/-- R378: a frame that is being received. -/
def State.ingFrame (s : State) (i frame : Nat) : Option IngFrame := (s.ing i).now.find? fun f => f.frame == frame

/-- Changes a frame that is being received. -/
def State.modFrame (i frame : Nat) (g : IngFrame → IngFrame) (s : State) : State :=
  s.modIng i fun x => { x with now := x.now.map fun f => if f.frame = frame then g f else f }

/-- R378, R398: a frame is abandoned; its buffer is free again. -/
def abandonFrame (i frame : Nat) (s : State) : State :=
  ((s.modIng i fun x => { x with now := x.now.filter fun f => f.frame != frame, abandoned := satInc x.abandoned }).count 362).pend (409 + i / 16)

/-! ### Buffers -/

/-- R379: buffer `b` of source `i` may take a new frame. -/
def State.bufferFree (s : State) (i b : Nat) : Bool :=
  let x := s.ing i
  let mark := x.bufAddr b + 1
  x.latest != b + 1 && !(x.now.any fun f => f.buffer == b) && !(s.seq.slots.any fun c => c.2.buffer == mark || c.2.nextBuffer == mark)

/-- R379: the free buffer that completed least recently. -/
def State.pickBuffer (s : State) (i : Nat) : Option Nat :=
  let x := s.ing i
  ((List.range x.depth).filter (s.bufferFree i)).foldl (fun (m : Option Nat) b =>
    match m with
    | some a => if (tabGet x.bufs b).doneAt < (tabGet x.bufs a).doneAt then some b else m
    | none => some b) none

/-- R347, R379: the first slice of a frame: discarded when it comes too soon, dropped when no buffer is free. -/
def beginFrame (i frame : Nat) (b : TBinding) (s : State) : State :=
  let x := s.ing i
  let soon := x.started != 0 && decide ((s.now - (x.prevAt - 1)) * 10 < 9 * b.period * 1000)
  let s := s.modIng i fun x => { x with started := frame + 1, prevAt := s.now + 1 }
  if soon then s.modIng i fun x => { x with tooSoon := frame + 1 }
  else
    match s.pickBuffer i with
    | none => ((s.modIng i fun x => { x with dropped := satInc x.dropped }).count 363).pend (409 + i / 16)
    | some k =>
      s.modIng i fun x => { x with now := x.now ++ [{ frame := frame, buffer := k, since := s.now }],
                                   bufs := tabMod x.bufs k fun u => { u with complete := false } }

/-! ### Slices -/

/-- Splits a list into lines of `w`. -/
def linesOf (w : Nat) : Nat → List Nat → List (List Nat)
  | 0, _ => []
  | n + 1, l => l.take w :: linesOf w n (l.drop w)

/-- R347: a decoded slice as a strip: its codes, plane by plane. -/
def sliceStrip (b : TBinding) (codes : List Nat) : Strip :=
  let w := b.sliceW
  let h := b.sliceH
  let sub := encChroma b.enc
  let cw := if 2 ≤ sub then w / 2 else w
  let ch := if sub = 3 then h / 2 else h
  { a := linesOf w h codes, b := linesOf cw ch (codes.drop (w * h)), c := linesOf cw ch (codes.drop (w * h + cw * ch)),
    alpha := linesOf w h (List.replicate (w * h) 65535) }

/-- One write of ingest, counted. -/
def ingPut (acc : Bool × State) (a : Nat) (bs : List Byte) : Bool × State :=
  (acc.1 && (memLines a bs.length).all acc.2.memUp, (acc.2.memWrite a bs ⟨1, 68, 16⟩).countUnits 364 64 bs.length)

/-- R375, R378: a slice is written into a buffer at `base`; answers whether every write landed. -/
def writeSlice (b : TBinding) (base index : Nat) (st : Strip) (s : State) : Bool × State :=
  let r := ringBuffer ((encFormat b.enc).getD 0) b.width b.height
  let per := b.width / max 1 b.sliceW
  let y0 := index / max 1 per * b.sliceH
  let x0 := index % max 1 per * b.sliceW
  let size := (wbElement b.enc 0 0 0 0).length
  let acc := (List.range (min b.sliceH (b.height - y0))).foldl (fun (acc : Bool × State) y =>
    ingPut acc (base + (y0 + y) * r.1 + x0 * size) (line0 b.enc st y)) (true, s)
  if encChroma b.enc < 2 then acc
  else
    let half := encChroma b.enc = 3
    let c0 := if half then y0 / 2 else y0
    let n := if half then ceilDiv (min b.sliceH (b.height - y0)) 2 else min b.sliceH (b.height - y0)
    let csize := (chromaElement b.enc 0 0).length
    (List.range n).foldl (fun (acc : Bool × State) y =>
      ingPut acc (base + r.2.1 + (c0 + y) * r.1 + x0 / 2 * csize) (line1 b.enc st y)) acc

/-- R349, R378: a whole slice of a frame that is being received: its digest, its decoding, and its writes. -/
def takeSlice (i : Nat) (b : TBinding) (f : IngFrame) (index digest : Nat) (payload : List Byte) (s : State) : State :=
  let s := s.modFrame i f.frame fun f => { f with frags := tabKeep (fun k _ => k / 64 != index) f.frags }
  let d := s.ing i |>.decoder
  if (crc64 payload).toNat ≠ digest then s.count 365
  else if 4 ≤ d ∨ s.fenced (48 + d) then s
  else
    match Config.dscDecode b.bpp b.enc b.sliceW b.sliceH payload with
    | none => abandonFrame i f.frame (s.count 344)
    | some codes =>
      let s := (s.countUnits (336 + d) 1024 (b.sliceW * b.sliceH)).count (340 + d)
      let r := writeSlice b ((s.ing i).bufAddr f.buffer) index (sliceStrip b codes) s
      if r.1 then (r.2.count 360).modFrame i f.frame fun f => { f with slices := tabSet f.slices index (digest + 1) } else r.2

/-- R378: keeps one fragment; a slice whose fragments are all there is decoded. -/
def takeFragment (i : Nat) (b : TBinding) (f : IngFrame) (index frag count digest : Nat) (payload : List Byte) (s : State) : State :=
  if tabGet f.slices index ≠ 0 then s
  else
    let f := { f with frags := tabSet f.frags (64 * index + frag) payload }
    let s := s.modFrame i f.frame fun _ => f
    if (List.range count).all fun k => tabGet f.frags (64 * index + k) != [] then
      takeSlice i b f index digest ((List.range count).flatMap fun k => tabGet f.frags (64 * index + k)) (s.count 246)
    else s

/-- R347, R378: a SLICE of a source arrives. -/
def execSourceSliceRx (d : AdtDgram) (frame : Word) (index : Half) (frag fragCount : Byte) (digest : Long) (offset : Word) (payload : List Byte)
    (s : State) : Host.Outcome State Fault Refusal :=
  match adtTake (some true) 0x10 (d.size == 24 + payload.length) d s with
  | (none, s) => done s
  | (some k, s) =>
    let i := k - 1024
    let n := frame.toNat
    match s.peerBinding k with
    | none => done s
    | some b =>
      let sizes := fragSizes (sliceBytes b.bpp b.sliceW b.sliceH) b.fragBytes
      if b.sliceCount ≤ index.toNat ∨ fragCount.toNat ≠ sizes.length ∨ sizes.length ≤ frag.toNat ∨ offset.toNat ≠ frag.toNat * b.fragBytes ∨
          payload.length ≠ sizes.getD frag.toNat 0 then done (s.count 249)
      else if !s.ingRuns i || (s.ing i).decoder == 4 then done s
      else
        let x := s.ing i
        let newer := x.started == 0 || (let up := (frame - BitVec.ofNat 32 (x.started - 1)).toNat; up != 0 && decide (up < 2 ^ 31))
        let s := if newer then beginFrame i n b s else s
        match s.ingFrame i n with
        | none => done (if (s.ing i).tooSoon = n + 1 then s.count 249 else s)
        | some f => done (takeFragment i b f index.toNat frag.toNat sizes.length digest.toNat payload s)

/-! ### The end of a frame -/

/-- R347: the CRC-64 over a frame's slice digests. -/
def frameDigest (b : TBinding) (f : IngFrame) : Nat := digestsOf ((List.range b.sliceCount).map fun i => tabGet f.slices i - 1)

/-- R378: every slice of a frame has been decoded and written. -/
def IngFrame.whole (f : IngFrame) (b : TBinding) : Bool := (List.range b.sliceCount).all fun i => tabGet f.slices i != 0

/-- R347, R338: asks a source for the missing fragments of a frame, at most 100 slices. -/
def repairSource (k : Nat) (b : TBinding) (f : IngFrame) (s : State) : State :=
  let count := (fragSizes (sliceBytes b.bpp b.sliceW b.sliceH) b.fragBytes).length
  let missing := ((List.range b.sliceCount).filter fun i => tabGet f.slices i == 0).take 100
  let mask := fun i =>
    let lost := (List.range count).filter fun j => tabGet f.frags (64 * i + j) == []
    if lost.length = count then 2 ^ 64 - 1 else (lost.map fun j => 2 ^ j).sum
  s.adtSend k "REPAIR" (8 + 12 * missing.length) ([f.frame, 0, missing.length] ++ missing.flatMap fun i => [i, mask i])

/-- R347, R378: a FRAME_DONE arrives. -/
def execFrameDoneRx (d : AdtDgram) (frame : Word) (capture : Long) (slices : Half) (digest : Long) (s : State) : Host.Outcome State Fault Refusal :=
  match adtTake (some true) 0x10 (d.size == 24) d s with
  | (none, s) => done s
  | (some k, s) =>
    let i := k - 1024
    match s.peerBinding k, s.ingFrame i frame.toNat with
    | some b, some f =>
      if !s.ingRuns i then done s
      else if slices.toNat ≠ b.sliceCount ∨ (f.whole b ∧ frameDigest b f ≠ digest.toNat) then done (abandonFrame i f.frame s)
      else
        let f := { f with finished := some (slices.toNat, capture.toNat, digest.toNat) }
        let s := s.modFrame i f.frame fun _ => f
        if !f.whole b && (s.peer k).repairable k b then done (repairSource k b f s)
        else done s
    | _, _ => done s

/-- R380, R389, R393, R398: the oldest frame that meets R378 becomes the source's latest complete frame; one whose digest disagrees is abandoned. -/
def execIngestFrameComplete (source : Byte) (s : State) : Host.Outcome State Fault Refusal :=
  let i := source.toNat
  let k := 1024 + i
  match s.peerBinding k with
  | none => done s
  | some b =>
    match (s.ing i).now.find? fun f => f.finished.isSome && f.whole b with
    | none => done s
    | some f =>
      let fin := f.finished.getD (0, 0, 0)
      if !s.ingRuns i then done s
      else if frameDigest b f ≠ fin.2.2 then done (abandonFrame i f.frame s)
      else
        let s := s.modIng i fun x =>
          { x with now := x.now.filter fun y => y.frame != f.frame, latest := f.buffer + 1, frame := f.frame, capture := fin.2.1,
                   complete := satInc x.complete, bufs := tabSet x.bufs f.buffer { doneAt := s.clk.plan, frame := f.frame, complete := true } }
        let s := (s.count 361).count 247
        let s := postFrame (s.ing i).queue { kind := 1, unit := i, tag := f.frame, info := f.buffer, extra := fin.2.1 } s
        let s := (List.range 16).foldl (fun (s : State) j => if tabGet s.dma.reqMap (40 + j) = i + 1 then s.assertLine (40 + j) else s) s
        let s := s.modPeer k fun p => { p with lastFrame := BitVec.ofNat 32 f.frame }
        done ((s.modPeer k fun p => { p with presented := true, kept := BitVec.ofNat 32 f.frame }).liveAgain k)

/-- R378: the oldest frame being received is not complete 1.5 periods after its first slice. -/
def execIngestFrameTimeout (source : Byte) (s : State) : Host.Outcome State Fault Refusal :=
  let i := source.toNat
  match (s.ing i).now, s.peerBinding (1024 + i) with
  | f :: _, some b => done (abandonFrame i f.frame (s.untilAon (f.since + b.period * 1500)))
  | f :: _, none => done (abandonFrame i f.frame s)
  | [], _ => done s

/-! ### Commands -/

/-- R375, R401: ING_CFG. -/
def execIngCfg (c : KcpCtx) (source depth queue : Byte) (s : State) : Host.Outcome State Fault Refusal :=
  kcp 0x0500 c (fun _ s =>
    if depth.toNat < 3 ∨ 8 < depth.toNat then badParam 1 s
    else if 7 < queue.toNat ∧ queue ≠ 0xFF then badParam 2 s
    else replyOk (s.modIng source.toNat fun x => { x with depthNext := depth.toNat, queue := if queue = 0xFF then 0 else queue.toNat + 1 })) s

/-- R401: a source's state: 0 unbound, 1 no session, 2 receiving, 3 stopped. -/
def State.ingState (s : State) (i : Nat) : Nat :=
  let p := s.peer (1024 + i)
  if !(s.ing i).bound then 0 else if !p.inSession then 1 else if p.stop ≠ 0 then 3 else 2

/-- R401: ING_QUERY. -/
def execIngQuery (c : KcpCtx) (source : Byte) (s : State) : Host.Outcome State Fault Refusal :=
  kcp 0x0501 c (fun _ s =>
    let i := source.toNat
    let x := s.ing i
    replyOk s (leBytes 1 (s.ingState i) ++ leBytes 1 x.decoder ++ leBytes 2 x.handle ++ leBytes 1 x.depth ++
      leBytes 1 (if x.latest = 0 then 0xFF else x.latest - 1) ++ zeros 2 ++ leBytes 8 x.addr ++ leBytes 4 x.bufBytes ++ leBytes 4 x.frame ++
      leBytes 8 x.capture ++ leBytes 4 x.complete.toNat ++ leBytes 4 x.abandoned.toNat ++ leBytes 4 x.dropped.toNat)) s

end Sys2Proof.Machine
end

