-- ==== Sys2Proof/Machine/FaultEffects.lean ====
section
/-! DEFINITION. What the unit that reports a fault does besides its report, and the occurrences as they reach the collector (R218, R246, R267,
R292, R349, R372, R399, R433, R435, R442, R493, R498). Where an event names no target, which one it struck is open (log 10). -/

namespace Sys2Proof.Machine

/-- One of `n` numbers, open which. -/
def State.drawBelow (n : Nat) (s : State) : Nat × State := let d := s.draw; (d.1 % max 1 n, d.2)

/-! ### Lanes, scalers and fetch -/

/-- One of the elements of a list, open which. -/
def State.drawFrom {α : Type} (l : List α) (s : State) : Option α × State := let d := s.drawBelow l.length; (l[d.1]?, d.2)

/-- R218, R292: the copy of an accepted arm meets an error: the arm's step is not taken, and its group keeps its settings. -/
def copyError (s : State) : State :=
  let d := s.drawFrom (allGroups.filter fun g => (s.group g).arm.isSome)
  match d.1 with
  | some g => d.2.dropArm g
  | none => s

/-- R218: what goes with sources 136 to 138: an arm that is not applied, an item that is not issued, a group that is placed on its grid again. -/
def sequencerEffect (x : Nat) (s : State) : State :=
  if x = 136 then copyError s
  else if x = 137 then
    let due := allGroups.flatMap fun g =>
      ((List.range (((s.grpTruss g).getD default).itemsOf (s.group g).variant).length).filter fun i => (s.frameItem g i).isSome && !(s.group g).issued.contains i).map fun i => (g, i)
    let d := s.drawFrom due
    match d.1 with
    | some (g, i) => d.2.modGroup g fun c => { c with issued := i :: c.issued }
    | none => s
  else
    let d := s.drawFrom (allGroups.filter fun g => s.grpRuns g && (s.group g).begun)
    match d.1 with
    | some g => regridFar g d.2
    | none => s

/-- R292: details of a lane: a self-check mismatch, a table of the running truss that is marked failed, and an error at a copy. -/
def laneEffect (d : Nat) (s : State) : State :=
  if d = 1 then s.count 39
  else if d = 3 then
    let x := s.drawBelow 256
    refreshBypass (x.2.modSeq fun q => { q with tableFailed := tabSet q.tableFailed (256 * (s.seq.running - 1) + x.1) true })
  else if d = 4 then copyError s
  else s

/-- The codes of a plane, of `bits` bits each, left open by one drawn number. -/
def openPlane (bits d : Nat) (l : List (List Nat)) : List (List Nat) :=
  l.zipIdx.map fun r => r.1.zipIdx.map fun c => d / 2 ^ (bits * (65536 * r.2 + c.2)) % 2 ^ bits

/-- A composed strip whose codes are open. -/
def openStrip (bits : Nat) (x : Strip) (s : State) : Strip × State :=
  let a := s.draw
  let b := a.2.draw
  let c := b.2.draw
  let d := c.2.draw
  ({ a := openPlane bits a.1 x.a, b := openPlane bits b.1 x.b, c := openPlane bits c.1 x.c, alpha := openPlane 16 d.1 x.alpha }, d.2)

/-- R243, R267: spans of the item that lane `k` runs are patched, in a slot of it; which is not told, so what the strip then shows is open. -/
def patchRun (k : Nat) (s : State) : State :=
  match (s.lane k).run with
  | none => s
  | some r =>
    let t := s.trussIn r.store
    let es := t.maskSlots ((t.itemsOf r.variant).getD r.item {})
    let x := s.drawBelow es.length
    let n := x.2.draw
    let m := n.2.drawBelow (n.1 + 1)
    let slot := (es.getD x.1 {}).slot
    let s := ((m.2.countN 69 n.1).countN 70 m.1).countN 71 (n.1 - m.1)
    let s := s.modSlot slot fun c => { c with patched := satAdd c.patched n.1, patchedNow := satAdd c.patchedNow n.1 }
    let s := s.modGroup r.group fun c => { c with patched := satAdd c.patched n.1 }
    let st := openStrip (encBits (t.output ((t.itemsOf r.variant).getD r.item {}).out).enc) r.strip s
    st.2.modLane k fun l => { l with run := some { r with strip := st.1, patched := true } }

/-- R267: details of scaler `k`. -/
def scalerEffect (k d : Nat) (s : State) : State :=
  if d = 1 then s.count 106
  else if d = 2 then s.count 107
  else if d = 3 then patchRun k (s.count 108)
  else if d = 4 then s.modSeq fun q => { q with scalerRom := putBit q.scalerRom k true }
  else s

/-- R246: a read that has landed in staging, or one that a handle or a tag carries, is lost, and its span is patched. -/
def loseRead (hit : FRead → Bool) (s : State) : State :=
  let all := s.seq.issues.zipIdx.flatMap fun x => (x.1.reads.zipIdx.filter fun r => hit r.1).map fun r => (x.2, r.2)
  let d := s.drawBelow all.length
  match all[d.1]? with
  | none => s
  | some (i, j) =>
    d.2.modSeq fun q => { q with issues := q.issues.zipIdx.map fun x =>
      if x.2 = i then { x.1 with reads := x.1.reads.zipIdx.map fun r => if r.2 = j then { r.1 with state := ReadState.missing } else r.1 } else x.1 }

/-! ### Transport, network, ingest, writeback and DMA -/

/-- R349: encoder `e` encodes slice `x`. -/
def State.encodes (s : State) (e : Nat) (x : Slice) : Bool :=
  match s.endpoint x.endpoint with
  | none => false
  | some (g, t, _) =>
    decide (s.clk.plan < x.readyAt) &&
      (t.itemsOf (s.group g).variant).any fun i => i.out == x.out && i.strip == x.row && bitsOf 5 3 i.dest == e

/-- R349: a slice that encoder `e` is encoding, or with `all` every one, is not sent and is marked dirty. -/
def dropSlices (e : Nat) (all : Bool) (s : State) : State :=
  let busy := s.adt.buffer.filter fun x => s.encodes e x
  let pick := s.drawBelow busy.length
  let s := if all then s else pick.2
  let gone := if all then busy else (busy.drop pick.1).take 1
  let s := s.modAdt fun a => { a with buffer := a.buffer.filter fun x => !gone.contains x }
  gone.foldl (fun (s : State) x => markDirty x.endpoint [x.index] s) s

/-- R349: decoder `d` spoils the frame of a source that it decodes, or, once it has stopped, of every one. -/
def spoilFrames (d : Nat) (all : Bool) (s : State) : State :=
  let on := (s.dma.ing.filter fun e => e.2.decoder == d && !e.2.now.isEmpty).map fun e => (e.1, ((e.2.now.headD {}).frame))
  if all then on.foldl (fun (s : State) x => abandonFrame x.1 x.2 s) s
  else
    let k := s.drawBelow on.length
    match on[k.1]? with
    | some x => abandonFrame x.1 x.2 k.2
    | none => s

/-- R349, R350: details of a DSC engine, an encoder below 8. -/
def dscEffect (k d : Nat) (s : State) : State :=
  let s := if d = 1 then s.count 345 else if d = 2 then s.count 346 else if d = 3 then s.count 347 else s
  if d = 1 ∨ d = 3 ∨ d = 4 then (if k < 8 then dropSlices k (d != 1) s else spoilFrames (k - 8) (d == 4) s) else s

/-- R372: details of Ethernet port `p`: a frame of the transmit buffer is dropped, or a bucket of the calendar sends nothing. -/
def ethEffect (p d : Nat) (s : State) : State :=
  if d = 4 then
    let k := s.drawBelow 4
    k.2.modEth p fun e => { e with queues := tabMod e.queues k.1 fun q => { q with frames := q.frames.drop 1 } }
  else if d = 5 then s.modEth p fun e => { e with badBucket := e.bucket }
  else s

/-- R399: details of DMA channel `c`. -/
def dmaEffect (c d : Nat) (s : State) : State :=
  if d = 3 then dmaEnd c 1 s
  else if d = 4 then (s.modCh c fun x => { x with error := true }).pend (1 + c)
  else s

/-- R399: details of ingest bank `k`: the latest frames of its sources are forgotten, or a frame is abandoned. -/
def ingestEffect (k d : Nat) (s : State) : State :=
  let mine := fun i => decide (64 * k ≤ i) && decide (i < 64 * k + 64)
  if d = 1 then s.modDma fun q => { q with ing := tabMap (fun i x => if mine i then { x with latest := 0 } else x) q.ing }
  else if d = 2 then
    let on := (s.dma.ing.filter fun e => mine e.1 && !e.2.now.isEmpty).map fun e => (e.1, ((e.2.now.headD {}).frame))
    let x := s.drawBelow on.length
    match on[x.1]? with
    | some y => abandonFrame y.1 y.2 x.2
    | none => s
  else s

/-! ### The interrupt controller, the store and the sensors -/

/-- R433: firmware sets the edge latch of every source in the damaged range, in both groups; which range is open. -/
def intcEffect (s : State) : State :=
  let a := s.drawBelow 640
  let n := a.2.drawBelow (640 - a.1)
  (((List.range (n.1 + 1)).map (· + a.1)).filter intReal).foldl (fun (s : State) k =>
    s.modIntSrc k fun x => { x with int := { x.int with latch := true }, host := { x.host with latch := true } }) n.2

/-- R34: the records that a start may find torn, in some order. -/
def mramRecords : List MramRecord :=
  [.pllCal, .warmToken, .resume, .limp, .board, .spread, .settle, .pace, .safeField, .netMgmt, .timeCfg, .counters] ++
    (List.finRange 2048).map .fieldDef ++ (List.finRange 2048).map .fieldText ++ (List.finRange 8).map .message ++ (List.finRange 7).map .opKey ++
    (List.finRange 8).map .netKey ++ (List.finRange 4).map .ethPort ++ (List.finRange 4).map .mkaKey ++ (List.finRange 192).map .fault

/-- R34, R498: an MRAM record is treated as torn: which record is open. -/
def tornRecord (s : State) : State :=
  let d := s.drawBelow mramRecords.length
  match mramRecords[d.1]? with | some r => discardRecord r d.2 | none => d.2

/-- R497: no image can be found: no directory copy is valid, or there is no flash. -/
def noDirectory (s : State) : State :=
  (List.range 3).foldl (fun (s : State) k => putImage k { s.fwImage k with present := false, valid := false } s) s

/-- R493, R498, R499: sources 163–174. -/
def storeEffect (x : Nat) (s : State) : State :=
  if x < 166 then ((s.modSec fun c => { c with tamperSeen := true }).pend 487).count 445
  else if x = 166 then (s.modSec fun c => { c with keyFailed := true }).pend 492
  else
    let s := s.pend 491
    if x = 167 then s.count 438 else if x = 168 ∨ x = 169 then tornRecord s else if x = 173 ∨ x = 174 then noDirectory s else s

/-! ### The rows -/

/-- What goes with an occurrence of source `x` besides its report. -/
def occurrenceEffect (x d : Nat) (s : State) : State :=
  if x < 16 then laneEffect d s
  else if x < 32 then scalerEffect (x - 16) d s
  else if 40 ≤ x ∧ x < 52 then dscEffect (x - 40) d s
  else if 57 ≤ x ∧ x < 61 then ethEffect (x - 57) d s
  else if 95 ≤ x ∧ x < 127 then dmaEffect (x - 95) d s
  else if 127 ≤ x ∧ x < 131 then (if d = 2 then wbMissing (x - 127) s else s)
  else if 131 ≤ x ∧ x < 135 then ingestEffect (x - 131) d s
  else if 136 ≤ x ∧ x < 139 then sequencerEffect x s
  else if x = 148 then loseRead (fun r => r.state == .landed) s
  else if x = 149 then loseRead (fun r => r.state == .issued || r.state == .waiting) s
  else if 163 ≤ x ∧ x < 175 then storeEffect x s
  else if x = 184 then intcEffect s
  else s

/-- The event is a new one of the unit, whether the collector hears of it or FLT_FORCE hides it (R459). -/
def State.unitNew (s : State) (x : Nat) : Bool := s.fltNew x false || ((s.fltSrc x).forced && (s.fltSrc x).own.isNone)

/-- R442: one collector cycle of 20 ns: the pin is sampled and the cycle's occurrences are ranked and taken. -/
def execFaultCollectorCycle (occs : List FltIn) (pinHigh : Bool) (s : State) : Host.Outcome State Fault Refusal :=
  let p := fltSamplePin pinHigh (s.elapse 20)
  let new := occs.filter fun o => !o.broken && p.2.unitNew o.source.val
  done (new.foldl (fun (s : State) o => occurrenceEffect o.source.val o.detail.toNat s)
    (p.2.faults (p.1 ++ occs.map fun o => (o.source.val, o.detail, o.broken))))

/-- R435: a unit asserts its source with a detail. -/
def execFaultOccurrence (source : Fin 192) (detail : Word) (s : State) : Host.Outcome State Fault Refusal :=
  let t := s.fault source.val detail
  done (if s.unitNew source.val then occurrenceEffect source.val detail.toNat t else t)

end Sys2Proof.Machine
end

