-- ==== Sys2Proof/Machine/IntcCmds.lean ====
section
/-! DEFINITION. The interrupt controller's rounds, accesses and commands (R423–R434). -/

namespace Sys2Proof.Machine

/-- R423: one round. -/
def execIntcRound (s : State) : Host.Outcome State Fault Refusal := done (intRound s)

/-- R425: a claim read falls into a round of its own (log 8). -/
def execIntcClaim (core : Fin 4) (s : State) : Host.Outcome State Fault Refusal :=
  done (intRound (s.intQueue (.claim core)))

/-- R427, R432: a core's completion. -/
def execIntcComplete (core : Fin 4) (source : BitVec 10) (s : State) : Host.Outcome State Fault Refusal :=
  done (intRound (s.intQueue (.complete core source.toNat)))

/-- R432, R421: a core's enable, after firmware's settings of the internal group. -/
def execIntcCoreCtrlWrite (core : Fin 4) (enable : Bool) (settings : List IntSetting) (s : State) :
    Host.Outcome State Fault Refusal :=
  let s := settings.foldl (fun s x =>
    if intReal x.source then s.intQueue (.setInternal x.source x.enable x.prio (x.targets.zeroExtend 16) x.masked) else s) s
  done (intRound (s.intQueue (.coreCtrl core enable)))

/-- R431: INTC_HOST_EOI, a completion for the function's target. -/
def execIntcHostEoi (fn : Fin 16) (value : Word) (s : State) : Host.Outcome State Fault Refusal :=
  if !s.barOpen fn then done s else
  let s := s.bar0
  done (intRound (s.intQueue (.complete (4 + fn) (value.toNat % 1024))))

/-- R430, R431: INTC_HOST_SWSET raises a granted software source; any other value is ignored and counted. -/
def execIntcHostSwset (fn : Fin 16) (value : Word) (s : State) : Host.Outcome State Fault Refusal :=
  if !s.barOpen fn then done s else
  let s := s.bar0
  let x := value.toNat % 1024
  if 504 ≤ x ∧ x ≤ 535 ∧ s.hasIrq fn x then done (intRound (s.intQueue (.raise x)))
  else done (s.denied fn)

/-- The bits of a 32-source word that function `f` is granted. -/
def State.irqGranted (s : State) (f k : Nat) : Word :=
  (List.range 32).foldl (fun w j => if s.hasIrq f (32 * k + j) then putBit w j true else w) 0

/-- R431: INTC_HOST_MASKk, for the sources the function is granted. -/
def execIntcHostMaskWrite (fn : Fin 16) (k : Fin 20) (value : Word) (s : State) : Host.Outcome State Fault Refusal :=
  if !s.barOpen fn then done s else
  let s := s.bar0
  done (intRound (s.intQueue (.hostMask k value (s.irqGranted fn k))))

/-- R434: the sources a SET names, `count` of them from `first`. -/
def intNamed (first count : Nat) : List Nat := (List.range count).map (· + first)

/-- R434: INTC_SET_SOURCE's own part. -/
def intSetSource (first count : Nat) (items sensing prio enable : Byte) (targets : Half) (f : Nat) (s : State) : Reply :=
  let xs := intNamed first count
  if 640 < first + count then badParam 2 s
  else if xs.any fun x => x == 0 || decide (536 ≤ x) then badParam 0 s
  else if !xs.all (s.hasIrq f) then refuse .notGranted 6 s
  else if f ≠ 0 ∧ items.toNat % 16 ≠ 4 ∧ items.toNat % 16 ≠ 0 then badParam 4 s
  else if items.getLsbD 0 ∧ 3 < sensing.toNat then badParam 5 s
  else if items.getLsbD 1 ∧ 15 < prio.toNat then badParam 6 s
  else if items.getLsbD 3 ∧ 1 < enable.toNat then badParam 7 s
  else if items.getLsbD 2 ∧ f = 0 ∧ (setBits targets).any (fun g => !xs.all (s.hasIrq g)) then badParam 8 s
  else
    let change : Half := if f = 0 then BitVec.allOnes 16 else BitVec.ofNat 16 (2 ^ f)
    replyOk (intRound (xs.foldl (fun s x =>
      s.intQueue (.set x items sensing.toNat prio.toNat enable.toNat targets change)) s))

/-- R434: 0x0740; its settings take effect in the round that follows at once (log 8). -/
def execIntcSetSource (c : KcpCtx) (first count : Half) (items sensing prio enable : Byte) (targets : Half) (s : State) :
    Host.Outcome State Fault Refusal :=
  kcp 0x0740 c (intSetSource first.toNat count.toNat items sensing prio enable targets) s

/-- R434: what INTC_QUERY_SOURCE returns of a source, in the host group. -/
def State.intSourceBytes (s : State) (x : Nat) : List Byte :=
  let c := s.intSrc x
  let g := c.host
  let flags := packBits [(0, 1, b2n (intPending x c g)), (1, 1, b2n g.masked), (2, 1, b2n (g.active != 0))]
  [BitVec.ofNat 8 (b2n (intIsCond x)), BitVec.ofNat 8 (intSensing x c), g.prio.zeroExtend 8, BitVec.ofNat 8 (b2n g.enable)] ++
    leBytes 2 g.targets.toNat ++
    [BitVec.ofNat 8 flags, if g.active = 0 then 0xFF else BitVec.ofNat 8 (g.active - 1),
      if g.rr = 0 then 19 else BitVec.ofNat 8 (g.rr - 1)] ++ zeros 3 ++ leBytes 4 g.deliveries.toNat ++ leBytes 4 g.merged.toNat

/-- R434: 0x0741. -/
def execIntcQuerySource (c : KcpCtx) (source : Half) (s : State) : Host.Outcome State Fault Refusal :=
  kcp 0x0741 c (fun f s =>
    let x := source.toNat
    if 639 < x then badParam 0 s
    else if !s.hasIrq f x then refuse .notGranted 6 s
    else replyOk s (s.intSourceBytes x)) s

/-- R434: what INTC_QUERY_TARGET returns of a target (log 14 for the last count). -/
def State.intTargetBytes (s : State) (t : Nat) : List Byte :=
  let y := s.intTgt t
  let act := (s.intActive t).map (·.1)
  let run := s.intRunning t
  [BitVec.ofNat 8 (run.getD 0), BitVec.ofNat 8 (packBits [(0, 5, act.length), (7, 1, b2n run.isNone)]), 0, 0] ++
    leBytes 4 y.claims.toNat ++ leBytes 4 y.spurious.toNat ++ leBytes 4 (satAdd y.withdrawals y.empty.toNat).toNat ++
    fitBytes 32 (act.flatMap fun x => leBytes 2 x)

/-- R434: 0x0742. -/
def execIntcQueryTarget (c : KcpCtx) (target : Byte) (s : State) : Host.Outcome State Fault Refusal :=
  kcp 0x0742 c (fun f s =>
    let t := target.toNat
    if 19 < t ∨ (f ≠ 0 ∧ t ≠ 4 + f) then badParam 0 s else replyOk s (s.intTargetBytes t)) s

end Sys2Proof.Machine
end

