-- ==== Sys2Proof/Machine/Svc.lean ====
section
/-! DEFINITION. The service commands, and the events of the standing services (R402–R419, R496). -/

namespace Sys2Proof.Machine

/-! ### Fields -/

/-- R4, R404, R419: SVC_FIELD_DEFINE. The flags byte has two bits; the others are ignored (log 27). -/
def execSvcFieldDefine (c : KcpCtx) (field slot col row cols rows : Half) (just flags map fg bg : Byte) (s : State) :
    Host.Outcome State Fault Refusal :=
  kcp 0x0600 c (fun _ s =>
    let k := field.toNat
    if 2047 < k then badParam 0 s
    else if slot = 0xFFFF then
      replyOk ((s.modSvcMram fun m => { m with fields := tabErase m.fields k, texts := tabErase m.texts k }).modSvc fun v =>
        { v with fields := tabErase v.fields k })
    else if 8191 < slot.toNat then badParam 2 s
    else if 2 < just.toNat then badParam 12 s
    else if 15 < map.toNat then badParam 14 s
    else if 15 < fg.toNat then badParam 15 s
    else if 15 < bg.toNat then badParam 16 s
    else
      let d : FieldDef :=
        { defined := true, slot := slot.toNat, col := col.toNat, row := row.toNat, cols := cols.toNat, rows := rows.toNat, just := just.toNat,
          flags := flags &&& 3, map := map.toNat, fg := fg.toNat, bg := bg.toNat }
      replyOk (s.modSvcMram fun m => { m with fields := tabSet m.fields k d })) s

/-- R405: a field's staging buffer after an edit. -/
def fieldEdit (op : Nat) (buf text : List Byte) : List Byte := if op = 0 then text else if op = 1 then buf ++ text else []

/-- R405, R406, R419: SVC_FIELD_SET. -/
def execSvcFieldSet (c : KcpCtx) (field : Half) (op flags fg bg length : Byte) (text : List Byte) (s : State) :
    Host.Outcome State Fault Refusal :=
  kcpRun 0x0601 (boundedExtra 1 40 length.toNat) ((kcpFind 0x0601).getD default).inSafe c (fun f s =>
    let k := field.toNat
    let d := s.fieldDef k
    let buf := fieldEdit op.toNat (s.field k).buf (fitBytes length.toNat text)
    if 2047 < k then badParam 0 s
    else if d.defined ∧ !s.hasSlot f d.slot then refuse .notGranted 0 s
    else if 2 < op.toNat then badParam 2 s
    else if flags.getLsbD 1 ∧ 15 < fg.toNat then badParam 4 s
    else if flags.getLsbD 1 ∧ 15 < bg.toNat then badParam 5 s
    else if 40 < length.toNat ∨ 255 < buf.length then badParam 6 s
    else
      match s.fieldLive d with
      | none => refuse .state 0 s
      | some (g, e) =>
        let edited := s.modField k fun x => { x with buf := buf }
        if !flags.getLsbD 0 then replyOk edited (zeros 4)
        else if d.flags.getLsbD 0 ∧ 128 < buf.length then badParam 6 s
        else
          match s.cellMap e with
          | none => refuse .state 0 s
          | some (h, cols, _) =>
            let fore := if flags.getLsbD 1 then fg.toNat else d.fg
            let back := if flags.getLsbD 1 then bg.toNat else d.bg
            let n := s.frameAfter g (s.usableWait g)
            replyOk (commitField f k g d h cols (s.fieldCells d fore back (s.surf h).format cols buf) buf n edited) (leBytes 4 n.toNat)) s

/-- R419: SVC_FIELD_QUERY. -/
def execSvcFieldQuery (c : KcpCtx) (field : Half) (s : State) : Host.Outcome State Fault Refusal :=
  kcp 0x0602 c (fun _ s =>
    let k := field.toNat
    let d := s.fieldDef k
    let x := s.field k
    if 2047 < k then badParam 0 s
    else
      replyOk s (leBytes 2 (if d.defined then d.slot else 0xFFFF) ++ leBytes 2 d.col ++ leBytes 2 d.row ++ leBytes 2 d.cols ++ leBytes 2 d.rows ++
        [BitVec.ofNat 8 d.just, d.flags, BitVec.ofNat 8 d.map, BitVec.ofNat 8 d.fg, BitVec.ofNat 8 d.bg, 0, 0, 0] ++
        [BitVec.ofNat 8 (b2n (s.fieldLive d).isSome), BitVec.ofNat 8 x.buf.length] ++ leBytes 4 x.frame.toNat ++ leBytes 4 x.commits.toNat)) s

/-- R496: the 10 s since a persisted field was last written have passed: its latest text is written. -/
def execFieldPersistWrite (field : BitVec 11) (s : State) : Host.Outcome State Fault Refusal :=
  let k := field.toNat
  match (s.field k).persist with
  | none => done s
  | some text => done (persistText k text (s.untilAon ((s.field k).writtenAt - 1 + secNs 10)))

/-- R402, R419: SVC_CHARMAP_LOAD. -/
def execSvcCharmapLoad (c : KcpCtx) (map : Byte) (address : Long) (s : State) : Host.Outcome State Fault Refusal :=
  kcp 0x0608 c (fun _ s =>
    let a := address.toNat
    if 15 < map.toNat then badParam 0 s
    else if !s.memMapped a 16 then badParam 4 s
    else
      match s.memLoad 157 a 16 with
      | (none, s) => refuse .media 0 s
      | (some h, s) =>
        let n := u h 4 4
        if u h 0 4 ≠ 0x4D434D47 ∨ n = 0 ∨ 65536 < n then badParam ((charMapBad h 0).getD 0) s
        else if !s.memMapped a (16 + 8 * n) then badParam 4 s
        else
          match s.memLoad 157 a (16 + 8 * n) with
          | (none, s) => refuse .media 0 s
          | (some b, s) =>
            match charMapBad b n with
            | some o => badParam o s
            | none => replyOk (s.modSvc fun v => { v with maps := tabSet v.maps map.toNat (charMapOf b) }) (leBytes 4 n)) s

/-! ### Mosaics -/

/-- R408: a pattern surface breaks a slot's travel box under codes 5–8 of R198, or may not be named by the function. -/
def State.patternBad (s : State) (f : Nat) (e : TSlot) (h : Nat) : Bool :=
  let x := s.surf h
  h != 0xFFFF && (!s.mayUse f h || decide (e.maxW < x.width) || decide (e.maxH < x.height) ||
    (match fmtOf x.format with | some y => decide (e.bpp < y.box) | none => true) || x.port != e.port || (x.port == 4 && !bitOf 0 e.flags))

/-- R408, R419: SVC_MOSAIC_SET. -/
def execSvcMosaicSet (c : KcpCtx) (slot m : Half) (width : Byte) (colour : Word) (pattern0 pattern1 : Half) (s : State) :
    Host.Outcome State Fault Refusal :=
  kcp 0x0610 c (fun f s =>
    withSlot f slot.toNat s fun g _ e =>
      if e.type ≠ 3 then refuse .state 0 s
      else if width = 0 ∨ 16 < width.toNat then badParam 4 s
      else if s.patternBad f e pattern0.toNat then badParam 12 s
      else if s.patternBad f e pattern1.toNat then badParam 14 s
      else
        replyOk (s.defer g f (.mosaic e.slot
          { given := true, m := m.toNat, width := width.toNat, colour := colour, pattern0 := pattern0.toNat, pattern1 := pattern1.toNat }))) s

/-- R419: what a mosaic slot shows, as a code. -/
def MosaicShow.code : MosaicShow → Nat
  | .frame => 0 | .marker => 1 | .pattern _ => 2 | .fill => 3

/-- R419: SVC_MOSAIC_QUERY. -/
def execSvcMosaicQuery (c : KcpCtx) (slot : Half) (s : State) : Host.Outcome State Fault Refusal :=
  kcp 0x0611 c (fun f s =>
    withSlot f slot.toNat s fun _ _ e =>
      if e.type ≠ 3 then refuse .state 0 s
      else
        let x := tabGet s.svc.mosaics e.slot
        let ps := s.patternHandles x.set
        replyOk s (leBytes 2 x.set.m ++ [BitVec.ofNat 8 x.set.width, 0, 0, 0] ++ leBytes 4 x.set.colour.toNat ++ leBytes 2 (ps.getD 0 0xFFFF) ++
          leBytes 2 (ps.getD 1 0xFFFF) ++ [BitVec.ofNat 8 x.shows.code, 0] ++ leBytes 2 (s.slot e.slot).heldFrames.toNat ++ leBytes 2 x.patterns.toNat)) s

/-! ### The bulletin -/

/-- Writes message `k`; one that is shown is laid again. -/
def putMessage (k : Nat) (x : Message) (s : State) : State :=
  let s := if k < 8 then s.modSvcMram fun m => { m with messages := tabSet m.messages k x }
    else s.modSvc fun v => { v with messages := tabSet v.messages k x }
  if s.svc.raises.isEmpty then s else refreshBulletin (match s.svc.shown with | some r => r.message == k | none => false) s

/-- R412, R419: SVC_MSG_SET. -/
def execSvcMsgSet (c : KcpCtx) (message op map fg bg prio length : Byte) (text : List Byte) (s : State) : Host.Outcome State Fault Refusal :=
  kcpRun 0x0620 (boundedExtra 1 36 length.toNat) ((kcpFind 0x0620).getD default).inSafe c (fun f s =>
    let k := message.toNat
    let t := fitBytes length.toNat text
    let t := if op = 1 then (s.message k).text ++ t else t
    if 15 < k then badParam 0 s
    else if k < 8 ∧ f ≠ 0 then refuse .pfOnly 0 s
    else if 1 < op.toNat then badParam 1 s
    else if 15 < map.toNat then badParam 2 s
    else if 15 < fg.toNat then badParam 3 s
    else if 15 < bg.toNat then badParam 4 s
    else if 3 < prio.toNat then badParam 5 s
    else if 36 < length.toNat ∨ 160 < t.length then badParam 6 s
    else replyOk (putMessage k { text := t, map := map.toNat, fg := fg.toNat, bg := bg.toNat, prio := prio.toNat } s)) s

/-- R413: the origin of a raise by command. -/
def State.raiseOrigin (s : State) (c : KcpCtx) : Origin :=
  match c.via with
  | .mailbox _ => .fn c.fn.val
  | .udp k => .key (s.udp k).keySlot

/-- R419: the message in force, and how many raises are held; with none the first is open (log 10). -/
def bulletinReply (s : State) (more : Byte → State → List Byte) : Reply :=
  match s.topRaise with
  | some r => replyOk s (more (BitVec.ofNat 8 r.message) s)
  | none => let d := s.draw; replyOk d.2 (more (BitVec.ofNat 8 d.1) d.2)

/-- R413, R419: SVC_BULLETIN. -/
def execSvcBulletin (c : KcpCtx) (op message : Byte) (s : State) : Host.Outcome State Fault Refusal :=
  kcp 0x0621 c (fun f s =>
    let o := s.raiseOrigin c
    let answer := fun (s : State) => bulletinReply s fun m s => [m, BitVec.ofNat 8 s.svc.raises.length]
    if 2 < op.toNat then badParam 0 s
    else if op = 2 ∧ f ≠ 0 then refuse .pfOnly 0 s
    else if op = 2 then answer (clearRaises (fun r => r.origin != .emerg) s)
    else if op = 1 then answer (clearRaises (fun r => r.origin == o) s)
    else if 15 < message.toNat then badParam 1 s
    else if (s.message message.toNat).text.isEmpty then refuse .state 0 s
    else answer (raiseBulletin { origin := o, message := message.toNat } s)) s

/-- R419: SVC_BULLETIN_QUERY. -/
def execSvcBulletinQuery (c : KcpCtx) (s : State) : Host.Outcome State Fault Refusal :=
  kcp 0x0622 c (fun _ s =>
    bulletinReply s fun m s =>
      [BitVec.ofNat 8 (b2n s.bulletinOn), m, BitVec.ofNat 8 (b2n s.svc.emerg), BitVec.ofNat 8 s.svc.raises.length] ++
        leBytes 2 (allGroups.foldl (fun a g => if tabGet s.svc.inForce g = 0 then a else a + 2 ^ g) 0) ++ [0, 0] ++ leBytes 8 s.svc.recognised) s

/-- R413, R419: SVC_EMERG_CFG. -/
def execSvcEmergCfg (c : KcpCtx) (message enable : Byte) (s : State) : Host.Outcome State Fault Refusal :=
  kcp 0x0623 c (fun _ s =>
    if 15 < message.toNat then badParam 0 s
    else if 1 < enable.toNat then badParam 1 s
    else replyOk (s.modSvcMram fun m => { m with emergMessage := message.toNat, emergEnable := enable == 1 })) s

/-! ### The rows of the bulletin -/

/-- R413, R416: EMERG_N has been low for 1 ms; firmware that does not run yet recognises it when it starts. -/
def execEmergNAssert (s : State) : Host.Outcome State Fault Refusal :=
  if s.pins.emergLow then done s
  else
    let s := s.modPins fun p => { p with emergLow := true }
    if s.boot.phase != .running then done s else done (emergAssert s)

/-- R413: EMERG_N has been high for 100 ms. -/
def execEmergNRelease (s : State) : Host.Outcome State Fault Refusal :=
  if !s.pins.emergLow then done s
  else
    let s := s.modPins fun p => { p with emergLow := false }
    if s.boot.phase != .running then done s else done (emergRelease s)

/-- R414: the laying of the message in force is complete, `ns` after the change, within firmware's bound. -/
def execBulletinLaid (ns : Nat) (s : State) : Host.Outcome State Fault Refusal :=
  if s.svc.laying = 0 ∨ s.seqStopped then done s
  else
    let s := s.untilPlan (s.svc.changedAt + min ns s.layingNs)
    let laid := s.svc.laying
    let origin := match s.svc.shown with | some r => r.origin.code | none => 0
    let s := s.modSvc fun v => { v with laying := 0, laid := laid, laidOrigin := origin }
    done (allGroups.foldl (fun (s : State) g => stageBulletin laid origin g s) s)

end Sys2Proof.Machine
end

