-- ==== Sys2Proof/Machine/Dispatch.lean ====
section
/-! DEFINITION. One arm for each command: its meaning, or its rejection by name. -/

namespace Sys2Proof.Machine

def exec (i : Instr) (s : State) : Host.Outcome State Fault Refusal :=
  match i with
  | .powerOnReset arg => Sys2Proof.Machine.execPowerOnReset arg s
  | .refclkWaitRetry arg => Sys2Proof.Machine.execRefclkWaitRetry arg s
  | .brownOut rail mv ns => Sys2Proof.Machine.execBrownOut rail mv ns s
  | .resetNAssert lowNs => Sys2Proof.Machine.execResetNAssert lowNs s
  | .resetNRelease arg => Sys2Proof.Machine.execResetNRelease arg s
  | .kcpResetBegin arg => Sys2Proof.Machine.execKcpResetBegin arg s
  | .bootWatchdogExpiry arg => Sys2Proof.Machine.execBootWatchdogExpiry arg s
  | .memInitDone => Sys2Proof.Machine.execMemInitDone s
  | .hostPortReset => Sys2Proof.Machine.execHostPortReset s
  | .hostLinkTrained rate width latency => Sys2Proof.Machine.execHostLinkTrained rate width latency s
  | .surpriseDown dmaInFlight => Sys2Proof.Machine.execSurpriseDown dmaInFlight s
  | .functionLevelReset fn => Sys2Proof.Machine.execFunctionLevelReset fn s
  | .busMasterDisable fn => Sys2Proof.Machine.execBusMasterDisable fn s
  | .refclkLoss => Sys2Proof.Machine.execRefclkLoss s
  | .refclkReturn => Sys2Proof.Machine.execRefclkReturn s
  | .pllLossOfLock k => Sys2Proof.Machine.execPllLossOfLock k s
  | .pllLock k => Sys2Proof.Machine.execPllLock k s
  | .pllSettleDone k => Sys2Proof.Machine.execPllSettleDone k s
  | .pllGateOpen k => Sys2Proof.Machine.execPllGateOpen k s
  | .pllRelockTimeout k => Sys2Proof.Machine.execPllRelockTimeout k s
  | .trackerNStep k => Sys2Proof.Machine.execTrackerNStep k s
  | .syncInEdge afterNs highNs => Sys2Proof.Machine.execSyncInEdge afterNs highNs s
  | .syncInMissing => Sys2Proof.Machine.execSyncInMissing s
  | .syncOutRise => Sys2Proof.Machine.execSyncOutRise s
  | .syncOutFall => Sys2Proof.Machine.execSyncOutFall s
  | .timeHoldover => Sys2Proof.Machine.execTimeHoldover s
  | .clkTimeLoRead fn => Sys2Proof.Machine.execClkTimeLoRead fn s
  | .clkNtOffsetLoRead fn => Sys2Proof.Machine.execClkNtOffsetLoRead fn s
  | .sillNextLoRead fn g => Sys2Proof.Machine.execSillNextLoRead fn g s
  | .clkQuery c pll => Sys2Proof.Machine.execClkQuery c pll s
  | .clkSetTrack c pll source group deadband period => Sys2Proof.Machine.execClkSetTrack c pll source group deadband period s
  | .clkSetSyncOut c mode group width offset => Sys2Proof.Machine.execClkSetSyncOut c mode group width offset s
  | .clkRelock c pll => Sys2Proof.Machine.execClkRelock c pll s
  | .clkSetSettle c count => Sys2Proof.Machine.execClkSetSettle c count s
  | .paceWindow arg count => Sys2Proof.Machine.execPaceWindow arg count s
  | .avsLoopPeriod tj => Sys2Proof.Machine.execAvsLoopPeriod tj s
  | .paceEscalate => Sys2Proof.Machine.execPaceEscalate s
  | .paceReducedFloorBreach arg => Sys2Proof.Machine.execPaceReducedFloorBreach arg s
  | .paceReturn => Sys2Proof.Machine.execPaceReturn s
  | .pmbusTransactionDone ok value => Sys2Proof.Machine.execPmbusTransactionDone ok value s
  | .readVoutPoll => Sys2Proof.Machine.execReadVoutPoll s
  | .regulatorSettleTimeout => Sys2Proof.Machine.execRegulatorSettleTimeout s
  | .readIoutPoll => Sys2Proof.Machine.execReadIoutPoll s
  | .openLoopRetry => Sys2Proof.Machine.execOpenLoopRetry s
  | .pmAlert => Sys2Proof.Machine.execPmAlert s
  | .paceQuery c => Sys2Proof.Machine.execPaceQuery c s
  | .paceSetBand c lo hi alarm => Sys2Proof.Machine.execPaceSetBand c lo hi alarm s
  | .paceSetLimits c vmin vmax up down period => Sys2Proof.Machine.execPaceSetLimits c vmin vmax up down period s
  | .paceClear c => Sys2Proof.Machine.execPaceClear c s
  | .paceForceReduced c enter => Sys2Proof.Machine.execPaceForceReduced c enter s
  | .cxlLinkTrained m x => Sys2Proof.Machine.execCxlLinkTrained m x s
  | .cxlLinkDown m => Sys2Proof.Machine.execCxlLinkDown m s
  | .cxlViral m => Sys2Proof.Machine.execCxlViral m s
  | .cxlRecoveryTimeout m => Sys2Proof.Machine.execCxlRecoveryTimeout m s
  | .cxlRecoveryDone m => Sys2Proof.Machine.execCxlRecoveryDone m s
  | .poisonResponse address use => Sys2Proof.Machine.execPoisonResponse address use s
  | .cxlOfflineComplete m => Sys2Proof.Machine.execCxlOfflineComplete m s
  | .memQuery c port => Sys2Proof.Machine.execMemQuery c port s
  | .memSetInterleave c size => Sys2Proof.Machine.execMemSetInterleave c size s
  | .memMapAperture c fn segment enable address => Sys2Proof.Machine.execMemMapAperture c fn segment enable address s
  | .memPortOffline c port => Sys2Proof.Machine.execMemPortOffline c port s
  | .memPortOnline c port => Sys2Proof.Machine.execMemPortOnline c port s
  | .memSetSnoop c fn noSnoop => Sys2Proof.Machine.execMemSetSnoop c fn noSnoop s
  | .bar4Write fn offset bytes lands => Sys2Proof.Machine.execBar4Write fn offset bytes lands s
  | .bar4Read fn offset len => Sys2Proof.Machine.execBar4Read fn offset len s
  | .armWritesLanded fn => Sys2Proof.Machine.execArmWritesLanded fn s
  | .registerWrite fn offset size value => Sys2Proof.Machine.execRegisterWrite fn offset size value s
  | .evtRingCfgWrite fn n value => Sys2Proof.Machine.execEvtRingCfgWrite fn n value s
  | .evtRingConsWrite fn n value => Sys2Proof.Machine.execEvtRingConsWrite fn n value s
  | .evtCoalTimeout fn n => Sys2Proof.Machine.execEvtCoalTimeout fn n s
  | .functionStale fn => Sys2Proof.Machine.execFunctionStale fn s
  | .mbxDoorbell fn n value => Sys2Proof.Machine.execMbxDoorbell fn n value s
  | .mbxCfgWrite fn n value => Sys2Proof.Machine.execMbxCfgWrite fn n value s
  | .mbxRspConsWrite fn n value => Sys2Proof.Machine.execMbxRspConsWrite fn n value s
  | .mbxTakeCommand fn n entry => Sys2Proof.Machine.execMbxTakeCommand fn n entry s
  | .sessOpen c hostMin hostMax client mask => Sys2Proof.Machine.execSessOpen c hostMin hostMax client mask s
  | .sessClose c => Sys2Proof.Machine.execSessClose c s
  | .sessInfo c => Sys2Proof.Machine.execSessInfo c s
  | .sessNop c bytes => Sys2Proof.Machine.execSessNop c bytes s
  | .sessStatus c => Sys2Proof.Machine.execSessStatus c s
  | .sessGrant c fn kind index op value => Sys2Proof.Machine.execSessGrant c fn kind index op value s
  | .sessGrantQuery c fn kind index => Sys2Proof.Machine.execSessGrantQuery c fn kind index s
  | .mntReset c kind confirm => Sys2Proof.Machine.execMntReset c kind confirm s
  | .mntInfo c => Sys2Proof.Machine.execMntInfo c s
  | .mntCfgGet c item => Sys2Proof.Machine.execMntCfgGet c item s
  | .mntCfgSet c item length value refKhz => Sys2Proof.Machine.execMntCfgSet c item length value refKhz s
  | .mntSetNetmgmt c enable ports ipVersion port vlan pcp prefixLen address => Sys2Proof.Machine.execMntSetNetmgmt c enable ports ipVersion port vlan pcp prefixLen address s
  | .mntNetkey c slot op role key => Sys2Proof.Machine.execMntNetkey c slot op role key s
  | .kcpUdpHello port ends bytes tagOk => Sys2Proof.Machine.execKcpUdpHello port ends bytes tagOk s
  | .kcpUdpCommand port ends bytes tagOk plain => Sys2Proof.Machine.execKcpUdpCommand port ends bytes tagOk plain s
  | .kcpUdpHandleLapse k => Sys2Proof.Machine.execKcpUdpHandleLapse k s
  | .kcpUdpSessionIdle k => Sys2Proof.Machine.execKcpUdpSessionIdle k s
  | .kcpUdpIgnoreEnd peer => Sys2Proof.Machine.execKcpUdpIgnoreEnd peer s
  | .trussLoad c slot source standing address length => Sys2Proof.Machine.execTrussLoad c slot source standing address length s
  | .trussLoadDone slot host sigOk => Sys2Proof.Machine.execTrussLoadDone slot host sigOk s
  | .trussCheck c slot => Sys2Proof.Machine.execTrussCheck c slot s
  | .trussCheckDone slot => Sys2Proof.Machine.execTrussCheckDone slot s
  | .trussQuery c slot => Sys2Proof.Machine.execTrussQuery c slot s
  | .trussUnload c slot => Sys2Proof.Machine.execTrussUnload c slot s
  | .planChange c bytes => Sys2Proof.Machine.execPlanChange c bytes s
  | .planCommit c base target => Sys2Proof.Machine.execPlanCommit c base target s
  | .planCommitDone slot derived => Sys2Proof.Machine.execPlanCommitDone slot derived s
  | .planDiscard c => Sys2Proof.Machine.execPlanDiscard c s
  | .standingQuery c slot => Sys2Proof.Machine.execStandingQuery c slot s
  | .standingWrite c slot => Sys2Proof.Machine.execStandingWrite c slot s
  | .standingWriteDone ok => Sys2Proof.Machine.execStandingWriteDone ok s
  | .standingSelect c slot => Sys2Proof.Machine.execStandingSelect c slot s
  | .itemIssue g item bad => Sys2Proof.Machine.execItemIssue g item bad s
  | .laneFreeStart lane => Sys2Proof.Machine.execLaneFreeStart lane s
  | .fetchIssue g item entry => Sys2Proof.Machine.execFetchIssue g item entry s
  | .readDataLand port address host => Sys2Proof.Machine.execReadDataLand port address host s
  | .itemComplete lane => Sys2Proof.Machine.execItemComplete lane s
  | .itemDeadline g item lines => Sys2Proof.Machine.execItemDeadline g item lines s
  | .publishCutoff g => Sys2Proof.Machine.execPublishCutoff g s
  | .sill g how => Sys2Proof.Machine.execSill g how s
  | .sillCopyDone g => Sys2Proof.Machine.execSillCopyDone g s
  | .sillArmArm fn g => Sys2Proof.Machine.execSillArmArm fn g s
  | .sillArmDisarm fn g => Sys2Proof.Machine.execSillArmDisarm fn g s
  | .llwWrite fn slot offset value => Sys2Proof.Machine.execLlwWrite fn slot offset value s
  | .seqSwitch c slot => Sys2Proof.Machine.execSeqSwitch c slot s
  | .seqArm c mask => Sys2Proof.Machine.execSeqArm c mask s
  | .seqDisarm c mask => Sys2Proof.Machine.execSeqDisarm c mask s
  | .seqQuery c group => Sys2Proof.Machine.execSeqQuery c group s
  | .seqSetCutoff c group us => Sys2Proof.Machine.execSeqSetCutoff c group us s
  | .seqForceVariant c variant => Sys2Proof.Machine.execSeqForceVariant c variant s
  | .surfAlloc c format width height flags address stride plane1 handle => Sys2Proof.Machine.execSurfAlloc c format width height flags address stride plane1 handle s
  | .surfFree c handle => Sys2Proof.Machine.execSurfFree c handle s
  | .surfQuery c handle => Sys2Proof.Machine.execSurfQuery c handle s
  | .surfShare c handle share => Sys2Proof.Machine.execSurfShare c handle share s
  | .layerSet c slot mask values => Sys2Proof.Machine.execLayerSet c slot mask values s
  | .layerSetType c slot first count values => Sys2Proof.Machine.execLayerSetType c slot first count values s
  | .layerQuery c slot => Sys2Proof.Machine.execLayerQuery c slot s
  | .cellWrite c slot count first entries => Sys2Proof.Machine.execCellWrite c slot count first entries s
  | .cellFill c slot first count entry => Sys2Proof.Machine.execCellFill c slot first count entry s
  | .sclBankLoad c bank address => Sys2Proof.Machine.execSclBankLoad c bank address s
  | .sclBankQuery c bank copy address => Sys2Proof.Machine.execSclBankQuery c bank copy address s
  | .sclSetSlot c slot h v sh sv => Sys2Proof.Machine.execSclSetSlot c slot h v sh sv s
  | .sclQuerySlot c slot => Sys2Proof.Machine.execSclQuerySlot c slot s
  | .colTableLoad c index address => Sys2Proof.Machine.execColTableLoad c index address s
  | .colTableQuery c index => Sys2Proof.Machine.execColTableQuery c index s
  | .colTableFree c index => Sys2Proof.Machine.execColTableFree c index s
  | .colSetOutput c output mask space background matrix regamma regTable lut dither => Sys2Proof.Machine.execColSetOutput c output mask space background matrix regamma regTable lut dither s
  | .colQueryOutput c output view => Sys2Proof.Machine.execColQueryOutput c output view s
  | .colSetSlot c slot mask values => Sys2Proof.Machine.execColSetSlot c slot mask values s
  | .headFrameStart h => Sys2Proof.Machine.execHeadFrameStart h s
  | .headLineStart h ecc => Sys2Proof.Machine.execHeadLineStart h ecc s
  | .hpdPlug h sink => Sys2Proof.Machine.execHpdPlug h sink s
  | .hpdUnplug h => Sys2Proof.Machine.execHpdUnplug h s
  | .irqHpd h linkLost => Sys2Proof.Machine.execIrqHpd h linkLost s
  | .hpdShortPulse h => Sys2Proof.Machine.execHpdShortPulse h s
  | .linkTrainingAttemptEnd h ok => Sys2Proof.Machine.execLinkTrainingAttemptEnd h ok s
  | .auxReply h reply data => Sys2Proof.Machine.execAuxReply h reply data s
  | .headWritebackFrameEnd h => Sys2Proof.Machine.execHeadWritebackFrameEnd h s
  | .headQuery c head view => Sys2Proof.Machine.execHeadQuery c head view s
  | .headSetTiming c entry => Sys2Proof.Machine.execHeadSetTiming c entry s
  | .headSetPower c head power => Sys2Proof.Machine.execHeadSetPower c head power s
  | .headRetrain c head => Sys2Proof.Machine.execHeadRetrain c head s
  | .headAux c head op length i2c address data => Sys2Proof.Machine.execHeadAux c head op length i2c address data s
  | .headSetBacklight c head level => Sys2Proof.Machine.execHeadSetBacklight c head level s
  | .beaconTimer => Sys2Proof.Machine.execBeaconTimer s
  | .adtHelloRx d hello => Sys2Proof.Machine.execAdtHelloRx d hello s
  | .adtHeartbeatRx d frame summary flags late offset => Sys2Proof.Machine.execAdtHeartbeatRx d frame summary flags late offset s
  | .adtLeaveRx d reason => Sys2Proof.Machine.execAdtLeaveRx d reason s
  | .adtRepairRx d frame flags entries => Sys2Proof.Machine.execAdtRepairRx d frame flags entries s
  | .sourceSliceRx d frame index frag fragCount digest offset payload => Sys2Proof.Machine.execSourceSliceRx d frame index frag fragCount digest offset payload s
  | .frameDoneRx d frame capture slices digest => Sys2Proof.Machine.execFrameDoneRx d frame capture slices digest s
  | .ingestFrameComplete source => Sys2Proof.Machine.execIngestFrameComplete source s
  | .ingestFrameTimeout source => Sys2Proof.Machine.execIngestFrameTimeout source s
  | .adtHeartbeatTx source number => Sys2Proof.Machine.execAdtHeartbeatTx source number s
  | .adtPeerNotLive source number => Sys2Proof.Machine.execAdtPeerNotLive source number s
  | .adtSessionTimeout source number => Sys2Proof.Machine.execAdtSessionTimeout source number s
  | .announceTime g => Sys2Proof.Machine.execAnnounceTime g s
  | .mortiseOpen p g index => Sys2Proof.Machine.execMortiseOpen p g index s
  | .adtBlankRepeat number => Sys2Proof.Machine.execAdtBlankRepeat number s
  | .adtHoldEnd number => Sys2Proof.Machine.execAdtHoldEnd number s
  | .adtConfig c port heartbeat hold repair beacon group => Sys2Proof.Machine.execAdtConfig c port heartbeat hold repair beacon group s
  | .adtQuery c kind number => Sys2Proof.Machine.execAdtQuery c kind number s
  | .adtBind c kind fixed number peer address => Sys2Proof.Machine.execAdtBind c kind fixed number peer address s
  | .adtDisconnect c kind number hold => Sys2Proof.Machine.execAdtDisconnect c kind number hold s
  | .adtRefresh c first count => Sys2Proof.Machine.execAdtRefresh c first count s
  | .adtBlank c first count op notice background colour => Sys2Proof.Machine.execAdtBlank c first count op notice background colour s
  | .adtSourceCtrl c source op => Sys2Proof.Machine.execAdtSourceCtrl c source op s
  | .adtStats c => Sys2Proof.Machine.execAdtStats c s
  | .ethLinkDown p => Sys2Proof.Machine.execEthLinkDown p s
  | .ethLinkUp p rxInvert => Sys2Proof.Machine.execEthLinkUp p rxInvert s
  | .ethLinkUpSettled p => Sys2Proof.Machine.execEthLinkUpSettled p s
  | .ethFrameDiscard p integrity wire => Sys2Proof.Machine.execEthFrameDiscard p integrity wire s
  | .arpNdRx p reply target sender mac => Sys2Proof.Machine.execArpNdRx p reply target sender mac s
  | .icmpEchoRx p target sender mac bytes => Sys2Proof.Machine.execIcmpEchoRx p target sender mac bytes s
  | .arpRetry p address => Sys2Proof.Machine.execArpRetry p address s
  | .arpGiveUp p address => Sys2Proof.Machine.execArpGiveUp p address s
  | .neighbourAgeOut p address => Sys2Proof.Machine.execNeighbourAgeOut p address s
  | .ptpSyncRx p measured estimate rate ratio => Sys2Proof.Machine.execPtpSyncRx p measured estimate rate ratio s
  | .ptpAnnounceRx p priority1 clockClass accuracy variance priority2 identity steps => Sys2Proof.Machine.execPtpAnnounceRx p priority1 clockClass accuracy variance priority2 identity steps s
  | .ptpSyncTx => Sys2Proof.Machine.execPtpSyncTx s
  | .ptpSyncTimeout p => Sys2Proof.Machine.execPtpSyncTimeout p s
  | .mkaRx p install => Sys2Proof.Machine.execMkaRx p install s
  | .mkaPeerTimeout p => Sys2Proof.Machine.execMkaPeerTimeout p s
  | .cbResetTimeout entry => Sys2Proof.Machine.execCbResetTimeout entry s
  | .cbFrameRx p mac vlan seq wire => Sys2Proof.Machine.execCbFrameRx p mac vlan seq wire s
  | .calendarBucketExpand p => Sys2Proof.Machine.execCalendarBucketExpand p s
  | .macSelectFrame p => Sys2Proof.Machine.execMacSelectFrame p s
  | .netPortQuery c port => Sys2Proof.Machine.execNetPortQuery c port s
  | .netPortCfg c port mode txInvert adt largest pcpSlice pcpControl pcpRepair flags cap => Sys2Proof.Machine.execNetPortCfg c port mode txInvert adt largest pcpSlice pcpControl pcpRepair flags cap s
  | .netPortEnable c port enable => Sys2Proof.Machine.execNetPortEnable c port enable s
  | .netSetAddr c port version prefixLen address => Sys2Proof.Machine.execNetSetAddr c port version prefixLen address s
  | .netTimeCfg c role domain priority1 priority2 clockClass accuracy logSync ports asymmetry => Sys2Proof.Machine.execNetTimeCfg c role domain priority1 priority2 clockClass accuracy logSync ports asymmetry s
  | .netTimeQuery c => Sys2Proof.Machine.execNetTimeQuery c s
  | .netMacsecCfg c port mode cipher keySlot replay keyPrio => Sys2Proof.Machine.execNetMacsecCfg c port mode cipher keySlot replay keyPrio s
  | .netMacsecKey c slot op len cak ckn => Sys2Proof.Machine.execNetMacsecKey c slot op len cak ckn s
  | .netCbCfg c entry op ports history mac vlan timeout => Sys2Proof.Machine.execNetCbCfg c entry op ports history mac vlan timeout s
  | .calQuery c port variant => Sys2Proof.Machine.execCalQuery c port variant s
  | .calSetRates c port mask rates bursts => Sys2Proof.Machine.execCalSetRates c port mask rates bursts s
  | .dmaDoorbell fn c value m => Sys2Proof.Machine.execDmaDoorbell fn c value m s
  | .dmaChCfgWrite fn c value m => Sys2Proof.Machine.execDmaChCfgWrite fn c value m s
  | .dmaChAbort fn c => Sys2Proof.Machine.execDmaChAbort fn c s
  | .dmaChResume fn c m => Sys2Proof.Machine.execDmaChResume fn c m s
  | .dmaSwreq fn value => Sys2Proof.Machine.execDmaSwreq fn value s
  | .dreqEdge line qualified levels => Sys2Proof.Machine.execDreqEdge line qualified levels s
  | .dmaRequest line m => Sys2Proof.Machine.execDmaRequest line m s
  | .dmaDescDone c m => Sys2Proof.Machine.execDmaDescDone c m s
  | .dmaCqConsWrite fn q value m => Sys2Proof.Machine.execDmaCqConsWrite fn q value m s
  | .dmaCqCfgWrite fn q value m => Sys2Proof.Machine.execDmaCqCfgWrite fn q value m s
  | .wbFrameDone e => Sys2Proof.Machine.execWbFrameDone e s
  | .ingCfg c source depth queue => Sys2Proof.Machine.execIngCfg c source depth queue s
  | .ingQuery c source => Sys2Proof.Machine.execIngQuery c source s
  | .wbSetTarget c engine count queue handles => Sys2Proof.Machine.execWbSetTarget c engine count queue handles s
  | .wbQuery c engine => Sys2Proof.Machine.execWbQuery c engine s
  | .dmaCqCfg c queue owner => Sys2Proof.Machine.execDmaCqCfg c queue owner s
  | .dmaReqMap c line source => Sys2Proof.Machine.execDmaReqMap c line source s
  | .dmaQuery c channel => Sys2Proof.Machine.execDmaQuery c channel s
  | .emergNAssert => Sys2Proof.Machine.execEmergNAssert s
  | .emergNRelease => Sys2Proof.Machine.execEmergNRelease s
  | .bulletinLaid ns => Sys2Proof.Machine.execBulletinLaid ns s
  | .fieldPersistWrite field => Sys2Proof.Machine.execFieldPersistWrite field s
  | .svcFieldDefine c field slot col row cols rows just flags map fg bg => Sys2Proof.Machine.execSvcFieldDefine c field slot col row cols rows just flags map fg bg s
  | .svcFieldSet c field op flags fg bg length text => Sys2Proof.Machine.execSvcFieldSet c field op flags fg bg length text s
  | .svcFieldQuery c field => Sys2Proof.Machine.execSvcFieldQuery c field s
  | .svcCharmapLoad c map address => Sys2Proof.Machine.execSvcCharmapLoad c map address s
  | .svcMosaicSet c slot m width colour pattern0 pattern1 => Sys2Proof.Machine.execSvcMosaicSet c slot m width colour pattern0 pattern1 s
  | .svcMosaicQuery c slot => Sys2Proof.Machine.execSvcMosaicQuery c slot s
  | .svcMsgSet c message op map fg bg prio length text => Sys2Proof.Machine.execSvcMsgSet c message op map fg bg prio length text s
  | .svcBulletin c op message => Sys2Proof.Machine.execSvcBulletin c op message s
  | .svcBulletinQuery c => Sys2Proof.Machine.execSvcBulletinQuery c s
  | .svcEmergCfg c message enable => Sys2Proof.Machine.execSvcEmergCfg c message enable s
  | .intcRound => Sys2Proof.Machine.execIntcRound s
  | .intcClaim core => Sys2Proof.Machine.execIntcClaim core s
  | .intcComplete core source => Sys2Proof.Machine.execIntcComplete core source s
  | .intcCoreCtrlWrite core enable settings => Sys2Proof.Machine.execIntcCoreCtrlWrite core enable settings s
  | .intcHostEoi fn value => Sys2Proof.Machine.execIntcHostEoi fn value s
  | .intcHostSwset fn value => Sys2Proof.Machine.execIntcHostSwset fn value s
  | .intcHostMaskWrite fn k value => Sys2Proof.Machine.execIntcHostMaskWrite fn k value s
  | .intcSetSource c first count items sensing prio enable targets => Sys2Proof.Machine.execIntcSetSource c first count items sensing prio enable targets s
  | .intcQuerySource c source => Sys2Proof.Machine.execIntcQuerySource c source s
  | .intcQueryTarget c target => Sys2Proof.Machine.execIntcQueryTarget c target s
  | .faultCollectorCycle occs pinHigh => Sys2Proof.Machine.execFaultCollectorCycle occs pinHigh s
  | .faultOccurrence source detail => Sys2Proof.Machine.execFaultOccurrence source detail s
  | .brokenWire source => Sys2Proof.Machine.execBrokenWire source s
  | .faultLiveFall source => Sys2Proof.Machine.execFaultLiveFall source s
  | .quietPeriodEnd source => Sys2Proof.Machine.execQuietPeriodEnd source s
  | .faultRingMirror => Sys2Proof.Machine.execFaultRingMirror s
  | .errnPulseEnd => Sys2Proof.Machine.execErrnPulseEnd s
  | .disagreeOpen kind index => Sys2Proof.Machine.execDisagreeOpen kind index s
  | .disagree1ms kind index => Sys2Proof.Machine.execDisagree1ms kind index s
  | .disagreeWindowEnd kind index => Sys2Proof.Machine.execDisagreeWindowEnd kind index s
  | .disagreeClose kind index => Sys2Proof.Machine.execDisagreeClose kind index s
  | .coreWatchdogExpiry core => Sys2Proof.Machine.execCoreWatchdogExpiry core s
  | .fltForceAssert fn value => Sys2Proof.Machine.execFltForceAssert fn value s
  | .fltForceBroken fn value => Sys2Proof.Machine.execFltForceBroken fn value s
  | .fltForceRelease fn value => Sys2Proof.Machine.execFltForceRelease fn value s
  | .fltQuery c => Sys2Proof.Machine.execFltQuery c s
  | .fltLogRead c first count mode address => Sys2Proof.Machine.execFltLogRead c first count mode address s
  | .fltAck c kind first count => Sys2Proof.Machine.execFltAck c kind first count s
  | .fltSetSource c first count minClass n ceiling w => Sys2Proof.Machine.execFltSetSource c first count minClass n ceiling w s
  | .fltSetRecovery c k q2 q3 => Sys2Proof.Machine.execFltSetRecovery c k q2 q3 s
  | .fltUnfence c source => Sys2Proof.Machine.execFltUnfence c source s
  | .fltSetErrn c pulseClass levelClass pulseUs swLevel => Sys2Proof.Machine.execFltSetErrn c pulseClass levelClass pulseUs swLevel s
  | .fltSetSafeField c address length => Sys2Proof.Machine.execFltSetSafeField c address length s
  | .fltEnterSafe c confirm => Sys2Proof.Machine.execFltEnterSafe c confirm s
  | .fltEnterSafeDue => Sys2Proof.Machine.execFltEnterSafeDue s
  | .fltSrcQuery c source => Sys2Proof.Machine.execFltSrcQuery c source s
  | .pmuUpdate => Sys2Proof.Machine.execPmuUpdate s
  | .pmuCntLoRead fn user counter wide => Sys2Proof.Machine.execPmuCntLoRead fn user counter wide s
  | .pmuCntHiWrite fn user counter value => Sys2Proof.Machine.execPmuCntHiWrite fn user counter value s
  | .pmuCntLoWrite fn user counter wide value => Sys2Proof.Machine.execPmuCntLoWrite fn user counter wide value s
  | .pmuSnapTakeBit fn => Sys2Proof.Machine.execPmuSnapTakeBit fn s
  | .pmuSnapReleaseBit fn bank => Sys2Proof.Machine.execPmuSnapReleaseBit fn bank s
  | .snapshotDone ns => Sys2Proof.Machine.execSnapshotDone ns s
  | .bwWindowEnd n => Sys2Proof.Machine.execBwWindowEnd n s
  | .pmuFcSet c counter mode path direction cls master chain clear privilege event low high => Sys2Proof.Machine.execPmuFcSet c counter mode path direction cls master chain clear privilege event low high s
  | .pmuFcQuery c counter => Sys2Proof.Machine.execPmuFcQuery c counter s
  | .pmuSnapCfg c mask group cls hold period => Sys2Proof.Machine.execPmuSnapCfg c mask group cls hold period s
  | .pmuSnapTake c => Sys2Proof.Machine.execPmuSnapTake c s
  | .pmuSnapQuery c => Sys2Proof.Machine.execPmuSnapQuery c s
  | .pmuBwSet c engine k align cls threshold clear => Sys2Proof.Machine.execPmuBwSet c engine k align cls threshold clear s
  | .pmuBwQuery c engine => Sys2Proof.Machine.execPmuBwQuery c engine s
  | .pmuClear c mask => Sys2Proof.Machine.execPmuClear c mask s
  | .idRcvGo fn => Sys2Proof.Machine.execIdRcvGo fn s
  | .idRcvCfgReset fn => Sys2Proof.Machine.execIdRcvCfgReset fn s
  | .rcvInstallDone image sigOk ok => Sys2Proof.Machine.execRcvInstallDone image sigOk ok s
  | .imageWriteDone host sigOk ok => Sys2Proof.Machine.execImageWriteDone host sigOk ok s
  | .tamperAssert => Sys2Proof.Machine.execTamperAssert s
  | .tamperRelease => Sys2Proof.Machine.execTamperRelease s
  | .supplyGlitch rail mv ns => Sys2Proof.Machine.execSupplyGlitch rail mv ns s
  | .temperatureAlarm tj => Sys2Proof.Machine.execTemperatureAlarm tj s
  | .debugChallengeLapse => Sys2Proof.Machine.execDebugChallengeLapse s
  | .secAttest c mode address nonce => Sys2Proof.Machine.execSecAttest c mode address nonce s
  | .secIdentity c mode address => Sys2Proof.Machine.execSecIdentity c mode address s
  | .secKeyInstall c address sigOk => Sys2Proof.Machine.execSecKeyInstall c address sigOk s
  | .secKeyQuery c slot => Sys2Proof.Machine.execSecKeyQuery c slot s
  | .secImageWrite c target source length address => Sys2Proof.Machine.execSecImageWrite c target source length address s
  | .secImageQuery c image => Sys2Proof.Machine.execSecImageQuery c image s
  | .secRollbackCommit c kind value => Sys2Proof.Machine.execSecRollbackCommit c kind value s
  | .secDebugChallenge c => Sys2Proof.Machine.execSecDebugChallenge c s
  | .secDebugUnlock c address sigOk => Sys2Proof.Machine.execSecDebugUnlock c address sigOk s
  | .secTamperCfg c action => Sys2Proof.Machine.execSecTamperCfg c action s
  | .perstNDeassert => Sys2Proof.Machine.execPerstNDeassert s
  | .peRefclkLoss => Sys2Proof.Machine.execPeRefclkLoss s
  | .peRefclkReturn => Sys2Proof.Machine.execPeRefclkReturn s
  | .busMasterEnableSet fn => Sys2Proof.Machine.execBusMasterEnableSet fn s
  | .vfEnableWrite enable => Sys2Proof.Machine.execVfEnableWrite enable s
  | .cxlPortInitDone m => Sys2Proof.Machine.execCxlPortInitDone m s
  | .ptpPdelayTimer => Sys2Proof.Machine.execPtpPdelayTimer s
  | .ptpPdelayRx p response capable delay => Sys2Proof.Machine.execPtpPdelayRx p response capable delay s
  | .snapTimeLoRead fn => Sys2Proof.Machine.execSnapTimeLoRead fn s

end Sys2Proof.Machine
end

