-- ==== Sys2Proof/Machine/Tick.lean ====
section
/-! DEFINITION. What an idle step does: one edge of the plan-time counter (R74, log 2). -/

namespace Sys2Proof.Machine

/-- One plan-counter edge: 2 ns on the always-on count, and on plan time once the internal reset is released (R74). -/
def State.tick (s : State) : State :=
  if s.boot.phase = .powerOnReset ∨ s.boot.phase = .pinReset then s.modClk fun c => { c with aon := c.aon + 2 } else s.elapse 2

end Sys2Proof.Machine
end

