-- ==== Sys2Proof/Machine/RegRead.lean ====
section
/-! DEFINITION. What a host reads of BAR0 and BAR2: every register by its access code, the grants that reads need, and the read latches (R2, R79,
R123–R127, R136, R216, R431, R460, R468, R477, R480, R490). The table has no row for a read that changes no latch (log 39). -/

namespace Sys2Proof.Machine

/-- The low word of a 64-bit value, or (`hi`) its high word. -/
def halfOf (hi : Bool) (v : Nat) : Nat := if hi then v / 2 ^ 32 % 2 ^ 32 else v % 2 ^ 32

/-! ### Blocks of BAR0, word by word; `none` where R124 applies -/

/-- R126: PCI class code. -/
def pciClass : Nat := 0x038000

/-- R120: VF Device ID, first VF offset and stride of the SR-IOV capability. -/
def vfDeviceId : Nat := 0x9609
def firstVfOffset : Nat := 1
def vfStride : Nat := 1

/-- R120: the options of the host port that the PCIe capabilities advertise; an option not listed is not supported. -/
inductive PciOption where
  | aer | acs | flr | aspmL1 | aspmL0s | ats | pri | pasid | ptm | resizableBar | msi | intx | msix | sriov
  deriving DecidableEq, Repr

/-- R120: function `f` has an option; ACS is on the virtual functions and SR-IOV on the physical function. -/
def PciOption.has (f : Nat) : PciOption → Bool
  | .aer => true | .flr => true | .aspmL1 => true | .msix => true
  | .acs => f != 0
  | .sriov => f == 0
  | _ => false

/-- R120: bytes of a TLP's data for a Max Payload Size setting; larger settings act as 512. -/
def payloadBytes (setting : Nat) : Nat := min 512 (max 128 setting)

/-- R126: what configuration space and the first ID registers give of function `f`: Vendor and Device ID. -/
def idVendorDevice (f : Nat) : Nat := 0x1E7A + 65536 * (if f = 0 then 0x9608 else vfDeviceId)

/-- R126: firmware's version counts while a firmware image runs. -/
def State.fwRuns (s : State) : Bool := s.boot.phase == .running

/-- R126: ID_REVISION: stepping B0, and the running image's version. -/
def State.idRevision (s : State) : Nat := 0x10 + 256 * (if s.fwRuns then leNat s.fwBytes else 0)

/-- R126: Vendor and Device ID, Revision ID, class code and Subsystem IDs of configuration space. -/
def State.pciIds (s : State) (f : Nat) : Nat × Nat × Nat × Nat := (idVendorDevice f, 0x10, pciClass, s.boot.board.subsystem.toNat)

/-- R126: ID_LINK. -/
def State.idLink (s : State) : Nat :=
  packBits [(0, 3, s.host.rate.toNat), (3, 5, s.host.width.toNat), (16, 16, s.host.latency.toNat)]

/-- R30, R58, R126, R490: the ID block. -/
def State.idWord (s : State) (f off : Nat) : Option Nat :=
  let rcv := fun (v : Nat) => some (if s.boot.phase == .recovery && f == 0 then v else 0)
  match off with
  | 0x00 => some (idVendorDevice f)
  | 0x04 => some s.idRevision
  | 0x08 => some (packBits [(0, 4, f), (4, 1, b2n (f != 0)), (5, 1, b2n (s.fn f).stale)])
  | 0x0C => some (packBits [(0, 8, 0x20), (8, 8, 0x32), (16, 8, 0x20), (24, 4, 4), (28, 4, 2)])
  | 0x10 => some s.idLink
  | 0x14 => some (s.fn f).denied.toNat
  | 0x18 => some (packBits [(0, 16, s.host.surpriseCount.toNat), (16, 16, s.host.surpriseMs.toNat)])
  | 0x40 => some s.idStrap
  | 0x44 => some s.boot.cause.toNat
  | 0x48 => some s.idBootStatus
  | 0x80 => rcv (halfOf false s.sec.rcvAddr.toNat)
  | 0x84 => rcv (halfOf true s.sec.rcvAddr.toNat)
  | 0x88 => rcv s.sec.rcvLen.toNat
  | 0x8C => some 0
  | 0x90 => rcv (packBits [(0, 3, s.sec.rcvState.toNat), (8, 8, s.sec.rcvReason.toNat)])
  | _ => none

/-- R136: mailbox `n`. -/
def State.mbxWord (s : State) (f n off : Nat) : Option Nat :=
  let m := s.mbx f n
  match off with
  | 0x00 => some (halfOf false m.cmdBase.toNat)
  | 0x04 => some (halfOf true m.cmdBase.toNat)
  | 0x08 => some (halfOf false m.rspBase.toNat)
  | 0x0C => some (halfOf true m.rspBase.toNat)
  | 0x10 => some (packBits [(0, 1, b2n m.enable), (1, 4, m.log2Size.toNat)])
  | 0x14 => some m.cmdProd.toNat
  | 0x18 => some m.cmdCons.toNat
  | 0x1C => some m.rspProd.toNat
  | 0x20 => some m.rspCons.toNat
  | 0x24 => some (packBits [(0, 1, b2n m.session.isSome), (1, 1, b2n m.busy), (2, 1, b2n m.badDoorbell), (3, 1, b2n m.refused),
      (4, 1, b2n m.fetchError), (16, 16, m.ignored.toNat)])
  | _ => none

/-- R127: event ring `n`; phase_init reads 1. -/
def State.ringWord (s : State) (f n off : Nat) : Option Nat :=
  let r := s.ring f n
  match off with
  | 0x00 => some (halfOf false r.base.toNat)
  | 0x04 => some (halfOf true r.base.toNat)
  | 0x08 => some (packBits [(0, 1, b2n r.enable), (1, 5, r.log2Size.toNat), (6, 1, b2n r.fmt1), (7, 1, 1), (8, 7, r.vector.toNat),
      (16, 10, r.types.toNat)])
  | 0x0C => some (packBits [(0, 8, r.coalCount.toNat), (8, 16, r.coalTimeout.toNat)])
  | 0x10 => some r.prod.toNat
  | 0x14 => some r.cons.toNat
  | 0x18 => some (packBits [(0, 1, b2n r.full), (1, 1, b2n r.overflow), (2, 1, b2n r.refused), (16, 16, r.dropped.toNat)])
  | _ => none

/-- R120, R127: an entry of the MSI-X table, laid out as PCIe gives it (PRESUMED, log 5). -/
def State.vecWord (s : State) (f off : Nat) : Nat :=
  let v := tabGet s.host.msix (128 * f + off / 16)
  match off % 16 with
  | 0 => halfOf false v.addr.toNat
  | 4 => halfOf true v.addr.toNat
  | 8 => v.data.toNat
  | _ => b2n v.masked

/-- A word whose bit j says whether `p` holds of 32k + j. -/
def bitWord (k : Nat) (p : Nat → Bool) : Nat := ((List.range 32).map fun j => b2n (p (32 * k + j)) * 2 ^ j).sum

/-- R127: word `k` of the pending-bit array. -/
def State.pbaWord (s : State) (f k : Nat) : Nat := bitWord k fun x => (tabGet s.host.msix (128 * f + x)).pending

/-- R431: INTC_HOST_RUN. -/
def State.intcRun (s : State) (f : Nat) : Nat :=
  let run := s.intRunning (4 + f)
  packBits [(0, 4, run.getD 0), (4, 1, b2n run.isNone), (8, 5, (s.intActive (4 + f)).length)]

/-- R431: the host-target view of function `f`; bits of sources it is not granted read 0. -/
def State.intcWord (s : State) (f off : Nat) : Option Nat :=
  let t := s.intTgt (4 + f)
  if off = 0x00 ∨ off = 0x10 then some 0
  else if off = 0x04 then some (s.intcRun f)
  else if off = 0x08 then some (packBits [(0, 16, t.delivered.toNat), (16, 16, t.held.toNat)])
  else if off = 0x0C then some (packBits [(0, 16, min 65535 t.spurious.toNat), (16, 16, t.released.toNat)])
  else if 0x80 ≤ off ∧ off < 0xD0 then some (bitWord ((off - 0x80) / 4) fun x => (s.intActive (4 + f)).any fun e => e.1 == x)
  else if 0x100 ≤ off ∧ off < 0x150 then
    some (bitWord ((off - 0x100) / 4) fun x => s.hasIrq f x && intPending x (s.intSrc x) (s.intSrc x).host)
  else if 0x180 ≤ off ∧ off < 0x1D0 then some (bitWord ((off - 0x180) / 4) fun x => s.hasIrq f x && (s.intSrc x).host.masked)
  else none

/-- R460: word `w` of a record, 0 when it is empty. -/
def recWord (r : Option FltRec) (w : Nat) : Nat := match r with | some r => leNat ((r.bytes.drop (4 * w)).take 4) | none => 0

/-- R460: the fault block, for a function that holds grant kind 7. -/
def State.fltWord (s : State) (f off : Nat) : Option Nat :=
  if !s.hasFltRead f then none
  else if off = 0x00 then some s.fltStatus
  else if off = 0x04 then
    some (packBits [(0, 3, s.fltMram.pulseClass.toNat), (3, 3, s.fltMram.levelClass.toNat), (6, 1, b2n s.flt.swLevel), (8, 16, s.fltMram.pulseUs.toNat)])
  else if off = 0x08 then some (packBits [(0, 6, s.flt.write.toNat), (8, 6, s.flt.mirror.toNat), (16, 7, s.flt.ring.length)])
  else if off = 0x0C then some s.flt.overflow.toNat
  else if off = 0x10 then some s.fltMram.logSeq.toNat
  else if 0x40 ≤ off ∧ off < 0x60 then some (recWord s.flt.first ((off - 0x40) / 4))
  else if 0x60 ≤ off ∧ off < 0x80 then some (recWord s.flt.next ((off - 0x60) / 4))
  else if 0x80 ≤ off ∧ off < 0x98 then some (bitWord ((off - 0x80) / 4) fun x => (s.fltSrc x).cause)
  else if 0xA0 ≤ off ∧ off < 0xB8 then some (bitWord ((off - 0xA0) / 4) fun x => (s.fltSrc x).live)
  else if 0xC0 ≤ off ∧ off < 0xD8 then some (bitWord ((off - 0xC0) / 4) fun x => (s.fltSrc x).trans)
  else if 0x100 ≤ off ∧ off < 0x110 then some (tabGet s.flt.fence ((off - 0x100) / 4)).toNat
  else if 0x110 ≤ off ∧ off < 0x120 then some (tabGet s.fltMram.lock ((off - 0x110) / 4)).toNat
  else if 0x200 ≤ off ∧ off < 0x500 then some (s.fltSrcWord ((off - 0x200) / 4))
  else if 0x500 ≤ off ∧ off < 0x800 then some (s.fltSrc ((off - 0x500) / 4)).occ.toNat
  else if off = 0x800 ∨ off = 0x804 then some 0
  else none

/-- R480: PMU_FCf_STATUS as function `f` reads it. -/
def State.fcStatus (s : State) (f k : Nat) : Nat :=
  packBits [(0, 1, b2n (s.fc k).ovf), (1, 1, b2n (s.fc k).lost), (2, 1, b2n (s.hasCounter f k))]

/-- R480: a word of a snapshot bank. -/
def Snap.word (x : Snap) (off : Nat) : Nat :=
  if off = 0 then x.number % 2 ^ 32 else if off = 4 then x.mask
  else if off = 8 ∨ off = 0xC then halfOf (off == 0xC) x.time
  else if 0x100 ≤ off ∧ off < 0xF00 then halfOf (off % 8 == 4) (tabGet x.cnt ((off - 0x100) / 8))
  else if 0xF00 ≤ off then halfOf (off % 8 == 4) (tabGet x.fc ((off - 0xF00) / 8))
  else 0

/-- R480: a bandwidth-window engine's word. -/
def State.bwWord (s : State) (n off : Nat) : Option Nat :=
  let x := tabGet s.pmu.bw n
  match off with
  | 0x00 => some x.last.toNat
  | 0x04 => some x.peak.toNat
  | 0x08 => some x.peakAt.toNat
  | 0x0C => some x.above.toNat
  | 0x10 => some (s.bwAdmitted n)
  | 0x14 => some (s.bwCfg n)
  | _ => none

/-- R477, R480: the counter page but for the counters' own words; a virtual function sees there only what it is granted. -/
def State.pmuWord (s : State) (f off : Nat) : Option Nat :=
  if 0x1000 ≤ off ∧ off < 0x1400 then
    let k := (off - 0x1000) / 0x20
    if !s.hasCounter f k then none
    else if off % 0x20 = 8 then some (s.fc k).set.cfg
    else if off % 0x20 = 0xC then some (s.fcStatus f k)
    else none
  else if f ≠ 0 then none
  else if 0xE00 ≤ off ∧ off < 0xE38 then some (bitWord ((off - 0xE00) / 4) fun c => tabGet s.pmu.ovf c)
  else if 0xE40 ≤ off ∧ off < 0xE78 then some (bitWord ((off - 0xE40) / 4) fun c => tabGet s.pmu.lost c)
  else if off = 0xE80 then some s.pmu.gaps.toNat
  else if off = 0x2000 then some 0
  else if off = 0x2004 then some (packBits [(0, 1, s.pmu.active), (1, 1, b2n s.pmu.copy.isSome), (16, 16, s.pmu.missed.toNat)])
  else if 0x3000 ≤ off ∧ off < 0x5000 then some ((tabGet s.pmu.banks ((off - 0x3000) / 0x1000)).word (off % 0x1000))
  else if 0x5000 ≤ off ∧ off < 0x5240 then s.bwWord ((off - 0x5000) / 0x20) (off % 0x20)
  else none

/-- R78, R91, R123: the clock registers, read by every function, and the pace registers. -/
def State.clkWord (s : State) (f off : Nat) : Option Nat :=
  if off = 0x00 then some s.clkRef
  else if off = 0x04 then some s.clkTime
  else if off = 0x08 ∨ off = 0x0C then some (halfOf (off == 0xC) s.planTime.toNat)
  else if off = 0x10 ∨ off = 0x14 then some (halfOf (off == 0x14) (signedField 64 s.clk.ntOffset))
  else if off = 0x18 then some s.clkSync
  else if 0x100 ≤ off ∧ off < 0x1A0 then
    let p := s.pll ((off - 0x100) / 0x10)
    some (match off % 16 with | 0 => p.cfg | 4 => p.status | 8 => signedField 32 p.trackErr | _ => p.events)
  else if (0x200 ≤ off ∧ off < 0x220) ∨ (0x240 ≤ off ∧ off < 0x2A0) then (if s.hasFltRead f then some (s.paceReg (off - 0x200)) else none)
  else none

/-- R123, R397: the DMA block; a channel or queue that the function does not hold reads 0. -/
def State.dmaWord (s : State) (f off : Nat) : Option Nat :=
  if (off < 0x1000 ∧ !s.hasDma f (off / 0x80)) ∨ (0x2000 ≤ off ∧ off < 0x2200 ∧ !s.mayCq f ((off - 0x2000) / 0x40)) then none
  else if off < 0x1000 ∨ (0x2000 ≤ off ∧ off < 0x2200) ∨ off = 0x3000 ∨ off = 0x3004 ∨ (0x3010 ≤ off ∧ off < 0x3020) then some (s.dmaReg f off)
  else none

/-- R125: a word of BAR0 as function `f` reads it, every latch apart. -/
def State.regWord (s : State) (f off : Nat) : Option Nat :=
  if off < 0x10000 then s.idWord f off
  else if !s.fwRuns then some 0
  else if off < 0x11000 then s.mbxWord f ((off - 0x10000) / 0x400) (off % 0x400)
  else if 0x20000 ≤ off ∧ off < 0x20100 then s.ringWord f ((off - 0x20000) / 0x40) (off % 0x40)
  else if 0x28000 ≤ off ∧ off < 0x28800 then some (s.vecWord f (off - 0x28000))
  else if 0x2C000 ≤ off ∧ off < 0x2C010 then some (s.pbaWord f ((off - 0x2C000) / 4))
  else if 0x30000 ≤ off ∧ off < 0x40000 then s.intcWord f (off - 0x30000)
  else if 0x40000 ≤ off ∧ off < 0x50000 then s.fltWord f (off - 0x40000)
  else if 0x50000 ≤ off ∧ off < 0x60000 then s.pmuWord f (off - 0x50000)
  else if 0x60000 ≤ off ∧ off < 0x70000 then s.clkWord f (off - 0x60000)
  else if 0x70000 ≤ off ∧ off < 0x80000 then s.dmaWord f (off - 0x70000)
  else if 0x100000 ≤ off ∧ off < 0x500000 then
    (if s.hasSlot f ((off - 0x100000) / 0x200) then some (s.llwRead ((off - 0x100000) / 0x200) (off % 0x200)) else none)
  else if 0x500000 ≤ off ∧ off < 0x501000 then
    (if s.hasGroup f ((off - 0x500000) / 0x100) then some (s.sillReg ((off - 0x500000) / 0x100) (off % 0x100)) else none)
  else none

/-! ### Reads with their latches -/

/-- R79: a high word: the latched value once after a low read, else the live one. -/
def highRead (latch : Tab Nat) (k live : Nat) : Nat × Tab Nat :=
  if tabGet latch k = 0 then (live, latch) else (tabGet latch k - 1, tabErase latch k)

/-- R468: the counter and half that an offset of the BAR0 counter page names. -/
def counterAt (off : Nat) : Option (Nat × Bool) :=
  if off < 0xE00 then some (off / 8, off % 8 == 4)
  else if 0x1000 ≤ off ∧ off < 0x1400 ∧ off % 0x20 < 8 then some (448 + (off - 0x1000) / 0x20, off % 0x20 == 4)
  else none

/-- R468: a 32-bit read of the counter page: a counter's low word latches, its high word takes the latch, and any other read ends it. -/
def State.pageRead (f off : Nat) (s : State) : Option Nat × State :=
  let plain := fun (s : State) => s.modPmu fun p => { p with latch := tabMod p.latch (pageKey f false) fun l => { l with prev := 0 } }
  match counterAt off with
  | none => (s.pmuWord f off, plain s)
  | some (c, hi) =>
    if !s.seesCounter f false c then (none, s)
    else if hi then (some (s.counterHi f false c), plain s)
    else let r := s.counterLo f false c; (some r.1, r.2)

/-- R2, R79, R124, R125: a 32-bit word of BAR0 as function `f` reads it, with the latch that the read moves; `none` where R124 applies. -/
def State.readWord (f off : Nat) (s : State) : Option Nat × State :=
  if !s.fwRuns then (s.regWord f off, s)
  else if off = 0x60008 then (s.regWord f off, s.modClk fun c => { c with timeHiLatch := tabSet c.timeHiLatch f (halfOf true s.planTime.toNat + 1) })
  else if off = 0x6000C then
    let r := highRead s.clk.timeHiLatch f (halfOf true s.planTime.toNat)
    (some r.1, s.modClk fun c => { c with timeHiLatch := r.2 })
  else if off = 0x60010 then
    (s.regWord f off, s.modClk fun c => { c with offsetHiLatch := tabSet c.offsetHiLatch f (halfOf true (signedField 64 s.clk.ntOffset) + 1) })
  else if off = 0x60014 then
    let r := highRead s.clk.offsetHiLatch f (halfOf true (signedField 64 s.clk.ntOffset))
    (some r.1, s.modClk fun c => { c with offsetHiLatch := r.2 })
  else if 0x50000 ≤ off ∧ off < 0x60000 then s.pageRead f (off - 0x50000)
  else if 0x500000 ≤ off ∧ off < 0x501000 ∧ (off % 0x100 = 0x10 ∨ off % 0x100 = 0x14) ∧ s.hasGroup f ((off - 0x500000) / 0x100) then
    let g := (off - 0x500000) / 0x100
    let live := s.sillReg g 0x14
    if off % 0x100 = 0x10 then (s.regWord f off, s.modClk fun c => { c with sillNextLatch := tabSet c.sillNextLatch (16 * f + g) (live + 1) })
    else
      let r := highRead s.clk.sillNextLatch (16 * f + g) live
      (some r.1, s.modClk fun c => { c with sillNextLatch := r.2 })
  else (s.regWord f off, s)

/-- R124: a read refused or not naturally aligned returns 0 and is counted. -/
def refusedRead (f : Nat) (s : State) : Nat × State := (0, s.denied f)

/-- R2, R124, R125, R468: a read of 4 or 8 bytes of BAR0 by function `f`: what it returns, and the state after it. -/
def State.bar0Read (f off size : Nat) (s : State) : Nat × State :=
  let s := s.bar0
  if (size ≠ 4 ∧ size ≠ 8) ∨ off % size ≠ 0 then refusedRead f s
  else if size = 4 then
    match s.readWord f off with
    | (some v, t) => (v, t)
    | (none, t) => refusedRead f t
  else
    match (if s.fwRuns ∧ 0x50000 ≤ off ∧ off < 0x60000 then counterAt (off - 0x50000) else none) with
    | some (c, _) => if s.seesCounter f false c then (s.counter c, s.counterWide f false) else refusedRead f s
    | none =>
      let lo := s.readWord f off
      let hi := lo.2.readWord f (off + 4)
      let v := lo.1.getD 0 + 2 ^ 32 * hi.1.getD 0
      if lo.1.isNone ∨ hi.1.isNone then (v, hi.2.denied f) else (v, hi.2)

/-- R477: a 32-bit word of the user counter page, BAR2, which shows the filtered counters granted; its read latch is its own. -/
def State.bar2Read (f off : Nat) (s : State) : Nat × State :=
  let k := off % 0x100 / 8
  let bank := tabGet s.pmu.banks s.pmu.active
  let plain := s.modPmu fun p => { p with latch := tabMod p.latch (pageKey f true) fun l => { l with prev := 0 } }
  if off < 0x100 then
    if !s.hasCounter f k then refusedRead f s
    else if off % 8 = 4 then (s.counterHi f true (448 + k), plain)
    else s.counterLo f true (448 + k)
  else if off < 0x180 then
    (if s.hasCounter f ((off - 0x100) / 4) then (s.fcStatus f ((off - 0x100) / 4), plain) else refusedRead f s)
  else if off = 0x200 then (bank.number, plain)
  else if off = 0x208 then (halfOf false bank.time, plain.modPmu fun p => { p with timeHi := tabSet p.timeHi f (halfOf true bank.time + 1) })
  else if off = 0x20C then
    let r := highRead s.pmu.timeHi f (halfOf true bank.time)
    (r.1, plain.modPmu fun p => { p with timeHi := r.2 })
  else if 0x300 ≤ off ∧ off < 0x400 then
    (if s.hasCounter f k then (halfOf (off % 8 == 4) (tabGet bank.fc k), plain) else refusedRead f s)
  else (0, plain)

end Sys2Proof.Machine
end

