-- ==== Sys2Proof/WellFormed.lean ====
section
/-! DEFINITION. What a command's operands can be: the lengths and widths of what carries them. -/

namespace Sys2Proof

/-- R141: a parameter area holds at most 48 bytes. -/
def shortList (bs : List Byte) : Bool := decide (bs.length ≤ 48)

/-- R141: a parameter area is 48 bytes. -/
def KcpCtx.wf (c : KcpCtx) : Bool := decide (c.params.length = 48)

/-- R160, R352: a datagram is at most what a frame carries. -/
def dgramFits (bytes : List Byte) : Bool := decide (bytes.length ≤ 9216)

/-- R354: addresses and ports have their widths; R315: a datagram has the size an Ethernet frame allows. -/
def AdtDgram.wf (d : AdtDgram) : Bool :=
  decide (d.mac < 2 ^ 48) && decide (d.addr < 2 ^ 128) && decide (d.udp < 2 ^ 16) && decide (d.size < 2 ^ 16)

/-- R323: the fields of a HELLO have their widths. -/
def Hello.wf (h : Hello) : Bool :=
  decide (h.role < 256) && decide (h.lowest < 256) && decide (h.highest < 256) && decide (h.caps < 256) &&
    decide (h.peer < 2 ^ 64) && [h.maxSlice, h.maxWidth, h.maxHeight, h.tslk, h.wake, h.maxFrag].all fun n => decide (n < 2 ^ 16)

/-- R94, R295: a start finds at most four CXL ports and eight heads. -/
def StartIn.wf (i : StartIn) : Bool := decide (i.cxl.length ≤ 4) && decide (i.sinks.length ≤ 8)

/-- The lengths and widths of a command's operands are those that carry them. -/
def Instr.sized : Instr → Bool
  | .powerOnReset i => i.wf
  | .refclkWaitRetry i => i.wf
  | .brownOut _ _ _ => true
  | .resetNAssert _ => true
  | .resetNRelease i => i.wf
  | .kcpResetBegin i => i.wf
  | .bootWatchdogExpiry i => i.wf
  | .memInitDone => true
  | .hostPortReset => true
  | .hostLinkTrained _ _ _ => true
  | .surpriseDown _ => true
  | .functionLevelReset _ => true
  | .busMasterDisable _ => true
  | .refclkLoss => true
  | .refclkReturn => true
  | .pllLossOfLock _ => true
  | .pllLock _ => true
  | .pllSettleDone _ => true
  | .pllGateOpen _ => true
  | .pllRelockTimeout _ => true
  | .trackerNStep _ => true
  | .syncInEdge _ _ => true
  | .syncInMissing => true
  | .syncOutRise => true
  | .syncOutFall => true
  | .timeHoldover => true
  | .clkTimeLoRead _ => true
  | .clkNtOffsetLoRead _ => true
  | .sillNextLoRead _ _ => true
  | .clkQuery c _ => c.wf
  | .clkSetTrack c _ _ _ _ _ => c.wf
  | .clkSetSyncOut c _ _ _ _ => c.wf
  | .clkRelock c _ => c.wf
  | .clkSetSettle c _ => c.wf
  | .paceWindow _ _ => true
  | .avsLoopPeriod _ => true
  | .paceEscalate => true
  | .paceReducedFloorBreach _ => true
  | .paceReturn => true
  | .pmbusTransactionDone _ _ => true
  | .readVoutPoll => true
  | .regulatorSettleTimeout => true
  | .readIoutPoll => true
  | .openLoopRetry => true
  | .pmAlert => true
  | .paceQuery c => c.wf
  | .paceSetBand c _ _ _ => c.wf
  | .paceSetLimits c _ _ _ _ _ => c.wf
  | .paceClear c => c.wf
  | .paceForceReduced c _ => c.wf
  | .cxlLinkTrained _ _ => true
  | .cxlLinkDown _ => true
  | .cxlViral _ => true
  | .cxlRecoveryTimeout _ => true
  | .cxlRecoveryDone _ => true
  | .poisonResponse _ _ => true
  | .cxlOfflineComplete _ => true
  | .memQuery c _ => c.wf
  | .memSetInterleave c _ => c.wf
  | .memMapAperture c _ _ _ _ => c.wf
  | .memPortOffline c _ => c.wf
  | .memPortOnline c _ => c.wf
  | .memSetSnoop c _ _ => c.wf
  | .bar4Write _ offset bytes _ => !bytes.isEmpty && decide (offset.toNat + bytes.length ≤ 2 ^ 38)
  | .bar4Read _ offset len => decide (0 < len) && decide (offset.toNat + len ≤ 2 ^ 38)
  | .armWritesLanded _ => true
  | .registerWrite _ _ size _ => [1, 2, 4, 8].contains size
  | .evtRingCfgWrite _ _ _ => true
  | .evtRingConsWrite _ _ _ => true
  | .evtCoalTimeout _ _ => true
  | .functionStale _ => true
  | .mbxDoorbell _ _ _ => true
  | .mbxCfgWrite _ _ _ => true
  | .mbxRspConsWrite _ _ _ => true
  | .mbxTakeCommand _ _ entry => entry.all fun b => decide (b.length = 64)
  | .sessOpen c _ _ client _ => c.wf && decide (client.length = 16)
  | .sessClose c => c.wf
  | .sessInfo c => c.wf
  | .sessNop c bytes => c.wf && shortList bytes
  | .sessStatus c => c.wf
  | .sessGrant c _ _ _ _ value => c.wf && decide (value.length ≤ 14)
  | .sessGrantQuery c _ _ _ => c.wf
  | .mntReset c _ _ => c.wf
  | .mntInfo c => c.wf
  | .mntCfgGet c _ => c.wf
  | .mntCfgSet c _ _ value _ => c.wf && decide (value.length ≤ 16)
  | .mntSetNetmgmt c _ _ _ _ _ _ _ _ => c.wf
  | .mntNetkey c _ _ _ key => c.wf && decide (key.length = 32)
  | .kcpUdpHello _ _ bytes _ => dgramFits bytes
  | .kcpUdpCommand _ _ bytes _ plain => dgramFits bytes && decide (plain.length ≤ 64)
  | .kcpUdpHandleLapse _ => true
  | .kcpUdpSessionIdle _ => true
  | .kcpUdpIgnoreEnd peer => decide (peer < 2 ^ 128)
  | .trussLoad c _ _ _ _ _ => c.wf
  | .trussLoadDone _ _ _ => true
  | .trussCheck c _ => c.wf
  | .trussCheckDone _ => true
  | .trussQuery c _ => c.wf
  | .trussUnload c _ => c.wf
  | .planChange c bytes => c.wf && shortList bytes
  | .planCommit c _ _ => c.wf
  | .planCommitDone _ _ => true
  | .planDiscard c => c.wf
  | .standingQuery c _ => c.wf
  | .standingWrite c _ => c.wf
  | .standingWriteDone _ => true
  | .standingSelect c _ => c.wf
  | .itemIssue _ _ _ => true
  | .laneFreeStart _ => true
  | .fetchIssue _ _ _ => true
  | .readDataLand _ _ _ => true
  | .itemComplete _ => true
  | .itemDeadline _ _ _ => true
  | .publishCutoff _ => true
  | .sill _ _ => true
  | .sillCopyDone _ => true
  | .sillArmArm _ _ => true
  | .sillArmDisarm _ _ => true
  | .llwWrite _ _ _ _ => true
  | .seqSwitch c _ => c.wf
  | .seqArm c _ => c.wf
  | .seqDisarm c _ => c.wf
  | .seqQuery c _ => c.wf
  | .seqSetCutoff c _ _ => c.wf
  | .seqForceVariant c _ => c.wf
  | .surfAlloc c _ _ _ _ _ _ _ _ => c.wf
  | .surfFree c _ => c.wf
  | .surfQuery c _ => c.wf
  | .surfShare c _ _ => c.wf
  | .layerSet c _ _ values => c.wf && decide (values.length = 9)
  | .layerSetType c _ _ _ values => c.wf && decide (values.length ≤ 11)
  | .layerQuery c _ => c.wf
  | .cellWrite c _ _ _ entries => c.wf && decide (entries.length ≤ 20)
  | .cellFill c _ _ _ _ => c.wf
  | .sclBankLoad c _ _ => c.wf
  | .sclBankQuery c _ _ _ => c.wf
  | .sclSetSlot c _ _ _ _ _ => c.wf
  | .sclQuerySlot c _ => c.wf
  | .colTableLoad c _ _ => c.wf
  | .colTableQuery c _ => c.wf
  | .colTableFree c _ => c.wf
  | .colSetOutput c _ _ _ background _ _ _ _ _ => c.wf && decide (background.length = 4)
  | .colQueryOutput c _ _ => c.wf
  | .colSetSlot c _ _ values => c.wf && decide (values.length = 4)
  | .headFrameStart _ => true
  | .headLineStart _ _ => true
  | .hpdPlug _ _ => true
  | .hpdUnplug _ => true
  | .irqHpd _ _ => true
  | .hpdShortPulse _ => true
  | .linkTrainingAttemptEnd _ _ => true
  | .auxReply _ _ data => decide (data.length ≤ 16)
  | .headWritebackFrameEnd _ => true
  | .headQuery c _ _ => c.wf
  | .headSetTiming c entry => c.wf && decide (entry.length = 32)
  | .headSetPower c _ _ => c.wf
  | .headRetrain c _ => c.wf
  | .headAux c _ _ _ _ _ data => c.wf && decide (data.length ≤ 16)
  | .headSetBacklight c _ _ => c.wf
  | .beaconTimer => true
  | .adtHelloRx d hello => d.wf && hello.wf
  | .adtHeartbeatRx d _ summary _ _ _ => d.wf && decide (summary < 2 ^ 256)
  | .adtLeaveRx d _ => d.wf
  | .adtRepairRx d _ _ entries => d.wf && decide (entries.length ≤ 5461)
  | .sourceSliceRx d _ _ _ _ _ _ _ => d.wf
  | .frameDoneRx d _ _ _ _ => d.wf
  | .ingestFrameComplete _ => true
  | .ingestFrameTimeout _ => true
  | .adtHeartbeatTx _ _ => true
  | .adtPeerNotLive _ _ => true
  | .adtSessionTimeout _ _ => true
  | .announceTime _ => true
  | .mortiseOpen _ _ _ => true
  | .adtBlankRepeat _ => true
  | .adtHoldEnd _ => true
  | .adtConfig c _ _ _ _ _ _ => c.wf
  | .adtQuery c _ _ => c.wf
  | .adtBind c _ _ _ _ _ => c.wf
  | .adtDisconnect c _ _ _ => c.wf
  | .adtRefresh c _ _ => c.wf
  | .adtBlank c _ _ _ _ _ _ => c.wf
  | .adtSourceCtrl c _ _ => c.wf
  | .adtStats c => c.wf
  | .ethLinkDown _ => true
  | .ethLinkUp _ _ => true
  | .ethLinkUpSettled _ => true
  | .ethFrameDiscard _ _ _ => true
  | .arpNdRx _ _ _ _ _ => true
  | .icmpEchoRx _ _ _ _ _ => true
  | .arpRetry _ _ => true
  | .arpGiveUp _ _ => true
  | .neighbourAgeOut _ _ => true
  | .ptpSyncRx _ _ _ _ _ => true
  | .ptpAnnounceRx _ _ _ _ _ _ _ _ => true
  | .ptpSyncTx => true
  | .ptpSyncTimeout _ => true
  | .mkaRx _ _ => true
  | .mkaPeerTimeout _ => true
  | .cbResetTimeout _ => true
  | .cbFrameRx _ _ _ _ _ => true
  | .calendarBucketExpand _ => true
  | .macSelectFrame _ => true
  | .netPortQuery c _ => c.wf
  | .netPortCfg c _ _ _ _ _ _ _ _ _ _ => c.wf
  | .netPortEnable c _ _ => c.wf
  | .netSetAddr c _ _ _ _ => c.wf
  | .netTimeCfg c _ _ _ _ _ _ _ _ asymmetry => c.wf && decide (asymmetry.length = 4)
  | .netTimeQuery c => c.wf
  | .netMacsecCfg c _ _ _ _ _ _ => c.wf
  | .netMacsecKey c _ _ _ cak ckn => c.wf && decide (cak.length = 32) && decide (ckn.length = 12)
  | .netCbCfg c _ _ _ _ _ _ _ => c.wf
  | .calQuery c _ _ => c.wf
  | .calSetRates c _ _ rates bursts => c.wf && decide (rates.length = 3) && decide (bursts.length = 3)
  | .dmaDoorbell _ _ _ _ => true
  | .dmaChCfgWrite _ _ _ _ => true
  | .dmaChAbort _ _ => true
  | .dmaChResume _ _ _ => true
  | .dmaSwreq _ _ => true
  | .dreqEdge _ _ _ => true
  | .dmaRequest _ _ => true
  | .dmaDescDone _ _ => true
  | .dmaCqConsWrite _ _ _ _ => true
  | .dmaCqCfgWrite _ _ _ _ => true
  | .wbFrameDone _ => true
  | .ingCfg c _ _ _ => c.wf
  | .ingQuery c _ => c.wf
  | .wbSetTarget c _ _ _ handles => c.wf && decide (handles.length ≤ 8)
  | .wbQuery c _ => c.wf
  | .dmaCqCfg c _ _ => c.wf
  | .dmaReqMap c _ _ => c.wf
  | .dmaQuery c _ => c.wf
  | .emergNAssert => true
  | .emergNRelease => true
  | .bulletinLaid _ => true
  | .fieldPersistWrite _ => true
  | .svcFieldDefine c _ _ _ _ _ _ _ _ _ _ _ => c.wf
  | .svcFieldSet c _ _ _ _ _ _ text => c.wf && decide (text.length ≤ 40)
  | .svcFieldQuery c _ => c.wf
  | .svcCharmapLoad c _ _ => c.wf
  | .svcMosaicSet c _ _ _ _ _ _ => c.wf
  | .svcMosaicQuery c _ => c.wf
  | .svcMsgSet c _ _ _ _ _ _ _ text => c.wf && decide (text.length ≤ 36)
  | .svcBulletin c _ _ => c.wf
  | .svcBulletinQuery c => c.wf
  | .svcEmergCfg c _ _ => c.wf
  | .intcRound => true
  | .intcClaim _ => true
  | .intcComplete _ _ => true
  | .intcCoreCtrlWrite _ _ settings => decide (settings.map IntSetting.source).Nodup
  | .intcHostEoi _ _ => true
  | .intcHostSwset _ _ => true
  | .intcHostMaskWrite _ _ _ => true
  | .intcSetSource c _ _ _ _ _ _ _ => c.wf
  | .intcQuerySource c _ => c.wf
  | .intcQueryTarget c _ => c.wf
  | .faultCollectorCycle occs _ => decide (occs.map FltIn.source).Nodup
  | .faultOccurrence _ _ => true
  | .brokenWire _ => true
  | .faultLiveFall _ => true
  | .quietPeriodEnd _ => true
  | .faultRingMirror => true
  | .errnPulseEnd => true
  | .disagreeOpen _ _ => true
  | .disagree1ms _ _ => true
  | .disagreeWindowEnd _ _ => true
  | .disagreeClose _ _ => true
  | .coreWatchdogExpiry _ => true
  | .fltForceAssert _ _ => true
  | .fltForceBroken _ _ => true
  | .fltForceRelease _ _ => true
  | .fltQuery c => c.wf
  | .fltLogRead c _ _ _ _ => c.wf
  | .fltAck c _ _ _ => c.wf
  | .fltSetSource c _ _ _ _ _ _ => c.wf
  | .fltSetRecovery c _ _ _ => c.wf
  | .fltUnfence c _ => c.wf
  | .fltSetErrn c _ _ _ _ => c.wf
  | .fltSetSafeField c _ _ => c.wf
  | .fltEnterSafe c _ => c.wf
  | .fltEnterSafeDue => true
  | .fltSrcQuery c _ => c.wf
  | .pmuUpdate => true
  | .pmuCntLoRead _ _ _ _ => true
  | .pmuCntHiWrite _ _ _ _ => true
  | .pmuCntLoWrite _ _ _ _ _ => true
  | .pmuSnapTakeBit _ => true
  | .pmuSnapReleaseBit _ _ => true
  | .snapshotDone _ => true
  | .bwWindowEnd _ => true
  | .pmuFcSet c _ _ _ _ _ _ _ _ _ _ _ _ => c.wf
  | .pmuFcQuery c _ => c.wf
  | .pmuSnapCfg c _ _ _ _ _ => c.wf
  | .pmuSnapTake c => c.wf
  | .pmuSnapQuery c => c.wf
  | .pmuBwSet c _ _ _ _ _ _ => c.wf
  | .pmuBwQuery c _ => c.wf
  | .pmuClear c _ => c.wf
  | .idRcvGo _ => true
  | .idRcvCfgReset _ => true
  | .rcvInstallDone _ _ _ => true
  | .imageWriteDone _ _ _ => true
  | .tamperAssert => true
  | .tamperRelease => true
  | .supplyGlitch _ _ _ => true
  | .temperatureAlarm _ => true
  | .debugChallengeLapse => true
  | .secAttest c _ _ nonce => c.wf && decide (nonce.length = 32)
  | .secIdentity c _ _ => c.wf
  | .secKeyInstall c _ _ => c.wf
  | .secKeyQuery c _ => c.wf
  | .secImageWrite c _ _ _ _ => c.wf
  | .secImageQuery c _ => c.wf
  | .secRollbackCommit c _ _ => c.wf
  | .secDebugChallenge c => c.wf
  | .secDebugUnlock c _ _ => c.wf
  | .secTamperCfg c _ => c.wf
  | .perstNDeassert => true
  | .peRefclkLoss => true
  | .peRefclkReturn => true
  | .busMasterEnableSet _ => true
  | .vfEnableWrite _ => true
  | .cxlPortInitDone _ => true
  | .ptpPdelayTimer => true
  | .ptpPdelayRx _ _ _ _ => true
  | .snapTimeLoRead _ => true

/-- A command that its wire, its entry or its event can spell; the operands of a KCP command are the fields of its entry (R141). -/
def Instr.wf (i : Instr) : Bool := i.sized && i.entryAgrees

end Sys2Proof
end

