-- ==== Sys2Proof/Safety.lean ====
section
/-! DEFINITION. What the claims speak of: the invariant of ERR_N, the conditions under which a KCP command reaches its
own effect, and the state in which it ends. -/

namespace Sys2Proof.Machine

/-- R18, R451: ERR_N stands at the level that R18, R47, R55 and R451 give it. -/
def State.ErrnTrue (s : State) : Prop := s.pins.errnLow = s.errnDriven

/-- R96: the canonical form of the CXL memory's bytes. -/
def State.MemCanonical (s : State) : Prop := tabWf (0 : Byte) s.mem.bytes = true

/-- R139, R142, R145, R163: command `id` is the one its path has taken, it has not begun, no fence holds it, and it repeats none that was answered. -/
def kcpTurn (id : Nat) (c : KcpCtx) (s : State) : Bool :=
  kcpHere id c s && !kcpFenced c (s.kcpVersion c) s && (kcpStored c s).isNone

/-- R151: the command passes every check ahead of its own: handle, sequence number, ID, version, PF-only, command group, length
(`extra` is the variable part of R144) and the safe state. -/
def kcpReady (id extra : Nat) (c : KcpCtx) (s : State) : Bool :=
  (kcpFind id).isSome && (match s.kcpSession c with
    | some x => c.handle == x.handle && c.seq == x.expected && decide (kcpSince id ≤ x.version.toNat)
    | none => false) &&
  (!((kcpFind id).getD default).pfOnly || s.kcpFn c == 0) && s.hasCmdGroup (s.kcpFn c) (id / 256) &&
  decide (((kcpFind id).getD default).fixed + extra ≤ c.len.toNat) && !s.flt.safe && kcpTurn id c s

/-- Where a command that is answered OK ends: `s` is the state it found, `t` what its own effect made of it. -/
def kcpOk (id : Nat) (c : KcpCtx) (s t : State) (result : List Byte) : State :=
  (kcpAnswer id c (s.kcpVersion c) (replyOk t result)).driveErrn

/-- Where a command ends that is answered IN_PROGRESS, its completion to follow. -/
def kcpStart (id : Nat) (c : KcpCtx) (s t : State) : State :=
  (kcpAnswer id c (s.kcpVersion c) ⟨.inProgress, 0, [], t⟩).driveErrn

/-- Where a command that its own checks refuse ends. -/
def kcpNo (id : Nat) (c : KcpCtx) (s : State) (st : Status) (detail : Nat) : State :=
  (kcpAnswer id c (s.kcpVersion c) (refuse st detail s)).driveErrn

/-- R249: a surface of one plane in device memory, as SURF_ALLOC describes it without flags. -/
def newSurf (owner format width height addr stride : Nat) : Surface :=
  { allocated := true, format := format, width := width, height := height, flags := 0, owner := owner, addr := addr, stride := stride,
    plane1 := 0 }

/-- R420: between `s` and `t` source `x` has had one more event, which the next round latches (R422). -/
def Pended (x : Nat) (s t : State) : Prop :=
  (tabGet t.intc.src x).rose = true ∧ (tabGet t.intc.src x).events = (tabGet s.intc.src x).events + 1

/-- R317, R346: datagram `d`, whose type belongs to peers of kind `source` (none: both) from version `since` on and has a body of `size` bytes,
passes every check as one of peer `k`, which is live. -/
def AdtFrom (source : Option Bool) (since size : Nat) (d : AdtDgram) (k : Nat) (s : State) : Prop :=
  s.adtPort d.eth = true ∧ d.fragmented = false ∧ d.magic = 0x4144 ∧ (d.version = 0x10 ∨ d.version = 0x11 ∨ d.version = 0x20) ∧
    since ≤ d.version.toNat ∧ d.len.toNat = d.size ∧ d.size = size ∧ d.session ≠ 0 ∧
    s.adt.peers.find? (fun e => e.2.id == d.session.toNat) = some (k, s.peer k) ∧ (∀ b, source = some b → b = decide (1024 ≤ k)) ∧
    (s.peer k).addr = d.addr ∧ (s.peer k).port = d.udp ∧ (s.peer k).version = d.version.toNat ∧ (seqAccept (s.peer k) d.seq).isSome = true ∧
    (s.peer k).state ≠ 3

/-- R351: function `f` may name the peer of a kind and number in a command: both lie in range, and it holds the group of an endpoint's output. -/
def adtNamed (f : Nat) (kind : Byte) (number : Half) (s : State) : Bool :=
  decide (kind.toNat ≤ 1) && decide (number.toNat ≤ if kind = 1 then 255 else 1023) &&
    (kind == 1 || f == 0 || match s.endpoint (peerKey (kind == 1) number.toNat) with | some (g, _, _) => s.hasGroup f g | none => false)

/-- R351: function `f` may name a range of endpoints in a command: it lies in range, and `f` holds the group of each. -/
def adtRange (f : Nat) (first count : Half) (s : State) : Bool :=
  decide (first.toNat ≤ 1023) && count != 0 && decide (first.toNat + count.toNat ≤ 1024) &&
    (List.range count.toNat).all fun i => match s.endpoint (first.toNat + i) with | some (g, _, _) => s.hasGroup f g | none => true

-- KCP BEGIN
/-- A KCP command on its path: its ID, the variable part of its required length (R144) and whether the safe state accepts it (R153). -/
structure KcpCall where
  /-- R150: command ID -/
  id : Nat
  /-- R144: variable part of the required length -/
  extra : Nat
  /-- R153: accepted in the safe state -/
  inSafe : Bool
  /-- R136: its path and entry -/
  ctx : KcpCtx
  deriving DecidableEq, Repr

/-- R150: the KCP call that a command is; none for every other event, and for a HEAD_AUX that waits for the AUX channel (R309). -/
def State.kcpCall (s : State) : Instr → Option KcpCall
  | .clkQuery c _ => some ⟨0x0900, 0, ((kcpFind 0x0900).getD default).inSafe, c⟩
  | .clkSetTrack c _ _ _ _ _ => some ⟨0x0901, 0, ((kcpFind 0x0901).getD default).inSafe, c⟩
  | .clkSetSyncOut c _ _ _ _ => some ⟨0x0902, 0, ((kcpFind 0x0902).getD default).inSafe, c⟩
  | .clkRelock c _ => some ⟨0x0903, 0, ((kcpFind 0x0903).getD default).inSafe, c⟩
  | .clkSetSettle c _ => some ⟨0x0904, 0, ((kcpFind 0x0904).getD default).inSafe, c⟩
  | .paceQuery c => some ⟨0x0910, 0, ((kcpFind 0x0910).getD default).inSafe, c⟩
  | .paceSetBand c _ _ _ => some ⟨0x0911, 0, ((kcpFind 0x0911).getD default).inSafe, c⟩
  | .paceSetLimits c _ _ _ _ _ => some ⟨0x0912, 0, ((kcpFind 0x0912).getD default).inSafe, c⟩
  | .paceClear c => some ⟨0x0913, 0, ((kcpFind 0x0913).getD default).inSafe, c⟩
  | .paceForceReduced c _ => some ⟨0x0914, 0, ((kcpFind 0x0914).getD default).inSafe, c⟩
  | .memQuery c _ => some ⟨0x0280, 0, ((kcpFind 0x0280).getD default).inSafe, c⟩
  | .memSetInterleave c _ => some ⟨0x0281, 0, ((kcpFind 0x0281).getD default).inSafe, c⟩
  | .memMapAperture c _ _ _ _ => some ⟨0x0282, 0, ((kcpFind 0x0282).getD default).inSafe, c⟩
  | .memPortOffline c _ => some ⟨0x0283, 0, ((kcpFind 0x0283).getD default).inSafe, c⟩
  | .memPortOnline c _ => some ⟨0x0284, 0, ((kcpFind 0x0284).getD default).inSafe, c⟩
  | .memSetSnoop c _ _ => some ⟨0x0285, 0, ((kcpFind 0x0285).getD default).inSafe, c⟩
  | .sessOpen c _ _ _ _ => some ⟨0x0000, 0, ((kcpFind 0x0000).getD default).inSafe, c⟩
  | .sessClose c => some ⟨0x0001, 0, ((kcpFind 0x0001).getD default).inSafe, c⟩
  | .sessInfo c => some ⟨0x0002, 0, ((kcpFind 0x0002).getD default).inSafe, c⟩
  | .sessNop c _ => some ⟨0x0003, 0, ((kcpFind 0x0003).getD default).inSafe, c⟩
  | .sessStatus c => some ⟨0x0004, 0, ((kcpFind 0x0004).getD default).inSafe, c⟩
  | .sessGrant c _ kind _ op _ => some ⟨0x0005, grantLen kind.toNat op.toNat, true, c⟩
  | .sessGrantQuery c _ _ _ => some ⟨0x0006, 0, ((kcpFind 0x0006).getD default).inSafe, c⟩
  | .mntReset c _ _ => some ⟨0x0B00, 0, ((kcpFind 0x0B00).getD default).inSafe, c⟩
  | .mntInfo c => some ⟨0x0B01, 0, ((kcpFind 0x0B01).getD default).inSafe, c⟩
  | .mntCfgGet c _ => some ⟨0x0B02, 0, ((kcpFind 0x0B02).getD default).inSafe, c⟩
  | .mntCfgSet c item length _ _ => some ⟨0x0B03, cfgExtra item.toNat length.toNat, ((kcpFind 0x0B03).getD default).inSafe, c⟩
  | .mntSetNetmgmt c _ _ _ _ _ _ _ _ => some ⟨0x0B04, 0, ((kcpFind 0x0B04).getD default).inSafe, c⟩
  | .mntNetkey c _ _ _ _ => some ⟨0x0B05, 0, ((kcpFind 0x0B05).getD default).inSafe, c⟩
  | .trussLoad c _ _ _ _ _ => some ⟨0x0100, 0, ((kcpFind 0x0100).getD default).inSafe, c⟩
  | .trussCheck c _ => some ⟨0x0101, 0, ((kcpFind 0x0101).getD default).inSafe, c⟩
  | .trussQuery c _ => some ⟨0x0102, 0, ((kcpFind 0x0102).getD default).inSafe, c⟩
  | .trussUnload c _ => some ⟨0x0103, 0, ((kcpFind 0x0103).getD default).inSafe, c⟩
  | .planChange c bytes => some ⟨0x0110, changeLen (u bytes 0 1), ((kcpFind 0x0110).getD default).inSafe, c⟩
  | .planCommit c _ _ => some ⟨0x0111, 0, ((kcpFind 0x0111).getD default).inSafe, c⟩
  | .planDiscard c => some ⟨0x0112, 0, ((kcpFind 0x0112).getD default).inSafe, c⟩
  | .standingQuery c _ => some ⟨0x0120, 0, ((kcpFind 0x0120).getD default).inSafe, c⟩
  | .standingWrite c _ => some ⟨0x0121, 0, ((kcpFind 0x0121).getD default).inSafe, c⟩
  | .standingSelect c _ => some ⟨0x0122, 0, ((kcpFind 0x0122).getD default).inSafe, c⟩
  | .seqSwitch c _ => some ⟨0x0140, 0, ((kcpFind 0x0140).getD default).inSafe, c⟩
  | .seqArm c _ => some ⟨0x0141, 0, ((kcpFind 0x0141).getD default).inSafe, c⟩
  | .seqDisarm c _ => some ⟨0x0142, 0, ((kcpFind 0x0142).getD default).inSafe, c⟩
  | .seqQuery c _ => some ⟨0x0143, 0, ((kcpFind 0x0143).getD default).inSafe, c⟩
  | .seqSetCutoff c _ _ => some ⟨0x0144, 0, ((kcpFind 0x0144).getD default).inSafe, c⟩
  | .seqForceVariant c _ => some ⟨0x0145, 0, ((kcpFind 0x0145).getD default).inSafe, c⟩
  | .surfAlloc c _ _ _ _ _ _ _ _ => some ⟨0x0200, 0, ((kcpFind 0x0200).getD default).inSafe, c⟩
  | .surfFree c _ => some ⟨0x0201, 0, ((kcpFind 0x0201).getD default).inSafe, c⟩
  | .surfQuery c _ => some ⟨0x0202, 0, ((kcpFind 0x0202).getD default).inSafe, c⟩
  | .surfShare c _ _ => some ⟨0x0203, 0, ((kcpFind 0x0203).getD default).inSafe, c⟩
  | .layerSet c _ _ _ => some ⟨0x0210, 0, ((kcpFind 0x0210).getD default).inSafe, c⟩
  | .layerSetType c _ _ count _ => some ⟨0x0211, boundedExtra 4 11 count.toNat, ((kcpFind 0x0211).getD default).inSafe, c⟩
  | .layerQuery c _ => some ⟨0x0212, 0, ((kcpFind 0x0212).getD default).inSafe, c⟩
  | .cellWrite c slot count _ _ => some ⟨0x0220, boundedExtra (s.entryBytes slot.toNat) (40 / s.entryBytes slot.toNat) count.toNat, ((kcpFind 0x0220).getD default).inSafe, c⟩
  | .cellFill c _ _ _ _ => some ⟨0x0221, 0, ((kcpFind 0x0221).getD default).inSafe, c⟩
  | .sclBankLoad c _ _ => some ⟨0x0240, 0, ((kcpFind 0x0240).getD default).inSafe, c⟩
  | .sclBankQuery c _ copy _ => some ⟨0x0241, 0, copy != 1, c⟩
  | .sclSetSlot c _ _ _ _ _ => some ⟨0x0242, 0, ((kcpFind 0x0242).getD default).inSafe, c⟩
  | .sclQuerySlot c _ => some ⟨0x0243, 0, ((kcpFind 0x0243).getD default).inSafe, c⟩
  | .colTableLoad c _ _ => some ⟨0x0260, 0, ((kcpFind 0x0260).getD default).inSafe, c⟩
  | .colTableQuery c _ => some ⟨0x0261, 0, ((kcpFind 0x0261).getD default).inSafe, c⟩
  | .colTableFree c _ => some ⟨0x0262, 0, ((kcpFind 0x0262).getD default).inSafe, c⟩
  | .colSetOutput c _ _ _ _ _ _ _ _ _ => some ⟨0x0263, 0, ((kcpFind 0x0263).getD default).inSafe, c⟩
  | .colQueryOutput c _ _ => some ⟨0x0264, 0, ((kcpFind 0x0264).getD default).inSafe, c⟩
  | .colSetSlot c _ _ _ => some ⟨0x0265, 0, ((kcpFind 0x0265).getD default).inSafe, c⟩
  | .headQuery c _ _ => some ⟨0x0300, 0, true, c⟩
  | .headSetTiming c _ => some ⟨0x0301, 0, ((kcpFind 0x0301).getD default).inSafe, c⟩
  | .headSetPower c _ _ => some ⟨0x0302, 0, ((kcpFind 0x0302).getD default).inSafe, c⟩
  | .headRetrain c _ => some ⟨0x0303, 0, ((kcpFind 0x0303).getD default).inSafe, c⟩
  | .headAux c head op _ _ _ _ => if (s.head head.toNat).aux.isSome then none else some ⟨0x0304, 0, op.toNat % 2 == 0, c⟩
  | .headSetBacklight c _ _ => some ⟨0x0305, 0, ((kcpFind 0x0305).getD default).inSafe, c⟩
  | .adtConfig c _ _ _ _ _ _ => some ⟨0x0400, 0, ((kcpFind 0x0400).getD default).inSafe, c⟩
  | .adtQuery c _ _ => some ⟨0x0401, 0, ((kcpFind 0x0401).getD default).inSafe, c⟩
  | .adtBind c _ _ _ _ _ => some ⟨0x0402, 0, ((kcpFind 0x0402).getD default).inSafe, c⟩
  | .adtDisconnect c _ _ _ => some ⟨0x0403, 0, ((kcpFind 0x0403).getD default).inSafe, c⟩
  | .adtRefresh c _ _ => some ⟨0x0404, 0, ((kcpFind 0x0404).getD default).inSafe, c⟩
  | .adtBlank c _ _ _ _ _ _ => some ⟨0x0405, 0, ((kcpFind 0x0405).getD default).inSafe, c⟩
  | .adtSourceCtrl c _ _ => some ⟨0x0406, 0, ((kcpFind 0x0406).getD default).inSafe, c⟩
  | .adtStats c => some ⟨0x0407, 0, ((kcpFind 0x0407).getD default).inSafe, c⟩
  | .netPortQuery c _ => some ⟨0x0440, 0, ((kcpFind 0x0440).getD default).inSafe, c⟩
  | .netPortCfg c _ _ _ _ _ _ _ _ _ _ => some ⟨0x0441, 0, ((kcpFind 0x0441).getD default).inSafe, c⟩
  | .netPortEnable c _ _ => some ⟨0x0442, 0, ((kcpFind 0x0442).getD default).inSafe, c⟩
  | .netSetAddr c _ _ _ _ => some ⟨0x0443, 0, ((kcpFind 0x0443).getD default).inSafe, c⟩
  | .netTimeCfg c _ _ _ _ _ _ _ _ _ => some ⟨0x0444, 0, ((kcpFind 0x0444).getD default).inSafe, c⟩
  | .netTimeQuery c => some ⟨0x0445, 0, ((kcpFind 0x0445).getD default).inSafe, c⟩
  | .netMacsecCfg c _ _ _ _ _ _ => some ⟨0x0446, 0, ((kcpFind 0x0446).getD default).inSafe, c⟩
  | .netMacsecKey c _ _ _ _ _ => some ⟨0x0447, 0, ((kcpFind 0x0447).getD default).inSafe, c⟩
  | .netCbCfg c _ _ _ _ _ _ _ => some ⟨0x0448, 0, ((kcpFind 0x0448).getD default).inSafe, c⟩
  | .calQuery c _ _ => some ⟨0x0450, 0, ((kcpFind 0x0450).getD default).inSafe, c⟩
  | .calSetRates c _ _ _ _ => some ⟨0x0451, 0, ((kcpFind 0x0451).getD default).inSafe, c⟩
  | .ingCfg c _ _ _ => some ⟨0x0500, 0, ((kcpFind 0x0500).getD default).inSafe, c⟩
  | .ingQuery c _ => some ⟨0x0501, 0, ((kcpFind 0x0501).getD default).inSafe, c⟩
  | .wbSetTarget c _ _ _ _ => some ⟨0x0510, 0, ((kcpFind 0x0510).getD default).inSafe, c⟩
  | .wbQuery c _ => some ⟨0x0511, 0, ((kcpFind 0x0511).getD default).inSafe, c⟩
  | .dmaCqCfg c _ _ => some ⟨0x0520, 0, ((kcpFind 0x0520).getD default).inSafe, c⟩
  | .dmaReqMap c _ _ => some ⟨0x0521, 0, ((kcpFind 0x0521).getD default).inSafe, c⟩
  | .dmaQuery c _ => some ⟨0x0522, 0, ((kcpFind 0x0522).getD default).inSafe, c⟩
  | .svcFieldDefine c _ _ _ _ _ _ _ _ _ _ _ => some ⟨0x0600, 0, ((kcpFind 0x0600).getD default).inSafe, c⟩
  | .svcFieldSet c _ _ _ _ _ length _ => some ⟨0x0601, boundedExtra 1 40 length.toNat, ((kcpFind 0x0601).getD default).inSafe, c⟩
  | .svcFieldQuery c _ => some ⟨0x0602, 0, ((kcpFind 0x0602).getD default).inSafe, c⟩
  | .svcCharmapLoad c _ _ => some ⟨0x0608, 0, ((kcpFind 0x0608).getD default).inSafe, c⟩
  | .svcMosaicSet c _ _ _ _ _ _ => some ⟨0x0610, 0, ((kcpFind 0x0610).getD default).inSafe, c⟩
  | .svcMosaicQuery c _ => some ⟨0x0611, 0, ((kcpFind 0x0611).getD default).inSafe, c⟩
  | .svcMsgSet c _ _ _ _ _ _ length _ => some ⟨0x0620, boundedExtra 1 36 length.toNat, ((kcpFind 0x0620).getD default).inSafe, c⟩
  | .svcBulletin c _ _ => some ⟨0x0621, 0, ((kcpFind 0x0621).getD default).inSafe, c⟩
  | .svcBulletinQuery c => some ⟨0x0622, 0, ((kcpFind 0x0622).getD default).inSafe, c⟩
  | .svcEmergCfg c _ _ => some ⟨0x0623, 0, ((kcpFind 0x0623).getD default).inSafe, c⟩
  | .intcSetSource c _ _ _ _ _ _ _ => some ⟨0x0740, 0, ((kcpFind 0x0740).getD default).inSafe, c⟩
  | .intcQuerySource c _ => some ⟨0x0741, 0, ((kcpFind 0x0741).getD default).inSafe, c⟩
  | .intcQueryTarget c _ => some ⟨0x0742, 0, ((kcpFind 0x0742).getD default).inSafe, c⟩
  | .fltQuery c => some ⟨0x0700, 0, ((kcpFind 0x0700).getD default).inSafe, c⟩
  | .fltLogRead c _ _ mode _ => some ⟨0x0701, 0, mode == 0, c⟩
  | .fltAck c _ _ _ => some ⟨0x0702, 0, ((kcpFind 0x0702).getD default).inSafe, c⟩
  | .fltSetSource c _ _ _ _ _ _ => some ⟨0x0703, 0, ((kcpFind 0x0703).getD default).inSafe, c⟩
  | .fltSetRecovery c _ _ _ => some ⟨0x0704, 0, ((kcpFind 0x0704).getD default).inSafe, c⟩
  | .fltUnfence c _ => some ⟨0x0705, 0, ((kcpFind 0x0705).getD default).inSafe, c⟩
  | .fltSetErrn c _ _ _ _ => some ⟨0x0706, 0, ((kcpFind 0x0706).getD default).inSafe, c⟩
  | .fltSetSafeField c _ _ => some ⟨0x0707, 0, ((kcpFind 0x0707).getD default).inSafe, c⟩
  | .fltEnterSafe c _ => some ⟨0x0708, 0, ((kcpFind 0x0708).getD default).inSafe, c⟩
  | .fltSrcQuery c _ => some ⟨0x0709, 0, ((kcpFind 0x0709).getD default).inSafe, c⟩
  | .pmuFcSet c _ _ _ _ _ _ _ _ _ _ _ _ => some ⟨0x0800, 0, ((kcpFind 0x0800).getD default).inSafe, c⟩
  | .pmuFcQuery c _ => some ⟨0x0801, 0, ((kcpFind 0x0801).getD default).inSafe, c⟩
  | .pmuSnapCfg c _ _ _ _ _ => some ⟨0x0810, 0, ((kcpFind 0x0810).getD default).inSafe, c⟩
  | .pmuSnapTake c => some ⟨0x0811, 0, ((kcpFind 0x0811).getD default).inSafe, c⟩
  | .pmuSnapQuery c => some ⟨0x0812, 0, ((kcpFind 0x0812).getD default).inSafe, c⟩
  | .pmuBwSet c _ _ _ _ _ _ => some ⟨0x0820, 0, ((kcpFind 0x0820).getD default).inSafe, c⟩
  | .pmuBwQuery c _ => some ⟨0x0821, 0, ((kcpFind 0x0821).getD default).inSafe, c⟩
  | .pmuClear c _ => some ⟨0x0830, 0, ((kcpFind 0x0830).getD default).inSafe, c⟩
  | .secAttest c _ _ _ => some ⟨0x0A00, 0, ((kcpFind 0x0A00).getD default).inSafe, c⟩
  | .secIdentity c _ _ => some ⟨0x0A01, 0, ((kcpFind 0x0A01).getD default).inSafe, c⟩
  | .secKeyInstall c _ _ => some ⟨0x0A02, 0, ((kcpFind 0x0A02).getD default).inSafe, c⟩
  | .secKeyQuery c _ => some ⟨0x0A03, 0, ((kcpFind 0x0A03).getD default).inSafe, c⟩
  | .secImageWrite c _ _ _ _ => some ⟨0x0A04, 0, ((kcpFind 0x0A04).getD default).inSafe, c⟩
  | .secImageQuery c _ => some ⟨0x0A05, 0, ((kcpFind 0x0A05).getD default).inSafe, c⟩
  | .secRollbackCommit c _ _ => some ⟨0x0A06, 0, ((kcpFind 0x0A06).getD default).inSafe, c⟩
  | .secDebugChallenge c => some ⟨0x0A07, 0, ((kcpFind 0x0A07).getD default).inSafe, c⟩
  | .secDebugUnlock c _ _ => some ⟨0x0A08, 0, ((kcpFind 0x0A08).getD default).inSafe, c⟩
  | .secTamperCfg c _ => some ⟨0x0A09, 0, ((kcpFind 0x0A09).getD default).inSafe, c⟩
  | _ => none

/-- Where a call ends that one of R151's checks refuses with status `st` and detail `d`. -/
def kcpDeny (k : KcpCall) (s : State) (st : Status) (d : Nat) : State :=
  (kcpRefused k.id k.ctx (s.kcpVersion k.ctx) st d s).driveErrn
-- KCP END

end Sys2Proof.Machine
end

