-- ==== Sys2Proof/Certificates/Slice0/Obligations.lean ====
section
/-! DEFINITION. The statements for the provers. -/

open Sys2Proof Sys2Proof.Machine

/-- Each kind of start runs the start's steps from its own instant and cause. POWER_ON_RESET runs a cold start 2 ms after
the rails became valid, or, with RESET_N low, waits in reset for its rise; REFCLK_WAIT_RETRY runs the ROM's steps
again 100 ms later; RESET_N_RELEASE, KCP_RESET_BEGIN and BOOT_WATCHDOG_EXPIRY run a warm start with causes 1, 2 and 3,
the last two from the reset that they themselves make at the instant they were due. That an event moves time to the
instant it was due at is the model's choice (log 2). Concludes exec = next (completion) for: powerOnReset,
refclkWaitRetry, resetNRelease, kcpResetBegin, bootWatchdogExpiry. [R33, R44, R47, R48, R41, R54, R29] -/
def Obligations.StartsRunTheirSteps : Prop :=
  ∀ (i : StartIn) (s : State),
    (s.boot.phase = .powerOnReset → s.pins.resetN = true →
      exec (.powerOnReset i) s = .next (coldStart s.now i (s.elapse 2000000)).driveErrn) ∧
    (s.boot.phase = .powerOnReset → s.pins.resetN = false →
      exec (.powerOnReset i) s = .next ((s.elapse 2000000).modBoot fun b =>
        { b with phase := .pinReset, coldPending := true, startAt := s.now }).driveErrn) ∧
    (s.boot.phase = .waitRef → exec (.refclkWaitRetry i) s = .next (romSteps i (s.elapse 100000000)).driveErrn) ∧
    (s.boot.phase = .pinReset → s.boot.coldPending = false →
      exec (.resetNRelease i) s = .next (warmStart 1 i { s with pins := { s.pins with resetN := true } }).driveErrn) ∧
    (s.host.kcpResetDue ≠ 0 → s.boot.flashBusy = false →
      exec (.kcpResetBegin i) s =
        .next (warmStart 2 i (enterReset false .pinReset (s.untilAon (s.host.kcpResetDue - 1)))).driveErrn) ∧
    (s.boot.watchdogDue ≠ 0 →
      exec (.bootWatchdogExpiry i) s =
        .next (warmStart 3 i (enterReset false .pinReset (s.untilAon (s.boot.watchdogDue - 1)))).driveErrn)

/-- What a start records before its first step. A start that begins with cause k at time 0 `since` sets ID_RESET_CAUSE to
bit k alone, warm unless it is cold, the watchdog to 8 s after its time 0, plan time to 0 and the start number one
higher; sampling the straps takes the majority of three reads bit by bit, and strap_bad is set for 11 alone. [R29,
R30, R54, R58, R441, R74] -/
def Obligations.StartBeginsWithItsCause : Prop :=
  ∀ (i : StartIn) (s : State) (k : Fin 4) (since : Nat),
    let t := sampleStraps i (beginStart k since s)
    t.boot.cause = BitVec.ofNat 4 (2 ^ k.val) ∧ (t.boot.warm = true ↔ k ≠ 0) ∧ t.boot.watchdogDue = since + 8000000000 + 1 ∧
    t.clk.plan = 0 ∧ t.fltMram.startNumber = s.fltMram.startNumber + 1 ∧ t.boot.sampledNow = true ∧
    (∀ b : Fin 2, t.boot.strap.getLsbD b =
      ((i.straps.1.getLsbD b && i.straps.2.1.getLsbD b) || (i.straps.1.getLsbD b && i.straps.2.2.getLsbD b) ||
        (i.straps.2.1.getLsbD b && i.straps.2.2.getLsbD b))) ∧
    (t.boot.strapBad = true ↔ t.boot.strap = 3) ∧ t.mem = s.mem ∧ t.truss = s.truss ∧ t.flt = s.flt

/-- A brown-out and RESET_N reset everything but what their rules keep. A watched rail under its threshold for more than 2
µs, and RESET_N low for 10 µs or more outside the safe state, leave the GM8 in reset with ERR_N low, no armed truss,
no open ring or session, local time and no interrupt pending, with every MRAM setting and the queue unchanged; a
brown-out also loses the CXL memory and the collector's records, and RESET_N keeps the CXL memory's bytes and the safe
state's absence. A rail that no rule watches, a shorter dip and a pulse under 1 µs change nothing. Concludes exec =
next (completion) for: brownOut, resetNAssert. [R35, R39, R40, R43, R46, R48, R453] -/
def Obligations.ResetsClearAllButTheAlwaysOn : Prop :=
  (∀ (rail : Rail) (low mv ns : Nat) (s : State), brownOutAt rail = some low → mv < low → 2000 < ns →
        ∃ t, exec (.brownOut rail mv ns) s = .next t ∧ t.boot.phase = .powerOnReset ∧ t.pins.errnLow = true ∧ t.seq = {} ∧ t.heads = [] ∧
          t.host.rings = [] ∧ t.host.mbx = [] ∧ t.intc = {} ∧ t.mem = {} ∧ t.flt.first = none ∧ t.flt.safe = false ∧ t.clk.mode = 0 ∧
          t.clk.aon = s.clk.aon ∧ t.bootMram = s.bootMram ∧ t.fltMram = s.fltMram ∧ t.netMram = s.netMram ∧ t.svcMram = s.svcMram ∧
          t.secMram = s.secMram ∧ t.pmuMram = s.pmuMram ∧ t.paceMram = s.paceMram ∧ t.netKeys = s.netKeys ∧ t.pending = s.pending) ∧
  (∀ (rail : Rail) (mv ns : Nat) (s : State), (∀ low, brownOutAt rail = some low → ¬(mv < low ∧ 2000 < ns)) →
    exec (.brownOut rail mv ns) s = .next s.driveErrn) ∧
  (∀ (low : Nat) (s : State),
    (low < 1000 → exec (.resetNAssert low) s = .next s.driveErrn) ∧
    (10000 ≤ low → s.flt.safe = false → s.boot.phase ≠ .powerOnReset → s.boot.phase ≠ .pinReset →
      ∃ t, exec (.resetNAssert low) s = .next t ∧ t.boot.phase = .pinReset ∧ t.pins.resetN = false ∧ t.pins.errnLow = true ∧
        t.heads = [] ∧ t.host.rings = [] ∧ t.host.mbx = [] ∧ t.intc = {} ∧ t.flt.safe = false ∧ t.mem.bytes = s.mem.bytes ∧
        t.mem.poison = s.mem.poison ∧ t.flt.first = s.flt.first ∧ t.clk.mode = 0 ∧ t.bootMram = s.bootMram ∧ t.fltMram = s.fltMram ∧
        t.netMram = s.netMram ∧ t.svcMram = s.svcMram ∧ t.secMram = s.secMram ∧ t.pending = s.pending))

/-- In the safe state RESET_N resets nothing. RESET_N low for 10 µs or more in the safe state sets
ID_BOOT_STATUS.reset_ignored and records source 183, whose detail for it the spec does not state (a free value, log
10); the pin's level is kept and nothing is reset. Concludes exec = next (completion) for: resetNAssert. [R40, R453] -/
def Obligations.SafeStateIgnoresResetN : Prop :=
  ∀ (low : Nat) (s : State), 10000 ≤ low → s.flt.safe = true → s.boot.phase ≠ .powerOnReset → s.boot.phase ≠ .pinReset →
    exec (.resetNAssert low) s =
      .next (({ s with boot := { s.boot with resetIgnored := true }, pins := { s.pins with resetN := false } } : State).faultOpen 183).driveErrn

/-- MEM_INIT_DONE sets mem_init_done and takes every boundary of a port that is up to its capacity. With firmware running
and the initialisation not yet complete, MEM_INIT_DONE sets ID_BOOT_STATUS.mem_init_done, moves the boundary of every
port that is up to its mapped capacity, and leaves memory, trusses, clocks and faults as they are. How far each
boundary stood before is open (log 30). Concludes exec = next (completion) for: memInitDone. [R46, R118] -/
def Obligations.BackgroundInitialisationCompletes : Prop :=
  ∀ s : State, s.boot.phase = .running → s.boot.memInitDone = false →
    ∃ t, exec .memInitDone s = .next t ∧ t.boot = { s.boot with memInitDone := true, initAt := s.now } ∧
      (∀ m < 4, (s.port m).state = .up → (t.port m).boundary = (s.port m).gib * gib) ∧
      t.mem.bytes = s.mem.bytes ∧ t.mem.poison = s.mem.poison ∧ t.truss = s.truss ∧ t.seq = s.seq ∧ t.clk = s.clk ∧ t.flt = s.flt ∧
      t.host = s.host ∧ t.heads = s.heads ∧ t.intc = s.intc

/-- A read of a low word latches the high word of the same 64-bit value for that function. With the function's BAR open,
reads of CLK_TIME_LO and CLK_NT_OFFSET_LO return the low half and keep the high half for the function, and count one
BAR0 access; nothing else changes. While firmware runs, that is what any 32-bit read of those offsets of BAR0 does.
Concludes exec = next (completion) for: clkTimeLoRead, clkNtOffsetLoRead. [R79, R467] -/
def Obligations.LowReadsLatchTheHighWord : Prop :=
  ∀ (fn : Fin 16) (s : State), s.barOpen fn = true →
    exec (.clkTimeLoRead fn) s =
      .next (((s.count 199).modClk fun c => { c with timeHiLatch := tabSet c.timeHiLatch fn (s.planTime.toNat / 2 ^ 32 + 1) }).emit
        (.readData fn (s.planTime.toNat % 2 ^ 32) false)).driveErrn ∧
    exec (.clkNtOffsetLoRead fn) s =
      .next (((s.count 199).modClk fun c =>
          { c with offsetHiLatch := tabSet c.offsetHiLatch fn (signedField 64 s.clk.ntOffset / 2 ^ 32 + 1) }).emit
        (.readData fn (signedField 64 s.clk.ntOffset % 2 ^ 32) false)).driveErrn ∧
    (s.boot.phase = .running →
      exec (.clkTimeLoRead fn) s = .next ((s.bar0Read fn 0x60008 4).2.emit (.readData fn (s.bar0Read fn 0x60008 4).1 false)).driveErrn ∧
      exec (.clkNtOffsetLoRead fn) s = .next ((s.bar0Read fn 0x60010 4).2.emit (.readData fn (s.bar0Read fn 0x60010 4).1 false)).driveErrn)

/-- Loss of REFCLK puts every PLL out of reference at once; its return starts every PLL again that has not failed. With
REFCLK present, REFCLK_LOSS clears refclk_ok and valid and counts the loss; every PLL ends unlocked, gated, and
neither acquiring nor settling. With REFCLK absent and a start under way, REFCLK_RETURN sets both bits, starts a lock
attempt on every PLL that has not failed, and changes nothing outside the clock block. Concludes exec = next
(completion) for: refclkLoss, refclkReturn. [R60, R66, R69, R78] -/
def Obligations.ReferenceLossGatesEveryPll : Prop :=
  (∀ s : State, s.clk.refOk = true →
    ∃ t, exec .refclkLoss s = .next t ∧ t.clk.refOk = false ∧ t.clk.valid = false ∧ t.clk.lossCount = satInc s.clk.lossCount ∧
      ∀ k < 10, (t.pll k).locked = false ∧ (t.pll k).gated = true ∧ (t.pll k).acquiring = false ∧ (t.pll k).settling = false) ∧
  (∀ s : State, s.clk.refOk = false → s.boot.phase = .running →
    ∃ t, exec .refclkReturn s = .next t ∧ t.clk.refOk = true ∧ t.clk.valid = true ∧
      (∀ k < 10, (s.pll k).failed = false → (t.pll k).acquiring = true ∧ (t.pll k).attemptAt = s.clk.aon) ∧
      (∀ k < 10, (s.pll k).failed = true → t.pll k = s.pll k) ∧ t.mem = s.mem ∧ t.seq = s.seq ∧ t.heads = s.heads ∧ t.flt = s.flt)

/-- Loss of lock, lock, settle and the failed attempts of one PLL. A locked PLL that loses lock is gated and starts a new
attempt, with its fault (whose detail the spec does not state: a free value, log 10) and its interrupt, and PLL9's
gate, closing, takes the CXL and Ethernet links with it; an acquiring PLL locks and starts its settle count; the
count's expiry leaves it waiting for the SYNC-aligned phase; an attempt that runs 50 ms is retried with a new
calibration, and the third failure reports the PLL failed; an opening PLL's gate opens, with SYNC_IN as its source at
an accepted edge, and counts one relock. Concludes exec = next (completion) for: pllLossOfLock, pllLock,
pllSettleDone, pllGateOpen, pllRelockTimeout. [R65, R68, R72, R78] -/
def Obligations.PllLockSequence : Prop :=
  ∀ (k : Fin 10) (s : State),
    ((s.pll k).locked = true →
      exec (.pllLossOfLock k) s = .next (if k.val = 9 ∧ (s.pll 9).gated = false
          then dropLinks (((acquirePll k (losePll k s)).faultOpen (61 + k)).pend (437 + k))
          else ((acquirePll k (losePll k s)).faultOpen (61 + k)).pend (437 + k)).driveErrn ∧
      ((losePll k s).pll k).locked = false ∧ ((losePll k s).pll k).gated = true) ∧
    ((s.pll k).acquiring = true → s.clk.refOk = true →
      exec (.pllLock k) s = .next (s.modPll k fun p =>
        { p with locked := true, acquiring := false, settling := true, lockedAt := s.clk.aon }).driveErrn) ∧
    ((s.pll k).settling = true →
      exec (.pllSettleDone k) s = .next ((s.untilAon ((s.pll k).lockedAt + s.pfdNs k (s.pll k).settle)).modPll k fun p =>
        { p with settling := false, opening := true }).driveErrn) ∧
    ((s.pll k).opening = true → ((s.pll k).trackSrc ≠ 1 ∨ s.clk.syncAccepted = s.clk.plan + 1) →
      ∃ t, exec (.pllGateOpen k) s = .next t ∧ (t.pll k).gated = false ∧ (t.pll k).opening = false ∧
        (t.pll k).relocks = satInc (s.pll k).relocks ∧ (t.pll k).attempts = 0 ∧ t.mem = s.mem ∧ t.truss = s.truss ∧ t.flt = s.flt) ∧
    ((s.pll k).acquiring = true → (s.pll k).attempts < 2 →
      exec (.pllRelockTimeout k) s =
        .next ((s.untilAon ((s.pll k).attemptAt + 50000000)).modPll k fun p =>
          { p with attempts := p.attempts + 1, recal := true, attemptAt := (s.untilAon ((s.pll k).attemptAt + 50000000)).clk.aon }).driveErrn) ∧
    ((s.pll k).acquiring = true → 2 ≤ (s.pll k).attempts →
      exec (.pllRelockTimeout k) s =
        .next (((s.untilAon ((s.pll k).attemptAt + 50000000)).modPll k fun p =>
          { p with attempts := p.attempts + 1, failed := true, acquiring := false }).pend (437 + k)).driveErrn)

/-- The tracker moves n by one toward its target, and SYNC_IN edges are accepted or rejected. An ungated tracker outside
the safe state whose source is there and whose offset is not at its target moves it by exactly one toward the target,
not earlier than 64 PFD cycles after the step before. A SYNC_IN edge whose pulse is shorter than 100 ns is rejected
and counted; one of 100 ns or more that lies within 5 % of the period after the last edge is accepted. Three missing
edges clear `present`, and every tracker on SYNC_IN holds n. Concludes exec = next (completion) for: trackerNStep,
syncInEdge, syncInMissing. [R70, R71, R77] -/
def Obligations.TrackingMovesOneStep : Prop :=
  (∀ (k : Fin 8) (s : State), (s.pll k).gated = false → s.planGated = false → s.flt.safe = false → s.trackMissing k = false →
      (s.pll k).nOffset ≠ (s.pll k).target →
    ∃ t, exec (.trackerNStep k) s = .next t ∧
      (t.pll k).nOffset = (if (s.pll k).nOffset < (s.pll k).target then (s.pll k).nOffset + 1 else (s.pll k).nOffset - 1) ∧
      (t.pll k).target = (s.pll k).target ∧ (t.pll k).stepAt = t.clk.plan + 1 ∧
      ((s.pll k).stepAt ≠ 0 → (s.pll k).stepAt - 1 + s.pfdNs k 64 ≤ t.clk.plan) ∧
      t.mem = s.mem ∧ t.heads = s.heads ∧ t.seq = s.seq ∧ t.host = s.host) ∧
  (∀ (after high : Nat) (s : State), (s.elapse after).planGated = false → s.boot.phase = .running →
    (high < 100 → exec (.syncInEdge after high) s =
      .next ((s.elapse after).modClk fun c => { c with syncLast := (s.elapse after).clk.plan + 1, syncRejected := satInc c.syncRejected }).driveErrn) ∧
    (100 ≤ high → s.syncPeriod ≠ 0 → s.clk.syncLast ≠ 0 → syncNear s.syncPeriod ((s.elapse after).clk.plan - (s.clk.syncLast - 1)) = true →
      exec (.syncInEdge after high) s = .next ((s.elapse after).modClk fun c =>
        { c with syncPresent := true, syncLast := (s.elapse after).clk.plan + 1, syncAccepted := (s.elapse after).clk.plan + 1 }).driveErrn)) ∧
  (∀ s : State, s.clk.syncPresent = true →
    ∃ t, exec .syncInMissing s = .next t ∧ t.clk.syncPresent = false ∧
      s.clk.syncAccepted - 1 + 3 * s.syncPeriod + s.syncPeriod / 20 ≤ t.clk.plan ∧
      (∀ k < 8, (t.pll k).nOffset = (s.pll k).nOffset ∧
        (t.pll k).target = if (s.pll k).trackSrc = 1 then (s.pll k).nOffset else (s.pll k).target) ∧
      t.mem = s.mem ∧ t.heads = s.heads ∧ t.seq = s.seq ∧ t.flt = s.flt)

/-- SYNC_OUT rises for its width and falls; lost synchronisation means holdover. In second mode with the pin low and
nothing pending, SYNC_OUT rises at the next whole network second and its fall is due after its width in grains; while
it is high and no change is pending it falls then, in `SYNC_OUT_FALL`; a change into second mode from off comes into
force at the whole second. In locked mode, three sync intervals without valid synchronisation put the time base into
holdover, its rate kept. Concludes exec = next (completion) for: syncOutRise, syncOutFall, timeHoldover. [R73, R75] -/
def Obligations.SyncOutAndHoldover : Prop :=
  (∀ s : State, s.pins.syncOut = false → s.planGated = false → s.clk.syncOutNext = none → s.clk.syncOut.mode = 2 →
    ∃ t, exec .syncOutRise s = .next t ∧ t.pins.syncOut = true ∧ t.clk.plan = max s.clk.plan s.nextSecond ∧
      t.clk.syncOutFall = t.clk.plan + s.clk.syncOut.width * 64 + 1 ∧ t.mem = s.mem ∧ t.seq = s.seq ∧ t.heads = s.heads ∧ t.flt = s.flt) ∧
  (∀ (s : State) (x : SyncOutCfg), s.pins.syncOut = false → s.planGated = false → s.clk.syncOutNext = some x → x.mode = 2 → s.clk.syncOut.mode = 0 →
    ∃ t, exec .syncOutRise s = .next t ∧ t.pins.syncOut = true ∧ t.clk.plan = max s.clk.plan s.nextSecond ∧ t.clk.syncOut = x ∧
      t.clk.syncOutNext = none ∧ t.clk.syncOutFall = t.clk.plan + x.width * 64 + 1) ∧
  (∀ s : State, s.pins.syncOut = true → s.planGated = false → s.clk.syncOutNext = none →
    ∃ t, exec .syncOutFall s = .next t ∧ t.pins.syncOut = false ∧ t.clk.syncOutFall = 0 ∧ t.clk.plan = max s.clk.plan (s.clk.syncOutFall - 1) ∧
      t.mem = s.mem ∧ t.seq = s.seq ∧ t.heads = s.heads ∧ t.flt = s.flt) ∧
  (∀ s : State, s.clk.mode = 1 →
    ∃ t, exec .timeHoldover s = .next t ∧ t.clk.mode = 2 ∧ t.clk.rate = s.clk.rate ∧ t.clk.ntOffset = s.clk.ntOffset ∧
      t.mem = s.mem ∧ t.seq = s.seq ∧ t.heads = s.heads ∧ t.flt = s.flt)

/-- The clock commands, each past the checks of R151, are answered OK with their effect. CLK_QUERY returns plan time
first; CLK_SET_TRACK is put off to the next usable sill of the group that the PLL's heads belong to; CLK_SET_SYNC_OUT
in second mode waits for the whole second; CLK_RELOCK starts an unlocked PLL again with its failure cleared;
CLK_SET_SETTLE stores the count in MRAM. Queries change nothing but their response. Concludes exec = next (completion)
for: clkQuery, clkSetTrack, clkSetSyncOut, clkRelock, clkSetSettle. [R80, R73, R147, R150, R151] -/
def Obligations.ClockCommandsAnswer : Prop :=
  ∀ (c : KcpCtx) (s : State),
    (∀ pll : Byte, kcpReady 0x0900 0 c s = true → pll.toNat ≤ 9 →
      ∃ bs, exec (.clkQuery c pll) s = .next (kcpOk 0x0900 c s s bs) ∧ bs.length = 32 ∧ bs.take 8 = leBytes 8 s.planTime.toNat ∧
        bs.drop 24 = leBytes 4 (s.pll pll.toNat).status ++ leBytes 4 (s.pll pll.toNat).events) ∧
    (∀ (pll source group : Byte) (deadband : Half) (period : Word) (g base h : Nat), kcpReady 0x0901 0 c s = true → pll.toNat ≤ 7 →
      source.toNat ≤ 2 → group.toNat ≤ 15 → 1000000 ≤ period.toNat → period.toNat ≤ 1000000000 →
      s.pllGroup pll.toNat = some (g, base, h) → (base = 1 → period.toNat = h * 64) → (source ≠ 0 → 2000 ≤ (s.pll pll.toNat).nProg) →
      exec (.clkSetTrack c pll source group deadband period) s =
        .next (kcpOk 0x0901 c s (s.defer g (s.kcpFn c) (.track pll.toNat source.toNat group.toNat
          (if deadband = 0 then 64 else deadband.toNat) period.toNat)) [])) ∧
    (∀ (group : Byte) (width : Half) (offset : Word), kcpReady 0x0902 0 c s = true → width ≠ 0 → -1000000 ≤ offset.toInt → offset.toInt ≤ 1000000 →
      exec (.clkSetSyncOut c 2 group width offset) s =
        .next (kcpOk 0x0902 c s (s.modClk fun x =>
          { x with syncOutNext := some { mode := 2, group := group.toNat, width := width.toNat, offset := offset.toInt } }) [])) ∧
    (∀ pll : Byte, kcpReady 0x0903 0 c s = true → pll.toNat ≤ 7 → (s.pll pll.toNat).locked = false →
      exec (.clkRelock c pll) s =
        .next (kcpOk 0x0903 c s (acquirePll pll.toNat (s.modPll pll.toNat fun p => { p with failed := false, attempts := 0, recal := false })) [])) ∧
    (∀ count : Half, kcpReady 0x0904 0 c s = true → 1024 ≤ count.toNat →
      exec (.clkSetSettle c count) s = .next (kcpOk 0x0904 c s { s with bootMram := { s.bootMram with settle := count.toNat } } []))

/-- A pace window sets its monitor's margin, and a margin below 0 is a floor breach. While firmware runs and PLL 9 is not
gated, a window of monitor i with a count that is neither 0 nor at the top of the scale stores the margin of the
count, its alarm bit and the lowest margin since the clear, and the next window ends 10.24 µs later. On a monitor that
has not failed, a margin below 0 adds one to the floor-breach count and pends source 448. Memory, trusses, heads and
the fault collector are left as they were. Concludes exec = next (completion) for: paceWindow. [R83, R84, R85, R89,
R91, R92] -/
def Obligations.PaceWindowsMeasureMargin : Prop :=
  ∀ (i : Fin 24) (count : Nat) (s : State), (s.pll 9).gated = false → s.boot.phase = .running → count ≠ 0 →
    paceMargin i count ≠ 2047 → (s.mon i).failed = false →
    ∃ t, exec (.paceWindow i count) s = .next t ∧ (t.mon i).margin = paceMargin i count ∧
      (t.mon i).alarm = decide (paceMargin i count < s.pace.cfg.alarm) ∧
      (t.mon i).worst = some (match (s.mon i).worst with | some w => min w (paceMargin i count) | none => paceMargin i count) ∧
      (t.mon i).failed = false ∧ (t.mon i).nextAt = max s.clk.aon (s.mon i).nextAt + 10240 ∧
      t.pace.breaches = (if paceMargin i count < 0 then satInc s.pace.breaches else s.pace.breaches) ∧
      (paceMargin i count < 0 → Pended 448 s t) ∧
      t.mem = s.mem ∧ t.truss = s.truss ∧ t.heads = s.heads ∧ t.flt = s.flt

/-- Escalation, breach of the reduced-pace floor and return. Where the escalation condition holds and has not been met
before, PACE_ESCALATE records a class 2 fault with code 2 on the source of the monitor with the lowest margin, pends
source 450 and chooses every group's variant again, with the return condition not met. Where a running group is in a
reduced-pace variant and monitor i has stood below the reduced floor for 32 windows, a fault with code 3 is recorded
and the count restarts. Where every healthy monitor has held margin since an instant, the return comes 10 s after it.
Concludes exec = next (completion) for: paceEscalate, paceReducedFloorBreach, paceReturn. [R88, R89, R90, R92, R516] -/
def Obligations.ReducedPaceIsEnteredAndLeft : Prop :=
  ∀ s : State,
    (s.escalating = true → s.pace.escalated = false →
      exec .paceEscalate s = .next (chooseVariants (((s.modPace fun p =>
          { p with escalated := true, awaitReturn := true, goodSince := 0, entries := satInc p.entries, reducedSeen := true }).fault (71 + s.lowestMon)
        (paceDetail 2 (s.mon s.lowestMon).margin)).pend 450)).driveErrn) ∧
    (∀ i : Fin 24, s.runsReduced = true → s.monHealthy i = true → 32 ≤ (s.mon i).breach →
      exec (.paceReducedFloorBreach i) s =
        .next ((s.modMon i fun m => { m with breach := 0 }).fault (71 + i) (paceDetail 3 (s.mon i).margin)).driveErrn) ∧
    (s.pace.awaitReturn = true → s.pace.goodSince ≠ 0 →
      exec .paceReturn s =
        .next (chooseVariants ((s.untilAon (s.pace.goodSince - 1 + 10000000000)).modPace fun p => { p with awaitReturn := false })).driveErrn)

/-- What one loop period does to the voltage target, and what the bus polls send. While firmware runs and PLL 9 is not
gated, a loop period takes the stored settings into force, and with lowest margin m of the period: below lo it raises
the target by step_up but not above vmax; from lo to hi it leaves the target; and it keeps the lowest margin and its
monitor. Outside open-loop mode a poll of READ_VOUT queues its transaction and comes again, and one of READ_IOUT does
in every mode, after 100 ms; in open-loop mode a retry queues a read of VOUT_MODE (0x20) and comes again after 10 s;
an alert pends 453 and queues STATUS_WORD. With a transaction on the bus, its end frees the bus, takes the answer or
counts a regulator error, and starts the next. READ_VOUT's answer is kept, closes an open loop once VOUT_MODE has
answered, and within 10 mV of the target ends the settling. A command that has not settled 1 ms after it counts one
regulator error. Concludes exec = next (completion) for: avsLoopPeriod, readVoutPoll, readIoutPoll, openLoopRetry,
pmAlert, pmbusTransactionDone, regulatorSettleTimeout. [R86, R87, R92, R93] -/
def Obligations.TheLoopMovesTheVoltage : Prop :=
  ((∀ (tj : Int) (s : State) (l : Int × Nat), s.boot.phase = .running → (s.pll 9).gated = false → s.lowestOfPeriod = some l →
    s.pace.openLoop = false → s.pace.held = false →
    ∃ t, exec (.avsLoopPeriod tj) s = .next t ∧ t.pace.cfg = s.paceMram ∧ (∀ i < 24, (t.mon i).low = none) ∧ t.pace.minMargin = l.1 ∧
      t.pace.minMon = l.2 ∧ t.pace.loopAt = max s.clk.aon s.pace.loopAt + 1000000 * max 1 s.paceMram.period ∧
      (l.1 < s.paceMram.lo → t.volts = min (s.volts + s.paceMram.stepUp) s.paceMram.vmax ∧ t.pace.raises = satInc s.pace.raises) ∧
      (s.paceMram.lo ≤ l.1 → l.1 ≤ s.paceMram.hi → t.volts = s.volts ∧ t.pace.raises = s.pace.raises) ∧
      t.mem = s.mem ∧ t.truss = s.truss ∧ t.flt = s.flt) ∧
  ∀ s : State,
    (s.pace.openLoop = false → s.boot.phase = .running →
      exec .readVoutPoll s = .next (busSend 0x8B 0 ((s.untilAon s.pace.voutAt).modPace fun p =>
        { p with voutAt := (s.untilAon s.pace.voutAt).clk.aon + (if p.settling = 0 then 100000000 else 200000) })).driveErrn) ∧
    (s.boot.phase = .running →
      exec .readIoutPoll s = .next (busSend 0x8C 0 ((s.untilAon s.pace.ioutAt).modPace fun p =>
        { p with ioutAt := (s.untilAon s.pace.ioutAt).clk.aon + 100000000 })).driveErrn) ∧
    (s.pace.openLoop = true →
      exec .openLoopRetry s = .next (busSend 0x20 0 ((s.untilAon s.pace.retryAt).modPace fun p =>
        { p with retryAt := (s.untilAon s.pace.retryAt).clk.aon + 10000000000, modeOk := false })).driveErrn) ∧
    (s.boot.phase = .running → exec .pmAlert s = .next (busSend 0x79 0 (s.pend 453)).driveErrn)) ∧
  (∀ (value : Half) (s : State) (t : PmTrans), s.pace.bus = some t → s.pace.wanted = 0 → s.pace.busQueue = [] → s.pace.held = false →
    (t.cmd = 0x8B →
      ∃ u, exec (.pmbusTransactionDone true value) s = .next u ∧ u.pace.bus = none ∧ u.pace.read = value.toNat ∧
        u.pace.openLoop = (s.pace.openLoop && !s.pace.modeOk) ∧
        (value.toNat ≤ s.pace.target + 10 → s.pace.target ≤ value.toNat + 10 → u.pace.settling = 0 ∧ u.pace.lastBad = false) ∧
        u.pace.regErrors = s.pace.regErrors ∧ u.mem = s.mem ∧ u.flt = s.flt) ∧
    (∃ u, exec (.pmbusTransactionDone false value) s = .next u ∧ u.pace.regErrors = satInc s.pace.regErrors ∧ u.mem = s.mem)) ∧
  ∀ s : State, s.pace.settling ≠ 0 →
    ∃ u, exec .regulatorSettleTimeout s = .next u ∧ u.pace.settling = 0 ∧ u.pace.regErrors = satInc s.pace.regErrors ∧
      s.pace.settling - 1 + 1000000 ≤ u.clk.aon ∧ u.mem = s.mem

/-- The pace commands: query, band, limits, clear and forced reduced pace. A command that passes R151's checks is answered
OK with these effects: PACE_QUERY returns 28 bytes and changes nothing; PACE_SET_BAND with 0 < alarm < lo < hi ≤ 1023
and hi − lo ≥ 51 stores the band; PACE_SET_LIMITS with limits in range stores them; PACE_CLEAR sets every event count
to 0 and forgets every worst margin; PACE_FORCE_REDUCED enter forces reduced pace. Leave is refused with STATE while
the escalation condition holds. Concludes exec = next (completion) for: paceQuery, paceSetBand, paceSetLimits,
paceClear, paceForceReduced. [R93, R150, R153] -/
def Obligations.PaceCommandsAnswer : Prop :=
  ∀ (c : KcpCtx) (s : State),
    (kcpReady 0x0910 0 c s = true → ∃ r : List Byte, r.length = 28 ∧ exec (.paceQuery c) s = .next (kcpOk 0x0910 c s s r)) ∧
    (∀ lo hi alarm : Half, kcpReady 0x0911 0 c s = true → 0 < alarm.toNat → alarm.toNat < lo.toNat → lo.toNat + 51 ≤ hi.toNat →
      hi.toNat ≤ 1023 →
      exec (.paceSetBand c lo hi alarm) s = .next (kcpOk 0x0911 c s
        { s with paceMram := { s.paceMram with lo := lo.toNat, hi := hi.toNat, alarm := alarm.toNat } } [])) ∧
    (∀ (vmin vmax : Half) (up down period : Byte), kcpReady 0x0912 0 c s = true → 720 ≤ vmin.toNat → vmin.toNat + 20 ≤ vmax.toNat →
      vmax.toNat ≤ 860 → up.toNat ∈ [5, 10, 15, 20] → down.toNat ∈ [5, 10, 15, 20] → 1 ≤ period.toNat → period.toNat ≤ 100 →
      exec (.paceSetLimits c vmin vmax up down period) s = .next (kcpOk 0x0912 c s
        { s with paceMram := { s.paceMram with vmin := vmin.toNat, vmax := vmax.toNat, stepUp := up.toNat, stepDown := down.toNat,
                                               period := period.toNat } } [])) ∧
    (kcpReady 0x0913 0 c s = true →
      ∃ t, exec (.paceClear c) s = .next (kcpOk 0x0913 c s t []) ∧ (∀ i < 24, (t.mon i).worst = none ∧ (t.mon i).margin = (s.mon i).margin) ∧
        t.pace.raises = 0 ∧ t.pace.lowers = 0 ∧ t.pace.fastRaises = 0 ∧ t.pace.breaches = 0 ∧ t.pace.entries = 0 ∧
        t.pace.regErrors = 0 ∧ t.pace.target = s.pace.target ∧ t.mem = s.mem ∧ t.truss = s.truss ∧ t.flt = s.flt) ∧
    (kcpReady 0x0914 0 c s = true →
      ∃ t, exec (.paceForceReduced c 1) s = .next (kcpOk 0x0914 c s t []) ∧ t.pace.forced = true ∧ t.mem = s.mem ∧ t.heads = s.heads) ∧
    (kcpReady 0x0914 0 c s = true → s.escalating = true → exec (.paceForceReduced c 0) s = .next (kcpNo 0x0914 c s .state 0))

/-- A spread-window address interleaves over the four ports at 256-byte granularity. For y below four times the spread
size, address 0x400_0000_0000 + y lies on port (y >> 8) & 3 at port address c − s + (((y >> 10) << 8) | (y & 0xff)),
where c is the capacity of that port and s the spread size; two addresses of one aligned block of 256 bytes lie on one
port, and the four blocks of an aligned KiB lie on ports 0, 1, 2 and 3. [R97] -/
def Obligations.SpreadAddressesInterleave : Prop :=
  ∀ (s : State) (y : Nat), y < 4 * (s.mem.spread * 2 ^ 30) → s.mem.spread ≤ 512 →
    s.memDecode (0x40000000000 + y) = some ((y >>> 8) &&& 3,
      (s.port ((y >>> 8) &&& 3)).gib * 2 ^ 30 - s.mem.spread * 2 ^ 30 + (((y >>> 10) <<< 8) ||| (y &&& 0xff))) ∧
    (∀ z, z < 4 * (s.mem.spread * 2 ^ 30) → y / 256 = z / 256 → s.memPort (0x40000000000 + y) = s.memPort (0x40000000000 + z)) ∧
    (∀ m < 4, s.memPort (0x40000000000 + (y / 1024 * 1024 + 256 * m)) = m)

/-- A BAR4 write stores exactly its bytes at the address its segment maps; a read stores none. For a function with BAR4
open outside the safe state, no writes on their way and nothing waiting for them: a write through a mapped segment
that lands stores each of its bytes whose port serves it at segment base + offset, and every other byte of memory
reads as before; a read stores nothing, and one through an unmapped segment returns all ones. A write through an
unmapped segment changes no byte and counts one miss for the function. A write that has not landed changes no byte.
Landed writes leave the function no write on its way, no held arm and no held doorbell. Concludes exec = next
(completion) for: bar4Write, bar4Read, armWritesLanded. [R106, R112, R113, R114, R118, R97] -/
def Obligations.AperturesReachMemory : Prop :=
  (∀ (fn : Fin 16) (offset : BitVec 38) (bytes : List Byte) (s : State), s.barOpen fn = true → s.flt.safe = false →
    (∀ a, (s.fn fn).inFlight = [] → (s.fn fn).heldArms = [] → (s.fn fn).heldBells = [] → s.barAddress fn offset.toNat = some a →
      ∃ t, exec (.bar4Write fn offset bytes true) s = .next t ∧
        (∀ i (h : i < bytes.length), (s.memDecode a).isSome = true → s.memUp (a + i) = true →
          tabGet t.mem.bytes (a + i) = bytes[i]) ∧
        (∀ x, x < a ∨ a + bytes.length ≤ x → tabGet t.mem.bytes x = tabGet s.mem.bytes x) ∧
        t.truss = s.truss ∧ t.heads = s.heads ∧ t.seq = s.seq) ∧
    (s.barAddress fn offset.toNat = none →
      ∃ t, exec (.bar4Write fn offset bytes false) s = .next t ∧ t.mem = s.mem ∧ t.seq = s.seq ∧
        (t.fn fn).segMisses = satInc (s.fn fn).segMisses) ∧
    (∀ a, s.barAddress fn offset.toNat = some a →
      ∃ t, exec (.bar4Write fn offset bytes false) s = .next t ∧ t.mem.bytes = s.mem.bytes ∧
        (t.fn fn).inFlight = (s.fn fn).inFlight ++ [(a, bytes)])) ∧
  ∀ (fn : Fin 16) (s : State),
    (∀ (offset : BitVec 38) (len : Nat), s.barOpen fn = true → (s.fn fn).inFlight = [] → (s.fn fn).heldArms = [] →
      (s.fn fn).heldBells = [] →
      ∃ t, exec (.bar4Read fn offset len) s = .next t ∧ (∀ x, tabGet t.mem.bytes x = tabGet s.mem.bytes x) ∧
        (s.barAddress fn offset.toNat = none → (.readData fn (256 ^ len - 1) false) ∈ t.out)) ∧
    ((s.fn fn).heldBells = [] → (s.fn fn).heldArms = [] →
      ∃ t, exec (.armWritesLanded fn) s = .next t ∧ (t.fn fn).inFlight = [] ∧ (t.fn fn).heldArms = [] ∧ (t.fn fn).heldBells = [] ∧
        t.truss = s.truss ∧ t.heads = s.heads)

/-- Link down, viral and an overlong recovery lose a port that is up or initialising. Of a port that is up or
initialising, each of the three leaves the port lost with nothing initialised, and pends source 479 + m; of a port in
any other state, link down changes nothing. A viral loss sets the port's viral bit. A short recovery of either counts
one recovery and records detail 5. Concludes exec = next (completion) for: cxlLinkDown, cxlViral, cxlRecoveryTimeout,
cxlRecoveryDone. [R105, R106, R109, R117] -/
def Obligations.LosingACxlPort : Prop :=
  ∀ (m : Fin 4) (s : State),
    (((s.port m).state = .up ∨ (s.port m).state = .initialising) →
      (∃ t, exec (.cxlLinkDown m) s = .next t ∧ (t.port m).state = .lost ∧ (t.port m).boundary = 0 ∧
        (∀ k : Fin 4, k ≠ m → t.port k = s.port k)) ∧
      (∃ t, exec (.cxlViral m) s = .next t ∧ (t.port m).state = .lost ∧ (t.port m).viral = true) ∧
      (∃ t, exec (.cxlRecoveryTimeout m) s = .next t ∧ (t.port m).state = .lost ∧ (t.port m).recoveries = satInc (s.port m).recoveries) ∧
      exec (.cxlRecoveryDone m) s = .next (((linkRecovery m s).fault (52 + m) 5).pend (479 + m)).driveErrn ∧
      ((linkRecovery m s).port m).recoveries = satInc (s.port m).recoveries) ∧
    ((s.port m).state ≠ .up → (s.port m).state ≠ .initialising → exec (.cxlLinkDown m) s = .next s.driveErrn)

/-- Training of a port, the end of its initialisation, and a removal's end. While firmware runs, an absent or lost port
that trains at 32 GT/s or more and ×4 or more becomes initialising, with nothing initialised and its capacity capped
at 512 GiB; one that trains lower is absent, with a class 2 fault of detail 1, and so, without a fault, is one that
needs an option the GM8 has not. The end of its initialisation makes an initialising port up, with its whole capacity
initialised. A removal whose port is quiet ends with the port out of service and its reset pin low. Concludes exec =
next (completion) for: cxlLinkTrained, cxlPortInitDone, cxlOfflineComplete. [R95, R101, R107, R108] -/
def Obligations.AReturningPortIsInitialised : Prop :=
  ∀ (m : Fin 4) (s : State),
    (∀ x : CxlIn, s.boot.phase = .running → s.portTrains m = true → x.up = true →
      (32 ≤ x.gts → 4 ≤ x.width → x.supported = true →
        ∃ t, exec (.cxlLinkTrained m x) s = .next t ∧ (t.port m).state = .initialising ∧ (t.port m).boundary = 0 ∧
          (t.port m).gib = min 512 x.gib ∧ (t.port m).deviceGib = x.gib ∧ (t.port m).fast = decide (64 ≤ x.gts) ∧
          (∀ k : Fin 4, k ≠ m → t.port k = s.port k) ∧ t.mem.bytes = s.mem.bytes ∧ t.flt = s.flt ∧ t.seq = s.seq) ∧
      (32 ≤ x.gts → 4 ≤ x.width → x.supported = false →
        exec (.cxlLinkTrained m x) s = .next (stirAdmission (s.modPort m fun p => { p with state := .absent })).driveErrn) ∧
      (x.gts < 32 ∨ x.width < 4 →
        exec (.cxlLinkTrained m x) s = .next ((stirAdmission (s.modPort m fun p => { p with state := .absent })).fault (52 + m) 1).driveErrn)) ∧
    ((s.port m).state = .initialising → (s.port m).awaitTruss = false →
      ∃ t, exec (.cxlPortInitDone m) s = .next t ∧ (t.port m).state = .up ∧ (t.port m).boundary = (s.port m).gib * 2 ^ 30) ∧
    ((s.port m).removing = true → s.portQuiet m = true →
      ∃ t, exec (.cxlOfflineComplete m) s = .next t ∧ (t.port m).state = .outOfService ∧ (t.port m).removing = false ∧
        (t.port m).boundary = 0 ∧ t.pins.cxlPerstN.getLsbD m = false ∧ t.heads = s.heads)

/-- A poisoned response marks its line, which no read serves until it is written. A poisoned response at an address whose
port serves it, to whichever unit, marks the line of 64 bytes: no byte of it can be read afterwards, and the bytes
themselves stay as they were; one to DMA pends 483 + m for the port. An address on no serving port changes nothing.
Concludes exec = next (completion) for: poisonResponse. [R103, R104, R117] -/
def Obligations.PoisonStaysUntilWritten : Prop :=
  ∀ (address : BitVec 43) (s : State),
    (s.memUp (address.toNat / 64 * 64) = true →
      (∀ use : PoisonUse, ∃ t, exec (.poisonResponse address use) s = .next t ∧
        (∀ a, a / 64 = address.toNat / 64 → t.memByte a = none) ∧ t.mem.bytes = s.mem.bytes) ∧
      ∃ t, exec (.poisonResponse address .dma) s = .next t ∧ Pended (483 + s.memPort (address.toNat / 64 * 64)) s t ∧
        t.heads = s.heads ∧ t.truss = s.truss) ∧
    (s.memDecode (address.toNat / 64 * 64) = none → ∀ use, exec (.poisonResponse address use) s = .next s.driveErrn)

/-- The memory commands: query, interleave, aperture, offline, online and snoop. A memory command that passes R151's
checks is answered OK where its own conditions hold: MEM_QUERY of a port returns 24 bytes, the background
initialisation carried on to its instant; MEM_SET_INTERLEAVE keeps the spread size in MRAM for the next cold start and
changes nothing in force; MEM_MAP_APERTURE with enable 0 unmaps one segment, and with enable 1 maps it to an aligned,
mapped and initialised 16 GiB that the function may reach; MEM_PORT_OFFLINE starts the removal of the only port that
is out; MEM_PORT_ONLINE raises the reset and clock pins of one that is out. A function that names another is refused.
Concludes exec = next (completion) for: memQuery, memSetInterleave, memMapAperture, memPortOffline, memPortOnline,
memSetSnoop. [R98, R107, R108, R111, R114, R119] -/
def Obligations.MemoryCommandsAnswer : Prop :=
  ∀ (c : KcpCtx) (s : State),
    (∀ port : Byte, kcpReady 0x0280 0 c s = true → port.toNat < 4 →
      ∃ r : List Byte, r.length = 24 ∧ r.take 1 = [BitVec.ofNat 8 (s.port port.toNat).state.code] ∧
        exec (.memQuery c port) s = .next (kcpOk 0x0280 c s s.bgAdvance r)) ∧
    (∀ size : Half, kcpReady 0x0281 0 c s = true → size.toNat ≤ 512 →
      (∀ m < 4, (s.port m).state ≠ .absent ∧ size.toNat ≤ (s.port m).gib) →
      exec (.memSetInterleave c size) s = .next (kcpOk 0x0281 c s (s.modBootMram fun b => { b with spread := size.toNat }) [])) ∧
    (∀ (fn segment : Byte) (address : Long), kcpReady 0x0282 0 c s = true → fn.toNat ≤ 15 → segment.toNat ≤ 15 →
      (s.kcpFn c = 0 ∨ s.kcpFn c = fn.toNat) →
      exec (.memMapAperture c fn segment 0 address) s =
        .next (kcpOk 0x0282 c s (s.bgAdvance.modFn fn.toNat fun x => { x with segs := tabSet x.segs segment.toNat 0 }) []) ∧
      (address.toNat % (16 * 2 ^ 30) = 0 → s.bgAdvance.memRangeInit address.toNat (16 * 2 ^ 30) = true →
        (fn.toNat = 0 ∨ apertureCovers (s.fn fn.toNat).apertures address.toNat = true) →
        exec (.memMapAperture c fn segment 1 address) s = .next (kcpOk 0x0282 c s (s.bgAdvance.modFn fn.toNat fun x =>
          { x with segs := tabSet x.segs segment.toNat (address.toNat / (16 * 2 ^ 30) + 1) }) []))) ∧
    (∀ (fn segment enable : Byte) (address : Long), kcpReady 0x0282 0 c s = true → s.kcpFn c ≠ 0 → s.kcpFn c ≠ fn.toNat →
      exec (.memMapAperture c fn segment enable address) s = .next (kcpNo 0x0282 c s.bgAdvance .badParam 0)) ∧
    (∀ port : Byte, kcpReady 0x0283 0 c s = true → port.toNat < 4 → s.mem.spread = 0 → (s.port port.toNat).removing = false →
      (s.port port.toNat).state ≠ .absent → (s.port port.toNat).state ≠ .outOfService →
      (∀ k < 4, k ≠ port.toNat → (s.port k).removing = false ∧ (s.port k).state ≠ .absent ∧ (s.port k).state ≠ .outOfService) →
      exec (.memPortOffline c port) s =
        .next (kcpOk 0x0283 c s (chooseVariants (s.modPort port.toNat fun p => { p with removing := true })) [])) ∧
    (∀ port : Byte, kcpReady 0x0284 0 c s = true → port.toNat < 4 →
      ((s.port port.toNat).state = .outOfService ∨ (s.port port.toNat).state = .absent) →
      exec (.memPortOnline c port) s = .next (kcpOk 0x0284 c s (s.modPins fun q =>
        { q with cxlPerstN := putBit q.cxlPerstN port.toNat true, cxlRefclk := putBit q.cxlRefclk port.toNat (!(s.pll 9).gated) }) [])) ∧
    (∀ (fn noSnoop : Byte), kcpReady 0x0285 0 c s = true → fn.toNat ≤ 15 → noSnoop.toNat ≤ 1 →
      (∀ g ∈ allGroups, s.grpRuns g = false) →
      ∃ t, exec (.memSetSnoop c fn noSnoop) s = .next (kcpOk 0x0285 c s t []) ∧
        (∀ g < 16, (t.fn fn.toNat).noSnoop.getLsbD g = (noSnoop == 1)) ∧ t.mem = s.mem ∧ t.seq = s.seq)

/-- PERST_N low or a lost PE_REFCLK resets the host port; both present again start its training. With the port out of
reset, a falling PERST_N or a lost PE_REFCLK leaves it in reset (HOST_PORT_RESET, PE_REFCLK_LOSS): no link, no
mailbox, no event ring and no MSI-X vector holds anything, no virtual function exists, every Bus Master Enable is
clear, and no change set is open. With the port in reset and firmware running, PERST_N high with the clock present, or
the clock back with PERST_N high, starts training and changes nothing else. Concludes exec = next (completion) for:
hostPortReset, peRefclkLoss, perstNDeassert, peRefclkReturn. [R42, R57, R126, R134] -/
def Obligations.HostPortResets : Prop :=
  (∀ s : State, s.host.inReset = false →
    ∃ t, exec .hostPortReset s = .next t ∧ t.host.inReset = true ∧ t.host.perstLow = true ∧ t.host.linkUp = false ∧ t.host.training = false ∧
      t.host.vfEnable = false ∧ t.host.mbx = [] ∧ t.host.rings = [] ∧ t.host.msix = [] ∧ t.truss.changes = [] ∧
      (∀ f < 16, (t.fn f).bme = false ∧ (t.fn f).stale = false)) ∧
  (∀ s : State, s.host.inReset = false →
    ∃ t, exec .peRefclkLoss s = .next t ∧ t.host.peRefclk = false ∧ t.host.inReset = true ∧ t.host.linkUp = false ∧ t.host.training = false ∧ t.host.vfEnable = false ∧
      t.host.mbx = [] ∧ t.host.rings = [] ∧ t.host.msix = [] ∧ t.truss.changes = [] ∧ (∀ f < 16, (t.fn f).bme = false ∧ (t.fn f).stale = false)) ∧
  ∀ s : State, s.host.inReset = true → s.boot.phase = .running →
    (s.host.peRefclk = true → exec .perstNDeassert s =
      .next (s.modHost fun h => { h with perstLow := false, inReset := false, training := true }).driveErrn) ∧
    (s.host.perstLow = false → exec .peRefclkReturn s =
      .next (s.modHost fun h => { h with peRefclk := true, inReset := false, training := true }).driveErrn)

/-- Training of the host link, and a surprise-down. A port out of reset that trains at a rate of 1 to 5 and a width of 1,
2, 4 or 8 has its link up with that rate and width. A surprise-down of a link that is up resets the port, counts one,
trains again and records source 56 with detail 1. Concludes exec = next (completion) for: hostLinkTrained,
surpriseDown. [R122, R126, R133, R517] -/
def Obligations.HostLinkComesAndGoes : Prop :=
  ∀ s : State, s.host.inReset = false →
    (∀ (rate : BitVec 3) (width : BitVec 5) (latency : Nat), 1 ≤ rate.toNat → rate.toNat ≤ 5 → width.toNat ∈ [1, 2, 4, 8] →
      ∃ t, exec (.hostLinkTrained rate width latency) s = .next t ∧ t.host.linkUp = true ∧ t.host.training = false ∧
        t.host.rate = rate ∧ t.host.width = width ∧ t.mem = s.mem) ∧
    (∀ dmaInFlight, s.host.linkUp = true →
      ∃ u : State, exec (.surpriseDown dmaInFlight) s = .next (((u.modHost fun h =>
          { h with training := true, surpriseCount := satInc h.surpriseCount, surpriseAt := u.now + 1, surpriseFor := 0,
                   surpriseOwed := satInc h.surpriseOwed, dmaDropped := satAdd h.dmaDropped dmaInFlight }).count 208).fault 56 1).driveErrn ∧
        u.host.linkUp = false ∧ u.host.mbx = [] ∧ u.host.rings = [] ∧ u.host.surpriseCount = s.host.surpriseCount)

/-- A function-level reset clears one virtual function, VF Enable makes them exist, Bus Master Enable is a function's own.
A function-level reset of a reached virtual function without writes on their way clears its Bus Master Enable, its
segments, its event rings and its mailboxes; its group and slot grants stand (log 33). VF Enable set makes all fifteen
virtual functions exist; the PF's function-level reset ends them. Bus Master Enable of a function is set and cleared
for that function alone. Concludes exec = next (completion) for: functionLevelReset, vfEnableWrite, busMasterDisable,
busMasterEnableSet. [R134, R135, R245] -/
def Obligations.FunctionsAreResetAlone : Prop :=
  ∀ (fn : Fin 16) (s : State), s.reached fn = true →
    ((s.fn fn).inFlight = [] → (s.fn fn).heldArms = [] → (s.fn fn).heldBells = [] → fn.val ≠ 0 →
      ∃ t, exec (.functionLevelReset fn) s = .next t ∧ (t.fn fn).bme = false ∧ (t.fn fn).segs = [] ∧
        (∀ n < 4, tabGet t.host.rings (4 * fn + n) = default ∧ tabGet t.host.mbx (4 * fn + n) = default) ∧
        (t.fn fn).groups = (s.fn fn).groups ∧ (t.fn fn).slots = (s.fn fn).slots) ∧
    (s.host.vfEnable = false → s.reached 0 = true →
      exec (.vfEnableWrite true) s = .next (s.modHost fun h =>
        { h with vfEnable := true, fns := tabModAll h.fns ((List.range 15).map (· + 1)) fun _ x => { x with enabled := true } }).driveErrn) ∧
    (s.reached 0 = true → ∃ t, exec (.functionLevelReset 0) s = .next t ∧ t.host.vfEnable = false ∧ (∀ f < 16, (t.fn f).bme = false)) ∧
    (∃ t, exec (.busMasterDisable fn) s = .next t ∧ (t.fn fn).bme = false ∧ (∀ f < 16, f ≠ fn.val → (t.fn f).bme = (s.fn f).bme) ∧
      t.mem.bytes = s.mem.bytes ∧ t.truss = s.truss) ∧
    (∃ t, exec (.busMasterEnableSet fn) s = .next t ∧ (t.fn fn).bme = true ∧ (∀ f < 16, f ≠ fn.val → (t.fn f).bme = (s.fn f).bme) ∧
      t.mem = s.mem ∧ (fn.val ≠ 0 → t.truss = s.truss ∧ t.seq = s.seq))

/-- The event-ring registers, the coalescing timeout and a stale function. With BAR0 open, a write of EVT_RINGn_CFG to a
ring that is off stores enable, size, format, vector and types; to a ring that is on it leaves size and format, and a
different one sets `refused` and is counted under 395. A CONS write that leaves at most `size` records outstanding is
taken, and one that does not is ignored. A ring with unsignalled records is signalled at its timeout, and then has
none. A function whose ring has stayed full for 2 s becomes stale. Concludes exec = next (completion) for:
evtRingCfgWrite, evtRingConsWrite, evtCoalTimeout, functionStale. [R127, R128, R130, R132, R519] -/
def Obligations.EventRingsAreWritten : Prop :=
  ∀ (fn : Fin 16) (n : Fin 4) (s : State),
    (∀ value : Word, s.barOpen fn = true →
      (∃ t, exec (.evtRingCfgWrite fn n value) s = .next t ∧ (t.ring fn n).enable = value.getLsbD 0 ∧
        (t.ring fn n).vector = value.extractLsb' 8 7 ∧ (t.ring fn n).types = value.extractLsb' 16 10 ∧
        ((s.ring fn n).enable = false →
          (t.ring fn n).log2Size = value.extractLsb' 1 5 ∧ (t.ring fn n).fmt1 = value.getLsbD 6 ∧ (t.ring fn n).refused = (s.ring fn n).refused) ∧
        ((s.ring fn n).enable = true →
          (t.ring fn n).log2Size = (s.ring fn n).log2Size ∧ (t.ring fn n).fmt1 = (s.ring fn n).fmt1 ∧
          ((s.ring fn n).log2Size ≠ value.extractLsb' 1 5 → (t.ring fn n).refused = true)) ∧
        t.mem = s.mem ∧ t.seq = s.seq) ∧
      ((s.fn fn).stale = false →
        (((s.ring fn n).prod - value.setWidth 17).toNat ≤ (s.ring fn n).size →
          ∃ t, exec (.evtRingConsWrite fn n value) s = .next t ∧ (t.ring fn n).cons = value.setWidth 17 ∧
            (t.ring fn n).prod = (s.ring fn n).prod ∧ t.mem = s.mem ∧ t.seq = s.seq) ∧
        ((s.ring fn n).size < ((s.ring fn n).prod - value.setWidth 17).toNat →
          exec (.evtRingConsWrite fn n value) s = .next (s.count 199).driveErrn))) ∧
    ((s.ring fn n).coalTimeout ≠ 0 → (s.ring fn n).unsignalled ≠ 0 → s.fnReach fn = true →
      ∃ t, exec (.evtCoalTimeout fn n) s = .next t ∧ (t.ring fn n).unsignalled = 0 ∧
        (s.ring fn n).oldestAt + 1000 * (s.ring fn n).coalTimeout.toNat ≤ t.clk.aon ∧ t.mem = s.mem ∧ t.seq = s.seq) ∧
    (∀ at', s.fullSince fn = some at' → s.hasFn fn = true → (s.fn fn).stale = false →
      exec (.functionStale fn) s = .next ((s.untilAon (at' + 2000000000)).modFn fn fun x =>
        { x with stale := true, staleAt := (s.untilAon (at' + 2000000000)).clk.aon, staleDropped := 0 }).driveErrn)

/-- A write to a BAR0 register that is reserved, unaligned or of another width is discarded. A write of a reached function
that is not a naturally aligned word of 4 or 8 bytes is denied, and so is a word at a reserved offset while firmware
runs: nothing but the access counts and ID_DENIED changes. A write of eight aligned bytes acts as its low word and
then its high word, refused in both it counts once. A function that no link reaches writes nothing. A read is refused
and reads 0 where the offset is not naturally aligned, and the write-only FLT_FORCE registers read 0. Concludes exec =
next (completion) for: registerWrite. [R4, R5, R121, R124, R125] -/
def Obligations.RegisterWritesReachTheirBlock : Prop :=
  ∀ (fn : Fin 16) (offset : BitVec 26) (size : Nat) (value : Long) (s : State),
    (s.reached fn = true → (size ≠ 4 ∧ size ≠ 8 ∨ offset.toNat % size ≠ 0) →
      exec (.registerWrite fn offset size value) s = .next ((s.count 199).denied fn).driveErrn) ∧
    (s.reached fn = true → s.boot.phase = .running → offset.toNat % 4 = 0 →
      (0x2C010 ≤ offset.toNat ∧ offset.toNat < 0x30000 ∨ 0x501000 ≤ offset.toNat) →
      exec (.registerWrite fn offset 4 value) s = .next ((s.count 199).denied fn).driveErrn) ∧
    (s.reached fn = true → offset.toNat % 8 = 0 →
      exec (.registerWrite fn offset 8 value) s =
        .next (writeWide fn offset.toNat value (s.count 199)).driveErrn) ∧
    (s.reached fn = true → offset.toNat % 4 = 0 →
      exec (.registerWrite fn offset 4 value) s = .next (writeReg fn offset.toNat (value.setWidth 32) (s.count 199)).driveErrn) ∧
    (s.reached fn = false → exec (.registerWrite fn offset size value) s = .next s.driveErrn) ∧
    (offset.toNat % 4 ≠ 0 → s.bar0Read fn offset.toNat 4 = (0, (s.count 199).denied fn)) ∧
    (s.boot.phase = .running → s.hasFltRead fn = true →
      (s.bar0Read fn 0x40800 4).1 = 0 ∧ (s.bar0Read fn 0x40804 4).1 = 0)

/-- Every KCP command is refused by the first of R151's checks that fails. For every KCP command but SESS_OPEN that its
path has taken and that waits for nothing: without the session its handle names it is refused with BAD_SESSION; with
it but another sequence number, with SEQUENCE and the number expected; an ID outside the session's version, with
UNSUPPORTED; a PF-only command of another function, with PF_ONLY; a command group not granted, with NOT_GRANTED and
detail 8; too short a parameter area, with BAD_LENGTH and the length required; and in the safe state a command that it
does not accept, with SAFE_STATE. Each refusal is the whole effect. A row that is not the command its path has taken,
or that a fence holds back, changes nothing at all; over UDP one that repeats a sequence number answered has its
stored response sent again. [R139, R142, R145, R148, R150, R151, R152, R153] -/
def Obligations.ChecksAreMadeInOrder : Prop :=
  (∀ (i : Instr) (s : State) (k : KcpCall), s.kcpCall i = some k → k.id ≠ 0 → kcpTurn k.id k.ctx s = true →
    (s.kcpSession k.ctx = none → exec i s = .next (kcpDeny k s .badSession 0)) ∧
    ∀ x, s.kcpSession k.ctx = some x →
      (k.ctx.handle ≠ x.handle → exec i s = .next (kcpDeny k s .badSession x.handle.toNat)) ∧
      (k.ctx.handle = x.handle →
        (k.ctx.seq ≠ x.expected → exec i s = .next (kcpDeny k s .sequence x.expected.toNat)) ∧
        (k.ctx.seq = x.expected →
          (x.version.toNat < kcpSince k.id → exec i s = .next (kcpDeny k s .unsupported (kcpSince k.id))) ∧
          (kcpSince k.id ≤ x.version.toNat →
            (((kcpFind k.id).getD default).pfOnly = true → s.kcpFn k.ctx ≠ 0 → exec i s = .next (kcpDeny k s .pfOnly 0)) ∧
            ((((kcpFind k.id).getD default).pfOnly = false ∨ s.kcpFn k.ctx = 0) →
              (s.hasCmdGroup (s.kcpFn k.ctx) (k.id / 256) = false → exec i s = .next (kcpDeny k s .notGranted 8)) ∧
              (s.hasCmdGroup (s.kcpFn k.ctx) (k.id / 256) = true →
                (k.ctx.len.toNat < ((kcpFind k.id).getD default).fixed + k.extra →
                  exec i s = .next (kcpDeny k s .badLength (((kcpFind k.id).getD default).fixed + k.extra))) ∧
                (((kcpFind k.id).getD default).fixed + k.extra ≤ k.ctx.len.toNat → s.flt.safe = true → k.inSafe = false →
                  exec i s = .next (kcpDeny k s .safeState 0)))))))) ∧
  (∀ (i : Instr) (s : State) (k : KcpCall), s.kcpCall i = some k →
    ((kcpHere k.id k.ctx s = false ∨ kcpFenced k.ctx (s.kcpVersion k.ctx) s = true) → exec i s = .next s.driveErrn) ∧
    (∀ n r, k.ctx.via = .udp n → kcpHere k.id k.ctx s = true → kcpFenced k.ctx (s.kcpVersion k.ctx) s = false →
      kcpStored k.ctx s = some r →
      ∃ secret, exec i s = .next (kcpRelease k.ctx (udpResend n secret r s)).driveErrn))

/-- A response, OK or refusal, changes only the session, the path's ring, the record of it and the counters. Whatever a
command answers and on whatever path, writing its response leaves power and start, clocks, pace, memory, trusses, the
sequencer, heads, transport, engines, services, trust, fault state and every MRAM setting as the command's own effect
left them, and, with no UDP session in use, the network too; and every refusal by R151's checks leaves them as they
were. [R140, R148, R150, R155, R163] -/
def Obligations.AnswersTouchOnlyTheirPath : Prop :=
  (∀ (id : Nat) (c : KcpCtx) (version : Nat) (r : Reply), ∃ t, t = kcpAnswer id c version r ∧
    t.pending = r.st.pending ∧ t.boot = r.st.boot ∧ t.bootMram = r.st.bootMram ∧ t.pins = r.st.pins ∧ t.clk = r.st.clk ∧ t.pace = r.st.pace ∧
    t.paceMram = r.st.paceMram ∧ t.mem = r.st.mem ∧ t.netMgmt = r.st.netMgmt ∧ t.netKeys = r.st.netKeys ∧ t.flt = r.st.flt ∧
    t.fltMram = r.st.fltMram ∧ t.truss = r.st.truss ∧ t.seq = r.st.seq ∧ t.heads = r.st.heads ∧ t.adt = r.st.adt ∧
    (∀ n, c.via = .mailbox n → (∀ k < 8, (r.st.udp k).inUse = false) → t.net = r.st.net) ∧
    t.dma = r.st.dma ∧ t.svc = r.st.svc ∧ t.svcMram = r.st.svcMram ∧ t.sec = r.st.sec ∧ t.secMram = r.st.secMram) ∧
  (∀ (k : KcpCall) (s : State) (st : Status) (d : Nat), ∃ t, t = kcpDeny k s st d ∧
    t.pending = s.pending ∧ t.boot = s.boot ∧ t.bootMram = s.bootMram ∧ t.clk = s.clk ∧ t.pace = s.pace ∧ t.paceMram = s.paceMram ∧
    t.mem = s.mem ∧ t.netMgmt = s.netMgmt ∧ t.netKeys = s.netKeys ∧ t.flt = s.flt ∧ t.fltMram = s.fltMram ∧ t.truss = s.truss ∧
    t.seq = s.seq ∧ t.heads = s.heads ∧ t.adt = s.adt ∧
    (∀ n, k.ctx.via = .mailbox n → (∀ j < 8, (s.udp j).inUse = false) → t.net = s.net) ∧ t.dma = s.dma ∧ t.svc = s.svc ∧ t.svcMram = s.svcMram ∧
    t.sec = s.sec ∧ t.secMram = s.secMram)

/-- A command on a mailbox releases it, writes one response entry and consumes one sequence number. When a mailbox command
other than SESS_OPEN and SESS_CLOSE is answered without the quiet flag's effect, and its function is reachable: the
response carries the command's ID, tag, sequence number, status and detail, stands, as its 64 bytes, in the slot of
the producer before it, 64 bytes a slot from MBXn_RSP_BASE, the producer goes up by one, the mailbox is free, and the
session expects the next sequence number unless the status is BAD_SESSION or SEQUENCE. [R136, R140, R142, R148] -/
def Obligations.ResponsesAreEntriesOfTheRing : Prop :=
  ∀ (id : Nat) (c : KcpCtx) (n : Fin 4) (version : Nat) (r : Reply) (x : Session), c.via = .mailbox n → 2 ≤ id →
    (r.st.mbx c.fn n).session = some x → r.st.fnReach c.fn = true → kcpQuiet c version r.status = false →
    ∃ t, t = kcpAnswer id c version r ∧ (t.mbx c.fn n).rspProd = (r.st.mbx c.fn n).rspProd + 1 ∧
      (t.mbx c.fn n).busy = false ∧ (t.mbx c.fn n).taken = none ∧
      (t.mbx c.fn n).session = some { x with
        answered := satInc x.answered,
        refusals := if r.status = .ok ∨ r.status = .inProgress then x.refusals else satInc x.refusals,
        expected := if r.status = .badSession ∨ r.status = .sequence then x.expected else x.expected + 1 } ∧
      ∃ e, (.response (4 * c.fn + n) ((r.st.mbx c.fn n).rspProd.toNat % (r.st.mbx c.fn n).size)
          ((r.st.mbx c.fn n).rspBase.toNat + 64 * ((r.st.mbx c.fn n).rspProd.toNat % (r.st.mbx c.fn n).size)) e (e.bytes false [])) ∈ t.out ∧
        e.id = BitVec.ofNat 16 id ∧ e.tag = c.tag ∧ e.seq = c.seq ∧ e.status = BitVec.ofNat 16 r.status.code ∧
        e.detail = BitVec.ofNat 32 r.detail ∧ e.result = r.result.take 48

/-- A doorbell makes entries available, CFG enables, and an entry is taken from an enabled mailbox. With BAR0 open: a
doorbell of an enabled mailbox with no BAR4 write on its way makes the entries up to it available and pends 41 + 4f +
n, if there are any and no more than the ring holds, and else sets bad_doorbell and is ignored; with writes on their
way it waits for them. RSP_CONS is stored. CFG of a disabled mailbox stores size and enable. A mailbox that takes a
command moves its consumer by one and holds the entry that the 64 bytes read spell; one whose ID is not allocated, and
that no fence holds, is refused with UNKNOWN_COMMAND; one whose read fails stops with fetch_error. Concludes exec =
next (completion) for: mbxDoorbell, mbxRspConsWrite, mbxCfgWrite, mbxTakeCommand. [R112, R136, R137, R138, R139, R519] -/
def Obligations.MailboxRegistersAndEntries : Prop :=
  ∀ (fn : Fin 16) (n : Fin 4) (s : State),
    (∀ value : Word, s.barOpen fn = true →
      ((s.fn fn).inFlight = [] → (s.mbx fn n).enable = true → BitVec.ofNat 17 value.toNat ≠ (s.mbx fn n).cmdCons →
        ((BitVec.ofNat 17 value.toNat - (s.mbx fn n).cmdCons).toNat ≤ (s.mbx fn n).size →
          exec (.mbxDoorbell fn n value) s = .next (((s.count 199).modMbx fn n fun m =>
            { m with cmdProd := BitVec.ofNat 17 value.toNat, avail := BitVec.ofNat 17 value.toNat }).pend (41 + 4 * fn + n)).driveErrn) ∧
        ((s.mbx fn n).size < (BitVec.ofNat 17 value.toNat - (s.mbx fn n).cmdCons).toNat →
          exec (.mbxDoorbell fn n value) s = .next (((s.count 199).modMbx fn n fun m =>
            { m with cmdProd := m.avail, badDoorbell := true, ignored := satInc m.ignored }).count 213).driveErrn)) ∧
      ((s.fn fn).inFlight ≠ [] →
        exec (.mbxDoorbell fn n value) s =
          .next ((s.count 199).modFn fn fun x => { x with heldBells := x.heldBells ++ [(n.val, value)] }).driveErrn) ∧
      exec (.mbxRspConsWrite fn n value) s =
        .next ((s.count 199).modMbx fn n fun m => { m with rspCons := BitVec.ofNat 17 value.toNat }).driveErrn ∧
      ((s.mbx fn n).enable = false → (s.mbx fn n).cmdProd = (s.mbx fn n).avail →
        ∃ t, exec (.mbxCfgWrite fn n value) s = .next t ∧ (t.mbx fn n).enable = value.getLsbD 0 ∧
          (t.mbx fn n).log2Size = BitVec.ofNat 4 (value.toNat / 2) ∧ t.mem = s.mem ∧ t.seq = s.seq)) ∧
    (s.hasFn fn = true → s.boot.phase = .running → (s.mbx fn n).takes = true → s.fnReach fn = true →
      (∀ bytes : List Byte, (kcpFind (readEntry false bytes).id.toNat).isSome = true →
        ∃ t, exec (.mbxTakeCommand fn n (some bytes)) s = .next t ∧
          (t.mbx fn n).cmdCons = (s.mbx fn n).cmdCons + 1 ∧ (t.mbx fn n).busy = true ∧
          (t.mbx fn n).taken = some { entry := readEntry false bytes, order := s.host.taken } ∧
          t.mem = s.mem ∧ t.truss = s.truss ∧ t.seq = s.seq) ∧
      (∀ (bytes : List Byte) (x : Session), (kcpFind (readEntry false bytes).id.toNat) = none → (s.mbx fn n).session = some x →
        (readEntry false bytes).handle = x.handle → (readEntry false bytes).seq = x.expected →
        (readEntry false bytes).flags.getLsbD 0 = false →
        ∃ u, exec (.mbxTakeCommand fn n (some bytes)) s = .next (kcpRefused (readEntry false bytes).id.toNat
            ((readEntry false bytes).ctx fn (.mailbox n)) x.version.toNat .unknownCommand 0 u).driveErrn ∧
          (u.mbx fn n).cmdCons = (s.mbx fn n).cmdCons + 1 ∧ u.mem = s.mem ∧ u.seq = s.seq) ∧
      ∃ t, exec (.mbxTakeCommand fn n none) s = .next t ∧ (t.mbx fn n).fetchError = true ∧ (t.mbx fn n).stopped = true ∧
        (t.mbx fn n).cmdCons = (s.mbx fn n).cmdCons)

/-- SESS_OPEN opens a session at the highest common version; the session commands report and close it. On a mailbox,
SESS_OPEN with sequence number 0, a long enough parameter area and a version range that holds version v as the highest
one supported opens a session of version v whose handle is the one drawn, is not 0, and which expects sequence number
1. SESS_CLOSE ends the session. SESS_INFO, SESS_STATUS and SESS_NOP answer OK with what they report, SESS_NOP with the
parameter bytes, and change nothing. Concludes exec = next (completion) for: sessOpen, sessClose, sessInfo, sessNop,
sessStatus. [R153, R154, R155, R157] -/
def Obligations.SessionsOpenCloseAndReport : Prop :=
  ∀ (c : KcpCtx) (s : State),
    (∀ (lo hi : Byte) (client : List Byte) (mask : Half) (n : Fin 4) (v : Nat), c.via = .mailbox n → kcpTurn 0 c s = true → c.seq = 0 →
      24 ≤ c.len.toNat → lo.toNat ≤ hi.toNat → kcpChoose lo.toNat hi.toNat = some v → s.fnReach c.fn = true →
      ∃ t x, exec (.sessOpen c lo hi client mask) s = .next t ∧ (t.mbx c.fn n).session = some x ∧ x.version = BitVec.ofNat 8 v ∧
        x.handle = s.drawHandle.1 ∧ x.handle ≠ 0 ∧ x.expected = 1 ∧ (t.mbx c.fn n).busy = false ∧ t.mem = s.mem ∧ t.seq = s.seq) ∧
    (kcpReady 0x0001 0 c s = true → ∃ t, exec (.sessClose c) s = .next t ∧ t.kcpSession c = none ∧ t.mem = s.mem ∧ t.seq = s.seq ∧
      t.truss = s.truss) ∧
    (kcpReady 0x0002 0 c s = true → exec (.sessInfo c) s = .next (kcpOk 0x0002 c s s (sessInfo c (s.kcpFn c) s))) ∧
    (∀ bytes, kcpReady 0x0003 0 c s = true → exec (.sessNop c bytes) s = .next (kcpOk 0x0003 c s s (fitBytes c.len.toNat bytes))) ∧
    (kcpReady 0x0004 0 c s = true → exec (.sessStatus c) s = .next (kcpOk 0x0004 c s s s.sessStatus))

/-- SESS_GRANT sets or withdraws one grant of one virtual function; the query reports it. From the PF, SESS_GRANT of host
memory or of command groups to a virtual function sets that grant as the value says and leaves every other grant of
it, and every other function's grants, as they were; with op 1 it withdraws it. SESS_GRANT to the PF is refused with
BAD_PARAM, and a virtual function that queries another's grants too. A query of an own grant answers OK and changes
nothing. Concludes exec = next (completion) for: sessGrant, sessGrantQuery. [R123, R155, R156] -/
def Obligations.GrantsAreSetAndWithdrawn : Prop :=
  ∀ (c : KcpCtx) (s : State) (fn kind index op : Byte) (value : List Byte),
    (kcpReady 0x0005 (grantLen kind.toNat op.toNat) c s = true → s.kcpFn c = 0 → 1 ≤ fn.toNat → fn.toNat ≤ 15 →
      kind.toNat = 3 ∨ kind.toNat = 8 → index = 0 → op.toNat ≤ 1 → (kind.toNat = 3 → op = 0 → leNat (value.take 1) ≤ 1) →
      exec (.sessGrant c fn kind index op value) s = .next (kcpOk 0x0005 c s
        (grantTrim fn.toNat (s.modFn fn.toNat (putGrant kind.toNat 0 (if op = 0 then some value else none)))) [])) ∧
    (kcpReady 0x0005 (grantLen kind.toNat op.toNat) c s = true → fn = 0 →
      exec (.sessGrant c fn kind index op value) s = .next (kcpNo 0x0005 c s .badParam 0)) ∧
    (kcpReady 0x0006 0 c s = true → fn.toNat ≤ 15 → kind.toNat ≤ 8 →
      ((s.kcpFn c = 0 ∨ s.kcpFn c = fn.toNat) → ∃ r : List Byte, r.length = 24 ∧
        exec (.sessGrantQuery c fn kind index) s = .next (kcpOk 0x0006 c s s r)) ∧
      (s.kcpFn c ≠ 0 → s.kcpFn c ≠ fn.toNat → exec (.sessGrantQuery c fn kind index) s = .next (kcpNo 0x0006 c s .badParam 0)))

/-- MNT_RESET, MNT_INFO, the configuration items, the management settings and the network keys. MNT_RESET with its
confirmation sets a reset due 100 µs later; without it, it is refused. MNT_INFO and MNT_CFG_GET answer OK and change
nothing. MNT_CFG_SET of item 4 through a mailbox stores the subsystem ID in MRAM alone. MNT_SET_NETMGMT that turns KCP
over UDP off stores its values and ends every UDP session. MNT_NETKEY through a mailbox installs or erases a key slot
and ends the sessions that used it; over UDP it is denied. Concludes exec = next (completion) for: mntReset, mntInfo,
mntCfgGet, mntCfgSet, mntSetNetmgmt, mntNetkey. [R41, R158, R159, R160, R162, R164] -/
def Obligations.MaintenanceCommandsAnswer : Prop :=
  ∀ (c : KcpCtx) (s : State),
    (kcpReady 0x0B00 0 c s = true →
      exec (.mntReset c 0 0x4B525354) s = .next (kcpOk 0x0B00 c s (s.modHost fun h => { h with kcpResetDue := s.clk.aon + 100000 + 1 }) []) ∧
      ∀ confirm : Word, confirm ≠ 0x4B525354 → exec (.mntReset c 0 confirm) s = .next (kcpNo 0x0B00 c s .badParam 4)) ∧
    (kcpReady 0x0B01 0 c s = true → exec (.mntInfo c) s = .next (kcpOk 0x0B01 c s s s.mntInfo)) ∧
    (∀ item : Half, kcpReady 0x0B02 0 c s = true → item.toNat ≤ 4 →
      ∃ r : List Byte, r.length = 36 ∧ exec (.mntCfgGet c item) s = .next (kcpOk 0x0B02 c s s r)) ∧
    (∀ (value : List Byte) (refKhz : Nat), kcpReady 0x0B03 4 c s = true → overUdp c = false →
      exec (.mntCfgSet c 4 4 value refKhz) s = .next (kcpOk 0x0B03 c s (s.modBootMram fun m =>
        { m with board := { m.board with subsystem := BitVec.ofNat 32 (leNat (value.take 4)) } }) [])) ∧
    (∀ (ports pcp prefixLen : Byte) (port vlan : Half) (address : BitVec 128), kcpReady 0x0B04 0 c s = true → overUdp c = false →
      ports.toNat ≤ 15 → vlan.toNat ≤ 4094 → pcp.toNat ≤ 7 → prefixLen.toNat ≤ 32 → port ≠ 0 →
      ∃ t, exec (.mntSetNetmgmt c 0 ports 4 port vlan pcp prefixLen address) s = .next (kcpOk 0x0B04 c s t []) ∧
        t.netMgmt = { enable := false, ports := ports, ipVersion := 4, port := port, vlan := vlan, pcp := pcp, prefixLen := prefixLen,
                      address := address } ∧ (∀ k < 8, (t.udp k).inUse = false) ∧ t.mem = s.mem ∧ t.seq = s.seq) ∧
    (∀ (slot role : Byte) (key : List Byte), kcpReady 0x0B05 0 c s = true → slot.toNat ≤ 7 →
      (overUdp c = false → role = 0 →
        (∃ t, exec (.mntNetkey c slot 0 role key) s = .next (kcpOk 0x0B05 c s t []) ∧
          (tabGet t.netKeys slot.toNat).present = true ∧ (tabGet t.netKeys slot.toNat).key = fitBytes 32 key ∧
          (∀ k < 8, k ≠ slot.toNat → tabGet t.netKeys k = tabGet s.netKeys k) ∧
          (∀ k < 8, (t.udp k).inUse = true → (t.udp k).keySlot ≠ slot.toNat)) ∧
        ∃ t, exec (.mntNetkey c slot 1 role key) s = .next (kcpOk 0x0B05 c s t []) ∧ (tabGet t.netKeys slot.toNat).present = false) ∧
      (overUdp c = true → exec (.mntNetkey c slot 0 role key) s = .next (kcpNo 0x0B05 c s .denied 0)))

/-- A hello, a command datagram, and the three ways a UDP session or an ignored address ends. A datagram counts as one for
KCP when it comes by a port that carries traffic, to the address, UDP port and Ethernet port of R162 with KCP over UDP
on, from a sender not ignored. Then a well-formed hello with a good tag for a slot that holds a key takes a free
session entry that lapses after 2 s; a well-formed command with a good tag and a counter above the highest of its
session is accepted, becomes the highest, extends an open session by 30 s and has its entry wait; one whose tag fails
is dropped and counted. A provisional handle, an idle session and an ignored address end at their instants. Concludes
exec = next (completion) for: kcpUdpHello, kcpUdpCommand, kcpUdpHandleLapse, kcpUdpSessionIdle, kcpUdpIgnoreEnd.
[R161, R162, R163] -/
def Obligations.UdpSessionsLive : Prop :=
  (∀ (port : Fin 4) (ends : UdpEnds) (bytes : List Byte) (s : State) (k : Nat) (a : UdpIn) (d : KcpDgram),
    a = { toUdpEnds := ends, port := port, bytes := bytes, tagOk := true, plain := s.helloPlain bytes } → d = readDgram a →
    s.portCarries port = true → s.kcpHears a = true → s.udpIgnored ends.src.toNat = false →
    d.framed = true → d.kind = 3 → d.slot ≤ 7 → d.counter = 0 → (tabGet s.netKeys d.slot).present = true →
    (List.range 8).find? (fun k => !(s.udp k).inUse) = some k →
    ∃ t, exec (.kcpUdpHello port ends bytes true) s = .next t ∧ (t.udp k).inUse = true ∧ (t.udp k).opened = false ∧
      (t.udp k).keySlot = d.slot ∧ (t.udp k).peer = ends.src.toNat ∧ (t.udp k).deadline = s.clk.aon + 2000000000 ∧ t.mem = s.mem ∧
      t.seq = s.seq) ∧
  (∀ (port : Fin 4) (ends : UdpEnds) (bytes plain : List Byte) (s : State) (a : UdpIn) (d : KcpDgram),
    a = { toUdpEnds := ends, port := port, bytes := bytes, tagOk := true, plain := plain } → d = readDgram a →
    s.portCarries port = true → s.kcpHears a = true → s.udpIgnored ends.src.toNat = false →
    (∀ k, s.dgramSession d = some k → d.framed = true → d.kind = 0 → (s.udp k).countsUp d.counter = true → (s.udp k).waiting = [] →
      ((s.udp k).stored.find? fun r => r.seq == (readEntry true d.body).seq) = none →
      (kcpFind (readEntry true d.body).id.toNat).isSome = true →
      ∃ t, exec (.kcpUdpCommand port ends bytes true plain) s = .next t ∧ (t.udp k).rxCounter = d.counter ∧
        (t.udp k).waiting = [{ entry := readEntry true d.body, order := s.host.taken, secret := d.secret }] ∧
        (t.udp k).deadline = (if (s.udp k).opened then s.clk.aon + 30000000000 else (s.udp k).deadline) ∧ t.mem = s.mem ∧ t.seq = s.seq) ∧
    exec (.kcpUdpCommand port ends bytes false plain) s =
      .next (udpDrop ends.src.toNat (s.rxFrame port (s.kcpWire a))).driveErrn) ∧
  ∀ (k : Fin 8) (peer : Nat) (s : State),
    ((s.udp k).inUse = true → (s.udp k).opened = false →
      ∃ t, exec (.kcpUdpHandleLapse k) s = .next t ∧ (t.udp k).inUse = false ∧ (s.udp k).deadline ≤ t.clk.aon ∧ t.mem = s.mem) ∧
    ((s.udp k).inUse = true → (s.udp k).opened = true →
      ∃ t, exec (.kcpUdpSessionIdle k) s = .next t ∧ (t.udp k).inUse = false ∧ (s.udp k).deadline ≤ t.clk.aon ∧ t.mem = s.mem) ∧
    ((tabGet s.host.udpPeers peer).ignoredUntil ≠ 0 →
      ∃ t, exec (.kcpUdpIgnoreEnd peer) s = .next t ∧ tabGet t.host.udpPeers peer = {} ∧
        (tabGet s.host.udpPeers peer).ignoredUntil - 1 ≤ t.clk.aon ∧ t.mem = s.mem)

/-- The truss, planner and standing-slot commands start their jobs or answer at once. From a function that passes R151's
checks: TRUSS_LOAD of a mapped image of at most 64 MiB from device memory into an idle slot that does not run answers
IN_PROGRESS with the slot loading; TRUSS_CHECK of an idle signed slot starts a check; TRUSS_QUERY answers 44 bytes;
TRUSS_UNLOAD empties an idle slot that does not run, and is refused with STATE for a running one; PLAN_CHANGE adds a
granted change and answers how many are held, refused with NO_RESOURCE at 256; PLAN_DISCARD forgets them; PLAN_COMMIT
by a function that holds the groups of the outputs named starts a commit and takes the change set; STANDING_QUERY
answers 24 bytes; STANDING_WRITE starts the write of the slot that is not preferred; STANDING_SELECT makes a valid
slot the preferred one. Concludes exec = next (completion) for: trussLoad, trussCheck, trussQuery, trussUnload,
planChange, planDiscard, planCommit, standingQuery, standingWrite, standingSelect. [R144, R179, R186, R187, R189,
R190] -/
def Obligations.TrussStoreCommands : Prop :=
  ∀ (c : KcpCtx) (s : State),
    (∀ (slot standing : Byte) (address length : Long), kcpReady 0x0100 0 c s = true → slot.toNat ≤ 3 → length.toNat ≤ 2 ^ 26 →
      s.memMapped address.toNat length.toNat = true → (s.store slot.toNat).idle = true → (s.store slot.toNat).state ≠ .running →
      (s.store slot.toNat).state ≠ .loading →
      exec (.trussLoad c slot 0 standing address length) s = .next (kcpStart 0x0100 c s ((s.touchBase slot.toNat).modStore slot.toNat fun _ =>
        { state := .loading, job := .load 0 standing.toNat address.toNat length.toNat, jobFn := s.kcpFn c, jobVersion := s.kcpVersion c,
          fromStanding := 0 }))) ∧
    (∀ slot : Byte, kcpReady 0x0101 0 c s = true → slot.toNat ≤ 3 → (s.store slot.toNat).idle = true →
      (s.store slot.toNat).state ≠ .empty → (s.store slot.toNat).signed = true →
      exec (.trussCheck c slot) s = .next (kcpStart 0x0101 c s (s.modStore slot.toNat fun x =>
        { x with job := .check, jobFn := s.kcpFn c, changes := 0 }))) ∧
    (∀ slot : Byte, kcpReady 0x0102 0 c s = true → slot.toNat ≤ 3 →
      ∃ r : List Byte, r.length = 44 ∧ r.take 1 = [BitVec.ofNat 8 (s.store slot.toNat).state.code] ∧
        exec (.trussQuery c slot) s = .next (kcpOk 0x0102 c s s r)) ∧
    (∀ slot : Byte, kcpReady 0x0103 0 c s = true → slot.toNat ≤ 3 → (s.store slot.toNat).idle = true →
      ((s.store slot.toNat).state ≠ .running →
        exec (.trussUnload c slot) s = .next (kcpOk 0x0103 c s ((s.touchBase slot.toNat).modStore slot.toNat fun _ => {}) [])) ∧
      ((s.store slot.toNat).state = .running → exec (.trussUnload c slot) s = .next (kcpNo 0x0103 c s .state 0))) ∧
    (∀ bytes : List Byte, kcpReady 0x0110 (changeLen (u bytes 0 1)) c s = true → bytes.length = 1 + changeLen (u bytes 0 1) →
      changeBad bytes = none → s.changeDenied (s.kcpFn c) bytes = none →
      ((tabGet s.truss.changes (s.kcpFn c)).length < 256 →
        exec (.planChange c bytes) s = .next (kcpOk 0x0110 c s
          (s.modTruss fun t => { t with changes := tabSet t.changes (s.kcpFn c) (tabGet s.truss.changes (s.kcpFn c) ++ [bytes]) })
          (leBytes 2 ((tabGet s.truss.changes (s.kcpFn c)).length + 1)))) ∧
      (256 ≤ (tabGet s.truss.changes (s.kcpFn c)).length → exec (.planChange c bytes) s = .next (kcpNo 0x0110 c s .noResource 0))) ∧
    (kcpReady 0x0112 0 c s = true →
      exec (.planDiscard c) s = .next (kcpOk 0x0112 c s (s.modTruss fun t => { t with changes := tabErase t.changes (s.kcpFn c) }) [])) ∧
    (∀ base target : Byte, kcpReady 0x0111 0 c s = true → base.toNat ≤ 3 → target.toNat ≤ 3 → target ≠ base →
      (s.store target.toNat).idle = true → (s.store target.toNat).state ≠ .running →
      ((s.store base.toNat).state = .admitted ∨ (s.store base.toNat).state = .running) → s.sec.level ≠ 2 → s.sec.keyFailed = false →
      s.commitDenied (s.kcpFn c) (s.trussIn base.toNat) (tabGet s.truss.changes (s.kcpFn c)) = false →
      ∃ t, exec (.planCommit c base target) s = .next (kcpStart 0x0111 c s t) ∧
        (t.store target.toNat).job = .commit base.toNat false (tabGet s.truss.changes (s.kcpFn c)) ∧
        (t.store target.toNat).state = .loading ∧ tabGet t.truss.changes (s.kcpFn c) = [] ∧ t.mem = s.mem ∧ t.seq = s.seq) ∧
    (∀ slot : Byte, kcpReady 0x0120 0 c s = true → slot.toNat ≤ 1 →
      ∃ r : List Byte, r.length = 24 ∧ exec (.standingQuery c slot) s = .next (kcpOk 0x0120 c s s r)) ∧
    (∀ slot : Byte, kcpReady 0x0121 0 c s = true → slot.toNat ≤ 3 → (s.store slot.toNat).idle = true → s.boot.flashBusy = false →
      ((s.store slot.toNat).state = .admitted ∨ (s.store slot.toNat).state = .running) → (s.trussIn slot.toNat).flags.testBit 0 = true →
      exec (.standingWrite c slot) s = .next (kcpStart 0x0121 c s ((s.modBoot fun b => { b with flashBusy := true }).modStore slot.toNat fun x =>
        { x with job := .standing (1 - s.truss.preferred), jobFn := s.kcpFn c }))) ∧
    (∀ slot : Byte, kcpReady 0x0122 0 c s = true → slot.toNat ≤ 1 → (s.standing slot.toNat).valid = true →
      exec (.standingSelect c slot) s = .next (kcpOk 0x0122 c s (s.modTruss fun t => { t with preferred := slot.toNat }) []))

/-- A load, check, commit or standing write ends with its slot idle, admitted or failed. A load from device memory of at
most 64 MiB whose bytes can be read ends with the slot holding them and either admitted or failed, failed for format 4
in a session below KCP 3.0; a check ends with its slot as it ran, or admitted or failed; a commit whose base changed
fails, and any other leaves the slot admitted or failed; with PLL9's gate open, a standing write without assets that
flash took makes the slot valid with the image and preferred, and one that flash did not take leaves it invalid.
Concludes exec = next (completion) for: trussLoadDone, trussCheckDone, planCommitDone, standingWriteDone. [R178, R179,
R180, R181, R186, R187, R190] -/
def Obligations.TrussJobsEnd : Prop :=
  ∀ (slot : Fin 4) (s : State),
    (∀ (standing a n : Nat) (host : Option (List Byte)) (sigOk : Bool) (img : List Byte) (u : State),
      (s.store slot).job = .load 0 standing a n → s.memFetch a n = (some img, u) → img.length ≤ 2 ^ 26 →
      ∃ t, exec (.trussLoadDone slot host sigOk) s = .next t ∧ (t.store slot).job = .none ∧ (t.store slot).image = img ∧
        ((t.store slot).state = .admitted ∨ (t.store slot).state = .failed) ∧
        ((readTruss img).format = 4 → (s.store slot).jobVersion < 0x30 → (t.store slot).state = .failed) ∧
        ((t.store slot).state = .admitted → sigOk = true) ∧ t.seq.running = s.seq.running ∧ t.truss.standing = s.truss.standing) ∧
    ((s.store slot).job = .check →
      ∃ t, exec (.trussCheckDone slot) s = .next t ∧ (t.store slot).job = .none ∧ (t.store slot).image = (s.store slot).image ∧
        ((s.store slot).state = .running → (t.store slot).state = .running) ∧
        ((s.store slot).state ≠ .running → (t.store slot).state = .admitted ∨ (t.store slot).state = .failed) ∧ t.mem.bytes = s.mem.bytes ∧ t.seq = s.seq) ∧
    (∀ (base : Nat) (changed : Bool) (cs : List (List Byte)) (derived : Option (List Byte)),
      (s.store slot).job = .commit base changed cs →
      ∃ t, exec (.planCommitDone slot derived) s = .next t ∧ (t.store slot).job = .none ∧
        (changed = true → (t.store slot).state = .failed) ∧ (derived = none → (t.store slot).state = .failed) ∧
        ((t.store slot).state = .admitted ∨ (t.store slot).state = .failed) ∧ t.seq.running = s.seq.running) ∧
    (∀ to' : Nat, (s.store slot).job = .standing to' → (∀ j x : Nat, j < slot.val → (s.store j).job ≠ .standing x) → (s.pll 9).gated = false →
      ((s.trussIn slot).assets = [] →
        ∃ t, exec (.standingWriteDone true) s = .next t ∧ (t.store slot).job = .none ∧ (t.standing to').valid = true ∧
          (t.standing to').image = (s.store slot).image ∧ t.truss.preferred = to' ∧ t.boot.flashBusy = false) ∧
      ∃ t, exec (.standingWriteDone false) s = .next t ∧ (t.store slot).job = .none ∧ (t.standing to').valid = false ∧
        t.truss.preferred = s.truss.preferred ∧ t.boot.flashBusy = false)

/-- The publish cutoff, the sill and the end of its copy, as a group runs through a frame. For a group that runs and is
not stopped: its cutoff comes `cutoff` before the next sill and closes the shadow sets until it; a sill issued within
a grain of the instant placed for it, in a group that does not switch truss, begins the frame that its number gives,
with its cutoff open again and its copy due; at the sill of a truss that does not hold the group, it leaves and runs
no more; neither where the safe state has begun on the way there; 8 grains after the sill the copy is complete and the
group's lock has ended. With nothing armed the copy's end asserts the group's request line and changes nothing else. A
read of SILL_NEXT_LO keeps the upper half for the function. Concludes exec = next (completion) for: publishCutoff,
sill, sillCopyDone, sillNextLoRead. [R192, R196, R202, R203, R216, R389] -/
def Obligations.CutoffSillAndCopy : Prop :=
  ∀ (g : Fin 16) (s : State),
    (s.grpRuns g = true → s.seqStopped = false → (s.group g).cutoffPassed = false →
      ∃ t, exec (.publishCutoff g) s = .next t ∧ (t.group g).cutoffPassed = true ∧ (t.group g).nextAt = (s.group g).nextAt ∧
        (s.group g).nextAt - s.cutoffNs g ≤ t.clk.plan ∧ t.mem.bytes = s.mem.bytes ∧ t.truss = s.truss) ∧
    (∀ (how : SillIn) (e : TGroup) (hyper j at' : Nat), s.grpRuns g = true → s.seqStopped = false → how.off.toInt.natAbs ≤ 1 →
      at' = (((s.group g).nextAt : Int) + 64 * how.off.toInt).toNat → s.sillNumber g = some (e, hyper, j) →
      (presentGroup g ((if (s.group g).cutoffPassed then s
        else passCutoff g (s.untilPlan ((s.group g).nextAt - s.cutoffNs g))).untilPlan at')).flt.safe = false →
      (s.switchDue g = none →
        ∃ t, exec (.sill g how) s = .next t ∧ (t.group g).n = frameNumber e hyper j ∧ (t.group g).hyper = hyper ∧ (t.group g).j = j ∧
          (t.group g).sillAt = at' ∧ (t.group g).begun = true ∧ (t.group g).cutoffPassed = false ∧
          (t.group g).copyDue = true ∧ (t.group g).issued = [] ∧ at' ≤ t.clk.plan) ∧
      (s.switchDue g = some 16 → ∃ t, exec (.sill g how) s = .next t ∧ t.grpRuns g = false ∧ at' ≤ t.clk.plan)) ∧
    ((s.group g).copyDue = true →
      (∃ t, exec (.sillCopyDone g) s = .next t ∧ (t.group g).copying = false ∧ (t.group g).copyDue = false ∧
        (s.group g).sillAt + 512 ≤ t.clk.plan ∧ t.mem.bytes = s.mem.bytes ∧ t.truss = s.truss) ∧
      ((s.group g).copying = false → exec (.sillCopyDone g) s =
        .next (((s.untilPlan ((s.group g).sillAt + 512)).modGroup g fun c => { c with copying := false, copyDue := false }).assertLine
          (4 + g)).driveErrn)) ∧
    (∀ fn : Fin 16, s.barOpen fn = true →
      (s.hasGroup fn g = true → s.grpRuns g = true →
        exec (.sillNextLoRead fn g) s = .next (((s.count 199).modClk fun c =>
            { c with sillNextLatch := tabSet c.sillNextLatch (16 * fn + g) ((s.group g).nextAt / 2 ^ 32 + 1) }).emit
          (.readData fn ((s.group g).nextAt % 2 ^ 32) false)).driveErrn) ∧
      (s.hasGroup fn g = false →
        exec (.sillNextLoRead fn g) s = .next (((s.count 199).denied fn).emit (.readData fn 0 false)).driveErrn))

/-- Fetch entries are issued and their data lands; an item is issued, runs on its lane, completes or misses its deadline.
A current entry of a direct layer is issued at its item's start less its lead, at most 8 ns late. Host data for a read
of an open entry lands as its 64 bytes. An item of the frame that runs is issued at its start grain, at most 8 ns late
and after those of the section that fall due with it: on a lane that is busy it waits behind the others, on one that
is free it runs. A free lane starts the first item that still stands. When an item completes, its lane is free; while
it stands it counts as finished. At its deadline an item that is not finished is counted as missed. Concludes exec =
next (completion) for: fetchIssue, readDataLand, itemIssue, laneFreeStart, itemComplete, itemDeadline. [R191, R192,
R209, R211, R233, R234, R237, R242] -/
def Obligations.ItemsAndFetches : Prop :=
  (∀ (g : Fin 16) (item entry : Nat) (s : State) (t : Truss) (i : TItem), s.seqStopped = false → s.frameItem g item = some (t, i) →
    (s.group g).issued.contains item = false →
    (s.seq.issues.any fun x => x.group == g.val && x.item == item && x.n == (s.group g).n && x.entry == entry && !x.dropped) = false →
    entry < i.count → ((t.entriesOf (s.group g).variant i).getD entry default).kind ≠ 2 → i.lead ≤ t.startOffset i →
    t = s.trussIn ((s.group g).store - 1) → s.grpRuns g = true →
    s.clk.plan ≤ s.instant g t ((t.itemSill i + t.startOffset i - i.lead) % t.h) + 8 →
    exec (.fetchIssue g item entry) s = .next (issueEntry ((s.group g).store - 1) (s.group g).variant g item entry (s.group g).n false
      (s.untilPlan (s.instant g t ((t.itemSill i + t.startOffset i - i.lead) % t.h)))).driveErrn) ∧
  (∀ (address : Long) (bs : List Byte) (s : State) (i j : Nat), s.findRead 4 address.toNat = some (i, j) →
    (s.seq.issues.getD i {}).dropped = false → (s.seq.issues.getD i {}).closed = false → (s.seq.issues.getD i {}).kind ≠ 1 →
    ∃ t, exec (.readDataLand 4 address (some bs)) s = .next t ∧ ((t.seq.issues.getD i {}).reads.getD j {}).state = .landed ∧
      ((t.seq.issues.getD i {}).reads.getD j {}).data = fitBytes 64 bs ∧ t.mem = s.mem ∧ t.heads = s.heads ∧ t.truss = s.truss) ∧
  (∀ (g : Fin 16) (item : Nat) (s : State) (t : Truss) (i : TItem), s.frameItem g item = some (t, i) → s.flt.safe = false →
    s.boot.phase = .running → (s.group g).issued.contains item = false → (s.group g).missed.contains item = false →
    s.planGated = false → s.laneFenced i.lane = false → s.earlierDue g item t i = false → s.clk.plan ≤ s.instant g t i.start + 8 →
    (∀ r, (s.lane i.lane).run = some r →
      ∃ (u : State) (q : Run), exec (.itemIssue g item false) s = .next u ∧ item ∈ (u.group g).issued ∧ s.instant g t i.start ≤ u.clk.plan ∧
        (u.lane i.lane).run = some r ∧ (u.lane i.lane).queue = (s.lane i.lane).queue ++ [q] ∧ q.group = g ∧ q.item = item ∧
        q.n = (s.group g).n ∧ q.variant = (s.group g).variant ∧ q.store + 1 = (s.group g).store) ∧
    ((s.lane i.lane).run = none → (s.lane i.lane).queue = [] →
      ∃ (u : State) (r : Run), exec (.itemIssue g item false) s = .next u ∧ item ∈ (u.group g).issued ∧ (u.lane i.lane).run = some r ∧ r.group = g ∧
        r.item = item ∧ r.n = (s.group g).n)) ∧
  (∀ (lane : Fin 16) (s : State) (r : Run),
    (∀ rest, (s.lane lane).run = none → s.flt.safe = false → s.planGated = false → s.laneFenced lane = false →
      (s.lane lane).queue = r :: rest → s.runStands r = true →
      ∃ (u : State) (q : Run), exec (.laneFreeStart lane) s = .next u ∧ (u.lane lane).run = some q ∧ q.item = r.item ∧ q.group = r.group ∧
        (u.lane lane).queue = rest) ∧
    ((s.lane lane).run = some r →
      ∃ u, exec (.itemComplete lane) s = .next u ∧ (u.lane lane).run = none ∧
        (s.runStands r = true → s.flt.safe = false → s.laneFenced lane = false → r.item ∈ (u.group r.group).finished))) ∧
  ∀ (g : Fin 16) (item : Nat) (lines : Byte) (s : State) (t : Truss) (i : TItem), s.frameItem g item = some (t, i) → s.flt.safe = false →
    s.boot.phase = .running → (s.group g).finished.contains item = false → (s.group g).missed.contains item = false →
    (s.group g).issued.contains item = true →
    ∃ u, exec (.itemDeadline g item lines) s = .next u ∧ item ∈ (u.group g).missed ∧ s.instant g t i.deadline ≤ u.clk.plan ∧
      (u.group g).missTotal = satInc (s.group g).missTotal

/-- Arms, disarms and the sequencer commands. A doorbell arm or disarm of a granted running group, with no write on its
way, acts as R198 and R201 say; of an ungranted one it is denied, an arm being counted under 391. SEQ_ARM and
SEQ_DISARM act on every group of their mask and answer which were accepted, deferred and ignored. SEQ_QUERY of a
granted group answers 40 bytes and changes nothing. SEQ_SET_CUTOFF in range waits for the group's next sill.
SEQ_FORCE_VARIANT 0xFF ends a forced variant. SEQ_SWITCH to an admitted slot whose admission still holds and whose
plan meets no clash is accepted, and the slot then runs; during a switch it is refused with BUSY, and to a slot that
is not admitted with STATE. Concludes exec = next (completion) for: sillArmArm, sillArmDisarm, seqArm, seqDisarm,
seqQuery, seqSetCutoff, seqForceVariant, seqSwitch. [R112, R123, R198, R201, R213, R220] -/
def Obligations.SequencerCommands : Prop :=
  (∀ (fn g : Fin 16) (s : State), s.barOpen fn = true → s.grpRuns g = true →
    (s.hasGroup fn g = true → (s.fn fn).inFlight = [] →
      exec (.sillArmArm fn g) s = .next (armArrives fn g (s.count 199)).2.driveErrn ∧
      exec (.sillArmDisarm fn g) s = .next (disarmArrives fn g (s.count 199)).2.driveErrn) ∧
    (s.hasGroup fn g = true → (s.fn fn).inFlight ≠ [] →
      exec (.sillArmArm fn g) s = .next ((s.count 199).modFn fn fun x => { x with heldArms := x.heldArms ++ [g.val] }).driveErrn) ∧
    (s.hasGroup fn g = false →
      exec (.sillArmArm fn g) s = .next (armDenied true fn g ((s.count 199).denied fn)).driveErrn ∧
      exec (.sillArmDisarm fn g) s = .next (armDenied false fn g ((s.count 199).denied fn)).driveErrn)) ∧
  ∀ (c : KcpCtx) (s : State),
    (∀ mask : Half,
      (kcpReady 0x0141 0 c s = true → ∃ t r, exec (.seqArm c mask) s = .next (kcpOk 0x0141 c s t r) ∧ r.length = 6 ∧
        t.mem = s.mem ∧ t.truss = s.truss ∧ t.heads = s.heads) ∧
      (kcpReady 0x0142 0 c s = true → ∃ t r, exec (.seqDisarm c mask) s = .next (kcpOk 0x0142 c s t r) ∧ r.length = 4 ∧
        t.mem = s.mem ∧ t.truss = s.truss ∧ t.heads = s.heads)) ∧
    (∀ group : Byte, kcpReady 0x0143 0 c s = true → group.toNat ≤ 15 → s.hasGroup (s.kcpFn c) group.toNat = true →
      ∃ r : List Byte, r.length = 40 ∧ exec (.seqQuery c group) s = .next (kcpOk 0x0143 c s s r)) ∧
    (∀ (group : Byte) (us : Half), kcpReady 0x0144 0 c s = true → group.toNat ≤ 15 → s.grpRuns group.toNat = true → us = 0 →
      exec (.seqSetCutoff c group us) s = .next (kcpOk 0x0144 c s (s.modSeq fun q =>
        { q with deferred := q.deferred ++ [{ group := group.toNat, wait := 0, fn := s.kcpFn c, op := .cutoff 0 }] }) [])) ∧
    (kcpReady 0x0145 0 c s = true →
      exec (.seqForceVariant c 0xFF) s = .next (kcpOk 0x0145 c s (chooseVariants (s.modSeq fun q => { q with forced := none })) [])) ∧
    (∀ (slot : Byte) (plan : List (Nat × Nat × Nat × Nat × Nat)), kcpReady 0x0140 0 c s = true → slot.toNat ≤ 3 →
      s.seq.switch = none → (s.store slot.toNat).idle = true → (s.store slot.toNat).state = .admitted →
      (s.store slot.toNat).figures.fallen s.figures = false → s.switchPlan slot.toNat = some plan →
      s.switchClashes slot.toNat plan = none →
      ∃ r : List Byte, r.length = 18 ∧
        exec (.seqSwitch c slot) s = .next (kcpOk 0x0140 c s (takeSwitch (s.kcpFn c) slot.toNat plan s) r)) ∧
    (∀ slot : Byte, kcpReady 0x0140 0 c s = true → slot.toNat ≤ 3 →
      ((s.store slot.toNat).state = .admitted → s.seq.switch.isSome = true → exec (.seqSwitch c slot) s = .next (kcpNo 0x0140 c s .busy slot.toNat)) ∧
      ((s.store slot.toNat).state ≠ .admitted → exec (.seqSwitch c slot) s = .next (kcpNo 0x0140 c s .state 0)))

/-- Live-window writes, surfaces, layer and cell commands. With BAR0 open, a word of an unlocked granted slot's window
goes to its shadow set; an ungranted or unaligned one is denied. SURF_ALLOC of a valid device surface with a free
handle named, in memory that the initialisation has reached by now, allocates it for the function; SURF_FREE frees one
that nothing names, SURF_QUERY reports it, SURF_SHARE marks it. LAYER_SET and LAYER_SET_TYPE write the registers they
name to the shadow set of an unlocked slot, and are refused with LATE_WRITE while it is locked; LAYER_QUERY reports.
CELL_WRITE and CELL_FILL of cells inside the map shown wait for the group's first usable sill. Concludes exec = next
(completion) for: llwWrite, surfAlloc, surfFree, surfQuery, surfShare, layerSet, layerSetType, layerQuery, cellWrite,
cellFill. [R123, R124, R147, R197, R200, R215, R221, R222, R223, R249, R250] -/
def Obligations.WindowsSurfacesAndCells : Prop :=
  (∀ (fn : Fin 16) (slot : BitVec 13) (offset : BitVec 9) (value : Word) (s : State), s.barOpen fn = true →
    (∀ (g : Nat) (t : Truss) (e : TSlot), offset.toNat % 4 = 0 → s.hasSlot fn slot.toNat = true → s.slotEntry slot.toNat = some (g, t, e) →
      (Llw.mask offset.toNat).isSome = true → s.locked g = false →
      exec (.llwWrite fn slot offset value) s = .next ((s.count 199).putShadow fn slot.toNat offset.toNat value).driveErrn) ∧
    (offset.toNat % 4 ≠ 0 ∨ s.hasSlot fn slot.toNat = false →
      exec (.llwWrite fn slot offset value) s = .next ((s.count 199).denied fn).driveErrn)) ∧
  ∀ (c : KcpCtx) (s : State),
    (∀ (format width height handle : Half) (address : Long) (stride : Word) (fm : Fmt), kcpReady 0x0200 0 c s = true →
      fmtOf format.toNat = some fm → fm.plane1 = 0 → stride ≠ 0 → handle ≠ 0xFFFF → (s.surf handle.toNat).allocated = false →
      s.bgAdvance.surfBad fm (newSurf (s.kcpFn c) format.toNat width.toNat height.toNat address.toNat stride.toNat) = none →
      s.bgAdvance.memRangeInit address.toNat ((newSurf (s.kcpFn c) format.toNat width.toNat height.toNat address.toNat stride.toNat).bytes) = true →
      ∃ r : List Byte, r.take 2 = leBytes 2 handle.toNat ∧
        exec (.surfAlloc c format width height 0 address stride 0 handle) s = .next (kcpOk 0x0200 c s (s.bgAdvance.modSurf handle.toNat fun _ =>
          (newSurf (s.kcpFn c) format.toNat width.toNat height.toNat address.toNat stride.toNat)) r)) ∧
    (∀ handle : Half, s.mayUse (s.kcpFn c) handle.toNat = true →
      (kcpReady 0x0201 0 c s = true → (s.surf handle.toNat).inUse = false → (s.surf handle.toNat).made = 0 →
        (∀ view, s.namedBy handle.toNat view = []) → (s.dma.wb.any fun e => e.2.targets.contains handle.toNat) = false →
        exec (.surfFree c handle) s = .next (kcpOk 0x0201 c s (s.modSurf handle.toNat fun _ => {}) [])) ∧
      (kcpReady 0x0202 0 c s = true → ∃ r : List Byte, r.length = 30 ∧ exec (.surfQuery c handle) s = .next (kcpOk 0x0202 c s s r)) ∧
      (kcpReady 0x0203 0 c s = true →
        exec (.surfShare c handle 1) s = .next (kcpOk 0x0203 c s (s.modSurf handle.toNat fun x => { x with flags := putBit x.flags 1 true }) []))) ∧
    (∀ (slot : Half) (g : Nat) (t : Truss) (e : TSlot), s.hasSlot (s.kcpFn c) slot.toNat = true → s.slotEntry slot.toNat = some (g, t, e) →
      (∀ (mask : Half) (values : List Word), kcpReady 0x0210 0 c s = true → mask.toNat ≤ 511 →
        (s.locked g = false → exec (.layerSet c slot mask values) s = .next (kcpOk 0x0210 c s
          (putAll (s.kcpFn c) slot.toNat (((List.range 9).filter fun k => mask.getLsbD k).map fun k => (4 * k, values.getD k 0)) s) [])) ∧
        (s.locked g = true → ∃ t, exec (.layerSet c slot mask values) s =
          .next (kcpAnswer 0x0210 c (s.kcpVersion c) (refuse .lateWrite g t)).driveErrn ∧ t = s.countLate g)) ∧
      (∀ values : List Word, kcpReady 0x0211 4 c s = true → s.locked g = false →
        exec (.layerSetType c slot 1 1 values) s =
          .next (kcpOk 0x0211 c s (s.putShadow (s.kcpFn c) slot.toNat 0x104 (values.getD 0 0)) [])) ∧
      (kcpReady 0x0212 0 c s = true → ∃ r : List Byte, r.length = 36 ∧ exec (.layerQuery c slot) s = .next (kcpOk 0x0212 c s s r)) ∧
      (∀ (h cols rows : Nat) (first : Word), s.cellMap e = some (h, cols, rows) → e.slot = slot.toNat →
        (∀ (count : Byte) (entries : List Word), kcpReady 0x0220 (count.toNat * s.entryBytes slot.toNat) c s = true →
          1 ≤ count.toNat → count.toNat ≤ 40 / s.entryBytes slot.toNat → first.toNat + count.toNat ≤ cols * rows →
          exec (.cellWrite c slot count first entries) s = .next (kcpOk 0x0220 c s
            (s.defer g (s.kcpFn c) (.cells e.slot h cols first.toNat ((List.range count.toNat).map fun i =>
              (entries.getD i 0).toNat % 2 ^ (8 * s.entryBytes slot.toNat)))) (leBytes 4 (s.frameAfter g (s.usableWait g)).toNat))) ∧
        (∀ count entry : Word, kcpReady 0x0221 0 c s = true → first.toNat < cols * rows → first.toNat + count.toNat ≤ cols * rows →
          exec (.cellFill c slot first count entry) s = .next (kcpOk 0x0221 c s
            (s.defer g (s.kcpFn c) (.fill e.slot h cols first.toNat count.toNat (entry.toNat % 2 ^ (8 * s.entryBytes e.slot))))
            (leBytes 4 (s.frameAfter g (s.usableWait g)).toNat)))))

/-- The commands of filter banks, colour tables, output colour states and slot colours. SCL_BANK_LOAD of a bank from 4 on
that nothing uses, whose image can be read, is valid and names that bank, puts it in the store; a bank in use is
refused with BUSY. SCL_BANK_QUERY and SCL_QUERY_SLOT report. SCL_SET_SLOT with banks that exist waits for the group's
first usable sill. COL_TABLE_LOAD of a free index whose image can be read, is valid and fits puts it in the store;
COL_TABLE_FREE of a table loaded by command and unused removes it, COL_TABLE_QUERY reports. COL_SET_OUTPUT of the
background of a granted output with an unlocked shadow set writes that item alone, and keeps whose write it is;
COL_QUERY_OUTPUT reports; COL_SET_SLOT of a slot's fill and key registers writes the registers its mask names.
Concludes exec = next (completion) for: sclBankLoad, sclBankQuery, sclSetSlot, sclQuerySlot, colSetSlot, colTableLoad,
colTableQuery, colTableFree, colSetOutput, colQueryOutput. [R146, R257, R260, R268, R269, R279, R286, R288, R289,
R294] -/
def Obligations.ScalerAndColourCommands : Prop :=
  ∀ (c : KcpCtx) (s : State),
    (∀ (bank : Byte) (address : Long), kcpReady 0x0240 0 c s = true → 4 ≤ bank.toNat → bank.toNat ≤ 31 →
      s.memMapped address.toNat 3648 = true →
      (s.bankBusy bank.toNat = true → exec (.sclBankLoad c bank address) s =
        .next (kcpAnswer 0x0240 c (s.kcpVersion c) (refuse .busy bank.toNat (s.count 105))).driveErrn) ∧
      ∀ (b : List Byte) (t : State), s.bankBusy bank.toNat = false → s.memLoad 154 address.toNat 3648 = (some b, t) → bankBad b = none →
        u b 4 1 = bank.toNat → (t.kcpSession c).isSome = true →
        exec (.sclBankLoad c bank address) s =
          .next (kcpOk 0x0240 c s ((t.modSeq fun q => { q with banks := tabInsert q.banks bank.toNat b }).count 104) [])) ∧
    (∀ bank : Byte, kcpReady 0x0241 0 c s = true → bank.toNat ≤ 31 →
      ∃ r : List Byte, r.length = 24 ∧ exec (.sclBankQuery c bank 0 0) s = .next (kcpOk 0x0241 c s s.draw.2 r)) ∧
    (∀ (slot : Half) (g : Nat) (t : Truss) (e : TSlot), s.hasSlot (s.kcpFn c) slot.toNat = true → s.slotEntry slot.toNat = some (g, t, e) →
      (∀ sh sv : Byte, kcpReady 0x0242 0 c s = true → sh.toNat ≤ 2 → sv.toNat ≤ 2 →
        exec (.sclSetSlot c slot 0xFF 0xFF sh sv) s = .next (kcpOk 0x0242 c s ((s.modSlot e.slot fun q =>
            { q with sclNext := some { h := 0xFF, v := 0xFF, sh := sh.toNat, sv := sv.toNat } }).defer g (s.kcpFn c)
          (.scale e.slot { h := 0xFF, v := 0xFF, sh := sh.toNat, sv := sv.toNat })) [])) ∧
      (kcpReady 0x0243 0 c s = true → ∃ r : List Byte, r.length = 20 ∧ exec (.sclQuerySlot c slot) s = .next (kcpOk 0x0243 c s s r)) ∧
      (∀ (mask : Byte) (values : List Word), kcpReady 0x0265 0 c s = true → mask.toNat ≤ 15 → mask.getLsbD 0 = false → s.locked g = false →
        exec (.colSetSlot c slot mask values) s = .next (kcpOk 0x0265 c s (putAll (s.kcpFn c) slot.toNat
          (((List.range 4).filter fun k => mask.getLsbD k).map fun k => (0x180 + 4 * k, values.getD k 0)) s) []))) ∧
    (∀ (index : Byte) (address : Long) (h b : List Byte) (t v : State), kcpReady 0x0260 0 c s = true → s.memMapped address.toNat 16 = true →
      s.tableUsers index.toNat = 0 → s.seq.switch = none → s.trussTable index.toNat = false →
      s.memLoad 154 address.toNat 16 = (some h, t) → tableLen (u h 4 1) ≠ 0 → u h 0 4 = 0x54434D47 → u h 8 4 = tableLen (u h 4 1) →
      t.memMapped address.toNat (tableLen (u h 4 1)) = true → t.memLoad 154 address.toNat (tableLen (u h 4 1)) = (some b, v) →
      tableBad b = none → u b 5 1 = index.toNat → v.storeUsed (some index.toNat) + upTo 64 b.length ≤ colourStoreBytes →
      (v.kcpSession c).isSome = true →
      ∃ w, exec (.colTableLoad c index address) s = .next (kcpOk 0x0260 c s w []) ∧
        w = refreshBypass ((v.modSeq fun q => { q with tables := tabInsert q.tables index.toNat b,
                                                       tableFailed := tabKeep (fun k _ => k % 256 != index.toNat) q.tableFailed }).count 35)) ∧
    (∀ index : Byte,
      (kcpReady 0x0261 0 c s = true → ∃ r : List Byte, r.length = 12 ∧ exec (.colTableQuery c index) s = .next (kcpOk 0x0261 c s s r)) ∧
      (kcpReady 0x0262 0 c s = true →
        (s.tableUsers index.toNat = 0 → (s.tableSource index.toNat).1 = 2 →
          exec (.colTableFree c index) s = .next (kcpOk 0x0262 c s (s.modSeq fun q => { q with tables := tabErase q.tables index.toNat }) [])) ∧
        (s.tableUsers index.toNat ≠ 0 → exec (.colTableFree c index) s = .next (kcpNo 0x0262 c s .busy index.toNat)))) ∧
    (∀ (output : Half) (g k : Nat), s.liveOutput output.toNat = some (g, k) → s.hasGroup (s.kcpFn c) g = true →
      (∀ background : List Half, kcpReady 0x0263 0 c s = true → s.locked g = false →
        exec (.colSetOutput c output 2 0 background 0 0 0 0 0) s = .next (kcpOk 0x0263 c s (s.modSeq fun q =>
          { q with colourShadow := tabSet q.colourShadow (65536 * k + output.toNat)
                     { tabGet s.seq.colourShadow (65536 * k + output.toNat) with
                       bgR := (background.map BitVec.toNat).getD 0 0, bgG := (background.map BitVec.toNat).getD 1 0,
                       bgB := (background.map BitVec.toNat).getD 2 0, bgA := (background.map BitVec.toNat).getD 3 0 },
                   colourDirty := tabMod q.colourDirty (65536 * k + output.toNat) fun l =>
                     l ++ [(s.kcpFn c, 2, (default : OutColour).put 2 0 (background.map BitVec.toNat) 0 0 0 0 0)] }) [])) ∧
      (∀ view : Byte, kcpReady 0x0264 0 c s = true → view.toNat ≤ 1 →
        ∃ r : List Byte, r.length = 16 ∧ exec (.colQueryOutput c output view) s = .next (kcpOk 0x0264 c s s r)))

/-- An ECC error in a head's buffer line: uncorrectable repeats the previous line with detail 5, corrected records detail
4. At the start of an active line of a scanning head whose strip is committed, outside the safe state: with an
uncorrectable error in its buffer line the head scans the line it scanned before, and source 32 + h records detail 5;
with a corrected error it scans the buffer's line, and the source records detail 4. Concludes exec = next (completion)
for: headLineStart. [R302] -/
def Obligations.EccErrorsRepeatTheLine : Prop :=
  ∀ (h : Fin 8) (s : State) (x : HeadTiming) (e : Nat × Truss × Nat) (b : StripBuf), (s.head h).timing = some x → (s.head h).scanning = true →
    (s.head h).line < x.vactive → s.flt.safe = false → s.headGroup h = some e → b = tabGet (s.head h).bufs ((s.head h).line / 8 % 4) →
    b.committed = true → b.strip = (s.head h).line / 8 →
    (∃ u : State, exec (.headLineStart h 2) s =
        .next (headWbLine h (s.head h).line (s.head h).last ((u.fault (32 + h) 5).emit (.headLine h (s.head h).line true))).driveErrn ∧
      (u.head h).last = (s.head h).last ∧ (u.head h).line = (s.head h).line + 1) ∧
    (∀ l, l = [b.lines.a.getD ((s.head h).line % 8) [], b.lines.b.getD ((s.head h).line % 8) [], b.lines.c.getD ((s.head h).line % 8) [],
        b.lines.alpha.getD ((s.head h).line % 8) []] →
      ∃ u : State, exec (.headLineStart h 1) s =
          .next (headWbLine h (s.head h).line l ((u.fault (32 + h) 4).emit (.headLine h (s.head h).line false))).driveErrn ∧
        (u.head h).last = l ∧ (u.head h).line = (s.head h).line + 1)

/-- Frames, hot-plug, training and AUX of a head, and its commands. A head that can scan and has no power change waiting
begins a frame: it scans from line 0, and a frame that ended is counted. A line whose strip is not committed repeats
the last one. A plug keeps the sink's capabilities; an unplug turns the link off and leaves scanning alone; a pulse
under 0.25 ms is counted. A training attempt that succeeds streams in the configuration tried. The end of a
written-back frame ends its engine's frame. The head commands of a granted group answer OK with these effects: a query
changes nothing; a new timing that passes its checks goes to the shadow set; a power change waits for the next frame;
a retrain trains; an AUX request goes out and its reply answers it; a backlight level is stored. Concludes exec = next
(completion) for: headFrameStart, headLineStart, hpdPlug, hpdUnplug, irqHpd, hpdShortPulse, linkTrainingAttemptEnd,
headWritebackFrameEnd, auxReply, headQuery, headSetTiming, headSetPower, headRetrain, headAux, headSetBacklight.
[R296, R301, R304, R305, R306, R307, R309, R310, R314] -/
def Obligations.HeadEventsAndCommands : Prop :=
  (∀ (h : Fin 8) (s : State),
    (∀ x, (s.head h).timing = some x → s.canScan h = true → (s.head h).powerNext = none →
      ∃ t, exec (.headFrameStart h) s = .next t ∧ (t.head h).scanning = true ∧ (t.head h).line = 0 ∧ (t.head h).frameStart = t.clk.plan ∧
        (t.head h).frames = (if (s.head h).scanning then (s.head h).frames + 1 else (s.head h).frames)) ∧
    (∀ x (e : Nat × Truss × Nat), (s.head h).timing = some x → (s.head h).scanning = true → (s.head h).line < x.vactive → s.flt.safe = false →
      s.headGroup h = some e → (tabGet (s.head h).bufs ((s.head h).line / 8 % 4)).committed = false →
      ∃ t, exec (.headLineStart h 0) s = .next t ∧ (t.head h).last = (s.head h).last ∧ (t.head h).repeated = (s.head h).repeated + 1 ∧
        (t.head h).line = (s.head h).line + 1) ∧
    (∀ sink, (s.head h).hpd = false → s.senses = true →
      ∃ t, exec (.hpdPlug h sink) s = .next t ∧ (t.head h).hpd = true ∧ (t.head h).sink = sink ∧ t.mem = s.mem ∧ t.truss = s.truss) ∧
    ((s.head h).hpd = true →
      (∃ t, exec (.hpdUnplug h) s = .next t ∧ (t.head h).hpd = false ∧ (t.head h).state = .unplugged ∧ (t.head h).lanes = 0 ∧
        (t.head h).rate = 0 ∧ (t.head h).scanning = (s.head h).scanning ∧ t.mem = s.mem ∧ t.seq = s.seq) ∧
      exec (.irqHpd h false) s = .next (s.pend (137 + h)).driveErrn ∧
      ((s.head h).state = .streaming → ∃ t, exec (.irqHpd h true) s = .next t ∧ (t.head h).losses = satInc (s.head h).losses)) ∧
    (s.senses = true →
      exec (.hpdShortPulse h) s = .next (s.modHead h fun x => { x with shortPulses := satInc x.shortPulses }).driveErrn) ∧
    ((s.head h).state = .training →
      (∃ t, exec (.linkTrainingAttemptEnd h true) s = .next t ∧ (t.head h).state = .streaming ∧ (t.head h).lanes = (s.head h).tryLanes ∧
        (t.head h).rate = (s.head h).tryRate ∧ t.mem = s.mem ∧ t.seq = s.seq) ∧
      ∃ t, exec (.linkTrainingAttemptEnd h false) s = .next t ∧ ((t.head h).state = .training ∨ (t.head h).state = .failed)) ∧
    (∀ x (g o : Nat) (t : Truss), (s.head h).timing = some x → s.headGroup h = some (g, t, o) → (t.output o).wb ≠ 0 →
      (s.wb ((t.output o).wb - 1)).busy = true → (s.wb ((t.output o).wb - 1)).ended = false → (s.head h).scanning = false →
      exec (.headWritebackFrameEnd h) s =
        .next (s.modWb ((t.output o).wb - 1) fun w => { w with ended := true, bad := w.bad || !(s.head h).scanning }).driveErrn) ∧
    (∀ (x : AuxTrans) (data : List Byte), (s.head h).aux = some x → (s.pll 9).gated = false →
      exec (.auxReply h (some 0) data) s = .next (kcpFinish 0x0304 x.c (replyOk (s.modHead h fun y => { y with aux := none })
        (leBytes 1 0 ++ leBytes 1 (if x.op % 2 = 0 then (data.take x.len).length else x.len) ++ zeros 2 ++
          fitBytes 16 (if x.op % 2 = 0 then data.take x.len else [])))).driveErrn)) ∧
  ∀ (c : KcpCtx) (s : State) (head : Byte) (g o : Nat) (t : Truss), head.toNat ≤ 7 → s.headGroup head.toNat = some (g, t, o) →
    s.hasGroup (s.kcpFn c) g = true →
    (∀ view : Byte, kcpReady 0x0300 0 c s = true → view.toNat ≤ 2 → ∃ r, exec (.headQuery c head view) s = .next (kcpOk 0x0300 c s s r)) ∧
    (∀ (entry : List Byte) (x : HeadTiming), kcpReady 0x0301 0 c s = true → x = readTiming (fitBytes 32 entry) 0 → x.head = head.toNat →
      s.locked g = false →
      ((List.range 8).any fun k => k != x.head && (match s.shadowTiming k with | some y => y.pll == x.pll && y.clock != x.clock | none => false)) = false →
      s.timingFails t x.head x = none →
      exec (.headSetTiming c entry) s = .next (kcpOk 0x0301 c s (s.modHead x.head fun q =>
        { q with shadow := some x, shadowBy := putBit 0 (s.kcpFn c) true }) [])) ∧
    (∀ power : Byte, kcpReady 0x0302 0 c s = true → power.toNat ≤ 2 →
      exec (.headSetPower c head power) s = .next (kcpOk 0x0302 c s (s.modHead head.toNat fun x => { x with powerNext := some power.toNat }) [])) ∧
    (kcpReady 0x0303 0 c s = true → (s.head head.toNat).hpd = true → (startTraining head.toNat false s).kcpSession c ≠ none →
      exec (.headRetrain c head) s = .next (kcpOk 0x0303 c s (startTraining head.toNat false s) [])) ∧
    (∀ (length : Byte) (address : Word), kcpReady 0x0304 0 c s = true → 1 ≤ length.toNat → length.toNat ≤ 16 → address.toNat < 2 ^ 20 →
      (s.head head.toNat).hpd = true → (s.head head.toNat).aux = none →
      exec (.headAux c head 0 length 0 address []) s = .next (((s.modHead head.toNat fun x =>
        { x with aux := some { c := c, op := 0, len := length.toNat, addr := address.toNat, data := [], tries := 0 } }).emit
          (.aux head.toNat 9 address.toNat [])).modTaken c fun t => { t with begun := true }).driveErrn) ∧
    (∀ level : Half, kcpReady 0x0305 0 c s = true → (s.head head.toNat).sink.backlight ≠ 0 →
      exec (.headSetBacklight c head level) s = .next (kcpOk 0x0305 c s
        ((s.modHead head.toNat fun x => { x with backlight := level }).emit (.aux head.toNat 8 0x722
          (beBytes 2 (level.toNat / 2 ^ (16 - min 16 (s.head head.toNat).sink.backlight))))) []))

/-- Datagrams, timers, announcements, mortises and source frames of the display transport. A beacon goes out on each port
that carries ADT, from each of its addresses to that protocol's group, and sets the next. A HELLO that R324 accepts
opens a session of its version and address; a rejected one changes no peer. A live peer's valid HEARTBEAT keeps its
flags, frame and offset, and one whose summary differs resets the held digests; its LEAVE ends the session. The
heartbeat timer sends one datagram; 4 tHB of silence makes a peer not live, 8 end its session. An ANNOUNCE marks its
group announced. A mortise opens on its port for its length. A REPAIR of one slice that can still be in time
retransmits it. A HOLD ends, a BLANK is repeated. A source's fragment is kept, a FRAME_DONE ends its frame, a whole
frame completes, a late one is abandoned. What these do not name of memory, trusses and groups stays. Concludes exec =
next (completion) for: beaconTimer, adtHelloRx, adtHeartbeatRx, adtLeaveRx, adtRepairRx, sourceSliceRx, frameDoneRx,
adtHeartbeatTx, adtPeerNotLive, adtSessionTimeout, announceTime, mortiseOpen, adtBlankRepeat, adtHoldEnd,
ingestFrameComplete, ingestFrameTimeout. [R317, R322, R323, R324, R326, R331, R334, R338, R340, R341, R344, R378] -/
def Obligations.AdtSessionsAndFrames : Prop :=
  ∀ s : State,
    (s.boot.phase = .running → s.adtCfg.beacon = true →
      ∃ t, exec .beaconTimer s = .next t ∧ t.mem = s.mem ∧ t.seq = s.seq ∧
        t.adt.beaconDue = t.now + (if t.adt.portsUp ≠ 0 ∧ t.now < t.adt.portsUp - 1 + secNs 1 then msNs 50 else secNs 1) ∧
        ∀ p, p < 4 → s.adtPort p = true →
          ((s.queue p 1).frames.map (·.wire)).sum + (s.beaconTo p).length * s.adtWire p 44 {} ≤ 262144 →
          ∃ fs : List QFrame, fs.map (·.dest) = (s.beaconTo p).map (·.1) ∧ (∀ f ∈ fs, f.what = "BEACON") ∧
            (t.queue p 1).frames = (s.queue p 1).frames ++ fs) ∧
    (∀ (d : AdtDgram) (h : Hello), s.adtPort d.eth = true → d.fragmented = false → d.magic = 0x4144 →
      (d.version = 0x10 ∨ d.version = 0x11 ∨ d.version = 0x20) → d.len = 32 → d.size = 32 → d.session = 0 → d.seq = 0 → h.role ≤ 1 →
      (∀ k b v, s.helloAnswer d h = .inr (k, b, v) →
        ∃ t, exec (.adtHelloRx d h) s = .next t ∧ (t.peer k).inSession = true ∧ (t.peer k).version = v ∧ (t.peer k).addr = d.addr ∧
          (t.peer k).port = d.udp ∧ t.mem = s.mem ∧ t.seq = s.seq ∧ ∀ j, j ≠ k → t.peer j = s.peer j) ∧
      (∀ r, s.helloAnswer d h = .inl r → ∃ t, exec (.adtHelloRx d h) s = .next t ∧ t.adt = s.adt ∧ t.mem = s.mem ∧ t.seq = s.seq)) ∧
    (∀ (d : AdtDgram) (k : Nat),
      (∀ (frame : Word) (summary : Nat) (flags late : Half) (offset : Int), AdtFrom none 0x10 32 d k s →
        ∃ t, exec (.adtHeartbeatRx d frame summary flags late offset) s = .next t ∧ (t.peer k).flags = flags ∧ (t.peer k).lastFrame = frame ∧
          (t.peer k).offset = offset ∧ (t.peer k).lastValid = s.now ∧ (t.peer k).eth = d.eth ∧ t.mem = s.mem ∧ t.seq = s.seq ∧
          (∀ e, k < 1024 → 0x11 ≤ (s.peer k).version → (s.peer k).summaries.find? (fun e => e.1 == frame.toNat) = some e → e.2 ≠ summary →
            (t.peer k).held = [] ∧ (t.peer k).mismatches = satInc (s.peer k).mismatches) ∧ ∀ j, j ≠ k → t.peer j = s.peer j) ∧
      (∀ reason : Half, AdtFrom none 0x10 4 d k s → ∃ t, exec (.adtLeaveRx d reason) s = .next t ∧ (t.peer k).inSession = false ∧
        (t.peer k).reason = 9 ∧ t.mem = s.mem ∧ t.seq = s.seq ∧ ∀ j, j ≠ k → t.peer j = s.peer j) ∧
      (∀ (frame : Word) (flags index : Half) (want : Long) (x : Slice) (g o : Nat) (tr : Truss), AdtFrom (some false) 0x11 20 d k s →
        s.endpoint k = some (g, tr, o) → (s.group g).n = frame → s.clk.plan ≤ s.slackAt k g → flags.getLsbD 0 = false →
        (s.eth d.eth).unresolved = [] → s.receives k = true →
        s.adt.buffer.find? (fun y => y.endpoint == k && y.n == frame && y.index == index.toNat && y.seq.isSome) = some x →
        (s.peer k).repairedNow < (match s.peerBinding k with | some b => (if b.repairs = 0 then 16 else b.repairs) | none => 0) →
        (repairFrags k g x (x.flags ||| 1) (fun f => want.getLsbD f) s.clk.plan s).1 = true →
        ∃ t, exec (.adtRepairRx d frame flags [(index, want)]) s = .next t ∧ (t.peer k).repairs = (s.peer k).repairs + 1 ∧
          (t.peer k).repairedNow = (s.peer k).repairedNow + 1 ∧ (t.peer k).unrepaired = (s.peer k).unrepaired.filter (· != index.toNat) ∧ t.mem = s.mem ∧ t.seq = s.seq) ∧
      (∀ (frame : Word) (index : Half) (frag fragCount : Byte) (digest : Long) (offset : Word) (payload : List Byte) (b : TBinding)
          (f : IngFrame) (sizes : List Nat) (j : Nat), AdtFrom (some true) 0x10 (24 + payload.length) d k s → s.peerBinding k = some b →
        sizes = fragSizes (sliceBytes b.bpp b.sliceW b.sliceH) b.fragBytes → index.toNat < b.sliceCount → fragCount.toNat = sizes.length →
        frag.toNat < sizes.length → offset.toNat = frag.toNat * b.fragBytes → payload.length = sizes.getD frag.toNat 0 →
        s.ingRuns (k - 1024) = true → (s.ing (k - 1024)).decoder ≠ 4 → (s.ing (k - 1024)).started = frame.toNat + 1 →
        s.ingFrame (k - 1024) frame.toNat = some f → tabGet f.slices index.toNat = 0 → j < sizes.length → j ≠ frag.toNat →
        tabGet f.frags (64 * index.toNat + j) = [] →
        ∃ t, exec (.sourceSliceRx d frame index frag fragCount digest offset payload) s = .next t ∧ t.mem = s.mem ∧ t.seq = s.seq ∧
          t.ingFrame (k - 1024) frame.toNat = some { f with frags := tabSet f.frags (64 * index.toNat + frag.toNat) payload }) ∧
      (∀ (frame : Word) (capture : Long) (slices : Half) (digest : Long) (b : TBinding) (f : IngFrame), AdtFrom (some true) 0x10 24 d k s →
        s.peerBinding k = some b → s.ingFrame (k - 1024) frame.toNat = some f → s.ingRuns (k - 1024) = true →
        (slices.toNat = b.sliceCount → f.whole b = true → frameDigest b f = digest.toNat →
          ∃ t, exec (.frameDoneRx d frame capture slices digest) s = .next t ∧ t.mem = s.mem ∧ t.seq = s.seq ∧
            t.ingFrame (k - 1024) frame.toNat = some { f with finished := some (slices.toNat, capture.toNat, digest.toNat) }) ∧
        (slices.toNat ≠ b.sliceCount → ∃ t, exec (.frameDoneRx d frame capture slices digest) s = .next t ∧ t.mem = s.mem ∧ t.seq = s.seq ∧
          t.ingFrame (k - 1024) frame.toNat = none ∧ (t.ing (k - 1024)).abandoned = satInc (s.ing (k - 1024)).abandoned))) ∧
    (∀ (source : Bool) (number : Half) (k : Nat), k = peerKey source number.toNat → (s.peer k).inSession = true →
      (∃ t, exec (.adtHeartbeatTx source number) s = .next t ∧ (t.peer k).nextBeat = t.now + msNs (s.peer k).heartbeat ∧
        (t.peer k).txSeq = (s.peer k).txSeq + 1 ∧ t.mem = s.mem ∧ t.seq = s.seq ∧ ∀ j, j ≠ k → t.peer j = s.peer j) ∧
      ((s.peer k).state ≠ 3 → ∃ t, exec (.adtPeerNotLive source number) s = .next t ∧ (t.peer k).state = 3 ∧ (t.peer k).reason = 0 ∧
        (t.peer k).held = [] ∧ (∀ x, x ∈ t.adt.buffer ↔ x ∈ s.adt.buffer ∧ x.endpoint ≠ k) ∧ t.mem = s.mem ∧ t.seq = s.seq ∧
        ∀ j, j ≠ k → t.peer j = s.peer j) ∧
      ((s.peer k).state = 3 → ∃ t, exec (.adtSessionTimeout source number) s = .next t ∧ (t.peer k).inSession = false ∧
        (t.peer k).reason = 10 ∧ t.mem = s.mem ∧ t.seq = s.seq ∧ ∀ j, j ≠ k → t.peer j = s.peer j)) ∧
    (∀ g : Fin 16, s.grpRuns g = true → (s.group g).announced = false → s.seqStopped = false →
      ∃ t, exec (.announceTime g) s = .next t ∧ (t.group g).announced = true ∧ t.mem = s.mem ∧ t.truss = s.truss ∧ t.heads = s.heads ∧
        ∀ j, j ≠ g.val → t.group j = s.group j) ∧
    (∀ (p : Fin 4) (g : Fin 16) (index : Nat) (t : Truss) (m : TMortise), s.grpTruss g = some t →
      (t.calOf (s.group g).variant).mortises[index]? = some m → m.port = p.val → (t.output m.out).group = g.val → m.frame = (s.group g).j →
      (s.group g).begun = true → s.planGated = false → s.flt.safe = false → ((s.peer (t.output m.out).unit).opened.contains (m.row, p.val)) = false →
      (s.eth p).lastEnd = 0 ∨ (s.eth p).lastEnd + 8 * grain ≤ s.instant g t m.start →
      ∃ u : State, exec (.mortiseOpen p g index) s = .next u ∧ (u.peer (t.output m.out).unit).opened = (m.row, p.val) :: (s.peer (t.output m.out).unit).opened ∧
        (u.eth p).lastEnd = u.clk.plan + m.len * grain ∧ (u.eth p).openNow = some { index := index, stop := (u.eth p).lastEnd, group := g.val } ∧
        (u.eth p).moved = (s.eth p).moved ∧ u.mem = s.mem ∧ u.seq = s.seq) ∧
    (∀ number : Half,
      (∀ b, s.blankOn (peerKey false number.toNat) = some b → (s.peer (peerKey false number.toNat)).inSession = true →
        ∃ t, exec (.adtBlankRepeat number) s = .next t ∧ (t.peer (peerKey false number.toNat)).blankDue = t.now + secNs 1 ∧
          (t.peer (peerKey false number.toNat)).blank = some b ∧ t.mem = s.mem ∧ t.seq = s.seq) ∧
      ((s.peer (peerKey false number.toNat)).holding ≠ 0 → (s.peer (peerKey false number.toNat)).holdEnd ≠ 0 →
        ∃ t, exec (.adtHoldEnd number) s = .next t ∧ (t.peer (peerKey false number.toNat)).holding = 0 ∧
          (t.peer (peerKey false number.toNat)).holdEnd = 0 ∧ t.mem = s.mem ∧ t.seq = s.seq)) ∧
    ∀ (source : Byte) (b : TBinding), s.peerBinding (1024 + source.toNat) = some b →
      (∀ (f : IngFrame) (fin : Nat × Nat × Nat), (s.ing source.toNat).now.find? (fun f => f.finished.isSome && f.whole b) = some f →
        f.finished = some fin → s.ingRuns source.toNat = true → frameDigest b f = fin.2.2 →
        ∃ t, exec (.ingestFrameComplete source) s = .next t ∧ (t.ing source.toNat).latest = f.buffer + 1 ∧ (t.ing source.toNat).frame = f.frame ∧
          (t.ing source.toNat).capture = fin.2.1 ∧ (t.ing source.toNat).complete = satInc (s.ing source.toNat).complete ∧ t.truss = s.truss ∧
          t.seq = s.seq ∧ t.ingFrame source.toNat f.frame = none) ∧
      ∀ (f : IngFrame) (l : List IngFrame), (s.ing source.toNat).now = f :: l →
        ∃ t, exec (.ingestFrameTimeout source) s = .next t ∧ (t.ing source.toNat).abandoned = satInc (s.ing source.toNat).abandoned ∧
          t.ingFrame source.toNat f.frame = none ∧ t.mem = s.mem ∧ t.seq = s.seq

/-- The display-transport commands, past the checks of R151. With valid operands: ADT_CONFIG stores its values, and a new
port ends every session; ADT_QUERY and ADT_STATS report; ADT_BIND gives a bound peer its ID and address and ends its
session; ADT_DISCONNECT ends the session and sets the hold-off; ADT_REFRESH forgets the held digests of its endpoints
and of no other; ADT_BLANK gives them its blank or ends one of reason 2; ADT_SOURCE_CTRL stops or starts a source.
Concludes exec = next (completion) for: adtConfig, adtQuery, adtBind, adtDisconnect, adtRefresh, adtBlank,
adtSourceCtrl, adtStats. [R340, R341, R347, R351] -/
def Obligations.AdtCommandsAnswer : Prop :=
  ∀ (c : KcpCtx) (s : State),
    (∀ (port heartbeat hold repair : Half) (beacon : Byte) (group : BitVec 128) (p : Nat), kcpReady 0x0400 0 c s = true →
      100 ≤ heartbeat.toNat → heartbeat.toNat ≤ 1000 → 1 ≤ hold.toNat → hold.toNat ≤ 3600 → 500 ≤ repair.toNat → repair.toNat ≤ 10000 →
      beacon.toNat ≤ 1 → p = (if port = 0 then 56410 else port.toNat) →
      (p = s.adtCfg.port → exec (.adtConfig c port heartbeat hold repair beacon group) s = .next (kcpOk 0x0400 c s
        { s with adtCfg := { s.adtCfg with heartbeat := heartbeat.toNat, hold := hold.toNat, repair := repair.toNat, beacon := beacon == 1,
                                           group := group.toNat } } [])) ∧
      ∃ t, exec (.adtConfig c port heartbeat hold repair beacon group) s = .next t ∧
        t.adtCfg = { s.adtCfg with port := p, heartbeat := heartbeat.toNat, hold := hold.toNat, repair := repair.toNat, beacon := beacon == 1,
                                   group := group.toNat } ∧
        (p ≠ s.adtCfg.port → ∀ k, (t.peer k).inSession = false) ∧ t.mem = s.mem ∧ t.seq = s.seq) ∧
    (∀ (kind fixed : Byte) (number hold : Half) (peer : Long) (address : BitVec 128) (k : Nat), adtNamed (s.kcpFn c) kind number s = true →
      k = peerKey (kind == 1) number.toNat →
      (kcpReady 0x0401 0 c s = true → ∃ r : List Byte, r.length = 46 ∧ exec (.adtQuery c kind number) s = .next (kcpOk 0x0401 c s s r)) ∧
      (kcpReady 0x0402 0 c s = true → fixed.toNat ≤ 1 → (s.peerBinding k).isSome = true →
        (∀ x, s.bindingOf kind.toNat peer.toNat = some x → x.1 = k) →
        ∃ t, exec (.adtBind c kind fixed number peer address) s = .next t ∧ (t.peer k).bound = some (fixed == 1, peer.toNat, address.toNat) ∧
          (t.peer k).inSession = false ∧ t.mem = s.mem ∧ t.seq = s.seq ∧ ∀ j, j ≠ k → t.peer j = s.peer j) ∧
      (kcpReady 0x0403 0 c s = true → hold.toNat ≤ 3600 →
        ∃ t, exec (.adtDisconnect c kind number hold) s = .next t ∧ (t.peer k).inSession = false ∧
          (t.peer k).holdOff = (if hold = 0 then 0 else s.now + secNs hold.toNat + 1) ∧ t.mem = s.mem ∧ t.seq = s.seq ∧
          ∀ j, j ≠ k → t.peer j = s.peer j)) ∧
    (∀ first count : Half, adtRange (s.kcpFn c) first count s = true →
      (kcpReady 0x0404 0 c s = true → ∃ u : State, exec (.adtRefresh c first count) s = .next (kcpOk 0x0404 c s u []) ∧
        (∀ k, first.toNat ≤ k → k < first.toNat + count.toNat → (s.endpoint k).isSome = true → (u.peer k).held = [] ∧ (u.peer k).fresh = true) ∧
        (∀ k, k < first.toNat ∨ first.toNat + count.toNat ≤ k → u.peer k = s.peer k) ∧ u = { s with adt := u.adt }) ∧
      (∀ (notice : Byte) (background colour : BitVec 24), kcpReady 0x0405 0 c s = true → notice.toNat ≤ 1 →
        (∃ t, exec (.adtBlank c first count 1 notice background colour) s = .next t ∧ t.mem = s.mem ∧ t.seq = s.seq ∧
          ∀ k, first.toNat ≤ k → k < first.toNat + count.toNat → (s.endpoint k).isSome = true →
            ∃ b, (t.peer k).blank = some b ∧ b.reason = 2 ∧ b.hasNotice = (notice == 1) ∧
              b.colour = bitsOf 0 8 background.toNat * 65536 + bitsOf 8 8 background.toNat * 256 + bitsOf 16 8 background.toNat ∧
              b.notice = bitsOf 0 8 colour.toNat * 65536 + bitsOf 8 8 colour.toNat * 256 + bitsOf 16 8 colour.toNat) ∧
        ∃ t, exec (.adtBlank c first count 0 notice background colour) s = .next t ∧ t.mem = s.mem ∧ t.seq = s.seq ∧
          ∀ k, first.toNat ≤ k → k < first.toNat + count.toNat → (s.endpoint k).isSome = true →
            ∀ b, (t.peer k).blank = some b → b.reason ≠ 2)) ∧
    (∀ source op : Byte, kcpReady 0x0406 0 c s = true → op.toNat ≤ 1 → (s.peer (1024 + source.toNat)).inSession = true →
      s.decoderNow source.toNat ≠ 4 →
      exec (.adtSourceCtrl c source op) s = .next (kcpOk 0x0406 c s ((s.adtSend (1024 + source.toNat) "SOURCE_CTRL" 4 [op.toNat, 0]).modPeer
        (1024 + source.toNat) fun p => { p with stop := if op = 0 then 1 else 0 }) [])) ∧
    (kcpReady 0x0407 0 c s = true → ∃ r : List Byte, r.length = 48 ∧ exec (.adtStats c) s = .next (kcpOk 0x0407 c s s r))

/-- Links, neighbours, network time, MACsec, elimination and frame choice of an Ethernet port. A link that goes down loses
the port and closes its mortise; one that comes up is up from now and has no SAK; a lost port that has settled
returns. A discarded frame is counted. ARP and echo requests for the port's addresses are answered, at most 100 echoes
in any second, answers resolve the sender; an unresolved address is asked for again and given up, a resolved one ages
out. A Sync on the slave port sets offset and ratio, and in locked mode the rate; the sixteenth good one in a row
locks the time base; an Announce is kept; the grandmaster sends what is due; a port that misses its Syncs is the slave
no longer; Pdelay is asked, answered and measured. A valid MKA frame keeps its peer live or installs a SAK, 6 s
without one lose the port. An R-TAG runs through its recovery function, which resets on its timeout. The next calendar
bucket is expanded; a time frame that fits is sent. Memory and trusses stay. Concludes exec = next (completion) for:
ethLinkDown, ethLinkUp, ethLinkUpSettled, ethFrameDiscard, mkaRx, mkaPeerTimeout, cbFrameRx, macSelectFrame,
cbResetTimeout, arpNdRx, icmpEchoRx, arpRetry, arpGiveUp, neighbourAgeOut, ptpSyncRx, ptpAnnounceRx, ptpPdelayRx,
ptpSyncTx, ptpSyncTimeout, ptpPdelayTimer, calendarBucketExpand. [R75, R352, R353, R354, R355, R356, R357, R358, R359,
R364, R367, R370] -/
def Obligations.PortsNeighboursAndTime : Prop :=
  ∀ (p : Fin 4) (s : State),
    ((s.eth p).up = true → ∃ t, exec (.ethLinkDown p) s = .next t ∧ (t.eth p).up = false ∧ (t.eth p).secured = false ∧ (t.eth p).lost = true ∧
      (t.eth p).openNow = none ∧ t.mem = s.mem ∧ t.truss = s.truss ∧ t.heads = s.heads) ∧
    (∀ rxInvert, (s.eth p).up = false → (s.ethCfg p).enabled = true → (s.ethCfg p).mode ≠ 0 → (s.pll 9).gated = false → s.boot.phase = .running →
      ∃ t, exec (.ethLinkUp p rxInvert) s = .next t ∧ (t.eth p).up = true ∧ (t.eth p).upAt = s.now ∧ (t.eth p).rxInvert = rxInvert ∧
        (t.eth p).secured = false ∧ t.mem = s.mem ∧ t.truss = s.truss ∧ t.seq = s.seq ∧
        ∀ q, q ≠ p.val → (t.eth q).up = (s.eth q).up ∧ (t.eth q).secured = (s.eth q).secured ∧ (t.eth q).lost = (s.eth q).lost) ∧
    ((s.eth p).lost = true → s.portUp p = true → s.fenced (57 + p) = false → ((s.ethCfg p).secMode = 2 → (s.eth p).mkaLive = true) →
      ∃ t, exec (.ethLinkUpSettled p) s = .next t ∧ (t.eth p).lost = false ∧ t.mem = s.mem ∧ t.truss = s.truss ∧ t.heads = s.heads) ∧
    (s.portUp p = true →
      (∀ wire : Half, exec (.ethFrameDiscard p true wire) s = .next ((s.rxFrame p wire.toNat).count (256 + 8 * p + 5)).driveErrn ∧
        exec (.ethFrameDiscard p false wire) s = .next (s.rxDiscard p wire.toNat).driveErrn) ∧
      ((s.ethCfg p).secMode ≠ 0 → (tabGet s.netMram.keys (s.ethCfg p).keySlot).present = true →
        (∃ t, exec (.mkaRx p false) s = .next t ∧ (t.eth p).mkaLive = true ∧ (t.eth p).mkaAt = s.now ∧ (t.eth p).secured = (s.eth p).secured ∧
          t.mem = s.mem ∧ t.seq = s.seq) ∧
        ∃ t, exec (.mkaRx p true) s = .next t ∧ (t.eth p).mkaLive = true ∧ (t.eth p).secured = true ∧ (t.eth p).packet = 1 ∧
          (t.eth p).rekey = false ∧ t.mem = s.mem ∧ t.seq = s.seq) ∧
      ((s.ethCfg p).secMode = 2 → ∃ t, exec (.mkaPeerTimeout p) s = .next t ∧ (t.eth p).mkaLive = false ∧ (t.eth p).secured = false ∧
        (t.eth p).lost = true ∧ t.mem = s.mem ∧ t.truss = s.truss) ∧
      (∀ (mac : BitVec 48) (vlan : BitVec 12) (seq wire : Half) (i : Nat), s.cbEntry p mac.toNat vlan.toNat = some i →
        ∃ t, exec (.cbFrameRx p mac vlan seq wire) s = .next t ∧
          t.net = { s.net with cb := tabSet s.net.cb i ((tabGet s.net.cb i).take (tabGet s.netMram.cb i).history seq s.now).2 } ∧
          (((tabGet s.net.cb i).take (tabGet s.netMram.cb i).history seq s.now).1 = .duplicate →
            t.eventTotal (256 + 8 * p + 6) = (s.eventTotal (256 + 8 * p + 6) + 1) % 2 ^ 40) ∧ t.mem = s.mem ∧ t.seq = s.seq) ∧
      (∀ (f : QFrame) (l : List QFrame) (busy now : Nat), busy = (s.eth p).busyUntil → now = max busy ((s.untilPlan (busy / 1024)).clk.plan * 1024) →
        (s.queue p 0).frames = f :: l → (s.queue p 0).eligible 0 now f.wire = true → (s.untilPlan (busy / 1024)).nextMortise p = none →
        ∃ t, exec (.macSelectFrame p) s = .next t ∧ (t.queue p 0).frames = l ∧
          (t.eth p).busyUntil = now + ceilDiv (f.wire * grain * 1024) (s.lineRate p) ∧ t.mem = s.mem ∧ t.seq = s.seq ∧ t.adt = s.adt)) ∧
    (∀ entry : Byte, (tabGet s.net.cb entry.toNat).running = true → ∃ t, exec (.cbResetTimeout entry) s = .next t ∧
      tabGet t.net.cb entry.toNat = {} ∧ t.mem = s.mem ∧ t.seq = s.seq ∧ t.net.ports = s.net.ports) ∧
    (s.portCarries p = true → ∀ (target sender : BitVec 128) (mac : BitVec 48), s.ownAddress p target.toNat = true →
      (((s.queue p 3).frames.map (·.wire)).sum + 84 ≤ 262144 → ∃ t f, exec (.arpNdRx p false target sender mac) s = .next t ∧
        (t.queue p 3).frames = (s.queue p 3).frames ++ [f] ∧ f.what = (if target.toNat < 2 ^ 32 then "ARP_REPLY" else "NA") ∧ t.mem = s.mem ∧
        t.seq = s.seq ∧ t.adt = s.adt) ∧
      ((tabGet (s.eth p).neighbours sender.toNat).tries ≠ 0 → ∃ t, exec (.arpNdRx p true target sender mac) s = .next t ∧
        t.resolved p sender.toNat = true ∧ (tabGet (t.eth p).neighbours sender.toNat).mac = mac.toNat ∧ t.mem = s.mem ∧ t.seq = s.seq ∧ t.adt = s.adt) ∧
      ∀ (bytes : Half) (recent : List Nat), (s.eth p).unresolved = [] →
        recent = ((s.eth p).echoes.filter fun t => decide (s.now < t + secNs 1)) → recent.length < 100 →
        ((s.queue p 3).frames.map (·.wire)).sum + max 84 (bytes.toNat + 20) ≤ 262144 →
        ∃ t f, exec (.icmpEchoRx p target sender mac bytes) s = .next t ∧ (t.queue p 3).frames = (s.queue p 3).frames ++ [f] ∧
          f.what = "ECHO_REPLY" ∧ f.dest = sender.toNat ∧
          (t.eth p).echoes = recent ++ [s.now] ∧ t.mem = s.mem ∧ t.seq = s.seq) ∧
    (∀ (a : BitVec 128) (n : Neighbour), n = tabGet (s.eth p).neighbours a.toNat →
      (n.resolved = false → n.tries ≠ 0 →
        (n.tries < 5 → ∃ t, exec (.arpRetry p a) s = .next t ∧ tabGet (t.eth p).neighbours a.toNat = { n with tries := n.tries + 1 } ∧ t.mem = s.mem ∧
          t.seq = s.seq ∧ t.adt = s.adt) ∧
        ∃ t, exec (.arpGiveUp p a) s = .next t ∧ tabGet (t.eth p).neighbours a.toNat = {} ∧
          (∀ e, e ∈ (t.eth p).unresolved ↔ e ∈ (s.eth p).unresolved ∧ e.1 ≠ a.toNat) ∧ t.mem = s.mem ∧ t.seq = s.seq ∧ t.adt = s.adt) ∧
      (n.resolved = true → ∃ t, exec (.neighbourAgeOut p a) s = .next t ∧ t.resolved p a.toNat = false ∧ t.mem = s.mem ∧ t.seq = s.seq ∧
        t.adt = s.adt ∧ ∀ b, b ≠ a.toNat → tabGet (t.eth p).neighbours b = tabGet (s.eth p).neighbours b)) ∧
    (s.asPort p = true →
      (∀ (measured : Long) (estimate rate ratio : Word), s.netMram.time.role ≠ 2 → s.net.slave = p.val + 1 →
        ∃ t, exec (.ptpSyncRx p measured estimate rate ratio) s = .next t ∧ t.net.offset = estimate.toInt ∧ t.net.ratio = ratio.toInt ∧
          t.clk.rate = (if s.clk.mode = 1 then max (-1099511627) (min 1099511627 rate.toInt) else s.clk.rate) ∧ (t.eth p).syncAt = s.now ∧
          (s.clk.mode ≠ 1 → estimate.toInt.natAbs ≤ 100 → 15 ≤ s.clk.goodSyncs →
            s.planTime.toNat < s.net.lastSync.toNat + 2 * s.syncNs → t.clk.mode = 1) ∧ t.mem = s.mem ∧ t.truss = s.truss) ∧
      (∀ (priority1 clockClass accuracy priority2 : Byte) (variance steps : Half) (identity : Long), s.netMram.time.role ≠ 2 →
        ∃ t, exec (.ptpAnnounceRx p priority1 clockClass accuracy variance priority2 identity steps) s = .next t ∧
          (t.eth p).announce = [priority1.toNat, clockClass.toNat, accuracy.toNat, variance.toNat, priority2.toNat, identity.toNat, steps.toNat] ∧
          t.mem = s.mem ∧ t.seq = s.seq) ∧
      (∀ (capable : Bool) (delay : Word), (s.eth p).pdelayAt ≠ 0 → ∃ t, exec (.ptpPdelayRx p true capable delay) s = .next t ∧
        (t.eth p).pdelayAt = 0 ∧ (t.eth p).delay = delay.toInt ∧ (t.eth p).asCapable = capable ∧ t.mem = s.mem ∧ t.seq = s.seq) ∧
      (∀ (capable : Bool) (delay : Word), ((s.queue p 0).frames.map (·.wire)).sum + 184 ≤ 262144 →
        ∃ t a b, exec (.ptpPdelayRx p false capable delay) s = .next t ∧ (t.queue p 0).frames = (s.queue p 0).frames ++ [a, b] ∧
          a.what = "PDELAY_RESP" ∧ b.what = "PDELAY_RESP_FOLLOW_UP" ∧ t.mem = s.mem ∧ t.seq = s.seq)) ∧
    (s.clk.mode = 3 →
      (s.net.announceDue < s.net.syncDue → ∃ t, exec .ptpSyncTx s = .next t ∧ t.net.announceDue = s.net.announceDue + secNs 1 ∧
        t.net.syncDue = s.net.syncDue ∧ t.mem = s.mem ∧ t.seq = s.seq) ∧
      (s.net.syncDue ≤ s.net.announceDue → ∃ t, exec .ptpSyncTx s = .next t ∧ t.net.syncDue = s.net.syncDue + s.syncNs ∧
        t.net.announceDue = s.net.announceDue ∧ t.mem = s.mem ∧ t.seq = s.seq)) ∧
    (s.net.slave = p.val + 1 → ∃ t, exec (.ptpSyncTimeout p) s = .next t ∧ (t.eth p).announce = [] ∧ t.net.slave ≠ p.val + 1 ∧ t.mem = s.mem ∧
      t.truss = s.truss ∧ t.heads = s.heads) ∧
    (s.boot.phase = .running → ∃ t, exec .ptpPdelayTimer s = .next t ∧ t.net.pdelayDue = t.now + secNs 1 ∧ t.mem = s.mem ∧ t.seq = s.seq ∧
      (s.asPort p = true → (t.eth p).pdelayAt = t.clk.plan + 1)) ∧
    ∀ t, s.running = some t → s.planGated = false → ∃ u : State, exec (.calendarBucketExpand p) s = .next u ∧
      (u.eth p).bucket = ((s.bucketNow t).1 + 1) % max 1 (s.bucketNow t).2 + 1 ∧ u.mem = s.mem ∧ u.seq = s.seq

/-- The port, time, MACsec, elimination and calendar commands, past the checks of R151. With operands in range and check
17 still met, each command is answered OK: the queries report (a port's with the FEC codewords counted since), and the
others leave the configuration they name: a port's settings, its enable (a disabled port is lost), an address, network
time (role 2 makes the GM8 grandmaster), MACsec of a port (which restarts its MKA), a key slot, an elimination entry
with its function reset, and a rate set in a port's shadow set, whose writer is kept. Concludes exec = next
(completion) for: netPortQuery, netPortCfg, netPortEnable, netSetAddr, netMacsecCfg, calQuery, calSetRates,
netTimeCfg, netTimeQuery, netMacsecKey, netCbCfg. [R352, R354, R355, R357, R358, R365, R368, R374] -/
def Obligations.NetworkCommandsAnswer : Prop :=
  ∀ (c : KcpCtx) (s : State),
    (∀ (port : Byte) (p : Nat), p = port.toNat → p ≤ 3 →
      (kcpReady 0x0440 0 c s = true → ∃ r : List Byte, r.length = 48 ∧ exec (.netPortQuery c port) s = .next (kcpOk 0x0440 c s (countFec p s) r)) ∧
      (∀ (mode txInvert adt pcpSlice pcpControl pcpRepair flags : Byte) (largest cap : Half) (u : State), kcpReady 0x0441 0 c s = true →
        mode.toNat ≤ 3 → txInvert.toNat ≤ 1 → adt.toNat ≤ 1 → 1522 ≤ largest.toNat → largest.toNat ≤ 9216 → pcpSlice.toNat ≤ 7 →
        pcpControl.toNat ≤ 7 → pcpRepair.toNat ≤ 7 → 1 ≤ cap.toNat → cap.toNat ≤ 1024 → (s.ethCfg p).enabled = false →
        u = s.modCfg p (fun k =>
          { k with mode := mode.toNat, txInvert := txInvert == 1, adt := adt == 1, largest := largest.toNat, pcpSlice := pcpSlice.toNat,
                   pcpControl := pcpControl.toNat, pcpRepair := pcpRepair.toNat, rtag := flags.getLsbD 0, cap := cap.toNat }) →
        (∀ t, s.running = some t → u.check17 t = none) →
        exec (.netPortCfg c port mode txInvert adt largest pcpSlice pcpControl pcpRepair flags cap) s = .next (kcpOk 0x0441 c s u [])) ∧
      (∀ enable : Byte, kcpReady 0x0442 0 c s = true → enable.toNat ≤ 1 →
        ((s.ethCfg p).enabled = (enable == 1) → exec (.netPortEnable c port enable) s = .next (kcpOk 0x0442 c s s [])) ∧
        ∃ t, exec (.netPortEnable c port enable) s = .next t ∧ (t.ethCfg p).enabled = (enable == 1) ∧
          (enable = 0 → (s.ethCfg p).enabled = true → (t.eth p).up = false ∧ (t.eth p).lost = true) ∧ t.mem = s.mem ∧ t.truss = s.truss ∧
          ∀ q, q ≠ p → t.ethCfg q = s.ethCfg q) ∧
      (∀ (version prefixLen : Byte) (address : BitVec 128), kcpReady 0x0443 0 c s = true →
        (version = 4 → prefixLen.toNat ≤ 32 →
          (∀ t, s.running = some t →
            (s.modCfg p fun k => { k with ipv4 := address.toNat % 2 ^ 32, prefix4 := prefixLen.toNat }).check17 t = none) →
          ∃ t, exec (.netSetAddr c port version prefixLen address) s = .next t ∧
            t.ethCfg p = { s.ethCfg p with ipv4 := address.toNat % 2 ^ 32, prefix4 := prefixLen.toNat } ∧ t.mem = s.mem ∧ t.truss = s.truss ∧ t.seq = s.seq) ∧
        (version = 6 → prefixLen.toNat ≤ 128 →
          (∀ t, s.running = some t → (s.modCfg p fun k => { k with ipv6 := address.toNat, prefix6 := prefixLen.toNat }).check17 t = none) →
          ∃ t, exec (.netSetAddr c port version prefixLen address) s = .next t ∧
            t.ethCfg p = { s.ethCfg p with ipv6 := address.toNat, prefix6 := prefixLen.toNat } ∧ t.mem = s.mem ∧ t.truss = s.truss ∧ t.seq = s.seq)) ∧
      (∀ (mode cipher keySlot keyPrio : Byte) (replay : Word) (k : PortCfg), kcpReady 0x0446 0 c s = true → mode.toNat ≤ 2 → cipher.toNat ≤ 1 →
        keySlot.toNat ≤ 3 →
        k = { s.ethCfg p with secMode := mode.toNat, cipher := cipher.toNat, keySlot := keySlot.toNat, replay := replay.toNat, keyPrio := keyPrio.toNat } →
        (∀ t, s.running = some t → (s.modCfg p fun _ => k).check17 t = none) →
        ∃ t, exec (.netMacsecCfg c port mode cipher keySlot replay keyPrio) s = .next t ∧ t.ethCfg p = k ∧ (t.eth p).secured = false ∧
          (t.eth p).mkaLive = false ∧ t.mem = s.mem ∧ t.truss = s.truss ∧ t.seq = s.seq) ∧
      ∀ t, s.running = some t →
        (∀ variant : Byte, kcpReady 0x0450 0 c s = true →
          t.hasVariant (if variant = 0xFF then (s.group (s.rateGroup p)).variant else variant.toNat) = true →
          ∃ r : List Byte, r.length = 48 ∧ exec (.calQuery c port variant) s = .next (kcpOk 0x0450 c s s r)) ∧
        ∀ (mask : Byte) (rates : List Word) (bursts : List Half) (was x r : RateSet), kcpReady 0x0451 0 c s = true →
          s.hasGroup (s.kcpFn c) (s.rateGroup p) = true → mask.toNat ≤ 7 →
          (∀ i, i < 3 → mask.getLsbD i = true → (s.ethCfg p).largest + 20 ≤ (bursts.getD i 0).toNat) → was = (s.eth p).shadow.getD (s.eth p).rates →
          x = { control := (rates.getD 0 0).toNat, repair := (rates.getD 1 0).toNat, manage := (rates.getD 2 0).toNat,
                controlBurst := (bursts.getD 0 0).toNat, repairBurst := (bursts.getD 1 0).toNat, manageBurst := (bursts.getD 2 0).toNat } →
          r = { control := if mask.getLsbD 0 then (rates.getD 0 0).toNat else was.control,
                repair := if mask.getLsbD 1 then (rates.getD 1 0).toNat else was.repair,
                manage := if mask.getLsbD 2 then (rates.getD 2 0).toNat else was.manage,
                controlBurst := if mask.getLsbD 0 then (bursts.getD 0 0).toNat else was.controlBurst,
                repairBurst := if mask.getLsbD 1 then (bursts.getD 1 0).toNat else was.repairBurst,
                manageBurst := if mask.getLsbD 2 then (bursts.getD 2 0).toNat else was.manageBurst } →
          s.check17 (t.withRates (s.group (s.rateGroup p)).variant p r) = none → s.locked (s.rateGroup p) = false →
          exec (.calSetRates c port mask rates bursts) s = .next (kcpOk 0x0451 c s (s.modEth p fun e =>
            { e with shadow := some r, rateWrites := e.rateWrites ++ [(s.kcpFn c, mask, x)] }) [])) ∧
    (∀ (role domain priority1 priority2 clockClass accuracy logSync ports : Byte) (asymmetry : List Half), kcpReady 0x0444 0 c s = true →
      role.toNat ≤ 2 → domain.toNat ≤ 127 → -5 ≤ logSync.toInt → logSync.toInt ≤ 0 → ports.toNat ≤ 15 →
      ∃ t, exec (.netTimeCfg c role domain priority1 priority2 clockClass accuracy logSync ports asymmetry) s = .next t ∧
        t.netMram.time = { role := role.toNat, domain := domain.toNat, priority1 := priority1.toNat, priority2 := priority2.toNat,
                           clockClass := clockClass.toNat, accuracy := accuracy.toNat, logSync := logSync.toInt, ports := ports.toNat } ∧
        (∀ p, p < 4 → (t.ethCfg p).asymmetry = (asymmetry.getD p 0).toInt) ∧ (role = 2 → t.clk.mode = 3) ∧ t.mem = s.mem ∧ t.seq = s.seq) ∧
    (kcpReady 0x0445 0 c s = true → ∃ r : List Byte, r.length = 40 ∧ exec (.netTimeQuery c) s = .next (kcpOk 0x0445 c s s r)) ∧
    (∀ (slot len : Byte) (cak ckn : List Byte), kcpReady 0x0447 0 c s = true → overUdp c = false → slot.toNat ≤ 3 → 1 ≤ len.toNat → len.toNat ≤ 12 →
      (∃ t, exec (.netMacsecKey c slot 0 len cak ckn) s = .next t ∧
        tabGet t.netMram.keys slot.toNat = { present := true, ckn := ckn.take len.toNat, cak := fitBytes 32 cak } ∧ t.mem = s.mem ∧ t.seq = s.seq) ∧
      ∃ t, exec (.netMacsecKey c slot 1 len cak ckn) s = .next t ∧ (tabGet t.netMram.keys slot.toNat).present = false ∧ t.mem = s.mem ∧ t.seq = s.seq) ∧
    ∀ (entry ports history : Byte) (mac : BitVec 48) (vlan timeout : Half), kcpReady 0x0448 0 c s = true →
      exec (.netCbCfg c entry 1 ports history mac vlan timeout) s = .next (kcpOk 0x0448 c s
        ((s.modNetMram fun n => { n with cb := tabSet n.cb entry.toNat {} }).modNet fun n => { n with cb := tabErase n.cb entry.toNat }) []) ∧
      (ports.toNat ≤ 15 → ((List.range 4).filter fun p => ports.getLsbD p).length = 2 → 2 ≤ history.toNat → history.toNat ≤ 32 →
        vlan.toNat ≤ 4095 → 10 ≤ timeout.toNat → timeout.toNat ≤ 1000 →
        ∀ e : CbEntry,
          e = { valid := true, ports := ports.toNat, history := history.toNat, mac := mac.toNat, vlan := vlan.toNat, timeout := timeout.toNat } →
          exec (.netCbCfg c entry 0 ports history mac vlan timeout) s = .next (kcpOk 0x0448 c s
            ((s.modNetMram fun n => { n with cb := tabSet n.cb entry.toNat e }).modNet fun n => { n with cb := tabErase n.cb entry.toNat }) []))

/-- A rate change preserves a queue's debt, and a closed queue sends nothing. A rate of 0 closes a queue, an open one's
debt becoming what its NET lies ahead at its old rate (a closed queue that is closed again keeps its debt: the model's
reading of R366's preserved debt, log 25); a closed queue reopens with NET the debt's time ahead of now at the new
rate; an open queue whose NET lies ahead has it scaled by the rates; one whose NET does not keeps it. Its frames stay.
A closed queue is never eligible, and whatever the MAC selects, its frames wait in order. Concludes exec = next
(completion) for: macSelectFrame. [R366, R365] -/
def Obligations.RateChangesKeepTheDebt : Prop :=
  (∀ (x : NetQueue) (now rate burst : Nat), (x.setRate now rate burst).frames = x.frames ∧ (x.setRate now rate burst).rate = rate ∧
    (x.setRate now rate burst).burst = burst ∧ ((x.setRate now rate burst).closed = true ↔ rate = 0) ∧
    (rate = 0 → (x.setRate now rate burst).debt = if x.closed then x.debt else (x.net - now) * x.rate) ∧
    (rate ≠ 0 → x.closed = true → (x.setRate now rate burst).net = now + ceilDiv x.debt rate) ∧
    (rate ≠ 0 → x.closed = false → now < x.net → (x.setRate now rate burst).net = now + ceilDiv ((x.net - now) * x.rate) rate) ∧
    (rate ≠ 0 → x.closed = false → x.net ≤ now → (x.setRate now rate burst).net = x.net)) ∧
  (∀ (x : NetQueue) (q now l : Nat), x.closed = true → x.eligible q now l = false) ∧
  ∀ (p : Fin 4) (q : Nat) (s : State), (s.queue p q).closed = true →
    ∃ t, exec (.macSelectFrame p) s = .next t ∧ ∃ l, (t.queue p q).frames = (s.queue p q).frames ++ l

/-- Doorbells, descriptors, requests, completions and register writes of the DMA engine. With BAR0 open and the channel
granted: a doorbell within the ring sets PROD, and an idle running channel takes its next good descriptor from host
memory; CFG takes its enable and priority, and size, host and owner where it may; an abort ends the current descriptor
with status 3 and disables; a resume clears error. A software request or, while the pins are sampled, a qualified DREQ
edge counts one request for each channel that names the line, a short pulse is counted. A request moves one burst of a
fill to host memory. A descriptor whose data has moved, or an unpaced fill, ends with status 0, is counted and posted.
A queue's CONS and CFG are written by a function that may. Concludes exec = next (completion) for: dmaDoorbell,
dmaChCfgWrite, dmaChAbort, dmaChResume, dmaSwreq, dmaCqConsWrite, dmaCqCfgWrite, dreqEdge, dmaRequest, dmaDescDone.
[R386, R388, R389, R390, R391, R392, R394, R396, R397] -/
def Obligations.DmaChannelsMoveAndComplete : Prop :=
  ∀ s : State,
    (∀ fn : Fin 16, s.barOpen fn = true →
      (∀ (c : Fin 32) (m : HostMem), s.hasDma fn c = true →
        (∀ value : Word, (value.setWidth 17 - (s.ch c).cons).toNat ≤ (s.ch c).size →
          ∃ t, exec (.dmaDoorbell fn c value m) s = .next t ∧ (t.ch c).prod = value.setWidth 17 ∧ t.truss = s.truss ∧
            (∀ b, s.dmaRuns c = true → (s.ch c).current = none → (s.ch c).held = none → (s.ch c).cons ≠ value.setWidth 17 → (s.ch c).host = true →
              s.fnReach (s.ch c).owner = true → hostBytes m ((s.ch c).base.toNat + 64 * ((s.ch c).cons.toNat % (s.ch c).size)) 64 = some b →
              s.bgAdvance.descBad (s.ch c).owner (readDesc b) = false →
              (t.ch c).current = some (readDesc b) ∧ (t.ch c).moved = 0 ∧ (t.ch c).requests = 0 ∧ t.mem.bytes = s.mem.bytes ∧ t.seq = s.seq)) ∧
        (∀ value : Word, ∃ t, exec (.dmaChCfgWrite fn c value m) s = .next t ∧ (t.ch c).enable = value.getLsbD 0 ∧
          (t.ch c).prio = value.extractLsb' 6 2 ∧ (t.ch c).log2Size = (if (s.ch c).enable then (s.ch c).log2Size else value.extractLsb' 1 4) ∧
          (t.ch c).host = (if (s.ch c).enable then (s.ch c).host else value.getLsbD 5) ∧
          (t.ch c).owner = (if value.getLsbD 0 && !(s.ch c).enable then fn.val else (s.ch c).owner) ∧ t.truss = s.truss) ∧
        (s.flt.safe = false → ∃ t, exec (.dmaChAbort fn c) s = .next t ∧ (t.ch c).enable = false ∧ (t.ch c).current = none ∧
          ((s.ch c).current ≠ none → (t.ch c).lastStatus = 3 ∧ (t.ch c).cons = (s.ch c).cons + 1) ∧ t.truss = s.truss ∧ t.seq = s.seq) ∧
        ((s.ch c).error = true → (s.ch c).cons = (s.ch c).prod →
          exec (.dmaChResume fn c m) s = .next ((s.count 199).modCh c fun x => { x with error := false }).driveErrn)) ∧
      (∀ (value : Half) (i : Fin 16) (c : Fin 32) (d : Desc), s.hasFn fn = true → value.getLsbD i = true → (s.ch c).current = some d → d.line = 24 + i →
        (s.ch c).enable = true → (s.ch c).safe = false → (s.ch c).error = false → (s.ch c).requests ≠ 255 →
        ∃ t, exec (.dmaSwreq fn value) s = .next t ∧ (t.ch c).requests = (s.ch c).requests + 1 ∧ t.mem = s.mem ∧ t.seq = s.seq) ∧
      ∀ (q : Fin 8) (value : Word) (m : HostMem), s.mayCq fn q = true →
        (((s.cq q).prod - value.setWidth 17).toNat ≤ (s.cq q).size →
          ∃ t, exec (.dmaCqConsWrite fn q value m) s = .next t ∧ (t.cq q).cons = value.setWidth 17 ∧ t.truss = s.truss) ∧
        ((s.cq q).size < ((s.cq q).prod - value.setWidth 17).toNat → exec (.dmaCqConsWrite fn q value m) s = .next (s.count 199).driveErrn) ∧
        ∃ t, exec (.dmaCqCfgWrite fn q value m) s = .next t ∧ (t.cq q).enable = value.getLsbD 0 ∧
          (t.cq q).log2Size = (if (s.cq q).enable then (s.cq q).log2Size else value.extractLsb' 1 5) ∧
          (t.cq q).host = (if (s.cq q).enable then (s.cq q).host else value.getLsbD 6) ∧ t.truss = s.truss) ∧
    (s.flt.safe = false → s.boot.phase = .running → (s.pll 9).gated = false → ∀ (line : Fin 4) (levels : BitVec 4),
      (∀ (c : Fin 32) (d : Desc), (s.ch c).current = some d → d.line = line → (s.ch c).enable = true → (s.ch c).safe = false → (s.ch c).error = false →
        (s.ch c).requests ≠ 255 → ∃ t, exec (.dreqEdge line true levels) s = .next t ∧ (t.ch c).requests = (s.ch c).requests + 1 ∧
          t.dma.dreq = levels ∧ t.mem = s.mem ∧ t.seq = s.seq) ∧
      ∃ t, exec (.dreqEdge line false levels) s = .next t ∧ t.dma = { s.dma with dreq := levels, dreqShort := satInc s.dma.dreqShort } ∧
        t.mem = s.mem ∧ t.seq = s.seq) ∧
    ∀ (c : Fin 32) (d : Desc) (m : HostMem), (s.ch c).current = some d → s.dmaRuns c = true →
      (∀ line : Fin 64, d.line = line → (s.ch c).requests ≠ 0 → d.op = 1 → d.dstHost = true → d.lines = 1 →
        (s.ch c).moved + d.burstBytes ≤ d.bytes → s.fnReach (s.ch c).owner = true →
        (∀ (j : Fin 32) (e : Desc), j ≠ c → (s.ch j).current = some e → e.line = line → (s.ch j).requests = 0) →
        ∃ t, exec (.dmaRequest line m) s = .next t ∧ (t.ch c).moved = (s.ch c).moved + d.burstBytes ∧ (t.ch c).requests = (s.ch c).requests - 1 ∧
          Out.hostWrite (d.dst + (s.ch c).moved) ((List.range d.burstBytes).map fun k => d.pattern.getD (((s.ch c).moved + k) % 8) 0) ∈ t.out ∧
          t.mem = s.mem ∧ t.seq = s.seq) ∧
      (((s.ch c).prod = (s.ch c).cons + 1) →
        ((d.line ≠ 0xFF ∧ (s.ch c).moved = d.total) ∨
          (d.line = 0xFF ∧ d.op = 1 ∧ d.dstHost = true ∧ d.lines = 1 ∧ (s.ch c).moved = 0 ∧ s.fnReach (s.ch c).owner = true)) →
        ∃ t, exec (.dmaDescDone c m) s = .next t ∧ (t.ch c).current = none ∧ (t.ch c).lastStatus = 0 ∧ (t.ch c).cons = (s.ch c).cons + 1 ∧
          (t.ch c).completed = satInc (s.ch c).completed ∧ t.truss = s.truss ∧ t.seq = s.seq ∧
          (d.post = true → d.queue < 8 → (s.cq d.queue).owner = (s.ch c).owner → (s.cq d.queue).enable = true → (s.cq d.queue).full = false →
            (t.cq d.queue).prod = (s.cq d.queue).prod + 1 ∧ (t.cq d.queue).count = (s.cq d.queue).count + 1))

/-- The end of a writeback frame, and the ingest, writeback and DMA commands. A frame of a writeback engine that has ended
whole is counted as complete under its frame number, one that is not as incomplete. The queries report; ING_CFG stores
a ring's next depth and its queue; WB_SET_TARGET of valid targets waits for the group's first usable sill; DMA_CQ_CFG
gives a disabled queue its owner; DMA_REQ_MAP maps a line. Concludes exec = next (completion) for: wbFrameDone,
ingCfg, ingQuery, wbQuery, wbSetTarget, dmaCqCfg, dmaReqMap, dmaQuery. [R375, R383, R384, R393, R401] -/
def Obligations.IngestWritebackAndDmaCommands : Prop :=
  (∀ (e : Fin 4) (s : State), s.flt.safe = false → (s.wb e).busy = true → (s.wb e).ended = true → (s.wb e).target ≠ 0 →
    ((s.wb e).bad = false → ∃ t, exec (.wbFrameDone e) s = .next t ∧ (t.wb e).busy = false ∧ (t.wb e).target = 0 ∧
      (t.wb e).complete = satInc (s.wb e).complete ∧ (t.wb e).count = (s.wb e).count + 1 ∧ (t.wb e).lastN = (s.wb e).frameN ∧ t.truss = s.truss ∧
      t.seq = s.seq) ∧
    ((s.wb e).bad = true → ∃ t, exec (.wbFrameDone e) s = .next t ∧ (t.wb e).busy = false ∧ (t.wb e).target = 0 ∧
      (t.wb e).incomplete = satInc (s.wb e).incomplete ∧ (t.wb e).complete = (s.wb e).complete ∧ (t.wb e).count = (s.wb e).count ∧ t.truss = s.truss)) ∧
  ∀ (c : KcpCtx) (s : State),
    (∀ source depth queue : Byte, kcpReady 0x0500 0 c s = true → 3 ≤ depth.toNat → depth.toNat ≤ 8 → queue.toNat ≤ 7 ∨ queue = 0xFF →
      exec (.ingCfg c source depth queue) s = .next (kcpOk 0x0500 c s (s.modIng source.toNat fun x =>
        { x with depthNext := depth.toNat, queue := if queue = 0xFF then 0 else queue.toNat + 1 }) [])) ∧
    (∀ source : Byte, kcpReady 0x0501 0 c s = true →
      ∃ r : List Byte, r.length = 44 ∧ exec (.ingQuery c source) s = .next (kcpOk 0x0501 c s s r)) ∧
    (∀ (engine : Byte) (g o : Nat) (t : Truss), engine.toNat ≤ 3 → s.wbOutput engine.toNat = some (g, t, o) → s.hasGroup (s.kcpFn c) g = true →
      (kcpReady 0x0511 0 c s = true → ∃ r : List Byte, r.length = 40 ∧ exec (.wbQuery c engine) s = .next (kcpOk 0x0511 c s s r)) ∧
      ∀ (count queue : Byte) (handles : List Half) (d : Deferred), kcpReady 0x0510 0 c s = true → 2 ≤ count.toNat → count.toNat ≤ 8 →
        queue.toNat ≤ 7 ∨ queue = 0xFF → s.wbTargetBad (s.kcpFn c) t (t.output o) ((handles.take count.toNat).map (·.toNat)) = none →
        d = { group := g, wait := s.usableWait g, fn := s.kcpFn c,
              op := .target engine.toNat (if queue = 0xFF then 0 else queue.toNat + 1) ((handles.take count.toNat).map (·.toNat)) } →
        exec (.wbSetTarget c engine count queue handles) s =
          .next (kcpOk 0x0510 c s (s.modSeq fun q => { q with deferred := q.deferred ++ [d] }) [])) ∧
    (∀ queue owner : Byte, kcpReady 0x0520 0 c s = true → queue.toNat ≤ 7 → owner.toNat ≤ 15 → (s.cq queue.toNat).enable = false →
      exec (.dmaCqCfg c queue owner) s = .next (kcpOk 0x0520 c s (s.modCq queue.toNat fun x => { x with owner := owner.toNat }) [])) ∧
    (∀ (line : Byte) (source : Half), kcpReady 0x0521 0 c s = true → 40 ≤ line.toNat → line.toNat ≤ 55 → source = 0xFFFF ∨ source.toNat ≤ 255 →
      exec (.dmaReqMap c line source) s = .next (kcpOk 0x0521 c s
        (s.modDma fun d => { d with reqMap := tabSet d.reqMap line.toNat (if source = 0xFFFF then 0 else source.toNat + 1) }) [])) ∧
    ∀ channel : Byte, kcpReady 0x0522 0 c s = true → channel.toNat ≤ 31 → s.hasDma (s.kcpFn c) channel.toNat = true →
      ∃ r : List Byte, r.length = 20 ∧ exec (.dmaQuery c channel) s = .next (kcpOk 0x0522 c s s r)

/-- EMERG_N, the laying of a message, persisted fields and the service commands. While firmware runs, EMERG_N recognised
as asserted raises its message unless it is disabled, empty or the device is safe, and released clears that raise. A
laying ends with the message laid; a persisted text that has waited is written. The commands: a field is defined or
erased; its buffer is set and, on request, committed at the first usable frame; a sound character map is loaded;
mosaic settings wait for the first usable sill; a message is written; a raise is the most recent of its origin, or is
cleared, or all but EMERG_N's are; EMERG_N is configured; the queries report. Concludes exec = next (completion) for:
emergNAssert, emergNRelease, bulletinLaid, fieldPersistWrite, svcFieldDefine, svcFieldSet, svcFieldQuery,
svcCharmapLoad, svcMosaicQuery, svcMosaicSet, svcMsgSet, svcBulletin, svcBulletinQuery, svcEmergCfg. [R402, R404,
R405, R406, R408, R411, R412, R413, R414, R419, R496] -/
def Obligations.FieldsMosaicsAndBulletin : Prop :=
  (∀ s : State,
    (s.pins.emergLow = false → s.boot.phase = .running → ∃ t, exec .emergNAssert s = .next t ∧ t.pins.emergLow = true ∧ t.svc.emerg = true ∧
      t.mem = s.mem ∧ t.truss = s.truss ∧
      (s.flt.safe = false → s.svcMram.emergEnable = true → (s.message s.svcMram.emergMessage).text ≠ [] →
        t.svc.raises = { origin := .emerg, message := s.svcMram.emergMessage } :: s.svc.raises.filter fun x => x.origin != .emerg)) ∧
    (s.pins.emergLow = true → s.boot.phase = .running → ∃ t, exec .emergNRelease s = .next t ∧ t.pins.emergLow = false ∧ t.svc.emerg = false ∧
      t.svc.raises = (s.svc.raises.filter fun x => !(x.origin == .emerg)) ∧ t.mem = s.mem ∧ t.truss = s.truss) ∧
    (∀ ns, s.svc.laying ≠ 0 → s.seqStopped = false → ∃ t, exec (.bulletinLaid ns) s = .next t ∧ t.svc.laying = 0 ∧ t.svc.laid = s.svc.laying ∧
      t.svc.raises = s.svc.raises ∧ t.truss = s.truss) ∧
    (∀ (field : BitVec 11) (text : List Byte), (s.field field.toNat).persist = some text →
      ∃ t, exec (.fieldPersistWrite field) s = .next t ∧ tabGet t.svcMram.texts field.toNat = text ∧ (t.field field.toNat).persist = none ∧
        t.mem = s.mem ∧ t.truss = s.truss ∧ t.seq = s.seq)) ∧
  ∀ (c : KcpCtx) (s : State),
    (∀ (field slot col row cols rows : Half) (just flags map fg bg : Byte), kcpReady 0x0600 0 c s = true → field.toNat ≤ 2047 →
      (slot = 0xFFFF → exec (.svcFieldDefine c field slot col row cols rows just flags map fg bg) s = .next (kcpOk 0x0600 c s
        ((s.modSvcMram fun m => { m with fields := tabErase m.fields field.toNat, texts := tabErase m.texts field.toNat }).modSvc fun v =>
          { v with fields := tabErase v.fields field.toNat }) [])) ∧
      (slot.toNat ≤ 8191 → just.toNat ≤ 2 → map.toNat ≤ 15 → fg.toNat ≤ 15 → bg.toNat ≤ 15 → ∀ d : FieldDef,
        d = { defined := true, slot := slot.toNat, col := col.toNat, row := row.toNat, cols := cols.toNat, rows := rows.toNat, just := just.toNat,
              flags := flags &&& 3, map := map.toNat, fg := fg.toNat, bg := bg.toNat } →
        exec (.svcFieldDefine c field slot col row cols rows just flags map fg bg) s = .next (kcpOk 0x0600 c s
          (s.modSvcMram fun m => { m with fields := tabSet m.fields field.toNat d }) []))) ∧
    (∀ (field : Half) (length : Byte) (text : List Byte) (g : Nat) (e : TSlot) (d : FieldDef), kcpReady 0x0601 length.toNat c s = true →
      field.toNat ≤ 2047 → d = s.fieldDef field.toNat → s.hasSlot (s.kcpFn c) d.slot = true → length.toNat ≤ 40 → s.fieldLive d = some (g, e) →
      exec (.svcFieldSet c field 0 0 0 0 length text) s = .next (kcpOk 0x0601 c s
        (s.modField field.toNat fun x => { x with buf := fitBytes length.toNat text }) (zeros 4)) ∧
      ((s.cellMap e).isSome = true → ∃ t, exec (.svcFieldSet c field 0 1 0 0 length text) s = .next t ∧
        (t.field field.toNat).buf = fitBytes length.toNat text ∧ (t.field field.toNat).frame = s.frameAfter g (s.usableWait g) ∧
        (t.field field.toNat).commits = satInc (s.field field.toNat).commits ∧ t.truss = s.truss)) ∧
    (∀ field : Half, kcpReady 0x0602 0 c s = true → field.toNat ≤ 2047 →
      ∃ r : List Byte, r.length = 28 ∧ exec (.svcFieldQuery c field) s = .next (kcpOk 0x0602 c s s r)) ∧
    (∀ (map : Byte) (address : Long) (h b : List Byte) (s1 s2 : State), kcpReady 0x0608 0 c s = true → map.toNat ≤ 15 →
      s.memMapped address.toNat 16 = true → s.memLoad 157 address.toNat 16 = (some h, s1) → u h 0 4 = 0x4D434D47 → 1 ≤ u h 4 4 → u h 4 4 ≤ 65536 →
      s1.memMapped address.toNat (16 + 8 * u h 4 4) = true → s1.memLoad 157 address.toNat (16 + 8 * u h 4 4) = (some b, s2) →
      charMapBad b (u h 4 4) = none →
      exec (.svcCharmapLoad c map address) s = .next (kcpOk 0x0608 c s
        (s2.modSvc fun v => { v with maps := tabSet v.maps map.toNat (charMapOf b) }) (leBytes 4 (u h 4 4)))) ∧
    (∀ (slot : Half) (g : Nat) (t : Truss) (e : TSlot), s.hasSlot (s.kcpFn c) slot.toNat = true → s.slotEntry slot.toNat = some (g, t, e) → e.type = 3 →
      (kcpReady 0x0611 0 c s = true → ∃ r : List Byte, r.length = 20 ∧ exec (.svcMosaicQuery c slot) s = .next (kcpOk 0x0611 c s s r)) ∧
      ∀ (m : Half) (width : Byte) (colour : Word) (p0 p1 : Half), kcpReady 0x0610 0 c s = true → 1 ≤ width.toNat → width.toNat ≤ 16 →
        s.patternBad (s.kcpFn c) e p0.toNat = false → s.patternBad (s.kcpFn c) e p1.toNat = false →
        exec (.svcMosaicSet c slot m width colour p0 p1) s = .next (kcpOk 0x0610 c s (s.defer g (s.kcpFn c) (.mosaic e.slot
          { given := true, m := m.toNat, width := width.toNat, colour := colour, pattern0 := p0.toNat, pattern1 := p1.toNat })) [])) ∧
    (∀ (message op map fg bg prio length : Byte) (text new : List Byte), kcpReady 0x0620 length.toNat c s = true → message.toNat ≤ 15 →
      (message.toNat < 8 → s.kcpFn c = 0) → op.toNat ≤ 1 → map.toNat ≤ 15 → fg.toNat ≤ 15 → bg.toNat ≤ 15 → prio.toNat ≤ 3 → length.toNat ≤ 36 →
      new = (if op = 1 then (s.message message.toNat).text else []) ++ fitBytes length.toNat text → new.length ≤ 160 →
      ∃ t, exec (.svcMsgSet c message op map fg bg prio length text) s = .next t ∧
        t.message message.toNat = { text := new, map := map.toNat, fg := fg.toNat, bg := bg.toNat, prio := prio.toNat } ∧
        (∀ k, k ≠ message.toNat → t.message k = s.message k) ∧ t.svc.raises = s.svc.raises ∧ t.mem = s.mem ∧ t.truss = s.truss) ∧
    (∀ message : Byte, kcpReady 0x0621 0 c s = true →
      (message.toNat ≤ 15 → (s.message message.toNat).text ≠ [] →
        (∃ r : List Byte, r.length = 2 ∧ exec (.svcBulletin c 0 message) s =
          .next (kcpOk 0x0621 c s (raiseBulletin { origin := s.raiseOrigin c, message := message.toNat } s) r)) ∧
        (raiseBulletin { origin := s.raiseOrigin c, message := message.toNat } s).svc.raises =
          { origin := s.raiseOrigin c, message := message.toNat } :: s.svc.raises.filter fun x => x.origin != s.raiseOrigin c) ∧
      (∃ t, exec (.svcBulletin c 1 message) s = .next t ∧ t.svc.raises = (s.svc.raises.filter fun x => !(x.origin == s.raiseOrigin c)) ∧
        t.mem = s.mem ∧ t.truss = s.truss) ∧
      (s.kcpFn c = 0 → ∃ t, exec (.svcBulletin c 2 message) s = .next t ∧ t.svc.raises = (s.svc.raises.filter fun x => x.origin == .emerg) ∧
        t.mem = s.mem ∧ t.truss = s.truss)) ∧
    (kcpReady 0x0622 0 c s = true → ∃ (u : State) (r : List Byte), r.length = 16 ∧ (u = s ∨ u = { s with free := s.free + 1 }) ∧
      exec (.svcBulletinQuery c) s = .next (kcpOk 0x0622 c s u r)) ∧
    ∀ message enable : Byte, kcpReady 0x0623 0 c s = true → message.toNat ≤ 15 → enable.toNat ≤ 1 →
      exec (.svcEmergCfg c message enable) s = .next (kcpOk 0x0623 c s
        (s.modSvcMram fun m => { m with emergMessage := message.toNat, emergEnable := enable == 1 }) [])

/-- A round, the accesses it applies, and the interrupt commands. A round takes every waiting access and every sampled
edge. With no access waiting ahead of it: a core's claim of an offered source makes it active for that core and clears
its latch, an empty one is counted; a core's or a function's completion of a source active for it ends that (one that
is not active for the core is spurious). A core's enable, a function's masks for its granted sources, and a granted
software raise take effect in the round; any other software raise is denied. The commands of a granted source or
target set what they name, or report. Concludes exec = next (completion) for: intcRound, intcClaim, intcComplete,
intcCoreCtrlWrite, intcHostEoi, intcHostSwset, intcHostMaskWrite, intcSetSource, intcQuerySource, intcQueryTarget.
[R420, R421, R422, R423, R425, R427, R430, R431, R432, R434] -/
def Obligations.InterruptRoundsAndAccesses : Prop :=
  (∀ s : State,
    (∃ t, exec .intcRound s = .next t ∧ t.intc.accesses = [] ∧
      (∀ x, (t.intSrc x).rose = false ∧ (t.intSrc x).fell = false ∧ (t.intSrc x).events = 0) ∧ t.mem = s.mem ∧ t.truss = s.truss ∧ t.seq = s.seq) ∧
    (∀ core : Fin 4, s.intc.accesses = [] →
      (∀ x, (s.intTgt core).offer = x → x ≠ 0 → ∃ t, exec (.intcClaim core) s = .next t ∧ (t.intSrc x).int.active = core + 1 ∧
        (t.intSrc x).int.latch = false ∧ (t.intTgt core).claims = satInc (s.intTgt core).claims ∧ Out.claimed core x ∈ t.out ∧ t.mem = s.mem ∧
        t.seq = s.seq) ∧
      ((s.intTgt core).offer = 0 → ∃ t, exec (.intcClaim core) s = .next t ∧ (t.intTgt core).empty = satInc (s.intTgt core).empty ∧
        Out.claimed core 0 ∈ t.out ∧ t.mem = s.mem ∧ t.seq = s.seq) ∧
      ∀ source : BitVec 10,
        ((s.intSrc source.toNat).int.active = core + 1 → ∃ t, exec (.intcComplete core source) s = .next t ∧
          (t.intSrc source.toNat).int.active = 0 ∧ (t.intTgt core).spurious = (s.intTgt core).spurious ∧ t.mem = s.mem ∧ t.seq = s.seq) ∧
        ((s.intSrc source.toNat).int.active ≠ core + 1 → ∃ t, exec (.intcComplete core source) s = .next t ∧
          (t.intTgt core).spurious = satInc (s.intTgt core).spurious ∧ t.mem = s.mem ∧ t.seq = s.seq)) ∧
    (∀ (core : Fin 4) (enable : Bool) (settings : List IntSetting), ∃ t, exec (.intcCoreCtrlWrite core enable settings) s = .next t ∧
      (t.intTgt core).enable = enable ∧ t.mem = s.mem ∧ t.seq = s.seq) ∧
    ∀ fn : Fin 16, s.barOpen fn = true →
      (∀ (value : Word) (x : Nat), x = value.toNat % 1024 → s.intc.accesses = [] → (s.intSrc x).host.active = 4 + fn + 1 →
        intEdges x (s.intSrc x) = 0 → intPending x (s.intSrc x) (s.intSrc x).host = false →
        ∃ t, exec (.intcHostEoi fn value) s = .next t ∧ (t.intSrc x).host.active = 0 ∧ t.mem = s.mem ∧ t.seq = s.seq) ∧
      (∀ (value : Word) (x : Nat), x = value.toNat % 1024 →
        (504 ≤ x → x ≤ 535 → s.hasIrq fn x = true → ∃ t, exec (.intcHostSwset fn value) s = .next t ∧ (t.intSrc x).int.latch = true ∧
          ((t.intSrc x).host.latch = true ∨ (t.intSrc x).host.active ≠ 0) ∧ t.mem = s.mem ∧ t.seq = s.seq) ∧
        (x < 504 ∨ 535 < x ∨ s.hasIrq fn x = false → exec (.intcHostSwset fn value) s = .next ((s.count 199).denied fn).driveErrn)) ∧
      ∀ (k : Fin 20) (value : Word), ∃ t, exec (.intcHostMaskWrite fn k value) s = .next t ∧ t.mem = s.mem ∧ t.seq = s.seq ∧
        ∀ j, j < 32 → (s.irqGranted fn k).getLsbD j = true → (t.intSrc (32 * k + j)).host.masked = value.getLsbD j) ∧
  ∀ (c : KcpCtx) (s : State),
    (∀ (first count targets : Half) (sensing prio enable : Byte), kcpReady 0x0740 0 c s = true → s.kcpFn c = 0 → 1 ≤ first.toNat →
      first.toNat + count.toNat ≤ 536 → sensing.toNat ≤ 3 → prio.toNat ≤ 15 → enable.toNat ≤ 1 →
      (∀ (g : Fin 16) (x : Nat), targets.getLsbD g = true → first.toNat ≤ x → x < first.toNat + count.toNat → s.hasIrq g x = true) →
      ∃ t, exec (.intcSetSource c first count 15 sensing prio enable targets) s = .next t ∧ t.mem = s.mem ∧ t.seq = s.seq ∧
        ∀ x, first.toNat ≤ x → x < first.toNat + count.toNat → (t.intSrc x).host.prio.toNat = prio.toNat ∧ (t.intSrc x).host.targets = targets ∧
          (t.intSrc x).host.enable = (enable == 1) ∧ (intIsCond x = true → (t.intSrc x).sensing.toNat = sensing.toNat)) ∧
    (∀ source : Half, kcpReady 0x0741 0 c s = true → source.toNat ≤ 639 → s.hasIrq (s.kcpFn c) source.toNat = true →
      ∃ r : List Byte, r.length = 20 ∧ exec (.intcQuerySource c source) s = .next (kcpOk 0x0741 c s s r)) ∧
    ∀ target : Byte, kcpReady 0x0742 0 c s = true → target.toNat ≤ 19 → s.kcpFn c = 0 ∨ target.toNat = 4 + s.kcpFn c →
      ∃ r : List Byte, r.length = 48 ∧ exec (.intcQueryTarget c target) s = .next (kcpOk 0x0742 c s s r)

/-- An occurrence sets its source's bits, takes the next place of the ring, fences and makes safe; and the events of the
collector. A new occurrence of a source sets its live and cause bits, detail, time and count, fences its unit from
class 2 on and makes the device safe at class 4; with room it is the ring's last entry, its class and detail kept
under the next log number, and loads an empty first-fault record. A source held as it is makes none. A broken wire, a
cycle's one input, a core's watchdog and a force write are occurrences. A live bit that falls leaves its mark; what
the unit drives while a force holds the rails shows when a release returns them. A quiet period ends in recovery below
the K at its beginning, else in a lock. The oldest ring entry is mirrored to MRAM and written at its place of the log
region, every other byte reading as before; a pulse ends. A disagreement opens, is reported once, is late once, and
closes. Concludes exec = next (completion) for: faultOccurrence, brokenWire, faultLiveFall, faultCollectorCycle,
quietPeriodEnd, faultRingMirror, errnPulseEnd, coreWatchdogExpiry, disagreeOpen, disagree1ms, disagreeWindowEnd,
disagreeClose, fltForceAssert, fltForceBroken, fltForceRelease. [R435, R436, R438, R439, R441, R442, R443, R445, R448,
R449, R455, R459] -/
def Obligations.FaultsAreRecordedAndReactedTo : Prop :=
  ∀ s : State,
    (∀ (x : Fin 192) (d : Word) (o : Occ), o = (s.classify x d false false none).1 →
      (s.fltNew x false = true → ∃ t, exec (.faultOccurrence x d) s = .next t ∧ (t.fltSrc x).asserted = true ∧ (t.fltSrc x).cause = true ∧
        (t.fltSrc x).lastDetail = d ∧ (t.fltSrc x).lastTime = s.planTime ∧ (t.fltSrc x).occ = satInc (s.fltSrc x).occ ∧
        (2 ≤ o.cls → (fenceBit x).isSome = true → t.fenced x = true) ∧ (o.cls = 4 → t.flt.safe = true) ∧ t.truss = s.truss ∧
        (s.flt.ring.length < 64 → ∃ r : FltRec, t.flt.ring = s.flt.ring ++ [r] ∧ r.source = x.val ∧ r.cls = o.cls ∧ r.detail = d ∧
          r.logSeq = s.fltMram.logSeq ∧ t.fltMram.logSeq = s.fltMram.logSeq + 1 ∧
          (s.flt.first = none → s.flt.next = none → t.flt.first = some r))) ∧
      (s.fltNew x false = false → (s.fltSrc x).forced = false → exec (.faultOccurrence x d) s = .next s.driveErrn) ∧
      ((s.fltSrc x).forced = true → ∃ t, exec (.faultOccurrence x d) s = .next t ∧ (t.fltSrc x).own.isSome = true ∧
        (t.fltSrc x).occ = (s.fltSrc x).occ) ∧
      (s.fltNew x true = true → ∃ t, exec (.brokenWire x) s = .next t ∧ (t.fltSrc x).broken = true ∧ (t.fltSrc x).cause = true ∧
        (t.fltSrc x).lastDetail = BitVec.allOnes 32 ∧ (t.fltSrc x).occ = satInc (s.fltSrc x).occ ∧ t.mem = s.mem ∧ t.truss = s.truss) ∧
      ((s.fltSrc x).live = true → (s.fltSrc x).forced = false → ∃ t, exec (.faultLiveFall x) s = .next t ∧ (t.fltSrc x).live = false ∧
        (t.fltSrc x).trans = ((s.fltSrc x).trans || (s.fltSrc x).cause) ∧ (t.fltSrc x).cause = (s.fltSrc x).cause ∧ t.mem = s.mem ∧ t.seq = s.seq) ∧
      ((s.fltSrc x).forced = true → exec (.faultLiveFall x) s = .next (s.modFltSrc x fun c => { c with own := none }).driveErrn) ∧
      (s.fltNew x false = true → ∃ t, exec (.faultCollectorCycle [⟨x, d, false⟩] false) s = .next t ∧ t.clk.aon = s.clk.aon + 20 ∧
        t.flt.errnPin = false ∧ (t.fltSrc x).cause = true ∧ (t.fltSrc x).lastDetail = d ∧ (t.fltSrc x).occ = satInc (s.fltSrc x).occ) ∧
      ∀ e : Nat, (s.fltSrc (unitRep x)).quietEnd = e + 1 → (fenceBit x).isSome = true →
        ((s.untilAon e).fltRecoveries (unitRep x) < (s.fltSrc (unitRep x)).quietK → ∃ t, exec (.quietPeriodEnd x) s = .next t ∧ t.fenced x = false ∧
          (t.fltSrc (unitRep x)).quietEnd = 0 ∧ (t.fltSrc (unitRep x)).recoveredAt = t.now :: (s.fltSrc (unitRep x)).recoveredAt) ∧
        ((s.fltSrc (unitRep x)).quietK ≤ (s.untilAon e).fltRecoveries (unitRep x) → ∃ t, exec (.quietPeriodEnd x) s = .next t ∧ t.fltLocked x = true ∧
          t.fenced x = s.fenced x ∧ (t.fltSrc (unitRep x)).quietEnd = 0)) ∧
    (∀ (r : FltRec) (l : List FltRec), s.flt.ring = r :: l → (s.pll 9).gated = false →
      ∃ t, exec .faultRingMirror s = .next t ∧ t.flt = { s.flt with ring := l, mirror := s.flt.mirror + 1, regionBad := false } ∧
        t.fltMram = { s.fltMram with log := (r :: s.fltMram.log).take 32768 } ∧ t.truss = s.truss ∧ t.seq = s.seq ∧
        (s.flt.regionBad = false → t = (logCopy r ((s.modFlt fun c => { c with ring := l, mirror := c.mirror + 1, regionBad := false }).modFltMram
            fun c => { c with log := (r :: c.log).take 32768 })).driveErrn ∧
          ∀ a, (∀ m p, m ∈ s.storePorts → p = s.logBase m + 32 * (r.logSeq.toNat % 32768) → a < p ∨ p + 32 ≤ a) →
            tabGet t.mem.bytes a = tabGet s.mem.bytes a)) ∧
    (∀ e : Nat, s.flt.pulseEnd = e + 1 → exec .errnPulseEnd s = .next ((s.untilAon e).modFlt fun c => { c with pulseEnd := 0 }).driveErrn) ∧
    (∀ core : Fin 4, s.fltNew 186 false = true → ∃ t, exec (.coreWatchdogExpiry core) s = .next t ∧ (t.fltSrc 186).cause = true ∧
      (t.fltSrc 186).lastDetail = BitVec.ofNat 32 core ∧ t.mem = s.mem ∧ t.truss = s.truss) ∧
    (∀ (kind : Fin 10) (index : Half),
      (index.toNat < viewUnits kind → s.hwView kind index.toNat ≠ s.swView kind index.toNat → s.openOn kind index.toNat = none → ∀ d : Disagree,
        d = { kind := kind, index := index.toNat, hw := s.hwView kind index.toNat, fw := s.swView kind index.toNat,
              groups := s.viewGroups kind index.toNat, openedAt := s.now, openedPlan := s.clk.plan } →
        exec (.disagreeOpen kind index) s = .next ((s.modFlt fun c => { c with disagreements := c.disagreements ++ [d] }).count 435).driveErrn) ∧
      ∀ d, s.openOn kind index.toNat = some d →
        (d.reported = false → ∃ t, exec (.disagree1ms kind index) s = .next t ∧ t.openOn kind index.toNat = some { d with reported := true } ∧
          t.flt.disagreeEvents = satInc s.flt.disagreeEvents ∧ t.mem = s.mem ∧ t.seq = s.seq) ∧
        (∀ w, d.late = false → s.windowEnd d = some w → ∃ t, exec (.disagreeWindowEnd kind index) s = .next t ∧
          t.openOn kind index.toNat = some { d with late := true } ∧
          (s.fltNew 185 false = true → (t.fltSrc 185).lastDetail = BitVec.ofNat 32 (65536 * kind + index.toNat)) ∧ t.mem = s.mem ∧ t.truss = s.truss) ∧
        ∃ t, exec (.disagreeClose kind index) s = .next t ∧ t.openOn kind index.toNat = none ∧
          (kind.val < 8 → tabGet t.flt.fwView (65536 * kind + index.toNat) = s.hwView kind index.toNat) ∧ t.mem = s.mem ∧ t.seq = s.seq) ∧
    ∀ (fn : Fin 16) (value : Word) (x : Nat), s.barOpen fn = true → s.flt.testUnlocked = true → s.hasFltRead fn = true →
      x = (value &&& 0xFF).toNat → x ≤ 191 →
      (s.railsNew x false = true → ∃ t, exec (.fltForceAssert fn value) s = .next t ∧ (t.fltSrc x).cause = true ∧
        (t.fltSrc x).forced = (value.getLsbD 11 || (s.fltSrc x).forced) ∧ t.mem = s.mem ∧ t.truss = s.truss ∧
        ((s.fltSrc x).own = none → (t.fltSrc x).lastDetail = s.flt.forceDetail)) ∧
      (s.railsNew x true = true → ∃ t, exec (.fltForceBroken fn value) s = .next t ∧ (t.fltSrc x).cause = true ∧
        (t.fltSrc x).forced = (value.getLsbD 11 || (s.fltSrc x).forced) ∧ t.mem = s.mem ∧ t.truss = s.truss ∧
        ((s.fltSrc x).own = none → (t.fltSrc x).lastDetail = BitVec.allOnes 32)) ∧
      ∃ t, exec (.fltForceRelease fn value) s = .next t ∧ (t.fltSrc x).forced = false ∧ (t.fltSrc x).live = (s.fltSrc x).own.isSome ∧
        t.mem = s.mem ∧ t.truss = s.truss

/-- The fault commands, past the checks of R151, and the entry that FLT_ENTER_SAFE schedules. FLT_QUERY, FLT_LOG_READ and
FLT_SRC_QUERY report (a log in device memory is written there); FLT_ACK moves the next-fault record up, or clears the
cause and transient bits of what it names; the settings commands store what they name; FLT_UNFENCE of a unit whose
sources are quiet clears its fence and lock; a sound safe field is stored; a confirmed FLT_ENTER_SAFE is due 100 us
later, and then the device is safe. Concludes exec = next (completion) for: fltEnterSafeDue, fltQuery, fltSrcQuery,
fltLogRead, fltAck, fltSetSource, fltSetRecovery, fltUnfence, fltSetErrn, fltSetSafeField, fltEnterSafe. [R438, R442,
R449, R451, R453, R454, R463, R464] -/
def Obligations.FaultCommandsAnswer : Prop :=
  (∀ (e : Nat) (s : State), s.flt.enterSafeDue = e + 1 → s.fltNew 187 false = true → (s.fltCfg 187).minClass ≤ 4 →
    ∃ t, exec .fltEnterSafeDue s = .next t ∧ t.flt.safe = true ∧ t.flt.enterSafeDue = 0 ∧ (t.fltSrc 187).cause = true ∧ t.mem = s.mem ∧
      t.truss = s.truss) ∧
  ∀ (c : KcpCtx) (s : State),
    (s.hasFltRead (s.kcpFn c) = true →
      (kcpReady 0x0700 0 c s = true → ∃ r : List Byte, r.length = 48 ∧ exec (.fltQuery c) s = .next (kcpOk 0x0700 c s s r)) ∧
      (∀ source : Half, kcpReady 0x0709 0 c s = true → source.toNat ≤ 191 →
        ∃ r : List Byte, r.length = 28 ∧ exec (.fltSrcQuery c source) s = .next (kcpOk 0x0709 c s s r)) ∧
      ∀ (first : Word) (count : Half) (address : Long) (a b : FltRec) (rs : List FltRec), kcpReady 0x0701 0 c s = true →
        s.faultLog.head? = some b → s.faultLog.getLast? = some a → a.logSeq.toNat ≤ first.toNat → first.toNat ≤ b.logSeq.toNat →
        rs = logFrom s.faultLog first count.toNat →
        (count = 1 → exec (.fltLogRead c first count 0 address) s =
          .next (kcpOk 0x0701 c s s (rs.flatMap FltRec.bytes ++ leBytes 4 a.logSeq.toNat ++ leBytes 4 b.logSeq.toNat))) ∧
        (1 ≤ count.toNat → count.toNat ≤ 32768 → s.memMapped address.toNat (rs.flatMap FltRec.bytes).length = true →
          exec (.fltLogRead c first count 1 address) s =
            .next (kcpOk 0x0701 c s (s.memWrite address.toNat (rs.flatMap FltRec.bytes)) (leBytes 2 rs.length)))) ∧
    (kcpReady 0x0702 0 c s = true →
      (∀ first count : Half, ∃ t, exec (.fltAck c 0 first count) s = .next t ∧ t.flt.next = none ∧
        t.flt.first = (s.flt.next.map fun r => { r with flags := (r.flags ||| 1) &&& ~~~2 }) ∧ t.flt.ring = s.flt.ring ∧ t.mem = s.mem ∧ t.seq = s.seq) ∧
      (∀ first count : Half, first.toNat < 192 → first.toNat + count.toNat ≤ 192 → ∃ t, exec (.fltAck c 1 first count) s = .next t ∧
        (∀ x, first.toNat ≤ x → x < first.toNat + count.toNat → (t.fltSrc x).cause = false) ∧
        (∀ x, x < first.toNat ∨ first.toNat + count.toNat ≤ x → t.fltSrc x = s.fltSrc x) ∧ t.mem = s.mem ∧ t.seq = s.seq) ∧
      ∀ first count : Half, ∃ t, exec (.fltAck c 2 first count) s = .next t ∧ (∀ x, (t.fltSrc x).cause = false) ∧ t.mem = s.mem ∧ t.seq = s.seq) ∧
    (∀ (first count : Half) (minClass n ceiling : Byte) (w : Word) (g : FltCfg), kcpReady 0x0703 0 c s = true → first.toNat < 192 →
      first.toNat + count.toNat ≤ 192 → 182 < first.toNat ∨ first.toNat + count.toNat ≤ 175 → minClass.toNat ≤ 4 → 2 ≤ ceiling.toNat →
      ceiling.toNat ≤ 4 → 1 ≤ w.toNat → w.toNat ≤ 86400 → g = { minClass := minClass.toNat, n := n, w := w.toNat, ceiling := ceiling.toNat } →
      ∃ u : State, exec (.fltSetSource c first count minClass n ceiling w) s = .next (kcpOk 0x0703 c s u []) ∧
        (∀ x, first.toNat ≤ x → x < first.toNat + count.toNat → u.fltCfg x = g) ∧
        (∀ x, x < first.toNat ∨ first.toNat + count.toNat ≤ x → u.fltCfg x = s.fltCfg x) ∧
        u = { s with fltMram := { s.fltMram with cfg := u.fltMram.cfg } }) ∧
    (∀ (k : Byte) (q2 q3 : Half), kcpReady 0x0704 0 c s = true → 1 ≤ k.toNat → k.toNat ≤ 15 → 1 ≤ q2.toNat → q2.toNat ≤ 3600 → 1 ≤ q3.toNat →
      q3.toNat ≤ 3600 → exec (.fltSetRecovery c k q2 q3) s = .next (kcpOk 0x0704 c s
        (s.modFltMram fun m => { m with k := k.toNat, q2 := q2.toNat, q3 := q3.toNat }) [])) ∧
    (∀ source : Half, kcpReady 0x0705 0 c s = true → source.toNat ≤ 191 → (fenceBit source.toNat).isSome = true →
      (∀ y, y ∈ unitSources source.toNat → (s.fltSrc y).live = false) → (s.fltSrc (unitRep source.toNat)).quietClass < 4 →
      ∃ t, exec (.fltUnfence c source) s = .next t ∧ t.fenced source.toNat = false ∧ t.fltLocked source.toNat = false ∧
        (t.fltSrc (unitRep source.toNat)).quietEnd = 0 ∧ (t.fltSrc (unitRep source.toNat)).recoveredAt = []) ∧
    (∀ (pulseClass levelClass : Byte) (pulseUs : Half) (swLevel : Byte), kcpReady 0x0706 0 c s = true → pulseClass.toNat ≤ 7 → levelClass.toNat ≤ 7 →
      10 ≤ pulseUs.toNat → swLevel.toNat ≤ 1 →
      exec (.fltSetErrn c pulseClass levelClass pulseUs swLevel) s = .next (kcpOk 0x0706 c s ((s.modFltMram fun m =>
        { m with pulseClass := BitVec.ofNat 3 pulseClass.toNat, levelClass := BitVec.ofNat 3 levelClass.toNat, pulseUs := pulseUs }).modFlt fun f =>
          { f with swLevel := swLevel == 1 }) [])) ∧
    (∀ (address : Long) (length : Word) (bs : List Byte) (s1 : State), kcpReady 0x0707 0 c s = true → s.memMapped address.toNat length.toNat = true →
      20 ≤ length.toNat → length.toNat ≤ 32788 → s.memFetch address.toNat length.toNat = (some bs, s1) → safeFieldBad bs = none →
      exec (.fltSetSafeField c address length) s = .next (kcpOk 0x0707 c s (s1.modFltMram fun m => { m with safeField := bs }) [])) ∧
    (kcpReady 0x0708 0 c s = true → exec (.fltEnterSafe c 0x53414645) s = .next (kcpOk 0x0708 c s
      (s.modFlt fun f => { f with enterSafeDue := s.now + usNs 100 + 1 }) []))

/-- The update of the counters, their page, snapshots, bandwidth windows and the counter commands. While PLL8 runs an
update adds to each counter what it counted, modulo 2^40, or leaves what the last waiting write or clear gives it
(event 437, whose count is open, apart). A page read of a low word returns it and latches the high byte, a high-word
write stages, a low-word write commits. The PF triggers a snapshot and releases a bank; a finished copy becomes the
active bank. A bandwidth window that ends stores its sum and the higher peak, and starts anew. The commands report or
set what they name. Concludes exec = next (completion) for: pmuUpdate, pmuCntLoRead, pmuCntHiWrite, pmuCntLoWrite,
pmuSnapTakeBit, pmuSnapReleaseBit, snapshotDone, snapTimeLoRead, bwWindowEnd, pmuFcQuery, pmuFcSet, pmuSnapCfg,
pmuSnapTake, pmuSnapQuery, pmuBwQuery, pmuBwSet, pmuClear. [R465, R467, R468, R469, R475, R476, R477, R479, R480,
R482] -/
def Obligations.CountersCountAndSnapshot : Prop :=
  (∀ s : State,
    (s.planGated = false → ∃ t, exec .pmuUpdate s = .next t ∧ t.pmu.inc = [] ∧ t.pmu.ops = [] ∧ t.pmu.trig = 0 ∧ t.pmu.updated = t.clk.plan ∧
      (∀ c, c ≠ 437 → putFor s.pmu.ops c = none → tabGet s.pmu.inc c ≠ 0 →
        tabGet t.pmu.cnt c = (tabGet s.pmu.cnt c + tabGet s.pmu.inc c) % 2 ^ 40) ∧
      (∀ c v, c < 448 → putFor s.pmu.ops c = some v → tabGet t.pmu.cnt c = v) ∧ t.mem = s.mem ∧ t.seq = s.seq) ∧
    (∀ (fn : Fin 16) (user : Bool) (counter : BitVec 9), s.barOpen fn = true →
      (s.seesCounter fn user counter.toNat = true →
        (∃ t, exec (.pmuCntLoRead fn user counter true) s = .next t ∧ Out.readData fn (s.counter counter.toNat) false ∈ t.out ∧ t.mem = s.mem ∧
          t.seq = s.seq) ∧
        ((tabGet s.pmu.latch (pageKey fn user)).odd ≠ counter.toNat + 1 → ∃ t, exec (.pmuCntLoRead fn user counter false) s = .next t ∧
          Out.readData fn (s.counter counter.toNat % 2 ^ 32) false ∈ t.out ∧
          (tabGet t.pmu.latch (pageKey fn user)).hi = s.counter counter.toNat / 2 ^ 32 ∧
          (tabGet t.pmu.latch (pageKey fn user)).prev = counter.toNat + 1 ∧ t.mem = s.mem ∧ t.seq = s.seq)) ∧
      (s.writesCounter fn user counter.toNat = true →
        (∀ value : Word, ∃ t, exec (.pmuCntHiWrite fn user counter value) s = .next t ∧ tabGet t.pmu.staged fn = value.toNat % 256 ∧
          t.pmu.cnt = s.pmu.cnt ∧ t.mem = s.mem ∧ t.seq = s.seq) ∧
        ∀ value : Long,
          (∃ t, exec (.pmuCntLoWrite fn user counter true value) s = .next t ∧
            t.pmu.ops = s.pmu.ops ++ [.write counter.toNat (value.toNat % 2 ^ 40)] ∧ t.mem = s.mem ∧ t.seq = s.seq) ∧
          ∃ t, exec (.pmuCntLoWrite fn user counter false value) s = .next t ∧
            t.pmu.ops = s.pmu.ops ++ [.write counter.toNat (tabGet s.pmu.staged fn * 2 ^ 32 + value.toNat % 2 ^ 32)] ∧ tabGet t.pmu.staged fn = 0 ∧
            t.mem = s.mem ∧ t.seq = s.seq)) ∧
    (s.barOpen 0 = true →
      exec (.pmuSnapTakeBit 0) s = .next ((s.count 199).modPmu fun p => { p with trig := p.trig ||| 1 }).driveErrn ∧
      ∀ bank : Fin 2, exec (.pmuSnapReleaseBit 0 bank) s = .next ((s.count 199).modPmu fun p => { p with kept := putBit p.kept bank false }).driveErrn) ∧
    (∀ (ns : Nat) (x : Snap), s.pmu.copy = some x → ∃ t, exec (.snapshotDone ns) s = .next t ∧ t.pmu.copy = none ∧
      t.pmu.active = (x.number + 1) % 2 ∧ tabGet t.pmu.banks ((x.number + 1) % 2) = x ∧ t.mem = s.mem ∧ t.seq = s.seq) ∧
    (∀ (fn : Fin 16) (v : Nat), s.barOpen fn = true → v = (tabGet s.pmu.banks s.pmu.active).time →
      ∃ t, exec (.snapTimeLoRead fn) s = .next t ∧ Out.readData fn (v % 2 ^ 32) false ∈ t.out ∧
        tabGet t.pmu.timeHi fn = v / 2 ^ 32 % 2 ^ 32 + 1 ∧ t.mem = s.mem ∧ t.seq = s.seq) ∧
    ∀ (n : Fin 18) (x : BwSt), x = tabGet s.pmu.bw n → ∃ t, exec (.bwWindowEnd n) s = .next t ∧ (tabGet t.pmu.bw n).bytes = 0 ∧
      (tabGet t.pmu.bw n).since = s.bwEnd n ∧ (tabGet t.pmu.bw n).last = BitVec.ofNat 32 (x.bytes / 64) ∧
      (tabGet t.pmu.bw n).peak = (if x.peak.toNat < (BitVec.ofNat 32 (x.bytes / 64)).toNat then BitVec.ofNat 32 (x.bytes / 64) else x.peak) ∧
      t.mem = s.mem ∧ t.seq = s.seq) ∧
  ∀ (c : KcpCtx) (s : State),
    (∀ counter : Byte, counter.toNat ≤ 31 → s.hasCounter (s.kcpFn c) counter.toNat = true →
      (kcpReady 0x0801 0 c s = true → ∃ r : List Byte, r.length = 44 ∧ exec (.pmuFcQuery c counter) s = .next (kcpOk 0x0801 c s s r)) ∧
      ∀ (mode path direction cls master clear : Byte) (privilege : Word) (event : Half) (low high : Long), kcpReady 0x0800 0 c s = true →
        mode.toNat ≤ 2 → path.toNat ≤ 6 → direction.toNat ≤ 3 → cls.toNat ≤ 31 → masterOk master.toNat = true → clear.toNat ≤ 1 →
        privilege.toNat ≤ 0x1FFFF → low.toNat % 256 = 0 → high.toNat % 256 = 0 →
        ∀ x : FcSet, x.mode = mode.toNat → x.path = path.toNat → x.dir = direction.toNat → x.cls = cls.toNat → x.master = master.toNat →
        x.chain = false → x.priv = (if s.kcpFn c = 0 then privilege.toNat else 2 ^ s.kcpFn c) → x.event = event.toNat → x.lo = low.toNat →
        x.hi = high.toNat →
        ∃ t, exec (.pmuFcSet c counter mode path direction cls master 0 clear privilege event low high) s = .next t ∧
          (t.fc counter.toNat).next = some x ∧
          (t.fc counter.toNat).set = (s.fc counter.toNat).set ∧ t.mem = s.mem ∧ t.seq = s.seq) ∧
    (∀ (mask group cls hold : Byte) (period : Word), kcpReady 0x0810 0 c s = true → mask.toNat ≤ 15 → group.toNat ≤ 15 → cls.toNat ≤ 4 → hold.toNat ≤ 1 →
      (mask.getLsbD 2 = true → 15625 ≤ period.toNat ∧ period.toNat ≤ 156250000) → ∀ m : PmuMram,
      m = { s.pmuMram with mask := mask.toNat, group := group.toNat, cls := cls.toNat, hold := hold == 1, period := period.toNat } →
      exec (.pmuSnapCfg c mask group cls hold period) s = .next (kcpOk 0x0810 c s { s with pmuMram := m } [])) ∧
    (kcpReady 0x0811 0 c s = true → s.pmu.copy = none →
      exec (.pmuSnapTake c) s = .next (kcpOk 0x0811 c s (s.modPmu fun p => { p with trig := p.trig ||| 1 }) (leBytes 4 (s.pmu.snaps + 1)))) ∧
    (s.hasFltRead (s.kcpFn c) = true →
      (kcpReady 0x0812 0 c s = true → ∃ r : List Byte, r.length = 20 ∧ exec (.pmuSnapQuery c) s = .next (kcpOk 0x0812 c s s r)) ∧
      ∀ engine : Byte, kcpReady 0x0821 0 c s = true → engine.toNat ≤ 17 →
        ∃ r : List Byte, r.length = 28 ∧ exec (.pmuBwQuery c engine) s = .next (kcpOk 0x0821 c s s r)) ∧
    (∀ (engine k align cls clear : Byte) (threshold : Word), kcpReady 0x0820 0 c s = true → engine.toNat ≤ 17 → k.toNat ≤ 14 → align.toNat ≤ 1 →
      cls.toNat ≤ 31 → clear.toNat ≤ 1 → ∃ t, exec (.pmuBwSet c engine k align cls threshold clear) s = .next t ∧
        t.bwSet engine.toNat = { k := k.toNat, align := align == 1, cls := cls.toNat, threshold := threshold.toNat } ∧
        (tabGet t.pmu.bw engine.toNat).since = s.clk.plan ∧ (clear = 1 → (tabGet t.pmu.bw engine.toNat).peak = 0) ∧ t.mem = s.mem ∧ t.seq = s.seq) ∧
    ∀ mask : Byte, kcpReady 0x0830 0 c s = true → mask.toNat ≤ 15 → ∃ t, exec (.pmuClear c mask) s = .next t ∧ t.mem = s.mem ∧ t.seq = s.seq ∧
      t.pmu.ops = s.pmu.ops ++ (if mask.getLsbD 0 then [.clear false] else []) ++ (if mask.getLsbD 2 then [.clear true] else []) ∧
      (mask.getLsbD 1 = true → t.pmu.ovf = [] ∧ t.pmu.lost = [])

/-- Host recovery, image writes, tamper sensors and the trust commands. In host recovery the PF's go starts an
installation; one whose image the ROM accepts and flash takes is installed as image A and selected, one that cannot be
read ends with reason 1. An image write that passes its checks takes its region and is selected. A tamper pin, a
glitch of VDD_CORE and a temperature beyond the limits are seen, and the configured action erases the network keys. A
challenge lapses. The commands: attestation and identity go to device memory, a vendor-less first operator key is
installed and a signed record carried out, an image write starts, a counter rises to its new value, debug is unlocked
at the response's level, the tamper action is stored, the queries report. Concludes exec = next (completion) for:
idRcvGo, idRcvCfgReset, rcvInstallDone, imageWriteDone, tamperAssert, tamperRelease, supplyGlitch, temperatureAlarm,
debugChallengeLapse, secAttest, secIdentity, secKeyInstall, secKeyQuery, secImageWrite, secImageQuery,
secRollbackCommit, secDebugChallenge, secDebugUnlock, secTamperCfg. [R483, R486, R487, R488, R489, R490, R491, R492,
R493, R500] -/
def Obligations.TrustAndTamper : Prop :=
  (∀ s : State,
    (s.reached 0 = true → s.boot.phase = .recovery → s.sec.rcvState = 0 ∨ 4 ≤ s.sec.rcvState.toNat →
      exec (.idRcvGo 0) s = .next ((s.count 199).modSec fun x => { x with rcvState := 1, rcvReason := 0, rcvCfg := false }).driveErrn ∧
      exec (.idRcvCfgReset 0) s = .next ((s.count 199).modSec fun x => { x with rcvState := 1, rcvReason := 0, rcvCfg := true }).driveErrn) ∧
    (s.boot.phase = .recovery → s.sec.rcvState = 1 → s.fnReach 0 = true → (s.pll 9).gated = false →
      (∃ t, exec (.rcvInstallDone none true true) s = .next t ∧ t.sec.rcvState = 5 ∧ t.sec.rcvReason = 1 ∧ t.boot.imgA = s.boot.imgA ∧
        t.mem = s.mem ∧ t.truss = s.truss) ∧
      ∀ (img : List Byte) (sigOk : Bool), s.sec.rcvLen.toNat ≤ fwLimit → s.sec.rcvAddr.toNat % 64 = 0 →
        s.fwBad (fitBytes s.sec.rcvLen.toNat img) sigOk = none →
        ∃ t, exec (.rcvInstallDone (some img) sigOk true) s = .next t ∧ t.sec.rcvState = 4 ∧ t.boot.imgA = fwEntry (fitBytes s.sec.rcvLen.toNat img) ∧
          t.boot.imgB = s.boot.imgB ∧ t.bootMram.selB = false ∧ t.mem = s.mem ∧ t.truss = s.truss) ∧
    (∀ (x : ImageWrite) (b : List Byte) (sigOk : Bool), s.sec.write = some x → x.source = 1 → x.target = 0 → s.fnReach x.fn = true →
      (s.pll 9).gated = false → s.fwBad (fitBytes x.len b) sigOk = none → ∃ t, exec (.imageWriteDone (some b) sigOk true) s = .next t ∧
        t.fwImage x.region = fwEntry (fitBytes x.len b) ∧ t.bootMram.selB = (x.region == 1) ∧ t.sec.write = none ∧ t.boot.flashBusy = false ∧
        t.mem = s.mem ∧ t.truss = s.truss) ∧
    (s.pins.tmprLow = false → ∃ t, exec .tamperAssert s = .next t ∧ t.pins.tmprLow = true ∧ t.sec.tamperSeen = true ∧
      (s.secMram.tamperAction = 1 → t.netKeys = [] ∧ t.netMram.keys = []) ∧ t.mem = s.mem) ∧
    (s.pins.tmprLow = true →
      exec .tamperRelease s = .next ((s.modPins fun p => { p with tmprLow := false }).pend 487).driveErrn) ∧
    (∀ mv ns : Nat, mv < 620 → 5 < ns → s.boot.phase ≠ .powerOnReset →
      ∃ t, exec (.supplyGlitch .vddCore mv ns) s = .next t ∧ t.sec.tamperSeen = true ∧ t.mem = s.mem ∧ t.truss = s.truss) ∧
    (∀ tj : Int, 140 < tj ∨ tj < -55 → s.boot.phase ≠ .powerOnReset →
      ∃ t, exec (.temperatureAlarm tj) s = .next t ∧ t.boot.tj = tj ∧ t.sec.tamperSeen = true ∧ t.mem = s.mem ∧ t.truss = s.truss) ∧
    (s.sec.challenge.isSome = true →
      exec .debugChallengeLapse s = .next ((s.untilAon s.sec.challengeEnd).modSec fun x => { x with challenge := none }).driveErrn)) ∧
  ∀ (c : KcpCtx) (s : State),
    (∀ (address : Long) (nonce : List Byte), kcpReady 0x0A00 0 c s = true → s.hasFltRead (s.kcpFn c) = true → s.memMapped address.toNat 3768 = true →
      s.sec.level ≠ 2 → s.sec.keyFailed = false → ∃ r : List Byte, r.length = 12 ∧
        exec (.secAttest c 1 address nonce) s = .next (kcpOk 0x0A00 c s ((s.memWrite address.toNat (s.signedReport nonce)).count 444) r)) ∧
    (∀ address : Long, kcpReady 0x0A01 0 c s = true → s.memMapped address.toNat (Config.identityKey ++ Config.identityChain).length = true →
      exec (.secIdentity c 1 address) s = .next (kcpOk 0x0A01 c s (s.memWrite address.toNat (Config.identityKey ++ Config.identityChain))
        (leBytes 4 (Config.identityKey ++ Config.identityChain).length))) ∧
    (∀ (address : Long) (sigOk : Bool) (b : List Byte) (s1 : State), kcpReady 0x0A02 0 c s = true → overUdp c = false →
      s.memMapped address.toNat 1960 = true → s.memLoad 157 address.toNat 1960 = (some b, s1) → u b 0 4 = 0x524B4D47 → u b 5 1 ≤ 1 →
      (u b 4 1 = 1 → u b 5 1 = 0 → (tabGet s.secMram.keys 1).state = 0 →
        exec (.secKeyInstall c address sigOk) s = .next (kcpOk 0x0A02 c s (keyRecord 1 0 (b.drop 8) s1) [])) ∧
      (∀ (g : List Byte) (s2 : State), 1 ≤ u b 4 1 → u b 4 1 ≤ 6 → ¬(u b 4 1 = 1 ∧ u b 5 1 = 0 ∧ (tabGet s.secMram.keys 1).state = 0) →
        s1.memMapped (address.toNat + 1960) sigBytes = true → s1.memLoad 157 (address.toNat + 1960) sigBytes = (some g, s2) →
        (readSig g 0).magicOk = true → (readSig g 0).keySlot = 1 → s2.sigDetail b (readSig g 0) sigOk none = none →
        exec (.secKeyInstall c address sigOk) s = .next (kcpOk 0x0A02 c s (keyRecord (u b 4 1) (u b 5 1) (b.drop 8) (countVerify false s2)) []))) ∧
    (∀ slot : Byte, kcpReady 0x0A03 0 c s = true → slot.toNat ≤ 7 → s.hasFltRead (s.kcpFn c) = true →
      ∃ r : List Byte, r.length = 20 ∧ exec (.secKeyQuery c slot) s = .next (kcpOk 0x0A03 c s s r)) ∧
    (∀ (target source : Byte) (length : Word) (address : Long) (region : Nat) (w : ImageWrite), kcpReady 0x0A04 0 c s = true → target.toNat ≤ 1 →
      source.toNat ≤ 1 → length.toNat ≤ fwLimit → (source = 0 → s.memMapped address.toNat length.toNat = true) → s.boot.flashBusy = false →
      region = (if target = 1 then 2 else if s.boot.image = 0 then 1 else if s.boot.image = 1 then 0 else if s.bootMram.selB then 0 else 1) →
      w = { target := target.toNat, source := source.toNat, region := region, len := length.toNat, addr := address.toNat, fn := s.kcpFn c } →
      exec (.secImageWrite c target source length address) s = .next (kcpStart 0x0A04 c s
        ((s.modSec fun x => { x with write := some w }).modBoot fun b => { b with flashBusy := true }))) ∧
    (∀ image : Byte, kcpReady 0x0A05 0 c s = true → image.toNat ≤ 2 →
      ∃ r : List Byte, r.length = 28 ∧ exec (.secImageQuery c image) s = .next (kcpOk 0x0A05 c s s r)) ∧
    (∀ value : Word, kcpReady 0x0A06 0 c s = true → s.secMram.trussCounter.toNat < value.toNat →
      (∀ t, s.running = some t → value.toNat ≤ t.security) →
      (∀ k, k < 2 → (tabGet s.truss.standing k).valid = true → value.toNat ≤ (readTruss (tabGet s.truss.standing k).image).security) →
      exec (.secRollbackCommit c 1 value) s = .next (kcpOk 0x0A06 c s
        ((s.modSecMram fun m => { m with trussCounter := value }).pend 490) (leBytes 4 value.toNat))) ∧
    (kcpReady 0x0A07 0 c s = true → s.sec.blocked = false → ∃ (n : Nat) (r : List Byte), r = leBytes 32 n ++ deviceId ∧ n < 2 ^ 256 ∧
      exec (.secDebugChallenge c) s = .next (kcpOk 0x0A07 c s ({ s with free := s.free + 1 }.modSec fun x =>
        { x with challenge := some n, challengeEnd := s.now + secNs 60 }) r)) ∧
    (∀ (address : Long) (sigOk : Bool) (b : List Byte) (s1 : State), kcpReady 0x0A08 0 c s = true → overUdp c = false →
      s.memMapped address.toNat (48 + sigBytes) = true → s.memLoad 157 address.toNat (48 + sigBytes) = (some b, s1) →
      s1.unlockBad (b.take 48) (readSig b 48) sigOk = none → ∃ t, exec (.secDebugUnlock c address sigOk) s = .next t ∧
        t.sec.level = max s.sec.level (u (b.take 48) 4 1) ∧ t.sec.challenge = none ∧ t.flt.testUnlocked = true ∧ t.mem = s.mem ∧ t.truss = s.truss) ∧
    ∀ action : Byte, kcpReady 0x0A09 0 c s = true → overUdp c = false → action.toNat ≤ 1 →
      exec (.secTamperCfg c action) s = .next (kcpOk 0x0A09 c s (s.modSecMram fun m => { m with tamperAction := action }) [])

/-- A step carries out the command at the front of the queue, and with nothing waiting one clock edge passes. For every
command and state, a step of the state with that command in front of its queue is the command's own effect on the
state with the queue's rest. With an empty queue a step lets 2 ns pass on the always-on count (the model's own choice,
logs 1 and 2), and leaves memory, the trusses, the groups and the queue as they are. [R74, R136] -/
def Obligations.StepRunsTheFront : Prop :=
  (∀ (c : Instr) (l : List Instr) (s : State), step { s with pending := c :: l } = exec c { s with pending := l }) ∧
  ∀ s : State, s.pending = [] → ∃ t, step s = .next t ∧ t.clk.aon = s.clk.aon + 2 ∧ t.mem = s.mem ∧ t.truss = s.truss ∧ t.seq = s.seq ∧
    t.host = s.host ∧ t.pending = []

/-- The state after reset has an empty queue, a canonical memory and ERR_N at the level its rules give. At reset no
command waits, the CXL memory's bytes are in canonical form, and ERR_N is at the level that R18, R47, R55 and R451
give it: the invariants that every step keeps hold at the start. [R18, R96] -/
def Obligations.ResetMeetsTheInvariants : Prop :=
  State.reset.pending = [] ∧ State.reset.MemCanonical ∧ State.reset.ErrnTrue

/-- Every command completes, and after it ERR_N stands at the level that its rules give. Every command completes in every
state, and so does a step: it answers a next state, never a fault or a refusal, and in that state ERR_N is driven low
exactly when R18, R47, R55 or R451 has it low: in the safe state, under FLT_SET_ERRN's level, during a pulse, while a
source whose class reaches the level setting is latched, while it is held from a reset, and in the phases before
firmware runs and in limp mode. [R18, R47, R55, R451] -/
def Obligations.EveryStepDrivesErrn : Prop :=
  (∀ (i : Instr) (s : State), ∃ t, exec i s = .next t ∧ t.ErrnTrue) ∧ ∀ s : State, ∃ t, step s = .next t ∧ t.ErrnTrue

/-- Every step keeps memory canonical, takes one command, and never turns the always-on count back. From every state whose
CXL memory bytes are in canonical form, a step leads to a state whose bytes are. In every state a step takes the front
command off the queue and leaves the rest in order, and the always-on count (R440: it runs across warm starts) never
runs back. [R74, R96, R106, R440] -/
def Obligations.EveryStepKeepsMemoryQueueAndTime : Prop :=
  ∀ s t : State, step s = .next t → t.pending = s.pending.tail ∧ (s.MemCanonical → t.MemCanonical) ∧ s.clk.aon ≤ t.clk.aon
end

