-- ==== Sys2Proof/Laws/Exec.lean ====
section
/-! SUPPORT. One equation for each arm of `exec`: a command is carried out by its own meaning. -/

namespace Sys2Proof.Machine

theorem exec_powerOnReset {arg} {s : State} : exec (.powerOnReset arg) s = execPowerOnReset arg s := rfl
theorem exec_refclkWaitRetry {arg} {s : State} : exec (.refclkWaitRetry arg) s = execRefclkWaitRetry arg s := rfl
theorem exec_brownOut {rail mv ns} {s : State} : exec (.brownOut rail mv ns) s = execBrownOut rail mv ns s := rfl
theorem exec_resetNAssert {lowNs} {s : State} : exec (.resetNAssert lowNs) s = execResetNAssert lowNs s := rfl
theorem exec_resetNRelease {arg} {s : State} : exec (.resetNRelease arg) s = execResetNRelease arg s := rfl
theorem exec_kcpResetBegin {arg} {s : State} : exec (.kcpResetBegin arg) s = execKcpResetBegin arg s := rfl
theorem exec_bootWatchdogExpiry {arg} {s : State} : exec (.bootWatchdogExpiry arg) s = execBootWatchdogExpiry arg s := rfl
theorem exec_memInitDone {s : State} : exec (.memInitDone) s = execMemInitDone s := rfl
theorem exec_hostPortReset {s : State} : exec (.hostPortReset) s = execHostPortReset s := rfl
theorem exec_hostLinkTrained {rate width latency} {s : State} : exec (.hostLinkTrained rate width latency) s = execHostLinkTrained rate width latency s := rfl
theorem exec_surpriseDown {dmaInFlight} {s : State} : exec (.surpriseDown dmaInFlight) s = execSurpriseDown dmaInFlight s := rfl
theorem exec_functionLevelReset {fn} {s : State} : exec (.functionLevelReset fn) s = execFunctionLevelReset fn s := rfl
theorem exec_busMasterDisable {fn} {s : State} : exec (.busMasterDisable fn) s = execBusMasterDisable fn s := rfl
theorem exec_refclkLoss {s : State} : exec (.refclkLoss) s = execRefclkLoss s := rfl
theorem exec_refclkReturn {s : State} : exec (.refclkReturn) s = execRefclkReturn s := rfl
theorem exec_pllLossOfLock {k} {s : State} : exec (.pllLossOfLock k) s = execPllLossOfLock k s := rfl
theorem exec_pllLock {k} {s : State} : exec (.pllLock k) s = execPllLock k s := rfl
theorem exec_pllSettleDone {k} {s : State} : exec (.pllSettleDone k) s = execPllSettleDone k s := rfl
theorem exec_pllGateOpen {k} {s : State} : exec (.pllGateOpen k) s = execPllGateOpen k s := rfl
theorem exec_pllRelockTimeout {k} {s : State} : exec (.pllRelockTimeout k) s = execPllRelockTimeout k s := rfl
theorem exec_trackerNStep {k} {s : State} : exec (.trackerNStep k) s = execTrackerNStep k s := rfl
theorem exec_syncInEdge {afterNs highNs} {s : State} : exec (.syncInEdge afterNs highNs) s = execSyncInEdge afterNs highNs s := rfl
theorem exec_syncInMissing {s : State} : exec (.syncInMissing) s = execSyncInMissing s := rfl
theorem exec_syncOutRise {s : State} : exec (.syncOutRise) s = execSyncOutRise s := rfl
theorem exec_syncOutFall {s : State} : exec (.syncOutFall) s = execSyncOutFall s := rfl
theorem exec_timeHoldover {s : State} : exec (.timeHoldover) s = execTimeHoldover s := rfl
theorem exec_clkTimeLoRead {fn} {s : State} : exec (.clkTimeLoRead fn) s = execClkTimeLoRead fn s := rfl
theorem exec_clkNtOffsetLoRead {fn} {s : State} : exec (.clkNtOffsetLoRead fn) s = execClkNtOffsetLoRead fn s := rfl
theorem exec_sillNextLoRead {fn g} {s : State} : exec (.sillNextLoRead fn g) s = execSillNextLoRead fn g s := rfl
theorem exec_clkQuery {c pll} {s : State} : exec (.clkQuery c pll) s = execClkQuery c pll s := rfl
theorem exec_clkSetTrack {c pll source group deadband period} {s : State} : exec (.clkSetTrack c pll source group deadband period) s = execClkSetTrack c pll source group deadband period s := rfl
theorem exec_clkSetSyncOut {c mode group width offset} {s : State} : exec (.clkSetSyncOut c mode group width offset) s = execClkSetSyncOut c mode group width offset s := rfl
theorem exec_clkRelock {c pll} {s : State} : exec (.clkRelock c pll) s = execClkRelock c pll s := rfl
theorem exec_clkSetSettle {c count} {s : State} : exec (.clkSetSettle c count) s = execClkSetSettle c count s := rfl
theorem exec_paceWindow {arg count} {s : State} : exec (.paceWindow arg count) s = execPaceWindow arg count s := rfl
theorem exec_avsLoopPeriod {tj} {s : State} : exec (.avsLoopPeriod tj) s = execAvsLoopPeriod tj s := rfl
theorem exec_paceEscalate {s : State} : exec (.paceEscalate) s = execPaceEscalate s := rfl
theorem exec_paceReducedFloorBreach {arg} {s : State} : exec (.paceReducedFloorBreach arg) s = execPaceReducedFloorBreach arg s := rfl
theorem exec_paceReturn {s : State} : exec (.paceReturn) s = execPaceReturn s := rfl
theorem exec_pmbusTransactionDone {ok value} {s : State} : exec (.pmbusTransactionDone ok value) s = execPmbusTransactionDone ok value s := rfl
theorem exec_readVoutPoll {s : State} : exec (.readVoutPoll) s = execReadVoutPoll s := rfl
theorem exec_regulatorSettleTimeout {s : State} : exec (.regulatorSettleTimeout) s = execRegulatorSettleTimeout s := rfl
theorem exec_readIoutPoll {s : State} : exec (.readIoutPoll) s = execReadIoutPoll s := rfl
theorem exec_openLoopRetry {s : State} : exec (.openLoopRetry) s = execOpenLoopRetry s := rfl
theorem exec_pmAlert {s : State} : exec (.pmAlert) s = execPmAlert s := rfl
theorem exec_paceQuery {c} {s : State} : exec (.paceQuery c) s = execPaceQuery c s := rfl
theorem exec_paceSetBand {c lo hi alarm} {s : State} : exec (.paceSetBand c lo hi alarm) s = execPaceSetBand c lo hi alarm s := rfl
theorem exec_paceSetLimits {c vmin vmax up down period} {s : State} : exec (.paceSetLimits c vmin vmax up down period) s = execPaceSetLimits c vmin vmax up down period s := rfl
theorem exec_paceClear {c} {s : State} : exec (.paceClear c) s = execPaceClear c s := rfl
theorem exec_paceForceReduced {c enter} {s : State} : exec (.paceForceReduced c enter) s = execPaceForceReduced c enter s := rfl
theorem exec_cxlLinkTrained {m x} {s : State} : exec (.cxlLinkTrained m x) s = execCxlLinkTrained m x s := rfl
theorem exec_cxlLinkDown {m} {s : State} : exec (.cxlLinkDown m) s = execCxlLinkDown m s := rfl
theorem exec_cxlViral {m} {s : State} : exec (.cxlViral m) s = execCxlViral m s := rfl
theorem exec_cxlRecoveryTimeout {m} {s : State} : exec (.cxlRecoveryTimeout m) s = execCxlRecoveryTimeout m s := rfl
theorem exec_cxlRecoveryDone {m} {s : State} : exec (.cxlRecoveryDone m) s = execCxlRecoveryDone m s := rfl
theorem exec_poisonResponse {address use} {s : State} : exec (.poisonResponse address use) s = execPoisonResponse address use s := rfl
theorem exec_cxlOfflineComplete {m} {s : State} : exec (.cxlOfflineComplete m) s = execCxlOfflineComplete m s := rfl
theorem exec_memQuery {c port} {s : State} : exec (.memQuery c port) s = execMemQuery c port s := rfl
theorem exec_memSetInterleave {c size} {s : State} : exec (.memSetInterleave c size) s = execMemSetInterleave c size s := rfl
theorem exec_memMapAperture {c fn segment enable address} {s : State} : exec (.memMapAperture c fn segment enable address) s = execMemMapAperture c fn segment enable address s := rfl
theorem exec_memPortOffline {c port} {s : State} : exec (.memPortOffline c port) s = execMemPortOffline c port s := rfl
theorem exec_memPortOnline {c port} {s : State} : exec (.memPortOnline c port) s = execMemPortOnline c port s := rfl
theorem exec_memSetSnoop {c fn noSnoop} {s : State} : exec (.memSetSnoop c fn noSnoop) s = execMemSetSnoop c fn noSnoop s := rfl
theorem exec_bar4Write {fn offset bytes lands} {s : State} : exec (.bar4Write fn offset bytes lands) s = execBar4Write fn offset bytes lands s := rfl
theorem exec_bar4Read {fn offset len} {s : State} : exec (.bar4Read fn offset len) s = execBar4Read fn offset len s := rfl
theorem exec_armWritesLanded {fn} {s : State} : exec (.armWritesLanded fn) s = execArmWritesLanded fn s := rfl
theorem exec_registerWrite {fn offset size value} {s : State} : exec (.registerWrite fn offset size value) s = execRegisterWrite fn offset size value s := rfl
theorem exec_evtRingCfgWrite {fn n value} {s : State} : exec (.evtRingCfgWrite fn n value) s = execEvtRingCfgWrite fn n value s := rfl
theorem exec_evtRingConsWrite {fn n value} {s : State} : exec (.evtRingConsWrite fn n value) s = execEvtRingConsWrite fn n value s := rfl
theorem exec_evtCoalTimeout {fn n} {s : State} : exec (.evtCoalTimeout fn n) s = execEvtCoalTimeout fn n s := rfl
theorem exec_functionStale {fn} {s : State} : exec (.functionStale fn) s = execFunctionStale fn s := rfl
theorem exec_mbxDoorbell {fn n value} {s : State} : exec (.mbxDoorbell fn n value) s = execMbxDoorbell fn n value s := rfl
theorem exec_mbxCfgWrite {fn n value} {s : State} : exec (.mbxCfgWrite fn n value) s = execMbxCfgWrite fn n value s := rfl
theorem exec_mbxRspConsWrite {fn n value} {s : State} : exec (.mbxRspConsWrite fn n value) s = execMbxRspConsWrite fn n value s := rfl
theorem exec_mbxTakeCommand {fn n entry} {s : State} : exec (.mbxTakeCommand fn n entry) s = execMbxTakeCommand fn n entry s := rfl
theorem exec_sessOpen {c hostMin hostMax client mask} {s : State} : exec (.sessOpen c hostMin hostMax client mask) s = execSessOpen c hostMin hostMax client mask s := rfl
theorem exec_sessClose {c} {s : State} : exec (.sessClose c) s = execSessClose c s := rfl
theorem exec_sessInfo {c} {s : State} : exec (.sessInfo c) s = execSessInfo c s := rfl
theorem exec_sessNop {c bytes} {s : State} : exec (.sessNop c bytes) s = execSessNop c bytes s := rfl
theorem exec_sessStatus {c} {s : State} : exec (.sessStatus c) s = execSessStatus c s := rfl
theorem exec_sessGrant {c fn kind index op value} {s : State} : exec (.sessGrant c fn kind index op value) s = execSessGrant c fn kind index op value s := rfl
theorem exec_sessGrantQuery {c fn kind index} {s : State} : exec (.sessGrantQuery c fn kind index) s = execSessGrantQuery c fn kind index s := rfl
theorem exec_mntReset {c kind confirm} {s : State} : exec (.mntReset c kind confirm) s = execMntReset c kind confirm s := rfl
theorem exec_mntInfo {c} {s : State} : exec (.mntInfo c) s = execMntInfo c s := rfl
theorem exec_mntCfgGet {c item} {s : State} : exec (.mntCfgGet c item) s = execMntCfgGet c item s := rfl
theorem exec_mntCfgSet {c item length value refKhz} {s : State} : exec (.mntCfgSet c item length value refKhz) s = execMntCfgSet c item length value refKhz s := rfl
theorem exec_mntSetNetmgmt {c enable ports ipVersion port vlan pcp prefixLen address} {s : State} : exec (.mntSetNetmgmt c enable ports ipVersion port vlan pcp prefixLen address) s = execMntSetNetmgmt c enable ports ipVersion port vlan pcp prefixLen address s := rfl
theorem exec_mntNetkey {c slot op role key} {s : State} : exec (.mntNetkey c slot op role key) s = execMntNetkey c slot op role key s := rfl
theorem exec_kcpUdpHello {port ends bytes tagOk} {s : State} : exec (.kcpUdpHello port ends bytes tagOk) s = execKcpUdpHello port ends bytes tagOk s := rfl
theorem exec_kcpUdpCommand {port ends bytes tagOk plain} {s : State} : exec (.kcpUdpCommand port ends bytes tagOk plain) s = execKcpUdpCommand port ends bytes tagOk plain s := rfl
theorem exec_kcpUdpHandleLapse {k} {s : State} : exec (.kcpUdpHandleLapse k) s = execKcpUdpHandleLapse k s := rfl
theorem exec_kcpUdpSessionIdle {k} {s : State} : exec (.kcpUdpSessionIdle k) s = execKcpUdpSessionIdle k s := rfl
theorem exec_kcpUdpIgnoreEnd {peer} {s : State} : exec (.kcpUdpIgnoreEnd peer) s = execKcpUdpIgnoreEnd peer s := rfl
theorem exec_trussLoad {c slot source standing address length} {s : State} : exec (.trussLoad c slot source standing address length) s = execTrussLoad c slot source standing address length s := rfl
theorem exec_trussLoadDone {slot host sigOk} {s : State} : exec (.trussLoadDone slot host sigOk) s = execTrussLoadDone slot host sigOk s := rfl
theorem exec_trussCheck {c slot} {s : State} : exec (.trussCheck c slot) s = execTrussCheck c slot s := rfl
theorem exec_trussCheckDone {slot} {s : State} : exec (.trussCheckDone slot) s = execTrussCheckDone slot s := rfl
theorem exec_trussQuery {c slot} {s : State} : exec (.trussQuery c slot) s = execTrussQuery c slot s := rfl
theorem exec_trussUnload {c slot} {s : State} : exec (.trussUnload c slot) s = execTrussUnload c slot s := rfl
theorem exec_planChange {c bytes} {s : State} : exec (.planChange c bytes) s = execPlanChange c bytes s := rfl
theorem exec_planCommit {c base target} {s : State} : exec (.planCommit c base target) s = execPlanCommit c base target s := rfl
theorem exec_planCommitDone {slot derived} {s : State} : exec (.planCommitDone slot derived) s = execPlanCommitDone slot derived s := rfl
theorem exec_planDiscard {c} {s : State} : exec (.planDiscard c) s = execPlanDiscard c s := rfl
theorem exec_standingQuery {c slot} {s : State} : exec (.standingQuery c slot) s = execStandingQuery c slot s := rfl
theorem exec_standingWrite {c slot} {s : State} : exec (.standingWrite c slot) s = execStandingWrite c slot s := rfl
theorem exec_standingWriteDone {ok} {s : State} : exec (.standingWriteDone ok) s = execStandingWriteDone ok s := rfl
theorem exec_standingSelect {c slot} {s : State} : exec (.standingSelect c slot) s = execStandingSelect c slot s := rfl
theorem exec_itemIssue {g item bad} {s : State} : exec (.itemIssue g item bad) s = execItemIssue g item bad s := rfl
theorem exec_laneFreeStart {lane} {s : State} : exec (.laneFreeStart lane) s = execLaneFreeStart lane s := rfl
theorem exec_fetchIssue {g item entry} {s : State} : exec (.fetchIssue g item entry) s = execFetchIssue g item entry s := rfl
theorem exec_readDataLand {port address host} {s : State} : exec (.readDataLand port address host) s = execReadDataLand port address host s := rfl
theorem exec_itemComplete {lane} {s : State} : exec (.itemComplete lane) s = execItemComplete lane s := rfl
theorem exec_itemDeadline {g item lines} {s : State} : exec (.itemDeadline g item lines) s = execItemDeadline g item lines s := rfl
theorem exec_publishCutoff {g} {s : State} : exec (.publishCutoff g) s = execPublishCutoff g s := rfl
theorem exec_sill {g how} {s : State} : exec (.sill g how) s = execSill g how s := rfl
theorem exec_sillCopyDone {g} {s : State} : exec (.sillCopyDone g) s = execSillCopyDone g s := rfl
theorem exec_sillArmArm {fn g} {s : State} : exec (.sillArmArm fn g) s = execSillArmArm fn g s := rfl
theorem exec_sillArmDisarm {fn g} {s : State} : exec (.sillArmDisarm fn g) s = execSillArmDisarm fn g s := rfl
theorem exec_llwWrite {fn slot offset value} {s : State} : exec (.llwWrite fn slot offset value) s = execLlwWrite fn slot offset value s := rfl
theorem exec_seqSwitch {c slot} {s : State} : exec (.seqSwitch c slot) s = execSeqSwitch c slot s := rfl
theorem exec_seqArm {c mask} {s : State} : exec (.seqArm c mask) s = execSeqArm c mask s := rfl
theorem exec_seqDisarm {c mask} {s : State} : exec (.seqDisarm c mask) s = execSeqDisarm c mask s := rfl
theorem exec_seqQuery {c group} {s : State} : exec (.seqQuery c group) s = execSeqQuery c group s := rfl
theorem exec_seqSetCutoff {c group us} {s : State} : exec (.seqSetCutoff c group us) s = execSeqSetCutoff c group us s := rfl
theorem exec_seqForceVariant {c variant} {s : State} : exec (.seqForceVariant c variant) s = execSeqForceVariant c variant s := rfl
theorem exec_surfAlloc {c format width height flags address stride plane1 handle} {s : State} : exec (.surfAlloc c format width height flags address stride plane1 handle) s = execSurfAlloc c format width height flags address stride plane1 handle s := rfl
theorem exec_surfFree {c handle} {s : State} : exec (.surfFree c handle) s = execSurfFree c handle s := rfl
theorem exec_surfQuery {c handle} {s : State} : exec (.surfQuery c handle) s = execSurfQuery c handle s := rfl
theorem exec_surfShare {c handle share} {s : State} : exec (.surfShare c handle share) s = execSurfShare c handle share s := rfl
theorem exec_layerSet {c slot mask values} {s : State} : exec (.layerSet c slot mask values) s = execLayerSet c slot mask values s := rfl
theorem exec_layerSetType {c slot first count values} {s : State} : exec (.layerSetType c slot first count values) s = execLayerSetType c slot first count values s := rfl
theorem exec_layerQuery {c slot} {s : State} : exec (.layerQuery c slot) s = execLayerQuery c slot s := rfl
theorem exec_cellWrite {c slot count first entries} {s : State} : exec (.cellWrite c slot count first entries) s = execCellWrite c slot count first entries s := rfl
theorem exec_cellFill {c slot first count entry} {s : State} : exec (.cellFill c slot first count entry) s = execCellFill c slot first count entry s := rfl
theorem exec_sclBankLoad {c bank address} {s : State} : exec (.sclBankLoad c bank address) s = execSclBankLoad c bank address s := rfl
theorem exec_sclBankQuery {c bank copy address} {s : State} : exec (.sclBankQuery c bank copy address) s = execSclBankQuery c bank copy address s := rfl
theorem exec_sclSetSlot {c slot h v sh sv} {s : State} : exec (.sclSetSlot c slot h v sh sv) s = execSclSetSlot c slot h v sh sv s := rfl
theorem exec_sclQuerySlot {c slot} {s : State} : exec (.sclQuerySlot c slot) s = execSclQuerySlot c slot s := rfl
theorem exec_colTableLoad {c index address} {s : State} : exec (.colTableLoad c index address) s = execColTableLoad c index address s := rfl
theorem exec_colTableQuery {c index} {s : State} : exec (.colTableQuery c index) s = execColTableQuery c index s := rfl
theorem exec_colTableFree {c index} {s : State} : exec (.colTableFree c index) s = execColTableFree c index s := rfl
theorem exec_colSetOutput {c output mask space background matrix regamma regTable lut dither} {s : State} : exec (.colSetOutput c output mask space background matrix regamma regTable lut dither) s = execColSetOutput c output mask space background matrix regamma regTable lut dither s := rfl
theorem exec_colQueryOutput {c output view} {s : State} : exec (.colQueryOutput c output view) s = execColQueryOutput c output view s := rfl
theorem exec_colSetSlot {c slot mask values} {s : State} : exec (.colSetSlot c slot mask values) s = execColSetSlot c slot mask values s := rfl
theorem exec_headFrameStart {h} {s : State} : exec (.headFrameStart h) s = execHeadFrameStart h s := rfl
theorem exec_headLineStart {h ecc} {s : State} : exec (.headLineStart h ecc) s = execHeadLineStart h ecc s := rfl
theorem exec_hpdPlug {h sink} {s : State} : exec (.hpdPlug h sink) s = execHpdPlug h sink s := rfl
theorem exec_hpdUnplug {h} {s : State} : exec (.hpdUnplug h) s = execHpdUnplug h s := rfl
theorem exec_irqHpd {h linkLost} {s : State} : exec (.irqHpd h linkLost) s = execIrqHpd h linkLost s := rfl
theorem exec_hpdShortPulse {h} {s : State} : exec (.hpdShortPulse h) s = execHpdShortPulse h s := rfl
theorem exec_linkTrainingAttemptEnd {h ok} {s : State} : exec (.linkTrainingAttemptEnd h ok) s = execLinkTrainingAttemptEnd h ok s := rfl
theorem exec_auxReply {h reply data} {s : State} : exec (.auxReply h reply data) s = execAuxReply h reply data s := rfl
theorem exec_headWritebackFrameEnd {h} {s : State} : exec (.headWritebackFrameEnd h) s = execHeadWritebackFrameEnd h s := rfl
theorem exec_headQuery {c head view} {s : State} : exec (.headQuery c head view) s = execHeadQuery c head view s := rfl
theorem exec_headSetTiming {c entry} {s : State} : exec (.headSetTiming c entry) s = execHeadSetTiming c entry s := rfl
theorem exec_headSetPower {c head power} {s : State} : exec (.headSetPower c head power) s = execHeadSetPower c head power s := rfl
theorem exec_headRetrain {c head} {s : State} : exec (.headRetrain c head) s = execHeadRetrain c head s := rfl
theorem exec_headAux {c head op length i2c address data} {s : State} : exec (.headAux c head op length i2c address data) s = execHeadAux c head op length i2c address data s := rfl
theorem exec_headSetBacklight {c head level} {s : State} : exec (.headSetBacklight c head level) s = execHeadSetBacklight c head level s := rfl
theorem exec_beaconTimer {s : State} : exec (.beaconTimer) s = execBeaconTimer s := rfl
theorem exec_adtHelloRx {d hello} {s : State} : exec (.adtHelloRx d hello) s = execAdtHelloRx d hello s := rfl
theorem exec_adtHeartbeatRx {d frame summary flags late offset} {s : State} : exec (.adtHeartbeatRx d frame summary flags late offset) s = execAdtHeartbeatRx d frame summary flags late offset s := rfl
theorem exec_adtLeaveRx {d reason} {s : State} : exec (.adtLeaveRx d reason) s = execAdtLeaveRx d reason s := rfl
theorem exec_adtRepairRx {d frame flags entries} {s : State} : exec (.adtRepairRx d frame flags entries) s = execAdtRepairRx d frame flags entries s := rfl
theorem exec_sourceSliceRx {d frame index frag fragCount digest offset payload} {s : State} : exec (.sourceSliceRx d frame index frag fragCount digest offset payload) s = execSourceSliceRx d frame index frag fragCount digest offset payload s := rfl
theorem exec_frameDoneRx {d frame capture slices digest} {s : State} : exec (.frameDoneRx d frame capture slices digest) s = execFrameDoneRx d frame capture slices digest s := rfl
theorem exec_ingestFrameComplete {source} {s : State} : exec (.ingestFrameComplete source) s = execIngestFrameComplete source s := rfl
theorem exec_ingestFrameTimeout {source} {s : State} : exec (.ingestFrameTimeout source) s = execIngestFrameTimeout source s := rfl
theorem exec_adtHeartbeatTx {source number} {s : State} : exec (.adtHeartbeatTx source number) s = execAdtHeartbeatTx source number s := rfl
theorem exec_adtPeerNotLive {source number} {s : State} : exec (.adtPeerNotLive source number) s = execAdtPeerNotLive source number s := rfl
theorem exec_adtSessionTimeout {source number} {s : State} : exec (.adtSessionTimeout source number) s = execAdtSessionTimeout source number s := rfl
theorem exec_announceTime {g} {s : State} : exec (.announceTime g) s = execAnnounceTime g s := rfl
theorem exec_mortiseOpen {p g index} {s : State} : exec (.mortiseOpen p g index) s = execMortiseOpen p g index s := rfl
theorem exec_adtBlankRepeat {number} {s : State} : exec (.adtBlankRepeat number) s = execAdtBlankRepeat number s := rfl
theorem exec_adtHoldEnd {number} {s : State} : exec (.adtHoldEnd number) s = execAdtHoldEnd number s := rfl
theorem exec_adtConfig {c port heartbeat hold repair beacon group} {s : State} : exec (.adtConfig c port heartbeat hold repair beacon group) s = execAdtConfig c port heartbeat hold repair beacon group s := rfl
theorem exec_adtQuery {c kind number} {s : State} : exec (.adtQuery c kind number) s = execAdtQuery c kind number s := rfl
theorem exec_adtBind {c kind fixed number peer address} {s : State} : exec (.adtBind c kind fixed number peer address) s = execAdtBind c kind fixed number peer address s := rfl
theorem exec_adtDisconnect {c kind number hold} {s : State} : exec (.adtDisconnect c kind number hold) s = execAdtDisconnect c kind number hold s := rfl
theorem exec_adtRefresh {c first count} {s : State} : exec (.adtRefresh c first count) s = execAdtRefresh c first count s := rfl
theorem exec_adtBlank {c first count op notice background colour} {s : State} : exec (.adtBlank c first count op notice background colour) s = execAdtBlank c first count op notice background colour s := rfl
theorem exec_adtSourceCtrl {c source op} {s : State} : exec (.adtSourceCtrl c source op) s = execAdtSourceCtrl c source op s := rfl
theorem exec_adtStats {c} {s : State} : exec (.adtStats c) s = execAdtStats c s := rfl
theorem exec_ethLinkDown {p} {s : State} : exec (.ethLinkDown p) s = execEthLinkDown p s := rfl
theorem exec_ethLinkUp {p rxInvert} {s : State} : exec (.ethLinkUp p rxInvert) s = execEthLinkUp p rxInvert s := rfl
theorem exec_ethLinkUpSettled {p} {s : State} : exec (.ethLinkUpSettled p) s = execEthLinkUpSettled p s := rfl
theorem exec_ethFrameDiscard {p integrity wire} {s : State} : exec (.ethFrameDiscard p integrity wire) s = execEthFrameDiscard p integrity wire s := rfl
theorem exec_arpNdRx {p reply target sender mac} {s : State} : exec (.arpNdRx p reply target sender mac) s = execArpNdRx p reply target sender mac s := rfl
theorem exec_icmpEchoRx {p target sender mac bytes} {s : State} : exec (.icmpEchoRx p target sender mac bytes) s = execIcmpEchoRx p target sender mac bytes s := rfl
theorem exec_arpRetry {p address} {s : State} : exec (.arpRetry p address) s = execArpRetry p address s := rfl
theorem exec_arpGiveUp {p address} {s : State} : exec (.arpGiveUp p address) s = execArpGiveUp p address s := rfl
theorem exec_neighbourAgeOut {p address} {s : State} : exec (.neighbourAgeOut p address) s = execNeighbourAgeOut p address s := rfl
theorem exec_ptpSyncRx {p measured estimate rate ratio} {s : State} : exec (.ptpSyncRx p measured estimate rate ratio) s = execPtpSyncRx p measured estimate rate ratio s := rfl
theorem exec_ptpAnnounceRx {p priority1 clockClass accuracy variance priority2 identity steps} {s : State} : exec (.ptpAnnounceRx p priority1 clockClass accuracy variance priority2 identity steps) s = execPtpAnnounceRx p priority1 clockClass accuracy variance priority2 identity steps s := rfl
theorem exec_ptpSyncTx {s : State} : exec (.ptpSyncTx) s = execPtpSyncTx s := rfl
theorem exec_ptpSyncTimeout {p} {s : State} : exec (.ptpSyncTimeout p) s = execPtpSyncTimeout p s := rfl
theorem exec_mkaRx {p install} {s : State} : exec (.mkaRx p install) s = execMkaRx p install s := rfl
theorem exec_mkaPeerTimeout {p} {s : State} : exec (.mkaPeerTimeout p) s = execMkaPeerTimeout p s := rfl
theorem exec_cbResetTimeout {entry} {s : State} : exec (.cbResetTimeout entry) s = execCbResetTimeout entry s := rfl
theorem exec_cbFrameRx {p mac vlan seq wire} {s : State} : exec (.cbFrameRx p mac vlan seq wire) s = execCbFrameRx p mac vlan seq wire s := rfl
theorem exec_calendarBucketExpand {p} {s : State} : exec (.calendarBucketExpand p) s = execCalendarBucketExpand p s := rfl
theorem exec_macSelectFrame {p} {s : State} : exec (.macSelectFrame p) s = execMacSelectFrame p s := rfl
theorem exec_netPortQuery {c port} {s : State} : exec (.netPortQuery c port) s = execNetPortQuery c port s := rfl
theorem exec_netPortCfg {c port mode txInvert adt largest pcpSlice pcpControl pcpRepair flags cap} {s : State} : exec (.netPortCfg c port mode txInvert adt largest pcpSlice pcpControl pcpRepair flags cap) s = execNetPortCfg c port mode txInvert adt largest pcpSlice pcpControl pcpRepair flags cap s := rfl
theorem exec_netPortEnable {c port enable} {s : State} : exec (.netPortEnable c port enable) s = execNetPortEnable c port enable s := rfl
theorem exec_netSetAddr {c port version prefixLen address} {s : State} : exec (.netSetAddr c port version prefixLen address) s = execNetSetAddr c port version prefixLen address s := rfl
theorem exec_netTimeCfg {c role domain priority1 priority2 clockClass accuracy logSync ports asymmetry} {s : State} : exec (.netTimeCfg c role domain priority1 priority2 clockClass accuracy logSync ports asymmetry) s = execNetTimeCfg c role domain priority1 priority2 clockClass accuracy logSync ports asymmetry s := rfl
theorem exec_netTimeQuery {c} {s : State} : exec (.netTimeQuery c) s = execNetTimeQuery c s := rfl
theorem exec_netMacsecCfg {c port mode cipher keySlot replay keyPrio} {s : State} : exec (.netMacsecCfg c port mode cipher keySlot replay keyPrio) s = execNetMacsecCfg c port mode cipher keySlot replay keyPrio s := rfl
theorem exec_netMacsecKey {c slot op len cak ckn} {s : State} : exec (.netMacsecKey c slot op len cak ckn) s = execNetMacsecKey c slot op len cak ckn s := rfl
theorem exec_netCbCfg {c entry op ports history mac vlan timeout} {s : State} : exec (.netCbCfg c entry op ports history mac vlan timeout) s = execNetCbCfg c entry op ports history mac vlan timeout s := rfl
theorem exec_calQuery {c port variant} {s : State} : exec (.calQuery c port variant) s = execCalQuery c port variant s := rfl
theorem exec_calSetRates {c port mask rates bursts} {s : State} : exec (.calSetRates c port mask rates bursts) s = execCalSetRates c port mask rates bursts s := rfl
theorem exec_dmaDoorbell {fn c value m} {s : State} : exec (.dmaDoorbell fn c value m) s = execDmaDoorbell fn c value m s := rfl
theorem exec_dmaChCfgWrite {fn c value m} {s : State} : exec (.dmaChCfgWrite fn c value m) s = execDmaChCfgWrite fn c value m s := rfl
theorem exec_dmaChAbort {fn c} {s : State} : exec (.dmaChAbort fn c) s = execDmaChAbort fn c s := rfl
theorem exec_dmaChResume {fn c m} {s : State} : exec (.dmaChResume fn c m) s = execDmaChResume fn c m s := rfl
theorem exec_dmaSwreq {fn value} {s : State} : exec (.dmaSwreq fn value) s = execDmaSwreq fn value s := rfl
theorem exec_dreqEdge {line qualified levels} {s : State} : exec (.dreqEdge line qualified levels) s = execDreqEdge line qualified levels s := rfl
theorem exec_dmaRequest {line m} {s : State} : exec (.dmaRequest line m) s = execDmaRequest line m s := rfl
theorem exec_dmaDescDone {c m} {s : State} : exec (.dmaDescDone c m) s = execDmaDescDone c m s := rfl
theorem exec_dmaCqConsWrite {fn q value m} {s : State} : exec (.dmaCqConsWrite fn q value m) s = execDmaCqConsWrite fn q value m s := rfl
theorem exec_dmaCqCfgWrite {fn q value m} {s : State} : exec (.dmaCqCfgWrite fn q value m) s = execDmaCqCfgWrite fn q value m s := rfl
theorem exec_wbFrameDone {e} {s : State} : exec (.wbFrameDone e) s = execWbFrameDone e s := rfl
theorem exec_ingCfg {c source depth queue} {s : State} : exec (.ingCfg c source depth queue) s = execIngCfg c source depth queue s := rfl
theorem exec_ingQuery {c source} {s : State} : exec (.ingQuery c source) s = execIngQuery c source s := rfl
theorem exec_wbSetTarget {c engine count queue handles} {s : State} : exec (.wbSetTarget c engine count queue handles) s = execWbSetTarget c engine count queue handles s := rfl
theorem exec_wbQuery {c engine} {s : State} : exec (.wbQuery c engine) s = execWbQuery c engine s := rfl
theorem exec_dmaCqCfg {c queue owner} {s : State} : exec (.dmaCqCfg c queue owner) s = execDmaCqCfg c queue owner s := rfl
theorem exec_dmaReqMap {c line source} {s : State} : exec (.dmaReqMap c line source) s = execDmaReqMap c line source s := rfl
theorem exec_dmaQuery {c channel} {s : State} : exec (.dmaQuery c channel) s = execDmaQuery c channel s := rfl
theorem exec_emergNAssert {s : State} : exec (.emergNAssert) s = execEmergNAssert s := rfl
theorem exec_emergNRelease {s : State} : exec (.emergNRelease) s = execEmergNRelease s := rfl
theorem exec_bulletinLaid {ns} {s : State} : exec (.bulletinLaid ns) s = execBulletinLaid ns s := rfl
theorem exec_fieldPersistWrite {field} {s : State} : exec (.fieldPersistWrite field) s = execFieldPersistWrite field s := rfl
theorem exec_svcFieldDefine {c field slot col row cols rows just flags map fg bg} {s : State} : exec (.svcFieldDefine c field slot col row cols rows just flags map fg bg) s = execSvcFieldDefine c field slot col row cols rows just flags map fg bg s := rfl
theorem exec_svcFieldSet {c field op flags fg bg length text} {s : State} : exec (.svcFieldSet c field op flags fg bg length text) s = execSvcFieldSet c field op flags fg bg length text s := rfl
theorem exec_svcFieldQuery {c field} {s : State} : exec (.svcFieldQuery c field) s = execSvcFieldQuery c field s := rfl
theorem exec_svcCharmapLoad {c map address} {s : State} : exec (.svcCharmapLoad c map address) s = execSvcCharmapLoad c map address s := rfl
theorem exec_svcMosaicSet {c slot m width colour pattern0 pattern1} {s : State} : exec (.svcMosaicSet c slot m width colour pattern0 pattern1) s = execSvcMosaicSet c slot m width colour pattern0 pattern1 s := rfl
theorem exec_svcMosaicQuery {c slot} {s : State} : exec (.svcMosaicQuery c slot) s = execSvcMosaicQuery c slot s := rfl
theorem exec_svcMsgSet {c message op map fg bg prio length text} {s : State} : exec (.svcMsgSet c message op map fg bg prio length text) s = execSvcMsgSet c message op map fg bg prio length text s := rfl
theorem exec_svcBulletin {c op message} {s : State} : exec (.svcBulletin c op message) s = execSvcBulletin c op message s := rfl
theorem exec_svcBulletinQuery {c} {s : State} : exec (.svcBulletinQuery c) s = execSvcBulletinQuery c s := rfl
theorem exec_svcEmergCfg {c message enable} {s : State} : exec (.svcEmergCfg c message enable) s = execSvcEmergCfg c message enable s := rfl
theorem exec_intcRound {s : State} : exec (.intcRound) s = execIntcRound s := rfl
theorem exec_intcClaim {core} {s : State} : exec (.intcClaim core) s = execIntcClaim core s := rfl
theorem exec_intcComplete {core source} {s : State} : exec (.intcComplete core source) s = execIntcComplete core source s := rfl
theorem exec_intcCoreCtrlWrite {core enable settings} {s : State} : exec (.intcCoreCtrlWrite core enable settings) s = execIntcCoreCtrlWrite core enable settings s := rfl
theorem exec_intcHostEoi {fn value} {s : State} : exec (.intcHostEoi fn value) s = execIntcHostEoi fn value s := rfl
theorem exec_intcHostSwset {fn value} {s : State} : exec (.intcHostSwset fn value) s = execIntcHostSwset fn value s := rfl
theorem exec_intcHostMaskWrite {fn k value} {s : State} : exec (.intcHostMaskWrite fn k value) s = execIntcHostMaskWrite fn k value s := rfl
theorem exec_intcSetSource {c first count items sensing prio enable targets} {s : State} : exec (.intcSetSource c first count items sensing prio enable targets) s = execIntcSetSource c first count items sensing prio enable targets s := rfl
theorem exec_intcQuerySource {c source} {s : State} : exec (.intcQuerySource c source) s = execIntcQuerySource c source s := rfl
theorem exec_intcQueryTarget {c target} {s : State} : exec (.intcQueryTarget c target) s = execIntcQueryTarget c target s := rfl
theorem exec_faultCollectorCycle {occs pinHigh} {s : State} : exec (.faultCollectorCycle occs pinHigh) s = execFaultCollectorCycle occs pinHigh s := rfl
theorem exec_faultOccurrence {source detail} {s : State} : exec (.faultOccurrence source detail) s = execFaultOccurrence source detail s := rfl
theorem exec_brokenWire {source} {s : State} : exec (.brokenWire source) s = execBrokenWire source s := rfl
theorem exec_faultLiveFall {source} {s : State} : exec (.faultLiveFall source) s = execFaultLiveFall source s := rfl
theorem exec_quietPeriodEnd {source} {s : State} : exec (.quietPeriodEnd source) s = execQuietPeriodEnd source s := rfl
theorem exec_faultRingMirror {s : State} : exec (.faultRingMirror) s = execFaultRingMirror s := rfl
theorem exec_errnPulseEnd {s : State} : exec (.errnPulseEnd) s = execErrnPulseEnd s := rfl
theorem exec_disagreeOpen {kind index} {s : State} : exec (.disagreeOpen kind index) s = execDisagreeOpen kind index s := rfl
theorem exec_disagree1ms {kind index} {s : State} : exec (.disagree1ms kind index) s = execDisagree1ms kind index s := rfl
theorem exec_disagreeWindowEnd {kind index} {s : State} : exec (.disagreeWindowEnd kind index) s = execDisagreeWindowEnd kind index s := rfl
theorem exec_disagreeClose {kind index} {s : State} : exec (.disagreeClose kind index) s = execDisagreeClose kind index s := rfl
theorem exec_coreWatchdogExpiry {core} {s : State} : exec (.coreWatchdogExpiry core) s = execCoreWatchdogExpiry core s := rfl
theorem exec_fltForceAssert {fn value} {s : State} : exec (.fltForceAssert fn value) s = execFltForceAssert fn value s := rfl
theorem exec_fltForceBroken {fn value} {s : State} : exec (.fltForceBroken fn value) s = execFltForceBroken fn value s := rfl
theorem exec_fltForceRelease {fn value} {s : State} : exec (.fltForceRelease fn value) s = execFltForceRelease fn value s := rfl
theorem exec_fltQuery {c} {s : State} : exec (.fltQuery c) s = execFltQuery c s := rfl
theorem exec_fltLogRead {c first count mode address} {s : State} : exec (.fltLogRead c first count mode address) s = execFltLogRead c first count mode address s := rfl
theorem exec_fltAck {c kind first count} {s : State} : exec (.fltAck c kind first count) s = execFltAck c kind first count s := rfl
theorem exec_fltSetSource {c first count minClass n ceiling w} {s : State} : exec (.fltSetSource c first count minClass n ceiling w) s = execFltSetSource c first count minClass n ceiling w s := rfl
theorem exec_fltSetRecovery {c k q2 q3} {s : State} : exec (.fltSetRecovery c k q2 q3) s = execFltSetRecovery c k q2 q3 s := rfl
theorem exec_fltUnfence {c source} {s : State} : exec (.fltUnfence c source) s = execFltUnfence c source s := rfl
theorem exec_fltSetErrn {c pulseClass levelClass pulseUs swLevel} {s : State} : exec (.fltSetErrn c pulseClass levelClass pulseUs swLevel) s = execFltSetErrn c pulseClass levelClass pulseUs swLevel s := rfl
theorem exec_fltSetSafeField {c address length} {s : State} : exec (.fltSetSafeField c address length) s = execFltSetSafeField c address length s := rfl
theorem exec_fltEnterSafe {c confirm} {s : State} : exec (.fltEnterSafe c confirm) s = execFltEnterSafe c confirm s := rfl
theorem exec_fltEnterSafeDue {s : State} : exec (.fltEnterSafeDue) s = execFltEnterSafeDue s := rfl
theorem exec_fltSrcQuery {c source} {s : State} : exec (.fltSrcQuery c source) s = execFltSrcQuery c source s := rfl
theorem exec_pmuUpdate {s : State} : exec (.pmuUpdate) s = execPmuUpdate s := rfl
theorem exec_pmuCntLoRead {fn user counter wide} {s : State} : exec (.pmuCntLoRead fn user counter wide) s = execPmuCntLoRead fn user counter wide s := rfl
theorem exec_pmuCntHiWrite {fn user counter value} {s : State} : exec (.pmuCntHiWrite fn user counter value) s = execPmuCntHiWrite fn user counter value s := rfl
theorem exec_pmuCntLoWrite {fn user counter wide value} {s : State} : exec (.pmuCntLoWrite fn user counter wide value) s = execPmuCntLoWrite fn user counter wide value s := rfl
theorem exec_pmuSnapTakeBit {fn} {s : State} : exec (.pmuSnapTakeBit fn) s = execPmuSnapTakeBit fn s := rfl
theorem exec_pmuSnapReleaseBit {fn bank} {s : State} : exec (.pmuSnapReleaseBit fn bank) s = execPmuSnapReleaseBit fn bank s := rfl
theorem exec_snapshotDone {ns} {s : State} : exec (.snapshotDone ns) s = execSnapshotDone ns s := rfl
theorem exec_bwWindowEnd {n} {s : State} : exec (.bwWindowEnd n) s = execBwWindowEnd n s := rfl
theorem exec_pmuFcSet {c counter mode path direction cls master chain clear privilege event low high} {s : State} : exec (.pmuFcSet c counter mode path direction cls master chain clear privilege event low high) s = execPmuFcSet c counter mode path direction cls master chain clear privilege event low high s := rfl
theorem exec_pmuFcQuery {c counter} {s : State} : exec (.pmuFcQuery c counter) s = execPmuFcQuery c counter s := rfl
theorem exec_pmuSnapCfg {c mask group cls hold period} {s : State} : exec (.pmuSnapCfg c mask group cls hold period) s = execPmuSnapCfg c mask group cls hold period s := rfl
theorem exec_pmuSnapTake {c} {s : State} : exec (.pmuSnapTake c) s = execPmuSnapTake c s := rfl
theorem exec_pmuSnapQuery {c} {s : State} : exec (.pmuSnapQuery c) s = execPmuSnapQuery c s := rfl
theorem exec_pmuBwSet {c engine k align cls threshold clear} {s : State} : exec (.pmuBwSet c engine k align cls threshold clear) s = execPmuBwSet c engine k align cls threshold clear s := rfl
theorem exec_pmuBwQuery {c engine} {s : State} : exec (.pmuBwQuery c engine) s = execPmuBwQuery c engine s := rfl
theorem exec_pmuClear {c mask} {s : State} : exec (.pmuClear c mask) s = execPmuClear c mask s := rfl
theorem exec_idRcvGo {fn} {s : State} : exec (.idRcvGo fn) s = execIdRcvGo fn s := rfl
theorem exec_idRcvCfgReset {fn} {s : State} : exec (.idRcvCfgReset fn) s = execIdRcvCfgReset fn s := rfl
theorem exec_rcvInstallDone {image sigOk ok} {s : State} : exec (.rcvInstallDone image sigOk ok) s = execRcvInstallDone image sigOk ok s := rfl
theorem exec_imageWriteDone {host sigOk ok} {s : State} : exec (.imageWriteDone host sigOk ok) s = execImageWriteDone host sigOk ok s := rfl
theorem exec_tamperAssert {s : State} : exec (.tamperAssert) s = execTamperAssert s := rfl
theorem exec_tamperRelease {s : State} : exec (.tamperRelease) s = execTamperRelease s := rfl
theorem exec_supplyGlitch {rail mv ns} {s : State} : exec (.supplyGlitch rail mv ns) s = execSupplyGlitch rail mv ns s := rfl
theorem exec_temperatureAlarm {tj} {s : State} : exec (.temperatureAlarm tj) s = execTemperatureAlarm tj s := rfl
theorem exec_debugChallengeLapse {s : State} : exec (.debugChallengeLapse) s = execDebugChallengeLapse s := rfl
theorem exec_secAttest {c mode address nonce} {s : State} : exec (.secAttest c mode address nonce) s = execSecAttest c mode address nonce s := rfl
theorem exec_secIdentity {c mode address} {s : State} : exec (.secIdentity c mode address) s = execSecIdentity c mode address s := rfl
theorem exec_secKeyInstall {c address sigOk} {s : State} : exec (.secKeyInstall c address sigOk) s = execSecKeyInstall c address sigOk s := rfl
theorem exec_secKeyQuery {c slot} {s : State} : exec (.secKeyQuery c slot) s = execSecKeyQuery c slot s := rfl
theorem exec_secImageWrite {c target source length address} {s : State} : exec (.secImageWrite c target source length address) s = execSecImageWrite c target source length address s := rfl
theorem exec_secImageQuery {c image} {s : State} : exec (.secImageQuery c image) s = execSecImageQuery c image s := rfl
theorem exec_secRollbackCommit {c kind value} {s : State} : exec (.secRollbackCommit c kind value) s = execSecRollbackCommit c kind value s := rfl
theorem exec_secDebugChallenge {c} {s : State} : exec (.secDebugChallenge c) s = execSecDebugChallenge c s := rfl
theorem exec_secDebugUnlock {c address sigOk} {s : State} : exec (.secDebugUnlock c address sigOk) s = execSecDebugUnlock c address sigOk s := rfl
theorem exec_secTamperCfg {c action} {s : State} : exec (.secTamperCfg c action) s = execSecTamperCfg c action s := rfl
theorem exec_perstNDeassert {s : State} : exec (.perstNDeassert) s = execPerstNDeassert s := rfl
theorem exec_peRefclkLoss {s : State} : exec (.peRefclkLoss) s = execPeRefclkLoss s := rfl
theorem exec_peRefclkReturn {s : State} : exec (.peRefclkReturn) s = execPeRefclkReturn s := rfl
theorem exec_busMasterEnableSet {fn} {s : State} : exec (.busMasterEnableSet fn) s = execBusMasterEnableSet fn s := rfl
theorem exec_vfEnableWrite {enable} {s : State} : exec (.vfEnableWrite enable) s = execVfEnableWrite enable s := rfl
theorem exec_cxlPortInitDone {m} {s : State} : exec (.cxlPortInitDone m) s = execCxlPortInitDone m s := rfl
theorem exec_ptpPdelayTimer {s : State} : exec (.ptpPdelayTimer) s = execPtpPdelayTimer s := rfl
theorem exec_ptpPdelayRx {p response capable delay} {s : State} : exec (.ptpPdelayRx p response capable delay) s = execPtpPdelayRx p response capable delay s := rfl
theorem exec_snapTimeLoRead {fn} {s : State} : exec (.snapTimeLoRead fn) s = execSnapTimeLoRead fn s := rfl

end Sys2Proof.Machine
end

