-- ==== Sys2Proof/Laws/Kcp.lean ====
section
/-! SUPPORT. What the one path of every KCP command does, said once: what a prover cites in place of unfolding it. -/

namespace Sys2Proof.Machine

@[simp] theorem replyOk_st (s : State) (bs : List Byte) : (replyOk s bs).st = s := rfl
@[simp] theorem refuse_st (x : Status) (d : Nat) (s : State) : (refuse x d s).st = s := rfl

/-- A command that passes R151's checks runs its own part, and the answer follows. -/
theorem kcpBegin_ready {id extra : Nat} {inSafe : Bool} {c : KcpCtx} {body : Nat → State → Reply ⊕ State} {s : State}
    (h : kcpReady id extra c s = true) (hid : id ≠ 0) :
    kcpBegin id extra inSafe c body s =
      match body (s.kcpFn c) s with
      | .inr t => done (t.modTaken c fun x => { x with begun := true })
      | .inl r => if kcpSessionGone id c r.st then done (kcpRelease c r.st)
                  else done (kcpAnswer id c (s.kcpVersion c) r) := by
  unfold kcpReady kcpTurn at h
  cases hs : s.kcpSession c with
  | none => simp [hs] at h
  | some x =>
    simp only [hs, Bool.and_eq_true, Bool.or_eq_true, Bool.not_eq_true', beq_iff_eq, decide_eq_true_eq] at h
    obtain ⟨⟨⟨⟨⟨⟨hk, ⟨hh, hq⟩, hv⟩, hp⟩, hg⟩, hl⟩, hsafe⟩, ⟨hl1, hl2⟩, hl3⟩ := h
    have hk' : (kcpFind id).isNone = false := by cases hf : kcpFind id <;> simp_all
    have hc : kcpCheck id ((kcpFind id).getD default).pfOnly (((kcpFind id).getD default).fixed + extra) inSafe
        (s.kcpFn c) (some x) c.handle c.seq c.len.toNat s = none := by
      have hp' : ¬(((kcpFind id).getD default).pfOnly = true ∧ s.kcpFn c ≠ 0) := by
        rintro ⟨a, b⟩; rcases hp with hp | hp
        · rw [hp] at a; cases a
        · exact b hp
      simp [kcpCheck, hid, hk', hh, hq, hg, hsafe, Nat.not_lt.mpr hv, Nat.not_lt.mpr hl, hp']
    simp only [State.kcpVersion, hs] at hl2
    have hst : kcpStored c s = none := by cases hx : kcpStored c s <;> simp_all
    cases hb : body (s.kcpFn c) s <;>
      simp only [kcpBegin, hs, hl1, hl2, hst, hc, hb, State.kcpVersion, Bool.not_true, Bool.or_self, Bool.false_eq_true, if_false]

/-- R153: a command whose session is open when it ends is answered. -/
theorem kcpSessionGone_of {id : Nat} {c : KcpCtx} {t : State} (h : (t.kcpSession c).isSome = true) :
    kcpSessionGone id c t = false := by
  cases hs : t.kcpSession c with
  | none => simp [hs] at h
  | some x => simp [kcpSessionGone, hs]

/-- A command that answers OK ends in `kcpOk`. -/
theorem kcp_ok {id : Nat} {c : KcpCtx} {body : Nat → State → Reply} {s t : State} {bs : List Byte}
    (h : kcpReady id 0 c s = true) (hid : id ≠ 0) (hb : body (s.kcpFn c) s = replyOk t bs)
    (hs : (t.kcpSession c).isSome = true) : kcp id c body s = .next (kcpOk id c s t bs) := by
  have hg : kcpSessionGone id c t = false := kcpSessionGone_of hs
  simp [kcp, kcpRun, kcpBegin_ready h hid, hb, hg, kcpOk, done]

/-- The same for a command of variable length. -/
theorem kcpRun_ok {id extra : Nat} {inSafe : Bool} {c : KcpCtx} {body : Nat → State → Reply} {s t : State} {bs : List Byte}
    (h : kcpReady id extra c s = true) (hid : id ≠ 0) (hb : body (s.kcpFn c) s = replyOk t bs)
    (hs : (t.kcpSession c).isSome = true) : kcpRun id extra inSafe c body s = .next (kcpOk id c s t bs) := by
  have hg : kcpSessionGone id c t = false := kcpSessionGone_of hs
  simp [kcpRun, kcpBegin_ready h hid, hb, hg, kcpOk, done]

/-- A command that its own checks refuse ends in `kcpNo`. -/
theorem kcp_no {id : Nat} {c : KcpCtx} {body : Nat → State → Reply} {s : State} {st : Status} {d : Nat}
    (h : kcpReady id 0 c s = true) (hid : id ≠ 0) (hb : body (s.kcpFn c) s = refuse st d s) :
    kcp id c body s = .next (kcpNo id c s st d) := by
  have hs : (s.kcpSession c).isSome = true := by
    unfold kcpReady at h
    cases hs : s.kcpSession c with
    | none => simp [hs] at h
    | some x => rfl
  have hg : kcpSessionGone id c s = false := kcpSessionGone_of hs
  simp [kcp, kcpRun, kcpBegin_ready h hid, hb, hg, kcpNo, done]

/-- A ready command's session is open. -/
theorem kcpReady_session {id extra : Nat} {c : KcpCtx} {s : State} (h : kcpReady id extra c s = true) :
    (s.kcpSession c).isSome = true := by
  unfold kcpReady at h
  cases hs : s.kcpSession c with
  | none => simp [hs] at h
  | some x => rfl

end Sys2Proof.Machine
end

