-- ==== Sys2Proof/Laws/Table.lean ====
section
/-! SUPPORT. The laws of sparse tables: what is read after a write, and that every operation keeps the canonical form. -/

namespace Sys2Proof.Machine

variable {α : Type}

/-- A table that rises above a bound rises above a lower one. -/
theorem tabRising_le {lo lo' : Nat} {t : Tab α} (h : tabRising lo t = true) (hl : lo' ≤ lo) : tabRising lo' t = true := by
  cases t with
  | nil => rfl
  | cons e t =>
    simp only [tabRising, Bool.and_eq_true, decide_eq_true_eq] at h ⊢
    exact ⟨Nat.le_trans hl h.1, h.2⟩

/-- Below a rising table's first key every key reads as the default. -/
theorem tabGetD_below {d : α} {lo k : Nat} {t : Tab α} (h : tabRising lo t = true) (hk : k < lo) : tabGetD d t k = d := by
  induction t generalizing lo with
  | nil => rfl
  | cons e t ih =>
    simp only [tabRising, Bool.and_eq_true, decide_eq_true_eq] at h
    have : e.1 ≠ k := by omega
    simp only [tabGetD, this, if_false]
    exact ih h.2 (by omega)

/-- An insertion keeps the keys rising. -/
theorem tabInsert_rising {lo k : Nat} {v : α} {t : Tab α} (h : tabRising lo t = true) (hk : lo ≤ k) :
    tabRising lo (tabInsert t k v) = true := by
  induction t generalizing lo with
  | nil => simp [tabInsert, tabRising, hk]
  | cons e t ih =>
    simp only [tabRising, Bool.and_eq_true, decide_eq_true_eq] at h
    unfold tabInsert
    split
    · rename_i hlt; simp [tabRising, hk, h.2, hlt]
    · split
      · rename_i hge heq; subst heq; simp [tabRising, h]
      · rename_i hge hne
        simp only [tabRising, Bool.and_eq_true, decide_eq_true_eq]
        exact ⟨h.1, ih h.2 (by omega)⟩

/-- An erasure keeps the keys rising. -/
theorem tabErase_rising {lo k : Nat} {t : Tab α} (h : tabRising lo t = true) : tabRising lo (tabErase t k) = true := by
  induction t generalizing lo with
  | nil => rfl
  | cons e t ih =>
    simp only [tabRising, Bool.and_eq_true, decide_eq_true_eq] at h
    unfold tabErase
    split
    · exact ih (tabRising_le h.2 (by omega))
    · simp only [tabRising, Bool.and_eq_true, decide_eq_true_eq]
      exact ⟨h.1, ih h.2⟩

/-- A selection keeps the keys rising. -/
theorem tabKeep_rising {lo : Nat} {p : Nat → α → Bool} {t : Tab α} (h : tabRising lo t = true) : tabRising lo (tabKeep p t) = true := by
  induction t generalizing lo with
  | nil => rfl
  | cons e t ih =>
    simp only [tabRising, Bool.and_eq_true, decide_eq_true_eq] at h
    unfold tabKeep at ih ⊢
    rw [List.filter_cons]
    split
    · simp only [tabRising, Bool.and_eq_true, decide_eq_true_eq]; exact ⟨h.1, ih h.2⟩
    · exact tabRising_le (ih h.2) (by omega)

/-- What an insertion lists. -/
theorem tabInsert_all {p : Nat × α → Bool} {k : Nat} {v : α} {t : Tab α} (h : t.all p = true) (hv : p (k, v) = true) :
    (tabInsert t k v).all p = true := by
  induction t with
  | nil => simp [tabInsert, hv]
  | cons e t ih =>
    simp only [List.all_cons, Bool.and_eq_true] at h
    unfold tabInsert
    split
    · simp [hv, h]
    · split
      · simp [hv, h]
      · simp [h, ih h.2]

/-- What an erasure leaves listed. -/
theorem tabErase_all {p : Nat × α → Bool} {k : Nat} {t : Tab α} (h : t.all p = true) : (tabErase t k).all p = true := by
  induction t with
  | nil => rfl
  | cons e t ih =>
    simp only [List.all_cons, Bool.and_eq_true] at h
    unfold tabErase
    split
    · exact ih h.2
    · simp [h, ih h.2]

/-- What a key reads as after an insertion. -/
theorem tabGetD_insert {d : α} {k j : Nat} {v : α} {t : Tab α} :
    tabGetD d (tabInsert t k v) j = if j = k then v else tabGetD d t j := by
  induction t with
  | nil => simp only [tabInsert, tabGetD, eq_comm]
  | cons e t ih =>
    obtain ⟨i, w⟩ := e
    unfold tabInsert
    split
    · by_cases hj : j = k
      · subst hj; simp [tabGetD]
      · simp [tabGetD, hj, Ne.symm hj]
    · split
      · rename_i heq
        subst heq
        by_cases hj : j = k
        · subst hj; simp [tabGetD]
        · simp [tabGetD, hj, Ne.symm hj]
      · rename_i hne
        simp only [tabGetD]
        by_cases hi : i = j
        · subst hi; simp [Ne.symm hne]
        · simp only [hi, if_false]; exact ih

/-- What a key reads as after an erasure. -/
theorem tabGetD_erase {d : α} {k j : Nat} {t : Tab α} :
    tabGetD d (tabErase t k) j = if j = k then d else tabGetD d t j := by
  induction t with
  | nil => simp [tabErase, tabGetD]
  | cons e t ih =>
    obtain ⟨i, w⟩ := e
    unfold tabErase
    split
    · rename_i hik
      subst hik
      by_cases hj : j = i
      · subst hj; simpa using ih
      · simp [tabGetD, hj, Ne.symm hj, ih]
    · rename_i hik
      simp only [tabGetD]
      by_cases hij : i = j
      · subst hij; simp [hik]
      · simp only [hij, if_false]; exact ih

variable [DecidableEq α]

/-- A write keeps the canonical form. -/
theorem tabSetD_wf {d : α} {t : Tab α} {k : Nat} {v : α} (h : tabWf d t = true) : tabWf d (tabSetD d t k v) = true := by
  unfold tabWf at h ⊢
  rw [Bool.and_eq_true] at h ⊢
  unfold tabSetD
  split
  · exact ⟨tabErase_rising h.1, tabErase_all h.2⟩
  · rename_i hv; exact ⟨tabInsert_rising h.1 (Nat.zero_le _), tabInsert_all h.2 (by simp [hv])⟩

/-- A selection keeps the canonical form. -/
theorem tabKeep_wf {d : α} {t : Tab α} {p : Nat → α → Bool} (h : tabWf d t = true) : tabWf d (tabKeep p t) = true := by
  unfold tabWf at h ⊢
  rw [Bool.and_eq_true] at h ⊢
  refine ⟨tabKeep_rising h.1, ?_⟩
  rw [List.all_eq_true] at h ⊢
  intro x hx
  exact h.2 x (List.mem_of_mem_filter hx)

/-- A write changes the key written and no other. -/
theorem tabGetD_setD {d : α} {t : Tab α} {k j : Nat} {v : α} :
    tabGetD d (tabSetD d t k v) j = if j = k then v else tabGetD d t j := by
  unfold tabSetD
  split
  · rename_i hv; rw [tabGetD_erase, hv]
  · exact tabGetD_insert

/-- A change of one entry changes that entry and no other. -/
@[simp] theorem tabGet_mod [Inhabited α] {t : Tab α} {k j : Nat} {f : α → α} :
    tabGet (tabMod t k f) j = if j = k then f (tabGet t k) else tabGet t j := tabGetD_setD

/-- A write of one entry changes that entry and no other. -/
@[simp] theorem tabGet_set [Inhabited α] {t : Tab α} {k j : Nat} {v : α} :
    tabGet (tabSet t k v) j = if j = k then v else tabGet t j := tabGetD_setD

end Sys2Proof.Machine
end

