-- ==== Sys2Proof/Laws/State.lean ====
section
/-! SUPPORT. What each update of the state leaves in each field, so that no proof unfolds an update: a block's update block by block; an
entry's update as its own entry, every other entry and every other block. -/

namespace Sys2Proof.Machine

/-! ### One block -/

@[simp] theorem State.modAdt_pending {f} {s : State} : (s.modAdt f).pending = s.pending := rfl
@[simp] theorem State.modAdt_boot {f} {s : State} : (s.modAdt f).boot = s.boot := rfl
@[simp] theorem State.modAdt_bootMram {f} {s : State} : (s.modAdt f).bootMram = s.bootMram := rfl
@[simp] theorem State.modAdt_pins {f} {s : State} : (s.modAdt f).pins = s.pins := rfl
@[simp] theorem State.modAdt_clk {f} {s : State} : (s.modAdt f).clk = s.clk := rfl
@[simp] theorem State.modAdt_pace {f} {s : State} : (s.modAdt f).pace = s.pace := rfl
@[simp] theorem State.modAdt_paceMram {f} {s : State} : (s.modAdt f).paceMram = s.paceMram := rfl
@[simp] theorem State.modAdt_mem {f} {s : State} : (s.modAdt f).mem = s.mem := rfl
@[simp] theorem State.modAdt_host {f} {s : State} : (s.modAdt f).host = s.host := rfl
@[simp] theorem State.modAdt_netMgmt {f} {s : State} : (s.modAdt f).netMgmt = s.netMgmt := rfl
@[simp] theorem State.modAdt_netKeys {f} {s : State} : (s.modAdt f).netKeys = s.netKeys := rfl
@[simp] theorem State.modAdt_intc {f} {s : State} : (s.modAdt f).intc = s.intc := rfl
@[simp] theorem State.modAdt_flt {f} {s : State} : (s.modAdt f).flt = s.flt := rfl
@[simp] theorem State.modAdt_fltMram {f} {s : State} : (s.modAdt f).fltMram = s.fltMram := rfl
@[simp] theorem State.modAdt_truss {f} {s : State} : (s.modAdt f).truss = s.truss := rfl
@[simp] theorem State.modAdt_seq {f} {s : State} : (s.modAdt f).seq = s.seq := rfl
@[simp] theorem State.modAdt_heads {f} {s : State} : (s.modAdt f).heads = s.heads := rfl
@[simp] theorem State.modAdt_adt {f} {s : State} : (s.modAdt f).adt = f s.adt := rfl
@[simp] theorem State.modAdt_adtCfg {f} {s : State} : (s.modAdt f).adtCfg = s.adtCfg := rfl
@[simp] theorem State.modAdt_net {f} {s : State} : (s.modAdt f).net = s.net := rfl
@[simp] theorem State.modAdt_netMram {f} {s : State} : (s.modAdt f).netMram = s.netMram := rfl
@[simp] theorem State.modAdt_dma {f} {s : State} : (s.modAdt f).dma = s.dma := rfl
@[simp] theorem State.modAdt_svc {f} {s : State} : (s.modAdt f).svc = s.svc := rfl
@[simp] theorem State.modAdt_svcMram {f} {s : State} : (s.modAdt f).svcMram = s.svcMram := rfl
@[simp] theorem State.modAdt_sec {f} {s : State} : (s.modAdt f).sec = s.sec := rfl
@[simp] theorem State.modAdt_secMram {f} {s : State} : (s.modAdt f).secMram = s.secMram := rfl
@[simp] theorem State.modAdt_pmu {f} {s : State} : (s.modAdt f).pmu = s.pmu := rfl
@[simp] theorem State.modAdt_pmuMram {f} {s : State} : (s.modAdt f).pmuMram = s.pmuMram := rfl
@[simp] theorem State.modAdt_free {f} {s : State} : (s.modAdt f).free = s.free := rfl
@[simp] theorem State.modAdt_out {f} {s : State} : (s.modAdt f).out = s.out := rfl

@[simp] theorem State.modBoot_pending {f} {s : State} : (s.modBoot f).pending = s.pending := rfl
@[simp] theorem State.modBoot_boot {f} {s : State} : (s.modBoot f).boot = f s.boot := rfl
@[simp] theorem State.modBoot_bootMram {f} {s : State} : (s.modBoot f).bootMram = s.bootMram := rfl
@[simp] theorem State.modBoot_pins {f} {s : State} : (s.modBoot f).pins = s.pins := rfl
@[simp] theorem State.modBoot_clk {f} {s : State} : (s.modBoot f).clk = s.clk := rfl
@[simp] theorem State.modBoot_pace {f} {s : State} : (s.modBoot f).pace = s.pace := rfl
@[simp] theorem State.modBoot_paceMram {f} {s : State} : (s.modBoot f).paceMram = s.paceMram := rfl
@[simp] theorem State.modBoot_mem {f} {s : State} : (s.modBoot f).mem = s.mem := rfl
@[simp] theorem State.modBoot_host {f} {s : State} : (s.modBoot f).host = s.host := rfl
@[simp] theorem State.modBoot_netMgmt {f} {s : State} : (s.modBoot f).netMgmt = s.netMgmt := rfl
@[simp] theorem State.modBoot_netKeys {f} {s : State} : (s.modBoot f).netKeys = s.netKeys := rfl
@[simp] theorem State.modBoot_intc {f} {s : State} : (s.modBoot f).intc = s.intc := rfl
@[simp] theorem State.modBoot_flt {f} {s : State} : (s.modBoot f).flt = s.flt := rfl
@[simp] theorem State.modBoot_fltMram {f} {s : State} : (s.modBoot f).fltMram = s.fltMram := rfl
@[simp] theorem State.modBoot_truss {f} {s : State} : (s.modBoot f).truss = s.truss := rfl
@[simp] theorem State.modBoot_seq {f} {s : State} : (s.modBoot f).seq = s.seq := rfl
@[simp] theorem State.modBoot_heads {f} {s : State} : (s.modBoot f).heads = s.heads := rfl
@[simp] theorem State.modBoot_adt {f} {s : State} : (s.modBoot f).adt = s.adt := rfl
@[simp] theorem State.modBoot_adtCfg {f} {s : State} : (s.modBoot f).adtCfg = s.adtCfg := rfl
@[simp] theorem State.modBoot_net {f} {s : State} : (s.modBoot f).net = s.net := rfl
@[simp] theorem State.modBoot_netMram {f} {s : State} : (s.modBoot f).netMram = s.netMram := rfl
@[simp] theorem State.modBoot_dma {f} {s : State} : (s.modBoot f).dma = s.dma := rfl
@[simp] theorem State.modBoot_svc {f} {s : State} : (s.modBoot f).svc = s.svc := rfl
@[simp] theorem State.modBoot_svcMram {f} {s : State} : (s.modBoot f).svcMram = s.svcMram := rfl
@[simp] theorem State.modBoot_sec {f} {s : State} : (s.modBoot f).sec = s.sec := rfl
@[simp] theorem State.modBoot_secMram {f} {s : State} : (s.modBoot f).secMram = s.secMram := rfl
@[simp] theorem State.modBoot_pmu {f} {s : State} : (s.modBoot f).pmu = s.pmu := rfl
@[simp] theorem State.modBoot_pmuMram {f} {s : State} : (s.modBoot f).pmuMram = s.pmuMram := rfl
@[simp] theorem State.modBoot_free {f} {s : State} : (s.modBoot f).free = s.free := rfl
@[simp] theorem State.modBoot_out {f} {s : State} : (s.modBoot f).out = s.out := rfl

@[simp] theorem State.modBootMram_pending {f} {s : State} : (s.modBootMram f).pending = s.pending := rfl
@[simp] theorem State.modBootMram_boot {f} {s : State} : (s.modBootMram f).boot = s.boot := rfl
@[simp] theorem State.modBootMram_bootMram {f} {s : State} : (s.modBootMram f).bootMram = f s.bootMram := rfl
@[simp] theorem State.modBootMram_pins {f} {s : State} : (s.modBootMram f).pins = s.pins := rfl
@[simp] theorem State.modBootMram_clk {f} {s : State} : (s.modBootMram f).clk = s.clk := rfl
@[simp] theorem State.modBootMram_pace {f} {s : State} : (s.modBootMram f).pace = s.pace := rfl
@[simp] theorem State.modBootMram_paceMram {f} {s : State} : (s.modBootMram f).paceMram = s.paceMram := rfl
@[simp] theorem State.modBootMram_mem {f} {s : State} : (s.modBootMram f).mem = s.mem := rfl
@[simp] theorem State.modBootMram_host {f} {s : State} : (s.modBootMram f).host = s.host := rfl
@[simp] theorem State.modBootMram_netMgmt {f} {s : State} : (s.modBootMram f).netMgmt = s.netMgmt := rfl
@[simp] theorem State.modBootMram_netKeys {f} {s : State} : (s.modBootMram f).netKeys = s.netKeys := rfl
@[simp] theorem State.modBootMram_intc {f} {s : State} : (s.modBootMram f).intc = s.intc := rfl
@[simp] theorem State.modBootMram_flt {f} {s : State} : (s.modBootMram f).flt = s.flt := rfl
@[simp] theorem State.modBootMram_fltMram {f} {s : State} : (s.modBootMram f).fltMram = s.fltMram := rfl
@[simp] theorem State.modBootMram_truss {f} {s : State} : (s.modBootMram f).truss = s.truss := rfl
@[simp] theorem State.modBootMram_seq {f} {s : State} : (s.modBootMram f).seq = s.seq := rfl
@[simp] theorem State.modBootMram_heads {f} {s : State} : (s.modBootMram f).heads = s.heads := rfl
@[simp] theorem State.modBootMram_adt {f} {s : State} : (s.modBootMram f).adt = s.adt := rfl
@[simp] theorem State.modBootMram_adtCfg {f} {s : State} : (s.modBootMram f).adtCfg = s.adtCfg := rfl
@[simp] theorem State.modBootMram_net {f} {s : State} : (s.modBootMram f).net = s.net := rfl
@[simp] theorem State.modBootMram_netMram {f} {s : State} : (s.modBootMram f).netMram = s.netMram := rfl
@[simp] theorem State.modBootMram_dma {f} {s : State} : (s.modBootMram f).dma = s.dma := rfl
@[simp] theorem State.modBootMram_svc {f} {s : State} : (s.modBootMram f).svc = s.svc := rfl
@[simp] theorem State.modBootMram_svcMram {f} {s : State} : (s.modBootMram f).svcMram = s.svcMram := rfl
@[simp] theorem State.modBootMram_sec {f} {s : State} : (s.modBootMram f).sec = s.sec := rfl
@[simp] theorem State.modBootMram_secMram {f} {s : State} : (s.modBootMram f).secMram = s.secMram := rfl
@[simp] theorem State.modBootMram_pmu {f} {s : State} : (s.modBootMram f).pmu = s.pmu := rfl
@[simp] theorem State.modBootMram_pmuMram {f} {s : State} : (s.modBootMram f).pmuMram = s.pmuMram := rfl
@[simp] theorem State.modBootMram_free {f} {s : State} : (s.modBootMram f).free = s.free := rfl
@[simp] theorem State.modBootMram_out {f} {s : State} : (s.modBootMram f).out = s.out := rfl

@[simp] theorem State.modClk_pending {f} {s : State} : (s.modClk f).pending = s.pending := rfl
@[simp] theorem State.modClk_boot {f} {s : State} : (s.modClk f).boot = s.boot := rfl
@[simp] theorem State.modClk_bootMram {f} {s : State} : (s.modClk f).bootMram = s.bootMram := rfl
@[simp] theorem State.modClk_pins {f} {s : State} : (s.modClk f).pins = s.pins := rfl
@[simp] theorem State.modClk_clk {f} {s : State} : (s.modClk f).clk = f s.clk := rfl
@[simp] theorem State.modClk_pace {f} {s : State} : (s.modClk f).pace = s.pace := rfl
@[simp] theorem State.modClk_paceMram {f} {s : State} : (s.modClk f).paceMram = s.paceMram := rfl
@[simp] theorem State.modClk_mem {f} {s : State} : (s.modClk f).mem = s.mem := rfl
@[simp] theorem State.modClk_host {f} {s : State} : (s.modClk f).host = s.host := rfl
@[simp] theorem State.modClk_netMgmt {f} {s : State} : (s.modClk f).netMgmt = s.netMgmt := rfl
@[simp] theorem State.modClk_netKeys {f} {s : State} : (s.modClk f).netKeys = s.netKeys := rfl
@[simp] theorem State.modClk_intc {f} {s : State} : (s.modClk f).intc = s.intc := rfl
@[simp] theorem State.modClk_flt {f} {s : State} : (s.modClk f).flt = s.flt := rfl
@[simp] theorem State.modClk_fltMram {f} {s : State} : (s.modClk f).fltMram = s.fltMram := rfl
@[simp] theorem State.modClk_truss {f} {s : State} : (s.modClk f).truss = s.truss := rfl
@[simp] theorem State.modClk_seq {f} {s : State} : (s.modClk f).seq = s.seq := rfl
@[simp] theorem State.modClk_heads {f} {s : State} : (s.modClk f).heads = s.heads := rfl
@[simp] theorem State.modClk_adt {f} {s : State} : (s.modClk f).adt = s.adt := rfl
@[simp] theorem State.modClk_adtCfg {f} {s : State} : (s.modClk f).adtCfg = s.adtCfg := rfl
@[simp] theorem State.modClk_net {f} {s : State} : (s.modClk f).net = s.net := rfl
@[simp] theorem State.modClk_netMram {f} {s : State} : (s.modClk f).netMram = s.netMram := rfl
@[simp] theorem State.modClk_dma {f} {s : State} : (s.modClk f).dma = s.dma := rfl
@[simp] theorem State.modClk_svc {f} {s : State} : (s.modClk f).svc = s.svc := rfl
@[simp] theorem State.modClk_svcMram {f} {s : State} : (s.modClk f).svcMram = s.svcMram := rfl
@[simp] theorem State.modClk_sec {f} {s : State} : (s.modClk f).sec = s.sec := rfl
@[simp] theorem State.modClk_secMram {f} {s : State} : (s.modClk f).secMram = s.secMram := rfl
@[simp] theorem State.modClk_pmu {f} {s : State} : (s.modClk f).pmu = s.pmu := rfl
@[simp] theorem State.modClk_pmuMram {f} {s : State} : (s.modClk f).pmuMram = s.pmuMram := rfl
@[simp] theorem State.modClk_free {f} {s : State} : (s.modClk f).free = s.free := rfl
@[simp] theorem State.modClk_out {f} {s : State} : (s.modClk f).out = s.out := rfl

@[simp] theorem State.modDma_pending {f} {s : State} : (s.modDma f).pending = s.pending := rfl
@[simp] theorem State.modDma_boot {f} {s : State} : (s.modDma f).boot = s.boot := rfl
@[simp] theorem State.modDma_bootMram {f} {s : State} : (s.modDma f).bootMram = s.bootMram := rfl
@[simp] theorem State.modDma_pins {f} {s : State} : (s.modDma f).pins = s.pins := rfl
@[simp] theorem State.modDma_clk {f} {s : State} : (s.modDma f).clk = s.clk := rfl
@[simp] theorem State.modDma_pace {f} {s : State} : (s.modDma f).pace = s.pace := rfl
@[simp] theorem State.modDma_paceMram {f} {s : State} : (s.modDma f).paceMram = s.paceMram := rfl
@[simp] theorem State.modDma_mem {f} {s : State} : (s.modDma f).mem = s.mem := rfl
@[simp] theorem State.modDma_host {f} {s : State} : (s.modDma f).host = s.host := rfl
@[simp] theorem State.modDma_netMgmt {f} {s : State} : (s.modDma f).netMgmt = s.netMgmt := rfl
@[simp] theorem State.modDma_netKeys {f} {s : State} : (s.modDma f).netKeys = s.netKeys := rfl
@[simp] theorem State.modDma_intc {f} {s : State} : (s.modDma f).intc = s.intc := rfl
@[simp] theorem State.modDma_flt {f} {s : State} : (s.modDma f).flt = s.flt := rfl
@[simp] theorem State.modDma_fltMram {f} {s : State} : (s.modDma f).fltMram = s.fltMram := rfl
@[simp] theorem State.modDma_truss {f} {s : State} : (s.modDma f).truss = s.truss := rfl
@[simp] theorem State.modDma_seq {f} {s : State} : (s.modDma f).seq = s.seq := rfl
@[simp] theorem State.modDma_heads {f} {s : State} : (s.modDma f).heads = s.heads := rfl
@[simp] theorem State.modDma_adt {f} {s : State} : (s.modDma f).adt = s.adt := rfl
@[simp] theorem State.modDma_adtCfg {f} {s : State} : (s.modDma f).adtCfg = s.adtCfg := rfl
@[simp] theorem State.modDma_net {f} {s : State} : (s.modDma f).net = s.net := rfl
@[simp] theorem State.modDma_netMram {f} {s : State} : (s.modDma f).netMram = s.netMram := rfl
@[simp] theorem State.modDma_dma {f} {s : State} : (s.modDma f).dma = f s.dma := rfl
@[simp] theorem State.modDma_svc {f} {s : State} : (s.modDma f).svc = s.svc := rfl
@[simp] theorem State.modDma_svcMram {f} {s : State} : (s.modDma f).svcMram = s.svcMram := rfl
@[simp] theorem State.modDma_sec {f} {s : State} : (s.modDma f).sec = s.sec := rfl
@[simp] theorem State.modDma_secMram {f} {s : State} : (s.modDma f).secMram = s.secMram := rfl
@[simp] theorem State.modDma_pmu {f} {s : State} : (s.modDma f).pmu = s.pmu := rfl
@[simp] theorem State.modDma_pmuMram {f} {s : State} : (s.modDma f).pmuMram = s.pmuMram := rfl
@[simp] theorem State.modDma_free {f} {s : State} : (s.modDma f).free = s.free := rfl
@[simp] theorem State.modDma_out {f} {s : State} : (s.modDma f).out = s.out := rfl

@[simp] theorem State.modFlt_pending {f} {s : State} : (s.modFlt f).pending = s.pending := rfl
@[simp] theorem State.modFlt_boot {f} {s : State} : (s.modFlt f).boot = s.boot := rfl
@[simp] theorem State.modFlt_bootMram {f} {s : State} : (s.modFlt f).bootMram = s.bootMram := rfl
@[simp] theorem State.modFlt_pins {f} {s : State} : (s.modFlt f).pins = s.pins := rfl
@[simp] theorem State.modFlt_clk {f} {s : State} : (s.modFlt f).clk = s.clk := rfl
@[simp] theorem State.modFlt_pace {f} {s : State} : (s.modFlt f).pace = s.pace := rfl
@[simp] theorem State.modFlt_paceMram {f} {s : State} : (s.modFlt f).paceMram = s.paceMram := rfl
@[simp] theorem State.modFlt_mem {f} {s : State} : (s.modFlt f).mem = s.mem := rfl
@[simp] theorem State.modFlt_host {f} {s : State} : (s.modFlt f).host = s.host := rfl
@[simp] theorem State.modFlt_netMgmt {f} {s : State} : (s.modFlt f).netMgmt = s.netMgmt := rfl
@[simp] theorem State.modFlt_netKeys {f} {s : State} : (s.modFlt f).netKeys = s.netKeys := rfl
@[simp] theorem State.modFlt_intc {f} {s : State} : (s.modFlt f).intc = s.intc := rfl
@[simp] theorem State.modFlt_flt {f} {s : State} : (s.modFlt f).flt = f s.flt := rfl
@[simp] theorem State.modFlt_fltMram {f} {s : State} : (s.modFlt f).fltMram = s.fltMram := rfl
@[simp] theorem State.modFlt_truss {f} {s : State} : (s.modFlt f).truss = s.truss := rfl
@[simp] theorem State.modFlt_seq {f} {s : State} : (s.modFlt f).seq = s.seq := rfl
@[simp] theorem State.modFlt_heads {f} {s : State} : (s.modFlt f).heads = s.heads := rfl
@[simp] theorem State.modFlt_adt {f} {s : State} : (s.modFlt f).adt = s.adt := rfl
@[simp] theorem State.modFlt_adtCfg {f} {s : State} : (s.modFlt f).adtCfg = s.adtCfg := rfl
@[simp] theorem State.modFlt_net {f} {s : State} : (s.modFlt f).net = s.net := rfl
@[simp] theorem State.modFlt_netMram {f} {s : State} : (s.modFlt f).netMram = s.netMram := rfl
@[simp] theorem State.modFlt_dma {f} {s : State} : (s.modFlt f).dma = s.dma := rfl
@[simp] theorem State.modFlt_svc {f} {s : State} : (s.modFlt f).svc = s.svc := rfl
@[simp] theorem State.modFlt_svcMram {f} {s : State} : (s.modFlt f).svcMram = s.svcMram := rfl
@[simp] theorem State.modFlt_sec {f} {s : State} : (s.modFlt f).sec = s.sec := rfl
@[simp] theorem State.modFlt_secMram {f} {s : State} : (s.modFlt f).secMram = s.secMram := rfl
@[simp] theorem State.modFlt_pmu {f} {s : State} : (s.modFlt f).pmu = s.pmu := rfl
@[simp] theorem State.modFlt_pmuMram {f} {s : State} : (s.modFlt f).pmuMram = s.pmuMram := rfl
@[simp] theorem State.modFlt_free {f} {s : State} : (s.modFlt f).free = s.free := rfl
@[simp] theorem State.modFlt_out {f} {s : State} : (s.modFlt f).out = s.out := rfl

@[simp] theorem State.modFltMram_pending {f} {s : State} : (s.modFltMram f).pending = s.pending := rfl
@[simp] theorem State.modFltMram_boot {f} {s : State} : (s.modFltMram f).boot = s.boot := rfl
@[simp] theorem State.modFltMram_bootMram {f} {s : State} : (s.modFltMram f).bootMram = s.bootMram := rfl
@[simp] theorem State.modFltMram_pins {f} {s : State} : (s.modFltMram f).pins = s.pins := rfl
@[simp] theorem State.modFltMram_clk {f} {s : State} : (s.modFltMram f).clk = s.clk := rfl
@[simp] theorem State.modFltMram_pace {f} {s : State} : (s.modFltMram f).pace = s.pace := rfl
@[simp] theorem State.modFltMram_paceMram {f} {s : State} : (s.modFltMram f).paceMram = s.paceMram := rfl
@[simp] theorem State.modFltMram_mem {f} {s : State} : (s.modFltMram f).mem = s.mem := rfl
@[simp] theorem State.modFltMram_host {f} {s : State} : (s.modFltMram f).host = s.host := rfl
@[simp] theorem State.modFltMram_netMgmt {f} {s : State} : (s.modFltMram f).netMgmt = s.netMgmt := rfl
@[simp] theorem State.modFltMram_netKeys {f} {s : State} : (s.modFltMram f).netKeys = s.netKeys := rfl
@[simp] theorem State.modFltMram_intc {f} {s : State} : (s.modFltMram f).intc = s.intc := rfl
@[simp] theorem State.modFltMram_flt {f} {s : State} : (s.modFltMram f).flt = s.flt := rfl
@[simp] theorem State.modFltMram_fltMram {f} {s : State} : (s.modFltMram f).fltMram = f s.fltMram := rfl
@[simp] theorem State.modFltMram_truss {f} {s : State} : (s.modFltMram f).truss = s.truss := rfl
@[simp] theorem State.modFltMram_seq {f} {s : State} : (s.modFltMram f).seq = s.seq := rfl
@[simp] theorem State.modFltMram_heads {f} {s : State} : (s.modFltMram f).heads = s.heads := rfl
@[simp] theorem State.modFltMram_adt {f} {s : State} : (s.modFltMram f).adt = s.adt := rfl
@[simp] theorem State.modFltMram_adtCfg {f} {s : State} : (s.modFltMram f).adtCfg = s.adtCfg := rfl
@[simp] theorem State.modFltMram_net {f} {s : State} : (s.modFltMram f).net = s.net := rfl
@[simp] theorem State.modFltMram_netMram {f} {s : State} : (s.modFltMram f).netMram = s.netMram := rfl
@[simp] theorem State.modFltMram_dma {f} {s : State} : (s.modFltMram f).dma = s.dma := rfl
@[simp] theorem State.modFltMram_svc {f} {s : State} : (s.modFltMram f).svc = s.svc := rfl
@[simp] theorem State.modFltMram_svcMram {f} {s : State} : (s.modFltMram f).svcMram = s.svcMram := rfl
@[simp] theorem State.modFltMram_sec {f} {s : State} : (s.modFltMram f).sec = s.sec := rfl
@[simp] theorem State.modFltMram_secMram {f} {s : State} : (s.modFltMram f).secMram = s.secMram := rfl
@[simp] theorem State.modFltMram_pmu {f} {s : State} : (s.modFltMram f).pmu = s.pmu := rfl
@[simp] theorem State.modFltMram_pmuMram {f} {s : State} : (s.modFltMram f).pmuMram = s.pmuMram := rfl
@[simp] theorem State.modFltMram_free {f} {s : State} : (s.modFltMram f).free = s.free := rfl
@[simp] theorem State.modFltMram_out {f} {s : State} : (s.modFltMram f).out = s.out := rfl

@[simp] theorem State.modHost_pending {f} {s : State} : (s.modHost f).pending = s.pending := rfl
@[simp] theorem State.modHost_boot {f} {s : State} : (s.modHost f).boot = s.boot := rfl
@[simp] theorem State.modHost_bootMram {f} {s : State} : (s.modHost f).bootMram = s.bootMram := rfl
@[simp] theorem State.modHost_pins {f} {s : State} : (s.modHost f).pins = s.pins := rfl
@[simp] theorem State.modHost_clk {f} {s : State} : (s.modHost f).clk = s.clk := rfl
@[simp] theorem State.modHost_pace {f} {s : State} : (s.modHost f).pace = s.pace := rfl
@[simp] theorem State.modHost_paceMram {f} {s : State} : (s.modHost f).paceMram = s.paceMram := rfl
@[simp] theorem State.modHost_mem {f} {s : State} : (s.modHost f).mem = s.mem := rfl
@[simp] theorem State.modHost_host {f} {s : State} : (s.modHost f).host = f s.host := rfl
@[simp] theorem State.modHost_netMgmt {f} {s : State} : (s.modHost f).netMgmt = s.netMgmt := rfl
@[simp] theorem State.modHost_netKeys {f} {s : State} : (s.modHost f).netKeys = s.netKeys := rfl
@[simp] theorem State.modHost_intc {f} {s : State} : (s.modHost f).intc = s.intc := rfl
@[simp] theorem State.modHost_flt {f} {s : State} : (s.modHost f).flt = s.flt := rfl
@[simp] theorem State.modHost_fltMram {f} {s : State} : (s.modHost f).fltMram = s.fltMram := rfl
@[simp] theorem State.modHost_truss {f} {s : State} : (s.modHost f).truss = s.truss := rfl
@[simp] theorem State.modHost_seq {f} {s : State} : (s.modHost f).seq = s.seq := rfl
@[simp] theorem State.modHost_heads {f} {s : State} : (s.modHost f).heads = s.heads := rfl
@[simp] theorem State.modHost_adt {f} {s : State} : (s.modHost f).adt = s.adt := rfl
@[simp] theorem State.modHost_adtCfg {f} {s : State} : (s.modHost f).adtCfg = s.adtCfg := rfl
@[simp] theorem State.modHost_net {f} {s : State} : (s.modHost f).net = s.net := rfl
@[simp] theorem State.modHost_netMram {f} {s : State} : (s.modHost f).netMram = s.netMram := rfl
@[simp] theorem State.modHost_dma {f} {s : State} : (s.modHost f).dma = s.dma := rfl
@[simp] theorem State.modHost_svc {f} {s : State} : (s.modHost f).svc = s.svc := rfl
@[simp] theorem State.modHost_svcMram {f} {s : State} : (s.modHost f).svcMram = s.svcMram := rfl
@[simp] theorem State.modHost_sec {f} {s : State} : (s.modHost f).sec = s.sec := rfl
@[simp] theorem State.modHost_secMram {f} {s : State} : (s.modHost f).secMram = s.secMram := rfl
@[simp] theorem State.modHost_pmu {f} {s : State} : (s.modHost f).pmu = s.pmu := rfl
@[simp] theorem State.modHost_pmuMram {f} {s : State} : (s.modHost f).pmuMram = s.pmuMram := rfl
@[simp] theorem State.modHost_free {f} {s : State} : (s.modHost f).free = s.free := rfl
@[simp] theorem State.modHost_out {f} {s : State} : (s.modHost f).out = s.out := rfl

@[simp] theorem State.modIntc_pending {f} {s : State} : (s.modIntc f).pending = s.pending := rfl
@[simp] theorem State.modIntc_boot {f} {s : State} : (s.modIntc f).boot = s.boot := rfl
@[simp] theorem State.modIntc_bootMram {f} {s : State} : (s.modIntc f).bootMram = s.bootMram := rfl
@[simp] theorem State.modIntc_pins {f} {s : State} : (s.modIntc f).pins = s.pins := rfl
@[simp] theorem State.modIntc_clk {f} {s : State} : (s.modIntc f).clk = s.clk := rfl
@[simp] theorem State.modIntc_pace {f} {s : State} : (s.modIntc f).pace = s.pace := rfl
@[simp] theorem State.modIntc_paceMram {f} {s : State} : (s.modIntc f).paceMram = s.paceMram := rfl
@[simp] theorem State.modIntc_mem {f} {s : State} : (s.modIntc f).mem = s.mem := rfl
@[simp] theorem State.modIntc_host {f} {s : State} : (s.modIntc f).host = s.host := rfl
@[simp] theorem State.modIntc_netMgmt {f} {s : State} : (s.modIntc f).netMgmt = s.netMgmt := rfl
@[simp] theorem State.modIntc_netKeys {f} {s : State} : (s.modIntc f).netKeys = s.netKeys := rfl
@[simp] theorem State.modIntc_intc {f} {s : State} : (s.modIntc f).intc = f s.intc := rfl
@[simp] theorem State.modIntc_flt {f} {s : State} : (s.modIntc f).flt = s.flt := rfl
@[simp] theorem State.modIntc_fltMram {f} {s : State} : (s.modIntc f).fltMram = s.fltMram := rfl
@[simp] theorem State.modIntc_truss {f} {s : State} : (s.modIntc f).truss = s.truss := rfl
@[simp] theorem State.modIntc_seq {f} {s : State} : (s.modIntc f).seq = s.seq := rfl
@[simp] theorem State.modIntc_heads {f} {s : State} : (s.modIntc f).heads = s.heads := rfl
@[simp] theorem State.modIntc_adt {f} {s : State} : (s.modIntc f).adt = s.adt := rfl
@[simp] theorem State.modIntc_adtCfg {f} {s : State} : (s.modIntc f).adtCfg = s.adtCfg := rfl
@[simp] theorem State.modIntc_net {f} {s : State} : (s.modIntc f).net = s.net := rfl
@[simp] theorem State.modIntc_netMram {f} {s : State} : (s.modIntc f).netMram = s.netMram := rfl
@[simp] theorem State.modIntc_dma {f} {s : State} : (s.modIntc f).dma = s.dma := rfl
@[simp] theorem State.modIntc_svc {f} {s : State} : (s.modIntc f).svc = s.svc := rfl
@[simp] theorem State.modIntc_svcMram {f} {s : State} : (s.modIntc f).svcMram = s.svcMram := rfl
@[simp] theorem State.modIntc_sec {f} {s : State} : (s.modIntc f).sec = s.sec := rfl
@[simp] theorem State.modIntc_secMram {f} {s : State} : (s.modIntc f).secMram = s.secMram := rfl
@[simp] theorem State.modIntc_pmu {f} {s : State} : (s.modIntc f).pmu = s.pmu := rfl
@[simp] theorem State.modIntc_pmuMram {f} {s : State} : (s.modIntc f).pmuMram = s.pmuMram := rfl
@[simp] theorem State.modIntc_free {f} {s : State} : (s.modIntc f).free = s.free := rfl
@[simp] theorem State.modIntc_out {f} {s : State} : (s.modIntc f).out = s.out := rfl

@[simp] theorem State.modNet_pending {f} {s : State} : (s.modNet f).pending = s.pending := rfl
@[simp] theorem State.modNet_boot {f} {s : State} : (s.modNet f).boot = s.boot := rfl
@[simp] theorem State.modNet_bootMram {f} {s : State} : (s.modNet f).bootMram = s.bootMram := rfl
@[simp] theorem State.modNet_pins {f} {s : State} : (s.modNet f).pins = s.pins := rfl
@[simp] theorem State.modNet_clk {f} {s : State} : (s.modNet f).clk = s.clk := rfl
@[simp] theorem State.modNet_pace {f} {s : State} : (s.modNet f).pace = s.pace := rfl
@[simp] theorem State.modNet_paceMram {f} {s : State} : (s.modNet f).paceMram = s.paceMram := rfl
@[simp] theorem State.modNet_mem {f} {s : State} : (s.modNet f).mem = s.mem := rfl
@[simp] theorem State.modNet_host {f} {s : State} : (s.modNet f).host = s.host := rfl
@[simp] theorem State.modNet_netMgmt {f} {s : State} : (s.modNet f).netMgmt = s.netMgmt := rfl
@[simp] theorem State.modNet_netKeys {f} {s : State} : (s.modNet f).netKeys = s.netKeys := rfl
@[simp] theorem State.modNet_intc {f} {s : State} : (s.modNet f).intc = s.intc := rfl
@[simp] theorem State.modNet_flt {f} {s : State} : (s.modNet f).flt = s.flt := rfl
@[simp] theorem State.modNet_fltMram {f} {s : State} : (s.modNet f).fltMram = s.fltMram := rfl
@[simp] theorem State.modNet_truss {f} {s : State} : (s.modNet f).truss = s.truss := rfl
@[simp] theorem State.modNet_seq {f} {s : State} : (s.modNet f).seq = s.seq := rfl
@[simp] theorem State.modNet_heads {f} {s : State} : (s.modNet f).heads = s.heads := rfl
@[simp] theorem State.modNet_adt {f} {s : State} : (s.modNet f).adt = s.adt := rfl
@[simp] theorem State.modNet_adtCfg {f} {s : State} : (s.modNet f).adtCfg = s.adtCfg := rfl
@[simp] theorem State.modNet_net {f} {s : State} : (s.modNet f).net = f s.net := rfl
@[simp] theorem State.modNet_netMram {f} {s : State} : (s.modNet f).netMram = s.netMram := rfl
@[simp] theorem State.modNet_dma {f} {s : State} : (s.modNet f).dma = s.dma := rfl
@[simp] theorem State.modNet_svc {f} {s : State} : (s.modNet f).svc = s.svc := rfl
@[simp] theorem State.modNet_svcMram {f} {s : State} : (s.modNet f).svcMram = s.svcMram := rfl
@[simp] theorem State.modNet_sec {f} {s : State} : (s.modNet f).sec = s.sec := rfl
@[simp] theorem State.modNet_secMram {f} {s : State} : (s.modNet f).secMram = s.secMram := rfl
@[simp] theorem State.modNet_pmu {f} {s : State} : (s.modNet f).pmu = s.pmu := rfl
@[simp] theorem State.modNet_pmuMram {f} {s : State} : (s.modNet f).pmuMram = s.pmuMram := rfl
@[simp] theorem State.modNet_free {f} {s : State} : (s.modNet f).free = s.free := rfl
@[simp] theorem State.modNet_out {f} {s : State} : (s.modNet f).out = s.out := rfl

@[simp] theorem State.modNetMram_pending {f} {s : State} : (s.modNetMram f).pending = s.pending := rfl
@[simp] theorem State.modNetMram_boot {f} {s : State} : (s.modNetMram f).boot = s.boot := rfl
@[simp] theorem State.modNetMram_bootMram {f} {s : State} : (s.modNetMram f).bootMram = s.bootMram := rfl
@[simp] theorem State.modNetMram_pins {f} {s : State} : (s.modNetMram f).pins = s.pins := rfl
@[simp] theorem State.modNetMram_clk {f} {s : State} : (s.modNetMram f).clk = s.clk := rfl
@[simp] theorem State.modNetMram_pace {f} {s : State} : (s.modNetMram f).pace = s.pace := rfl
@[simp] theorem State.modNetMram_paceMram {f} {s : State} : (s.modNetMram f).paceMram = s.paceMram := rfl
@[simp] theorem State.modNetMram_mem {f} {s : State} : (s.modNetMram f).mem = s.mem := rfl
@[simp] theorem State.modNetMram_host {f} {s : State} : (s.modNetMram f).host = s.host := rfl
@[simp] theorem State.modNetMram_netMgmt {f} {s : State} : (s.modNetMram f).netMgmt = s.netMgmt := rfl
@[simp] theorem State.modNetMram_netKeys {f} {s : State} : (s.modNetMram f).netKeys = s.netKeys := rfl
@[simp] theorem State.modNetMram_intc {f} {s : State} : (s.modNetMram f).intc = s.intc := rfl
@[simp] theorem State.modNetMram_flt {f} {s : State} : (s.modNetMram f).flt = s.flt := rfl
@[simp] theorem State.modNetMram_fltMram {f} {s : State} : (s.modNetMram f).fltMram = s.fltMram := rfl
@[simp] theorem State.modNetMram_truss {f} {s : State} : (s.modNetMram f).truss = s.truss := rfl
@[simp] theorem State.modNetMram_seq {f} {s : State} : (s.modNetMram f).seq = s.seq := rfl
@[simp] theorem State.modNetMram_heads {f} {s : State} : (s.modNetMram f).heads = s.heads := rfl
@[simp] theorem State.modNetMram_adt {f} {s : State} : (s.modNetMram f).adt = s.adt := rfl
@[simp] theorem State.modNetMram_adtCfg {f} {s : State} : (s.modNetMram f).adtCfg = s.adtCfg := rfl
@[simp] theorem State.modNetMram_net {f} {s : State} : (s.modNetMram f).net = s.net := rfl
@[simp] theorem State.modNetMram_netMram {f} {s : State} : (s.modNetMram f).netMram = f s.netMram := rfl
@[simp] theorem State.modNetMram_dma {f} {s : State} : (s.modNetMram f).dma = s.dma := rfl
@[simp] theorem State.modNetMram_svc {f} {s : State} : (s.modNetMram f).svc = s.svc := rfl
@[simp] theorem State.modNetMram_svcMram {f} {s : State} : (s.modNetMram f).svcMram = s.svcMram := rfl
@[simp] theorem State.modNetMram_sec {f} {s : State} : (s.modNetMram f).sec = s.sec := rfl
@[simp] theorem State.modNetMram_secMram {f} {s : State} : (s.modNetMram f).secMram = s.secMram := rfl
@[simp] theorem State.modNetMram_pmu {f} {s : State} : (s.modNetMram f).pmu = s.pmu := rfl
@[simp] theorem State.modNetMram_pmuMram {f} {s : State} : (s.modNetMram f).pmuMram = s.pmuMram := rfl
@[simp] theorem State.modNetMram_free {f} {s : State} : (s.modNetMram f).free = s.free := rfl
@[simp] theorem State.modNetMram_out {f} {s : State} : (s.modNetMram f).out = s.out := rfl

@[simp] theorem State.modPace_pending {f} {s : State} : (s.modPace f).pending = s.pending := rfl
@[simp] theorem State.modPace_boot {f} {s : State} : (s.modPace f).boot = s.boot := rfl
@[simp] theorem State.modPace_bootMram {f} {s : State} : (s.modPace f).bootMram = s.bootMram := rfl
@[simp] theorem State.modPace_pins {f} {s : State} : (s.modPace f).pins = s.pins := rfl
@[simp] theorem State.modPace_clk {f} {s : State} : (s.modPace f).clk = s.clk := rfl
@[simp] theorem State.modPace_pace {f} {s : State} : (s.modPace f).pace = f s.pace := rfl
@[simp] theorem State.modPace_paceMram {f} {s : State} : (s.modPace f).paceMram = s.paceMram := rfl
@[simp] theorem State.modPace_mem {f} {s : State} : (s.modPace f).mem = s.mem := rfl
@[simp] theorem State.modPace_host {f} {s : State} : (s.modPace f).host = s.host := rfl
@[simp] theorem State.modPace_netMgmt {f} {s : State} : (s.modPace f).netMgmt = s.netMgmt := rfl
@[simp] theorem State.modPace_netKeys {f} {s : State} : (s.modPace f).netKeys = s.netKeys := rfl
@[simp] theorem State.modPace_intc {f} {s : State} : (s.modPace f).intc = s.intc := rfl
@[simp] theorem State.modPace_flt {f} {s : State} : (s.modPace f).flt = s.flt := rfl
@[simp] theorem State.modPace_fltMram {f} {s : State} : (s.modPace f).fltMram = s.fltMram := rfl
@[simp] theorem State.modPace_truss {f} {s : State} : (s.modPace f).truss = s.truss := rfl
@[simp] theorem State.modPace_seq {f} {s : State} : (s.modPace f).seq = s.seq := rfl
@[simp] theorem State.modPace_heads {f} {s : State} : (s.modPace f).heads = s.heads := rfl
@[simp] theorem State.modPace_adt {f} {s : State} : (s.modPace f).adt = s.adt := rfl
@[simp] theorem State.modPace_adtCfg {f} {s : State} : (s.modPace f).adtCfg = s.adtCfg := rfl
@[simp] theorem State.modPace_net {f} {s : State} : (s.modPace f).net = s.net := rfl
@[simp] theorem State.modPace_netMram {f} {s : State} : (s.modPace f).netMram = s.netMram := rfl
@[simp] theorem State.modPace_dma {f} {s : State} : (s.modPace f).dma = s.dma := rfl
@[simp] theorem State.modPace_svc {f} {s : State} : (s.modPace f).svc = s.svc := rfl
@[simp] theorem State.modPace_svcMram {f} {s : State} : (s.modPace f).svcMram = s.svcMram := rfl
@[simp] theorem State.modPace_sec {f} {s : State} : (s.modPace f).sec = s.sec := rfl
@[simp] theorem State.modPace_secMram {f} {s : State} : (s.modPace f).secMram = s.secMram := rfl
@[simp] theorem State.modPace_pmu {f} {s : State} : (s.modPace f).pmu = s.pmu := rfl
@[simp] theorem State.modPace_pmuMram {f} {s : State} : (s.modPace f).pmuMram = s.pmuMram := rfl
@[simp] theorem State.modPace_free {f} {s : State} : (s.modPace f).free = s.free := rfl
@[simp] theorem State.modPace_out {f} {s : State} : (s.modPace f).out = s.out := rfl

@[simp] theorem State.modPins_pending {f} {s : State} : (s.modPins f).pending = s.pending := rfl
@[simp] theorem State.modPins_boot {f} {s : State} : (s.modPins f).boot = s.boot := rfl
@[simp] theorem State.modPins_bootMram {f} {s : State} : (s.modPins f).bootMram = s.bootMram := rfl
@[simp] theorem State.modPins_pins {f} {s : State} : (s.modPins f).pins = f s.pins := rfl
@[simp] theorem State.modPins_clk {f} {s : State} : (s.modPins f).clk = s.clk := rfl
@[simp] theorem State.modPins_pace {f} {s : State} : (s.modPins f).pace = s.pace := rfl
@[simp] theorem State.modPins_paceMram {f} {s : State} : (s.modPins f).paceMram = s.paceMram := rfl
@[simp] theorem State.modPins_mem {f} {s : State} : (s.modPins f).mem = s.mem := rfl
@[simp] theorem State.modPins_host {f} {s : State} : (s.modPins f).host = s.host := rfl
@[simp] theorem State.modPins_netMgmt {f} {s : State} : (s.modPins f).netMgmt = s.netMgmt := rfl
@[simp] theorem State.modPins_netKeys {f} {s : State} : (s.modPins f).netKeys = s.netKeys := rfl
@[simp] theorem State.modPins_intc {f} {s : State} : (s.modPins f).intc = s.intc := rfl
@[simp] theorem State.modPins_flt {f} {s : State} : (s.modPins f).flt = s.flt := rfl
@[simp] theorem State.modPins_fltMram {f} {s : State} : (s.modPins f).fltMram = s.fltMram := rfl
@[simp] theorem State.modPins_truss {f} {s : State} : (s.modPins f).truss = s.truss := rfl
@[simp] theorem State.modPins_seq {f} {s : State} : (s.modPins f).seq = s.seq := rfl
@[simp] theorem State.modPins_heads {f} {s : State} : (s.modPins f).heads = s.heads := rfl
@[simp] theorem State.modPins_adt {f} {s : State} : (s.modPins f).adt = s.adt := rfl
@[simp] theorem State.modPins_adtCfg {f} {s : State} : (s.modPins f).adtCfg = s.adtCfg := rfl
@[simp] theorem State.modPins_net {f} {s : State} : (s.modPins f).net = s.net := rfl
@[simp] theorem State.modPins_netMram {f} {s : State} : (s.modPins f).netMram = s.netMram := rfl
@[simp] theorem State.modPins_dma {f} {s : State} : (s.modPins f).dma = s.dma := rfl
@[simp] theorem State.modPins_svc {f} {s : State} : (s.modPins f).svc = s.svc := rfl
@[simp] theorem State.modPins_svcMram {f} {s : State} : (s.modPins f).svcMram = s.svcMram := rfl
@[simp] theorem State.modPins_sec {f} {s : State} : (s.modPins f).sec = s.sec := rfl
@[simp] theorem State.modPins_secMram {f} {s : State} : (s.modPins f).secMram = s.secMram := rfl
@[simp] theorem State.modPins_pmu {f} {s : State} : (s.modPins f).pmu = s.pmu := rfl
@[simp] theorem State.modPins_pmuMram {f} {s : State} : (s.modPins f).pmuMram = s.pmuMram := rfl
@[simp] theorem State.modPins_free {f} {s : State} : (s.modPins f).free = s.free := rfl
@[simp] theorem State.modPins_out {f} {s : State} : (s.modPins f).out = s.out := rfl

@[simp] theorem State.modPmu_pending {f} {s : State} : (s.modPmu f).pending = s.pending := rfl
@[simp] theorem State.modPmu_boot {f} {s : State} : (s.modPmu f).boot = s.boot := rfl
@[simp] theorem State.modPmu_bootMram {f} {s : State} : (s.modPmu f).bootMram = s.bootMram := rfl
@[simp] theorem State.modPmu_pins {f} {s : State} : (s.modPmu f).pins = s.pins := rfl
@[simp] theorem State.modPmu_clk {f} {s : State} : (s.modPmu f).clk = s.clk := rfl
@[simp] theorem State.modPmu_pace {f} {s : State} : (s.modPmu f).pace = s.pace := rfl
@[simp] theorem State.modPmu_paceMram {f} {s : State} : (s.modPmu f).paceMram = s.paceMram := rfl
@[simp] theorem State.modPmu_mem {f} {s : State} : (s.modPmu f).mem = s.mem := rfl
@[simp] theorem State.modPmu_host {f} {s : State} : (s.modPmu f).host = s.host := rfl
@[simp] theorem State.modPmu_netMgmt {f} {s : State} : (s.modPmu f).netMgmt = s.netMgmt := rfl
@[simp] theorem State.modPmu_netKeys {f} {s : State} : (s.modPmu f).netKeys = s.netKeys := rfl
@[simp] theorem State.modPmu_intc {f} {s : State} : (s.modPmu f).intc = s.intc := rfl
@[simp] theorem State.modPmu_flt {f} {s : State} : (s.modPmu f).flt = s.flt := rfl
@[simp] theorem State.modPmu_fltMram {f} {s : State} : (s.modPmu f).fltMram = s.fltMram := rfl
@[simp] theorem State.modPmu_truss {f} {s : State} : (s.modPmu f).truss = s.truss := rfl
@[simp] theorem State.modPmu_seq {f} {s : State} : (s.modPmu f).seq = s.seq := rfl
@[simp] theorem State.modPmu_heads {f} {s : State} : (s.modPmu f).heads = s.heads := rfl
@[simp] theorem State.modPmu_adt {f} {s : State} : (s.modPmu f).adt = s.adt := rfl
@[simp] theorem State.modPmu_adtCfg {f} {s : State} : (s.modPmu f).adtCfg = s.adtCfg := rfl
@[simp] theorem State.modPmu_net {f} {s : State} : (s.modPmu f).net = s.net := rfl
@[simp] theorem State.modPmu_netMram {f} {s : State} : (s.modPmu f).netMram = s.netMram := rfl
@[simp] theorem State.modPmu_dma {f} {s : State} : (s.modPmu f).dma = s.dma := rfl
@[simp] theorem State.modPmu_svc {f} {s : State} : (s.modPmu f).svc = s.svc := rfl
@[simp] theorem State.modPmu_svcMram {f} {s : State} : (s.modPmu f).svcMram = s.svcMram := rfl
@[simp] theorem State.modPmu_sec {f} {s : State} : (s.modPmu f).sec = s.sec := rfl
@[simp] theorem State.modPmu_secMram {f} {s : State} : (s.modPmu f).secMram = s.secMram := rfl
@[simp] theorem State.modPmu_pmu {f} {s : State} : (s.modPmu f).pmu = f s.pmu := rfl
@[simp] theorem State.modPmu_pmuMram {f} {s : State} : (s.modPmu f).pmuMram = s.pmuMram := rfl
@[simp] theorem State.modPmu_free {f} {s : State} : (s.modPmu f).free = s.free := rfl
@[simp] theorem State.modPmu_out {f} {s : State} : (s.modPmu f).out = s.out := rfl

@[simp] theorem State.modSec_pending {f} {s : State} : (s.modSec f).pending = s.pending := rfl
@[simp] theorem State.modSec_boot {f} {s : State} : (s.modSec f).boot = s.boot := rfl
@[simp] theorem State.modSec_bootMram {f} {s : State} : (s.modSec f).bootMram = s.bootMram := rfl
@[simp] theorem State.modSec_pins {f} {s : State} : (s.modSec f).pins = s.pins := rfl
@[simp] theorem State.modSec_clk {f} {s : State} : (s.modSec f).clk = s.clk := rfl
@[simp] theorem State.modSec_pace {f} {s : State} : (s.modSec f).pace = s.pace := rfl
@[simp] theorem State.modSec_paceMram {f} {s : State} : (s.modSec f).paceMram = s.paceMram := rfl
@[simp] theorem State.modSec_mem {f} {s : State} : (s.modSec f).mem = s.mem := rfl
@[simp] theorem State.modSec_host {f} {s : State} : (s.modSec f).host = s.host := rfl
@[simp] theorem State.modSec_netMgmt {f} {s : State} : (s.modSec f).netMgmt = s.netMgmt := rfl
@[simp] theorem State.modSec_netKeys {f} {s : State} : (s.modSec f).netKeys = s.netKeys := rfl
@[simp] theorem State.modSec_intc {f} {s : State} : (s.modSec f).intc = s.intc := rfl
@[simp] theorem State.modSec_flt {f} {s : State} : (s.modSec f).flt = s.flt := rfl
@[simp] theorem State.modSec_fltMram {f} {s : State} : (s.modSec f).fltMram = s.fltMram := rfl
@[simp] theorem State.modSec_truss {f} {s : State} : (s.modSec f).truss = s.truss := rfl
@[simp] theorem State.modSec_seq {f} {s : State} : (s.modSec f).seq = s.seq := rfl
@[simp] theorem State.modSec_heads {f} {s : State} : (s.modSec f).heads = s.heads := rfl
@[simp] theorem State.modSec_adt {f} {s : State} : (s.modSec f).adt = s.adt := rfl
@[simp] theorem State.modSec_adtCfg {f} {s : State} : (s.modSec f).adtCfg = s.adtCfg := rfl
@[simp] theorem State.modSec_net {f} {s : State} : (s.modSec f).net = s.net := rfl
@[simp] theorem State.modSec_netMram {f} {s : State} : (s.modSec f).netMram = s.netMram := rfl
@[simp] theorem State.modSec_dma {f} {s : State} : (s.modSec f).dma = s.dma := rfl
@[simp] theorem State.modSec_svc {f} {s : State} : (s.modSec f).svc = s.svc := rfl
@[simp] theorem State.modSec_svcMram {f} {s : State} : (s.modSec f).svcMram = s.svcMram := rfl
@[simp] theorem State.modSec_sec {f} {s : State} : (s.modSec f).sec = f s.sec := rfl
@[simp] theorem State.modSec_secMram {f} {s : State} : (s.modSec f).secMram = s.secMram := rfl
@[simp] theorem State.modSec_pmu {f} {s : State} : (s.modSec f).pmu = s.pmu := rfl
@[simp] theorem State.modSec_pmuMram {f} {s : State} : (s.modSec f).pmuMram = s.pmuMram := rfl
@[simp] theorem State.modSec_free {f} {s : State} : (s.modSec f).free = s.free := rfl
@[simp] theorem State.modSec_out {f} {s : State} : (s.modSec f).out = s.out := rfl

@[simp] theorem State.modSecMram_pending {f} {s : State} : (s.modSecMram f).pending = s.pending := rfl
@[simp] theorem State.modSecMram_boot {f} {s : State} : (s.modSecMram f).boot = s.boot := rfl
@[simp] theorem State.modSecMram_bootMram {f} {s : State} : (s.modSecMram f).bootMram = s.bootMram := rfl
@[simp] theorem State.modSecMram_pins {f} {s : State} : (s.modSecMram f).pins = s.pins := rfl
@[simp] theorem State.modSecMram_clk {f} {s : State} : (s.modSecMram f).clk = s.clk := rfl
@[simp] theorem State.modSecMram_pace {f} {s : State} : (s.modSecMram f).pace = s.pace := rfl
@[simp] theorem State.modSecMram_paceMram {f} {s : State} : (s.modSecMram f).paceMram = s.paceMram := rfl
@[simp] theorem State.modSecMram_mem {f} {s : State} : (s.modSecMram f).mem = s.mem := rfl
@[simp] theorem State.modSecMram_host {f} {s : State} : (s.modSecMram f).host = s.host := rfl
@[simp] theorem State.modSecMram_netMgmt {f} {s : State} : (s.modSecMram f).netMgmt = s.netMgmt := rfl
@[simp] theorem State.modSecMram_netKeys {f} {s : State} : (s.modSecMram f).netKeys = s.netKeys := rfl
@[simp] theorem State.modSecMram_intc {f} {s : State} : (s.modSecMram f).intc = s.intc := rfl
@[simp] theorem State.modSecMram_flt {f} {s : State} : (s.modSecMram f).flt = s.flt := rfl
@[simp] theorem State.modSecMram_fltMram {f} {s : State} : (s.modSecMram f).fltMram = s.fltMram := rfl
@[simp] theorem State.modSecMram_truss {f} {s : State} : (s.modSecMram f).truss = s.truss := rfl
@[simp] theorem State.modSecMram_seq {f} {s : State} : (s.modSecMram f).seq = s.seq := rfl
@[simp] theorem State.modSecMram_heads {f} {s : State} : (s.modSecMram f).heads = s.heads := rfl
@[simp] theorem State.modSecMram_adt {f} {s : State} : (s.modSecMram f).adt = s.adt := rfl
@[simp] theorem State.modSecMram_adtCfg {f} {s : State} : (s.modSecMram f).adtCfg = s.adtCfg := rfl
@[simp] theorem State.modSecMram_net {f} {s : State} : (s.modSecMram f).net = s.net := rfl
@[simp] theorem State.modSecMram_netMram {f} {s : State} : (s.modSecMram f).netMram = s.netMram := rfl
@[simp] theorem State.modSecMram_dma {f} {s : State} : (s.modSecMram f).dma = s.dma := rfl
@[simp] theorem State.modSecMram_svc {f} {s : State} : (s.modSecMram f).svc = s.svc := rfl
@[simp] theorem State.modSecMram_svcMram {f} {s : State} : (s.modSecMram f).svcMram = s.svcMram := rfl
@[simp] theorem State.modSecMram_sec {f} {s : State} : (s.modSecMram f).sec = s.sec := rfl
@[simp] theorem State.modSecMram_secMram {f} {s : State} : (s.modSecMram f).secMram = f s.secMram := rfl
@[simp] theorem State.modSecMram_pmu {f} {s : State} : (s.modSecMram f).pmu = s.pmu := rfl
@[simp] theorem State.modSecMram_pmuMram {f} {s : State} : (s.modSecMram f).pmuMram = s.pmuMram := rfl
@[simp] theorem State.modSecMram_free {f} {s : State} : (s.modSecMram f).free = s.free := rfl
@[simp] theorem State.modSecMram_out {f} {s : State} : (s.modSecMram f).out = s.out := rfl

@[simp] theorem State.modSeq_pending {f} {s : State} : (s.modSeq f).pending = s.pending := rfl
@[simp] theorem State.modSeq_boot {f} {s : State} : (s.modSeq f).boot = s.boot := rfl
@[simp] theorem State.modSeq_bootMram {f} {s : State} : (s.modSeq f).bootMram = s.bootMram := rfl
@[simp] theorem State.modSeq_pins {f} {s : State} : (s.modSeq f).pins = s.pins := rfl
@[simp] theorem State.modSeq_clk {f} {s : State} : (s.modSeq f).clk = s.clk := rfl
@[simp] theorem State.modSeq_pace {f} {s : State} : (s.modSeq f).pace = s.pace := rfl
@[simp] theorem State.modSeq_paceMram {f} {s : State} : (s.modSeq f).paceMram = s.paceMram := rfl
@[simp] theorem State.modSeq_mem {f} {s : State} : (s.modSeq f).mem = s.mem := rfl
@[simp] theorem State.modSeq_host {f} {s : State} : (s.modSeq f).host = s.host := rfl
@[simp] theorem State.modSeq_netMgmt {f} {s : State} : (s.modSeq f).netMgmt = s.netMgmt := rfl
@[simp] theorem State.modSeq_netKeys {f} {s : State} : (s.modSeq f).netKeys = s.netKeys := rfl
@[simp] theorem State.modSeq_intc {f} {s : State} : (s.modSeq f).intc = s.intc := rfl
@[simp] theorem State.modSeq_flt {f} {s : State} : (s.modSeq f).flt = s.flt := rfl
@[simp] theorem State.modSeq_fltMram {f} {s : State} : (s.modSeq f).fltMram = s.fltMram := rfl
@[simp] theorem State.modSeq_truss {f} {s : State} : (s.modSeq f).truss = s.truss := rfl
@[simp] theorem State.modSeq_seq {f} {s : State} : (s.modSeq f).seq = f s.seq := rfl
@[simp] theorem State.modSeq_heads {f} {s : State} : (s.modSeq f).heads = s.heads := rfl
@[simp] theorem State.modSeq_adt {f} {s : State} : (s.modSeq f).adt = s.adt := rfl
@[simp] theorem State.modSeq_adtCfg {f} {s : State} : (s.modSeq f).adtCfg = s.adtCfg := rfl
@[simp] theorem State.modSeq_net {f} {s : State} : (s.modSeq f).net = s.net := rfl
@[simp] theorem State.modSeq_netMram {f} {s : State} : (s.modSeq f).netMram = s.netMram := rfl
@[simp] theorem State.modSeq_dma {f} {s : State} : (s.modSeq f).dma = s.dma := rfl
@[simp] theorem State.modSeq_svc {f} {s : State} : (s.modSeq f).svc = s.svc := rfl
@[simp] theorem State.modSeq_svcMram {f} {s : State} : (s.modSeq f).svcMram = s.svcMram := rfl
@[simp] theorem State.modSeq_sec {f} {s : State} : (s.modSeq f).sec = s.sec := rfl
@[simp] theorem State.modSeq_secMram {f} {s : State} : (s.modSeq f).secMram = s.secMram := rfl
@[simp] theorem State.modSeq_pmu {f} {s : State} : (s.modSeq f).pmu = s.pmu := rfl
@[simp] theorem State.modSeq_pmuMram {f} {s : State} : (s.modSeq f).pmuMram = s.pmuMram := rfl
@[simp] theorem State.modSeq_free {f} {s : State} : (s.modSeq f).free = s.free := rfl
@[simp] theorem State.modSeq_out {f} {s : State} : (s.modSeq f).out = s.out := rfl

@[simp] theorem State.modSvc_pending {f} {s : State} : (s.modSvc f).pending = s.pending := rfl
@[simp] theorem State.modSvc_boot {f} {s : State} : (s.modSvc f).boot = s.boot := rfl
@[simp] theorem State.modSvc_bootMram {f} {s : State} : (s.modSvc f).bootMram = s.bootMram := rfl
@[simp] theorem State.modSvc_pins {f} {s : State} : (s.modSvc f).pins = s.pins := rfl
@[simp] theorem State.modSvc_clk {f} {s : State} : (s.modSvc f).clk = s.clk := rfl
@[simp] theorem State.modSvc_pace {f} {s : State} : (s.modSvc f).pace = s.pace := rfl
@[simp] theorem State.modSvc_paceMram {f} {s : State} : (s.modSvc f).paceMram = s.paceMram := rfl
@[simp] theorem State.modSvc_mem {f} {s : State} : (s.modSvc f).mem = s.mem := rfl
@[simp] theorem State.modSvc_host {f} {s : State} : (s.modSvc f).host = s.host := rfl
@[simp] theorem State.modSvc_netMgmt {f} {s : State} : (s.modSvc f).netMgmt = s.netMgmt := rfl
@[simp] theorem State.modSvc_netKeys {f} {s : State} : (s.modSvc f).netKeys = s.netKeys := rfl
@[simp] theorem State.modSvc_intc {f} {s : State} : (s.modSvc f).intc = s.intc := rfl
@[simp] theorem State.modSvc_flt {f} {s : State} : (s.modSvc f).flt = s.flt := rfl
@[simp] theorem State.modSvc_fltMram {f} {s : State} : (s.modSvc f).fltMram = s.fltMram := rfl
@[simp] theorem State.modSvc_truss {f} {s : State} : (s.modSvc f).truss = s.truss := rfl
@[simp] theorem State.modSvc_seq {f} {s : State} : (s.modSvc f).seq = s.seq := rfl
@[simp] theorem State.modSvc_heads {f} {s : State} : (s.modSvc f).heads = s.heads := rfl
@[simp] theorem State.modSvc_adt {f} {s : State} : (s.modSvc f).adt = s.adt := rfl
@[simp] theorem State.modSvc_adtCfg {f} {s : State} : (s.modSvc f).adtCfg = s.adtCfg := rfl
@[simp] theorem State.modSvc_net {f} {s : State} : (s.modSvc f).net = s.net := rfl
@[simp] theorem State.modSvc_netMram {f} {s : State} : (s.modSvc f).netMram = s.netMram := rfl
@[simp] theorem State.modSvc_dma {f} {s : State} : (s.modSvc f).dma = s.dma := rfl
@[simp] theorem State.modSvc_svc {f} {s : State} : (s.modSvc f).svc = f s.svc := rfl
@[simp] theorem State.modSvc_svcMram {f} {s : State} : (s.modSvc f).svcMram = s.svcMram := rfl
@[simp] theorem State.modSvc_sec {f} {s : State} : (s.modSvc f).sec = s.sec := rfl
@[simp] theorem State.modSvc_secMram {f} {s : State} : (s.modSvc f).secMram = s.secMram := rfl
@[simp] theorem State.modSvc_pmu {f} {s : State} : (s.modSvc f).pmu = s.pmu := rfl
@[simp] theorem State.modSvc_pmuMram {f} {s : State} : (s.modSvc f).pmuMram = s.pmuMram := rfl
@[simp] theorem State.modSvc_free {f} {s : State} : (s.modSvc f).free = s.free := rfl
@[simp] theorem State.modSvc_out {f} {s : State} : (s.modSvc f).out = s.out := rfl

@[simp] theorem State.modSvcMram_pending {f} {s : State} : (s.modSvcMram f).pending = s.pending := rfl
@[simp] theorem State.modSvcMram_boot {f} {s : State} : (s.modSvcMram f).boot = s.boot := rfl
@[simp] theorem State.modSvcMram_bootMram {f} {s : State} : (s.modSvcMram f).bootMram = s.bootMram := rfl
@[simp] theorem State.modSvcMram_pins {f} {s : State} : (s.modSvcMram f).pins = s.pins := rfl
@[simp] theorem State.modSvcMram_clk {f} {s : State} : (s.modSvcMram f).clk = s.clk := rfl
@[simp] theorem State.modSvcMram_pace {f} {s : State} : (s.modSvcMram f).pace = s.pace := rfl
@[simp] theorem State.modSvcMram_paceMram {f} {s : State} : (s.modSvcMram f).paceMram = s.paceMram := rfl
@[simp] theorem State.modSvcMram_mem {f} {s : State} : (s.modSvcMram f).mem = s.mem := rfl
@[simp] theorem State.modSvcMram_host {f} {s : State} : (s.modSvcMram f).host = s.host := rfl
@[simp] theorem State.modSvcMram_netMgmt {f} {s : State} : (s.modSvcMram f).netMgmt = s.netMgmt := rfl
@[simp] theorem State.modSvcMram_netKeys {f} {s : State} : (s.modSvcMram f).netKeys = s.netKeys := rfl
@[simp] theorem State.modSvcMram_intc {f} {s : State} : (s.modSvcMram f).intc = s.intc := rfl
@[simp] theorem State.modSvcMram_flt {f} {s : State} : (s.modSvcMram f).flt = s.flt := rfl
@[simp] theorem State.modSvcMram_fltMram {f} {s : State} : (s.modSvcMram f).fltMram = s.fltMram := rfl
@[simp] theorem State.modSvcMram_truss {f} {s : State} : (s.modSvcMram f).truss = s.truss := rfl
@[simp] theorem State.modSvcMram_seq {f} {s : State} : (s.modSvcMram f).seq = s.seq := rfl
@[simp] theorem State.modSvcMram_heads {f} {s : State} : (s.modSvcMram f).heads = s.heads := rfl
@[simp] theorem State.modSvcMram_adt {f} {s : State} : (s.modSvcMram f).adt = s.adt := rfl
@[simp] theorem State.modSvcMram_adtCfg {f} {s : State} : (s.modSvcMram f).adtCfg = s.adtCfg := rfl
@[simp] theorem State.modSvcMram_net {f} {s : State} : (s.modSvcMram f).net = s.net := rfl
@[simp] theorem State.modSvcMram_netMram {f} {s : State} : (s.modSvcMram f).netMram = s.netMram := rfl
@[simp] theorem State.modSvcMram_dma {f} {s : State} : (s.modSvcMram f).dma = s.dma := rfl
@[simp] theorem State.modSvcMram_svc {f} {s : State} : (s.modSvcMram f).svc = s.svc := rfl
@[simp] theorem State.modSvcMram_svcMram {f} {s : State} : (s.modSvcMram f).svcMram = f s.svcMram := rfl
@[simp] theorem State.modSvcMram_sec {f} {s : State} : (s.modSvcMram f).sec = s.sec := rfl
@[simp] theorem State.modSvcMram_secMram {f} {s : State} : (s.modSvcMram f).secMram = s.secMram := rfl
@[simp] theorem State.modSvcMram_pmu {f} {s : State} : (s.modSvcMram f).pmu = s.pmu := rfl
@[simp] theorem State.modSvcMram_pmuMram {f} {s : State} : (s.modSvcMram f).pmuMram = s.pmuMram := rfl
@[simp] theorem State.modSvcMram_free {f} {s : State} : (s.modSvcMram f).free = s.free := rfl
@[simp] theorem State.modSvcMram_out {f} {s : State} : (s.modSvcMram f).out = s.out := rfl

@[simp] theorem State.modTruss_pending {f} {s : State} : (s.modTruss f).pending = s.pending := rfl
@[simp] theorem State.modTruss_boot {f} {s : State} : (s.modTruss f).boot = s.boot := rfl
@[simp] theorem State.modTruss_bootMram {f} {s : State} : (s.modTruss f).bootMram = s.bootMram := rfl
@[simp] theorem State.modTruss_pins {f} {s : State} : (s.modTruss f).pins = s.pins := rfl
@[simp] theorem State.modTruss_clk {f} {s : State} : (s.modTruss f).clk = s.clk := rfl
@[simp] theorem State.modTruss_pace {f} {s : State} : (s.modTruss f).pace = s.pace := rfl
@[simp] theorem State.modTruss_paceMram {f} {s : State} : (s.modTruss f).paceMram = s.paceMram := rfl
@[simp] theorem State.modTruss_mem {f} {s : State} : (s.modTruss f).mem = s.mem := rfl
@[simp] theorem State.modTruss_host {f} {s : State} : (s.modTruss f).host = s.host := rfl
@[simp] theorem State.modTruss_netMgmt {f} {s : State} : (s.modTruss f).netMgmt = s.netMgmt := rfl
@[simp] theorem State.modTruss_netKeys {f} {s : State} : (s.modTruss f).netKeys = s.netKeys := rfl
@[simp] theorem State.modTruss_intc {f} {s : State} : (s.modTruss f).intc = s.intc := rfl
@[simp] theorem State.modTruss_flt {f} {s : State} : (s.modTruss f).flt = s.flt := rfl
@[simp] theorem State.modTruss_fltMram {f} {s : State} : (s.modTruss f).fltMram = s.fltMram := rfl
@[simp] theorem State.modTruss_truss {f} {s : State} : (s.modTruss f).truss = f s.truss := rfl
@[simp] theorem State.modTruss_seq {f} {s : State} : (s.modTruss f).seq = s.seq := rfl
@[simp] theorem State.modTruss_heads {f} {s : State} : (s.modTruss f).heads = s.heads := rfl
@[simp] theorem State.modTruss_adt {f} {s : State} : (s.modTruss f).adt = s.adt := rfl
@[simp] theorem State.modTruss_adtCfg {f} {s : State} : (s.modTruss f).adtCfg = s.adtCfg := rfl
@[simp] theorem State.modTruss_net {f} {s : State} : (s.modTruss f).net = s.net := rfl
@[simp] theorem State.modTruss_netMram {f} {s : State} : (s.modTruss f).netMram = s.netMram := rfl
@[simp] theorem State.modTruss_dma {f} {s : State} : (s.modTruss f).dma = s.dma := rfl
@[simp] theorem State.modTruss_svc {f} {s : State} : (s.modTruss f).svc = s.svc := rfl
@[simp] theorem State.modTruss_svcMram {f} {s : State} : (s.modTruss f).svcMram = s.svcMram := rfl
@[simp] theorem State.modTruss_sec {f} {s : State} : (s.modTruss f).sec = s.sec := rfl
@[simp] theorem State.modTruss_secMram {f} {s : State} : (s.modTruss f).secMram = s.secMram := rfl
@[simp] theorem State.modTruss_pmu {f} {s : State} : (s.modTruss f).pmu = s.pmu := rfl
@[simp] theorem State.modTruss_pmuMram {f} {s : State} : (s.modTruss f).pmuMram = s.pmuMram := rfl
@[simp] theorem State.modTruss_free {f} {s : State} : (s.modTruss f).free = s.free := rfl
@[simp] theorem State.modTruss_out {f} {s : State} : (s.modTruss f).out = s.out := rfl

/-! ### One entry -/

/-- `modCfg` leaves every other block as it is. -/
@[simp] theorem State.modCfg_frame (p : Nat) (f : PortCfg → PortCfg) (s : State) :
    (s.modCfg p f).pending = s.pending ∧ (s.modCfg p f).boot = s.boot ∧ (s.modCfg p f).bootMram = s.bootMram ∧ (s.modCfg p f).pins = s.pins ∧
    (s.modCfg p f).clk = s.clk ∧ (s.modCfg p f).pace = s.pace ∧ (s.modCfg p f).paceMram = s.paceMram ∧ (s.modCfg p f).mem = s.mem ∧
    (s.modCfg p f).host = s.host ∧ (s.modCfg p f).netMgmt = s.netMgmt ∧ (s.modCfg p f).netKeys = s.netKeys ∧ (s.modCfg p f).intc = s.intc ∧
    (s.modCfg p f).flt = s.flt ∧ (s.modCfg p f).fltMram = s.fltMram ∧ (s.modCfg p f).truss = s.truss ∧ (s.modCfg p f).seq = s.seq ∧
    (s.modCfg p f).heads = s.heads ∧ (s.modCfg p f).adt = s.adt ∧ (s.modCfg p f).adtCfg = s.adtCfg ∧ (s.modCfg p f).net = s.net ∧
    (s.modCfg p f).dma = s.dma ∧ (s.modCfg p f).svc = s.svc ∧ (s.modCfg p f).svcMram = s.svcMram ∧ (s.modCfg p f).sec = s.sec ∧
    (s.modCfg p f).secMram = s.secMram ∧ (s.modCfg p f).pmu = s.pmu ∧ (s.modCfg p f).pmuMram = s.pmuMram ∧ (s.modCfg p f).free = s.free ∧
    (s.modCfg p f).out = s.out :=
  ⟨rfl, rfl, rfl, rfl, rfl, rfl, rfl, rfl, rfl, rfl, rfl, rfl, rfl, rfl, rfl, rfl, rfl, rfl, rfl, rfl, rfl, rfl, rfl, rfl, rfl, rfl, rfl, rfl, rfl⟩

@[simp] theorem State.modCfg_ethCfg (p : Nat) (f : PortCfg → PortCfg) (j : Nat) (s : State) :
    (s.modCfg p f).ethCfg j = if j = p then f (s.ethCfg p) else s.ethCfg j := by simp [State.modCfg, State.ethCfg]

/-- `modCh` leaves every other block as it is. -/
@[simp] theorem State.modCh_frame (c : Nat) (f : DmaCh → DmaCh) (s : State) :
    (s.modCh c f).pending = s.pending ∧ (s.modCh c f).boot = s.boot ∧ (s.modCh c f).bootMram = s.bootMram ∧ (s.modCh c f).pins = s.pins ∧
    (s.modCh c f).clk = s.clk ∧ (s.modCh c f).pace = s.pace ∧ (s.modCh c f).paceMram = s.paceMram ∧ (s.modCh c f).mem = s.mem ∧
    (s.modCh c f).host = s.host ∧ (s.modCh c f).netMgmt = s.netMgmt ∧ (s.modCh c f).netKeys = s.netKeys ∧ (s.modCh c f).intc = s.intc ∧
    (s.modCh c f).flt = s.flt ∧ (s.modCh c f).fltMram = s.fltMram ∧ (s.modCh c f).truss = s.truss ∧ (s.modCh c f).seq = s.seq ∧
    (s.modCh c f).heads = s.heads ∧ (s.modCh c f).adt = s.adt ∧ (s.modCh c f).adtCfg = s.adtCfg ∧ (s.modCh c f).net = s.net ∧
    (s.modCh c f).netMram = s.netMram ∧ (s.modCh c f).svc = s.svc ∧ (s.modCh c f).svcMram = s.svcMram ∧ (s.modCh c f).sec = s.sec ∧
    (s.modCh c f).secMram = s.secMram ∧ (s.modCh c f).pmu = s.pmu ∧ (s.modCh c f).pmuMram = s.pmuMram ∧ (s.modCh c f).free = s.free ∧
    (s.modCh c f).out = s.out :=
  ⟨rfl, rfl, rfl, rfl, rfl, rfl, rfl, rfl, rfl, rfl, rfl, rfl, rfl, rfl, rfl, rfl, rfl, rfl, rfl, rfl, rfl, rfl, rfl, rfl, rfl, rfl, rfl, rfl, rfl⟩

@[simp] theorem State.modCh_ch (c : Nat) (f : DmaCh → DmaCh) (j : Nat) (s : State) :
    (s.modCh c f).ch j = if j = c then f (s.ch c) else s.ch j := by simp [State.modCh, State.ch]

/-- `modCq` leaves every other block as it is. -/
@[simp] theorem State.modCq_frame (q : Nat) (f : DmaCq → DmaCq) (s : State) :
    (s.modCq q f).pending = s.pending ∧ (s.modCq q f).boot = s.boot ∧ (s.modCq q f).bootMram = s.bootMram ∧ (s.modCq q f).pins = s.pins ∧
    (s.modCq q f).clk = s.clk ∧ (s.modCq q f).pace = s.pace ∧ (s.modCq q f).paceMram = s.paceMram ∧ (s.modCq q f).mem = s.mem ∧
    (s.modCq q f).host = s.host ∧ (s.modCq q f).netMgmt = s.netMgmt ∧ (s.modCq q f).netKeys = s.netKeys ∧ (s.modCq q f).intc = s.intc ∧
    (s.modCq q f).flt = s.flt ∧ (s.modCq q f).fltMram = s.fltMram ∧ (s.modCq q f).truss = s.truss ∧ (s.modCq q f).seq = s.seq ∧
    (s.modCq q f).heads = s.heads ∧ (s.modCq q f).adt = s.adt ∧ (s.modCq q f).adtCfg = s.adtCfg ∧ (s.modCq q f).net = s.net ∧
    (s.modCq q f).netMram = s.netMram ∧ (s.modCq q f).svc = s.svc ∧ (s.modCq q f).svcMram = s.svcMram ∧ (s.modCq q f).sec = s.sec ∧
    (s.modCq q f).secMram = s.secMram ∧ (s.modCq q f).pmu = s.pmu ∧ (s.modCq q f).pmuMram = s.pmuMram ∧ (s.modCq q f).free = s.free ∧
    (s.modCq q f).out = s.out :=
  ⟨rfl, rfl, rfl, rfl, rfl, rfl, rfl, rfl, rfl, rfl, rfl, rfl, rfl, rfl, rfl, rfl, rfl, rfl, rfl, rfl, rfl, rfl, rfl, rfl, rfl, rfl, rfl, rfl, rfl⟩

@[simp] theorem State.modCq_cq (q : Nat) (f : DmaCq → DmaCq) (j : Nat) (s : State) :
    (s.modCq q f).cq j = if j = q then f (s.cq q) else s.cq j := by simp [State.modCq, State.cq]

/-- `modEth` leaves every other block as it is. -/
@[simp] theorem State.modEth_frame (p : Nat) (f : EthSt → EthSt) (s : State) :
    (s.modEth p f).pending = s.pending ∧ (s.modEth p f).boot = s.boot ∧ (s.modEth p f).bootMram = s.bootMram ∧ (s.modEth p f).pins = s.pins ∧
    (s.modEth p f).clk = s.clk ∧ (s.modEth p f).pace = s.pace ∧ (s.modEth p f).paceMram = s.paceMram ∧ (s.modEth p f).mem = s.mem ∧
    (s.modEth p f).host = s.host ∧ (s.modEth p f).netMgmt = s.netMgmt ∧ (s.modEth p f).netKeys = s.netKeys ∧ (s.modEth p f).intc = s.intc ∧
    (s.modEth p f).flt = s.flt ∧ (s.modEth p f).fltMram = s.fltMram ∧ (s.modEth p f).truss = s.truss ∧ (s.modEth p f).seq = s.seq ∧
    (s.modEth p f).heads = s.heads ∧ (s.modEth p f).adt = s.adt ∧ (s.modEth p f).adtCfg = s.adtCfg ∧ (s.modEth p f).netMram = s.netMram ∧
    (s.modEth p f).dma = s.dma ∧ (s.modEth p f).svc = s.svc ∧ (s.modEth p f).svcMram = s.svcMram ∧ (s.modEth p f).sec = s.sec ∧
    (s.modEth p f).secMram = s.secMram ∧ (s.modEth p f).pmu = s.pmu ∧ (s.modEth p f).pmuMram = s.pmuMram ∧ (s.modEth p f).free = s.free ∧
    (s.modEth p f).out = s.out :=
  ⟨rfl, rfl, rfl, rfl, rfl, rfl, rfl, rfl, rfl, rfl, rfl, rfl, rfl, rfl, rfl, rfl, rfl, rfl, rfl, rfl, rfl, rfl, rfl, rfl, rfl, rfl, rfl, rfl, rfl⟩

@[simp] theorem State.modEth_eth (p : Nat) (f : EthSt → EthSt) (j : Nat) (s : State) :
    (s.modEth p f).eth j = if j = p then f (s.eth p) else s.eth j := by simp [State.modEth, State.eth]

/-- `modField` leaves every other block as it is. -/
@[simp] theorem State.modField_frame (k : Nat) (f : FieldSt → FieldSt) (s : State) :
    (s.modField k f).pending = s.pending ∧ (s.modField k f).boot = s.boot ∧ (s.modField k f).bootMram = s.bootMram ∧
    (s.modField k f).pins = s.pins ∧ (s.modField k f).clk = s.clk ∧ (s.modField k f).pace = s.pace ∧ (s.modField k f).paceMram = s.paceMram ∧
    (s.modField k f).mem = s.mem ∧ (s.modField k f).host = s.host ∧ (s.modField k f).netMgmt = s.netMgmt ∧
    (s.modField k f).netKeys = s.netKeys ∧ (s.modField k f).intc = s.intc ∧ (s.modField k f).flt = s.flt ∧
    (s.modField k f).fltMram = s.fltMram ∧ (s.modField k f).truss = s.truss ∧ (s.modField k f).seq = s.seq ∧ (s.modField k f).heads = s.heads ∧
    (s.modField k f).adt = s.adt ∧ (s.modField k f).adtCfg = s.adtCfg ∧ (s.modField k f).net = s.net ∧ (s.modField k f).netMram = s.netMram ∧
    (s.modField k f).dma = s.dma ∧ (s.modField k f).svcMram = s.svcMram ∧ (s.modField k f).sec = s.sec ∧ (s.modField k f).secMram = s.secMram ∧
    (s.modField k f).pmu = s.pmu ∧ (s.modField k f).pmuMram = s.pmuMram ∧ (s.modField k f).free = s.free ∧ (s.modField k f).out = s.out :=
  ⟨rfl, rfl, rfl, rfl, rfl, rfl, rfl, rfl, rfl, rfl, rfl, rfl, rfl, rfl, rfl, rfl, rfl, rfl, rfl, rfl, rfl, rfl, rfl, rfl, rfl, rfl, rfl, rfl, rfl⟩

@[simp] theorem State.modField_field (k : Nat) (f : FieldSt → FieldSt) (j : Nat) (s : State) :
    (s.modField k f).field j = if j = k then f (s.field k) else s.field j := by simp [State.modField, State.field]

/-- `modFltSrc` leaves every other block as it is. -/
@[simp] theorem State.modFltSrc_frame (k : Nat) (g : FltSrc → FltSrc) (s : State) :
    (s.modFltSrc k g).pending = s.pending ∧ (s.modFltSrc k g).boot = s.boot ∧ (s.modFltSrc k g).bootMram = s.bootMram ∧
    (s.modFltSrc k g).pins = s.pins ∧ (s.modFltSrc k g).clk = s.clk ∧ (s.modFltSrc k g).pace = s.pace ∧
    (s.modFltSrc k g).paceMram = s.paceMram ∧ (s.modFltSrc k g).mem = s.mem ∧ (s.modFltSrc k g).host = s.host ∧
    (s.modFltSrc k g).netMgmt = s.netMgmt ∧ (s.modFltSrc k g).netKeys = s.netKeys ∧ (s.modFltSrc k g).intc = s.intc ∧
    (s.modFltSrc k g).fltMram = s.fltMram ∧ (s.modFltSrc k g).truss = s.truss ∧ (s.modFltSrc k g).seq = s.seq ∧
    (s.modFltSrc k g).heads = s.heads ∧ (s.modFltSrc k g).adt = s.adt ∧ (s.modFltSrc k g).adtCfg = s.adtCfg ∧ (s.modFltSrc k g).net = s.net ∧
    (s.modFltSrc k g).netMram = s.netMram ∧ (s.modFltSrc k g).dma = s.dma ∧ (s.modFltSrc k g).svc = s.svc ∧
    (s.modFltSrc k g).svcMram = s.svcMram ∧ (s.modFltSrc k g).sec = s.sec ∧ (s.modFltSrc k g).secMram = s.secMram ∧
    (s.modFltSrc k g).pmu = s.pmu ∧ (s.modFltSrc k g).pmuMram = s.pmuMram ∧ (s.modFltSrc k g).free = s.free ∧ (s.modFltSrc k g).out = s.out :=
  ⟨rfl, rfl, rfl, rfl, rfl, rfl, rfl, rfl, rfl, rfl, rfl, rfl, rfl, rfl, rfl, rfl, rfl, rfl, rfl, rfl, rfl, rfl, rfl, rfl, rfl, rfl, rfl, rfl, rfl⟩

@[simp] theorem State.modFltSrc_fltSrc (k : Nat) (g : FltSrc → FltSrc) (j : Nat) (s : State) :
    (s.modFltSrc k g).fltSrc j = if j = k then g (s.fltSrc k) else s.fltSrc j := by simp [State.modFltSrc, State.fltSrc]

/-- `modFn` leaves every other block as it is. -/
@[simp] theorem State.modFn_frame (k : Nat) (f : FnSt → FnSt) (s : State) :
    (s.modFn k f).pending = s.pending ∧ (s.modFn k f).boot = s.boot ∧ (s.modFn k f).bootMram = s.bootMram ∧ (s.modFn k f).pins = s.pins ∧
    (s.modFn k f).clk = s.clk ∧ (s.modFn k f).pace = s.pace ∧ (s.modFn k f).paceMram = s.paceMram ∧ (s.modFn k f).mem = s.mem ∧
    (s.modFn k f).netMgmt = s.netMgmt ∧ (s.modFn k f).netKeys = s.netKeys ∧ (s.modFn k f).intc = s.intc ∧ (s.modFn k f).flt = s.flt ∧
    (s.modFn k f).fltMram = s.fltMram ∧ (s.modFn k f).truss = s.truss ∧ (s.modFn k f).seq = s.seq ∧ (s.modFn k f).heads = s.heads ∧
    (s.modFn k f).adt = s.adt ∧ (s.modFn k f).adtCfg = s.adtCfg ∧ (s.modFn k f).net = s.net ∧ (s.modFn k f).netMram = s.netMram ∧
    (s.modFn k f).dma = s.dma ∧ (s.modFn k f).svc = s.svc ∧ (s.modFn k f).svcMram = s.svcMram ∧ (s.modFn k f).sec = s.sec ∧
    (s.modFn k f).secMram = s.secMram ∧ (s.modFn k f).pmu = s.pmu ∧ (s.modFn k f).pmuMram = s.pmuMram ∧ (s.modFn k f).free = s.free ∧
    (s.modFn k f).out = s.out :=
  ⟨rfl, rfl, rfl, rfl, rfl, rfl, rfl, rfl, rfl, rfl, rfl, rfl, rfl, rfl, rfl, rfl, rfl, rfl, rfl, rfl, rfl, rfl, rfl, rfl, rfl, rfl, rfl, rfl, rfl⟩

@[simp] theorem State.modFn_fn (k : Nat) (f : FnSt → FnSt) (j : Nat) (s : State) :
    (s.modFn k f).fn j = if j = k then f (s.fn k) else s.fn j := by simp [State.modFn, State.fn]

/-- `modFrame` leaves every other block as it is. -/
@[simp] theorem State.modFrame_frame (i frame : Nat) (g : IngFrame → IngFrame) (s : State) :
    (s.modFrame i frame g).pending = s.pending ∧ (s.modFrame i frame g).boot = s.boot ∧ (s.modFrame i frame g).bootMram = s.bootMram ∧
    (s.modFrame i frame g).pins = s.pins ∧ (s.modFrame i frame g).clk = s.clk ∧ (s.modFrame i frame g).pace = s.pace ∧
    (s.modFrame i frame g).paceMram = s.paceMram ∧ (s.modFrame i frame g).mem = s.mem ∧ (s.modFrame i frame g).host = s.host ∧
    (s.modFrame i frame g).netMgmt = s.netMgmt ∧ (s.modFrame i frame g).netKeys = s.netKeys ∧ (s.modFrame i frame g).intc = s.intc ∧
    (s.modFrame i frame g).flt = s.flt ∧ (s.modFrame i frame g).fltMram = s.fltMram ∧ (s.modFrame i frame g).truss = s.truss ∧
    (s.modFrame i frame g).seq = s.seq ∧ (s.modFrame i frame g).heads = s.heads ∧ (s.modFrame i frame g).adt = s.adt ∧
    (s.modFrame i frame g).adtCfg = s.adtCfg ∧ (s.modFrame i frame g).net = s.net ∧ (s.modFrame i frame g).netMram = s.netMram ∧
    (s.modFrame i frame g).svc = s.svc ∧ (s.modFrame i frame g).svcMram = s.svcMram ∧ (s.modFrame i frame g).sec = s.sec ∧
    (s.modFrame i frame g).secMram = s.secMram ∧ (s.modFrame i frame g).pmu = s.pmu ∧ (s.modFrame i frame g).pmuMram = s.pmuMram ∧
    (s.modFrame i frame g).free = s.free ∧ (s.modFrame i frame g).out = s.out :=
  ⟨rfl, rfl, rfl, rfl, rfl, rfl, rfl, rfl, rfl, rfl, rfl, rfl, rfl, rfl, rfl, rfl, rfl, rfl, rfl, rfl, rfl, rfl, rfl, rfl, rfl, rfl, rfl, rfl, rfl⟩

/-- `modGroup` leaves every other block as it is. -/
@[simp] theorem State.modGroup_frame (g : Nat) (f : GroupSt → GroupSt) (s : State) :
    (s.modGroup g f).pending = s.pending ∧ (s.modGroup g f).boot = s.boot ∧ (s.modGroup g f).bootMram = s.bootMram ∧
    (s.modGroup g f).pins = s.pins ∧ (s.modGroup g f).clk = s.clk ∧ (s.modGroup g f).pace = s.pace ∧ (s.modGroup g f).paceMram = s.paceMram ∧
    (s.modGroup g f).mem = s.mem ∧ (s.modGroup g f).host = s.host ∧ (s.modGroup g f).netMgmt = s.netMgmt ∧
    (s.modGroup g f).netKeys = s.netKeys ∧ (s.modGroup g f).intc = s.intc ∧ (s.modGroup g f).flt = s.flt ∧
    (s.modGroup g f).fltMram = s.fltMram ∧ (s.modGroup g f).truss = s.truss ∧ (s.modGroup g f).heads = s.heads ∧ (s.modGroup g f).adt = s.adt ∧
    (s.modGroup g f).adtCfg = s.adtCfg ∧ (s.modGroup g f).net = s.net ∧ (s.modGroup g f).netMram = s.netMram ∧ (s.modGroup g f).dma = s.dma ∧
    (s.modGroup g f).svc = s.svc ∧ (s.modGroup g f).svcMram = s.svcMram ∧ (s.modGroup g f).sec = s.sec ∧ (s.modGroup g f).secMram = s.secMram ∧
    (s.modGroup g f).pmu = s.pmu ∧ (s.modGroup g f).pmuMram = s.pmuMram ∧ (s.modGroup g f).free = s.free ∧ (s.modGroup g f).out = s.out :=
  ⟨rfl, rfl, rfl, rfl, rfl, rfl, rfl, rfl, rfl, rfl, rfl, rfl, rfl, rfl, rfl, rfl, rfl, rfl, rfl, rfl, rfl, rfl, rfl, rfl, rfl, rfl, rfl, rfl, rfl⟩

@[simp] theorem State.modGroup_group (g : Nat) (f : GroupSt → GroupSt) (j : Nat) (s : State) :
    (s.modGroup g f).group j = if j = g then f (s.group g) else s.group j := by simp [State.modGroup, State.group]

/-- `modGrp` leaves every other block as it is. -/
@[simp] theorem State.modGrp_frame (host : Bool) (x : Nat) (f : IntGrp → IntGrp) (s : State) :
    (s.modGrp host x f).pending = s.pending ∧ (s.modGrp host x f).boot = s.boot ∧ (s.modGrp host x f).bootMram = s.bootMram ∧
    (s.modGrp host x f).pins = s.pins ∧ (s.modGrp host x f).clk = s.clk ∧ (s.modGrp host x f).pace = s.pace ∧
    (s.modGrp host x f).paceMram = s.paceMram ∧ (s.modGrp host x f).mem = s.mem ∧ (s.modGrp host x f).host = s.host ∧
    (s.modGrp host x f).netMgmt = s.netMgmt ∧ (s.modGrp host x f).netKeys = s.netKeys ∧ (s.modGrp host x f).flt = s.flt ∧
    (s.modGrp host x f).fltMram = s.fltMram ∧ (s.modGrp host x f).truss = s.truss ∧ (s.modGrp host x f).seq = s.seq ∧
    (s.modGrp host x f).heads = s.heads ∧ (s.modGrp host x f).adt = s.adt ∧ (s.modGrp host x f).adtCfg = s.adtCfg ∧
    (s.modGrp host x f).net = s.net ∧ (s.modGrp host x f).netMram = s.netMram ∧ (s.modGrp host x f).dma = s.dma ∧
    (s.modGrp host x f).svc = s.svc ∧ (s.modGrp host x f).svcMram = s.svcMram ∧ (s.modGrp host x f).sec = s.sec ∧
    (s.modGrp host x f).secMram = s.secMram ∧ (s.modGrp host x f).pmu = s.pmu ∧ (s.modGrp host x f).pmuMram = s.pmuMram ∧
    (s.modGrp host x f).free = s.free ∧ (s.modGrp host x f).out = s.out :=
  ⟨rfl, rfl, rfl, rfl, rfl, rfl, rfl, rfl, rfl, rfl, rfl, rfl, rfl, rfl, rfl, rfl, rfl, rfl, rfl, rfl, rfl, rfl, rfl, rfl, rfl, rfl, rfl, rfl, rfl⟩

/-- `modHead` leaves every other block as it is. -/
@[simp] theorem State.modHead_frame (h : Nat) (f : HeadSt → HeadSt) (s : State) :
    (s.modHead h f).pending = s.pending ∧ (s.modHead h f).boot = s.boot ∧ (s.modHead h f).bootMram = s.bootMram ∧
    (s.modHead h f).pins = s.pins ∧ (s.modHead h f).clk = s.clk ∧ (s.modHead h f).pace = s.pace ∧ (s.modHead h f).paceMram = s.paceMram ∧
    (s.modHead h f).mem = s.mem ∧ (s.modHead h f).host = s.host ∧ (s.modHead h f).netMgmt = s.netMgmt ∧ (s.modHead h f).netKeys = s.netKeys ∧
    (s.modHead h f).intc = s.intc ∧ (s.modHead h f).flt = s.flt ∧ (s.modHead h f).fltMram = s.fltMram ∧ (s.modHead h f).truss = s.truss ∧
    (s.modHead h f).seq = s.seq ∧ (s.modHead h f).adt = s.adt ∧ (s.modHead h f).adtCfg = s.adtCfg ∧ (s.modHead h f).net = s.net ∧
    (s.modHead h f).netMram = s.netMram ∧ (s.modHead h f).dma = s.dma ∧ (s.modHead h f).svc = s.svc ∧ (s.modHead h f).svcMram = s.svcMram ∧
    (s.modHead h f).sec = s.sec ∧ (s.modHead h f).secMram = s.secMram ∧ (s.modHead h f).pmu = s.pmu ∧ (s.modHead h f).pmuMram = s.pmuMram ∧
    (s.modHead h f).free = s.free ∧ (s.modHead h f).out = s.out :=
  ⟨rfl, rfl, rfl, rfl, rfl, rfl, rfl, rfl, rfl, rfl, rfl, rfl, rfl, rfl, rfl, rfl, rfl, rfl, rfl, rfl, rfl, rfl, rfl, rfl, rfl, rfl, rfl, rfl, rfl⟩

@[simp] theorem State.modHead_head (h : Nat) (f : HeadSt → HeadSt) (j : Nat) (s : State) :
    (s.modHead h f).head j = if j = h then f (s.head h) else s.head j := by simp [State.modHead, State.head]

/-- `modIng` leaves every other block as it is. -/
@[simp] theorem State.modIng_frame (x : Nat) (f : IngSt → IngSt) (s : State) :
    (s.modIng x f).pending = s.pending ∧ (s.modIng x f).boot = s.boot ∧ (s.modIng x f).bootMram = s.bootMram ∧ (s.modIng x f).pins = s.pins ∧
    (s.modIng x f).clk = s.clk ∧ (s.modIng x f).pace = s.pace ∧ (s.modIng x f).paceMram = s.paceMram ∧ (s.modIng x f).mem = s.mem ∧
    (s.modIng x f).host = s.host ∧ (s.modIng x f).netMgmt = s.netMgmt ∧ (s.modIng x f).netKeys = s.netKeys ∧ (s.modIng x f).intc = s.intc ∧
    (s.modIng x f).flt = s.flt ∧ (s.modIng x f).fltMram = s.fltMram ∧ (s.modIng x f).truss = s.truss ∧ (s.modIng x f).seq = s.seq ∧
    (s.modIng x f).heads = s.heads ∧ (s.modIng x f).adt = s.adt ∧ (s.modIng x f).adtCfg = s.adtCfg ∧ (s.modIng x f).net = s.net ∧
    (s.modIng x f).netMram = s.netMram ∧ (s.modIng x f).svc = s.svc ∧ (s.modIng x f).svcMram = s.svcMram ∧ (s.modIng x f).sec = s.sec ∧
    (s.modIng x f).secMram = s.secMram ∧ (s.modIng x f).pmu = s.pmu ∧ (s.modIng x f).pmuMram = s.pmuMram ∧ (s.modIng x f).free = s.free ∧
    (s.modIng x f).out = s.out :=
  ⟨rfl, rfl, rfl, rfl, rfl, rfl, rfl, rfl, rfl, rfl, rfl, rfl, rfl, rfl, rfl, rfl, rfl, rfl, rfl, rfl, rfl, rfl, rfl, rfl, rfl, rfl, rfl, rfl, rfl⟩

@[simp] theorem State.modIng_ing (x : Nat) (f : IngSt → IngSt) (j : Nat) (s : State) :
    (s.modIng x f).ing j = if j = x then f (s.ing x) else s.ing j := by simp [State.modIng, State.ing]

/-- `modIntSrc` leaves every other block as it is. -/
@[simp] theorem State.modIntSrc_frame (k : Nat) (g : IntSrc → IntSrc) (s : State) :
    (s.modIntSrc k g).pending = s.pending ∧ (s.modIntSrc k g).boot = s.boot ∧ (s.modIntSrc k g).bootMram = s.bootMram ∧
    (s.modIntSrc k g).pins = s.pins ∧ (s.modIntSrc k g).clk = s.clk ∧ (s.modIntSrc k g).pace = s.pace ∧
    (s.modIntSrc k g).paceMram = s.paceMram ∧ (s.modIntSrc k g).mem = s.mem ∧ (s.modIntSrc k g).host = s.host ∧
    (s.modIntSrc k g).netMgmt = s.netMgmt ∧ (s.modIntSrc k g).netKeys = s.netKeys ∧ (s.modIntSrc k g).flt = s.flt ∧
    (s.modIntSrc k g).fltMram = s.fltMram ∧ (s.modIntSrc k g).truss = s.truss ∧ (s.modIntSrc k g).seq = s.seq ∧
    (s.modIntSrc k g).heads = s.heads ∧ (s.modIntSrc k g).adt = s.adt ∧ (s.modIntSrc k g).adtCfg = s.adtCfg ∧ (s.modIntSrc k g).net = s.net ∧
    (s.modIntSrc k g).netMram = s.netMram ∧ (s.modIntSrc k g).dma = s.dma ∧ (s.modIntSrc k g).svc = s.svc ∧
    (s.modIntSrc k g).svcMram = s.svcMram ∧ (s.modIntSrc k g).sec = s.sec ∧ (s.modIntSrc k g).secMram = s.secMram ∧
    (s.modIntSrc k g).pmu = s.pmu ∧ (s.modIntSrc k g).pmuMram = s.pmuMram ∧ (s.modIntSrc k g).free = s.free ∧ (s.modIntSrc k g).out = s.out :=
  ⟨rfl, rfl, rfl, rfl, rfl, rfl, rfl, rfl, rfl, rfl, rfl, rfl, rfl, rfl, rfl, rfl, rfl, rfl, rfl, rfl, rfl, rfl, rfl, rfl, rfl, rfl, rfl, rfl, rfl⟩

@[simp] theorem State.modIntSrc_intSrc (k : Nat) (g : IntSrc → IntSrc) (j : Nat) (s : State) :
    (s.modIntSrc k g).intSrc j = if j = k then g (s.intSrc k) else s.intSrc j := by simp [State.modIntSrc, State.intSrc]

/-- `modIntTgt` leaves every other block as it is. -/
@[simp] theorem State.modIntTgt_frame (k : Nat) (g : IntTgt → IntTgt) (s : State) :
    (s.modIntTgt k g).pending = s.pending ∧ (s.modIntTgt k g).boot = s.boot ∧ (s.modIntTgt k g).bootMram = s.bootMram ∧
    (s.modIntTgt k g).pins = s.pins ∧ (s.modIntTgt k g).clk = s.clk ∧ (s.modIntTgt k g).pace = s.pace ∧
    (s.modIntTgt k g).paceMram = s.paceMram ∧ (s.modIntTgt k g).mem = s.mem ∧ (s.modIntTgt k g).host = s.host ∧
    (s.modIntTgt k g).netMgmt = s.netMgmt ∧ (s.modIntTgt k g).netKeys = s.netKeys ∧ (s.modIntTgt k g).flt = s.flt ∧
    (s.modIntTgt k g).fltMram = s.fltMram ∧ (s.modIntTgt k g).truss = s.truss ∧ (s.modIntTgt k g).seq = s.seq ∧
    (s.modIntTgt k g).heads = s.heads ∧ (s.modIntTgt k g).adt = s.adt ∧ (s.modIntTgt k g).adtCfg = s.adtCfg ∧ (s.modIntTgt k g).net = s.net ∧
    (s.modIntTgt k g).netMram = s.netMram ∧ (s.modIntTgt k g).dma = s.dma ∧ (s.modIntTgt k g).svc = s.svc ∧
    (s.modIntTgt k g).svcMram = s.svcMram ∧ (s.modIntTgt k g).sec = s.sec ∧ (s.modIntTgt k g).secMram = s.secMram ∧
    (s.modIntTgt k g).pmu = s.pmu ∧ (s.modIntTgt k g).pmuMram = s.pmuMram ∧ (s.modIntTgt k g).free = s.free ∧ (s.modIntTgt k g).out = s.out :=
  ⟨rfl, rfl, rfl, rfl, rfl, rfl, rfl, rfl, rfl, rfl, rfl, rfl, rfl, rfl, rfl, rfl, rfl, rfl, rfl, rfl, rfl, rfl, rfl, rfl, rfl, rfl, rfl, rfl, rfl⟩

@[simp] theorem State.modIntTgt_intTgt (k : Nat) (g : IntTgt → IntTgt) (j : Nat) (s : State) :
    (s.modIntTgt k g).intTgt j = if j = k then g (s.intTgt k) else s.intTgt j := by simp [State.modIntTgt, State.intTgt]

/-- `modIssue` leaves every other block as it is. -/
@[simp] theorem State.modIssue_frame (i : Nat) (f : Issue → Issue) (s : State) :
    (s.modIssue i f).pending = s.pending ∧ (s.modIssue i f).boot = s.boot ∧ (s.modIssue i f).bootMram = s.bootMram ∧
    (s.modIssue i f).pins = s.pins ∧ (s.modIssue i f).clk = s.clk ∧ (s.modIssue i f).pace = s.pace ∧ (s.modIssue i f).paceMram = s.paceMram ∧
    (s.modIssue i f).mem = s.mem ∧ (s.modIssue i f).host = s.host ∧ (s.modIssue i f).netMgmt = s.netMgmt ∧
    (s.modIssue i f).netKeys = s.netKeys ∧ (s.modIssue i f).intc = s.intc ∧ (s.modIssue i f).flt = s.flt ∧
    (s.modIssue i f).fltMram = s.fltMram ∧ (s.modIssue i f).truss = s.truss ∧ (s.modIssue i f).heads = s.heads ∧ (s.modIssue i f).adt = s.adt ∧
    (s.modIssue i f).adtCfg = s.adtCfg ∧ (s.modIssue i f).net = s.net ∧ (s.modIssue i f).netMram = s.netMram ∧ (s.modIssue i f).dma = s.dma ∧
    (s.modIssue i f).svc = s.svc ∧ (s.modIssue i f).svcMram = s.svcMram ∧ (s.modIssue i f).sec = s.sec ∧ (s.modIssue i f).secMram = s.secMram ∧
    (s.modIssue i f).pmu = s.pmu ∧ (s.modIssue i f).pmuMram = s.pmuMram ∧ (s.modIssue i f).free = s.free ∧ (s.modIssue i f).out = s.out :=
  ⟨rfl, rfl, rfl, rfl, rfl, rfl, rfl, rfl, rfl, rfl, rfl, rfl, rfl, rfl, rfl, rfl, rfl, rfl, rfl, rfl, rfl, rfl, rfl, rfl, rfl, rfl, rfl, rfl, rfl⟩

/-- `modLane` leaves every other block as it is. -/
@[simp] theorem State.modLane_frame (k : Nat) (f : LaneSt → LaneSt) (s : State) :
    (s.modLane k f).pending = s.pending ∧ (s.modLane k f).boot = s.boot ∧ (s.modLane k f).bootMram = s.bootMram ∧
    (s.modLane k f).pins = s.pins ∧ (s.modLane k f).clk = s.clk ∧ (s.modLane k f).pace = s.pace ∧ (s.modLane k f).paceMram = s.paceMram ∧
    (s.modLane k f).mem = s.mem ∧ (s.modLane k f).host = s.host ∧ (s.modLane k f).netMgmt = s.netMgmt ∧ (s.modLane k f).netKeys = s.netKeys ∧
    (s.modLane k f).intc = s.intc ∧ (s.modLane k f).flt = s.flt ∧ (s.modLane k f).fltMram = s.fltMram ∧ (s.modLane k f).truss = s.truss ∧
    (s.modLane k f).heads = s.heads ∧ (s.modLane k f).adt = s.adt ∧ (s.modLane k f).adtCfg = s.adtCfg ∧ (s.modLane k f).net = s.net ∧
    (s.modLane k f).netMram = s.netMram ∧ (s.modLane k f).dma = s.dma ∧ (s.modLane k f).svc = s.svc ∧ (s.modLane k f).svcMram = s.svcMram ∧
    (s.modLane k f).sec = s.sec ∧ (s.modLane k f).secMram = s.secMram ∧ (s.modLane k f).pmu = s.pmu ∧ (s.modLane k f).pmuMram = s.pmuMram ∧
    (s.modLane k f).free = s.free ∧ (s.modLane k f).out = s.out :=
  ⟨rfl, rfl, rfl, rfl, rfl, rfl, rfl, rfl, rfl, rfl, rfl, rfl, rfl, rfl, rfl, rfl, rfl, rfl, rfl, rfl, rfl, rfl, rfl, rfl, rfl, rfl, rfl, rfl, rfl⟩

@[simp] theorem State.modLane_lane (k : Nat) (f : LaneSt → LaneSt) (j : Nat) (s : State) :
    (s.modLane k f).lane j = if j = k then f (s.lane k) else s.lane j := by simp [State.modLane, State.lane]

/-- `modMbx` leaves every other block as it is. -/
@[simp] theorem State.modMbx_frame (f n : Nat) (g : Mbx → Mbx) (s : State) :
    (s.modMbx f n g).pending = s.pending ∧ (s.modMbx f n g).boot = s.boot ∧ (s.modMbx f n g).bootMram = s.bootMram ∧
    (s.modMbx f n g).pins = s.pins ∧ (s.modMbx f n g).clk = s.clk ∧ (s.modMbx f n g).pace = s.pace ∧ (s.modMbx f n g).paceMram = s.paceMram ∧
    (s.modMbx f n g).mem = s.mem ∧ (s.modMbx f n g).netMgmt = s.netMgmt ∧ (s.modMbx f n g).netKeys = s.netKeys ∧
    (s.modMbx f n g).intc = s.intc ∧ (s.modMbx f n g).flt = s.flt ∧ (s.modMbx f n g).fltMram = s.fltMram ∧ (s.modMbx f n g).truss = s.truss ∧
    (s.modMbx f n g).seq = s.seq ∧ (s.modMbx f n g).heads = s.heads ∧ (s.modMbx f n g).adt = s.adt ∧ (s.modMbx f n g).adtCfg = s.adtCfg ∧
    (s.modMbx f n g).net = s.net ∧ (s.modMbx f n g).netMram = s.netMram ∧ (s.modMbx f n g).dma = s.dma ∧ (s.modMbx f n g).svc = s.svc ∧
    (s.modMbx f n g).svcMram = s.svcMram ∧ (s.modMbx f n g).sec = s.sec ∧ (s.modMbx f n g).secMram = s.secMram ∧ (s.modMbx f n g).pmu = s.pmu ∧
    (s.modMbx f n g).pmuMram = s.pmuMram ∧ (s.modMbx f n g).free = s.free ∧ (s.modMbx f n g).out = s.out :=
  ⟨rfl, rfl, rfl, rfl, rfl, rfl, rfl, rfl, rfl, rfl, rfl, rfl, rfl, rfl, rfl, rfl, rfl, rfl, rfl, rfl, rfl, rfl, rfl, rfl, rfl, rfl, rfl, rfl, rfl⟩

/-- `modMon` leaves every other block as it is. -/
@[simp] theorem State.modMon_frame (i : Nat) (f : PaceMon → PaceMon) (s : State) :
    (s.modMon i f).pending = s.pending ∧ (s.modMon i f).boot = s.boot ∧ (s.modMon i f).bootMram = s.bootMram ∧ (s.modMon i f).pins = s.pins ∧
    (s.modMon i f).clk = s.clk ∧ (s.modMon i f).paceMram = s.paceMram ∧ (s.modMon i f).mem = s.mem ∧ (s.modMon i f).host = s.host ∧
    (s.modMon i f).netMgmt = s.netMgmt ∧ (s.modMon i f).netKeys = s.netKeys ∧ (s.modMon i f).intc = s.intc ∧ (s.modMon i f).flt = s.flt ∧
    (s.modMon i f).fltMram = s.fltMram ∧ (s.modMon i f).truss = s.truss ∧ (s.modMon i f).seq = s.seq ∧ (s.modMon i f).heads = s.heads ∧
    (s.modMon i f).adt = s.adt ∧ (s.modMon i f).adtCfg = s.adtCfg ∧ (s.modMon i f).net = s.net ∧ (s.modMon i f).netMram = s.netMram ∧
    (s.modMon i f).dma = s.dma ∧ (s.modMon i f).svc = s.svc ∧ (s.modMon i f).svcMram = s.svcMram ∧ (s.modMon i f).sec = s.sec ∧
    (s.modMon i f).secMram = s.secMram ∧ (s.modMon i f).pmu = s.pmu ∧ (s.modMon i f).pmuMram = s.pmuMram ∧ (s.modMon i f).free = s.free ∧
    (s.modMon i f).out = s.out :=
  ⟨rfl, rfl, rfl, rfl, rfl, rfl, rfl, rfl, rfl, rfl, rfl, rfl, rfl, rfl, rfl, rfl, rfl, rfl, rfl, rfl, rfl, rfl, rfl, rfl, rfl, rfl, rfl, rfl, rfl⟩

@[simp] theorem State.modMon_mon (i : Nat) (f : PaceMon → PaceMon) (j : Nat) (s : State) :
    (s.modMon i f).mon j = if j = i then f (s.mon i) else s.mon j := by simp [State.modMon, State.mon]

/-- `modPeer` leaves every other block as it is. -/
@[simp] theorem State.modPeer_frame (k : Nat) (f : Peer → Peer) (s : State) :
    (s.modPeer k f).pending = s.pending ∧ (s.modPeer k f).boot = s.boot ∧ (s.modPeer k f).bootMram = s.bootMram ∧
    (s.modPeer k f).pins = s.pins ∧ (s.modPeer k f).clk = s.clk ∧ (s.modPeer k f).pace = s.pace ∧ (s.modPeer k f).paceMram = s.paceMram ∧
    (s.modPeer k f).mem = s.mem ∧ (s.modPeer k f).host = s.host ∧ (s.modPeer k f).netMgmt = s.netMgmt ∧ (s.modPeer k f).netKeys = s.netKeys ∧
    (s.modPeer k f).intc = s.intc ∧ (s.modPeer k f).flt = s.flt ∧ (s.modPeer k f).fltMram = s.fltMram ∧ (s.modPeer k f).truss = s.truss ∧
    (s.modPeer k f).seq = s.seq ∧ (s.modPeer k f).heads = s.heads ∧ (s.modPeer k f).adtCfg = s.adtCfg ∧ (s.modPeer k f).net = s.net ∧
    (s.modPeer k f).netMram = s.netMram ∧ (s.modPeer k f).dma = s.dma ∧ (s.modPeer k f).svc = s.svc ∧ (s.modPeer k f).svcMram = s.svcMram ∧
    (s.modPeer k f).sec = s.sec ∧ (s.modPeer k f).secMram = s.secMram ∧ (s.modPeer k f).pmu = s.pmu ∧ (s.modPeer k f).pmuMram = s.pmuMram ∧
    (s.modPeer k f).free = s.free ∧ (s.modPeer k f).out = s.out :=
  ⟨rfl, rfl, rfl, rfl, rfl, rfl, rfl, rfl, rfl, rfl, rfl, rfl, rfl, rfl, rfl, rfl, rfl, rfl, rfl, rfl, rfl, rfl, rfl, rfl, rfl, rfl, rfl, rfl, rfl⟩

@[simp] theorem State.modPeer_peer (k : Nat) (f : Peer → Peer) (j : Nat) (s : State) :
    (s.modPeer k f).peer j = if j = k then f (s.peer k) else s.peer j := by simp [State.modPeer, State.peer]

/-- `modPll` leaves every other block as it is. -/
@[simp] theorem State.modPll_frame (k : Nat) (g : Pll → Pll) (s : State) :
    (s.modPll k g).pending = s.pending ∧ (s.modPll k g).boot = s.boot ∧ (s.modPll k g).bootMram = s.bootMram ∧ (s.modPll k g).pins = s.pins ∧
    (s.modPll k g).pace = s.pace ∧ (s.modPll k g).paceMram = s.paceMram ∧ (s.modPll k g).mem = s.mem ∧ (s.modPll k g).host = s.host ∧
    (s.modPll k g).netMgmt = s.netMgmt ∧ (s.modPll k g).netKeys = s.netKeys ∧ (s.modPll k g).intc = s.intc ∧ (s.modPll k g).flt = s.flt ∧
    (s.modPll k g).fltMram = s.fltMram ∧ (s.modPll k g).truss = s.truss ∧ (s.modPll k g).seq = s.seq ∧ (s.modPll k g).heads = s.heads ∧
    (s.modPll k g).adt = s.adt ∧ (s.modPll k g).adtCfg = s.adtCfg ∧ (s.modPll k g).net = s.net ∧ (s.modPll k g).netMram = s.netMram ∧
    (s.modPll k g).dma = s.dma ∧ (s.modPll k g).svc = s.svc ∧ (s.modPll k g).svcMram = s.svcMram ∧ (s.modPll k g).sec = s.sec ∧
    (s.modPll k g).secMram = s.secMram ∧ (s.modPll k g).pmu = s.pmu ∧ (s.modPll k g).pmuMram = s.pmuMram ∧ (s.modPll k g).free = s.free ∧
    (s.modPll k g).out = s.out :=
  ⟨rfl, rfl, rfl, rfl, rfl, rfl, rfl, rfl, rfl, rfl, rfl, rfl, rfl, rfl, rfl, rfl, rfl, rfl, rfl, rfl, rfl, rfl, rfl, rfl, rfl, rfl, rfl, rfl, rfl⟩

@[simp] theorem State.modPll_pll (k : Nat) (g : Pll → Pll) (j : Nat) (s : State) :
    (s.modPll k g).pll j = if j = k then g (s.pll k) else s.pll j := by simp [State.modPll, State.pll]

/-- `modPort` leaves every other block as it is. -/
@[simp] theorem State.modPort_frame (m : Nat) (f : CxlPort → CxlPort) (s : State) :
    (s.modPort m f).pending = s.pending ∧ (s.modPort m f).boot = s.boot ∧ (s.modPort m f).bootMram = s.bootMram ∧
    (s.modPort m f).pins = s.pins ∧ (s.modPort m f).clk = s.clk ∧ (s.modPort m f).pace = s.pace ∧ (s.modPort m f).paceMram = s.paceMram ∧
    (s.modPort m f).host = s.host ∧ (s.modPort m f).netMgmt = s.netMgmt ∧ (s.modPort m f).netKeys = s.netKeys ∧ (s.modPort m f).intc = s.intc ∧
    (s.modPort m f).flt = s.flt ∧ (s.modPort m f).fltMram = s.fltMram ∧ (s.modPort m f).truss = s.truss ∧ (s.modPort m f).seq = s.seq ∧
    (s.modPort m f).heads = s.heads ∧ (s.modPort m f).adt = s.adt ∧ (s.modPort m f).adtCfg = s.adtCfg ∧ (s.modPort m f).net = s.net ∧
    (s.modPort m f).netMram = s.netMram ∧ (s.modPort m f).dma = s.dma ∧ (s.modPort m f).svc = s.svc ∧ (s.modPort m f).svcMram = s.svcMram ∧
    (s.modPort m f).sec = s.sec ∧ (s.modPort m f).secMram = s.secMram ∧ (s.modPort m f).pmu = s.pmu ∧ (s.modPort m f).pmuMram = s.pmuMram ∧
    (s.modPort m f).free = s.free ∧ (s.modPort m f).out = s.out :=
  ⟨rfl, rfl, rfl, rfl, rfl, rfl, rfl, rfl, rfl, rfl, rfl, rfl, rfl, rfl, rfl, rfl, rfl, rfl, rfl, rfl, rfl, rfl, rfl, rfl, rfl, rfl, rfl, rfl, rfl⟩

@[simp] theorem State.modPort_port (m : Nat) (f : CxlPort → CxlPort) (j : Nat) (s : State) :
    (s.modPort m f).port j = if j = m then f (s.port m) else s.port j := by simp [State.modPort, State.port]

/-- `modQueue` leaves every other block as it is. -/
@[simp] theorem State.modQueue_frame (p q : Nat) (f : NetQueue → NetQueue) (s : State) :
    (s.modQueue p q f).pending = s.pending ∧ (s.modQueue p q f).boot = s.boot ∧ (s.modQueue p q f).bootMram = s.bootMram ∧
    (s.modQueue p q f).pins = s.pins ∧ (s.modQueue p q f).clk = s.clk ∧ (s.modQueue p q f).pace = s.pace ∧
    (s.modQueue p q f).paceMram = s.paceMram ∧ (s.modQueue p q f).mem = s.mem ∧ (s.modQueue p q f).host = s.host ∧
    (s.modQueue p q f).netMgmt = s.netMgmt ∧ (s.modQueue p q f).netKeys = s.netKeys ∧ (s.modQueue p q f).intc = s.intc ∧
    (s.modQueue p q f).flt = s.flt ∧ (s.modQueue p q f).fltMram = s.fltMram ∧ (s.modQueue p q f).truss = s.truss ∧
    (s.modQueue p q f).seq = s.seq ∧ (s.modQueue p q f).heads = s.heads ∧ (s.modQueue p q f).adt = s.adt ∧
    (s.modQueue p q f).adtCfg = s.adtCfg ∧ (s.modQueue p q f).netMram = s.netMram ∧ (s.modQueue p q f).dma = s.dma ∧
    (s.modQueue p q f).svc = s.svc ∧ (s.modQueue p q f).svcMram = s.svcMram ∧ (s.modQueue p q f).sec = s.sec ∧
    (s.modQueue p q f).secMram = s.secMram ∧ (s.modQueue p q f).pmu = s.pmu ∧ (s.modQueue p q f).pmuMram = s.pmuMram ∧
    (s.modQueue p q f).free = s.free ∧ (s.modQueue p q f).out = s.out :=
  ⟨rfl, rfl, rfl, rfl, rfl, rfl, rfl, rfl, rfl, rfl, rfl, rfl, rfl, rfl, rfl, rfl, rfl, rfl, rfl, rfl, rfl, rfl, rfl, rfl, rfl, rfl, rfl, rfl, rfl⟩

/-- `modRing` leaves every other block as it is. -/
@[simp] theorem State.modRing_frame (f n : Nat) (g : EvtRing → EvtRing) (s : State) :
    (s.modRing f n g).pending = s.pending ∧ (s.modRing f n g).boot = s.boot ∧ (s.modRing f n g).bootMram = s.bootMram ∧
    (s.modRing f n g).pins = s.pins ∧ (s.modRing f n g).clk = s.clk ∧ (s.modRing f n g).pace = s.pace ∧
    (s.modRing f n g).paceMram = s.paceMram ∧ (s.modRing f n g).mem = s.mem ∧ (s.modRing f n g).netMgmt = s.netMgmt ∧
    (s.modRing f n g).netKeys = s.netKeys ∧ (s.modRing f n g).intc = s.intc ∧ (s.modRing f n g).flt = s.flt ∧
    (s.modRing f n g).fltMram = s.fltMram ∧ (s.modRing f n g).truss = s.truss ∧ (s.modRing f n g).seq = s.seq ∧
    (s.modRing f n g).heads = s.heads ∧ (s.modRing f n g).adt = s.adt ∧ (s.modRing f n g).adtCfg = s.adtCfg ∧ (s.modRing f n g).net = s.net ∧
    (s.modRing f n g).netMram = s.netMram ∧ (s.modRing f n g).dma = s.dma ∧ (s.modRing f n g).svc = s.svc ∧
    (s.modRing f n g).svcMram = s.svcMram ∧ (s.modRing f n g).sec = s.sec ∧ (s.modRing f n g).secMram = s.secMram ∧
    (s.modRing f n g).pmu = s.pmu ∧ (s.modRing f n g).pmuMram = s.pmuMram ∧ (s.modRing f n g).free = s.free ∧ (s.modRing f n g).out = s.out :=
  ⟨rfl, rfl, rfl, rfl, rfl, rfl, rfl, rfl, rfl, rfl, rfl, rfl, rfl, rfl, rfl, rfl, rfl, rfl, rfl, rfl, rfl, rfl, rfl, rfl, rfl, rfl, rfl, rfl, rfl⟩

/-- `modSlot` leaves every other block as it is. -/
@[simp] theorem State.modSlot_frame (x : Nat) (f : SlotSt → SlotSt) (s : State) :
    (s.modSlot x f).pending = s.pending ∧ (s.modSlot x f).boot = s.boot ∧ (s.modSlot x f).bootMram = s.bootMram ∧
    (s.modSlot x f).pins = s.pins ∧ (s.modSlot x f).clk = s.clk ∧ (s.modSlot x f).pace = s.pace ∧ (s.modSlot x f).paceMram = s.paceMram ∧
    (s.modSlot x f).mem = s.mem ∧ (s.modSlot x f).host = s.host ∧ (s.modSlot x f).netMgmt = s.netMgmt ∧ (s.modSlot x f).netKeys = s.netKeys ∧
    (s.modSlot x f).intc = s.intc ∧ (s.modSlot x f).flt = s.flt ∧ (s.modSlot x f).fltMram = s.fltMram ∧ (s.modSlot x f).truss = s.truss ∧
    (s.modSlot x f).heads = s.heads ∧ (s.modSlot x f).adt = s.adt ∧ (s.modSlot x f).adtCfg = s.adtCfg ∧ (s.modSlot x f).net = s.net ∧
    (s.modSlot x f).netMram = s.netMram ∧ (s.modSlot x f).dma = s.dma ∧ (s.modSlot x f).svc = s.svc ∧ (s.modSlot x f).svcMram = s.svcMram ∧
    (s.modSlot x f).sec = s.sec ∧ (s.modSlot x f).secMram = s.secMram ∧ (s.modSlot x f).pmu = s.pmu ∧ (s.modSlot x f).pmuMram = s.pmuMram ∧
    (s.modSlot x f).free = s.free ∧ (s.modSlot x f).out = s.out :=
  ⟨rfl, rfl, rfl, rfl, rfl, rfl, rfl, rfl, rfl, rfl, rfl, rfl, rfl, rfl, rfl, rfl, rfl, rfl, rfl, rfl, rfl, rfl, rfl, rfl, rfl, rfl, rfl, rfl, rfl⟩

@[simp] theorem State.modSlot_slot (x : Nat) (f : SlotSt → SlotSt) (j : Nat) (s : State) :
    (s.modSlot x f).slot j = if j = x then f (s.slot x) else s.slot j := by simp [State.modSlot, State.slot]

/-- `modStore` leaves every other block as it is. -/
@[simp] theorem State.modStore_frame (k : Nat) (f : StoreSlot → StoreSlot) (s : State) :
    (s.modStore k f).pending = s.pending ∧ (s.modStore k f).boot = s.boot ∧ (s.modStore k f).bootMram = s.bootMram ∧
    (s.modStore k f).pins = s.pins ∧ (s.modStore k f).clk = s.clk ∧ (s.modStore k f).pace = s.pace ∧ (s.modStore k f).paceMram = s.paceMram ∧
    (s.modStore k f).mem = s.mem ∧ (s.modStore k f).host = s.host ∧ (s.modStore k f).netMgmt = s.netMgmt ∧
    (s.modStore k f).netKeys = s.netKeys ∧ (s.modStore k f).intc = s.intc ∧ (s.modStore k f).flt = s.flt ∧
    (s.modStore k f).fltMram = s.fltMram ∧ (s.modStore k f).seq = s.seq ∧ (s.modStore k f).heads = s.heads ∧ (s.modStore k f).adt = s.adt ∧
    (s.modStore k f).adtCfg = s.adtCfg ∧ (s.modStore k f).net = s.net ∧ (s.modStore k f).netMram = s.netMram ∧ (s.modStore k f).dma = s.dma ∧
    (s.modStore k f).svc = s.svc ∧ (s.modStore k f).svcMram = s.svcMram ∧ (s.modStore k f).sec = s.sec ∧ (s.modStore k f).secMram = s.secMram ∧
    (s.modStore k f).pmu = s.pmu ∧ (s.modStore k f).pmuMram = s.pmuMram ∧ (s.modStore k f).free = s.free ∧ (s.modStore k f).out = s.out :=
  ⟨rfl, rfl, rfl, rfl, rfl, rfl, rfl, rfl, rfl, rfl, rfl, rfl, rfl, rfl, rfl, rfl, rfl, rfl, rfl, rfl, rfl, rfl, rfl, rfl, rfl, rfl, rfl, rfl, rfl⟩

@[simp] theorem State.modStore_store (k : Nat) (f : StoreSlot → StoreSlot) (j : Nat) (s : State) :
    (s.modStore k f).store j = if j = k then f (s.store k) else s.store j := by simp [State.modStore, State.store]

/-- `modSurf` leaves every other block as it is. -/
@[simp] theorem State.modSurf_frame (h : Nat) (f : Surface → Surface) (s : State) :
    (s.modSurf h f).pending = s.pending ∧ (s.modSurf h f).boot = s.boot ∧ (s.modSurf h f).bootMram = s.bootMram ∧
    (s.modSurf h f).pins = s.pins ∧ (s.modSurf h f).clk = s.clk ∧ (s.modSurf h f).pace = s.pace ∧ (s.modSurf h f).paceMram = s.paceMram ∧
    (s.modSurf h f).mem = s.mem ∧ (s.modSurf h f).host = s.host ∧ (s.modSurf h f).netMgmt = s.netMgmt ∧ (s.modSurf h f).netKeys = s.netKeys ∧
    (s.modSurf h f).intc = s.intc ∧ (s.modSurf h f).flt = s.flt ∧ (s.modSurf h f).fltMram = s.fltMram ∧ (s.modSurf h f).truss = s.truss ∧
    (s.modSurf h f).heads = s.heads ∧ (s.modSurf h f).adt = s.adt ∧ (s.modSurf h f).adtCfg = s.adtCfg ∧ (s.modSurf h f).net = s.net ∧
    (s.modSurf h f).netMram = s.netMram ∧ (s.modSurf h f).dma = s.dma ∧ (s.modSurf h f).svc = s.svc ∧ (s.modSurf h f).svcMram = s.svcMram ∧
    (s.modSurf h f).sec = s.sec ∧ (s.modSurf h f).secMram = s.secMram ∧ (s.modSurf h f).pmu = s.pmu ∧ (s.modSurf h f).pmuMram = s.pmuMram ∧
    (s.modSurf h f).free = s.free ∧ (s.modSurf h f).out = s.out :=
  ⟨rfl, rfl, rfl, rfl, rfl, rfl, rfl, rfl, rfl, rfl, rfl, rfl, rfl, rfl, rfl, rfl, rfl, rfl, rfl, rfl, rfl, rfl, rfl, rfl, rfl, rfl, rfl, rfl, rfl⟩

@[simp] theorem State.modSurf_surf (h : Nat) (f : Surface → Surface) (j : Nat) (s : State) :
    (s.modSurf h f).surf j = if j = h then f (s.surf h) else s.surf j := by simp [State.modSurf, State.surf]

/-- `modUdp` leaves every other block as it is. -/
@[simp] theorem State.modUdp_frame (k : Nat) (f : UdpSess → UdpSess) (s : State) :
    (s.modUdp k f).pending = s.pending ∧ (s.modUdp k f).boot = s.boot ∧ (s.modUdp k f).bootMram = s.bootMram ∧ (s.modUdp k f).pins = s.pins ∧
    (s.modUdp k f).clk = s.clk ∧ (s.modUdp k f).pace = s.pace ∧ (s.modUdp k f).paceMram = s.paceMram ∧ (s.modUdp k f).mem = s.mem ∧
    (s.modUdp k f).netMgmt = s.netMgmt ∧ (s.modUdp k f).netKeys = s.netKeys ∧ (s.modUdp k f).intc = s.intc ∧ (s.modUdp k f).flt = s.flt ∧
    (s.modUdp k f).fltMram = s.fltMram ∧ (s.modUdp k f).truss = s.truss ∧ (s.modUdp k f).seq = s.seq ∧ (s.modUdp k f).heads = s.heads ∧
    (s.modUdp k f).adt = s.adt ∧ (s.modUdp k f).adtCfg = s.adtCfg ∧ (s.modUdp k f).net = s.net ∧ (s.modUdp k f).netMram = s.netMram ∧
    (s.modUdp k f).dma = s.dma ∧ (s.modUdp k f).svc = s.svc ∧ (s.modUdp k f).svcMram = s.svcMram ∧ (s.modUdp k f).sec = s.sec ∧
    (s.modUdp k f).secMram = s.secMram ∧ (s.modUdp k f).pmu = s.pmu ∧ (s.modUdp k f).pmuMram = s.pmuMram ∧ (s.modUdp k f).free = s.free ∧
    (s.modUdp k f).out = s.out :=
  ⟨rfl, rfl, rfl, rfl, rfl, rfl, rfl, rfl, rfl, rfl, rfl, rfl, rfl, rfl, rfl, rfl, rfl, rfl, rfl, rfl, rfl, rfl, rfl, rfl, rfl, rfl, rfl, rfl, rfl⟩

@[simp] theorem State.modUdp_udp (k : Nat) (f : UdpSess → UdpSess) (j : Nat) (s : State) :
    (s.modUdp k f).udp j = if j = k then f (s.udp k) else s.udp j := by simp [State.modUdp, State.udp]

/-- `modWb` leaves every other block as it is. -/
@[simp] theorem State.modWb_frame (e : Nat) (f : WbSt → WbSt) (s : State) :
    (s.modWb e f).pending = s.pending ∧ (s.modWb e f).boot = s.boot ∧ (s.modWb e f).bootMram = s.bootMram ∧ (s.modWb e f).pins = s.pins ∧
    (s.modWb e f).clk = s.clk ∧ (s.modWb e f).pace = s.pace ∧ (s.modWb e f).paceMram = s.paceMram ∧ (s.modWb e f).mem = s.mem ∧
    (s.modWb e f).host = s.host ∧ (s.modWb e f).netMgmt = s.netMgmt ∧ (s.modWb e f).netKeys = s.netKeys ∧ (s.modWb e f).intc = s.intc ∧
    (s.modWb e f).flt = s.flt ∧ (s.modWb e f).fltMram = s.fltMram ∧ (s.modWb e f).truss = s.truss ∧ (s.modWb e f).seq = s.seq ∧
    (s.modWb e f).heads = s.heads ∧ (s.modWb e f).adt = s.adt ∧ (s.modWb e f).adtCfg = s.adtCfg ∧ (s.modWb e f).net = s.net ∧
    (s.modWb e f).netMram = s.netMram ∧ (s.modWb e f).svc = s.svc ∧ (s.modWb e f).svcMram = s.svcMram ∧ (s.modWb e f).sec = s.sec ∧
    (s.modWb e f).secMram = s.secMram ∧ (s.modWb e f).pmu = s.pmu ∧ (s.modWb e f).pmuMram = s.pmuMram ∧ (s.modWb e f).free = s.free ∧
    (s.modWb e f).out = s.out :=
  ⟨rfl, rfl, rfl, rfl, rfl, rfl, rfl, rfl, rfl, rfl, rfl, rfl, rfl, rfl, rfl, rfl, rfl, rfl, rfl, rfl, rfl, rfl, rfl, rfl, rfl, rfl, rfl, rfl, rfl⟩

@[simp] theorem State.modWb_wb (e : Nat) (f : WbSt → WbSt) (j : Nat) (s : State) :
    (s.modWb e f).wb j = if j = e then f (s.wb e) else s.wb j := by simp [State.modWb, State.wb]

/-! ### Sending and counting -/

/-- `emit` leaves every other block as it is. -/
@[simp] theorem State.emit_frame (o : Out) (s : State) :
    (s.emit o).pending = s.pending ∧ (s.emit o).boot = s.boot ∧ (s.emit o).bootMram = s.bootMram ∧ (s.emit o).pins = s.pins ∧
    (s.emit o).clk = s.clk ∧ (s.emit o).pace = s.pace ∧ (s.emit o).paceMram = s.paceMram ∧ (s.emit o).mem = s.mem ∧ (s.emit o).host = s.host ∧
    (s.emit o).netMgmt = s.netMgmt ∧ (s.emit o).netKeys = s.netKeys ∧ (s.emit o).intc = s.intc ∧ (s.emit o).flt = s.flt ∧
    (s.emit o).fltMram = s.fltMram ∧ (s.emit o).truss = s.truss ∧ (s.emit o).seq = s.seq ∧ (s.emit o).heads = s.heads ∧ (s.emit o).adt = s.adt ∧
    (s.emit o).adtCfg = s.adtCfg ∧ (s.emit o).net = s.net ∧ (s.emit o).netMram = s.netMram ∧ (s.emit o).dma = s.dma ∧ (s.emit o).svc = s.svc ∧
    (s.emit o).svcMram = s.svcMram ∧ (s.emit o).sec = s.sec ∧ (s.emit o).secMram = s.secMram ∧ (s.emit o).pmu = s.pmu ∧
    (s.emit o).pmuMram = s.pmuMram ∧ (s.emit o).free = s.free :=
  ⟨rfl, rfl, rfl, rfl, rfl, rfl, rfl, rfl, rfl, rfl, rfl, rfl, rfl, rfl, rfl, rfl, rfl, rfl, rfl, rfl, rfl, rfl, rfl, rfl, rfl, rfl, rfl, rfl, rfl⟩

/-- `countN` leaves every other block as it is. -/
@[simp] theorem State.countN_frame (e n : Nat) (s : State) :
    (s.countN e n).pending = s.pending ∧ (s.countN e n).boot = s.boot ∧ (s.countN e n).bootMram = s.bootMram ∧ (s.countN e n).pins = s.pins ∧
    (s.countN e n).clk = s.clk ∧ (s.countN e n).pace = s.pace ∧ (s.countN e n).paceMram = s.paceMram ∧ (s.countN e n).mem = s.mem ∧
    (s.countN e n).host = s.host ∧ (s.countN e n).netMgmt = s.netMgmt ∧ (s.countN e n).netKeys = s.netKeys ∧ (s.countN e n).intc = s.intc ∧
    (s.countN e n).flt = s.flt ∧ (s.countN e n).fltMram = s.fltMram ∧ (s.countN e n).truss = s.truss ∧ (s.countN e n).seq = s.seq ∧
    (s.countN e n).heads = s.heads ∧ (s.countN e n).adt = s.adt ∧ (s.countN e n).adtCfg = s.adtCfg ∧ (s.countN e n).net = s.net ∧
    (s.countN e n).netMram = s.netMram ∧ (s.countN e n).dma = s.dma ∧ (s.countN e n).svc = s.svc ∧ (s.countN e n).svcMram = s.svcMram ∧
    (s.countN e n).sec = s.sec ∧ (s.countN e n).secMram = s.secMram ∧ (s.countN e n).pmuMram = s.pmuMram ∧ (s.countN e n).free = s.free ∧
    (s.countN e n).out = s.out :=
  ⟨rfl, rfl, rfl, rfl, rfl, rfl, rfl, rfl, rfl, rfl, rfl, rfl, rfl, rfl, rfl, rfl, rfl, rfl, rfl, rfl, rfl, rfl, rfl, rfl, rfl, rfl, rfl, rfl, rfl⟩

/-- `count` leaves every other block as it is. -/
@[simp] theorem State.count_frame (e : Nat) (s : State) :
    (s.count e).pending = s.pending ∧ (s.count e).boot = s.boot ∧ (s.count e).bootMram = s.bootMram ∧ (s.count e).pins = s.pins ∧
    (s.count e).clk = s.clk ∧ (s.count e).pace = s.pace ∧ (s.count e).paceMram = s.paceMram ∧ (s.count e).mem = s.mem ∧
    (s.count e).host = s.host ∧ (s.count e).netMgmt = s.netMgmt ∧ (s.count e).netKeys = s.netKeys ∧ (s.count e).intc = s.intc ∧
    (s.count e).flt = s.flt ∧ (s.count e).fltMram = s.fltMram ∧ (s.count e).truss = s.truss ∧ (s.count e).seq = s.seq ∧
    (s.count e).heads = s.heads ∧ (s.count e).adt = s.adt ∧ (s.count e).adtCfg = s.adtCfg ∧ (s.count e).net = s.net ∧
    (s.count e).netMram = s.netMram ∧ (s.count e).dma = s.dma ∧ (s.count e).svc = s.svc ∧ (s.count e).svcMram = s.svcMram ∧
    (s.count e).sec = s.sec ∧ (s.count e).secMram = s.secMram ∧ (s.count e).pmuMram = s.pmuMram ∧ (s.count e).free = s.free ∧
    (s.count e).out = s.out :=
  ⟨rfl, rfl, rfl, rfl, rfl, rfl, rfl, rfl, rfl, rfl, rfl, rfl, rfl, rfl, rfl, rfl, rfl, rfl, rfl, rfl, rfl, rfl, rfl, rfl, rfl, rfl, rfl, rfl, rfl⟩

end Sys2Proof.Machine
end

