-- ==== Sys2Proof/Laws/Mem.lean ====
section
/-! SUPPORT. What the operations over CXL memory do: each keeps the bytes in canonical form, a byte written reads back, and no other changes. -/

namespace Sys2Proof.Machine

/-- The state after reset lists no byte. -/
theorem reset_memCanonical : State.reset.MemCanonical := rfl

/-- Canonical form is a matter of the listed bytes alone. -/
theorem State.MemCanonical.of_bytes {s t : State} (h : s.MemCanonical) (hb : t.mem.bytes = s.mem.bytes) : t.MemCanonical := by
  unfold State.MemCanonical at *; rw [hb]; exact h

/-! ### One byte and many -/

/-- A byte put at `a` is what is listed there, and every other address keeps its own. -/
@[simp] theorem State.memPut_bytes (a : Nat) (b : Byte) (s : State) (j : Nat) :
    tabGet (s.memPut a b).mem.bytes j = if j = a then b else tabGet s.mem.bytes j := by simp [State.memPut]

theorem State.memPut_canonical {a : Nat} {b : Byte} {s : State} (h : s.MemCanonical) : (s.memPut a b).MemCanonical := tabSetD_wf h

/-- Putting a byte moves no port. -/
theorem State.memPut_memUp (a : Nat) (b : Byte) (s : State) (j : Nat) : (s.memPut a b).memUp j = s.memUp j := rfl

theorem State.memPuts_canonical {bs : List Byte} {a : Nat} {s : State} (h : s.MemCanonical) : (s.memPuts a bs).MemCanonical := by
  induction bs generalizing a s with
  | nil => exact h
  | cons b bs ih =>
    unfold State.memPuts; split
    · exact ih (memPut_canonical h)
    · exact ih h

/-- Bytes put from `a` on leave every address before `a` and every one past their end as it was. -/
theorem State.memPuts_outside {bs : List Byte} {a j : Nat} {s : State} (h : j < a ∨ a + bs.length ≤ j) :
    tabGet (s.memPuts a bs).mem.bytes j = tabGet s.mem.bytes j := by
  induction bs generalizing a s with
  | nil => rfl
  | cons b bs ih =>
    have hj : j < a + 1 ∨ a + 1 + bs.length ≤ j := by simp only [List.length_cons] at h; omega
    have ha : j ≠ a := by simp only [List.length_cons] at h; omega
    unfold State.memPuts; split
    · rw [ih hj, memPut_bytes, if_neg ha]
    · exact ih hj

/-- Bytes put on ports that serve them stand where they were put. -/
theorem State.memPuts_inside {bs : List Byte} {a k : Nat} {s : State} (hk : k < bs.length) (hu : ∀ i, i < bs.length → s.memUp (a + i) = true) :
    tabGet (s.memPuts a bs).mem.bytes (a + k) = bs[k] := by
  induction bs generalizing a k s with
  | nil => simp at hk
  | cons b bs ih =>
    have h0 : s.memUp a = true := hu 0 (by simp)
    have hi : ∀ i, i < bs.length → (s.memPut a b).memUp (a + 1 + i) = true := by
      intro i hlt; rw [memPut_memUp, Nat.add_assoc, Nat.add_comm 1]; exact hu (i + 1) (by simpa using hlt)
    unfold State.memPuts; rw [if_pos h0]
    cases k with
    | zero => rw [show a + 0 = a from rfl, memPuts_outside (.inl (Nat.lt_add_one a)), memPut_bytes, if_pos rfl]; rfl
    | succ k =>
      have := ih (a := a + 1) (k := k) (s := s.memPut a b) (by simpa using hk) hi
      rw [show a + (k + 1) = a + 1 + k by omega, this]; rfl

/-! ### Whole accesses -/

@[simp] theorem State.bwAdd_mem (n cls bytes : Nat) (s : State) : (s.bwAdd n cls bytes).mem = s.mem := by
  unfold State.bwAdd; split <;> rfl

/-- Counting traffic touches the counters alone. -/
@[simp] theorem State.traffic_mem (p : Nat) (w : Bool) (who : Who) (l : List Nat) (s : State) : (s.traffic p w who l).mem = s.mem := by
  unfold State.traffic; split
  · rfl
  · rw [bwAdd_mem]; rfl

/-- A fold of steps that leave memory leaves memory. -/
theorem foldl_mem {α : Type} {f : State → α → State} (h : ∀ s x, (f s x).mem = s.mem) (l : List α) (s : State) : (l.foldl f s).mem = s.mem := by
  induction l generalizing s with
  | nil => rfl
  | cons x l ih => rw [List.foldl_cons, ih, h]

/-- Counting a write's lines, port by port, leaves memory. -/
theorem countWrite_mem (w : Who) (a n : Nat) (s : State) :
    ((List.range 4).foldl (fun (s : State) m =>
      let k := s.linesOn m a n
      if k = 0 then s
      else if s.portServes m then (s.countN (128 + 16 * m + 2) k).traffic m true w (s.portLines m a n)
      else s.count (128 + 16 * m + 14)) s).mem = s.mem := by
  refine foldl_mem (fun t m => ?_) _ _
  dsimp only; split
  · rfl
  · split
    · rw [State.traffic_mem]; rfl
    · rfl

theorem State.memHeal_canonical {a n : Nat} {s : State} (h : s.MemCanonical) : (s.memHeal a n).MemCanonical := h

theorem State.memStore_canonical {a : Nat} {bs : List Byte} {s : State} {w : Who} (h : s.MemCanonical) : (s.memStore a bs w).MemCanonical := by
  unfold State.memStore; split
  · exact h
  · exact memPuts_canonical (memHeal_canonical (h.of_bytes (congrArg MemSt.bytes (countWrite_mem w a bs.length s))))

theorem State.memWrite_canonical {a : Nat} {bs : List Byte} {s : State} {w : Who} (h : s.MemCanonical) : (s.memWrite a bs w).MemCanonical := by
  unfold State.memWrite; split
  · exact h
  · exact memStore_canonical h

/-- Ending poison leaves the bytes. -/
@[simp] theorem State.memHeal_bytes (a n : Nat) (s : State) : (s.memHeal a n).mem.bytes = s.mem.bytes := rfl

/-- A write of the GM8's own engines leaves every address outside its bytes as it was. -/
theorem State.memWrite_outside {a j : Nat} {bs : List Byte} {s : State} {w : Who} (h : j < a ∨ a + bs.length ≤ j) :
    tabGet (s.memWrite a bs w).mem.bytes j = tabGet s.mem.bytes j := by
  unfold State.memWrite; split
  · rfl
  · unfold State.memStore; split
    · rfl
    · rw [memPuts_outside h, memHeal_bytes, countWrite_mem]

theorem storeCopy_canonical {k : Nat} {img : List Byte} {s : State} (h : s.MemCanonical) : (storeCopy k img s).MemCanonical := by
  unfold storeCopy
  generalize s.storePorts = l
  induction l generalizing s with
  | nil => exact h
  | cons m l ih => exact ih (State.memWrite_canonical h)

theorem State.memForget_canonical {m : Nat} {s : State} (h : s.MemCanonical) : (s.memForget m).MemCanonical := by
  unfold State.MemCanonical State.memForget; dsimp only; exact tabKeep_wf h

/-- R46: what the foreground step initialises is listed no more. -/
theorem foregroundInit_canonical {t : Truss} {s : State} (h : s.MemCanonical) : (foregroundInit t s).MemCanonical := by
  unfold foregroundInit
  generalize t.regions.filter _ = l
  induction l generalizing s with
  | nil => exact h
  | cons r l ih =>
    refine ih ?_
    have hm := foldl_mem (f := fun (s : State) (p : Nat × Nat × Nat) => s.countN (128 + 16 * p.1 + 2) ((p.2.2 - p.2.1) / 64))
      (fun _ _ => rfl) (s.portSpans r.addr r.size) s
    have := h.of_bytes (congrArg MemSt.bytes hm)
    unfold State.MemCanonical at *; dsimp only at *; exact tabKeep_wf this

end Sys2Proof.Machine
end

