-- ==== Sys2Proof/Laws/Ops.lean ====
section
/-! SUPPORT. What the shared small operations do: time, free values, interrupt inputs, and the drive of ERR_N with which every command ends. -/

namespace Sys2Proof.Machine

/-! ### Time -/

@[simp] theorem State.elapse_aon (ns : Nat) (s : State) : (s.elapse ns).clk.aon = s.clk.aon + ns := rfl

@[simp] theorem State.untilAon_aon (t : Nat) (s : State) : (s.untilAon t).clk.aon = max s.clk.aon t := by
  unfold State.untilAon; rw [elapse_aon]; omega

/-- Plan time goes forward to an instant that lies ahead, and stays where it is otherwise. -/
@[simp] theorem State.untilPlan_plan (t : Nat) (s : State) : (s.untilPlan t).clk.plan = max s.clk.plan t := by
  unfold State.untilPlan; split
  · omega
  · show t = _; omega

theorem State.modClk_eq (f : ClkSt → ClkSt) (s : State) : s.modClk f = { s with clk := (s.modClk f).clk } := rfl

/-- Time moves the clocks alone. -/
theorem State.untilPlan_eq (t : Nat) (s : State) : s.untilPlan t = { s with clk := (s.untilPlan t).clk } := by
  unfold State.untilPlan; split
  · rfl
  · exact modClk_eq _ s

/-- The always-on count never runs back. -/
theorem State.untilPlan_aon_le (t : Nat) (s : State) : s.clk.aon ≤ (s.untilPlan t).clk.aon := by
  unfold State.untilPlan; split
  · exact Nat.le_refl _
  · exact Nat.le_add_right _ _

/-- Time moves the clocks alone. -/
@[simp] theorem State.elapse_frame (ns : Nat) (s : State) :
    (s.elapse ns).pending = s.pending ∧ (s.elapse ns).boot = s.boot ∧ (s.elapse ns).bootMram = s.bootMram ∧ (s.elapse ns).pins = s.pins ∧
    (s.elapse ns).pace = s.pace ∧ (s.elapse ns).paceMram = s.paceMram ∧ (s.elapse ns).mem = s.mem ∧ (s.elapse ns).host = s.host ∧
    (s.elapse ns).netMgmt = s.netMgmt ∧ (s.elapse ns).netKeys = s.netKeys ∧ (s.elapse ns).intc = s.intc ∧ (s.elapse ns).flt = s.flt ∧
    (s.elapse ns).fltMram = s.fltMram ∧ (s.elapse ns).truss = s.truss ∧ (s.elapse ns).seq = s.seq ∧ (s.elapse ns).heads = s.heads ∧
    (s.elapse ns).adt = s.adt ∧ (s.elapse ns).adtCfg = s.adtCfg ∧ (s.elapse ns).net = s.net ∧ (s.elapse ns).netMram = s.netMram ∧
    (s.elapse ns).dma = s.dma ∧ (s.elapse ns).svc = s.svc ∧ (s.elapse ns).svcMram = s.svcMram ∧ (s.elapse ns).sec = s.sec ∧
    (s.elapse ns).secMram = s.secMram ∧ (s.elapse ns).pmu = s.pmu ∧ (s.elapse ns).pmuMram = s.pmuMram ∧ (s.elapse ns).free = s.free ∧
    (s.elapse ns).out = s.out :=
  ⟨rfl, rfl, rfl, rfl, rfl, rfl, rfl, rfl, rfl, rfl, rfl, rfl, rfl, rfl, rfl, rfl, rfl, rfl, rfl, rfl, rfl, rfl, rfl, rfl, rfl, rfl, rfl, rfl, rfl⟩

/-- Time moves the clocks alone. -/
@[simp] theorem State.untilAon_frame (t : Nat) (s : State) :
    (s.untilAon t).pending = s.pending ∧ (s.untilAon t).boot = s.boot ∧ (s.untilAon t).bootMram = s.bootMram ∧ (s.untilAon t).pins = s.pins ∧
    (s.untilAon t).pace = s.pace ∧ (s.untilAon t).paceMram = s.paceMram ∧ (s.untilAon t).mem = s.mem ∧ (s.untilAon t).host = s.host ∧
    (s.untilAon t).netMgmt = s.netMgmt ∧ (s.untilAon t).netKeys = s.netKeys ∧ (s.untilAon t).intc = s.intc ∧ (s.untilAon t).flt = s.flt ∧
    (s.untilAon t).fltMram = s.fltMram ∧ (s.untilAon t).truss = s.truss ∧ (s.untilAon t).seq = s.seq ∧ (s.untilAon t).heads = s.heads ∧
    (s.untilAon t).adt = s.adt ∧ (s.untilAon t).adtCfg = s.adtCfg ∧ (s.untilAon t).net = s.net ∧ (s.untilAon t).netMram = s.netMram ∧
    (s.untilAon t).dma = s.dma ∧ (s.untilAon t).svc = s.svc ∧ (s.untilAon t).svcMram = s.svcMram ∧ (s.untilAon t).sec = s.sec ∧
    (s.untilAon t).secMram = s.secMram ∧ (s.untilAon t).pmu = s.pmu ∧ (s.untilAon t).pmuMram = s.pmuMram ∧ (s.untilAon t).free = s.free ∧
    (s.untilAon t).out = s.out :=
  ⟨rfl, rfl, rfl, rfl, rfl, rfl, rfl, rfl, rfl, rfl, rfl, rfl, rfl, rfl, rfl, rfl, rfl, rfl, rfl, rfl, rfl, rfl, rfl, rfl, rfl, rfl, rfl, rfl, rfl⟩

/-- Time moves the clocks alone. -/
@[simp] theorem State.untilPlan_frame (t : Nat) (s : State) :
    (s.untilPlan t).pending = s.pending ∧ (s.untilPlan t).boot = s.boot ∧ (s.untilPlan t).bootMram = s.bootMram ∧
    (s.untilPlan t).pins = s.pins ∧ (s.untilPlan t).pace = s.pace ∧ (s.untilPlan t).paceMram = s.paceMram ∧ (s.untilPlan t).mem = s.mem ∧
    (s.untilPlan t).host = s.host ∧ (s.untilPlan t).netMgmt = s.netMgmt ∧ (s.untilPlan t).netKeys = s.netKeys ∧ (s.untilPlan t).intc = s.intc ∧
    (s.untilPlan t).flt = s.flt ∧ (s.untilPlan t).fltMram = s.fltMram ∧ (s.untilPlan t).truss = s.truss ∧ (s.untilPlan t).seq = s.seq ∧
    (s.untilPlan t).heads = s.heads ∧ (s.untilPlan t).adt = s.adt ∧ (s.untilPlan t).adtCfg = s.adtCfg ∧ (s.untilPlan t).net = s.net ∧
    (s.untilPlan t).netMram = s.netMram ∧ (s.untilPlan t).dma = s.dma ∧ (s.untilPlan t).svc = s.svc ∧ (s.untilPlan t).svcMram = s.svcMram ∧
    (s.untilPlan t).sec = s.sec ∧ (s.untilPlan t).secMram = s.secMram ∧ (s.untilPlan t).pmu = s.pmu ∧ (s.untilPlan t).pmuMram = s.pmuMram ∧
    (s.untilPlan t).free = s.free ∧ (s.untilPlan t).out = s.out :=
  by
  rw [untilPlan_eq]; exact ⟨rfl, rfl, rfl, rfl, rfl, rfl, rfl, rfl, rfl, rfl, rfl, rfl, rfl, rfl, rfl, rfl, rfl, rfl, rfl, rfl, rfl, rfl, rfl, rfl, rfl, rfl, rfl, rfl, rfl⟩

/-! ### Free values, interrupt inputs -/

/-- A draw moves the counter of free values alone. -/
@[simp] theorem State.draw_frame (s : State) :
    (s.draw.2).pending = s.pending ∧ (s.draw.2).boot = s.boot ∧ (s.draw.2).bootMram = s.bootMram ∧ (s.draw.2).pins = s.pins ∧
    (s.draw.2).clk = s.clk ∧ (s.draw.2).pace = s.pace ∧ (s.draw.2).paceMram = s.paceMram ∧ (s.draw.2).mem = s.mem ∧ (s.draw.2).host = s.host ∧
    (s.draw.2).netMgmt = s.netMgmt ∧ (s.draw.2).netKeys = s.netKeys ∧ (s.draw.2).intc = s.intc ∧ (s.draw.2).flt = s.flt ∧
    (s.draw.2).fltMram = s.fltMram ∧ (s.draw.2).truss = s.truss ∧ (s.draw.2).seq = s.seq ∧ (s.draw.2).heads = s.heads ∧ (s.draw.2).adt = s.adt ∧
    (s.draw.2).adtCfg = s.adtCfg ∧ (s.draw.2).net = s.net ∧ (s.draw.2).netMram = s.netMram ∧ (s.draw.2).dma = s.dma ∧ (s.draw.2).svc = s.svc ∧
    (s.draw.2).svcMram = s.svcMram ∧ (s.draw.2).sec = s.sec ∧ (s.draw.2).secMram = s.secMram ∧ (s.draw.2).pmu = s.pmu ∧
    (s.draw.2).pmuMram = s.pmuMram ∧ (s.draw.2).out = s.out :=
  ⟨rfl, rfl, rfl, rfl, rfl, rfl, rfl, rfl, rfl, rfl, rfl, rfl, rfl, rfl, rfl, rfl, rfl, rfl, rfl, rfl, rfl, rfl, rfl, rfl, rfl, rfl, rfl, rfl, rfl⟩

@[simp] theorem State.draw_free (s : State) : s.draw.2.free = s.free + 1 := rfl

/-- An event input changes the interrupt controller alone. -/
@[simp] theorem State.pend_frame (x : Nat) (s : State) :
    (s.pend x).pending = s.pending ∧ (s.pend x).boot = s.boot ∧ (s.pend x).bootMram = s.bootMram ∧ (s.pend x).pins = s.pins ∧
    (s.pend x).clk = s.clk ∧ (s.pend x).pace = s.pace ∧ (s.pend x).paceMram = s.paceMram ∧ (s.pend x).mem = s.mem ∧ (s.pend x).host = s.host ∧
    (s.pend x).netMgmt = s.netMgmt ∧ (s.pend x).netKeys = s.netKeys ∧ (s.pend x).flt = s.flt ∧ (s.pend x).fltMram = s.fltMram ∧
    (s.pend x).truss = s.truss ∧ (s.pend x).seq = s.seq ∧ (s.pend x).heads = s.heads ∧ (s.pend x).adt = s.adt ∧ (s.pend x).adtCfg = s.adtCfg ∧
    (s.pend x).net = s.net ∧ (s.pend x).netMram = s.netMram ∧ (s.pend x).dma = s.dma ∧ (s.pend x).svc = s.svc ∧ (s.pend x).svcMram = s.svcMram ∧
    (s.pend x).sec = s.sec ∧ (s.pend x).secMram = s.secMram ∧ (s.pend x).pmu = s.pmu ∧ (s.pend x).pmuMram = s.pmuMram ∧
    (s.pend x).free = s.free ∧ (s.pend x).out = s.out :=
  by
  unfold State.pend; split
  · exact ⟨rfl, rfl, rfl, rfl, rfl, rfl, rfl, rfl, rfl, rfl, rfl, rfl, rfl, rfl, rfl, rfl, rfl, rfl, rfl, rfl, rfl, rfl, rfl, rfl, rfl, rfl, rfl, rfl, rfl⟩
  · exact ⟨rfl, rfl, rfl, rfl, rfl, rfl, rfl, rfl, rfl, rfl, rfl, rfl, rfl, rfl, rfl, rfl, rfl, rfl, rfl, rfl, rfl, rfl, rfl, rfl, rfl, rfl, rfl, rfl, rfl⟩

/-- A condition input changes the interrupt controller alone. -/
@[simp] theorem State.setCond_frame (x : Nat) (b : Bool) (s : State) :
    (s.setCond x b).pending = s.pending ∧ (s.setCond x b).boot = s.boot ∧ (s.setCond x b).bootMram = s.bootMram ∧
    (s.setCond x b).pins = s.pins ∧ (s.setCond x b).clk = s.clk ∧ (s.setCond x b).pace = s.pace ∧ (s.setCond x b).paceMram = s.paceMram ∧
    (s.setCond x b).mem = s.mem ∧ (s.setCond x b).host = s.host ∧ (s.setCond x b).netMgmt = s.netMgmt ∧ (s.setCond x b).netKeys = s.netKeys ∧
    (s.setCond x b).flt = s.flt ∧ (s.setCond x b).fltMram = s.fltMram ∧ (s.setCond x b).truss = s.truss ∧ (s.setCond x b).seq = s.seq ∧
    (s.setCond x b).heads = s.heads ∧ (s.setCond x b).adt = s.adt ∧ (s.setCond x b).adtCfg = s.adtCfg ∧ (s.setCond x b).net = s.net ∧
    (s.setCond x b).netMram = s.netMram ∧ (s.setCond x b).dma = s.dma ∧ (s.setCond x b).svc = s.svc ∧ (s.setCond x b).svcMram = s.svcMram ∧
    (s.setCond x b).sec = s.sec ∧ (s.setCond x b).secMram = s.secMram ∧ (s.setCond x b).pmu = s.pmu ∧ (s.setCond x b).pmuMram = s.pmuMram ∧
    (s.setCond x b).free = s.free ∧ (s.setCond x b).out = s.out :=
  by
  unfold State.setCond; split
  · exact ⟨rfl, rfl, rfl, rfl, rfl, rfl, rfl, rfl, rfl, rfl, rfl, rfl, rfl, rfl, rfl, rfl, rfl, rfl, rfl, rfl, rfl, rfl, rfl, rfl, rfl, rfl, rfl, rfl, rfl⟩
  · exact ⟨rfl, rfl, rfl, rfl, rfl, rfl, rfl, rfl, rfl, rfl, rfl, rfl, rfl, rfl, rfl, rfl, rfl, rfl, rfl, rfl, rfl, rfl, rfl, rfl, rfl, rfl, rfl, rfl, rfl⟩

/-! ### The end of every command -/

/-- Driving ERR_N changes its pin and what has been sent out. -/
@[simp] theorem State.driveErrn_frame (s : State) :
    (s.driveErrn).pending = s.pending ∧ (s.driveErrn).boot = s.boot ∧ (s.driveErrn).bootMram = s.bootMram ∧ (s.driveErrn).clk = s.clk ∧
    (s.driveErrn).pace = s.pace ∧ (s.driveErrn).paceMram = s.paceMram ∧ (s.driveErrn).mem = s.mem ∧ (s.driveErrn).host = s.host ∧
    (s.driveErrn).netMgmt = s.netMgmt ∧ (s.driveErrn).netKeys = s.netKeys ∧ (s.driveErrn).intc = s.intc ∧ (s.driveErrn).flt = s.flt ∧
    (s.driveErrn).fltMram = s.fltMram ∧ (s.driveErrn).truss = s.truss ∧ (s.driveErrn).seq = s.seq ∧ (s.driveErrn).heads = s.heads ∧
    (s.driveErrn).adt = s.adt ∧ (s.driveErrn).adtCfg = s.adtCfg ∧ (s.driveErrn).net = s.net ∧ (s.driveErrn).netMram = s.netMram ∧
    (s.driveErrn).dma = s.dma ∧ (s.driveErrn).svc = s.svc ∧ (s.driveErrn).svcMram = s.svcMram ∧ (s.driveErrn).sec = s.sec ∧
    (s.driveErrn).secMram = s.secMram ∧ (s.driveErrn).pmu = s.pmu ∧ (s.driveErrn).pmuMram = s.pmuMram ∧ (s.driveErrn).free = s.free :=
  by
  unfold State.driveErrn; split
  · exact ⟨rfl, rfl, rfl, rfl, rfl, rfl, rfl, rfl, rfl, rfl, rfl, rfl, rfl, rfl, rfl, rfl, rfl, rfl, rfl, rfl, rfl, rfl, rfl, rfl, rfl, rfl, rfl, rfl⟩
  · exact ⟨rfl, rfl, rfl, rfl, rfl, rfl, rfl, rfl, rfl, rfl, rfl, rfl, rfl, rfl, rfl, rfl, rfl, rfl, rfl, rfl, rfl, rfl, rfl, rfl, rfl, rfl, rfl, rfl⟩

/-- The level of ERR_N does not hang on the pin, nor on what has been sent out. -/
theorem State.errnDriven_driveErrn (s : State) : s.driveErrn.errnDriven = s.errnDriven := by
  unfold State.driveErrn; split <;> rfl

/-- After the drive ERR_N stands at its level. -/
theorem State.driveErrn_true (s : State) : s.driveErrn.ErrnTrue := by
  unfold State.ErrnTrue; rw [errnDriven_driveErrn]; unfold State.driveErrn; split
  · assumption
  · rfl

/-- A pin that stands at its level is not driven anew. -/
theorem State.driveErrn_same {s : State} (h : s.ErrnTrue) : s.driveErrn = s := if_pos h

/-- Every meaning ends in a next state, with ERR_N at its level. -/
theorem done_next (s : State) : ∃ t, done s = .next t ∧ t.ErrnTrue := ⟨_, rfl, s.driveErrn_true⟩

end Sys2Proof.Machine
end

