-- ==== Sys2Proof/Tests/Slice0.lean ====
section
/-! SUPPORT. Small tests: ill-formed commands are refused as such, what reset leaves, and for each statement states and operands that meet
its hypotheses (`test_meets_<statement>`), at the ends of their ranges. -/

namespace Sys2Proof.Tests

-- One test after the other: each in a thread of its own asks for more stack than the check allows.
set_option Elab.async false

open Sys2Proof Sys2Proof.Machine

/-- A session of KCP 3.2 with handle 1, about to take sequence number 0. -/
def sess : Session := { version := 0x32, handle := 1 }

/-- A device whose firmware runs, with the host link up and the physical function's session on mailbox 0. -/
def dev : State :=
  { boot := { phase := .running }, clk := { refOk := true, valid := true },
    host := { peRefclk := true, perstLow := false, inReset := false, linkUp := true, fns := [(0, { bme := true })],
              mbx := [(0, { enable := true, session := some sess })] } }

/-- The path of mailbox 0 with the next sequence number and a full parameter area. -/
def pf : KcpCtx := { fn := 0, via := .mailbox 0, handle := 1, seq := 0, flags := 0, len := 48, tag := 0, params := zeros 48 }

/-- The path of UDP session 0. -/
def udp0 : KcpCtx := { pf with via := .udp 0 }

/-- `dev` with a session of the physical function's role on UDP session 0. -/
def devUdp : State := dev.modHost fun h => { h with udp := [(0, { inUse := true, opened := true, session := sess })] }

/-- `dev` with virtual functions, and a session on mailbox 0 of function 1. -/
def devVf : State := dev.modHost fun h =>
  { h with vfEnable := true, fns := [(0, { bme := true }), (1, { enabled := true, bme := true, cmdGroups := 0xFFE })],
           mbx := [(0, { enable := true, session := some sess }), (4, { enable := true, session := some sess })] }

/-- The path of mailbox 0 of function 1. -/
def vf : KcpCtx := { pf with fn := 1 }

/-- The entry of a command on a path. -/
def entryOf (id : Nat) (c : KcpCtx) : CmdEntry :=
  { id := BitVec.ofNat 16 id, flags := c.flags, len := c.len, tag := c.tag, handle := c.handle, seq := c.seq, params := c.params }

/-- `s` with a command taken on its path; nothing but the path is touched. -/
def got (id : Nat) (c : KcpCtx) (s : State) : State :=
  match c.via with
  | .mailbox n => s.modMbx c.fn n fun m => { m with busy := true, taken := some { entry := entryOf id c } }
  | .udp k => s.modUdp k fun u => { u with waiting := [{ entry := entryOf id c }] }

/-- A command is ready once it has been taken in `s`. -/
def rdy (id extra : Nat) (c : KcpCtx) (s : State) : Bool := kcpReady id extra c (got id c s)

theorem got_frame (id : Nat) (c : KcpCtx) (s : State) :
    got id c s = { s with host := { s.host with mbx := (got id c s).host.mbx, udp := (got id c s).host.udp } } := by
  unfold got; split <;> rfl
/-- R151: every command of a fixed length that a statement speaks of is ready on mailbox 0. -/
theorem test_meets_kcpReady : ([0x0001, 0x0002, 0x0003, 0x0004, 0x0006, 0x0100, 0x0101, 0x0102, 0x0103, 0x0111, 0x0112, 0x0120, 0x0121, 
    0x0122, 0x0140, 0x0141, 0x0142, 0x0143, 0x0144, 0x0145, 0x0200, 0x0201, 0x0202, 0x0203, 0x0210, 0x0212, 
    0x0221, 0x0240, 0x0241, 0x0242, 0x0243, 0x0260, 0x0261, 0x0262, 0x0263, 0x0264, 0x0265, 0x0280, 0x0281, 
    0x0282, 0x0283, 0x0284, 0x0285, 0x0300, 0x0301, 0x0302, 0x0303, 0x0304, 0x0305, 0x0400, 0x0401, 0x0402, 
    0x0403, 0x0404, 0x0405, 0x0406, 0x0407, 0x0440, 0x0441, 0x0442, 0x0443, 0x0444, 0x0445, 0x0446, 0x0447, 
    0x0448, 0x0450, 0x0451, 0x0500, 0x0501, 0x0510, 0x0511, 0x0520, 0x0521, 0x0522, 0x0600, 0x0602, 0x0608, 
    0x0610, 0x0611, 0x0621, 0x0622, 0x0623, 0x0700, 0x0701, 0x0702, 0x0703, 0x0704, 0x0705, 0x0706, 0x0707, 
    0x0708, 0x0709, 0x0740, 0x0741, 0x0742, 0x0800, 0x0801, 0x0810, 0x0811, 0x0812, 0x0820, 0x0821, 0x0830, 
    0x0900, 0x0901, 0x0902, 0x0903, 0x0904, 0x0910, 0x0911, 0x0912, 0x0913, 0x0914, 0x0A00, 0x0A01, 0x0A02, 
    0x0A03, 0x0A04, 0x0A05, 0x0A06, 0x0A07, 0x0A08, 0x0A09, 0x0B00, 0x0B01, 0x0B02, 0x0B04, 0x0B05] : List Nat).all (fun id => rdy id 0 pf dev) = true := by decide

/-- Port 0 up with 512 GiB, all of it initialised. -/
def port0 : CxlPort := { state := .up, deviceGib := 512, gib := 512, boundary := 512 * gib }

/-- A truss of one group with one output on head 0, one slot, and one item that fetches for it. -/
def tr : Truss :=
  { groups := [{ outputs := 1 }], outputs := [{ width := 64, height := 8, slots := [0] }], slots := [{}], variants := [{}],
    items := [(0, [{ start := 20, deadline := 100, mask := 1, count := 1 }])], fetches := [(0, [{ bytes := 64 }])] }

/-- `dev` with CXL port 0 up and that truss running from store slot 0. -/
def devTr : State :=
  { dev with mem := { ports := [(0, port0)] }, truss := { slots := [(0, { state := .running, signed := true, truss := some tr })] },
             seq := { running := 1, groups := [(0, { store := 1, begun := true, nextAt := 1000000, period := 1000000 })] } }

theorem test_meets_StartsRunTheirSteps : State.reset.boot.phase = .powerOnReset ∧ State.reset.pins.resetN = true ∧
    (State.reset.modPins fun x => { x with resetN := false }).pins.resetN = false ∧
    (State.reset.modBoot fun b => { b with phase := .waitRef }).boot.phase = .waitRef ∧
    (let s := State.reset.modBoot fun b => { b with phase := .pinReset }; s.boot.phase = .pinReset ∧ s.boot.coldPending = false) ∧
    (let s := dev.modHost fun h => { h with kcpResetDue := 1 }; s.host.kcpResetDue ≠ 0 ∧ s.boot.flashBusy = false ∧ s.flt.safe = false) ∧
    (let s := dev.modBoot fun b => { b with watchdogDue := 1 }; s.boot.watchdogDue ≠ 0 ∧ s.flt.safe = false) := by decide

theorem test_meets_ResetsClearAllButTheAlwaysOn : brownOutAt .vddhDp = none ∧ brownOutAt .vddCore = some 660 ∧ 659 < 660 ∧ 2000 < 2001 ∧
    999 < 1000 ∧ dev.flt.safe = false ∧ dev.boot.phase ≠ .powerOnReset ∧ dev.boot.phase ≠ .pinReset := by decide

theorem test_meets_SafeStateIgnoresResetN : let s := dev.modFlt fun f => { f with safe := true }
    s.flt.safe = true ∧ s.boot.phase ≠ .powerOnReset ∧ s.boot.phase ≠ .pinReset := by decide

theorem test_meets_BackgroundInitialisationCompletes : dev.boot.phase = .running ∧ dev.boot.memInitDone = false ∧ (devTr.port 0).state = .up := by
  decide

theorem test_meets_LowReadsLatchTheHighWord : dev.barOpen 0 = true ∧ devVf.barOpen 15 = false ∧ devVf.barOpen 1 = true := by decide

theorem test_meets_ReferenceLossGatesEveryPll : dev.clk.refOk = true ∧
    (let s := dev.modClk fun c => { c with refOk := false, plls := [(9, { failed := true })] }
     s.clk.refOk = false ∧ s.boot.phase = .running ∧ (s.pll 0).failed = false ∧ (s.pll 9).failed = true) := by decide

theorem test_meets_PllLockSequence : let s := dev.modClk fun c => { c with plls := [(0, { locked := true }), (1, { acquiring := true, attempts := 1 }),
      (2, { settling := true }), (3, { opening := true }), (9, { acquiring := true, attempts := 2 })] }
    (s.pll 0).locked = true ∧ (s.pll 1).acquiring = true ∧ s.clk.refOk = true ∧ (s.pll 1).attempts < 2 ∧ (s.pll 2).settling = true ∧
    (s.pll 3).opening = true ∧ (s.pll 3).trackSrc ≠ 1 ∧ (s.pll 9).acquiring = true ∧ 2 ≤ (s.pll 9).attempts ∧
    (let s := dev.modClk fun c => { c with plls := [(9, { locked := true, gated := false })] }; (s.pll 9).locked = true ∧ (s.pll 9).gated = false) ∧
    (let s := dev.modClk fun c => { c with plls := [(4, { opening := true, trackSrc := 1 })], syncAccepted := 1 }
     (s.pll 4).opening = true ∧ (s.pll 4).trackSrc = 1 ∧ s.clk.syncAccepted = s.clk.plan + 1) := by decide

theorem test_meets_TrackingMovesOneStep :
    (let s := dev.modClk fun c => { c with plls := [(7, { target := -1, stepAt := 1 })] }
     (s.pll 7).gated = false ∧ s.planGated = false ∧ s.flt.safe = false ∧ s.trackMissing 7 = false ∧
     (s.pll 7).nOffset ≠ (s.pll 7).target ∧ (s.pll 7).stepAt ≠ 0) ∧
    (let s := dev.modClk fun c => { c with plls := [(0, { trackSrc := 1, syncPeriod := 1000000 })], syncLast := 1, syncPresent := true }
     (s.elapse 1050000).planGated = false ∧ s.boot.phase = .running ∧ s.syncPeriod ≠ 0 ∧ s.clk.syncLast ≠ 0 ∧ s.clk.syncPresent = true ∧
     syncNear s.syncPeriod ((s.elapse 1050000).clk.plan - (s.clk.syncLast - 1)) = true ∧
     syncNear s.syncPeriod ((s.elapse 950000).clk.plan - (s.clk.syncLast - 1)) = true) := by decide

theorem test_meets_SyncOutAndHoldover :
    (let s := dev.modClk fun c => { c with syncOut := { mode := 2 } }
     s.pins.syncOut = false ∧ s.planGated = false ∧ s.clk.syncOutNext = none ∧ s.clk.syncOut.mode = 2) ∧
    (let s := dev.modClk fun c => { c with syncOutNext := some { mode := 2 } }
     s.pins.syncOut = false ∧ s.planGated = false ∧ s.clk.syncOutNext = some { mode := 2 } ∧ s.clk.syncOut.mode = 0) ∧
    (let s := dev.modPins fun p => { p with syncOut := true }; s.pins.syncOut = true ∧ s.planGated = false ∧ s.clk.syncOutNext = none) ∧
    (dev.modClk fun c => { c with mode := 1 }).clk.mode = 1 := by decide

theorem test_meets_ClockCommandsAnswer :
    (let s := { devTr with heads := [(0, { timing := some {} })] }.modClk fun c => { c with plls := [(0, { nProg := 2000 })] }
     rdy 0x0901 0 pf s = true ∧ 1000000 ≤ (1000000 : Word).toNat ∧ (1000000 : Word).toNat ≤ 1000000000 ∧
     s.pllGroup 0 = some (0, 0, 15625) ∧ 2000 ≤ (s.pll 0).nProg ∧ (s.pll 7).locked = false) ∧
    -1000000 ≤ (BitVec.ofInt 32 (-1000000)).toInt ∧ (1000000 : Word).toInt ≤ 1000000 ∧ (1 : Half) ≠ 0 ∧ 1024 ≤ (1024 : Half).toNat ∧
    (9 : Byte).toNat ≤ 9 := by decide

theorem test_meets_PaceWindowsMeasureMargin : (dev.pll 9).gated = false ∧ dev.boot.phase = .running ∧ max 1 (Config.floorCount 0) ≠ 0 ∧
    paceMargin 0 (max 1 (Config.floorCount 0)) ≠ 2047 ∧ (dev.mon 0).failed = false := by
  refine ⟨by decide, by decide, by omega, ?_, by decide⟩
  simp [paceMargin]

theorem test_meets_ReducedPaceIsEnteredAndLeft :
    (let s := dev.modPace fun p => { p with openLoop := true, mons := [(23, { below := 32 })] }; s.escalating = true ∧ s.pace.escalated = false) ∧
    (let s := (devTr.modGroup 0 fun c => { c with variant := 1 }).modPace fun p => { p with mons := [(0, { breach := 32 })] }
     (allGroups.any fun g => match s.grpTruss g with | some t => t.reduced (s.group g).variant | none => false) = true ∧
     s.monHealthy 0 = true ∧ 32 ≤ (s.mon 0).breach) ∧
    (let s := dev.modPace fun p => { p with awaitReturn := true, goodSince := 1 }; s.pace.awaitReturn = true ∧ s.pace.goodSince ≠ 0) := by decide

theorem test_meets_TheLoopMovesTheVoltage :
    (let s := dev.modPace fun p => { p with mons := [(3, { low := some 153, margin := 153 })] }
     s.boot.phase = .running ∧ (s.pll 9).gated = false ∧ s.lowestOfPeriod = some (153, 3) ∧ s.pace.openLoop = false ∧ s.pace.held = false ∧
     (153 : Int) < s.paceMram.lo ∧ s.paceMram.lo ≤ (154 : Int) ∧ (256 : Int) ≤ s.paceMram.hi) ∧
    (let s := dev.modPace fun p => { p with openLoop := true, bus := some { cmd := 0x8B }, settling := 1 }
     s.pace.openLoop = true ∧ s.pace.bus = some { cmd := 0x8B } ∧ s.pace.wanted = 0 ∧ s.pace.busQueue = [] ∧ s.pace.held = false ∧
     s.pace.settling ≠ 0) := by decide

theorem test_meets_PaceCommandsAnswer : 0 < (1 : Half).toNat ∧ (1 : Half).toNat < (2 : Half).toNat ∧ (2 : Half).toNat + 51 ≤ (53 : Half).toNat ∧
    720 ≤ (720 : Half).toNat ∧ (720 : Half).toNat + 20 ≤ (740 : Half).toNat ∧ (20 : Byte).toNat ∈ [5, 10, 15, 20] ∧ 1 ≤ (100 : Byte).toNat ∧
    (let s := dev.modPace fun p => { p with openLoop := true, mons := [(0, { below := 32 })] }
     rdy 0x0914 0 pf s = true ∧ s.escalating = true) := by decide

theorem test_meets_SpreadAddressesInterleave : let s : State := { dev with mem := { spread := 512 } }
    4 * (s.mem.spread * 2 ^ 30) - 1 < 4 * (s.mem.spread * 2 ^ 30) ∧ s.mem.spread ≤ 512 := by decide

theorem test_meets_AperturesReachMemory : let s := devTr.modFn 0 fun x => { x with segs := [(0, 1)] }
    s.barOpen 0 = true ∧ (s.fn 0).inFlight = [] ∧ (s.fn 0).heldArms = [] ∧ (s.fn 0).heldBells = [] ∧ s.barAddress 0 (16 * gib - 1) = some (16 * gib - 1) ∧
    s.barAddress 0 (16 * gib) = none ∧ (s.memDecode (16 * gib - 1)).isSome = true ∧ s.memUp (16 * gib - 1) = true := by decide

theorem test_meets_LosingACxlPort : (devTr.port 0).state = .up ∧ (devTr.port 3).state ≠ .up ∧ (devTr.port 3).state ≠ .initialising := by decide

theorem test_meets_AReturningPortIsInitialised : dev.boot.phase = .running ∧ dev.portTrains 3 = true ∧
    (let x : CxlIn := { up := true, gts := 32, width := 4, gib := 512, latency := 0, supported := true }
     x.up = true ∧ 32 ≤ x.gts ∧ 4 ≤ x.width ∧ ({ x with supported := false } : CxlIn).supported = false ∧ 31 < 32) ∧
    (let s : State := { dev with mem := { ports := [(0, { state := .initialising }), (1, { state := .up, removing := true })] } }
     (s.port 0).state = .initialising ∧ (s.port 0).awaitTruss = false ∧ (s.port 1).removing = true ∧ s.portQuiet 1 = true) := by decide

theorem test_meets_PoisonStaysUntilWritten : devTr.memUp (0x7FFFFFFFFF / 64 * 64) = true ∧ devTr.memDecode (0x8000000000 / 64 * 64) = none := by decide

theorem test_meets_MemoryCommandsAnswer :
    (let p : CxlPort := { state := .up, gib := 512 }
     let s : State := { dev with mem := { ports := [(0, p), (1, p), (2, p), (3, p)] } }
     ∀ m < 4, (s.port m).state ≠ .absent ∧ (512 : Half).toNat ≤ (s.port m).gib ∧ (s.port m).removing = false ∧ (s.port m).state ≠ .outOfService) ∧
    (rdy 0x0282 0 pf devTr = true ∧ (496 * gib) % (16 * 2 ^ 30) = 0 ∧ devTr.bgAdvance.memRangeInit (496 * gib) (16 * 2 ^ 30) = true) ∧
    (let p : CxlPort := { state := .up, gib := 512 }
     let s : State := { dev with mem := { ports := [(0, { p with state := .lost }), (1, p), (2, p), (3, p)] } }
     rdy 0x0283 0 pf s = true ∧ s.mem.spread = 0 ∧ (s.port 3).removing = false ∧ (s.port 3).state ≠ .absent ∧ (s.port 3).state ≠ .outOfService ∧
     ∀ k < 4, k ≠ 3 → (s.port k).removing = false ∧ (s.port k).state ≠ .absent ∧ (s.port k).state ≠ .outOfService) ∧
    (rdy 0x0282 0 vf devVf = true ∧ devVf.kcpFn vf ≠ 0 ∧ devVf.kcpFn vf ≠ 2) ∧ dev.mem.spread = 0 ∧ (dev.port 3).state = .absent ∧
    (∀ g ∈ allGroups, dev.grpRuns g = false) := by decide

theorem test_meets_HostPortResets : dev.host.inReset = false ∧
    (let s := dev.modHost fun h => { h with inReset := true }
     s.host.inReset = true ∧ s.boot.phase = .running ∧ s.host.peRefclk = true ∧ s.host.perstLow = false) := by decide

theorem test_meets_HostLinkComesAndGoes : dev.host.inReset = false ∧ dev.host.linkUp = true ∧ (5 : BitVec 3).toNat ≤ 5 ∧
    (8 : BitVec 5).toNat ∈ [1, 2, 4, 8] := by decide

theorem test_meets_FunctionsAreResetAlone : devVf.reached 15 = false ∧ devVf.reached 1 = true ∧ (devVf.fn 1).inFlight = [] ∧
    (devVf.fn 1).heldArms = [] ∧ (devVf.fn 1).heldBells = [] ∧ dev.reached 0 = true ∧ dev.host.vfEnable = false := by decide

theorem test_meets_EventRingsAreWritten :
    (let s := dev.modHost fun h => { h with rings := [(0, { enable := true, prod := 64, coalTimeout := 1, unsignalled := 1, types := 4, fullSince := 1 })] }
     s.barOpen 0 = true ∧ (s.fn 0).stale = false ∧ (s.ring 0 0).enable = true ∧ (s.ring 0 1).enable = false ∧
     ((s.ring 0 0).prod - BitVec.setWidth 17 (0 : Word)).toNat ≤ (s.ring 0 0).size ∧
     (s.ring 0 0).size < ((s.ring 0 0).prod - BitVec.setWidth 17 (0x1FFFF : Word)).toNat ∧
     (s.ring 0 0).coalTimeout ≠ 0 ∧ (s.ring 0 0).unsignalled ≠ 0 ∧ s.fnReach 0 = true ∧ s.fullSince 0 = some 0 ∧ s.hasFn 0 = true) := by decide

theorem test_meets_RegisterWritesReachTheirBlock : dev.reached 0 = true ∧ dev.boot.phase = .running ∧ dev.reached 1 = false ∧
    (0x2C010 : BitVec 26).toNat % 4 = 0 ∧ 0x2C010 ≤ (0x2C010 : BitVec 26).toNat ∧ (0x2FFFC : BitVec 26).toNat < 0x30000 ∧
    0x501000 ≤ (0x501000 : BitVec 26).toNat ∧ (0x3FFFFF8 : BitVec 26).toNat % 8 = 0 := by decide

theorem test_meets_ChecksAreMadeInOrder : dev.kcpCall (.mntInfo pf) = some ⟨0x0B01, 0, true, pf⟩ ∧ kcpTurn 0x0B01 pf (got 0x0B01 pf dev) = true ∧
    (got 0x0B01 pf dev).kcpSession pf = some sess ∧ dev.kcpSession { pf with via := .mailbox 3 } = none ∧ pf.handle = sess.handle ∧
    pf.seq = sess.expected ∧ kcpSince 0x0B01 ≤ sess.version.toNat ∧ (0x2F : Byte).toNat < kcpSince 0x0900 ∧
    ((kcpFind 0x0B00).getD default).pfOnly = true ∧ devVf.kcpFn vf ≠ 0 ∧ kcpTurn 0x0B00 vf (got 0x0B00 vf devVf) = true ∧
    (devVf.modFn 1 fun x => { x with cmdGroups := 0 }).hasCmdGroup 1 11 = false ∧ (3 : Byte).toNat < ((kcpFind 0x0B00).getD default).fixed ∧
    (devTr.kcpCall (.trussQuery pf 0)).map (·.ctx) = some pf := by decide

theorem test_meets_ChecksAreMadeInOrder_waits :
    kcpHere 0x0B01 pf dev = false ∧
    (let c : KcpCtx := { pf with flags := 1 }
     let s := (dev.modMbx 0 1 fun m => { m with taken := some {} }).modMbx 0 0 fun m => { m with taken := some { entry := entryOf 0x0B01 c, order := 1 } }
     kcpHere 0x0B01 c s = true ∧ kcpFenced c (s.kcpVersion c) s = true) ∧
    (let s := devUdp.modUdp 0 fun u => { u with stored := [{ seq := 0 }], waiting := [{ entry := entryOf 0x0B01 udp0 }] }
     udp0.via = .udp 0 ∧ kcpHere 0x0B01 udp0 s = true ∧ kcpFenced udp0 (s.kcpVersion udp0) s = false ∧ kcpStored udp0 s = some { seq := 0 }) := by decide

theorem test_meets_ResponsesAreEntriesOfTheRing : pf.via = .mailbox 0 ∧ (dev.mbx pf.fn 0).session = some sess ∧ dev.fnReach pf.fn = true ∧
    kcpQuiet pf 0x32 .ok = false := by decide

/-- The 64 bytes of an entry of the command with this ID, for the session with handle 1. -/
def entry64 (id : Nat) (net : Bool) : List Byte :=
  (if net then (leBytes 2 id).reverse else leBytes 2 id) ++ [0, 48, 0, 0, 0, 0] ++ (if net then [0, 0, 0, 1] else [1, 0, 0, 0]) ++ zeros 52

theorem test_meets_MailboxRegistersAndEntries : dev.barOpen 0 = true ∧ (dev.fn 0).inFlight = [] ∧ (dev.mbx 0 0).enable = true ∧
    (BitVec.ofNat 17 (16 : Word).toNat - (dev.mbx 0 0).cmdCons).toNat ≤ (dev.mbx 0 0).size ∧ BitVec.ofNat 17 (16 : Word).toNat ≠ (dev.mbx 0 0).cmdCons ∧
    (dev.mbx 0 0).size < (BitVec.ofNat 17 (17 : Word).toNat - (dev.mbx 0 0).cmdCons).toNat ∧ (dev.mbx 0 1).enable = false ∧
    (dev.mbx 0 1).cmdProd = (dev.mbx 0 1).avail ∧ ((dev.modFn 0 fun x => { x with inFlight := [(0, [0])] }).fn 0).inFlight ≠ [] ∧
    (let s := dev.modMbx 0 0 fun m => { m with avail := 1 }
     s.hasFn 0 = true ∧ s.boot.phase = .running ∧ (s.mbx 0 0).takes = true ∧ s.fnReach 0 = true ∧
     (kcpFind (readEntry false (entry64 0x0B01 false)).id.toNat).isSome = true ∧
     (let e := readEntry false (entry64 0x0FFF false)
      kcpFind e.id.toNat = none ∧ (s.mbx 0 0).session = some sess ∧ e.handle = sess.handle ∧ e.seq = sess.expected ∧ e.flags.getLsbD 0 = false)) := by
  decide

theorem test_meets_SessionsOpenCloseAndReport :
    (let c : KcpCtx := { pf with via := .mailbox 3 }
     kcpTurn 0 c (got 0 c dev) = true ∧ c.via = .mailbox 3 ∧ c.seq = 0 ∧ 24 ≤ c.len.toNat ∧ dev.fnReach c.fn = true) ∧
    kcpChoose 0x20 0x32 = some 0x32 ∧ kcpChoose 0x21 0x2F = some 0x22 ∧ rdy 0x0001 0 pf dev = true := by decide

theorem test_meets_GrantsAreSetAndWithdrawn : rdy 0x0005 (grantLen 3 0) pf dev = true ∧ rdy 0x0005 (grantLen 8 1) pf dev = true ∧
    dev.kcpFn pf = 0 ∧ leNat ([1].take 1) ≤ 1 ∧ rdy 0x0006 0 vf devVf = true ∧ devVf.kcpFn vf = 1 := by decide

theorem test_meets_MaintenanceCommandsAnswer : rdy 0x0B03 4 pf dev = true ∧ overUdp pf = false ∧ rdy 0x0B05 0 udp0 devUdp = true ∧
    overUdp udp0 = true := by decide

/-- The ends of a datagram from address 5 to the GM8's own. -/
def ends5 : UdpEnds := { mac := 1, src := 5, sport := 7, dst := 0, dport := 56411 }

/-- A datagram's bytes: kind, key slot 7, handle and counter, then the body and a tag. -/
def dgramBytes (kind handle counter : Byte) (body : List Byte) : List Byte :=
  [0x4B, 0x43, 1, kind, 0, 7, 0, 0] ++ ([0, 0, 0, handle] ++ ([0, 0, 0, 0, 0, 0, 0, counter] ++ ([0, BitVec.ofNat 8 body.length, 0, 0] ++ body ++ zeros 16)))

/-- `devUdp` with KCP over UDP on Ethernet port 0. -/
def devKcp : State :=
  { devUdp with netMgmt := { enable := true, ports := 1 }, netKeys := [(7, { present := true })],
                netMram := { ports := [(0, { mode := 1, enabled := true })] }, net := { ports := [(0, { up := true })] },
                host := { devUdp.host with udp := [(0, { inUse := true, opened := true, session := sess, keySlot := 7 })] } }

theorem test_meets_UdpSessionsLive : devKcp.portCarries 0 = true ∧ devKcp.udpIgnored ends5.src.toNat = false ∧
    (let b := dgramBytes 3 0 0 (zeros 32)
     let d := readDgram { toUdpEnds := ends5, port := 0, bytes := b, tagOk := true, plain := devKcp.helloPlain b }
     devKcp.kcpHears { toUdpEnds := ends5, port := 0, bytes := b, tagOk := true, plain := devKcp.helloPlain b } = true ∧
     d.framed = true ∧ d.kind = 3 ∧ d.slot ≤ 7 ∧ d.counter = 0 ∧ (tabGet devKcp.netKeys d.slot).present = true ∧
     (List.range 8).find? (fun k => !(devKcp.udp k).inUse) = some 1) ∧
    (let a : UdpIn := { toUdpEnds := ends5, port := 0, bytes := dgramBytes 0 1 1 (entry64 0x0B01 true), tagOk := true, plain := [] }
     let d := readDgram a
     devKcp.kcpHears a = true ∧ devKcp.dgramSession d = some 0 ∧ d.framed = true ∧ d.kind = 0 ∧ (devKcp.udp 0).countsUp d.counter = true ∧
     (devKcp.udp 0).waiting = [] ∧ ((devKcp.udp 0).stored.find? fun r => r.seq == (readEntry true d.body).seq) = none ∧
     (kcpFind (readEntry true d.body).id.toNat).isSome = true ∧ (devKcp.udp 0).inUse = true ∧ (devKcp.udp 0).opened = true) ∧
    (let t := devKcp.modHost fun h => { h with udp := [(0, { inUse := true })], udpPeers := [(5, { ignoredUntil := 1 })] }
     (t.udp 0).inUse = true ∧ (t.udp 0).opened = false ∧ (tabGet t.host.udpPeers 5).ignoredUntil ≠ 0) := by decide +kernel

/-- The item and slot entry of `tr`. -/
def it : TItem := { start := 20, deadline := 100, mask := 1, count := 1 }

theorem test_meets_TrussStoreCommands :
    (let s := devTr.modStore 1 fun _ => { state := .admitted, signed := true, truss := some { tr with flags := 1 } }
     rdy 0x0100 0 pf s = true ∧ s.memMapped (2 ^ 39 - 2 ^ 26) (2 ^ 26) = true ∧ (s.store 1).idle = true ∧ (s.store 1).state ≠ .running ∧
     (s.store 1).state ≠ .empty ∧ (s.store 1).signed = true ∧ (s.store 0).state = .running ∧ (s.store 0).idle = true ∧
     (s.store 1).state = .admitted ∧ s.sec.level ≠ 2 ∧ s.sec.keyFailed = false ∧ (s.store 3).idle = true ∧ (s.store 3).state ≠ .running ∧
     (s.store 3).state ≠ .loading ∧ s.commitDenied (s.kcpFn pf) (s.trussIn 1) (tabGet s.truss.changes (s.kcpFn pf)) = false ∧
     s.boot.flashBusy = false ∧ (s.trussIn 1).flags.testBit 0 = true) ∧
    (let b : List Byte := [1, 0, 0, 0]
     rdy 0x0110 (changeLen (u b 0 1)) pf dev = true ∧ b.length = 1 + changeLen (u b 0 1) ∧ changeBad b = none ∧
     dev.changeDenied (dev.kcpFn pf) b = none ∧ (tabGet dev.truss.changes (dev.kcpFn pf)).length < 256) ∧
    ((dev.modTruss fun t => { t with standing := [(1, { valid := true })] }).standing 1).valid = true := by decide

theorem test_meets_TrussStoreCommands_full (b : List Byte) :
    256 ≤ (tabGet (dev.modTruss fun t => { t with changes := [(0, List.replicate 256 b)] }).truss.changes 0).length := by
  simp only [State.modTruss, tabGet, tabGetD, if_pos, List.length_replicate, le_refl]

theorem test_meets_TrussJobsEnd :
    (let s := devTr.modStore 3 fun _ => { state := .loading, job := .load 0 0 0 64 }
     (s.store 3).job = .load 0 0 0 64 ∧ (s.memFetch 0 64).1 = some (zeros 64)) ∧
    (let s := (devTr.modStore 0 fun x => { x with job := .check }).modStore 2 fun _ => { state := .admitted, job := .check }
     (s.store 0).job = .check ∧ (s.store 0).state = .running ∧ (s.store 2).job = .check ∧ (s.store 2).state ≠ .running) ∧
    (let s := devTr.modStore 1 fun _ => { state := .loading, job := .commit 0 true [] }; (s.store 1).job = .commit 0 true []) ∧
    (let s := devTr.modStore 0 fun x => { x with job := .standing 1 }
     (List.range 4).find? (fun k => match (s.store k).job with | .standing _ => true | _ => false) = some 0 ∧ (s.store 0).job = .standing 1 ∧
     (s.trussIn 0).assets = [] ∧ (s.pll 9).gated = false) := by decide

theorem test_meets_CutoffSillAndCopy : devTr.grpRuns 0 = true ∧ devTr.seqStopped = false ∧ (devTr.group 0).cutoffPassed = false ∧
    devTr.switchDue 0 = none ∧ devTr.sillNumber 0 = some ({ outputs := 1 }, 0, 0) ∧
    (presentGroup 0 ((passCutoff 0 (devTr.untilPlan ((devTr.group 0).nextAt - devTr.cutoffNs 0))).untilPlan 999936)).flt.safe = false ∧
    (0x7F : BitVec 7).toInt = -1 ∧
    (let s := (devTr.modStore 1 fun _ => { state := .running, truss := some { tr with groups := [] } }).modSeq fun q =>
       { q with switch := some { store := 1, old := 1 }, groups := [(0, { store := 1, begun := true, nextAt := 1000000, period := 1000000, switchTo := some (16, 1000000) })] }
     s.switchDue 0 = some 16 ∧ (s.sillNumber 0).isSome = true) ∧
    (let s := devTr.modGroup 0 fun c => { c with copyDue := true }; (s.group 0).copyDue = true ∧ (s.group 0).copying = false) ∧
    devTr.barOpen 0 = true ∧ devTr.hasGroup 0 0 = true ∧ devVf.barOpen 1 = true ∧ devVf.hasGroup 1 15 = false := by decide

theorem test_meets_ItemsAndFetches : devTr.seqStopped = false ∧ devTr.frameItem 0 0 = some (tr, it) ∧ (devTr.group 0).issued.contains 0 = false ∧
    (devTr.seq.issues.any fun x => x.group == 0 && x.item == 0 && x.n == (devTr.group 0).n && x.entry == 0 && !x.dropped) = false ∧
    0 < it.count ∧ ((tr.entriesOf (devTr.group 0).variant it).getD 0 default).kind ≠ 2 ∧ it.lead ≤ tr.startOffset it ∧
    tr = devTr.trussIn ((devTr.group 0).store - 1) ∧ devTr.grpRuns 0 = true ∧ devTr.flt.safe = false ∧ devTr.boot.phase = .running ∧
    (devTr.group 0).missed.contains 0 = false ∧ devTr.planGated = false ∧ devTr.laneFenced it.lane = false ∧ (devTr.lane it.lane).run = none ∧
    (devTr.lane it.lane).queue = [] ∧ devTr.earlierDue 0 0 tr it = false ∧ devTr.clk.plan ≤ devTr.instant 0 tr it.start + 8 ∧
    devTr.clk.plan ≤ devTr.instant 0 tr ((tr.itemSill it + tr.startOffset it - it.lead) % tr.h) + 8 := by decide

theorem test_meets_ItemsAndFetches_reads_and_lanes :
    (let s := dev.modSeq fun q => { q with issues := [{ reads := [{ addr := 64, port := 4 }] }] }
     s.findRead 4 64 = some (0, 0) ∧ (s.seq.issues.getD 0 {}).dropped = false ∧ (s.seq.issues.getD 0 {}).closed = false ∧
     (s.seq.issues.getD 0 {}).kind ≠ 1) ∧
    (let s := devTr.modLane 15 fun l => { l with queue := [{}] }
     (s.lane 15).run = none ∧ s.laneFenced 15 = false ∧ (s.lane 15).queue = {} :: [] ∧ s.runStands {} = true) ∧
    (let s := devTr.modLane 0 fun l => { l with run := some {} }; (s.lane 0).run = some {} ∧ s.runStands {} = true) ∧
    (let s := devTr.modGroup 0 fun c => { c with issued := [0] }
     s.frameItem 0 0 = some (tr, it) ∧ (s.group 0).finished.contains 0 = false ∧ (s.group 0).missed.contains 0 = false ∧
     (s.group 0).issued.contains 0 = true) := by decide

theorem test_meets_SequencerCommands : devTr.barOpen 0 = true ∧ devTr.grpRuns 0 = true ∧ devTr.hasGroup 0 0 = true ∧ (devTr.fn 0).inFlight = [] ∧
    ((devTr.modFn 0 fun x => { x with inFlight := [(0, [0])] }).fn 0).inFlight ≠ [] ∧
    (let s : State := { devTr with host := devVf.host }; s.barOpen 1 = true ∧ s.grpRuns 0 = true ∧ s.hasGroup 1 0 = false) ∧
    (let t : Truss := { tr with items := [] }
     let s := (devTr.modStore 0 fun x => { x with truss := some t }).modStore 1 fun _ => { state := .admitted, truss := some t, figures := devTr.figures }
     rdy 0x0140 0 pf s = true ∧
     s.seq.switch = none ∧ (s.store 1).idle = true ∧ (s.store 1).state = .admitted ∧ (s.store 1).figures.fallen s.figures = false ∧
     (s.switchPlan 1).isSome = true ∧
     (s.switchPlan 1).map (fun plan => s.switchClashes 1 plan) = some none) ∧
    (devTr.modSeq fun q => { q with switch := some {} }).seq.switch.isSome = true := by decide +kernel

/-- `devTr` with a surface of the physical function under handle 1: a double-buffered cell map that slot 0 shows. -/
def devMap : State :=
  { devTr with truss := { slots := [(0, { state := .running, signed := true, truss := some { tr with slots := [{ type := 1 }] } })] },
               seq := { devTr.seq with surfaces := [(1, { allocated := true, format := 0x50, width := 8, height := 3, flags := 8, stride := 64 })],
                                       slots := [(0, { active := { handle := 1, grid := 0x00030008, geom := 0x00080008 } })] } }

theorem test_meets_WindowsSurfacesAndCells : dev.barOpen 0 = true ∧ devTr.hasSlot 0 0 = true ∧
    devTr.slotEntry 0 = some (0, tr, {}) ∧ (Llw.mask 0).isSome = true ∧ devTr.locked 0 = false ∧ devVf.hasSlot 1 8191 = false ∧
    (newSurf 0 0x04 16 16 0 64).allocated = true ∧ (dev.surf 0xFFFE).allocated = false ∧
    (let s : State := { dev with mem := { ports := [(0, port0)] } }
     ((fmtOf 1).map fun fm => (fm.plane1, s.bgAdvance.surfBad fm (newSurf 0 1 8 8 0 64))) = some (0, none) ∧
     s.bgAdvance.memRangeInit 0 ((newSurf 0 1 8 8 0 64).bytes) = true) := by decide

theorem test_meets_WindowsSurfacesAndCells_commands :
    (let s : State := dev.modSurf 1 fun _ => { allocated := true }
     s.mayUse 0 1 = true ∧ (s.surf 1).inUse = false ∧ (s.surf 1).made = 0 ∧ (s.dma.wb.any fun e => e.2.targets.contains 1) = false ∧
     s.seq.slots = []) ∧
    (let s := devTr.modGroup 0 fun c => { c with copying := true }; s.locked 0 = true ∧ rdy 0x0210 0 pf s = true) ∧
    rdy 0x0211 4 pf devTr = true ∧ devMap.hasSlot (devMap.kcpFn pf) 0 = true ∧
    devMap.slotEntry 0 = some (0, { tr with slots := [{ type := 1 }] }, { type := 1 }) ∧
    ((devMap.cellMap { type := 1 }).map fun x => (x.1, decide (20 ≤ x.2.1 * x.2.2))) = some (1, true) ∧
    rdy 0x0220 (20 * devMap.entryBytes 0) pf devMap = true ∧ 20 ≤ 40 / devMap.entryBytes 0 := by decide

/-- Memory that holds a table image of kind 1 with index 5 at address 0. -/
def devTab : State := { devTr with mem := { devTr.mem with bytes := [(0, 0x47), (1, 0x4D), (2, 0x43), (3, 0x54), (4, 1), (5, 5), (8, 64)] } }

theorem test_meets_ScalerAndColourCommands : rdy 0x0240 0 pf devTr = true ∧ devTr.memMapped (2 ^ 39 - 3648) 3648 = true ∧
    devTr.bankBusy 31 = false ∧ (devTr.modSeq fun q => { q with switch := some {} }).bankBusy 4 = true ∧
    devTr.hasSlot (devTr.kcpFn pf) 0 = true ∧ devTr.slotEntry 0 = some (0, tr, {}) ∧ devTr.locked 0 = false ∧
    (14 : Byte).getLsbD 0 = false ∧ devTr.liveOutput 0 = some (0, 0) ∧ devTr.hasGroup (devTr.kcpFn pf) 0 = true ∧
    (let s := devTr.modSeq fun q => { q with tables := [(7, [0])] }; s.tableUsers 7 = 0 ∧ (s.tableSource 7).1 = 2) ∧
    (let s := devTr.modSeq fun q => { q with colour := [(0, { matrix := 7 })] }; s.tableUsers 7 ≠ 0) := by decide +kernel

theorem test_meets_ScalerAndColourCommands_load :
    let h := devTab.memLoad 154 0 16
    let b := h.2.memLoad 154 0 64
    rdy 0x0260 0 pf devTab = true ∧ devTab.memMapped 0 16 = true ∧ devTab.tableUsers 5 = 0 ∧
    devTab.seq.switch = none ∧ devTab.trussTable 5 = false ∧
    (h.1.map fun h => (u h 0 4, tableLen (u h 4 1), u h 8 4)) = some (0x54434D47, 64, 64) ∧ h.2.memMapped 0 64 = true ∧
    (b.1.map fun x => (tableBad x, u x 5 1, decide (b.2.storeUsed (some 5) + upTo 64 x.length ≤ colourStoreBytes))) = some (none, 5, true) ∧
    (b.2.kcpSession pf).isSome = true := by decide +kernel

/-- Head 0 with a timing, plugged, its strip 0 committed. -/
def devHead : State :=
  devTr.modHead 0 fun x =>
    { x with timing := some { vactive := 8 }, scanning := true, hpd := true, sink := { backlight := 8 }, bufs := [(0, { committed := true })] }

theorem test_meets_EccErrorsRepeatTheLine : (devHead.head 0).timing = some { vactive := 8 } ∧ (devHead.head 0).scanning = true ∧
    (devHead.head 0).line < 8 ∧ devHead.flt.safe = false ∧ devHead.headGroup 0 = some (0, tr, 0) ∧
    (tabGet (devHead.head 0).bufs ((devHead.head 0).line / 8 % 4)).committed = true ∧
    (tabGet (devHead.head 0).bufs ((devHead.head 0).line / 8 % 4)).strip = (devHead.head 0).line / 8 := by decide

theorem test_meets_HeadEventsAndCommands : devHead.canScan 0 = true ∧ (devHead.head 0).powerNext = none ∧
    (tabGet (devHead.modHead 0 fun x => { x with bufs := [] }).heads 0).bufs = [] ∧ (devHead.head 7).hpd = false ∧ devHead.senses = true ∧
    (devHead.head 0).hpd = true ∧ ((devHead.modHead 0 fun x => { x with state := .streaming }).head 0).state = .streaming ∧
    ((devHead.modHead 0 fun x => { x with state := .training }).head 0).state = .training ∧
    ((devHead.modHead 0 fun x => { x with aux := some { c := pf } }).head 0).aux = some { c := pf } ∧ (devHead.pll 9).gated = false ∧
    devHead.hasGroup (devHead.kcpFn pf) 0 = true ∧ (devHead.head 0).aux = none ∧ (devHead.head 0).sink.backlight ≠ 0 ∧
    rdy 0x0303 0 pf devHead = true ∧ (startTraining 0 false devHead).kcpSession pf ≠ none := by decide +kernel

/-- A timing of head 0 of 64 by 8 pixels in 1 ms. -/
def timing0 : HeadTiming :=
  { clock := 25000000, m := 25, p := 100, n := 2500, hactive := 64, hfp := 8, hsync := 8, hbp := 170, vactive := 8, vfp := 1, vsync := 1, vbp := 90,
    lanes := 1, rate := 1 }

theorem test_meets_HeadEventsAndCommands_timing :
    let t : Truss := { tr with items := [] }
    let s := devTr.modStore 0 fun x => { x with truss := some t }
    rdy 0x0301 0 pf s = true ∧ timing0 = readTiming (fitBytes 32 timing0.bytes) 0 ∧ timing0.head = 0 ∧ s.headGroup 0 = some (0, t, 0) ∧
    s.locked 0 = false ∧
    ((List.range 8).any fun k => k != 0 && (match s.shadowTiming k with | some y => y.pll == timing0.pll && y.clock != timing0.clock | none => false)) = false ∧
    s.timingFails t 0 timing0 = none := by decide +kernel

theorem test_meets_HeadEventsAndCommands_writeback :
    let t : Truss := { tr with outputs := [{ wb := 1, slots := [0] }] }
    let s : State := (({ devHead with truss := { slots := [(0, { state := .running, truss := some t })] } } : State).modHead 0
      fun x => { x with scanning := false }).modWb 0 fun w => { w with busy := true }
    (s.head 0).timing = some { vactive := 8 } ∧ s.headGroup 0 = some (0, t, 0) ∧ (t.output 0).wb ≠ 0 ∧ (s.wb 0).busy = true ∧
    (s.wb 0).ended = false ∧ (s.head 0).scanning = false := by decide

/-- A truss with an endpoint, a source, a calendar with one mortise, and one group. -/
def trNet : Truss :=
  { groups := [{ outputs := 1 }], outputs := [{ kind := 1, width := 64, height := 8, sliceW := 64, bpp := 128 }], variants := [{}],
    bindings := [{ num := 0, ports := 1, lowest := 0x10, peer := 9, tslk := 100 },
                 { kind := 1, num := 0, ports := 1, lowest := 0x10, peer := 10, width := 8, height := 2, bpp := 128, sliceW := 8, sliceH := 2, frag := 8 }],
    cals := [(0, { groups := [0, 0, 0, 0], rates := [{}, {}, {}, {}], mortises := [{ start := 100, len := 10, bytes := 1000 }] })] }

/-- The frame 0 that source 0 sends. -/
def frame0 : IngFrame := { frags := [(1, [1])] }

/-- `dev` on that truss, with Ethernet port 0 up and sessions of endpoint 0 and of source 0. -/
def devNet : State :=
  { dev with truss := { slots := [(0, { state := .running, signed := true, truss := some trNet })] },
             seq := { running := 1, groups := [(0, { store := 1, begun := true, nextAt := 1000000, period := 1000000 })] },
             netMram := { ports := [(0, { mode := 1, enabled := true, adt := true, ipv4 := 1, secMode := 1, pcpSlice := 5 })], keys := [(0, { present := true })] },
             net := { ports := [(0, { up := true, queues := [(2, { rate := 1000000 })] })] },
             adt := { peers := [(0, { id := 7, state := 2, addr := 5, port := 56410, version := 0x20 }),
                                (1024, { id := 8, state := 2, addr := 6, port := 56410, version := 0x20 })],
                      buffer := [{ seq := some 0, payload := [1] }] },
             dma := { ing := [(0, { bound := true, decoder := 0, started := 1, now := [frame0] })] } }

/-- A datagram of session 7, or of session 8 from source 0, with a body of `n` bytes. -/
def dgram (n : Nat) : AdtDgram :=
  { eth := 0, mac := 1, addr := 5, udp := 56410, fragmented := false, magic := 0x4144, version := 0x20, session := 7, seq := 1,
    len := BitVec.ofNat 16 n, size := n }
def srcDgram (n : Nat) : AdtDgram := { dgram n with addr := 6, session := 8 }

theorem test_meets_AdtFrom : AdtFrom none 0x10 32 (dgram 32) 0 devNet ∧ AdtFrom none 0x10 4 (srcDgram 4) 1024 devNet ∧
    AdtFrom (some false) 0x11 20 (dgram 20) 0 devNet ∧ AdtFrom (some true) 0x10 (24 + ([2] : List Byte).length) (srcDgram 25) 1024 devNet ∧
    AdtFrom (some true) 0x10 24 (srcDgram 24) 1024 devNet := by
  unfold AdtFrom; repeat' apply And.intro
  all_goals decide +kernel

theorem test_meets_AdtSessionsAndFrames : devNet.boot.phase = .running ∧ devNet.adtCfg.beacon = true ∧ devNet.adtPort 0 = true ∧
    ((devNet.queue 0 1).frames.map (·.wire)).sum + (devNet.beaconTo 0).length * devNet.adtWire 0 44 {} ≤ 262144 ∧ (devNet.beaconTo 0).length ≠ 0 ∧
    (let d := { srcDgram 32 with session := 0, seq := 0 }
     let h : Hello := { role := 1, lowest := 0x10, highest := 0x20, caps := 255, peer := 10, maxSlice := 64, maxWidth := 64, maxHeight := 64, tslk := 0, maxFrag := 1400 }
     devNet.adtPort d.eth = true ∧ (match devNet.helloAnswer d h with | .inr x => x.1 == 1024 && x.2.2 == 0x20 | .inl _ => false) = true ∧
     (match devNet.helloAnswer d { h with peer := 11 } with | .inr _ => 0 | .inl r => r) = 2) ∧
    devNet.endpoint 0 = some (0, trNet, 0) ∧ (devNet.group 0).n = 0 ∧ devNet.clk.plan ≤ devNet.slackAt 0 0 ∧ (devNet.eth 0).unresolved = [] ∧ devNet.receives 0 = true ∧
    devNet.adt.buffer.find? (fun y => y.endpoint == 0 && y.n == 0 && y.index == 0 && y.seq.isSome) = some { seq := some 0, payload := [1] } ∧
    (devNet.peer 0).repairedNow < 16 ∧ (repairFrags 0 0 { seq := some 0, payload := [1] } 1 (fun f => (1 : Long).getLsbD f) 0 devNet).1 = true := by
  decide +kernel

theorem test_meets_AdtSessionsAndFrames_sources :
    ((devNet.peerBinding 1024).map fun b => (fragSizes (sliceBytes b.bpp b.sliceW b.sliceH) b.fragBytes, b.sliceCount)) = some ([8, 8], 1) ∧
    devNet.ingRuns 0 = true ∧ (devNet.ing 0).decoder ≠ 4 ∧ (devNet.ing 0).started = 0 + 1 ∧ devNet.ingFrame 0 0 = some frame0 ∧
    tabGet frame0.slices 0 = 0 ∧ tabGet frame0.frags (64 * 0 + 0) = [] ∧ (1024 : Nat) - 1024 = 0 ∧
    (let b : TBinding := { kind := 1, num := 0, ports := 1, lowest := 0x10, peer := 10, width := 8, height := 2, bpp := 128, sliceW := 8, sliceH := 2, frag := 8 }
     let f : IngFrame := { frame := 3, slices := [(0, 5)] }
     devNet.peerBinding 1024 = some b ∧ f.whole b = true ∧ frameDigest b f < 2 ^ 64 ∧ b.sliceCount = 1 ∧
     (let s := devNet.modIng 0 fun x => { x with now := [{ f with finished := some (1, 0, frameDigest b f) }] }
      (s.ing 0).now.find? (fun f => f.finished.isSome && f.whole b) = some { f with finished := some (1, 0, frameDigest b f) })) := by decide +kernel

theorem test_meets_AdtSessionsAndFrames_timers : (devNet.peer (peerKey false 0)).inSession = true ∧ (devNet.peer (peerKey true 0)).state ≠ 3 ∧
    ((devNet.modPeer 0 fun p => { p with state := 3 }).peer (peerKey false 0)).state = 3 ∧ devNet.grpRuns 0 = true ∧
    (devNet.group 0).announced = false ∧ devNet.seqStopped = false ∧ devNet.grpTruss 0 = some trNet ∧
    (trNet.calOf (devNet.group 0).variant).mortises[0]? = some { start := 100, len := 10, bytes := 1000 } ∧ (trNet.output 0).group = 0 ∧ (devNet.group 0).begun = true ∧
    devNet.planGated = false ∧ devNet.flt.safe = false ∧ ((devNet.peer (trNet.output 0).unit).opened.contains (0, 0)) = false ∧
    (devNet.eth 0).lastEnd = 0 ∧
    (let s := devNet.modPeer 0 fun p => { p with blank := some {}, holding := 1, holdEnd := 1 }
     s.blankOn (peerKey false 0) = some {} ∧ (s.peer (peerKey false 0)).inSession = true ∧ (s.peer 0).holding ≠ 0 ∧ (s.peer 0).holdEnd ≠ 0) := by
  decide +kernel

theorem test_meets_AdtCommandsAnswer : devNet.adtCfg.port = 56410 ∧ adtNamed (devNet.kcpFn pf) 1 255 devNet = true ∧
    adtNamed (devNet.kcpFn pf) 0 1023 devNet = true ∧ (devNet.peerBinding (peerKey true 0)).isSome = true ∧
    devNet.bindingOf 0 77 = none ∧ adtRange (devNet.kcpFn pf) 0 1024 devNet = true ∧ (devNet.endpoint 0).isSome = true ∧
    rdy 0x0406 0 pf devNet = true ∧ (devNet.peer 1024).inSession = true ∧ devNet.decoderNow 0 ≠ 4 := by decide +kernel

theorem test_meets_PortsNeighboursAndTime : (devNet.eth 0).up = true ∧
    (let s := devNet.modEth 0 fun _ => {}; (s.eth 0).up = false ∧ (s.ethCfg 0).enabled = true ∧ (s.ethCfg 0).mode ≠ 0 ∧ (s.pll 9).gated = false ∧ s.boot.phase = .running) ∧
    (let s := devNet.modEth 0 fun e => { e with lost := true }
     (s.eth 0).lost = true ∧ s.portUp 0 = true ∧ s.fenced 57 = false ∧ (s.ethCfg 0).secMode ≠ 2) ∧
    (devNet.ethCfg 0).secMode ≠ 0 ∧ (tabGet devNet.netMram.keys (devNet.ethCfg 0).keySlot).present = true ∧
    (let s := devNet.modNetMram fun n => { n with ports := [(0, { mode := 1, enabled := true, secMode := 2 })], cb := [(255, { valid := true, ports := 3 })] }
     s.portUp 0 = true ∧ (s.ethCfg 0).secMode = 2 ∧ s.cbEntry 0 0 0 = some 255) ∧
    (let f : QFrame := { wire := 84 }
     let s := devNet.modQueue 0 0 fun q => { q with frames := [f] }
     (s.queue 0 0).frames = f :: [] ∧ (s.queue 0 0).eligible 0 0 f.wire = true) ∧
    (let s := dev.modEth 0 fun e => { e with up := true, queues := [(0, { frames := [{ wire := 84 }] })] }
     (s.untilPlan ((s.eth 0).busyUntil / 1024)).nextMortise 0 = none) ∧
    (tabGet (devNet.modNet fun n => { n with cb := [(255, { running := true })] }).net.cb 255).running = true ∧ devNet.portCarries 0 = true ∧
    devNet.ownAddress 0 1 = true ∧ ((devNet.queue 0 3).frames.map (·.wire)).sum + 84 ≤ 262144 ∧
    ((devNet.eth 0).echoes.filter fun t => decide (devNet.now < t + secNs 1)).length < 100 := by decide +kernel

theorem test_meets_PortsNeighboursAndTime_protocols :
    (let s := devNet.modEth 0 fun e => { e with neighbours := [(2, { tries := 4 }), (3, { tries := 5 }), (4, { resolved := true })] }
     (tabGet (s.eth 0).neighbours 2).resolved = false ∧ (tabGet (s.eth 0).neighbours 2).tries ≠ 0 ∧ (tabGet (s.eth 0).neighbours 2).tries < 5 ∧
     (tabGet (s.eth 0).neighbours 3).tries ≠ 0 ∧ (tabGet (s.eth 0).neighbours 4).resolved = true) ∧
    (let s := (devNet.modNet fun n => { n with slave := 1 }).modClk fun c => { c with goodSyncs := 15 }
     s.asPort 0 = true ∧ s.netMram.time.role ≠ 2 ∧ s.net.slave = 0 + 1 ∧ s.clk.mode ≠ 1 ∧ (100 : Word).toInt.natAbs ≤ 100 ∧ 15 ≤ s.clk.goodSyncs ∧
     s.planTime.toNat < s.net.lastSync.toNat + 2 * s.syncNs) ∧
    (let s := devNet.modEth 0 fun e => { e with pdelayAt := 1 }; (s.eth 0).pdelayAt ≠ 0) ∧
    (let s := (devNet.modClk fun c => { c with mode := 3 }).modNet fun n => { n with syncDue := 1 }
     s.clk.mode = 3 ∧ s.net.announceDue < s.net.syncDue ∧ (s.modNet fun n => { n with syncDue := 0 }).net.syncDue ≤ s.net.announceDue) ∧
    devNet.boot.phase = .running ∧ devNet.running = some trNet ∧ devNet.planGated = false := by decide +kernel

/-- A truss whose calendar gives port 0 to group 0. -/
def trCal : Truss := { tr with cals := [(0, { groups := [0, 0, 0, 0], rates := List.replicate 4 { control := 1000 } })] }

/-- `devTr` on that truss, with Ethernet port 0 configured. -/
def devCal : State :=
  { devTr with truss := { slots := [(0, { state := .running, truss := some trCal })] },
               netMram := { ports := [(0, { mode := 1, enabled := true, cap := 1024 })] } }

theorem test_meets_NetworkCommandsAnswer : (dev.ethCfg 3).enabled = false ∧ dev.running = none ∧ (devCal.ethCfg 0).enabled = true ∧
    devCal.running = some trCal ∧ devCal.check17 trCal = none ∧ trCal.hasVariant (devCal.group (devCal.rateGroup 0)).variant = true ∧
    devCal.rateGroup 0 = 0 ∧ devCal.hasGroup (devCal.kcpFn pf) 0 = true ∧ (devCal.ethCfg 0).largest + 20 ≤ (1542 : Half).toNat ∧
    devCal.check17 (trCal.withRates (devCal.group 0).variant 0 { control := 2000 }) = none ∧
    devCal.locked 0 = false ∧ -5 ≤ (0xFB : Byte).toInt ∧ ((List.range 4).filter fun p => (9 : Byte).getLsbD p).length = 2 := by
  decide +kernel

theorem test_meets_RateChangesKeepTheDebt : (let x : NetQueue := { closed := true, debt := 5 }; x.closed = true ∧ (7 : Nat) ≠ 0) ∧
    (let x : NetQueue := { net := 10, rate := 1 }; x.closed = false ∧ 9 < x.net ∧ x.net ≤ 10) ∧
    ((dev.modQueue 3 3 fun q => { q with closed := true }).queue 3 3).closed = true := by decide

/-- A fill of 16 bytes of host memory, 8 at a request of line 24, and the same unpaced. -/
def fill : Desc := { op := 1, dstHost := true, bytes := 16, pattern := [1, 2, 3, 4, 5, 6, 7, 8], line := 24, burst := 0 }

/-- `dev` with channel 31 enabled and that descriptor in it. -/
def devDma : State := dev.modCh 31 fun x => { x with enable := true, current := some fill, prod := 1, requests := 1 }

theorem test_meets_DmaChannelsMoveAndComplete : dev.barOpen 0 = true ∧ dev.hasDma 0 31 = true ∧
    (BitVec.setWidth 17 (16 : Word) - (dev.ch 31).cons).toNat ≤ (dev.ch 31).size ∧
    (let s := dev.modCh 0 fun x => { x with enable := true, host := true }
     let b : List Byte := zeros 64
     s.dmaRuns 0 = true ∧ (s.ch 0).current = none ∧ (s.ch 0).held = none ∧ (s.ch 0).cons ≠ BitVec.setWidth 17 (1 : Word) ∧ (s.ch 0).host = true ∧
     s.fnReach (s.ch 0).owner = true ∧ (hostBytes [(0, b)] ((s.ch 0).base.toNat + 64 * ((s.ch 0).cons.toNat % (s.ch 0).size)) 64).isSome = true) ∧
    dev.flt.safe = false ∧ dev.boot.phase = .running ∧ (dev.pll 9).gated = false ∧ devDma.hasFn 0 = true ∧ (1 : Half).getLsbD 0 = true ∧ (devDma.ch 31).current = some fill ∧ fill.line = 24 + 0 ∧
    (devDma.ch 31).enable = true ∧ (devDma.ch 31).safe = false ∧ (devDma.ch 31).error = false ∧ (devDma.ch 31).requests ≠ 255 ∧
    (let s := dev.modCh 0 fun x => { x with error := true }; (s.ch 0).error = true ∧ (s.ch 0).cons = (s.ch 0).prod) ∧
    dev.mayCq 0 7 = true ∧ ((dev.cq 7).prod - BitVec.setWidth 17 (0 : Word)).toNat ≤ (dev.cq 7).size ∧
    (dev.cq 7).size < ((dev.cq 7).prod - BitVec.setWidth 17 (1 : Word)).toNat := by decide +kernel

theorem test_meets_DmaChannelsMoveAndComplete_data :
    (let s := dev.modCh 5 fun x => { x with enable := true, current := some { fill with line := 3 } }
     (s.ch 5).current = some { fill with line := 3 } ∧ (s.ch 5).enable = true ∧ (s.ch 5).requests ≠ 255) ∧
    devDma.dmaRuns 31 = true ∧ fill.line = 24 ∧ (devDma.ch 31).requests ≠ 0 ∧ fill.op = 1 ∧ fill.dstHost = true ∧ fill.lines = 1 ∧
    devDma.fnReach (devDma.ch 31).owner = true ∧ (∀ j : Fin 32, j ≠ 31 → (devDma.ch j).current = none) ∧
    (let d : Desc := { fill with bytes := fill.burstBytes }; (devDma.ch 31).moved + d.burstBytes ≤ d.bytes) ∧
    (let s := devDma.modCh 31 fun x => { x with moved := fill.total }; (s.ch 31).prod = (s.ch 31).cons + 1 ∧ fill.line ≠ 0xFF ∧ (s.ch 31).moved = fill.total) ∧
    (let s := (devDma.modCh 31 fun x => { x with current := some { fill with line := 0xFF, post := true } }).modCq 0 fun q => { q with enable := true }
     s.dmaRuns 31 = true ∧ (s.ch 31).moved = 0 ∧ (s.cq 0).owner = (s.ch 31).owner ∧ (s.cq 0).enable = true ∧ (s.cq 0).full = false) := by decide +kernel

theorem test_meets_IngestWritebackAndDmaCommands :
    (let s := dev.modWb 3 fun w => { w with busy := true, ended := true, target := 1 }
     s.flt.safe = false ∧ (s.wb 3).busy = true ∧ (s.wb 3).ended = true ∧ (s.wb 3).target ≠ 0 ∧ (s.wb 3).bad = false ∧
     ((s.modWb 3 fun w => { w with bad := true }).wb 3).bad = true) ∧
    (let t : Truss := { tr with outputs := [{ wb := 1, width := 64, height := 8, slots := [0] }] }
     let s : State := { devTr with truss := { slots := [(0, { state := .running, truss := some t })] } }
     s.wbOutput 0 = some (0, t, 0) ∧ s.hasGroup (s.kcpFn pf) 0 = true ∧
     (let t := { t with regions := [{ kind := 4, addr := 0, size := 65536 }] }
      let s := { s with seq := { s.seq with surfaces := [(1, { allocated := true, format := 0x20, width := 64, height := 8, stride := 256 }),
                                                          (2, { allocated := true, format := 0x20, width := 64, height := 8, stride := 256, addr := 4096 })] } }
      s.wbTargetBad 0 t (t.output 0) [1, 2] = none)) ∧ (dev.cq 7).enable = false ∧ dev.hasDma (dev.kcpFn pf) 31 = true := by
  decide +kernel

/-- `devTr` whose slot 0 is a cell grid of 8 by 3 with field 2047 in it. -/
def fieldDef : FieldDef := { defined := true, slot := 0, cols := 8, rows := 1 }

/-- `devMap` with that field, and memory that holds a character map of two entries at address 0. -/
def devField : State :=
  { devMap with svcMram := { fields := [(2047, fieldDef)] },
                mem := { devMap.mem with bytes := [(0, 0x47), (1, 0x4D), (2, 0x43), (3, 0x4D), (4, 2), (24, 1)] } }

theorem test_meets_FieldsMosaicsAndBulletin :
    dev.pins.emergLow = false ∧ dev.boot.phase = .running ∧ dev.flt.safe = false ∧ dev.svcMram.emergEnable = true ∧
    ((dev.modSvcMram fun m => { m with messages := [(0, { text := [65] })] }).message 0).text ≠ [] ∧
    ((dev.modPins fun p => { p with emergLow := true }).pins.emergLow) = true ∧
    (let s := devTr.modSvc fun v => { v with laying := 3 }; s.svc.laying ≠ 0 ∧ s.seqStopped = false) ∧
    ((dev.modField 2047 fun x => { x with persist := some [65] }).field 2047).persist = some [65] ∧
    rdy 0x0600 0 pf dev = true ∧ rdy 0x0601 40 pf devField = true ∧ devField.fieldDef 2047 = fieldDef ∧
    devField.hasSlot (devField.kcpFn pf) fieldDef.slot = true ∧ devField.fieldLive fieldDef = some (0, { type := 1 }) ∧
    (devField.cellMap { type := 1 }).isSome = true := by decide +kernel

theorem test_meets_FieldsMosaicsAndBulletin_charmap :
    let h := devField.memLoad 157 0 16
    let b := h.2.memLoad 157 0 32
    rdy 0x0608 0 pf devField = true ∧ devField.memMapped 0 16 = true ∧ (h.1.map fun h => (u h 0 4, u h 4 4)) = some (0x4D434D47, 2) ∧
    h.2.memMapped 0 32 = true ∧ (b.1.map fun b => charMapBad b 2) = some none := by decide +kernel

theorem test_meets_FieldsMosaicsAndBulletin_mosaic :
    let t : Truss := { tr with slots := [{ type := 3 }] }
    let s : State := { devTr with truss := { slots := [(0, { state := .running, truss := some t })] } }
    s.hasSlot (s.kcpFn pf) 0 = true ∧ s.slotEntry 0 = some (0, t, { type := 3 }) ∧ rdy 0x0610 0 pf s = true ∧ rdy 0x0611 0 pf s = true ∧
    s.patternBad (s.kcpFn pf) { type := 3 } 0xFFFF = false := by decide

theorem test_meets_FieldsMosaicsAndBulletin_messages : rdy 0x0620 36 pf dev = true ∧ dev.kcpFn pf = 0 ∧
    (let s := dev.modSvcMram fun m => { m with messages := [(7, { text := zeros 124 })] }
     ((s.message 7).text ++ fitBytes 36 []).length = 160) ∧
    (let s := dev.modSvc fun m => { m with messages := [(15, { text := [65] })] }
     rdy 0x0621 0 pf s = true ∧ (s.message 15).text ≠ []) ∧ rdy 0x0622 0 pf dev = true ∧ rdy 0x0623 0 pf dev = true := by
  decide +kernel

theorem test_meets_InterruptRoundsAndAccesses : dev.intc.accesses = [] ∧
    (let s := dev.modIntTgt 3 fun t => { t with offer := 639 }; (s.intTgt 3).offer = 639 ∧ (s.intTgt 0).offer = 0 ∧ s.intc.accesses = []) ∧
    (let s := dev.modIntSrc 639 fun x => { x with int := { active := 4 } }
     (s.intSrc 639).int.active = (3 : Fin 4) + 1 ∧ (s.intSrc 639).int.active ≠ (0 : Fin 4) + 1) ∧
    (let s := dev.modIntSrc 1 fun x => { x with host := { active := 4 + 15 + 1 } }
     (s.intSrc 1).host.active = 4 + (15 : Fin 16) + 1 ∧ intEdges 1 (s.intSrc 1) = 0 ∧ intPending 1 (s.intSrc 1) (s.intSrc 1).host = false) ∧
    dev.barOpen 0 = true ∧ dev.hasIrq 0 504 = true ∧ dev.hasIrq 0 535 = true ∧ devVf.barOpen 1 = true ∧ devVf.hasIrq 1 504 = false ∧
    (dev.irqGranted 0 19).getLsbD 31 = true ∧ rdy 0x0740 0 pf dev = true ∧ dev.kcpFn pf = 0 ∧
    ((1 : Half).getLsbD 0 = true ∧ (2 : Half).getLsbD 0 = false ∧ dev.hasIrq 0 1 = true) ∧ rdy 0x0741 0 pf dev = true ∧
    dev.hasIrq (dev.kcpFn pf) 639 = true ∧ rdy 0x0742 0 pf dev = true ∧ (19 : Byte).toNat ≠ 4 + devVf.kcpFn vf ∧
    (5 : Byte).toNat = 4 + devVf.kcpFn vf ∧ rdy 0x0742 0 vf devVf = true := by decide +kernel

theorem test_meets_FaultsAreRecordedAndReactedTo : dev.fltNew 191 false = true ∧ dev.fltNew 0 true = true ∧ (fenceBit 0).isSome = true ∧
    dev.flt.ring.length < 64 ∧ dev.flt.first = none ∧ dev.flt.next = none ∧
    (let s := dev.modFltSrc 0 fun c => { c with asserted := true }
     s.fltNew 0 false = false ∧ (s.fltSrc 0).live = true ∧ (s.fltSrc 0).forced = false) ∧
    (let s := dev.modFltSrc 0 fun c => { c with forced := true }
     (s.fltSrc 0).forced = true) ∧
    (let s := dev.modFltSrc 71 fun c => { c with quietEnd := 1, quietK := 3 }
     (s.fltSrc (unitRep 94)).quietEnd = 0 + 1 ∧ (fenceBit 94).isSome = true ∧
     (s.untilAon 0).fltRecoveries (unitRep 94) < (s.fltSrc (unitRep 94)).quietK) ∧
    (let s := dev.modFltSrc 71 fun c => { c with quietEnd := 1, quietK := 3, recoveredAt := [0, 0, 0] }
     (s.fltSrc (unitRep 94)).quietEnd = 0 + 1 ∧ (s.fltSrc (unitRep 94)).quietK ≤ (s.untilAon 0).fltRecoveries (unitRep 94)) ∧
    (let s := dev.modFlt fun f => { f with ring := [{}], pulseEnd := 1 }
     s.flt.ring = {} :: [] ∧ (s.pll 9).gated = false ∧ s.flt.pulseEnd = 0 + 1) ∧ dev.fltNew 186 false = true ∧ dev.fltNew 185 false = true := by
  decide +kernel

theorem test_meets_FaultsAreRecordedAndReactedTo_views :
    (let s := dev.modFlt fun f => { f with fwView := [(15, 1)] }
     15 < viewUnits 0 ∧ s.hwView 0 15 ≠ s.swView 0 15 ∧ s.openOn 0 15 = none) ∧
    (let d : Disagree := { kind := 9, index := 255, groups := 1 }
     let s := (devTr.modFlt fun f => { f with disagreements := [d] }).modGroup 0 fun g => { g with sillAt := 8 }
     s.openOn 9 255 = some d ∧ d.reported = false ∧ d.late = false ∧ s.windowEnd d = some (8 + 8 * grain)) ∧
    (let s := dev.modFlt fun f => { f with testUnlocked := true }
     s.barOpen 0 = true ∧ s.flt.testUnlocked = true ∧ s.hasFltRead 0 = true ∧ ((191 : Word) &&& 0xFF).toNat = 191 ∧ s.railsNew 191 false = true ∧
     s.railsNew 191 true = true ∧ (s.fltSrc 191).own = none) := by decide +kernel

theorem test_meets_FaultCommandsAnswer :
    (let s := dev.modFlt fun f => { f with enterSafeDue := 1 }
     s.flt.enterSafeDue = 0 + 1 ∧ s.fltNew 187 false = true ∧ (s.fltCfg 187).minClass ≤ 4) ∧
    dev.hasFltRead (dev.kcpFn pf) = true ∧ rdy 0x0700 0 pf dev = true ∧ rdy 0x0709 0 pf dev = true ∧ rdy 0x0701 0 pf dev = true ∧
    (let s := devTr.modFltMram fun m => { m with log := [{ logSeq := 4 }, { logSeq := 3 }] }
     rdy 0x0701 0 pf s = true ∧ s.faultLog.head? = some { logSeq := 4 } ∧ s.faultLog.getLast? = some { logSeq := 3 } ∧
     s.memMapped 0 ((logFrom s.faultLog 3 32768).flatMap FltRec.bytes).length = true) ∧
    rdy 0x0702 0 pf dev = true ∧ rdy 0x0703 0 pf dev = true ∧ rdy 0x0704 0 pf dev = true ∧ rdy 0x0705 0 pf dev = true ∧
    (fenceBit 94).isSome = true ∧ (∀ y, y ∈ unitSources 94 → (dev.fltSrc y).live = false) ∧ (dev.fltSrc (unitRep 94)).quietClass < 4 ∧
    rdy 0x0706 0 pf dev = true ∧ rdy 0x0708 0 pf dev = true ∧
    (let s : State := { devTr with mem := { devTr.mem with bytes := [(0, 0x47), (1, 0x4D), (2, 0x53), (3, 0x46), (16, 0xA0), (17, 0x67), (18, 0x27), (19, 0xDB)] } }
     rdy 0x0707 0 pf s = true ∧ s.memMapped 0 20 = true ∧ ((s.memFetch 0 20).1.map safeFieldBad) = some none) := by decide +kernel

theorem test_meets_CountersCountAndSnapshot :
    (let s := devTr.modPmu fun p => { p with inc := [(0, 5)], ops := [.write 447 7] }
     s.planGated = false ∧ putFor s.pmu.ops 0 = none ∧ tabGet s.pmu.inc 0 ≠ 0 ∧ putFor s.pmu.ops 447 = some 7) ∧
    dev.barOpen 0 = true ∧ dev.seesCounter 0 false 479 = true ∧ (tabGet dev.pmu.latch (pageKey 0 false)).odd ≠ 479 + 1 ∧
    dev.writesCounter 0 false 479 = true ∧ (dev.modPmu fun p => { p with copy := some {} }).pmu.copy = some {} ∧
    rdy 0x0800 0 pf dev = true ∧ rdy 0x0801 0 pf dev = true ∧ dev.hasCounter (dev.kcpFn pf) 31 = true ∧ masterOk 0 = true ∧
    masterOk 255 = true ∧
    rdy 0x0810 0 pf dev = true ∧ rdy 0x0811 0 pf dev = true ∧ dev.pmu.copy = none ∧ dev.hasFltRead (dev.kcpFn pf) = true ∧
    rdy 0x0812 0 pf dev = true ∧ rdy 0x0820 0 pf dev = true ∧ rdy 0x0821 0 pf dev = true ∧ rdy 0x0830 0 pf dev = true := by
  decide +kernel

/-- The number that the bytes of a number spell. -/
theorem leNat_leBytes (k n : Nat) : leNat (leBytes k n) = n % 256 ^ k := by
  induction k generalizing n with
  | zero => simp [leBytes, leNat, Nat.mod_one]
  | succ k ih =>
    simp only [leBytes, leNat, ih, BitVec.toNat_ofNat, Nat.pow_succ]
    rw [Nat.mul_comm (256 ^ k) 256, Nat.mod_mul (a := 256)]

theorem leBytes_length (k n : Nat) : (leBytes k n).length = k := by
  induction k generalizing n with
  | zero => rfl
  | succ k ih => simp [leBytes, ih]

/-- A signature block by key slot `slot`, of a key identifier and a digest. -/
def sigOf (slot : Byte) (id digest : Nat) : List Byte :=
  [0x47, 0x4D, 0x53, 0x47, 1, 0, slot, 0] ++ (leBytes 16 id ++ (leBytes 48 digest ++ ([0xED, 0x0C] ++ zeros 3318)))

theorem readSig_sigOf (pre : List Byte) (slot : Byte) (id : BitVec 128) (digest : BitVec 384) :
    readSig (pre ++ sigOf slot id.toNat digest.toNat) pre.length =
      { magicOk := true, alg := 1, keySlot := slot.toNat, keyId := id.toNat, digest := digest.toNat, sigLen := 3309, padOk := true, off := pre.length } := by
  have h : ∀ o n : Nat, u (pre ++ sigOf slot id.toNat digest.toNat) (pre.length + o) n = u (sigOf slot id.toNat digest.toNat) o n := by
    intro o n; simp [u, List.drop_append, List.drop_eq_nil_of_le]
  have h0 := h 0 4
  have hz : ∀ o n : Nat, zeroAt (pre ++ sigOf slot id.toNat digest.toNat) (pre.length + (74 + o)) n =
      zeroAt (([0x47, 0x4D, 0x53, 0x47, 1, 0, slot, 0] ++ leBytes 16 id.toNat ++ leBytes 48 digest.toNat ++ [0xED, 0x0C]) ++ zeros 3318) (74 + o) n := by
    intro o n; simp [zeroAt, List.drop_append, List.drop_eq_nil_of_le, sigOf, -List.reduceReplicate]
  have hy : ∀ o n : Nat, zeroAt (pre ++ sigOf slot id.toNat digest.toNat) (pre.length + (74 + o)) n = true := by
    intro o n
    have hl : ([0x47, 0x4D, 0x53, 0x47, 1, 0, slot, 0] ++ leBytes 16 id.toNat ++ leBytes 48 digest.toNat ++ ([0xED, 0x0C] : List Byte)).length = 74 := by
      simp [leBytes_length]
    rw [hz, zeroAt, List.drop_append, hl, List.drop_eq_nil_of_le (by omega)]
    simp [zeros, -List.reduceReplicate]
  have hp := hy 0 6
  have hq := hy 3315 3
  have e1 : u (sigOf slot id.toNat digest.toNat) 8 16 = id.toNat := by
    simp [u, sigOf, leBytes_length, leNat_leBytes]
    exact Nat.lt_of_lt_of_eq id.isLt (by decide +kernel)
  have e2 : u (sigOf slot id.toNat digest.toNat) 24 48 = digest.toNat := by
    simp [u, sigOf, leBytes_length, leNat_leBytes]
    exact Nat.lt_of_lt_of_eq digest.isLt (by decide +kernel)
  have e3 : u (sigOf slot id.toNat digest.toNat) 72 2 = 3309 := by
    rw [u, show sigOf slot id.toNat digest.toNat = ([0x47, 0x4D, 0x53, 0x47, 1, 0, slot, 0] ++ leBytes 16 id.toNat ++ leBytes 48 digest.toNat) ++
      ([0xED, 0x0C] ++ zeros 3318) by simp [sigOf], List.drop_left' (by simp [leBytes_length])]
    simp [leNat]
  simp only [readSig, h, e1, e2, e3, Nat.reduceAdd] at hp hq ⊢
  rw [hp, hq]
  rw [show u (pre ++ sigOf slot id.toNat digest.toNat) pre.length 4 = u (sigOf slot id.toNat digest.toNat) 0 4 from h0]
  simp [u, sigOf, leNat]

/-- A firmware image's bytes before its signature block. -/
def fwBody : List Byte := [0x47, 0x4D, 0x46, 0x57, 1, 0, 0, 1, 0x40, 0x0E, 0, 0, 0, 0, 0, 0] ++ zeros 240

/-- A firmware image under the first vendor key. -/
def fwImg : List Byte := fwBody ++ sigOf 0 (Config.vendorKeyId 0) (Config.sha3 fwBody)

theorem fwImg_valid : dev.fwBad (fitBytes 3648 fwImg) true = none := by
  have hb : fwBody.length = 256 := by decide +kernel
  have hl : fwImg.length = 3648 := by simp only [fwImg, hb, sigOf, leBytes_length, zeros, List.length_append, List.length_cons, List.length_nil, List.length_replicate]
  have hf : fitBytes 3648 fwImg = fwImg := by rw [fitBytes, ← hl, List.take_left]
  have hs : readSig fwImg 256 = { magicOk := true, alg := 1, keySlot := 0, keyId := Config.vendorKeyId 0, digest := Config.sha3 fwBody, sigLen := 3309, padOk := true, off := 256 } := by
    have := readSig_sigOf fwBody 0 (Config.vendorKeyBits 0) (Config.sha3Bits fwBody)
    rw [hb] at this; exact this
  have hn : u fwImg 8 8 = 3648 := by decide +kernel
  have ht : fwImg.take 256 = fwBody := by rw [fwImg, ← hb, List.take_left]
  have hv : dev.vendorKey (Config.vendorKeyId 0) = true := by
    simp only [State.vendorKey, List.any_eq_true, Bool.and_eq_true, beq_iff_eq]; exact ⟨0, by decide, rfl, by decide⟩
  have h0 : u fwImg 0 4 = 0x57464D47 := by decide +kernel
  have h4 : u fwImg 4 2 = 1 := by decide +kernel
  have h6 : u fwImg 6 2 = 256 := by decide +kernel
  have h16 : u fwImg 16 4 = 0 := by decide +kernel
  have h24 : u fwImg 24 2 = 0 := by decide +kernel
  have hx : fwSig fwImg = _ := (by simp only [fwSig, hn, sigBytes] : fwSig fwImg = readSig fwImg 256).trans hs
  simp [-List.reduceReplicate, hf, State.fwBad, hx, ht, fwHeaderOk, hn, h0, h4, h6, h16, h24, hv, hl, sigBytes, fwLimit]
  exact rfl

/-- Bytes listed from an address on. -/
def place : Nat → List Byte → Tab Byte
  | _, [] => []
  | a, b :: l => (a, b) :: place (a + 1) l

/-- `devTr` with bytes in memory from address 0 on. -/
def devBytes (l : List Byte) : State := { devTr with mem := { devTr.mem with bytes := place 0 l } }

theorem tabGet_place (l : List Byte) (a i : Nat) (h : i < l.length) : tabGet (place a l) (a + i) = l[i] := by
  induction l generalizing a i with
  | nil => simp at h
  | cons b l ih =>
    cases i with
    | zero => simp [place, tabGet, tabGetD]
    | succ i =>
      have := ih (a + 1) i (by simpa using h)
      simp only [tabGet, place, tabGetD] at this ⊢
      rw [if_neg (by omega), show a + (i + 1) = a + 1 + i by omega, this]; rfl

theorem memRead_devBytes (s : State) (l : List Byte) (hm : s.mem = (devBytes l).mem) (hf : s.flt = dev.flt) (n a : Nat) (h : a + n ≤ l.length)
    (hl : l.length ≤ 8192) : s.memRead a n = some ((l.drop a).take n) := by
  induction n generalizing a with
  | zero => simp [State.memRead]
  | succ n ih =>
    have ha : a < l.length := by omega
    have hu : s.memByte a = some l[a] := by
      have hg := tabGet_place l 0 a ha
      have hd : a / 549755813888 = 0 := by omega
      have hd2 : a % 549755813888 = a := by omega
      have hp : s.port 0 = port0 := by rw [State.port, hm]; rfl
      have hs : s.mem.spread = 0 := by rw [hm]; rfl
      have hx : s.memUp a = true := by
        have hfe : s.fenced 52 = false := by
          have e : s.fenced 52 = dev.fenced 52 := by unfold State.fenced State.fenceWord; rw [hf]
          rw [e]; decide
        have hlt : a < 2199023255552 := by omega
        have hlt2 : a < 512 * gib := by unfold gib; omega
        have hps : s.portServes 0 = true := by rw [State.portServes, hp, hfe]; rfl
        simp [State.memUp, State.memDecode, hd, hd2, hp, hs, hlt, hps, port0, hlt2]
      have hq : s.memPoison a = false := by rw [State.memPoison, hm]; rfl
      have hr : s.memReads a = true := by rw [State.memReads, hx]; simp; exact .inl (by omega)
      rw [State.memByte, hr, hq, hm, ← hg, Nat.zero_add]; rfl
    rw [State.memRead, hu, ih (a + 1) (by omega)]
    rw [List.drop_eq_getElem_cons ha, List.take_succ_cons]; rfl

theorem poisonLines_none (s : State) (a n : Nat) (h : s.mem.poison = []) : s.poisonLines a n = [] := by
  simp [State.poisonLines, State.memPoison, h, tabGet, tabGetD]

/-- A key record that installs slot 2. -/
def keyRec : List Byte := [0x47, 0x4D, 0x4B, 0x52, 2, 0] ++ zeros 1954

/-- The key in slot 1 signs it. -/
def keyImg : List Byte := keyRec ++ sigOf 1 (BitVec.ofNat 128 (Config.sha3 [])).toNat (Config.sha3 keyRec)

/-- A device with that record in memory and an operator key in slot 1. -/
def devKey : State := { devBytes keyImg with secMram := { keys := [(1, { state := 1 })] } }

theorem keyImg_length : keyRec.length = 1960 ∧ keyImg.length = 5352 := by
  have hb : keyRec.length = 1960 := by decide +kernel
  exact ⟨hb, by simp only [keyImg, hb, sigOf, leBytes_length, zeros, List.length_append, List.length_cons, List.length_nil, List.length_replicate]⟩

theorem sigDetail_none (s : State) (b : List Byte) (x : TSig) (hd : Config.sha3 b = x.digest) (h1 : x.keySlot = 1)
    (hs : (tabGet s.secMram.keys 1).state = 1) (hk : u (leBytes 48 (Config.sha3 (tabGet s.secMram.keys 1).key)) 0 16 = x.keyId)
    (hf : x.formed = true) :
    s.sigDetail b x true none = none := by
  simp [State.sigDetail, hd, h1, hs, hk, hf]

theorem test_meets_TrustAndTamper_key : ∃ (b g : List Byte) (s1 s2 : State), rdy 0x0A02 0 pf devKey = true ∧ overUdp pf = false ∧
    devKey.memMapped 0 1960 = true ∧ devKey.memLoad 157 0 1960 = (some b, s1) ∧ u b 0 4 = 0x524B4D47 ∧ u b 4 1 = 2 ∧ u b 5 1 = 0 ∧
    s1.memMapped 1960 sigBytes = true ∧ s1.memLoad 157 1960 sigBytes = (some g, s2) ∧ (readSig g 0).magicOk = true ∧ (readSig g 0).keySlot = 1 ∧
    s2.sigDetail b (readSig g 0) true none = none := by
  obtain ⟨hb, hl⟩ := keyImg_length
  have r1 := memRead_devBytes devKey keyImg rfl rfl 1960 0 (by omega) (by omega)
  have l1 : devKey.memLoad 157 0 1960 = (some keyRec, (devKey.memFetch 0 1960).2) := by
    have hp := poisonLines_none devKey 0 1960 rfl
    have hd : (devKey.memDecode 0).isNone = false := by decide +kernel
    rw [State.memLoad, hp]
    simp only [State.memFetch, hd, r1]
    simp [keyImg, ← hb]
  have m1 : (devKey.memFetch 0 1960).2.mem = (devBytes keyImg).mem := rfl
  have f1 : (devKey.memFetch 0 1960).2.flt = dev.flt := rfl
  generalize hs1 : (devKey.memFetch 0 1960).2 = s1 at *
  have r2 := memRead_devBytes s1 keyImg m1 f1 sigBytes 1960 (by simp only [hl, sigBytes]; omega) (by omega)
  have hg : (keyImg.drop 1960).take sigBytes = sigOf 1 (BitVec.ofNat 128 (Config.sha3 [])).toNat (Config.sha3 keyRec) := by
    rw [keyImg, ← hb, List.drop_left, List.take_of_length_le]
    simp only [sigOf, leBytes_length, zeros, List.length_append, List.length_cons, List.length_nil, List.length_replicate, sigBytes]; omega
  rw [hg] at r2
  have rs := readSig_sigOf [] 1 (BitVec.ofNat 128 (Config.sha3 [])) (Config.sha3Bits keyRec)
  rw [List.nil_append, List.length_nil] at rs
  have hk : u (leBytes 48 (Config.sha3 [])) 0 16 = (BitVec.ofNat 128 (Config.sha3 [])).toNat := by
    rw [u, show ((leBytes 48 (Config.sha3 [])).drop 0).take 16 = leBytes 16 (Config.sha3 []) from rfl, leNat_leBytes, BitVec.toNat_ofNat,
      show (256 : Nat) ^ 16 = 2 ^ 128 by decide +kernel]
  have k2 : (s1.memFetch 1960 sigBytes).2.secMram = devKey.secMram := by rw [← hs1]; rfl
  refine ⟨_, _, s1, (s1.memFetch 1960 sigBytes).2, by decide, rfl, by decide, l1, by decide +kernel, by decide +kernel, by decide +kernel, ?_, ?_, congrArg TSig.magicOk rs,
    congrArg TSig.keySlot rs, ?_⟩
  · rw [← hs1]; decide +kernel
  · have hp := poisonLines_none s1 1960 sigBytes (by rw [m1]; rfl)
    have hd : (s1.memDecode 1960).isNone = false := by rw [← hs1]; decide +kernel
    rw [State.memLoad, hp]
    simp only [State.memFetch, hd, r2]; rfl
  · exact sigDetail_none _ _ _ (congrArg TSig.digest rs).symm (congrArg TSig.keySlot rs) (by rw [k2]; decide)
      (by rw [k2]; exact hk.trans (congrArg TSig.keyId rs).symm) (congrArg TSig.formed rs)

/-- A level 1 unlock response to challenge 0. -/
def unlockMsg : List Byte := [0x47, 0x4D, 0x44, 0x55, 1, 0, 0, 0] ++ (deviceId ++ zeros 32)

/-- The first vendor key signs it. -/
def unlockImg : List Byte := unlockMsg ++ sigOf 0 (Config.vendorKeyId 0) (Config.sha3 unlockMsg)

/-- A device with that response in memory, and challenge 0 standing. -/
def devUnlock : State := (devBytes unlockImg).modSec fun x => { x with challenge := some 0, challengeEnd := 1 }

theorem unlockImg_length : unlockMsg.length = 48 ∧ unlockImg.length = 3440 := by
  have hb : unlockMsg.length = 48 := by
    simp [unlockMsg, deviceId, leBytes_length, zeros, -List.reduceReplicate]
  exact ⟨hb, by simp only [unlockImg, hb, sigOf, leBytes_length, zeros, List.length_append, List.length_cons, List.length_nil, List.length_replicate]⟩

theorem test_meets_TrustAndTamper_unlock : ∃ (b : List Byte) (s1 : State), rdy 0x0A08 0 pf devUnlock = true ∧ overUdp pf = false ∧
    devUnlock.memMapped 0 (48 + sigBytes) = true ∧ devUnlock.memLoad 157 0 (48 + sigBytes) = (some b, s1) ∧
    s1.unlockBad (b.take 48) (readSig b 48) true = none := by
  obtain ⟨hb, hl⟩ := unlockImg_length
  have r1 := memRead_devBytes devUnlock unlockImg rfl rfl (48 + sigBytes) 0 (by simp only [hl, sigBytes]; omega) (by omega)
  rw [List.drop_zero, List.take_of_length_le (by simp only [hl, sigBytes]; omega)] at r1
  have l1 : devUnlock.memLoad 157 0 (48 + sigBytes) = (some unlockImg, (devUnlock.memFetch 0 (48 + sigBytes)).2) := by
    have hp := poisonLines_none devUnlock 0 (48 + sigBytes) rfl
    have hd : (devUnlock.memDecode 0).isNone = false := by decide +kernel
    rw [State.memLoad, hp]
    simp only [State.memFetch, hd, r1, List.isEmpty_nil, Bool.false_eq_true, if_false, if_true]
  have rs := readSig_sigOf unlockMsg 0 (Config.vendorKeyBits 0) (Config.sha3Bits unlockMsg)
  rw [hb] at rs
  have ht : unlockImg.take 48 = unlockMsg := by rw [unlockImg, ← hb, List.take_left]
  have hc : (devUnlock.memFetch 0 (48 + sigBytes)).2.challengeNow = some 0 := by decide +kernel
  refine ⟨unlockImg, _, by decide +kernel, rfl, by decide +kernel, l1, ?_⟩
  have hv : (devUnlock.memFetch 0 (48 + sigBytes)).2.vendorKey (Config.vendorKeyId 0) = true := by
    simp only [State.vendorKey, List.any_eq_true, Bool.and_eq_true, beq_iff_eq]; exact ⟨0, by decide, rfl, by decide +kernel⟩
  have u0 : u unlockMsg 0 4 = 0x55444D47 := by decide +kernel
  have u4 : u unlockMsg 4 1 = 1 := by decide +kernel
  have u16 : u unlockMsg 16 32 = 0 := by decide +kernel
  have ud : (unlockMsg.drop 8).take 8 = deviceId := by
    rw [unlockMsg]; show (deviceId ++ zeros 32).take 8 = _
    rw [List.take_left' (by simp [deviceId, leBytes_length])]
  have rs' : readSig unlockImg 48 = _ := rs
  rw [ht, rs', State.unlockBad, State.unlockSig]
  rw [show Config.vendorKeyId 0 = (Config.vendorKeyBits 0).toNat from rfl] at hv
  simp [u0, u4, u16, ud, hc, Config.sha3, hv, TSig.formed]

theorem test_meets_TrustAndTamper : (∃ s : State, s = dev.modBoot (fun b => { b with phase := .recovery }) ∧ s.reached 0 = true ∧
      s.boot.phase = .recovery ∧ s.sec.rcvState = 0) ∧
    (let s := (dev.modBoot fun b => { b with phase := .recovery }).modSec fun x => { x with rcvState := 1, rcvLen := 3648 }
     s.boot.phase = .recovery ∧ s.sec.rcvState = 1 ∧ s.fnReach 0 = true ∧ (s.pll 9).gated = false ∧ s.sec.rcvLen.toNat = 3648 ∧ 3648 ≤ fwLimit ∧ s.sec.rcvAddr.toNat % 64 = 0) ∧
    dev.fwBad (fitBytes 3648 fwImg) true = none ∧
    (let w : ImageWrite := { source := 1, len := 3648, region := 1 }
     let s := dev.modSec fun x => { x with write := some w }
     s.sec.write = some w ∧ w.source = 1 ∧ w.target = 0 ∧ s.fnReach w.fn = true ∧ (s.pll 9).gated = false) ∧
    dev.pins.tmprLow = false ∧ dev.boot.phase ≠ .powerOnReset ∧ (dev.modSecMram fun x => { x with tamperAction := 1 }).secMram.tamperAction = 1 ∧
    (dev.modPins fun p => { p with tmprLow := true }).pins.tmprLow = true ∧ (dev.modSec fun x => { x with challenge := some 0 }).sec.challenge.isSome = true :=
  ⟨⟨_, rfl, by decide, by decide, by decide⟩, by decide +kernel, fwImg_valid, by decide +kernel⟩

theorem test_meets_TrustAndTamper_commands : rdy 0x0A00 0 pf devTr = true ∧ devTr.hasFltRead (devTr.kcpFn pf) = true ∧
    devTr.memMapped (2 ^ 39 - 3768) 3768 = true ∧ devTr.sec.level ≠ 2 ∧ devTr.sec.keyFailed = false ∧ rdy 0x0A01 0 pf devTr = true ∧
    (let s : State := { devTr with mem := { devTr.mem with bytes := [(0, 0x47), (1, 0x4D), (2, 0x4B), (3, 0x52), (4, 1)] } }
     rdy 0x0A02 0 pf s = true ∧ s.memMapped 0 1960 = true ∧ (tabGet s.secMram.keys 1).state = 0 ∧
     ((s.memLoad 157 0 1960).1.map fun b => (u b 0 4, u b 4 1, u b 5 1)) = some (0x524B4D47, 1, 0)) ∧
    rdy 0x0A03 0 pf dev = true ∧ rdy 0x0A04 0 pf devTr = true ∧ devTr.memMapped 0 fwLimit = true ∧ devTr.boot.flashBusy = false ∧
    rdy 0x0A05 0 pf dev = true ∧ rdy 0x0A06 0 pf devTr = true ∧
    (let s := (devTr.modTruss fun t => { t with slots := [(0, { state := .running, truss := some { tr with security := 2 ^ 32 - 1 } })] })
     s.secMram.trussCounter.toNat < BitVec.toNat (0xFFFFFFFF : Word) ∧ (s.running.map fun t => t.security) = some (BitVec.toNat (0xFFFFFFFF : Word)) ∧
     (tabGet s.truss.standing 0).valid = false ∧ (tabGet s.truss.standing 1).valid = false) ∧
    rdy 0x0A07 0 pf dev = true ∧ dev.sec.blocked = false ∧ rdy 0x0A09 0 pf dev = true ∧ overUdp pf = false := by decide +kernel

theorem test_meets_TrustAndTamper_identity : devTr.memMapped 0 (Config.identityKey ++ Config.identityChain).length = true := by
  have h : (Config.identityKey ++ Config.identityChain).length ≤ 67488 := by
    simp only [Config.identityKey, Config.identityChain, List.length_append, List.length_map, List.length_range, List.length_take]; omega
  have h0 : 1952 ≤ (Config.identityKey ++ Config.identityChain).length := by
    simp only [Config.identityKey, List.length_append, List.length_map, List.length_range]; omega
  generalize (Config.identityKey ++ Config.identityChain).length = n at *
  have hs : devTr.mem.spread = 0 := by decide
  have hp : devTr.port 0 = port0 := by decide
  have hd : (n - 1) / 549755813888 = 0 := by omega
  have hm : (n - 1) % 549755813888 = n - 1 := by omega
  have hl : n - 1 < 2199023255552 := by omega
  have hl2 : n - 1 < 512 * gib := by unfold gib; omega
  have h1 : (devTr.memDecode 0).isSome = true := by decide
  simp [State.memMapped, State.memDecode, hs, hp, port0, hd, hm, hl, hl2]
  exact .inr (by decide)

theorem test_meets_StepRunsTheFront : ({ dev with pending := [] } : State).pending = [] ∧
    (step { dev with pending := [.hostPortReset] }) = exec .hostPortReset { dev with pending := [] } := ⟨rfl, rfl⟩

theorem test_meets_EveryStepKeepsMemoryQueueAndTime : ∃ t, step State.reset = .next t ∧ State.reset.MemCanonical := ⟨_, rfl, rfl⟩

/-- What a start sees on a board with nothing on it. -/
def bare : StartIn :=
  { straps := (0, 0, 0), refclk := true, peRefclk := true, tj := 25, vout := none, linear := true, sigA := true, sigB := true, sigGold := true,
    cxl := [], sinks := [], sigS0 := false, sigS1 := false, resumeOk := false, pllLocks := 0x3FF, badMonitors := 0, armAfter := 0 }

/-- A CXL port's training that shows nothing. -/
def noCxl : CxlIn := { up := false, gts := 0, width := 0, gib := 0, latency := 0 }

/-- One more byte, or one fewer, than each operand's wire, entry or register carries. -/
theorem test_wf_refuses_sizes : ([.trussQuery { pf with params := zeros 47 } 0, .mbxTakeCommand 0 0 (some (zeros 63)), .kcpUdpHello 0 ends5 (zeros 9217) true,
   .kcpUdpCommand 0 ends5 [] true (zeros 65), .kcpUdpIgnoreEnd (2 ^ 128), .powerOnReset { bare with cxl := List.replicate 5 noCxl },
   .resetNRelease { bare with sinks := List.replicate 9 none }, .bar4Write 0 0 [] true, .bar4Write 0 (2 ^ 38 - 1) (zeros 2) true,
   .bar4Read 0 0 0, .registerWrite 0 0 3 0, .sessOpen pf 1 1 (zeros 15) 0, .sessNop pf (zeros 49), .sessGrant pf 0 0 0 0 (zeros 15),
   .mntCfgSet pf 0 0 (zeros 17) 0, .mntNetkey pf 0 0 0 (zeros 31), .planChange pf (zeros 49), .layerSet pf 0 0 [], .layerSetType pf 0 0 0 (List.replicate 12 0),
   .cellWrite pf 0 0 0 (List.replicate 21 0), .colSetOutput pf 0 0 0 [] 0 0 0 0 0, .colSetSlot pf 0 0 [], .auxReply 0 none (zeros 17),
   .headSetTiming pf (zeros 31), .headAux pf 0 0 0 0 0 (zeros 17)] : List Instr).all (fun i => !i.sized) = true := by decide +kernel

/-- The same for the families of the transport, the network and after. -/
theorem test_wf_refuses_sizes_after : ([.adtHelloRx { dgram 32 with mac := 2 ^ 48 } {}, .adtHelloRx { dgram 32 with addr := 2 ^ 128 } {}, .adtHelloRx { dgram 32 with udp := 2 ^ 16 } {},
   .adtHelloRx (dgram 65536) {}, .adtHelloRx (dgram 32) { caps := 256 }, .adtHelloRx (dgram 32) { maxFrag := 65536 },
   .adtHeartbeatRx (dgram 32) 0 (2 ^ 256) 0 0 0, .adtRepairRx (dgram 8) 0 0 (List.replicate 5462 (0, 0)), .netTimeCfg pf 0 0 0 0 0 0 0 0 [],
   .netMacsecKey pf 0 0 1 (zeros 31) (zeros 12), .netMacsecKey pf 0 0 1 (zeros 32) (zeros 13), .calSetRates pf 0 0 [0, 0] [0, 0, 0],
   .calSetRates pf 0 0 [0, 0, 0] [0, 0], .wbSetTarget pf 0 0 0 (List.replicate 9 0), .svcFieldSet pf 0 0 0 0 0 0 (zeros 41),
   .svcMsgSet pf 0 0 0 0 0 0 0 (zeros 37), .intcCoreCtrlWrite 0 true [⟨1, true, 0, 0, false⟩, ⟨1, false, 0, 0, false⟩],
   .faultCollectorCycle [⟨7, 0, false⟩, ⟨7, 1, false⟩] true, .secAttest pf 0 0 (zeros 33)] : List Instr).all (fun i => !i.sized) = true := by decide +kernel

/-- R141: operands that are not the fields of the entry are refused; those that are, and commands with no entry, stand. -/
theorem test_wf_entry : (Instr.trussQuery pf 1).wf = false ∧ (Instr.trussQuery pf 0).wf = true ∧
    (Instr.trussQuery { pf with params := [1] ++ zeros 47 } 1).wf = true ∧ (Instr.powerOnReset bare).wf = true ∧
    (Instr.adtHelloRx (dgram 32) {}).wf = true ∧ (Instr.bar4Write 0 (2 ^ 38 - 1) [0] true).wf = true := by decide +kernel

/-- R18, R44: in power-on reset nothing waits, no unit of memory holds data, and the reference is not taken as present. -/
theorem test_reset : State.reset.pending = [] ∧ State.reset.boot.phase = .powerOnReset ∧ State.reset.mem.bytes = [] ∧
    State.reset.clk.refOk = false ∧ State.reset.seq.running = 0 := by decide

end Sys2Proof.Tests
end

section
/-! SUPPORT. How every command ends (R451, log 3): with `done`, whatever branch it takes. What a step does to ERR_N follows from
this alone. Each lemma about a command follows the branches of its meaning; a KCP command has the branches of its one path. -/

namespace Sys2Proof.Machine

/-- The outcome is the end of a meaning: a next state, with ERR_N driven to its level. -/
def EndsDone (o : Host.Outcome State Fault Refusal) : Prop := ∃ t, o = done t

/-! ### The rules of `EndsDone` -/

theorem EndsDone.done (s : State) : EndsDone (done s) := ⟨s, rfl⟩

theorem EndsDone.ite {c : Prop} {_ : Decidable c} {a b : Host.Outcome State Fault Refusal} (ha : EndsDone a) (hb : EndsDone b) :
    EndsDone (if c then a else b) := by
  split
  · exact ha
  · exact hb

/-- A guard that ends the command at once leaves the rest to look at. -/
theorem EndsDone.guard {c : Prop} {_ : Decidable c} {t : State} {b : Host.Outcome State Fault Refusal} (hb : EndsDone b) :
    EndsDone (if c then Machine.done t else b) := .ite (.done t) hb

/-- A command that ends with `done` completes, and leaves ERR_N at its level. -/
theorem EndsDone.next {o : Host.Outcome State Fault Refusal} (h : EndsDone o) : ∃ t, o = .next t ∧ t.ErrnTrue := by
  obtain ⟨t, rfl⟩ := h
  exact done_next t

/-! ### The path of every KCP command -/

theorem kcpBegin_endsDone (id extra : Nat) (inSafe : Bool) (c : KcpCtx) (body : Nat → State → Reply ⊕ State) (s : State) :
    EndsDone (kcpBegin id extra inSafe c body s) := by
  unfold kcpBegin
  refine .guard ?_
  split
  · exact .done _
  · split
    · exact .done _
    · split
      · exact .done _
      · exact .guard (.done _)

theorem kcpRun_endsDone (id extra : Nat) (inSafe : Bool) (c : KcpCtx) (body : Nat → State → Reply) (s : State) :
    EndsDone (kcpRun id extra inSafe c body s) := by
  unfold kcpRun
  exact kcpBegin_endsDone ..

theorem kcp_endsDone (id : Nat) (c : KcpCtx) (body : Nat → State → Reply) (s : State) : EndsDone (kcp id c body s) :=
  kcpRun_endsDone ..

theorem kcpUnknown_endsDone (fn : Fin 16) (via : Via) (s : State) : EndsDone (kcpUnknown fn via s) := by
  unfold kcpUnknown
  split
  · exact .done _
  · exact .guard (kcp_endsDone ..)

theorem kcpArrives_endsDone {a : UdpIn} {go : State → Host.Outcome State Fault Refusal} {s : State}
    (hgo : ∀ t, EndsDone (go t)) : EndsDone (kcpArrives a go s) :=
  .guard (.guard (.guard (hgo _)))

/-! ### Resets, clocks and the pace -/

theorem execBrownOut_endsDone (rail : Rail) (mv ns : Nat) (s : State) : EndsDone (execBrownOut rail mv ns s) := by
  unfold execBrownOut
  split
  · exact .done _
  · exact .guard (.done _)

theorem execSyncOutRise_endsDone (s : State) : EndsDone (execSyncOutRise s) := by
  unfold execSyncOutRise
  refine .guard ?_
  split
  · dsimp only
    split <;> exact .done _
  · refine .guard (.ite ?_ (.done _))
    split <;> exact .done _

theorem execSyncOutFall_endsDone (s : State) : EndsDone (execSyncOutFall s) := by
  unfold execSyncOutFall
  refine .guard ?_
  dsimp only
  split
  · exact .guard (.done _)
  · exact .done _

theorem execAvsLoopPeriod_endsDone (tj : Int) (s : State) : EndsDone (execAvsLoopPeriod tj s) := by
  unfold execAvsLoopPeriod
  refine .guard (.guard ?_)
  dsimp only
  split <;> exact .done _

theorem execPmbusTransactionDone_endsDone (ok : Bool) (value : Half) (s : State) : EndsDone (execPmbusTransactionDone ok value s) := by
  unfold execPmbusTransactionDone
  split <;> exact .done _

/-! ### Memory and the host port -/

theorem execPoisonResponse_endsDone (address : BitVec 43) (use : PoisonUse) (s : State) : EndsDone (execPoisonResponse address use s) := by
  unfold execPoisonResponse
  dsimp only
  split
  · exact .done _
  · exact .guard (.done _)

theorem execBar4Write_endsDone (fn : Fin 16) (offset : BitVec 38) (bytes : List Byte) (lands : Bool) (s : State) :
    EndsDone (execBar4Write fn offset bytes lands s) := by
  unfold execBar4Write
  refine .guard ?_
  dsimp only
  split <;> exact .done _

theorem execBar4Read_endsDone (fn : Fin 16) (offset : BitVec 38) (len : Nat) (s : State) : EndsDone (execBar4Read fn offset len s) := by
  unfold execBar4Read
  refine .guard ?_
  dsimp only
  split
  · exact .done _
  · split <;> exact .done _

theorem execFunctionStale_endsDone (fn : Fin 16) (s : State) : EndsDone (execFunctionStale fn s) := by
  unfold execFunctionStale
  split
  · exact .done _
  · exact .guard (.done _)

/-! ### KCP over mailboxes and UDP -/

theorem execMbxTakeCommand_endsDone (fn : Fin 16) (n : Fin 4) (entry : Option (List Byte)) (s : State) :
    EndsDone (execMbxTakeCommand fn n entry s) := by
  unfold execMbxTakeCommand
  refine .guard (.ite (kcpUnknown_endsDone ..) (.guard ?_))
  cases entry with
  | none => exact .done _
  | some bytes => exact kcpUnknown_endsDone ..

theorem execKcpUdpHello_endsDone (port : Fin 4) (ends : UdpEnds) (bytes : List Byte) (tagOk : Bool) (s : State) :
    EndsDone (execKcpUdpHello port ends bytes tagOk s) := by
  unfold execKcpUdpHello
  refine kcpArrives_endsDone fun t => .guard ?_
  dsimp only
  split <;> exact .done _

theorem execKcpUdpCommand_endsDone (port : Fin 4) (ends : UdpEnds) (bytes : List Byte) (tagOk : Bool) (plain : List Byte) (s : State) :
    EndsDone (execKcpUdpCommand port ends bytes tagOk plain s) := by
  unfold execKcpUdpCommand
  refine kcpArrives_endsDone fun t => ?_
  dsimp only
  split
  · exact .done _
  · refine .guard ?_
    split
    · exact .done _
    · exact kcpUnknown_endsDone ..

/-! ### Trusses and standing slots -/

theorem execTrussLoadDone_endsDone (slot : Fin 4) (host : Option (List Byte)) (sigOk : Bool) (s : State) :
    EndsDone (execTrussLoadDone slot host sigOk s) := by
  unfold execTrussLoadDone
  dsimp only
  split
  · refine .ite ?_ (.ite ?_ (.done _))
    · split <;> exact .done _
    · split <;> exact .done _
  · exact .done _

theorem execTrussCheckDone_endsDone (slot : Fin 4) (s : State) : EndsDone (execTrussCheckDone slot s) := by
  unfold execTrussCheckDone
  dsimp only
  split
  · split <;> exact .done _
  · exact .done _

theorem execPlanCommitDone_endsDone (slot : Fin 4) (derived : Option (List Byte)) (s : State) :
    EndsDone (execPlanCommitDone slot derived s) := by
  unfold execPlanCommitDone
  dsimp only
  split
  · refine .guard ?_
    split <;> exact .done _
  · exact .done _

theorem execStandingWriteDone_endsDone (ok : Bool) (s : State) : EndsDone (execStandingWriteDone ok s) := by
  unfold execStandingWriteDone
  split
  · exact .done _
  · dsimp only
    split
    · split <;> exact .done _
    · exact .done _

/-! ### Work items, fetches and sills -/

theorem execItemIssue_endsDone (g : Fin 16) (item : Nat) (bad : Bool) (s : State) : EndsDone (execItemIssue g item bad s) := by
  unfold execItemIssue
  split
  · exact .done _
  · exact .guard (.guard (.guard (.guard (.done _))))

theorem execFetchIssue_endsDone (g : Fin 16) (item entry : Nat) (s : State) : EndsDone (execFetchIssue g item entry s) := by
  unfold execFetchIssue
  -- what the frame under way still has for this entry is an item or none: how it is found does not matter here
  extract_lets c here k t plan t' current n
  refine .guard ?_
  clear_value current
  cases current with
  | some i => exact .guard (.guard (.done _))
  | none =>
    dsimp only
    split
    · exact .done _
    · exact .guard (.done _)

theorem execReadDataLand_endsDone (port : Fin 5) (address : Long) (host : Option (List Byte)) (s : State) :
    EndsDone (execReadDataLand port address host s) := by
  unfold execReadDataLand
  split
  · exact .done _
  · exact .guard (.guard (.done _))

theorem execItemComplete_endsDone (lane : Fin 16) (s : State) : EndsDone (execItemComplete lane s) := by
  unfold execItemComplete
  split
  · exact .done _
  · exact .guard (.done _)

theorem execItemDeadline_endsDone (g : Fin 16) (item : Nat) (lines : Byte) (s : State) : EndsDone (execItemDeadline g item lines s) := by
  unfold execItemDeadline
  split
  · exact .done _
  · exact .guard (.done _)

theorem execSill_endsDone (g : Fin 16) (how : SillIn) (s : State) : EndsDone (execSill g how s) := by
  unfold execSill
  refine .guard ?_
  split
  · exact .done _
  · refine .guard (.guard ?_)
    dsimp only
    split <;> exact .done _

/-! ### Heads -/

theorem execHeadFrameStart_endsDone (h : Fin 8) (s : State) : EndsDone (execHeadFrameStart h s) := by
  unfold execHeadFrameStart
  dsimp only
  split
  · exact .done _
  · exact .guard (.done _)

theorem execHeadLineStart_endsDone (h : Fin 8) (ecc : Fin 3) (s : State) : EndsDone (execHeadLineStart h ecc s) := by
  unfold execHeadLineStart
  split
  · exact .done _
  · exact .guard (.guard (.done _))

theorem execAuxReply_endsDone (h : Fin 8) (reply : Option (BitVec 4)) (data : List Byte) (s : State) :
    EndsDone (execAuxReply h reply data s) := by
  unfold execAuxReply
  split
  · exact .done _
  · dsimp only
    split
    · exact .done _
    · exact .ite (.guard (.done _)) (.done _)

theorem execHeadWritebackFrameEnd_endsDone (h : Fin 8) (s : State) : EndsDone (execHeadWritebackFrameEnd h s) := by
  unfold execHeadWritebackFrameEnd
  split
  · exact .guard (.done _)
  · exact .done _

/-! ### The display transport and ingest -/

theorem execAdtHelloRx_endsDone (d : AdtDgram) (hello : Hello) (s : State) : EndsDone (execAdtHelloRx d hello s) := by
  unfold execAdtHelloRx
  refine .guard (.guard (.guard ?_))
  dsimp only
  split <;> exact .done _

theorem execAdtHeartbeatRx_endsDone (d : AdtDgram) (frame : Word) (summary : Nat) (flags late : Half) (offset : Int) (s : State) :
    EndsDone (execAdtHeartbeatRx d frame summary flags late offset s) := by
  unfold execAdtHeartbeatRx
  split
  · exact .done _
  · dsimp only
    split
    · exact .guard (.done _)
    · exact .done _

theorem execAdtLeaveRx_endsDone (d : AdtDgram) (reason : Half) (s : State) : EndsDone (execAdtLeaveRx d reason s) := by
  unfold execAdtLeaveRx
  split <;> exact .done _

theorem execAdtRepairRx_endsDone (d : AdtDgram) (frame : Word) (flags : Half) (entries : List (Half × Long)) (s : State) :
    EndsDone (execAdtRepairRx d frame flags entries s) := by
  unfold execAdtRepairRx
  split
  · exact .done _
  · dsimp only
    split
    · exact .done _
    · exact .guard (.guard (.done _))

theorem execSourceSliceRx_endsDone (d : AdtDgram) (frame : Word) (index : Half) (frag fragCount : Byte) (digest : Long) (offset : Word)
    (payload : List Byte) (s : State) : EndsDone (execSourceSliceRx d frame index frag fragCount digest offset payload s) := by
  unfold execSourceSliceRx
  split
  · exact .done _
  · dsimp only
    split
    · exact .done _
    · refine .guard (.guard ?_)
      split <;> exact .done _

theorem execFrameDoneRx_endsDone (d : AdtDgram) (frame : Word) (capture : Long) (slices : Half) (digest : Long) (s : State) :
    EndsDone (execFrameDoneRx d frame capture slices digest s) := by
  unfold execFrameDoneRx
  split
  · exact .done _
  · dsimp only
    split
    · exact .guard (.guard (.guard (.done _)))
    · exact .done _

theorem execIngestFrameComplete_endsDone (source : Byte) (s : State) : EndsDone (execIngestFrameComplete source s) := by
  unfold execIngestFrameComplete
  dsimp only
  split
  · exact .done _
  · split
    · exact .done _
    · exact .guard (.guard (.done _))

theorem execIngestFrameTimeout_endsDone (source : Byte) (s : State) : EndsDone (execIngestFrameTimeout source s) := by
  unfold execIngestFrameTimeout
  dsimp only
  split <;> exact .done _

theorem execMortiseOpen_endsDone (p : Fin 4) (g : Fin 16) (index : Nat) (s : State) : EndsDone (execMortiseOpen p g index s) := by
  unfold execMortiseOpen
  split
  · exact .done _
  · dsimp only
    split
    · exact .done _
    · exact .guard (.guard (.guard (.done _)))

theorem execAdtBlankRepeat_endsDone (number : Half) (s : State) : EndsDone (execAdtBlankRepeat number s) := by
  unfold execAdtBlankRepeat
  dsimp only
  split
  · exact .done _
  · exact .ite (.done _) (.done _)

/-! ### Network ports -/

theorem execPtpSyncTimeout_endsDone (p : Fin 4) (s : State) : EndsDone (execPtpSyncTimeout p s) := by
  unfold execPtpSyncTimeout
  refine .guard ?_
  dsimp only
  split <;> exact .done _

theorem execCbFrameRx_endsDone (p : Fin 4) (mac : BitVec 48) (vlan : BitVec 12) (seq wire : Half) (s : State) :
    EndsDone (execCbFrameRx p mac vlan seq wire s) := by
  unfold execCbFrameRx
  refine .guard ?_
  split
  · exact .done _
  · dsimp only
    split <;> exact .done _

theorem execCalendarBucketExpand_endsDone (p : Fin 4) (s : State) : EndsDone (execCalendarBucketExpand p s) := by
  unfold execCalendarBucketExpand
  split
  · exact .done _
  · exact .guard (.done _)

/-! ### DMA and writeback -/

theorem execDmaDescDone_endsDone (c : Fin 32) (m : HostMem) (s : State) : EndsDone (execDmaDescDone c m s) := by
  unfold execDmaDescDone
  dsimp only
  split
  · exact .done _
  · exact .guard (.guard (.guard (.done _)))

theorem execWbFrameDone_endsDone (e : Fin 4) (s : State) : EndsDone (execWbFrameDone e s) := by
  unfold execWbFrameDone
  refine .guard (.guard ?_)
  split
  · exact .done _
  · exact .guard (.done _)

/-! ### Services, faults and counters -/

theorem execFieldPersistWrite_endsDone (field : BitVec 11) (s : State) : EndsDone (execFieldPersistWrite field s) := by
  unfold execFieldPersistWrite
  dsimp only
  split <;> exact .done _

theorem execFaultRingMirror_endsDone (s : State) : EndsDone (execFaultRingMirror s) := by
  unfold execFaultRingMirror
  split
  · exact .done _
  · exact .guard (.done _)

theorem execDisagree1ms_endsDone (kind : Fin 10) (index : Half) (s : State) : EndsDone (execDisagree1ms kind index s) := by
  unfold execDisagree1ms
  split
  · exact .done _
  · exact .guard (.done _)

theorem execDisagreeWindowEnd_endsDone (kind : Fin 10) (index : Half) (s : State) : EndsDone (execDisagreeWindowEnd kind index s) := by
  unfold execDisagreeWindowEnd
  split
  · exact .done _
  · refine .guard ?_
    split <;> exact .done _

theorem execDisagreeClose_endsDone (kind : Fin 10) (index : Half) (s : State) : EndsDone (execDisagreeClose kind index s) := by
  unfold execDisagreeClose
  split <;> exact .done _

theorem execSnapshotDone_endsDone (ns : Nat) (s : State) : EndsDone (execSnapshotDone ns s) := by
  unfold execSnapshotDone
  split <;> exact .done _

/-! ### Images -/

theorem execRcvInstallDone_endsDone (image : Option (List Byte)) (sigOk ok : Bool) (s : State) :
    EndsDone (execRcvInstallDone image sigOk ok s) := by
  unfold execRcvInstallDone
  refine .guard ?_
  cases image with
  | none => exact .done _
  | some img =>
    refine .guard ?_
    dsimp only
    split
    · exact .done _
    · exact .guard (.done _)

theorem execImageWriteDone_endsDone (host : Option (List Byte)) (sigOk ok : Bool) (s : State) :
    EndsDone (execImageWriteDone host sigOk ok s) := by
  unfold execImageWriteDone
  split
  · exact .done _
  · dsimp only
    split
    · exact .done _
    · split
      · exact .done _
      · exact .done _
      · exact .done _
      · exact .done _
      · exact .done _
      · exact .guard (.guard (.done _))

/-! ### Every command, and every step -/

/-- Every command ends with `done`, in every state. -/
theorem exec_endsDone (i : Instr) (s : State) : EndsDone (exec i s) := by
  cases i with dsimp only [exec]
  -- the KCP commands: their one path
  | clkQuery | clkSetTrack | clkSetSyncOut | clkRelock | clkSetSettle | paceQuery | paceSetBand | paceSetLimits | paceClear
  | paceForceReduced | memQuery | memSetInterleave | memMapAperture | memPortOffline | memPortOnline | memSetSnoop | sessOpen | sessClose
  | sessInfo | sessNop | sessStatus | sessGrantQuery | mntReset | mntInfo | mntCfgGet | mntSetNetmgmt | mntNetkey | trussLoad | trussCheck
  | trussQuery | trussUnload | planCommit | planDiscard | standingQuery | standingWrite | standingSelect | seqSwitch | seqArm | seqDisarm
  | seqQuery | seqSetCutoff | seqForceVariant | surfAlloc | surfFree | surfQuery | surfShare | layerSet | layerQuery | cellFill
  | sclBankLoad | sclSetSlot | sclQuerySlot | colTableLoad | colTableQuery | colTableFree | colSetOutput | colQueryOutput | colSetSlot
  | headSetTiming | headSetPower | headRetrain | headSetBacklight | adtConfig | adtQuery | adtBind | adtDisconnect | adtRefresh | adtBlank
  | adtSourceCtrl | adtStats | netPortQuery | netPortCfg | netPortEnable | netSetAddr | netTimeCfg | netTimeQuery | netMacsecCfg
  | netMacsecKey | netCbCfg | calQuery | calSetRates | ingCfg | ingQuery | wbSetTarget | wbQuery | dmaCqCfg | dmaReqMap | dmaQuery
  | svcFieldDefine | svcFieldQuery | svcCharmapLoad | svcMosaicSet | svcMosaicQuery | svcBulletin | svcBulletinQuery | svcEmergCfg
  | intcSetSource | intcQuerySource | intcQueryTarget | fltQuery | fltAck | fltSetSource | fltSetRecovery | fltUnfence | fltSetErrn
  | fltSetSafeField | fltEnterSafe | fltSrcQuery | pmuFcSet | pmuFcQuery | pmuSnapCfg | pmuSnapTake | pmuSnapQuery | pmuBwSet | pmuBwQuery
  | pmuClear | secAttest | secIdentity | secKeyInstall | secKeyQuery | secImageWrite | secImageQuery | secRollbackCommit | secDebugChallenge
  | secDebugUnlock | secTamperCfg => exact kcp_endsDone ..
  | sessGrant | mntCfgSet | planChange | layerSetType | cellWrite | sclBankQuery | svcFieldSet | svcMsgSet | fltLogRead => exact kcpRun_endsDone ..
  | headQuery => exact kcpBegin_endsDone ..
  | headAux => exact .guard (kcpBegin_endsDone ..)
  -- no guard, and one to four guards in a row
  | hostPortReset | cxlLinkDown | cxlViral | cxlRecoveryTimeout | armWritesLanded | dmaRequest | intcRound | intcClaim | intcComplete
  | intcCoreCtrlWrite | faultCollectorCycle | faultOccurrence | brokenWire | faultLiveFall | quietPeriodEnd | coreWatchdogExpiry
  | bwWindowEnd | perstNDeassert | peRefclkLoss | peRefclkReturn =>
    exact .done _
  | powerOnReset | refclkWaitRetry | kcpResetBegin | bootWatchdogExpiry | memInitDone | hostLinkTrained | surpriseDown | functionLevelReset
  | busMasterDisable | refclkLoss | refclkReturn | pllLossOfLock | pllLock | pllSettleDone | trackerNStep | syncInMissing | timeHoldover
  | clkTimeLoRead | clkNtOffsetLoRead | paceEscalate | paceReducedFloorBreach | paceReturn | readVoutPoll | regulatorSettleTimeout
  | readIoutPoll | openLoopRetry | pmAlert | cxlRecoveryDone | cxlOfflineComplete | evtRingCfgWrite | evtCoalTimeout | mbxCfgWrite
  | mbxRspConsWrite | kcpUdpHandleLapse | kcpUdpSessionIdle | kcpUdpIgnoreEnd | laneFreeStart | publishCutoff | sillCopyDone | sillArmArm
  | sillArmDisarm | hpdPlug | hpdUnplug | hpdShortPulse | adtHeartbeatTx | adtPeerNotLive | adtSessionTimeout | announceTime | adtHoldEnd
  | ethLinkDown | ethLinkUp | ethLinkUpSettled | arpRetry | arpGiveUp | neighbourAgeOut | mkaPeerTimeout | cbResetTimeout | macSelectFrame
  | bulletinLaid | intcHostEoi | intcHostMaskWrite | errnPulseEnd | disagreeOpen | fltForceAssert | fltForceBroken | fltForceRelease
  | fltEnterSafeDue | pmuUpdate | tamperAssert | tamperRelease | supplyGlitch | temperatureAlarm | debugChallengeLapse | busMasterEnableSet
  | cxlPortInitDone | ptpPdelayTimer | snapTimeLoRead =>
    exact .guard (.done _)
  | resetNRelease | pllRelockTimeout | syncInEdge | sillNextLoRead | paceWindow | mbxDoorbell | llwWrite | irqHpd | linkTrainingAttemptEnd
  | beaconTimer | ethFrameDiscard | ptpAnnounceRx | ptpSyncTx | dmaChCfgWrite | dmaChAbort | dmaSwreq | dreqEdge | dmaCqCfgWrite
  | emergNAssert | emergNRelease | intcHostSwset | pmuCntHiWrite | pmuCntLoWrite | pmuSnapTakeBit | pmuSnapReleaseBit | idRcvGo
  | idRcvCfgReset | vfEnableWrite =>
    exact .guard (.guard (.done _))
  | pllGateOpen | cxlLinkTrained | registerWrite | evtRingConsWrite | icmpEchoRx | mkaRx | dmaDoorbell | dmaChResume | dmaCqConsWrite
  | pmuCntLoRead =>
    exact .guard (.guard (.guard (.done _)))
  | resetNAssert | ptpSyncRx | ptpPdelayRx =>
    exact .guard (.guard (.guard (.guard (.done _))))
  | arpNdRx => exact .guard (.guard (.ite (.guard (.done _)) (.done _)))
  -- arms that look something up: each by its own lemma
  | brownOut => exact execBrownOut_endsDone ..
  | syncOutRise => exact execSyncOutRise_endsDone ..
  | syncOutFall => exact execSyncOutFall_endsDone ..
  | avsLoopPeriod => exact execAvsLoopPeriod_endsDone ..
  | pmbusTransactionDone => exact execPmbusTransactionDone_endsDone ..
  | poisonResponse => exact execPoisonResponse_endsDone ..
  | bar4Write => exact execBar4Write_endsDone ..
  | bar4Read => exact execBar4Read_endsDone ..
  | functionStale => exact execFunctionStale_endsDone ..
  | mbxTakeCommand => exact execMbxTakeCommand_endsDone ..
  | kcpUdpHello => exact execKcpUdpHello_endsDone ..
  | kcpUdpCommand => exact execKcpUdpCommand_endsDone ..
  | trussLoadDone => exact execTrussLoadDone_endsDone ..
  | trussCheckDone => exact execTrussCheckDone_endsDone ..
  | planCommitDone => exact execPlanCommitDone_endsDone ..
  | standingWriteDone => exact execStandingWriteDone_endsDone ..
  | itemIssue => exact execItemIssue_endsDone ..
  | fetchIssue => exact execFetchIssue_endsDone ..
  | readDataLand => exact execReadDataLand_endsDone ..
  | itemComplete => exact execItemComplete_endsDone ..
  | itemDeadline => exact execItemDeadline_endsDone ..
  | sill => exact execSill_endsDone ..
  | headFrameStart => exact execHeadFrameStart_endsDone ..
  | headLineStart => exact execHeadLineStart_endsDone ..
  | auxReply => exact execAuxReply_endsDone ..
  | headWritebackFrameEnd => exact execHeadWritebackFrameEnd_endsDone ..
  | adtHelloRx => exact execAdtHelloRx_endsDone ..
  | adtHeartbeatRx => exact execAdtHeartbeatRx_endsDone ..
  | adtLeaveRx => exact execAdtLeaveRx_endsDone ..
  | adtRepairRx => exact execAdtRepairRx_endsDone ..
  | sourceSliceRx => exact execSourceSliceRx_endsDone ..
  | frameDoneRx => exact execFrameDoneRx_endsDone ..
  | ingestFrameComplete => exact execIngestFrameComplete_endsDone ..
  | ingestFrameTimeout => exact execIngestFrameTimeout_endsDone ..
  | mortiseOpen => exact execMortiseOpen_endsDone ..
  | adtBlankRepeat => exact execAdtBlankRepeat_endsDone ..
  | ptpSyncTimeout => exact execPtpSyncTimeout_endsDone ..
  | cbFrameRx => exact execCbFrameRx_endsDone ..
  | calendarBucketExpand => exact execCalendarBucketExpand_endsDone ..
  | dmaDescDone => exact execDmaDescDone_endsDone ..
  | wbFrameDone => exact execWbFrameDone_endsDone ..
  | fieldPersistWrite => exact execFieldPersistWrite_endsDone ..
  | faultRingMirror => exact execFaultRingMirror_endsDone ..
  | disagree1ms => exact execDisagree1ms_endsDone ..
  | disagreeWindowEnd => exact execDisagreeWindowEnd_endsDone ..
  | disagreeClose => exact execDisagreeClose_endsDone ..
  | snapshotDone => exact execSnapshotDone_endsDone ..
  | rcvInstallDone => exact execRcvInstallDone_endsDone ..
  | imageWriteDone => exact execImageWriteDone_endsDone ..

/-- So does a step: it is a command, or one edge of the plan-time counter. -/
theorem step_endsDone (s : State) : EndsDone (step s) := by
  unfold step
  split
  · exact .done _
  · exact exec_endsDone ..

end Sys2Proof.Machine
end

section
/-! SUPPORT. What a start records before its first step (R29, R30, R54, R58, R441). -/

namespace Sys2Proof.Machine

/-- R29: the majority is taken bit by bit. -/
theorem majority_getLsbD (x : BitVec 2 × BitVec 2 × BitVec 2) (k : Nat) :
    (majority x).getLsbD k =
      ((x.1.getLsbD k && x.2.1.getLsbD k) || (x.1.getLsbD k && x.2.2.getLsbD k) || (x.2.1.getLsbD k && x.2.2.getLsbD k)) := by
  simp only [majority, BitVec.getLsbD_or, BitVec.getLsbD_and]

/-- R54: a start is warm unless its cause is a cold one's, 0. -/
theorem beginStart_warm_iff (k : Fin 4) (since : Nat) (s : State) : (beginStart k since s).boot.warm = true ↔ k ≠ 0 := by
  show (k.val != 0) = true ↔ k ≠ 0
  rw [bne_iff_ne, ne_eq, Fin.val_eq_zero_iff]

/-- R30: 11 alone is a bad strap. -/
theorem sampleStraps_strapBad_iff (i : StartIn) (s : State) :
    (sampleStraps i s).boot.strapBad = true ↔ (sampleStraps i s).boot.strap = 3 := beq_iff_eq

end Sys2Proof.Machine
end

section
/-! SUPPORT. The statements of the family of the package and its signals, settled. -/

open Sys2Proof Sys2Proof.Machine

/-- Settles O59: every branch of every meaning ends with `done`, which drives ERR_N. -/
theorem everyStepDrivesErrn : Obligations.EveryStepDrivesErrn :=
  ⟨fun i s => (exec_endsDone i s).next, fun s => (step_endsDone s).next⟩

/-- Settles O2: the two operations set the fields of the boot block, and the straps by majority. -/
theorem startBeginsWithItsCause : Obligations.StartBeginsWithItsCause := by
  intro i s k since
  exact ⟨rfl, beginStart_warm_iff k since s, rfl, rfl, rfl, rfl, fun b => majority_getLsbD i.straps b,
    sampleStraps_strapBad_iff i (beginStart k since s), rfl, rfl, rfl⟩

/-- Settles O58, by the values that reset gives each block. -/
theorem resetMeetsTheInvariants : Obligations.ResetMeetsTheInvariants := ⟨rfl, rfl, rfl⟩

end

section
/-! SUPPORT. Folds of steps: what every step keeps stays, and what one of them makes, and the rest keep, holds in the end. -/

namespace Sys2Proof.Machine

/-- What every step of a fold keeps, the fold keeps. -/
theorem foldl_keeps {α β γ : Type} (φ : β → γ) {f : β → α → β} (h : ∀ b x, φ (f b x) = φ b) (l : List α) (b : β) :
    φ (l.foldl f b) = φ b :=
  List.foldlRecOn (motive := fun c => φ c = φ b) l f rfl fun c hc x _ => (h c x).trans hc

/-- What the step of a listed entry makes, and every step keeps, holds after the fold. -/
theorem foldl_makes {α β : Type} {P : β → Prop} {f : β → α → β} {k : α} {l : List α} (hk : k ∈ l) (makes : ∀ b, P (f b k))
    (keeps : ∀ b x, P b → P (f b x)) (b : β) : P (l.foldl f b) := by
  obtain ⟨l₁, l₂, rfl⟩ := List.append_of_mem hk
  rw [List.foldl_append, List.foldl_cons]
  exact List.foldlRecOn l₂ f (makes _) fun c hc x _ => keeps c x hc

/-- A key that a table does not list reads as the default. -/
theorem tabGetD_of_not_mem {α : Type} {d : α} {t : Tab α} {j : Nat} (h : j ∉ t.map Prod.fst) : tabGetD d t j = d := by
  induction t with
  | nil => rfl
  | cons e t ih =>
    rw [List.map_cons, List.mem_cons, not_or] at h
    rw [tabGetD, if_neg (Ne.symm h.1), ih h.2]

/-- What the default satisfies and every changed entry does, every entry of a changed table satisfies. -/
theorem tabGet_tabMap {α : Type} [Inhabited α] [DecidableEq α] {P : α → Prop} {f : Nat → α → α} (hd : P default) (hf : ∀ k x, P (f k x))
    (t : Tab α) (j : Nat) : P (tabGet (tabMap f t) j) := by
  have keeps : ∀ (acc : Tab α) (e : Nat × α), P (tabGet acc j) → P (tabGet (tabSet acc e.1 (f e.1 e.2)) j) := by
    intro acc e h
    rw [tabGet_set]
    split
    · exact hf _ _
    · exact h
  by_cases hj : j ∈ t.map Prod.fst
  · obtain ⟨e, he, rfl⟩ := List.mem_map.mp hj
    refine foldl_makes (P := fun acc => P (tabGet acc e.1)) he (fun acc => ?_) keeps t
    rw [tabGet_set, if_pos rfl]
    exact hf _ _
  · refine List.foldlRecOn (motive := fun acc => P (tabGet acc j)) t _ ?_ fun acc h e _ => keeps acc e h
    rw [tabGet, tabGetD_of_not_mem hj]
    exact hd

end Sys2Proof.Machine
end

section
/-! SUPPORT. What reports, records, arms and fetches leave as it is. -/

namespace Sys2Proof.Machine

/-- The state with everything erased that a fault's report, an event record, an arm or a fetch may move. Two states with the same lasting part
agree in every other field, by `congrArg`. -/
def State.lasting (s : State) : State :=
  { s with
    boot := { s.boot with stage := 0, severeSince := false },
    host := { s.host with fns := [], rings := [], msix := [], udp := [], surpriseAt := 0, surpriseFor := 0, surpriseOwed := 0,
                          surpriseLost := 0, oweFlr := false },
    pace := {}, intc := {}, flt := {}, fltMram := {}, seq := {}, heads := [], adt := {}, net := {}, dma := {}, pmu := {}, free := 0, out := [] }

/-- The condition of a step does not matter when both ends have the same lasting part. -/
theorem State.lasting_ite {c : Prop} {_ : Decidable c} {s a b : State} (ha : a.lasting = s.lasting) (hb : b.lasting = s.lasting) :
    (if c then a else b).lasting = s.lasting := by
  split
  · exact ha
  · exact hb

/-- A step that is taken under a condition, after one that keeps the lasting part. -/
theorem State.lasting_then {c : Prop} {_ : Decidable c} {s t u : State} (ht : t.lasting = s.lasting) (hu : u.lasting = t.lasting) :
    (if c then u else t).lasting = s.lasting := lasting_ite (hu.trans ht) ht

/-! ### Entries and blocks, counts and interrupts -/

@[simp] theorem State.emit_lasting (o : Out) (s : State) : (s.emit o).lasting = s.lasting := rfl
@[simp] theorem State.countN_lasting (e n : Nat) (s : State) : (s.countN e n).lasting = s.lasting := rfl
@[simp] theorem State.count_lasting (e : Nat) (s : State) : (s.count e).lasting = s.lasting := rfl
@[simp] theorem State.modGroup_lasting (g : Nat) (f : GroupSt → GroupSt) (s : State) : (s.modGroup g f).lasting = s.lasting := rfl
@[simp] theorem State.modSlot_lasting (x : Nat) (f : SlotSt → SlotSt) (s : State) : (s.modSlot x f).lasting = s.lasting := rfl
@[simp] theorem State.modIssue_lasting (i : Nat) (f : Issue → Issue) (s : State) : (s.modIssue i f).lasting = s.lasting := rfl
@[simp] theorem State.modPeer_lasting (k : Nat) (f : Peer → Peer) (s : State) : (s.modPeer k f).lasting = s.lasting := rfl
@[simp] theorem State.modIntTgt_lasting (t : Nat) (f : IntTgt → IntTgt) (s : State) : (s.modIntTgt t f).lasting = s.lasting := rfl
@[simp] theorem State.modGrp_lasting (b : Bool) (x : Nat) (f : IntGrp → IntGrp) (s : State) : (s.modGrp b x f).lasting = s.lasting := rfl
@[simp] theorem State.setRing_lasting (f n : Nat) (r : EvtRing) (s : State) : (s.setRing f n r).lasting = s.lasting := rfl
@[simp] theorem State.modUdp_lasting (k : Nat) (f : UdpSess → UdpSess) (s : State) : (s.modUdp k f).lasting = s.lasting := rfl

@[simp] theorem State.pend_lasting (x : Nat) (s : State) : (s.pend x).lasting = s.lasting := lasting_ite rfl rfl

/-- A fold of steps that keep the lasting part keeps it. -/
theorem foldl_lasting {α : Type} {f : State → α → State} (h : ∀ s x, (f s x).lasting = s.lasting) (l : List α) (s : State) :
    (l.foldl f s).lasting = s.lasting := foldl_keeps State.lasting h l s

@[simp] theorem State.bwAdd_lasting (n cls bytes : Nat) (s : State) : (s.bwAdd n cls bytes).lasting = s.lasting := lasting_ite rfl rfl

@[simp] theorem State.traffic_lasting (p : Nat) (w : Bool) (who : Who) (l : List Nat) (s : State) :
    (s.traffic p w who l).lasting = s.lasting := lasting_ite rfl (bwAdd_lasting ..)

@[simp] theorem State.hostRead_lasting (a n : Nat) (b : Bool) (w : Who) (s : State) : (s.hostRead a n b w).lasting = s.lasting := by
  simp only [hostRead, traffic_lasting, countN_lasting]
  exact foldl_lasting (fun _ _ => emit_lasting ..) ..

/-! ### Frames -/

@[simp] theorem State.enqueue_lasting (p q : Nat) (f : QFrame) (s : State) : (s.enqueue p q f).lasting = s.lasting := lasting_ite rfl rfl

@[simp] theorem State.manage_lasting (p : Nat) (what : String) (fields : List Nat) (s : State) :
    (s.manage p what fields).lasting = s.lasting := lasting_ite (enqueue_lasting ..) rfl

@[simp] theorem State.keepNeighbour_lasting (p addr : Nat) (n : Neighbour) (s : State) :
    (s.keepNeighbour p addr n).lasting = s.lasting := by
  unfold keepNeighbour
  dsimp only
  split <;> rfl

@[simp] theorem State.askNeighbour_lasting (p addr : Nat) (s : State) : (s.askNeighbour p addr).lasting = s.lasting := by
  simp only [askNeighbour, manage_lasting, keepNeighbour_lasting]

@[simp] theorem State.sendIp_lasting (p q addr : Nat) (f : QFrame) (s : State) : (s.sendIp p q addr f).lasting = s.lasting :=
  lasting_ite rfl (lasting_ite (enqueue_lasting ..) (lasting_ite rfl (askNeighbour_lasting ..)))

@[simp] theorem udpSend_lasting (k kind : Nat) (secret : Bool) (body : List Byte) (s : State) :
    (udpSend k kind secret body s).lasting = s.lasting := by
  simp only [udpSend, State.sendKcp, State.sendIp_lasting, State.modUdp_lasting]

/-! ### Event records -/

@[simp] theorem State.signal_lasting (f n : Nat) (s : State) : (s.signal f n).lasting = s.lasting := lasting_ite rfl rfl

@[simp] theorem State.signalIfDue_lasting (f n : Nat) (s : State) : (s.signalIfDue f n).lasting = s.lasting :=
  lasting_ite (signal_lasting ..) rfl

@[simp] theorem State.putRecord_lasting (f n t : Nat) (subject : Half) (payload : List Byte) (s : State) :
    (s.putRecord f n t subject payload).lasting = s.lasting := by
  simp only [putRecord, signalIfDue_lasting, emit_lasting, count_lasting, setRing_lasting]

@[simp] theorem State.dropRecord_lasting (f n t : Nat) (s : State) : (s.dropRecord f n t).lasting = s.lasting := lasting_ite rfl rfl

@[simp] theorem State.ringRecord_lasting (f t : Nat) (subject : Half) (payload : List Byte) (s : State) :
    (s.ringRecord f t subject payload).lasting = s.lasting := by
  unfold ringRecord
  split
  · rfl
  · exact lasting_ite (dropRecord_lasting ..) (putRecord_lasting ..)

@[simp] theorem State.udpRecord_lasting (k t : Nat) (subject : Half) (payload : List Byte) (s : State) :
    (s.udpRecord k t subject payload).lasting = s.lasting :=
  lasting_ite (lasting_ite rfl (udpSend_lasting ..)) rfl

@[simp] theorem State.payStale_lasting (f : Nat) (s : State) : (s.payStale f).lasting = s.lasting :=
  lasting_ite (ringRecord_lasting ..) rfl

@[simp] theorem State.payOwed_lasting (s : State) : s.payOwed.lasting = s.lasting := by
  refine lasting_ite rfl (lasting_then ?_ (ringRecord_lasting ..))
  exact lasting_ite rfl (ringRecord_lasting ..)

@[simp] theorem State.hostRecord_lasting (f t : Nat) (subject : Half) (payload : List Byte) (s : State) :
    (s.hostRecord f t subject payload).lasting = s.lasting := by
  refine lasting_ite (lasting_ite rfl rfl) (lasting_ite rfl ?_)
  rw [ringRecord_lasting, payStale_lasting]
  exact lasting_ite (payOwed_lasting s) rfl

@[simp] theorem State.record_lasting (f t : Nat) (subject : Half) (payload : List Byte) (s : State) :
    (s.record f t subject payload).lasting = s.lasting :=
  (foldl_lasting (fun _ _ => lasting_ite (udpRecord_lasting ..) rfl) ..).trans (hostRecord_lasting ..)

@[simp] theorem State.recordTo_lasting (p : Nat → Bool) (t : Nat) (subject : Half) (payload : List Byte) (s : State) :
    (s.recordTo p t subject payload).lasting = s.lasting := foldl_lasting (fun _ _ => record_lasting ..) ..

/-! ### Sending to peers -/

@[simp] theorem State.adtSend_lasting (k : Nat) (kind : String) (body : Nat) (fields : List Nat) (s : State) :
    (s.adtSend k kind body fields).lasting = s.lasting := by
  simp only [adtSend, adtSendBy]
  rw [foldl_lasting fun _ _ => lasting_ite (sendIp_lasting ..) rfl, modPeer_lasting]

@[simp] theorem State.peerState_lasting (k state reason : Nat) (s : State) : (s.peerState k state reason).lasting = s.lasting := by
  simp only [peerState, pend_lasting, recordTo_lasting, modPeer_lasting]

@[simp] theorem State.sendBlank_lasting (k : Nat) (b : Blank) (s : State) : (s.sendBlank k b).lasting = s.lasting := by
  refine lasting_then ?_ (peerState_lasting ..)
  refine foldl_lasting (fun t i => ?_) ..
  rw [count_lasting, adtSend_lasting]

/-! ### The fault collector -/

@[simp] theorem chooseVariants_lasting (s : State) : (chooseVariants s).lasting = s.lasting := by
  have edge : (paceEdge s).lasting = s.lasting := State.lasting_ite rfl (State.pend_lasting ..)
  refine State.lasting_ite edge ((foldl_lasting (fun t g => ?_) ..).trans edge)
  exact State.lasting_ite (State.lasting_ite rfl rfl) rfl

@[simp] theorem safeReaction_lasting (s : State) : (safeReaction s).lasting = s.lasting :=
  foldl_lasting (fun _ _ => State.sendBlank_lasting ..) ..

@[simp] theorem stopDecoder_lasting (d : Nat) (s : State) : (stopDecoder d s).lasting = s.lasting := by
  refine State.lasting_ite rfl (foldl_lasting (fun t e => ?_) ..)
  exact State.lasting_then rfl (State.adtSend_lasting ..)

@[simp] theorem unitReaction_lasting (x : Nat) (s : State) : (unitReaction x s).lasting = s.lasting :=
  State.lasting_ite rfl (State.lasting_ite (stopDecoder_lasting ..) (State.lasting_ite rfl rfl))

@[simp] theorem enterSafe_lasting (s : State) : (enterSafe s).lasting = s.lasting :=
  State.lasting_ite rfl (safeReaction_lasting ..)

@[simp] theorem State.putFence_lasting (x : Nat) (v : Bool) (s : State) : (s.putFence x v).lasting = s.lasting := by
  unfold putFence
  split <;> rfl

@[simp] theorem fltFence_lasting (o : Occ) (s : State) : (fltFence o s).lasting = s.lasting := by
  refine State.lasting_ite (State.lasting_ite rfl ?_) (State.lasting_ite rfl rfl)
  rw [chooseVariants_lasting, unitReaction_lasting]
  refine State.lasting_ite ?_ ?_ <;> exact State.putFence_lasting ..

@[simp] theorem fltReact_lasting (o : Occ) (s : State) : (fltReact o s).lasting = s.lasting := by
  refine State.lasting_then ((fltFence_lasting ..).trans ?_) (enterSafe_lasting _)
  refine State.lasting_then (State.lasting_then (State.lasting_then (State.lasting_then (State.lasting_then
    (State.lasting_then ?_ rfl) rfl) rfl) rfl) rfl) rfl
  rw [State.pend_lasting]
  rfl

@[simp] theorem fltStore_lasting (o : Occ) (s : State) : (fltStore o s).lasting = s.lasting := by
  refine State.lasting_ite ((State.recordTo_lasting ..).trans ?_) ((State.pend_lasting ..).trans ?_) <;>
    exact State.lasting_ite (State.pend_lasting ..) (State.lasting_ite rfl rfl)

@[simp] theorem fltTake_lasting (o : Occ) (s : State) : (fltTake o s).lasting = s.lasting := by
  have snap : (snapFault o.cls (s.modFltSrc o.source fun c => { c with occ := satInc c.occ })).lasting = s.lasting := State.lasting_ite rfl rfl
  refine State.lasting_ite ?_ ?_ <;> simp only [fltStore_lasting, fltReact_lasting, snap]

@[simp] theorem fltMove_lasting (s : State) : (fltMove s).lasting = s.lasting := by
  unfold fltMove
  split
  · exact State.pend_lasting ..
  · rfl

@[simp] theorem fltCycle_lasting (os : List Occ) (s : State) : (fltCycle os s).lasting = s.lasting :=
  (foldl_lasting (fun _ _ => fltTake_lasting ..) ..).trans (fltMove_lasting s)

@[simp] theorem State.fault_lasting (x : Nat) (detail : Word) (s : State) : (s.fault x detail).lasting = s.lasting :=
  lasting_ite (fltCycle_lasting ..) (lasting_ite rfl rfl)

@[simp] theorem State.faultOpen_lasting (x : Nat) (s : State) : (s.faultOpen x).lasting = s.lasting := fault_lasting ..

/-! ### Fetches -/

@[simp] theorem readOut_lasting (x : Issue) (r : FRead) (s : State) : (readOut x r s).lasting = s.lasting :=
  State.lasting_ite (State.hostRead_lasting ..) (State.traffic_lasting ..)

@[simp] theorem tryRead_lasting (i j : Nat) (acc : List Nat × State) : (tryRead i j acc).2.lasting = acc.2.lasting := by
  unfold tryRead
  dsimp only
  split
  · rfl
  split
  · rfl
  split
  · exact State.lasting_ite rfl rfl
  split
  · rfl
  · exact readOut_lasting ..

@[simp] theorem pumpReads_lasting (s : State) : (pumpReads s).lasting = s.lasting := by
  refine foldl_keeps (fun acc : List Nat × State => acc.2.lasting) (fun acc i => ?_) _ ([], s)
  exact foldl_keeps (fun acc : List Nat × State => acc.2.lasting) (fun acc j => tryRead_lasting i j acc) ..

@[simp] theorem budgetReached_lasting (slot n : Nat) (s : State) : (budgetReached slot n s).lasting = s.lasting :=
  State.lasting_then rfl (State.faultOpen_lasting ..)

@[simp] theorem issueEntry_lasting (k v g item entry : Nat) (n : Word) (ahead : Bool) (s : State) :
    (issueEntry k v g item entry n ahead s).lasting = s.lasting := by
  unfold issueEntry
  dsimp only
  split
  · rfl
  split
  · rfl
  refine State.lasting_ite rfl ((pumpReads_lasting _).trans ?_)
  exact State.lasting_then rfl (budgetReached_lasting ..)

@[simp] theorem dropIssue_lasting (i : Nat) (s : State) : (dropIssue i s).lasting = s.lasting := by
  simp only [dropIssue, State.modIssue_lasting, State.modSlot_lasting]
  exact foldl_lasting (fun _ _ => State.lasting_ite (State.count_lasting ..) rfl) ..

@[simp] theorem recompareAt_lasting (g i : Nat) (s : State) : (recompareAt g i s).lasting = s.lasting := by
  refine State.lasting_ite rfl ?_
  split
  · rfl
  refine State.lasting_ite rfl (State.lasting_ite (dropIssue_lasting ..) ?_)
  rw [State.count_lasting, issueEntry_lasting, dropIssue_lasting]

@[simp] theorem recompare_lasting (g : Nat) (s : State) : (recompare g s).lasting = s.lasting :=
  foldl_lasting (fun _ _ => recompareAt_lasting ..) ..

@[simp] theorem loseReads_lasting (p : Nat → FRead → Bool) (s : State) : (loseReads p s).lasting = s.lasting := rfl

/-! ### Arms, shadow sets and releases -/

@[simp] theorem State.armResult_lasting (f g result slot : Nat) (n : Word) (s : State) :
    (s.armResult f g result slot n).lasting = s.lasting := by
  simp only [armResult, pend_lasting, record_lasting, modGroup_lasting]

@[simp] theorem State.useSurfaces_lasting (g : Nat) (t : Truss) (s : State) : (s.useSurfaces g t).lasting = s.lasting := by
  refine foldl_lasting (fun s e => ?_) ..
  have mark : ∀ (h : Nat) (s : State),
      (if h = 0xFFFF then s else s.modSurf h fun x => { x with inUse := true }).lasting = s.lasting := fun _ _ => lasting_ite rfl rfl
  exact lasting_then rfl (lasting_ite ((mark _ _).trans (mark _ _)) (mark _ _))

@[simp] theorem State.arrive_lasting (f g : Nat) (s : State) : (s.arrive f g).2.lasting = s.lasting := by
  unfold arrive
  split
  · rfl
  split
  · exact armResult_lasting ..
  dsimp only
  split
  · exact armResult_lasting ..
  · rw [armResult_lasting]
    exact lasting_then (useSurfaces_lasting ..) rfl

@[simp] theorem armArrives_lasting (f g : Nat) (s : State) : (armArrives f g s).2.lasting = s.lasting := by
  rw [armArrives, recompare_lasting, State.arrive_lasting]

@[simp] theorem discardShadows_lasting (hit : Nat → Bool) (s : State) : (discardShadows hit s).lasting = s.lasting := by
  refine foldl_lasting (fun t g => ?_) ..
  split
  · rfl
  · refine (foldl_lasting (fun t p => ?_) ..).trans ((foldl_lasting (fun t o => ?_) ..).trans (foldl_lasting (fun t e => ?_) ..))
    · exact State.lasting_ite rfl rfl
    · exact State.lasting_then rfl rfl
    · rfl

@[simp] theorem State.intRelease_lasting (f : Nat) (s : State) : (s.intRelease f).lasting = s.lasting := by
  refine foldl_lasting (fun t e => ?_) ..
  rw [modIntTgt_lasting, modGrp_lasting]

end Sys2Proof.Machine
end

section
/-! SUPPORT. The reset of the host port (R42, R57): what it clears, and that the pins stay as they are sensed. -/

namespace Sys2Proof.Machine

/-- R42: what the host port senses: PERST_N, and whether PE_REFCLK is there. -/
def State.portPins (s : State) : Bool × Bool := (s.host.perstLow, s.host.peRefclk)

/-- The pins of the host port are part of what lasts. -/
theorem State.portPins_of_lasting {s t : State} (h : t.lasting = s.lasting) : t.portPins = s.portPins :=
  (congrArg State.portPins h :)

theorem foldl_portPins {α : Type} {f : State → α → State} (h : ∀ s x, (f s x).portPins = s.portPins) (l : List α) (s : State) :
    (l.foldl f s).portPins = s.portPins := foldl_keeps State.portPins h l s

/-! ### Writes that land -/

@[simp] theorem State.memPuts_portPins (bs : List Byte) (a : Nat) (s : State) : (s.memPuts a bs).portPins = s.portPins := by
  induction bs generalizing a s with
  | nil => rfl
  | cons b bs ih =>
    unfold memPuts
    rw [ih]
    split <;> rfl

@[simp] theorem State.memStore_portPins (a : Nat) (bs : List Byte) (s : State) (w : Who) :
    (s.memStore a bs w).portPins = s.portPins := by
  unfold memStore
  split
  · rfl
  rw [memPuts_portPins]
  refine foldl_portPins (fun t m => portPins_of_lasting ?_) ..
  exact lasting_ite rfl (lasting_ite (traffic_lasting ..) rfl)

@[simp] theorem mbxRing_portPins (f n : Nat) (v : Word) (s : State) : (mbxRing f n v s).portPins = s.portPins := by
  unfold mbxRing mbxBell
  dsimp only
  split
  · split
    · rfl
    · split
      · rfl
      · exact (State.portPins_of_lasting (State.pend_lasting ..)).trans rfl
  · rfl

@[simp] theorem landWrites_portPins (f : Nat) (s : State) : (landWrites f s).portPins = s.portPins := by
  unfold landWrites
  dsimp only
  rw [foldl_portPins fun _ _ => mbxRing_portPins .., foldl_portPins fun t g => ?_, foldl_portPins fun _ _ => State.memStore_portPins ..]
  · rfl
  · exact State.portPins_of_lasting (State.lasting_ite (armArrives_lasting ..) rfl)

/-! ### Sessions that end -/

@[simp] theorem closeMbx_portPins (f n : Nat) (s : State) : (closeMbx f n s).portPins = s.portPins := by
  unfold closeMbx
  split <;> rfl

@[simp] theorem closeUdpIf_lasting (p : UdpSess → Bool) (s : State) : (closeUdpIf p s).lasting = s.lasting := by
  refine foldl_lasting (fun t k => ?_) ..
  exact State.lasting_ite rfl rfl

@[simp] theorem closeAllSessions_portPins (s : State) : (closeAllSessions s).portPins = s.portPins := by
  refine (State.portPins_of_lasting (closeUdpIf_lasting ..)).trans ?_
  exact foldl_portPins (fun _ _ => foldl_portPins (fun _ _ => closeMbx_portPins ..) ..) ..

/-! ### The reset -/

@[simp] theorem stirAdmission_host (s : State) : (stirAdmission s).host = s.host := by
  refine foldl_keeps State.host (fun t k => ?_) ..
  rfl

@[simp] theorem stirAdmission_changes (s : State) : (stirAdmission s).truss.changes = s.truss.changes := by
  refine foldl_keeps (fun t : State => t.truss.changes) (fun t k => ?_) ..
  rfl

/-- R42: what a reset of the port ends before it clears the port's state: writes that have landed are carried out, sessions end, what is active is
released, reads are lost and unarmed writes discarded. -/
def portEnded (s : State) : State :=
  let s := allFns.foldl (fun (s : State) f => landWrites f s) s
  let s := allFns.foldl (fun (s : State) f => s.intRelease f) (closeAllSessions s)
  discardShadows (fun _ => true) (loseReads (fun _ r => r.port == 4) s)

@[simp] theorem portEnded_portPins (s : State) : (portEnded s).portPins = s.portPins := by
  have sessions : (closeAllSessions (allFns.foldl (fun (s : State) f => landWrites f s) s)).portPins = s.portPins :=
    (closeAllSessions_portPins _).trans (foldl_portPins (fun _ _ => landWrites_portPins ..) ..)
  refine (State.portPins_of_lasting ?_).trans sessions
  refine (discardShadows_lasting ..).trans ((loseReads_lasting ..).trans ?_)
  exact foldl_lasting (fun _ _ => State.intRelease_lasting ..) ..

theorem portReset_eq (s : State) : portReset s =
    stirAdmission (((portEnded s).modTruss fun t => { t with changes := [] }).modHost fun h =>
      { h with linkUp := false, training := false, rate := 0, width := 0, vfEnable := false, oweFlr := false, owesLatency := 0,
               mbx := [], rings := [], msix := [],
               fns := tabMap (fun _ x => { x with enabled := false, bme := false, stale := false, staleAt := 0, staleDropped := 0,
                                                  oweStale := false }) h.fns }) := rfl

/-- R42: the reset of the port leaves its pins as they are. -/
@[simp] theorem portReset_portPins (s : State) : (portReset s).portPins = s.portPins := by
  rw [← portEnded_portPins s, portReset_eq]
  generalize portEnded s = t
  rw [State.portPins, stirAdmission_host]
  rfl

/-- R42: what holds nothing once the port has been reset. -/
structure PortCleared (s : State) : Prop where
  linkUp : s.host.linkUp = false
  training : s.host.training = false
  vfEnable : s.host.vfEnable = false
  mbx : s.host.mbx = []
  rings : s.host.rings = []
  msix : s.host.msix = []
  changes : s.truss.changes = []
  fns : ∀ f, (s.fn f).bme = false ∧ (s.fn f).stale = false

/-- Only the host port and the change sets count. -/
theorem PortCleared.of_blocks {s t : State} (h : PortCleared s) (hh : t.host = s.host) (ht : t.truss = s.truss) : PortCleared t := by
  obtain ⟨linkUp, training, vfEnable, mbx, rings, msix, changes, fns⟩ := h
  constructor <;> simp only [State.fn, hh, ht] <;> assumption

theorem portReset_cleared (s : State) : PortCleared (portReset s) := by
  rw [portReset_eq]
  generalize portEnded s = t
  constructor
  case changes => rw [stirAdmission_changes]; rfl
  case fns =>
    intro f
    rw [State.fn, stirAdmission_host]
    dsimp only [State.modHost_host]
    refine tabGet_tabMap (P := fun x : FnSt => x.bme = false ∧ x.stale = false) ⟨rfl, rfl⟩ (fun k x => ?_) _ f
    exact ⟨rfl, rfl⟩
  all_goals
    rw [stirAdmission_host]
    rfl

/-- R57: a port out of reset is reset once PERST_N is low or PE_REFCLK is gone. -/
theorem sensePerst_of_held {s : State} (hr : s.host.inReset = false) (hp : s.host.perstLow = true ∨ s.host.peRefclk = false) :
    sensePerst s = (portReset s).modHost fun h => { h with inReset := true } := by
  have held : (!s.host.peRefclk || s.host.perstLow || s.boot.phase == .powerOnReset || s.boot.phase == .pinReset) = true := by
    rcases hp with hp | hp <;> simp [hp]
  simp [sensePerst, held, hr]

/-- R57: a port in reset leaves it and trains when PERST_N is high and PE_REFCLK is there, once firmware runs. -/
theorem sensePerst_of_free {s : State} (hr : s.host.inReset = true) (hb : s.boot.phase = .running) (hc : s.host.peRefclk = true)
    (hp : s.host.perstLow = false) : sensePerst s = s.modHost fun h => { h with inReset := false, training := true } := by
  simp [sensePerst, hr, hb, hc, hp]

/-- R42: what a port that was out of reset holds once it has been put into it, and the command has ended. -/
theorem sensePerst_clears {s t : State} (hr : s.host.inReset = false) (hp : s.host.perstLow = true ∨ s.host.peRefclk = false)
    (ht : t = (sensePerst s).driveErrn) : PortCleared t ∧ t.host.inReset = true ∧ t.portPins = s.portPins := by
  have cleared := portReset_cleared s
  have pins := portReset_portPins s
  rw [sensePerst_of_held hr hp] at ht
  generalize portReset s = u at cleared pins ht
  have hh : t.host = { u.host with inReset := true } := by simp [ht]
  obtain ⟨linkUp, training, vfEnable, mbx, rings, msix, changes, fns⟩ := cleared
  have held : PortCleared (u.modHost fun h => { h with inReset := true }) := ⟨linkUp, training, vfEnable, mbx, rings, msix, changes, fns⟩
  refine ⟨held.of_blocks hh (by simp [ht]), by rw [hh], ?_⟩
  rw [← pins, State.portPins, hh]
  rfl

end Sys2Proof.Machine
end

section
/-! SUPPORT. The background initialisation of CXL memory (R46, R118): what it moves, and where its completion leaves each port. -/

namespace Sys2Proof.Machine

/-- The state with everything erased that the background initialisation may move: the ports, the counters and the free values. -/
def State.sansInit (s : State) : State := { s with mem := { s.mem with ports := [] }, pmu := {}, free := 0 }

/-- What tells how far a port is to be initialised: its state and its mapped capacity. -/
def State.portExtent (s : State) (m : Nat) : PortState × Nat := ((s.port m).state, (s.port m).gib)

@[simp] theorem State.countN_sansInit (e n : Nat) (s : State) : (s.countN e n).sansInit = s.sansInit := rfl

@[simp] theorem State.modPort_sansInit (m : Nat) (f : CxlPort → CxlPort) (s : State) : (s.modPort m f).sansInit = s.sansInit := rfl

@[simp] theorem State.countInit_sansInit (m lo hi : Nat) (s : State) : (s.countInit m lo hi).sansInit = s.sansInit := by
  simp only [countInit, countN_sansInit]

@[simp] theorem State.countInit_port (m lo hi : Nat) (s : State) (j : Nat) : (s.countInit m lo hi).port j = s.port j := by
  simp only [countInit, port, countN_frame]

@[simp] theorem State.draw_port (s : State) (m : Nat) : s.draw.2.port m = s.port m := rfl

/-- What a port's change makes of the port is all that counts of it. -/
theorem State.modPort_congr {m : Nat} {f g : CxlPort → CxlPort} {s : State} (h : f (s.port m) = g (s.port m)) :
    s.modPort m f = s.modPort m g := by
  rw [port] at h
  rw [modPort, modPort, tabMod, tabMod, h]

/-- R46: the boundary of one port moves, and what that initialises is counted. -/
def moveBoundary (m b : Nat) (s : State) : State := (s.countInit m (s.port m).boundary b).modPort m fun p => { p with boundary := b }

theorem moveBoundary_add (m n : Nat) (s : State) :
    (s.countInit m (s.port m).boundary ((s.port m).boundary + n)).modPort m (fun p => { p with boundary := p.boundary + n }) =
      moveBoundary m ((s.port m).boundary + n) s := by
  refine State.modPort_congr ?_
  rw [State.countInit_port]

@[simp] theorem moveBoundary_sansInit (m b : Nat) (s : State) : (moveBoundary m b s).sansInit = s.sansInit := by
  rw [moveBoundary, State.modPort_sansInit, State.countInit_sansInit]

@[simp] theorem moveBoundary_port (m b j : Nat) (s : State) :
    (moveBoundary m b s).port j = if j = m then { s.port m with boundary := b } else s.port j := by
  rw [moveBoundary, State.modPort_port, State.countInit_port, State.countInit_port]

@[simp] theorem moveBoundary_portExtent (m b j : Nat) (s : State) : (moveBoundary m b s).portExtent j = s.portExtent j := by
  simp only [State.portExtent, moveBoundary_port]
  split
  · next h => rw [h]
  · rfl

/-! ### Going on up to now -/

/-- One port's part of what passed moves no boundary, or its own. -/
theorem bgPort_eq (m : Nat) (x : Nat × State) : (bgPort m x).2 = x.2 ∨ ∃ b, (bgPort m x).2 = moveBoundary m b x.2.draw.2 := by
  unfold bgPort
  dsimp only
  split
  · exact .inl rfl
  · have move := fun n => moveBoundary_add m n x.2.draw.2
    simp only [State.draw_port] at move
    exact .inr ⟨_, move _⟩

theorem bgPort_sansInit (m : Nat) (x : Nat × State) : (bgPort m x).2.sansInit = x.2.sansInit := by
  obtain h | ⟨b, h⟩ := bgPort_eq m x <;> rw [h]
  exact moveBoundary_sansInit ..

theorem bgPort_portExtent (m j : Nat) (x : Nat × State) : (bgPort m x).2.portExtent j = x.2.portExtent j := by
  obtain h | ⟨b, h⟩ := bgPort_eq m x <;> rw [h]
  exact moveBoundary_portExtent ..

/-- The initialisation, brought up to now, stands at now; nothing else moves but boundaries. -/
theorem State.bgAdvance_sansInit {s : State} (h : s.boot.phase = .running) :
    s.bgAdvance.sansInit = { s.sansInit with boot := { s.boot with initAt := s.now } } := by
  have ports := foldl_keeps (fun x : Nat × State => x.2.sansInit) (fun x m => bgPort_sansInit m x) (List.range 4)
    (40 * (s.now - s.boot.initAt), s)
  unfold bgAdvance
  rw [if_neg (not_not_intro h)]
  dsimp only at ports ⊢
  generalize (List.foldl (fun x m => bgPort m x) (40 * (s.now - s.boot.initAt), s) (List.range 4)).2 = t at ports ⊢
  have boot : t.boot = s.boot := (congrArg State.boot ports :)
  split
  · next hi => rw [ports, ← hi, boot]; rfl
  · rw [← ports, ← boot]; rfl

theorem State.bgAdvance_portExtent (s : State) (m : Nat) : s.bgAdvance.portExtent m = s.portExtent m := by
  unfold bgAdvance
  split
  · rfl
  · have ports := foldl_keeps (fun x : Nat × State => x.2.portExtent m) (fun x j => bgPort_portExtent j m x) (List.range 4)
           (40 * (s.now - s.boot.initAt), s)
    dsimp only at ports ⊢
    generalize (List.foldl (fun x m => bgPort m x) (40 * (s.now - s.boot.initAt), s) (List.range 4)).2 = t at ports ⊢
    split
    · exact ports
    · exact ports

/-! ### Its completion -/

/-- R46: the completion takes a port that is up to its mapped capacity. -/
def finishPort (s : State) (m : Nat) : State :=
  let p := s.port m
  if p.state ≠ .up then s
  else (s.countInit m p.boundary (p.gib * gib)).modPort m fun p => { p with boundary := p.gib * gib }

theorem finishPort_of_up {s : State} {m : Nat} (h : (s.port m).state = .up) :
    finishPort s m = moveBoundary m ((s.port m).gib * gib) s := by
  unfold finishPort
  rw [if_neg (not_not_intro h), moveBoundary]
  refine State.modPort_congr ?_
  rw [State.countInit_port]

theorem finishPort_of_not_up {s : State} {m : Nat} (h : (s.port m).state ≠ .up) : finishPort s m = s := if_pos h

theorem finishPort_sansInit (s : State) (m : Nat) : (finishPort s m).sansInit = s.sansInit := by
  by_cases h : (s.port m).state = .up
  · rw [finishPort_of_up h, moveBoundary_sansInit]
  · rw [finishPort_of_not_up h]

theorem finishPort_portExtent (s : State) (m j : Nat) : (finishPort s m).portExtent j = s.portExtent j := by
  by_cases h : (s.port m).state = .up
  · rw [finishPort_of_up h, moveBoundary_portExtent]
  · rw [finishPort_of_not_up h]

/-- A port that is up has been initialised as far as it is mapped. -/
def State.portFinished (m : Nat) (s : State) : Prop := (s.port m).state = .up → (s.port m).boundary = (s.port m).gib * gib

theorem finishPort_finished (s : State) (m : Nat) : (finishPort s m).portFinished m := by
  by_cases h : (s.port m).state = .up
  · intro _
    rw [finishPort_of_up h, moveBoundary_port, if_pos rfl]
  · rw [finishPort_of_not_up h]
    exact fun hu => absurd hu h

theorem finishPort_keeps_finished (s : State) (m j : Nat) (h : s.portFinished m) : (finishPort s j).portFinished m := by
  by_cases hj : m = j
  · exact hj ▸ finishPort_finished s m
  by_cases hu : (s.port j).state = .up
  · rw [finishPort_of_up hu, State.portFinished, moveBoundary_port, if_neg hj]
    exact h
  · rw [finishPort_of_not_up hu]
    exact h

/-- R46: the whole completion: the initialisation goes on to now, then to the end of every port that is up. -/
def finishInit (s : State) : State := (List.range 4).foldl finishPort s.bgAdvance

theorem execMemInitDone_running {s : State} (hb : s.boot.phase = .running) (hd : s.boot.memInitDone = false) :
    execMemInitDone s = done ((finishInit s).modBoot fun b => { b with memInitDone := true }) := by
  unfold execMemInitDone
  rw [if_neg (by simp [hb, hd])]
  rfl

/-- The completion moves ports, counters and free values, and stands at now. -/
theorem finishInit_sansInit {s : State} (hb : s.boot.phase = .running) :
    (finishInit s).sansInit = { s.sansInit with boot := { s.boot with initAt := s.now } } :=
  (foldl_keeps State.sansInit finishPort_sansInit ..).trans (State.bgAdvance_sansInit hb)

theorem finishInit_portExtent (s : State) (m : Nat) : (finishInit s).portExtent m = s.portExtent m :=
  (foldl_keeps (State.portExtent · m) (finishPort_portExtent · · m) ..).trans (s.bgAdvance_portExtent m)

/-- A port that was up has its boundary at the mapped capacity that it had. -/
theorem finishInit_boundary {s : State} {m : Nat} (hm : m < 4) (hu : (s.port m).state = .up) :
    ((finishInit s).port m).boundary = (s.port m).gib * gib := by
  have finished : (finishInit s).portFinished m :=
    foldl_makes (List.mem_range.mpr hm) (finishPort_finished · m) (finishPort_keeps_finished · m ·) _
  obtain ⟨state, size⟩ := Prod.mk.inj (finishInit_portExtent s m)
  rw [finished (state.trans hu), size]

end Sys2Proof.Machine
end

section
/-! SUPPORT. UDP sessions that end, and what the maintenance commands answer (R158–R164). -/

namespace Sys2Proof.Machine

/-- The state with the UDP sessions erased. -/
def State.sansUdp (s : State) : State := s.modHost fun h => { h with udp := [] }

/-- Ending UDP sessions touches them alone. -/
theorem closeUdpIf_sansUdp (p : UdpSess → Bool) (s : State) : (closeUdpIf p s).sansUdp = s.sansUdp := by
  refine foldl_keeps State.sansUdp (fun t k => ?_) ..
  split <;> rfl

theorem closeUdpIf_frame (p : UdpSess → Bool) (s : State) :
    (closeUdpIf p s).host.mbx = s.host.mbx ∧ (closeUdpIf p s).netMgmt = s.netMgmt ∧ (closeUdpIf p s).netKeys = s.netKeys ∧
    (closeUdpIf p s).mem = s.mem ∧ (closeUdpIf p s).seq = s.seq := by
  have h := closeUdpIf_sansUdp p s
  generalize closeUdpIf p s = t at h ⊢
  exact ⟨(congrArg (·.host.mbx) h :), (congrArg State.netMgmt h :), (congrArg State.netKeys h :), (congrArg State.mem h :),
    (congrArg State.seq h :)⟩

theorem closeUdp_udp (k j : Nat) (s : State) : (closeUdp k s).udp j = if j = k then {} else s.udp j := by
  rw [State.udp, closeUdp, State.modHost_host, tabGet_set]
  rfl

/-- A UDP session in use is none that `p` names. -/
def UdpSess.spared (p : UdpSess → Bool) (u : UdpSess) : Prop := u.inUse = true → p u = false

/-- No UDP session that `p` names is left in use. -/
theorem closeUdpIf_spared (p : UdpSess → Bool) (s : State) {k : Nat} (hk : k < 8) : ((closeUdpIf p s).udp k).spared p := by
  have ends : ∀ t : State, ((if (t.udp k).inUse && p (t.udp k) then closeUdp k t else t).udp k).spared p := by
    intro t
    split
    · rw [closeUdp_udp, if_pos rfl]
      exact fun hu => Bool.noConfusion hu
    · next h => exact fun hu => Bool.eq_false_iff.mpr fun hp => h (by rw [hu, hp]; rfl)
  refine foldl_makes (P := fun t : State => (t.udp k).spared p) (List.mem_range.mpr hk) ends (fun t j h => ?_) s
  by_cases hj : k = j
  · exact hj ▸ ends t
  · split
    · rw [closeUdp_udp, if_neg hj]
      exact h
    · exact h

/-- A command's session is a matter of the mailboxes and the UDP sessions alone; of one that came by a mailbox, of the mailboxes. -/
theorem kcpSession_congr {c : KcpCtx} {s t : State} (hm : t.host.mbx = s.host.mbx) (hu : overUdp c = false ∨ t.host.udp = s.host.udp) :
    t.kcpSession c = s.kcpSession c := by
  unfold State.kcpSession
  split
  · rw [State.mbx, hm]; rfl
  · next k hv =>
    obtain hu | hu := hu
    · simp [overUdp, KcpCtx.net, hv] at hu
    · rw [State.udp, hu]; rfl

/-- A command that leaves the sessions of its path as they are and answers OK ends in `kcpOk`. -/
theorem kcp_ok_of_sessions {id : Nat} {c : KcpCtx} {body : Nat → State → Reply} {s t : State} {bs : List Byte} (h : kcpReady id 0 c s = true)
    (hid : id ≠ 0) (hb : body (s.kcpFn c) s = replyOk t bs) (hm : t.host.mbx = s.host.mbx)
    (hu : overUdp c = false ∨ t.host.udp = s.host.udp) : kcp id c body s = .next (kcpOk id c s t bs) :=
  kcp_ok h hid hb (by rw [kcpSession_congr hm hu]; exact kcpReady_session h)

/-- R159: an item that exists has a length. -/
theorem cfgLen_isSome : ∀ item ≤ 4, (cfgLen item).isSome = true := by decide

/-- R158: what MNT_CFG_GET answers fills 36 bytes. -/
theorem cfgItem_length (item n v w : Nat) (b : Byte) :
    (leBytes 2 item ++ [BitVec.ofNat 8 n, b] ++ leBytes 16 v ++ leBytes 16 w).length = 36 := by
  simp [leBytes]

/-- R162: MNT_SET_NETMGMT with enable 0, its parameters in range, stores them and ends every UDP session. -/
theorem execMntSetNetmgmt_off {c : KcpCtx} {s : State} {ports pcp prefixLen : Byte} {port vlan : Half} (address : BitVec 128)
    (h : kcpReady 0x0B04 0 c s = true) (hc : overUdp c = false) (hports : ports.toNat ≤ 15) (hvlan : vlan.toNat ≤ 4094)
    (hpcp : pcp.toNat ≤ 7) (hprefix : prefixLen.toNat ≤ 32) (hport : port ≠ 0) :
    ∃ t, execMntSetNetmgmt c 0 ports 4 port vlan pcp prefixLen address s = .next (kcpOk 0x0B04 c s t []) ∧
      t.netMgmt = { enable := false, ports := ports, ipVersion := 4, port := port, vlan := vlan, pcp := pcp, prefixLen := prefixLen,
                    address := address } ∧ (∀ k < 8, (t.udp k).inUse = false) ∧ t.mem = s.mem ∧ t.seq = s.seq := by
  obtain ⟨mbx, mgmt, -, mem, seq⟩ := closeUdpIf_frame (fun _ => true) { s with netMgmt :=
    { enable := false, ports := ports, ipVersion := 4, port := port, vlan := vlan, pcp := pcp, prefixLen := prefixLen, address := address } }
  refine ⟨_, kcp_ok_of_sessions h (by decide) ?_ mbx (.inl hc), mgmt, fun k hk => ?_, mem, seq⟩
  · refine (if_neg (by decide)).trans ((if_neg (Nat.not_lt.mpr hports)).trans ((if_neg (by decide)).trans
      ((if_neg (Nat.not_lt.mpr hvlan)).trans ((if_neg (Nat.not_lt.mpr hpcp)).trans ((if_neg (Nat.not_lt.mpr hprefix)).trans ?_)))))
    rw [if_neg hport]
    exact if_pos rfl
  · exact Bool.eq_false_iff.mpr fun hu => absurd (closeUdpIf_spared _ _ hk hu) (by simp)

/-- R164: what a key slot holds once MNT_NETKEY for role 0 has installed a key (operation 0) or erased it (operation 1). -/
def netKeyOf (op : Byte) (key : List Byte) : NetKey := if op = 0 then { present := true, role := 0, key := fitBytes 32 key } else {}

/-- R164: MNT_NETKEY by a mailbox for role 0 writes its slot, and ends the UDP sessions that use it. -/
theorem execMntNetkey_mailbox {c : KcpCtx} {s : State} {slot op : Byte} (key : List Byte) (h : kcpReady 0x0B05 0 c s = true)
    (hc : overUdp c = false) (hslot : slot.toNat ≤ 7) (hop : op.toNat ≤ 1) :
    ∃ t, execMntNetkey c slot op 0 key s = .next (kcpOk 0x0B05 c s t []) ∧
      (∀ k, tabGet t.netKeys k = if k = slot.toNat then netKeyOf op key else tabGet s.netKeys k) ∧
      ∀ k < 8, (t.udp k).inUse = true → (t.udp k).keySlot ≠ slot.toNat := by
  obtain ⟨mbx, -, keys, -, -⟩ := closeUdpIf_frame (fun u => u.keySlot == slot.toNat)
    { s with netKeys := tabSet s.netKeys slot.toNat (netKeyOf op key) }
  refine ⟨_, kcp_ok_of_sessions h (by decide) ?_ mbx (.inl hc), fun k => ?_, fun k hk hu => ?_⟩
  · exact (if_neg (by simp [hc])).trans ((if_neg (Nat.not_lt.mpr hslot)).trans ((if_neg (Nat.not_lt.mpr hop)).trans (if_neg (by simp))))
  · rw [keys]
    exact tabGet_set
  · exact beq_eq_false_iff_ne.mp (closeUdpIf_spared (fun u => u.keySlot == slot.toNat) _ hk hu)

end Sys2Proof.Machine
end

section
/-! SUPPORT. The statements of the family of power, reset and start, settled. -/

open Sys2Proof Sys2Proof.Machine

/-- Settles O22: the port senses its pins, and a reset of it keeps them and clears the rest. -/
theorem hostPortResets : Obligations.HostPortResets := by
  refine ⟨fun s hr => ?_, fun s hr => ?_, fun s hr hb => ⟨fun hc => ?_, fun hp => ?_⟩⟩
  · obtain ⟨h, inReset, pins⟩ := sensePerst_clears (s := s.modHost fun h => { h with perstLow := true }) hr (.inl rfl) rfl
    exact ⟨_, rfl, inReset, congrArg Prod.fst pins, h.linkUp, h.training, h.vfEnable, h.mbx, h.rings, h.msix, h.changes, fun f _ => h.fns f⟩
  · obtain ⟨h, inReset, pins⟩ := sensePerst_clears (s := s.modHost fun h => { h with peRefclk := false }) hr (.inr rfl) rfl
    exact ⟨_, rfl, congrArg Prod.snd pins, inReset, h.linkUp, h.training, h.vfEnable, h.mbx, h.rings, h.msix, h.changes, fun f _ => h.fns f⟩
  · rw [exec_perstNDeassert, execPerstNDeassert, sensePerst_of_free (s := s.modHost fun h => { h with perstLow := false }) hr hb hc rfl]
    rfl
  · rw [exec_peRefclkReturn, execPeRefclkReturn, sensePerst_of_free (s := s.modHost fun h => { h with peRefclk := true }) hr hb rfl hp]
    rfl

/-- Settles O1: each start's condition picks its branch. -/
theorem startsRunTheirSteps : Obligations.StartsRunTheirSteps := by
  intro i s
  refine ⟨fun hb hn => ?_, fun hb hn => ?_, fun hb => ?_, fun hb hc => ?_, fun hk hf => ?_, fun hw => ?_⟩
  · rw [exec_powerOnReset, execPowerOnReset, if_pos hb]
    exact if_pos hn
  · rw [exec_powerOnReset, execPowerOnReset, if_pos hb]
    exact if_neg (by simp [hn])
  · rw [exec_refclkWaitRetry]
    exact if_neg (not_not_intro hb)
  · rw [exec_resetNRelease]
    exact (if_neg (not_not_intro hb)).trans (if_neg (by simp [hc]))
  · rw [exec_kcpResetBegin]
    exact if_neg (by simp [hk, hf])
  · rw [exec_bootWatchdogExpiry]
    exact if_neg hw

/-- Settles O4: a pulse of 10 µs or more passes both length checks, and the safe state takes its branch. -/
theorem safeStateIgnoresResetN : Obligations.SafeStateIgnoresResetN := by
  intro low s hl hs hp hq
  have long : ¬ low < 10000 := Nat.not_lt.mpr hl
  rw [exec_resetNAssert, execResetNAssert, if_neg (by omega)]
  simp only [long, false_and, if_false, hp, hq, or_self, hs, if_true]
  rfl

/-- Settles O5: what completes the initialisation finishes every port that is up, and moves the ports and counters alone. -/
theorem backgroundInitialisationCompletes : Obligations.BackgroundInitialisationCompletes := by
  intro s hb hd
  have rest := finishInit_sansInit hb
  have capacity := fun m (hm : m < 4) hu => finishInit_boundary (s := s) hm hu
  rw [exec_memInitDone, execMemInitDone_running hb hd]
  generalize finishInit s = t at rest capacity
  have boot : t.boot = { s.boot with initAt := s.now } := (congrArg State.boot rest :)
  refine ⟨_, rfl, ?_⟩
  simp only [State.port, State.driveErrn_frame, State.modBoot_boot, State.modBoot_mem, State.modBoot_truss, State.modBoot_seq,
    State.modBoot_clk, State.modBoot_flt, State.modBoot_host, State.modBoot_heads, State.modBoot_intc, boot, true_and]
  exact ⟨capacity, (congrArg (·.mem.bytes) rest :), (congrArg (·.mem.poison) rest :), (congrArg State.truss rest :),
    (congrArg State.seq rest :), (congrArg State.clk rest :), (congrArg State.flt rest :), (congrArg State.host rest :),
    (congrArg State.heads rest :), (congrArg State.intc rest :)⟩

/-- Settles O33: each command passes its own checks, and its session outlives it. -/
theorem maintenanceCommandsAnswer : Obligations.MaintenanceCommandsAnswer := by
  intro c s
  refine ⟨fun h => ⟨?_, fun confirm hc => ?_⟩, fun h => ?_, fun item h hi => ?_, fun value refKhz h hc => ?_,
    fun ports pcp prefixLen port vlan address h hc hports hvlan hpcp hprefix hport => ?_,
    fun slot role key h hslot => ⟨fun hc hrole => ⟨?_, ?_⟩, fun hc => ?_⟩⟩
  · rw [exec_mntReset, execMntReset]
    exact kcp_ok_of_sessions h (by decide) rfl rfl (.inr rfl)
  · rw [exec_mntReset, execMntReset]
    exact kcp_no h (by decide) (if_pos hc)
  · rw [exec_mntInfo, execMntInfo]
    exact kcp_ok_of_sessions h (by decide) rfl rfl (.inr rfl)
  · obtain ⟨n, hn⟩ := Option.isSome_iff_exists.mp (cfgLen_isSome _ hi)
    rw [exec_mntCfgGet, execMntCfgGet]
    exact ⟨_, cfgItem_length item.toNat n _ _ 0, kcp_ok_of_sessions h (by decide) (by rw [hn]) rfl (.inr rfl)⟩
  · rw [exec_mntCfgSet, execMntCfgSet]
    exact kcpRun_ok (extra := 4) h (by decide) ((if_neg (by simp [hc])).trans rfl) (kcpReady_session h)
  · rw [exec_mntSetNetmgmt]
    exact execMntSetNetmgmt_off address h hc hports hvlan hpcp hprefix hport
  · subst hrole
    obtain ⟨t, ht, keys, ended⟩ := execMntNetkey_mailbox (op := 0) key h hc hslot (by decide)
    refine ⟨t, ht, ?_, ?_, fun k _ hk => ?_, ended⟩ <;> rw [keys]
    · rw [if_pos rfl]; rfl
    · rw [if_pos rfl]; rfl
    · rw [if_neg hk]
  · subst hrole
    obtain ⟨t, ht, keys, -⟩ := execMntNetkey_mailbox (op := 1) key h hc hslot (by decide)
    refine ⟨t, ht, ?_⟩
    rw [keys, if_pos rfl]
    rfl
  · rw [exec_mntNetkey, execMntNetkey]
    exact kcp_no h (by decide) (if_pos hc)

end

section
/-! SUPPORT. The course of a state: what a step may move only onward. The queue of commands stays as it is while a command is carried out, the
bytes of CXL memory keep their canonical form (R96), and the always-on count does not run back (R440). Each operation of the model that leaves the
course as it is has a lemma `<operation>_course`; each that writes memory or lets time pass has `<operation>_onward`; and each meaning of a command
has `exec<Command>_leadsOn`. Where the course stays by definition the proof is `(rfl)`: as a bare `rfl` it would have `simp` unfold the operation's
arguments to check it. -/

namespace Sys2Proof.Machine

/-- What the claim about every step speaks of: the queue (log 1), the bytes of CXL memory (R96) and the always-on count (R440). -/
structure Course where
  /-- Commands waiting (log 1). -/
  queue : List Instr
  /-- R96: the bytes of CXL memory. -/
  bytes : Tab Byte
  /-- R440: the always-on count. -/
  aon : Nat

/-- The course of a state. -/
def State.course (s : State) : Course := ⟨s.pending, s.mem.bytes, s.clk.aon⟩

/-- From `k` on to `l`: the same queue, canonical bytes still canonical, and no time taken back. -/
structure Course.Onward (k l : Course) : Prop where
  queue : l.queue = k.queue
  bytes : tabWf (0 : Byte) k.bytes = true → tabWf (0 : Byte) l.bytes = true
  aon : k.aon ≤ l.aon

/-- Wherever the outcome of a command is a next state, it lies onward from `k`. -/
def LeadsOn (k : Course) (o : Host.Outcome State Fault Refusal) : Prop := ∀ t, o = .next t → k.Onward t.course

section
variable {κ : Course} {s : State}

/-! ### The rules -/

theorem Course.Onward.refl (k : Course) : k.Onward k := ⟨rfl, id, Nat.le_refl _⟩

theorem Course.Onward.trans {k l m : Course} (h : k.Onward l) (h' : l.Onward m) : k.Onward m :=
  ⟨h'.queue.trans h.queue, h'.bytes ∘ h.bytes, Nat.le_trans h.aon h'.aon⟩

theorem Course.Onward.of_eq {t : State} (h : κ.Onward s.course) (e : t.course = s.course) : κ.Onward t.course := e ▸ h

theorem LeadsOn.of_eq {t : State} {o : Host.Outcome State Fault Refusal} (h : LeadsOn t.course o) (e : t.course = s.course) :
    LeadsOn s.course o := e ▸ h

/-! Branches: what both sides of a condition do, it does. -/

theorem course_ite {c : Prop} {_ : Decidable c} {a b : State} : (if c then a else b).course = if c then a.course else b.course := apply_ite ..

theorem st_ite {c : Prop} {_ : Decidable c} {a b : Reply} : (if c then a else b).st = if c then a.st else b.st := apply_ite ..

theorem snd_ite {α β : Type} {c : Prop} {_ : Decidable c} {a b : α × β} : (if c then a else b).2 = if c then a.2 else b.2 := apply_ite ..

theorem onward_ite {c : Prop} {_ : Decidable c} {a b : Course} :
    κ.Onward (if c then a else b) ↔ if c then κ.Onward a else κ.Onward b := iff_of_eq (apply_ite ..)

theorem onward_reply {c : Prop} {_ : Decidable c} {a b : Reply} (ha : κ.Onward a.st.course) (hb : κ.Onward b.st.course) :
    κ.Onward (if c then a else b).st.course := by
  split
  · exact ha
  · exact hb

theorem Course.Onward.ite {c : Prop} {_ : Decidable c} {a b : State} (ha : κ.Onward a.course) (hb : κ.Onward b.course) :
    κ.Onward (if c then a else b).course := by
  split
  · exact ha
  · exact hb

theorem LeadsOn.ite {c : Prop} {_ : Decidable c} {a b : Host.Outcome State Fault Refusal} (ha : LeadsOn κ a) (hb : LeadsOn κ b) :
    LeadsOn κ (if c then a else b) := by
  split
  · exact ha
  · exact hb

theorem leadsOn_ite {c : Prop} {_ : Decidable c} {a b : Host.Outcome State Fault Refusal} :
    LeadsOn κ (if c then a else b) ↔ if c then LeadsOn κ a else LeadsOn κ b := iff_of_eq (apply_ite ..)

/-- What a match on a pair binds is the pair's own second half. -/
theorem snd_of_eq {α β : Type} {p : α × β} {a : α} {b : β} (h : p = (a, b)) : b = p.2 := by rw [h]

/-! A state written out, and a change of CXL memory alone. -/

theorem course_mk (a b c d) (e : ClkSt) (f g) (h : MemSt) (i j k l m n o p q r s t u v w x y z a' b' c' d') :
    (State.mk a b c d e f g h i j k l m n o p q r s t u v w x y z a' b' c' d').course = ⟨a, h.bytes, e.aon⟩ := rfl

theorem course_eta (s : State) : Course.mk s.pending s.mem.bytes s.clk.aon = s.course := rfl

theorem onward_mem {m : MemSt} (on : κ.Onward s.course) (h : tabWf (0 : Byte) s.mem.bytes = true → tabWf (0 : Byte) m.bytes = true) :
    κ.Onward ({ s with mem := m } : State).course := on.trans ⟨rfl, h, Nat.le_refl _⟩

/-! Folds: what every step of a fold does, the fold does. -/

theorem foldl_course {α : Type} {f : State → α → State} {l : List α} (h : ∀ s x, (f s x).course = s.course) :
    (l.foldl f s).course = s.course := foldl_keeps State.course h l s

theorem foldl_snd_course {α β : Type} {f : β × State → α → β × State} {l : List α} {s : β × State}
    (h : ∀ s x, (f s x).2.course = s.2.course) : (l.foldl f s).2.course = s.2.course := foldl_keeps (fun s => s.2.course) h l s

theorem foldl_onward {α : Type} {f : State → α → State} {l : List α} (h : ∀ (s : State) x, s.course.Onward (f s x).course)
    (on : κ.Onward s.course) : κ.Onward (l.foldl f s).course :=
  List.foldlRecOn (motive := fun t => κ.Onward t.course) l f on fun _ ht x _ => ht.trans (h _ x)

theorem foldl_snd_onward {α β : Type} {f : β × State → α → β × State} {l : List α} {s : β × State}
    (h : ∀ (s : β × State) x, s.2.course.Onward (f s x).2.course) (on : κ.Onward s.2.course) : κ.Onward (l.foldl f s).2.course :=
  List.foldlRecOn (motive := fun t => κ.Onward t.2.course) l f on fun _ ht x _ => ht.trans (h _ x)

/-! ### Time, free values, single bytes, and the end of a command -/

theorem modClk_course {f : ClkSt → ClkSt} (h : (f s.clk).aon = s.clk.aon) : (s.modClk f).course = s.course := by
  simp only [State.course, State.modClk, h]

theorem State.elapse_onward {ns : Nat} (on : κ.Onward s.course) : κ.Onward (s.elapse ns).course :=
  on.trans ⟨rfl, id, Nat.le_add_right _ _⟩

theorem State.untilPlan_onward {t : Nat} (on : κ.Onward s.course) : κ.Onward (s.untilPlan t).course := by
  refine on.trans ⟨(State.untilPlan_frame t s).1, fun h => ?_, State.untilPlan_aon_le t s⟩
  rw [State.untilPlan_eq]
  exact h

theorem State.draw_course : s.draw.2.course = s.course := (rfl)

theorem State.drawHandle_course : s.drawHandle.2.course = s.course := (rfl)

theorem State.memPut_onward {a : Nat} {v : Byte} (on : κ.Onward s.course) : κ.Onward (s.memPut a v).course :=
  on.trans ⟨rfl, fun h => State.memPut_canonical h, Nat.le_refl _⟩

theorem State.memPuts_onward {a : Nat} {bs : List Byte} (on : κ.Onward s.course) : κ.Onward (s.memPuts a bs).course := by
  induction bs generalizing a s with
  | nil => exact on
  | cons v bs ih =>
    refine ih ?_
    split
    · exact State.memPut_onward on
    · exact on

theorem State.memForget_onward {m : Nat} (on : κ.Onward s.course) : κ.Onward (s.memForget m).course :=
  on.trans ⟨rfl, fun h => State.memForget_canonical h, Nat.le_refl _⟩

theorem driveErrn_course : s.driveErrn.course = s.course := by
  unfold State.driveErrn
  split <;> rfl

theorem leadsOn_done : LeadsOn κ (done s) ↔ κ.Onward s.course := by
  constructor
  · intro h
    rw [← driveErrn_course]
    exact h _ rfl
  · rintro h _ ⟨⟩
    rwa [driveErrn_course]

theorem badParam_st {o : Nat} : (badParam o s).st = s := rfl

end

section
variable {κ : Course} {s : State}

/-! ### The named operations that every family uses -/

theorem State.modHost_course {f : HostSt → HostSt} : (s.modHost f).course = s.course := (rfl)

theorem State.modBoot_course {f : BootSt → BootSt} : (s.modBoot f).course = s.course := (rfl)

theorem State.modBootMram_course {f : BootMram → BootMram} : (s.modBootMram f).course = s.course := (rfl)

theorem State.modPins_course {f : PinSt → PinSt} : (s.modPins f).course = s.course := (rfl)

theorem State.modIntc_course {f : IntcSt → IntcSt} : (s.modIntc f).course = s.course := (rfl)

theorem State.modFlt_course {f : FltSt → FltSt} : (s.modFlt f).course = s.course := (rfl)

theorem State.modFltMram_course {f : FltMram → FltMram} : (s.modFltMram f).course = s.course := (rfl)

theorem State.modPace_course {f : PaceSt → PaceSt} : (s.modPace f).course = s.course := (rfl)

theorem State.modSvc_course {f : SvcSt → SvcSt} : (s.modSvc f).course = s.course := (rfl)

theorem State.modSvcMram_course {f : SvcMram → SvcMram} : (s.modSvcMram f).course = s.course := (rfl)

theorem State.modSec_course {f : SecSt → SecSt} : (s.modSec f).course = s.course := (rfl)

theorem State.modSecMram_course {f : SecMram → SecMram} : (s.modSecMram f).course = s.course := (rfl)

theorem State.modPmu_course {f : PmuSt → PmuSt} : (s.modPmu f).course = s.course := (rfl)

theorem State.modFn_course {k : Nat} {f : FnSt → FnSt} : (s.modFn k f).course = s.course := (rfl)

theorem State.setRing_course {f n : Nat} {r : EvtRing} : (s.setRing f n r).course = s.course := (rfl)

theorem State.modRing_course {f n : Nat} {g : EvtRing → EvtRing} : (s.modRing f n g).course = s.course := (rfl)

theorem State.modMbx_course {f n : Nat} {g : Mbx → Mbx} : (s.modMbx f n g).course = s.course := (rfl)

theorem State.modPll_course {k : Nat} {g : Pll → Pll} : (s.modPll k g).course = s.course := (rfl)

theorem State.modIntSrc_course {k : Nat} {g : IntSrc → IntSrc} : (s.modIntSrc k g).course = s.course := (rfl)

theorem State.modIntTgt_course {k : Nat} {g : IntTgt → IntTgt} : (s.modIntTgt k g).course = s.course := (rfl)

theorem State.modFltSrc_course {k : Nat} {g : FltSrc → FltSrc} : (s.modFltSrc k g).course = s.course := (rfl)

theorem State.emit_course {o : Out} : (s.emit o).course = s.course := (rfl)

theorem State.countN_course {e n : Nat} : (s.countN e n).course = s.course := (rfl)

theorem State.count_course {e : Nat} : (s.count e).course = s.course := (rfl)

theorem State.countUnits_course {e unit n : Nat} : (s.countUnits e unit n).course = s.course := (rfl)

theorem State.bar0_course : s.bar0.course = s.course := (rfl)

theorem State.bwAdd_course {n cls bytes : Nat} : (s.bwAdd n cls bytes).course = s.course := by
  simp only [State.bwAdd, State.modPmu_course, course_ite, ite_self]

theorem State.traffic_course {path : Nat} {write : Bool} {w : Who} {units : List Nat} :
    (s.traffic path write w units).course = s.course := by
  simp only [State.traffic, State.modPmu_course, State.bwAdd_course, course_ite, ite_self]

theorem State.hostRead_course {a n : Nat} {noSnoop : Bool} {w : Who} : (s.hostRead a n noSnoop w).course = s.course := by
  unfold State.hostRead
  dsimp only
  rw [State.traffic_course, State.countN_course, State.countN_course]
  refine foldl_course fun s x => ?_
  simp only [State.emit_course]

theorem State.hostWrite_course {a : Nat} {bs : List Byte} {w : Who} : (s.hostWrite a bs w).course = s.course := by
  simp only [State.hostWrite, State.traffic_course, State.countN_course, State.emit_course]

theorem State.untilAon_onward {t : Nat} (on : κ.Onward s.course) : κ.Onward (s.untilAon t).course :=
  State.elapse_onward on

/-! ### What each function holds a grant of -/

theorem State.denied_course {f : Nat} : (s.denied f).course = s.course := by
  simp only [State.denied, State.count_course, State.modFn_course]

/-! ### The Ethernet ports as every sender uses them -/

theorem State.modNet_course {f : NetSt → NetSt} : (s.modNet f).course = s.course := (rfl)

theorem State.modNetMram_course {f : NetMram → NetMram} : (s.modNetMram f).course = s.course := (rfl)

theorem State.modEth_course {p : Nat} {f : EthSt → EthSt} : (s.modEth p f).course = s.course := (rfl)

theorem State.modQueue_course {p q : Nat} {f : NetQueue → NetQueue} : (s.modQueue p q f).course = s.course := (rfl)

theorem State.enqueue_course {p q : Nat} {f : QFrame} : (s.enqueue p q f).course = s.course := by
  simp only [State.enqueue, State.count_course, State.modQueue_course, course_ite, ite_self]

theorem State.manage_course {p : Nat} {what : String} {fields : List Nat} : (s.manage p what fields).course = s.course := by
  simp only [State.manage, State.enqueue_course, course_ite, ite_self]

theorem State.keepNeighbour_course {p addr : Nat} {n : Neighbour} : (s.keepNeighbour p addr n).course = s.course := by
  unfold State.keepNeighbour
  dsimp only
  split <;> simp only [State.modEth_course, State.countN_course]

theorem State.askNeighbour_course {p addr : Nat} : (s.askNeighbour p addr).course = s.course := by
  simp only [State.askNeighbour, State.keepNeighbour_course, State.manage_course]

theorem State.sendIp_course {p q addr : Nat} {f : QFrame} : (s.sendIp p q addr f).course = s.course := by
  simp only [State.sendIp, State.enqueue_course, State.modEth_course, State.askNeighbour_course, course_ite, ite_self]

/-! ### What the GM8 sends in KCP over UDP -/

theorem State.sendKcp_course {p peer udpPort : Nat} {bytes : List Byte} : (s.sendKcp p peer udpPort bytes).course = s.course := by
  simp only [State.sendKcp, State.sendIp_course]

theorem State.modUdp_course {k : Nat} {f : UdpSess → UdpSess} : (s.modUdp k f).course = s.course := (rfl)

theorem udpSend_course {k kind : Nat} {secret : Bool} {body : List Byte} : (udpSend k kind secret body s).course = s.course := by
  simp only [udpSend, State.sendKcp_course, State.modUdp_course]

/-! ### Event records -/

theorem State.signal_course {f n : Nat} : (s.signal f n).course = s.course := by
  simp only [State.signal, State.setRing_course, State.modHost_course, State.count_course, State.emit_course, course_ite, ite_self]

theorem State.signalIfDue_course {f n : Nat} : (s.signalIfDue f n).course = s.course := by
  simp only [State.signalIfDue, State.signal_course, course_ite, ite_self]

theorem State.putRecord_course {f n t : Nat} {subject : Half} {payload : List Byte} :
    (s.putRecord f n t subject payload).course = s.course := by
  simp only [State.putRecord, State.count_course, State.emit_course, State.setRing_course, State.signalIfDue_course]

theorem State.dropRecord_course {f n t : Nat} : (s.dropRecord f n t).course = s.course := by
  simp only [State.dropRecord, State.count_course, State.modRing_course, course_ite, ite_self]

theorem State.ringRecord_course {f t : Nat} {subject : Half} {payload : List Byte} :
    (s.ringRecord f t subject payload).course = s.course := by
  unfold State.ringRecord
  split
  · rfl
  · simp only [State.dropRecord_course, State.putRecord_course, course_ite, ite_self]

theorem State.udpRecord_course {k t : Nat} {subject : Half} {payload : List Byte} :
    (s.udpRecord k t subject payload).course = s.course := by
  simp only [State.udpRecord, State.modUdp_course, udpSend_course, course_ite, ite_self]

theorem State.payStale_course {f : Nat} : (s.payStale f).course = s.course := by
  simp only [State.payStale, State.ringRecord_course, State.modFn_course, course_ite, ite_self]

theorem State.payOwed_course : s.payOwed.course = s.course := by
  simp only [State.payOwed, State.modHost_course, State.ringRecord_course, course_ite, ite_self]

theorem State.hostRecord_course {f t : Nat} {subject : Half} {payload : List Byte} :
    (s.hostRecord f t subject payload).course = s.course := by
  simp only [State.hostRecord, State.modHost_course, State.modFn_course, State.ringRecord_course, State.payStale_course,
    State.payOwed_course, course_ite, ite_self]

theorem State.record_course {f t : Nat} {subject : Half} {payload : List Byte} : (s.record f t subject payload).course = s.course := by
  simp only [State.record, State.hostRecord_course, State.udpRecord_course, course_ite, ite_self, foldl_course, implies_true]

theorem State.recordTo_course {p : Nat → Bool} {t : Nat} {subject : Half} {payload : List Byte} :
    (s.recordTo p t subject payload).course = s.course := by
  simp only [State.recordTo, State.record_course, foldl_course, implies_true]

theorem State.serviceEvent_course {p : Nat → Bool} {service : Half} {code subject : Nat} {detail : List Byte} :
    (s.serviceEvent p service code subject detail).course = s.course := by
  simp only [State.serviceEvent, State.recordTo_course]

theorem State.linkRecord_course {kind index state rate width : Nat} : (s.linkRecord kind index state rate width).course = s.course := by
  simp only [State.linkRecord, State.recordTo_course]

/-! ### The interrupt controller -/

theorem State.pend_course {x : Nat} : (s.pend x).course = s.course := by
  simp only [State.pend, State.modIntSrc_course, course_ite, ite_self]

theorem State.setCond_course {x : Nat} {b : Bool} : (s.setCond x b).course = s.course := by
  simp only [State.setCond, State.modIntSrc_course, course_ite, ite_self]

theorem State.latchEdges_course {x e : Nat} : (s.latchEdges x e).course = s.course := by
  simp only [State.latchEdges, State.modIntSrc_course, State.countN_course]

theorem intSample_course : (intSample s).course = s.course := by
  unfold intSample
  refine foldl_course fun s x => ?_
  simp only [State.modIntSrc_course, State.latchEdges_course]

theorem State.modGrp_course {host : Bool} {x : Nat} {f : IntGrp → IntGrp} : (s.modGrp host x f).course = s.course := (rfl)

theorem State.intOffer_course {host : Bool} {x : Nat} : (s.intOffer host x).course = s.course := by
  unfold State.intOffer
  dsimp only
  split
  · simp only [State.modIntTgt_course]
  · rfl

theorem intSelect_course {host : Bool} : (intSelect host s).course = s.course := by
  unfold intSelect
  extract_lets cleared held kept counted
  calc
    _ = counted.course := foldl_course fun _ _ => State.intOffer_course
    _ = kept.course := by simp only [counted, course_ite, State.count_course, ite_self]
    _ = cleared.course := foldl_course fun _ _ => State.modIntTgt_course
    _ = s.course := foldl_course fun _ _ => State.modIntTgt_course

theorem intWithdrawCore_course {t : Nat} : (intWithdrawCore t s).course = s.course := by
  simp only [intWithdrawCore, State.count_course, State.modIntTgt_course, course_ite, ite_self]

theorem intWithdraw_course : (intWithdraw s).course = s.course := by
  simp only [intWithdraw, intWithdrawCore_course, foldl_course, implies_true]

theorem State.intActivate_course {host : Bool} {x t : Nat} : (s.intActivate host x t).course = s.course := (rfl)

theorem intClaim_course {t : Nat} : (intClaim t s).course = s.course := by
  simp only [intClaim, State.emit_course, State.modIntTgt_course, State.count_course, State.intActivate_course, course_ite, ite_self]

theorem intComplete_course {t x : Nat} : (intComplete t x s).course = s.course := by
  simp only [intComplete, State.modGrp_course, State.count_course, State.modIntTgt_course, course_ite, ite_self]

theorem intSet_course {x : Nat} {items : Byte} {sensing prio enable : Nat} {targets change : Half} :
    (intSet x items sensing prio enable targets change s).course = s.course := (rfl)

theorem intHostMask_course {k : Nat} {mask granted : Word} : (intHostMask k mask granted s).course = s.course := by
  unfold intHostMask
  refine foldl_course fun s x => ?_
  simp only [State.modGrp_course]

theorem intAccess_course {a : IntAccess} : (intAccess a s).course = s.course := by
  unfold intAccess
  split <;> simp only [intClaim_course, intComplete_course, State.modIntTgt_course, intHostMask_course, State.latchEdges_course,
    intSet_course, State.modGrp_course, intWithdraw_course]

theorem intCommitHost_course {t : Nat} : (intCommitHost t s).course = s.course := by
  simp only [intCommitHost, State.modIntTgt_course, State.record_course, State.count_course, State.intActivate_course, course_ite, ite_self]

theorem intRound_course : (intRound s).course = s.course := by
  simp only [intRound, intSample_course, intAccess_course, State.modIntc_course, intWithdraw_course, intSelect_course,
    intCommitHost_course, foldl_course, implies_true]

theorem State.intQueue_course {a : IntAccess} : (s.intQueue a).course = s.course := (rfl)

theorem State.intRelease_course {f : Nat} : (s.intRelease f).course = s.course := by
  unfold State.intRelease
  refine foldl_course fun s x => ?_
  simp only [State.modIntTgt_course, State.modGrp_course]

/-! ### Access to the running trusses, groups, slots, surfaces, heads, ports and engines, and the sill grid -/

theorem State.modTruss_course {f : TrussSt → TrussSt} : (s.modTruss f).course = s.course := (rfl)

theorem State.modSeq_course {f : SeqSt → SeqSt} : (s.modSeq f).course = s.course := (rfl)

theorem State.modAdt_course {f : AdtSt → AdtSt} : (s.modAdt f).course = s.course := (rfl)

theorem State.modDma_course {f : DmaSt → DmaSt} : (s.modDma f).course = s.course := (rfl)

theorem State.modStore_course {k : Nat} {f : StoreSlot → StoreSlot} : (s.modStore k f).course = s.course := (rfl)

theorem State.modGroup_course {g : Nat} {f : GroupSt → GroupSt} : (s.modGroup g f).course = s.course := (rfl)

theorem State.modSlot_course {x : Nat} {f : SlotSt → SlotSt} : (s.modSlot x f).course = s.course := (rfl)

theorem State.modSurf_course {h : Nat} {f : Surface → Surface} : (s.modSurf h f).course = s.course := (rfl)

theorem State.modLane_course {k : Nat} {f : LaneSt → LaneSt} : (s.modLane k f).course = s.course := (rfl)

theorem State.modHead_course {h : Nat} {f : HeadSt → HeadSt} : (s.modHead h f).course = s.course := (rfl)

theorem State.modPeer_course {k : Nat} {f : Peer → Peer} : (s.modPeer k f).course = s.course := (rfl)

theorem State.modIng_course {x : Nat} {f : IngSt → IngSt} : (s.modIng x f).course = s.course := (rfl)

theorem State.modWb_course {e : Nat} {f : WbSt → WbSt} : (s.modWb e f).course = s.course := (rfl)

theorem State.modCh_course {c : Nat} {f : DmaCh → DmaCh} : (s.modCh c f).course = s.course := (rfl)

theorem State.modCq_course {q : Nat} {f : DmaCq → DmaCq} : (s.modCq q f).course = s.course := (rfl)

/-! ### The Ethernet ports as the GM8 sends through them -/

theorem State.rxFrame_course {p : Nat} {wire : Nat} : (s.rxFrame p wire).course = s.course := by
  simp only [State.rxFrame, State.bwAdd_course, State.count_course]

theorem State.rxDiscard_course {p : Nat} {wire : Nat} : (s.rxDiscard p wire).course = s.course := by
  simp only [State.rxDiscard, State.count_course, State.rxFrame_course]

theorem State.sentFrame_course {p wire cls : Nat} {clear : Bool} : (s.sentFrame p wire cls clear).course = s.course := by
  simp only [State.sentFrame, State.bwAdd_course, State.countUnits_course, State.count_course, State.modEth_course, State.manage_course,
    course_ite, ite_self]

theorem ethEvent_course {p : Nat} : (ethEvent p s).course = s.course := by
  simp only [ethEvent, State.pend_course, State.linkRecord_course]

theorem setTimeMode_course {m : BitVec 2} : (setTimeMode m s).course = s.course := by
  simp only [setTimeMode, State.pend_course, course_ite, ite_self, modClk_course]

theorem State.learn_course {p addr mac : Nat} : (s.learn p addr mac).course = s.course := by
  simp only [State.learn, State.modEth_course, State.keepNeighbour_course, State.enqueue_course, foldl_course, implies_true]

/-! ### Sending to a display-transport peer -/

theorem keepRtag_course {k : Nat} : (keepRtag k s).course = s.course := (rfl)

theorem State.adtSendBy_course {q k : Nat} {kind : String} {body : Nat} {fields : List Nat} :
    (s.adtSendBy q k kind body fields).course = s.course := by
  simp only [State.adtSendBy, State.modPeer_course, State.sendIp_course, course_ite, ite_self, foldl_course, implies_true]

theorem State.adtSend_course {k : Nat} {kind : String} {body : Nat} {fields : List Nat} :
    (s.adtSend k kind body fields).course = s.course := by
  simp only [State.adtSend, State.adtSendBy_course]

theorem State.peerState_course {k state reason : Nat} : (s.peerState k state reason).course = s.course := by
  simp only [State.peerState, State.modPeer_course, State.pend_course, State.recordTo_course]

theorem State.liveAgain_course {k : Nat} : (s.liveAgain k).course = s.course := by
  simp only [State.liveAgain, State.peerState_course, course_ite, ite_self]

theorem State.emitBlank_course {k : Nat} {b : Blank} : (s.emitBlank k b).course = s.course := by
  simp only [State.emitBlank, State.count_course, State.adtSend_course, State.modPeer_course, foldl_course, implies_true]

theorem State.sendBlank_course {k : Nat} {b : Blank} : (s.sendBlank k b).course = s.course := by
  simp only [State.sendBlank, State.liveAgain_course, State.emitBlank_course]

/-! ### The counters' update and the snapshot trigger -/

theorem updateCounter_course {c : Nat} : (updateCounter c s).course = s.course := by
  simp only [updateCounter, State.modPmu_course, State.pend_course, course_ite, ite_self]

theorem updateFiltered_course {below : Bool} {f : Nat} : (updateFiltered below f s).2.course = s.course := by
  simp only [updateFiltered, State.modPmu_course, State.pend_course, course_ite, ite_self]

theorem dropTriggers_course {n : Nat} : (dropTriggers n s).course = s.course := (rfl)

theorem takeSnapshot_course {mask : Nat} : (takeSnapshot mask s).course = s.course := by
  simp only [takeSnapshot, dropTriggers_course, State.modPmu_course, course_ite, ite_self]

theorem pmuUpdate_course : (pmuUpdate s).course = s.course := by
  simp only [pmuUpdate, State.countN_course, updateCounter_course, updateFiltered_course, takeSnapshot_course, State.modPmu_course,
    foldl_course, foldl_snd_course, implies_true, State.draw_course]

theorem pmuStop_course : (pmuStop s).course = s.course := by
  simp only [pmuStop, State.modPmu_course, pmuUpdate_course]

theorem pmuStart_course : (pmuStart s).course = s.course := (rfl)

theorem snapSill_course {g : Nat} : (snapSill g s).course = s.course := by
  simp only [snapSill, State.modPmu_course, course_ite, ite_self]

theorem snapFault_course {cls : Nat} : (snapFault cls s).course = s.course := by
  simp only [snapFault, State.modPmu_course, course_ite, ite_self]

theorem bwPartial_course {n : Nat} : (bwPartial n s).course = s.course := (rfl)

theorem bwSwitch_course : (bwSwitch s).course = s.course := by
  unfold bwSwitch
  refine foldl_course fun s x => ?_
  simp only [bwPartial_course]

/-! ### The variant that fences, removals, pace and force require, and what a fence or the safe state does at once -/

theorem paceEdge_course : (paceEdge s).course = s.course := by
  simp only [paceEdge, State.pend_course, State.modPace_course, course_ite, ite_self]

theorem decideVariant_course {g want : Nat} : (decideVariant g want s).course = s.course := (rfl)

theorem chooseVariants_course : (chooseVariants s).course = s.course := by
  simp only [chooseVariants, paceEdge_course, decideVariant_course, course_ite, ite_self, foldl_course, implies_true]

theorem safeReaction_course : (safeReaction s).course = s.course := by
  simp only [safeReaction, State.sendBlank_course, State.modDma_course, foldl_course, implies_true]

theorem stopDecoder_course {d : Nat} : (stopDecoder d s).course = s.course := by
  simp only [stopDecoder, State.modIng_course, State.modPeer_course, State.adtSend_course, course_ite, ite_self, foldl_course, implies_true]

theorem unitReaction_course {src : Nat} : (unitReaction src s).course = s.course := by
  simp only [unitReaction, State.modHead_course, stopDecoder_course, State.modSeq_course, course_ite, ite_self]

/-! ### The fault collector as the shared operation every block reports to -/

theorem State.putFence_course {x : Nat} {v : Bool} : (s.putFence x v).course = s.course := by
  unfold State.putFence
  split
  · simp only [State.modFlt_course]
  · rfl

theorem State.putLock_course {x : Nat} {v : Bool} : (s.putLock x v).course = s.course := by
  unfold State.putLock
  split
  · simp only [State.modFltMram_course]
  · rfl

theorem State.classify_course {x : Nat} {detail : Word} {broken forced : Bool} {given : Option Nat} :
    (s.classify x detail broken forced given).2.course = s.course := (rfl)

theorem fltMove_course : (fltMove s).course = s.course := by
  unfold fltMove
  split
  · simp only [State.pend_course, State.modFlt_course]
  · rfl

theorem fltEventRecord_course {r : FltRec} : (fltEventRecord r s).course = s.course := by
  simp only [fltEventRecord, State.recordTo_course]

theorem fltStore_course {o : Occ} : (fltStore o s).course = s.course := by
  simp only [fltStore, State.pend_course, State.modFlt_course, fltEventRecord_course, State.modFltMram_course, State.count_course,
    course_ite, ite_self]

theorem enterSafe_course : (enterSafe s).course = s.course := by
  simp only [enterSafe, safeReaction_course, State.modBoot_course, State.modFlt_course, course_ite, ite_self]

theorem fltFence_course {o : Occ} : (fltFence o s).course = s.course := by
  simp only [fltFence, State.modFltSrc_course, State.count_course, State.putFence_course, State.modFlt_course, chooseVariants_course,
    unitReaction_course, course_ite, ite_self]

theorem fltReact_course {o : Occ} : (fltReact o s).course = s.course := by
  simp only [fltReact, State.modFltSrc_course, State.pend_course, State.count_course, State.modFlt_course, State.modBoot_course,
    fltFence_course, enterSafe_course, course_ite, ite_self]

theorem fltTake_course {o : Occ} : (fltTake o s).course = s.course := by
  simp only [fltTake, snapFault_course, State.modFltSrc_course, fltStore_course, fltReact_course, course_ite, ite_self]

theorem fltCycle_course {os : List Occ} : (fltCycle os s).course = s.course := by
  simp only [fltCycle, fltTake_course, fltMove_course, foldl_course, implies_true]

theorem fltHidden_course {x : Nat} {detail : Word} {broken : Bool} : (fltHidden x detail broken s).course = s.course := by
  simp only [fltHidden, State.modFltSrc_course, course_ite, ite_self]

theorem State.fault_course {x : Nat} {detail : Word} : (s.fault x detail).course = s.course := by
  simp only [State.fault, State.classify_course, fltCycle_course, fltHidden_course, course_ite, ite_self]

theorem State.faultOpen_course {x : Nat} : (s.faultOpen x).course = s.course := by
  simp only [State.faultOpen, State.fault_course, State.draw_course]

theorem State.faults_course {ins : List (Nat × Word × Bool)} : (s.faults ins).course = s.course := by
  simp only [State.faults, State.classify_course, fltHidden_course, fltCycle_course, course_ite, snd_ite, ite_self, foldl_snd_course,
    implies_true]

theorem fltStartQuiet_course {x : Nat} : (fltStartQuiet x s).course = s.course := by
  simp only [fltStartQuiet, State.modFltSrc_course, course_ite, ite_self]

theorem State.fltFall_course {x : Nat} : (s.fltFall x).course = s.course := by
  simp only [State.fltFall, State.modFltSrc_course, State.count_course, State.modFlt_course, fltStartQuiet_course, course_ite, ite_self]

theorem fltReturn_course {x : Nat} : (fltReturn x s).course = s.course := by
  unfold fltReturn
  dsimp only
  split <;> simp only [State.modFltSrc_course, State.fltFall_course, State.faults_course]

theorem fltClear_course {p : Nat → Bool} : (fltClear p s).2.2.course = s.course := by
  unfold fltClear
  dsimp only
  refine foldl_course fun s x => ?_
  simp only [State.modFltSrc_course]

theorem fltUncover_course {x : Nat} : (fltUncover x s).course = s.course := by
  simp only [fltUncover, State.modFlt_course, course_ite, ite_self]

theorem fltRecoveryEvent_course {x code : Nat} : (fltRecoveryEvent x code s).course = s.course := by
  simp only [fltRecoveryEvent, State.pend_course, State.serviceEvent_course]

/-! ### The one path every KCP command takes -/

theorem State.modSession_course {c : KcpCtx} {f : Session → Session} : (s.modSession c f).course = s.course := by
  unfold State.modSession
  split <;> simp only [State.modMbx_course, State.modUdp_course]

theorem State.modTaken_course {c : KcpCtx} {f : Taken → Taken} : (s.modTaken c f).course = s.course := by
  unfold State.modTaken
  split <;> simp only [State.modMbx_course, State.modUdp_course]

theorem mbxRespond_course {f n : Nat} {r : Response} : (mbxRespond f n r s).course = s.course := by
  simp only [mbxRespond, State.count_course, State.emit_course, State.modMbx_course, State.record_course, course_ite, ite_self]

theorem udpAnswer_course {k : Nat} {secret : Bool} {sizes : List Nat} {r : Response} :
    (udpAnswer k secret sizes r s).course = s.course := by
  simp only [udpAnswer, udpSend_course]

theorem udpRespond_course {k : Nat} {sizes : List Nat} {r : Response} : (udpRespond k sizes r s).course = s.course := by
  simp only [udpRespond, udpAnswer_course, State.modUdp_course]

theorem udpResend_course {k : Nat} {secret : Bool} {r : StoredRsp} : (udpResend k secret r s).course = s.course := by
  simp only [udpResend, udpAnswer_course]

theorem sessAnswered_course {c : KcpCtx} {st : Status} : (sessAnswered c st s).course = s.course := by
  simp only [sessAnswered, State.modSession_course]

theorem kcpRelease_course {c : KcpCtx} : (kcpRelease c s).course = s.course := by
  unfold kcpRelease
  split <;> simp only [State.modMbx_course, State.modUdp_course]

theorem kcpRespond_course {id : Nat} {c : KcpCtx} {version : Nat} {st : Status} {detail : Nat} {result : List Byte} :
    (kcpRespond id c version st detail result s).course = s.course := by
  unfold kcpRespond
  split
  · rfl
  · dsimp only
    split <;> simp only [mbxRespond_course, udpRespond_course]

theorem kcpAnswer_course {id : Nat} {c : KcpCtx} {version : Nat} {r : Reply} : (kcpAnswer id c version r).course = r.st.course := by
  simp only [kcpAnswer, sessAnswered_course, State.count_course, kcpRelease_course, kcpRespond_course, course_ite, ite_self]

theorem kcpRefused_course {id : Nat} {c : KcpCtx} {version : Nat} {st : Status} {d : Nat} :
    (kcpRefused id c version st d s).course = s.course := by
  simp only [kcpRefused, kcpRelease_course, kcpRespond_course, sessAnswered_course, course_ite, ite_self]

theorem kcpBegin_leadsOn {id extra : Nat} {inSafe : Bool} {c : KcpCtx} {body : Nat → State → Reply ⊕ State}
    (h : ∀ f, s.course.Onward (Sum.elim Reply.st (fun t => t) (body f s)).course) : LeadsOn s.course (kcpBegin id extra inSafe c body s) :=
      by
  unfold kcpBegin
  dsimp only
  split
  · exact leadsOn_done.mpr (.refl _)
  split
  · simp only [leadsOn_done, kcpRelease_course, udpResend_course, Course.Onward.refl]
  split
  · simp only [leadsOn_done, kcpRefused_course, Course.Onward.refl]
  have := h (s.kcpFn c)
  split
  next t e =>
    rw [e] at this
    simpa only [leadsOn_done, State.modTaken_course, Sum.elim_inr] using this
  next r e =>
    rw [e] at this
    simpa only [leadsOn_ite, leadsOn_done, kcpRelease_course, kcpAnswer_course, ite_self, Sum.elim_inl] using this

theorem kcpRun_leadsOn {id extra : Nat} {inSafe : Bool} {c : KcpCtx} {body : Nat → State → Reply}
    (h : ∀ f, s.course.Onward (body f s).st.course) : LeadsOn s.course (kcpRun id extra inSafe c body s) :=
  kcpBegin_leadsOn h

theorem kcp_leadsOn {id : Nat} {c : KcpCtx} {body : Nat → State → Reply} (h : ∀ f, s.course.Onward (body f s).st.course) :
    LeadsOn s.course (kcp id c body s) := kcpRun_leadsOn h

theorem kcpUnknown_leadsOn {fn : Fin 16} {via : Via} : LeadsOn s.course (kcpUnknown fn via s) := by
  unfold kcpUnknown
  split
  · exact leadsOn_done.mpr (.refl _)
  split
  · exact leadsOn_done.mpr (.refl _)
  · exact kcp_leadsOn fun _ => .refl _

theorem kcpFinish_course {id : Nat} {c : KcpCtx} {r : Reply} : (kcpFinish id c r).course = r.st.course := by
  unfold kcpFinish
  split
  · rfl
  · simp only [kcpRelease_course, kcpAnswer_course, course_ite, ite_self]

/-! ### CXL memory as the engines reach it -/

theorem State.modPort_course {m : Nat} {f : CxlPort → CxlPort} : (s.modPort m f).course = s.course := (rfl)

theorem State.memHeal_course {a n : Nat} : (s.memHeal a n).course = s.course := (rfl)

theorem State.countInit_course {m lo hi : Nat} : (s.countInit m lo hi).course = s.course := by
  simp only [State.countInit, State.countN_course]

theorem bgPort_course {m : Nat} {x : Nat × State} : (bgPort m x).2.course = x.2.course := by
  unfold bgPort
  dsimp only
  split
  · rfl
  · rw [State.modPort_course, State.countInit_course, State.draw_course]

theorem State.bgAdvance_course : s.bgAdvance.course = s.course := by
  simp only [State.bgAdvance, bgPort_course, State.modBoot_course, course_ite, ite_self, foldl_snd_course, implies_true]

theorem State.memStore_onward {a : Nat} {bs : List Byte} {w : Who} (on : κ.Onward s.course) : κ.Onward (s.memStore a bs w).course := by
  simp only [State.memStore, State.traffic_course, State.countN_course, State.count_course, State.memPuts_onward, State.memHeal_course,
    on, course_ite, onward_ite, ite_self, foldl_course, implies_true]

theorem State.memWrite_onward {a : Nat} {bs : List Byte} {w : Who} (on : κ.Onward s.course) : κ.Onward (s.memWrite a bs w).course := by
  simp only [State.memWrite, State.memStore_onward, on, course_ite, onward_ite, ite_self]

theorem storeCopy_onward {k : Nat} {img : List Byte} (on : κ.Onward s.course) : κ.Onward (storeCopy k img s).course := by
  simp only [storeCopy, State.memWrite_onward, on, foldl_onward, Course.Onward.refl, implies_true]

theorem poisonSeen_course {m : Nat} : (poisonSeen m s).course = s.course := by
  simp only [poisonSeen, State.pend_course, State.count_course]

theorem State.memFetch_course {a n : Nat} {w : Who} : (s.memFetch a n w).2.course = s.course := by
  simp only [State.memFetch, State.traffic_course, State.countN_course, poisonSeen_course, course_ite, snd_ite, ite_self, foldl_course,
    implies_true]

theorem State.memLoad_course {x a n : Nat} {w : Who} : (s.memLoad x a n w).2.course = s.course := by
  simp only [State.memLoad, State.memFetch_course, State.faultOpen_course, course_ite, snd_ite, ite_self]

/-! ### Live layer windows and the arm -/

theorem State.countLate_course {g : Nat} : (s.countLate g).course = s.course := by
  simp only [State.countLate, State.count_course, State.modGroup_course]

theorem State.putShadow_course {f x off : Nat} {v : Word} : (s.putShadow f x off v).course = s.course := (rfl)

theorem State.armResult_course {f g result slot : Nat} {n : Word} : (s.armResult f g result slot n).course = s.course := by
  simp only [State.armResult, State.modGroup_course, State.pend_course, State.record_course]

theorem State.armIgnored_course {g : Nat} : (s.armIgnored g).course = s.course := by
  simp only [State.armIgnored, State.count_course, State.modGroup_course]

theorem State.useSurfaces_course {g : Nat} {t : Truss} : (s.useSurfaces g t).course = s.course := by
  simp only [State.useSurfaces, State.modSlot_course, State.modSurf_course, course_ite, ite_self, foldl_course, implies_true]

theorem State.arrive_course {f g : Nat} : (s.arrive f g).2.course = s.course := by
  unfold State.arrive
  split
  · rfl
  · split
    · simp only [State.armResult_course, State.armIgnored_course]
    · split <;> simp only [State.armResult_course, State.modGroup_course, State.count_course, State.useSurfaces_course, course_ite,
        ite_self]

theorem State.withdraw_course {f g : Nat} : (s.withdraw f g).course = s.course := by
  unfold State.withdraw
  dsimp only
  rw [State.armResult_course]
  split
  · refine foldl_course fun s x => ?_
    simp only [State.modSlot_course]
  · simp only [State.modGroup_course]

theorem State.dropArm_course {g : Nat} : (s.dropArm g).course = s.course := by
  unfold State.dropArm
  split
  · simp only [State.withdraw_course]
  · rfl

theorem State.disarm_course {f g : Nat} : (s.disarm f g).2.course = s.course := by
  unfold State.disarm
  split <;> simp only [State.armResult_course, State.count_course, State.armIgnored_course, course_ite, snd_ite, ite_self,
    State.withdraw_course]

/-! ### A layer's geometry in a frame, the reads it needs, and the composition of a strip from what staging holds -/

theorem State.tallyLayer_course {g : Nat} {o : TOutput} {e : TSlot} {geo : Geo} {l : LayerOut} :
    (s.tallyLayer g o e geo l).course = s.course := by
  simp only [State.tallyLayer, State.countN_course, State.countUnits_course, State.count_course, State.modSlot_course,
    State.modGroup_course, State.faultOpen_course, course_ite, ite_self]

theorem State.composePos_course {g k item : Nat} {t : Truss} {i : TItem} {n : Word} {oc : OutColour} {pos : Nat} {acc : Canvas × State} :
    (State.composePos g k item t i n oc pos acc).2.course = acc.2.course := by
  unfold State.composePos
  dsimp only
  split
  · rfl
  · split <;> simp only [State.count_course, course_ite, snd_ite, ite_self, State.tallyLayer_course]

theorem State.compose_course {g k item : Nat} {t : Truss} {i : TItem} {n : Word} : (s.compose g k item t i n).2.2.course = s.course := by
  simp only [State.compose, State.composePos_course, State.countN_course, State.countUnits_course, foldl_snd_course, implies_true]

/-! ### The fetch engine -/

theorem State.modIssue_course {i : Nat} {f : Issue → Issue} : (s.modIssue i f).course = s.course := (rfl)

theorem readOut_course {x : Issue} {r : FRead} : (readOut x r s).course = s.course := by
  simp only [readOut, State.hostRead_course, State.traffic_course, State.count_course, course_ite, ite_self]

theorem tryRead_course {i j : Nat} {acc : List Nat × State} : (tryRead i j acc).2.course = acc.2.course := by
  simp only [tryRead, State.modIssue_course, State.count_course, State.countN_course, readOut_course, course_ite, snd_ite, ite_self]

theorem pumpReads_course : (pumpReads s).course = s.course := by
  simp only [pumpReads, tryRead_course, foldl_snd_course, implies_true]

theorem budgetReached_course {slot n : Nat} : (budgetReached slot n s).course = s.course := by
  simp only [budgetReached, State.modSlot_course, State.countN_course, State.faultOpen_course, course_ite, ite_self]

theorem issueEntry_course {k v g item entry : Nat} {n : Word} {ahead : Bool} :
    (issueEntry k v g item entry n ahead s).course = s.course := by
  unfold issueEntry
  dsimp only
  split
  · rfl
  · split
    · rfl
    · simp only [State.count_course, State.modSeq_course, pumpReads_course, budgetReached_course, course_ite, snd_ite, ite_self]

theorem issueAtlas_course {x : Issue} {line : Nat} {data : List Byte} : (issueAtlas x line data s).course = s.course := by
  unfold issueAtlas
  dsimp only
  split
  · split
    · rfl
    · simp only [State.modSeq_course, State.count_course, pumpReads_course, budgetReached_course, course_ite, ite_self]
  · rfl

theorem sweepIssues_course : (sweepIssues s).course = s.course := (rfl)

theorem countData_course {p : Nat} {ahead : Bool} : (countData p ahead s).course = s.course := by
  simp only [countData, State.count_course, course_ite, ite_self]

theorem landRead_course {i j : Nat} {data : Option (List Byte)} {poison : Bool} : (landRead i j data poison s).course = s.course := by
  simp only [landRead, countData_course, poisonSeen_course, State.modIssue_course, sweepIssues_course, State.count_course,
    State.modSlot_course, State.faultOpen_course, issueAtlas_course, pumpReads_course, course_ite, ite_self]

theorem execReadDataLand_leadsOn {port : Fin 5} {address : Long} {host : Option (List Byte)} :
    LeadsOn s.course (execReadDataLand port address host s) := by
  unfold execReadDataLand
  split <;> simp only [leadsOn_done, Course.Onward.refl, landRead_course, leadsOn_ite, ite_self]

theorem loseReads_course {p : Nat → FRead → Bool} : (loseReads p s).course = s.course := (rfl)

theorem execFetchIssue_leadsOn {g : Fin 16} {item entry : Nat} : LeadsOn s.course (execFetchIssue g item entry s) := by
  unfold execFetchIssue
  dsimp only
  split
  · simp only [leadsOn_done, Course.Onward.refl]
  · split
    · simp only [issueEntry_course, State.untilPlan_onward, leadsOn_done, leadsOn_ite, ite_self, Course.Onward.refl]
    · split <;> simp only [leadsOn_done, Course.Onward.refl, issueEntry_course, State.untilPlan_onward, leadsOn_ite, ite_self]

theorem dropIssue_course {i : Nat} : (dropIssue i s).course = s.course := by
  simp only [dropIssue, State.count_course, State.countN_course, State.modSlot_course, State.modIssue_course, course_ite, ite_self,
    foldl_course, implies_true]

theorem recompareAt_course {g i : Nat} : (recompareAt g i s).course = s.course := by
  unfold recompareAt
  dsimp only
  split
  · rfl
  · split
    · rfl
    · simp only [dropIssue_course, State.count_course, issueEntry_course, course_ite, ite_self]

theorem recompare_course {g : Nat} : (recompare g s).course = s.course := by
  simp only [recompare, sweepIssues_course, recompareAt_course, foldl_course, implies_true]

/-! ### Completion queues -/

theorem State.hostStore_course {f a : Nat} {bs : List Byte} {w : Who} : (s.hostStore f a bs w).course = s.course := by
  simp only [State.hostStore, State.hostWrite_course, course_ite, ite_self]

theorem cqLevel_course {q : Nat} : (cqLevel q s).course = s.course := by
  simp only [cqLevel, State.setCond_course]

theorem cqWrite_onward {q : Nat} {r : CplRec} (on : κ.Onward s.course) : κ.Onward (cqWrite q r s).course := by
  simp only [cqWrite, State.hostStore_course, State.memWrite_onward, cqLevel_course, State.modCq_course, on, course_ite, onward_ite,
    ite_self]

theorem cqDrop_course {q : Nat} : (cqDrop q s).course = s.course := by
  simp only [cqDrop, State.count_course, State.modCq_course]

theorem cqPost_course {q : Nat} {r : CplRec} : (cqPost q r s).2.course = s.course := (rfl)

theorem postFrame_onward {queue : Nat} {r : CplRec} (on : κ.Onward s.course) : κ.Onward (postFrame queue r s).course := by
  simp only [postFrame, cqPost_course, cqDrop_course, cqWrite_onward, on, course_ite, onward_ite, ite_self]

theorem State.assertLine_course {line : Nat} : (s.assertLine line).course = s.course := by
  unfold State.assertLine
  refine foldl_course fun s x => ?_
  dsimp only
  split
  · simp only [State.count_course, State.modCh_course, course_ite, ite_self]
  · rfl

/-! ### Writeback -/

theorem wbTell_course {e : Nat} {skip : Bool} : (wbTell e skip s).course = s.course := by
  simp only [wbTell, State.pend_course, State.modWb_course, course_ite, ite_self]

theorem wbReport_onward {e : Nat} (on : κ.Onward s.course) : κ.Onward (wbReport e s).course := by
  simp only [wbReport, State.modWb_course, State.count_course, State.fault_course, State.pend_course, postFrame_onward,
    State.assertLine_course, on, course_ite, onward_ite, ite_self]

theorem wbStart_onward {e : Nat} {n : Word} (on : κ.Onward s.course) : κ.Onward (wbStart e n s).course := by
  unfold wbStart
  dsimp only
  split
  · split
    · simp only [wbReport_onward, State.modWb_course, on]
    · split <;> simp only [wbReport_onward, State.modWb_course, wbTell_course, State.countN_course, on, course_ite, ite_self,
        State.count_course]
  · split
    · simp only [State.modWb_course, on]
    · split <;> simp only [State.modWb_course, wbTell_course, State.countN_course, on, course_ite, ite_self, State.count_course]

theorem wbPut_onward {e a : Nat} {bs : List Byte} (on : κ.Onward s.course) : κ.Onward (wbPut e a bs s).course := by
  simp only [wbPut, State.countUnits_course, State.memWrite_onward, State.modWb_course, on, course_ite, ite_self]

theorem wbStrip_onward {e enc y0 : Nat} {st : Strip} (on : κ.Onward s.course) : κ.Onward (wbStrip e enc y0 st s).course := by
  simp only [wbStrip, State.modWb_course, wbPut_onward, on, course_ite, onward_ite, ite_self, foldl_onward, Course.Onward.refl,
    implies_true]

theorem wbMissing_course {e : Nat} : (wbMissing e s).course = s.course := by
  simp only [wbMissing, State.modWb_course, course_ite, ite_self]

theorem execWbFrameDone_leadsOn {e : Fin 4} : LeadsOn s.course (execWbFrameDone e s) := by
  unfold execWbFrameDone
  dsimp only
  split
  · simp only [leadsOn_done, Course.Onward.refl]
  · split
    · simp only [wbReport_onward, leadsOn_done, Course.Onward.refl]
    · split <;> simp only [wbReport_onward, wbMissing_course, leadsOn_done, Course.Onward.refl, leadsOn_ite, ite_self]

theorem execWbSetTarget_leadsOn {c : KcpCtx} {engine count queue : Byte} {handles : List Half} :
    LeadsOn s.course (execWbSetTarget c engine count queue handles s) := by
  unfold execWbSetTarget
  refine kcp_leadsOn fun f => ?_
  dsimp only
  split
  · simp only [Course.Onward.refl, badParam_st]
  · split
    · simp only [Course.Onward.refl, refuse_st]
    · split
      · simp only [Course.Onward.refl, refuse_st]
      · split
        · simp only [Course.Onward.refl, badParam_st]
        · split
          · simp only [Course.Onward.refl, badParam_st]
          · split <;> simp only [Course.Onward.refl, badParam_st, State.modSeq_course, replyOk_st]

theorem execWbQuery_leadsOn {c : KcpCtx} {engine : Byte} : LeadsOn s.course (execWbQuery c engine s) := by
  unfold execWbQuery
  refine kcp_leadsOn fun f => ?_
  dsimp only
  split
  · simp only [Course.Onward.refl, badParam_st]
  · split <;> simp only [Course.Onward.refl, refuse_st, st_ite, ite_self, replyOk_st]

/-! ### PLL gates and what they stop, the links and frames of the heads, and the next sill of a group -/

theorem regrid_course {g since : Nat} : (regrid g since s).course = s.course := by
  unfold regrid
  split
  · rfl
  · split
    · rfl
    · simp only [State.modGroup_course, course_ite, ite_self]

theorem regridFar_course {g : Nat} : (regridFar g s).course = s.course := by
  unfold regridFar
  split
  · rfl
  · simp only [regrid_course, course_ite, ite_self, modClk_course]

theorem headRecord_course {h : Nat} : (headRecord h s).course = s.course := by
  simp only [headRecord, State.linkRecord_course]

theorem headEvent_course {h : Nat} : (headEvent h s).course = s.course := by
  simp only [headEvent, State.pend_course, headRecord_course]

theorem headAuxOwn_course {h req addr : Nat} {data : List Byte} : (headAuxOwn h req addr data s).course = s.course := (rfl)

theorem sinkPower_course {h v : Nat} : (sinkPower h v s).course = s.course := by
  simp only [sinkPower, headAuxOwn_course, course_ite, ite_self]

theorem tryConfigs_course {h : Nat} {cs : List (Nat × Nat)} : (tryConfigs h cs s).course = s.course := by
  unfold tryConfigs
  split <;> simp only [State.modHead_course, State.fault_course, headEvent_course]

theorem startTraining_course {h : Nat} {fromLast : Bool} : (startTraining h fromLast s).course = s.course := by
  simp only [startTraining, State.modHead_course, tryConfigs_course, headRecord_course, State.count_course, course_ite, ite_self]

theorem dropLink_course {h : Nat} : (dropLink h s).course = s.course := by
  simp only [dropLink, headEvent_course, State.modHead_course, course_ite, ite_self]

theorem stopHead_course {h : Nat} : (stopHead h s).course = s.course := by
  unfold stopHead
  split
  · rfl
  · dsimp only
    split <;> simp only [State.modHead_course, wbMissing_course, course_ite, ite_self]

theorem freshHead_course {h : Nat} : (freshHead h s).course = s.course := (rfl)

theorem closeGate_course {k : Nat} : (closeGate k s).course = s.course := by
  simp only [closeGate, pmuStop_course, State.modPll_course, stopHead_course, dropLink_course, course_ite, ite_self, foldl_course,
    implies_true]

theorem acquirePll_course {k : Nat} : (acquirePll k s).course = s.course := (rfl)

theorem programPll_course {x : HeadTiming} : (programPll x s).course = s.course := by
  simp only [programPll, closeGate_course, State.modPll_course, acquirePll_course, course_ite, ite_self]

theorem refreshPllHeads_course : (refreshPllHeads s).course = s.course := by
  unfold refreshPllHeads
  refine foldl_course fun s x => ?_
  simp only [State.modPll_course]

theorem takeTiming_course {h : Nat} {x : HeadTiming} : (takeTiming h x s).course = s.course := by
  simp only [takeTiming, refreshPllHeads_course, State.modHead_course, freshHead_course, programPll_course, startTraining_course,
    course_ite, ite_self, foldl_course, implies_true]

theorem endRelock_course {h : Nat} : (endRelock h s).course = s.course := by
  unfold endRelock
  split
  · rfl
  · simp only [State.modHead_course, course_ite, ite_self]

theorem joinHead_course {h g base : Nat} {x : HeadTiming} : (joinHead h g base x s).course = s.course := by
  simp only [joinHead, programPll_course, refreshPllHeads_course, State.modHead_course, State.modPll_course, freshHead_course,
    startTraining_course, sinkPower_course, headRecord_course, course_ite, ite_self]

theorem leaveHead_course {h : Nat} : (leaveHead h s).course = s.course := by
  simp only [leaveHead, stopHead_course, refreshPllHeads_course, State.modHead_course, headEvent_course, sinkPower_course, course_ite,
    ite_self]

/-! ### Live-window writes and reads, and the surface, layer and cell commands -/

theorem writeWindow_course {f x off : Nat} {v : Word} : (writeWindow f x off v s).course = s.course := by
  unfold writeWindow
  split
  · rfl
  · simp only [State.countLate_course, State.putShadow_course, course_ite, ite_self]

theorem execLlwWrite_leadsOn {fn : Fin 16} {slot : BitVec 13} {offset : BitVec 9} {value : Word} :
    LeadsOn s.course (execLlwWrite fn slot offset value s) := by
  simp only [execLlwWrite, State.bar0_course, State.denied_course, writeWindow_course, leadsOn_done, leadsOn_ite, ite_self,
    Course.Onward.refl]

theorem execSurfAlloc_leadsOn {c : KcpCtx} {format width height : Half} {flags : Byte} {address : Long} {stride plane1 : Word}
    {handle : Half} :
    LeadsOn s.course (execSurfAlloc c format width height flags address stride plane1 handle s) := by
  unfold execSurfAlloc
  refine kcp_leadsOn fun f => ?_
  have on : s.course.Onward s.bgAdvance.course := .of_eq (.refl _) State.bgAdvance_course
  extract_lets t
  split
  · exact on
  extract_lets st x n
  split
  · exact on
  refine onward_reply on (onward_reply on (onward_reply on ?_))
  split
  · exact on
  · exact on

theorem execSurfFree_leadsOn {c : KcpCtx} {handle : Half} : LeadsOn s.course (execSurfFree c handle s) := by
  simp only [execSurfFree, State.modSurf_course, course_ite, st_ite, ite_self, Course.Onward.refl, implies_true, refuse_st, replyOk_st,
    badParam_st, kcp_leadsOn]

theorem execSurfQuery_leadsOn {c : KcpCtx} {handle : Half} : LeadsOn s.course (execSurfQuery c handle s) := by
  simp only [execSurfQuery, st_ite, ite_self, Course.Onward.refl, implies_true, replyOk_st, badParam_st, kcp_leadsOn]

theorem execSurfShare_leadsOn {c : KcpCtx} {handle : Half} {share : Byte} : LeadsOn s.course (execSurfShare c handle share s) := by
  simp only [execSurfShare, State.modSurf_course, course_ite, st_ite, ite_self, Course.Onward.refl, implies_true, refuse_st, replyOk_st,
    badParam_st, kcp_leadsOn]

theorem withSlot_onward {f x : Nat} {go : Nat → Truss → TSlot → Reply} (on : κ.Onward s.course)
    (h : ∀ g t e, κ.Onward (go g t e).st.course) : κ.Onward (withSlot f x s go).st.course := by
  unfold withSlot
  split
  · exact on
  split
  · exact on
  · exact h ..

theorem unlocked_onward {g : Nat} {go : State → Reply} (on : κ.Onward s.course)
    (h : κ.Onward (go s).st.course) : κ.Onward (unlocked g s go).st.course := by
  unfold unlocked
  split
  · exact on
  · exact h

theorem putAll_course {f x : Nat} {regs : List (Nat × Word)} : (putAll f x regs s).course = s.course := by
  unfold putAll
  refine foldl_course fun s x => ?_
  simp only [State.putShadow_course]

theorem execLayerSet_leadsOn {c : KcpCtx} {slot mask : Half} {values : List Word} :
    LeadsOn s.course (execLayerSet c slot mask values s) := by
  unfold execLayerSet
  refine kcp_leadsOn fun f => ?_
  simp only [withSlot_onward, unlocked_onward, putAll_course, course_ite, st_ite, onward_ite, ite_self, Course.Onward.refl, implies_true,
    replyOk_st, badParam_st]

theorem execLayerSetType_leadsOn {c : KcpCtx} {slot : Half} {first count : Byte} {values : List Word} :
    LeadsOn s.course (execLayerSetType c slot first count values s) := by
  unfold execLayerSetType
  refine kcpRun_leadsOn fun f => ?_
  simp only [withSlot_onward, unlocked_onward, putAll_course, course_ite, st_ite, onward_ite, ite_self, Course.Onward.refl, implies_true,
    replyOk_st, badParam_st]

theorem execLayerQuery_leadsOn {c : KcpCtx} {slot : Half} : LeadsOn s.course (execLayerQuery c slot s) := by
  unfold execLayerQuery
  refine kcp_leadsOn fun f => ?_
  refine withSlot_onward (.refl _) (fun g t e => ?_)
  simp only [Course.Onward.refl, replyOk_st]

theorem State.writeCells_onward {h copy cols : Nat} {cells : List (Nat × Nat)} (on : κ.Onward s.course) :
    κ.Onward (s.writeCells h copy cols cells).course := by
  simp only [State.writeCells, State.hostWrite_course, State.memWrite_onward, on, course_ite, onward_ite, ite_self, foldl_onward,
    Course.Onward.refl, implies_true]

theorem State.deferAt_onward {g wait f : Nat} {op : SillOp} (on : κ.Onward s.course) : κ.Onward (s.deferAt g wait f op).course := by
  unfold State.deferAt
  dsimp only
  split <;> simp only [State.modSeq_course, State.writeCells_onward, on, course_ite, onward_ite, ite_self]

theorem State.defer_onward {g f : Nat} {op : SillOp} (on : κ.Onward s.course) : κ.Onward (s.defer g f op).course := by
  simp only [State.defer, State.deferAt_onward, on]

theorem cellReply_onward {f g : Nat} {op : SillOp} (on : κ.Onward s.course) : κ.Onward (cellReply f g op s).st.course := by
  simp only [cellReply, State.defer_onward, on, replyOk_st]

theorem execCellWrite_leadsOn {c : KcpCtx} {slot : Half} {count : Byte} {first : Word} {entries : List Word} :
    LeadsOn s.course (execCellWrite c slot count first entries s) := by
  unfold execCellWrite
  refine kcpRun_leadsOn fun f => ?_
  refine withSlot_onward (.refl _) (fun g t e => ?_)
  split <;> simp only [Course.Onward.refl, refuse_st, cellReply_onward, course_ite, st_ite, onward_ite, ite_self, badParam_st]

theorem execCellFill_leadsOn {c : KcpCtx} {slot : Half} {first count entry : Word} :
    LeadsOn s.course (execCellFill c slot first count entry s) := by
  unfold execCellFill
  refine kcp_leadsOn fun f => ?_
  refine withSlot_onward (.refl _) (fun g t e => ?_)
  split <;> simp only [Course.Onward.refl, refuse_st, cellReply_onward, course_ite, st_ite, onward_ite, ite_self, badParam_st]

/-! ### The display transport's shared parts -/

theorem resetHeld_course {k : Nat} : (resetHeld k s).course = s.course := (rfl)

theorem closeSession_course {k reason : Nat} : (closeSession k reason s).course = s.course := by
  simp only [closeSession, keepRtag_course, State.peerState_course, State.modAdt_course, State.modPeer_course, course_ite, ite_self]

theorem leaveSession_course {k reason : Nat} : (leaveSession k reason s).course = s.course := by
  simp only [leaveSession, closeSession_course, State.adtSend_course, course_ite, ite_self]

theorem sendHold_course {k reason : Nat} : (sendHold k reason s).course = s.course := by
  simp only [sendHold, State.count_course, State.adtSend_course, State.liveAgain_course, State.modPeer_course, course_ite, ite_self]

theorem endHold_course {k : Nat} : (endHold k s).course = s.course := by
  simp only [endHold, State.liveAgain_course, State.modPeer_course, course_ite, ite_self]

theorem settleEndpoint_course {k : Nat} : (settleEndpoint k s).course = s.course := by
  unfold settleEndpoint
  split
  · rfl
  · split
    · simp only [State.sendBlank_course]
    · split
      · simp only [State.sendBlank_course]
      · split <;> simp only [State.sendBlank_course, sendHold_course, course_ite, ite_self]

theorem endBlank_course {k : Nat} : (endBlank k s).course = s.course := by
  simp only [endBlank, settleEndpoint_course, State.liveAgain_course, resetHeld_course, State.modPeer_course, course_ite, ite_self]

theorem bulletinBlanks_course {g : Nat} : (bulletinBlanks g s).course = s.course := by
  unfold bulletinBlanks
  refine foldl_course fun s x => ?_
  split
  · simp only [settleEndpoint_course, State.liveAgain_course, resetHeld_course, State.sendBlank_course, course_ite, ite_self]
  · rfl

theorem answerUnknown_course {d : AdtDgram} : (answerUnknown d s).course = s.course := by
  simp only [answerUnknown, State.count_course, State.modAdt_course, State.sendIp_course, course_ite, ite_self]

theorem adtTake_course {source : Option Bool} {since : Nat} {sizeOk : Bool} {d : AdtDgram} :
    (adtTake source since sizeOk d s).2.course = s.course := by
  unfold adtTake
  split
  · simp only [State.rxDiscard_course]
  · dsimp only
    split
    · simp only [State.rxFrame_course]
    · split
      · simp only [State.rxFrame_course, State.count_course]
      · split
        · simp only [State.rxFrame_course, answerUnknown_course]
        · split
          · split
            · simp only [State.rxFrame_course, State.count_course]
            · split <;> simp only [State.rxFrame_course, State.count_course, State.modPeer_course, State.learn_course,
                State.peerState_course, course_ite, ite_self]
          · split
            · simp only [State.rxFrame_course, State.count_course]
            · split <;> simp only [State.rxFrame_course, State.count_course, State.modPeer_course, State.learn_course,
                State.peerState_course, course_ite, ite_self]

theorem sendBeat_course {k : Nat} : (sendBeat k s).course = s.course := by
  simp only [sendBeat, State.adtSend_course]

theorem sendAnnounce_course {k : Nat} {update : Bool} : (sendAnnounce k update s).course = s.course := by
  unfold sendAnnounce
  split
  · rfl
  · simp only [State.count_course, State.adtSend_course]

theorem announce_course {k g : Nat} {t : Truss} {o : Nat} : (announce k g t o s).course = s.course := by
  simp only [announce, State.modPeer_course, sendAnnounce_course]

theorem markDirty_course {k : Nat} {is : List Nat} : (markDirty k is s).course = s.course := (rfl)

theorem repairFrags_course {k g : Nat} {x : Slice} {flags : Nat} {want : Nat → Bool} {since : Nat} :
    (repairFrags k g x flags want since s).2.course = s.course := by
  unfold repairFrags
  dsimp only
  split
  · rfl
  · simp only [State.adtSendBy_course, course_ite, snd_ite, ite_self, foldl_course, implies_true]

theorem sliceSent_course {k : Nat} {x : Slice} : (sliceSent k x s).course = s.course := by
  simp only [sliceSent, State.countUnits_course, State.count_course, State.modPeer_course, course_ite, ite_self]

theorem lateSlice_course {k g : Nat} {x : Slice} : (lateSlice k g x s).course = s.course := by
  simp only [lateSlice, repairFrags_course, State.modAdt_course, sliceSent_course, markDirty_course, State.count_course, course_ite,
    ite_self]

theorem placeSlice_course {k g : Nat} {x : Slice} {patched : Bool} : (placeSlice k g x patched s).course = s.course := by
  simp only [placeSlice, lateSlice_course, State.modAdt_course, State.count_course, markDirty_course, course_ite, ite_self]

theorem encodeRow_course {g : Nat} {t : Truss} {i : TItem} {n : Word} {strip : Strip} {patched : Bool} :
    (encodeRow g t i n strip patched s).course = s.course := by
  simp only [encodeRow, markDirty_course, State.countN_course, State.countUnits_course, placeSlice_course, course_ite, ite_self,
    foldl_course, implies_true]

theorem burstSlice_course {p : Nat} {x : Slice} : (burstSlice p x s).course = s.course := by
  simp only [burstSlice, sliceSent_course, State.modPeer_course, State.askNeighbour_course, State.countN_course, State.sentFrame_course,
    State.emit_course, State.modAdt_course, course_ite, ite_self, foldl_course, implies_true]

theorem settleHeld_course {k : Nat} {n : Word} {count : Nat} : (settleHeld k n count s).course = s.course := (rfl)

theorem present_course {k : Nat} {n : Word} {count : Nat} : (present k n count s).course = s.course := by
  simp only [present, settleHeld_course, markDirty_course, State.modAdt_course, State.count_course, State.adtSend_course,
    State.liveAgain_course, State.modPeer_course, course_ite, ite_self]

/-! ### The display transport -/

theorem execBeaconTimer_leadsOn : LeadsOn s.course (execBeaconTimer s) := by
  simp only [execBeaconTimer, State.untilAon_onward, State.modAdt_course, State.enqueue_course, course_ite, leadsOn_done, leadsOn_ite,
    ite_self, foldl_course, Course.Onward.refl, implies_true]

theorem sendAccept_course {k : Nat} {b : TBinding} {again : Bool} : (sendAccept k b again s).course = s.course := by
  simp only [sendAccept, State.adtSend_course]

theorem openSession_course {k : Nat} {b : TBinding} {v : Nat} {d : AdtDgram} {h : Hello} : (openSession k b v d h s).course = s.course := by
  simp only [openSession, State.modAdt_course, keepRtag_course, State.modPeer_course, State.count_course, sendAccept_course,
    settleEndpoint_course, State.peerState_course, State.modIng_course, State.adtSend_course, course_ite, ite_self, State.drawHandle_course]

theorem execAdtHelloRx_leadsOn {d : AdtDgram} {hello : Hello} : LeadsOn s.course (execAdtHelloRx d hello s) := by
  unfold execAdtHelloRx
  split
  · simp only [State.rxDiscard_course, leadsOn_done, Course.Onward.refl]
  · dsimp only
    split
    · simp only [State.rxFrame_course, leadsOn_done, Course.Onward.refl]
    · split
      · simp only [State.rxFrame_course, State.count_course, leadsOn_done, Course.Onward.refl]
      · split <;> simp only [State.rxFrame_course, State.count_course, State.learn_course, openSession_course, leadsOn_done,
          Course.Onward.refl, State.sendIp_course]

theorem execAdtHeartbeatRx_leadsOn {d : AdtDgram} {frame : Word} {summary : Nat} {flags _late : Half} {offset : ℤ} :
    LeadsOn s.course (execAdtHeartbeatRx d frame summary flags _late offset s) := by
  unfold execAdtHeartbeatRx
  split
  · rename_i t e
    obtain rfl := snd_of_eq e
    simp only [adtTake_course, leadsOn_done, Course.Onward.refl]
  · rename_i t e
    obtain rfl := snd_of_eq e
    dsimp only
    split <;> simp only [adtTake_course, State.modPeer_course, State.count_course, resetHeld_course, leadsOn_done, leadsOn_ite, ite_self,
      Course.Onward.refl]

theorem execAdtLeaveRx_leadsOn {d : AdtDgram} {_reason : Half} : LeadsOn s.course (execAdtLeaveRx d _reason s) := by
  unfold execAdtLeaveRx
  split
  · rename_i t e
    obtain rfl := snd_of_eq e
    simp only [adtTake_course, leadsOn_done, Course.Onward.refl]
  · rename_i t e
    obtain rfl := snd_of_eq e
    simp only [adtTake_course, closeSession_course, leadsOn_done, Course.Onward.refl]

theorem execAdtHeartbeatTx_leadsOn {source : Bool} {number : Half} : LeadsOn s.course (execAdtHeartbeatTx source number s) := by
  simp only [execAdtHeartbeatTx, State.untilAon_onward, sendBeat_course, State.modPeer_course, leadsOn_done, leadsOn_ite, ite_self,
    Course.Onward.refl]

theorem execAdtPeerNotLive_leadsOn {source : Bool} {number : Half} : LeadsOn s.course (execAdtPeerNotLive source number s) := by
  simp only [execAdtPeerNotLive, resetHeld_course, State.peerState_course, State.untilAon_onward, State.modAdt_course, leadsOn_done,
    leadsOn_ite, ite_self, Course.Onward.refl]

theorem execAdtSessionTimeout_leadsOn {source : Bool} {number : Half} : LeadsOn s.course (execAdtSessionTimeout source number s) := by
  simp only [execAdtSessionTimeout, State.count_course, closeSession_course, State.untilAon_onward, leadsOn_done, leadsOn_ite, ite_self,
    Course.Onward.refl]

theorem execAnnounceTime_leadsOn {g : Fin 16} : LeadsOn s.course (execAnnounceTime g s) := by
  simp only [execAnnounceTime, State.untilPlan_onward, announce_course, State.modGroup_course, course_ite, leadsOn_done, leadsOn_ite,
    ite_self, foldl_course, Course.Onward.refl, implies_true]

theorem execMortiseOpen_leadsOn {p : Fin 4} {g : Fin 16} {index : Nat} : LeadsOn s.course (execMortiseOpen p g index s) := by
  unfold execMortiseOpen
  split
  · simp only [leadsOn_done, Course.Onward.refl]
  · dsimp only
    split <;> simp only [leadsOn_done, Course.Onward.refl, State.untilPlan_onward, State.modEth_course, State.fault_course,
      State.modPeer_course, markDirty_course, burstSlice_course, lateSlice_course, course_ite, snd_ite, leadsOn_ite, ite_self,
      foldl_snd_course, implies_true]

theorem execAdtRepairRx_leadsOn {d : AdtDgram} {frame : Word} {flags : Half} {entries : List (Half × Long)} :
    LeadsOn s.course (execAdtRepairRx d frame flags entries s) := by
  unfold execAdtRepairRx
  split
  · rename_i t e
    obtain rfl := snd_of_eq e
    simp only [adtTake_course, leadsOn_done, Course.Onward.refl]
  · rename_i t e
    obtain rfl := snd_of_eq e
    dsimp only
    split
    · simp only [adtTake_course, State.count_course, leadsOn_done, Course.Onward.refl]
    · split
      · simp only [adtTake_course, State.count_course, State.countN_course, leadsOn_done, Course.Onward.refl]
      · split
        · simp only [adtTake_course, State.count_course, markDirty_course, State.modPeer_course, leadsOn_done, foldl_course,
            Course.Onward.refl, implies_true]
        · refine leadsOn_done.mpr ?_
          refine foldl_onward (fun s x => ?_) ?_
          · split <;> simp only [Course.Onward.refl, State.count_course, markDirty_course, State.modPeer_course, State.countN_course,
              repairFrags_course, course_ite, ite_self]
          · simp only [adtTake_course, State.count_course, sendAnnounce_course, course_ite, ite_self, Course.Onward.refl]

theorem execAdtBlankRepeat_leadsOn {number : Half} : LeadsOn s.course (execAdtBlankRepeat number s) := by
  unfold execAdtBlankRepeat
  dsimp only
  split <;> simp only [leadsOn_done, Course.Onward.refl, State.emitBlank_course, State.untilAon_onward, leadsOn_ite, ite_self]

theorem execAdtHoldEnd_leadsOn {number : Half} : LeadsOn s.course (execAdtHoldEnd number s) := by
  simp only [execAdtHoldEnd, endHold_course, State.untilAon_onward, leadsOn_done, leadsOn_ite, ite_self, Course.Onward.refl]

theorem execAdtConfig_leadsOn {c : KcpCtx} {port heartbeat hold repair : Half} {beacon : Byte} {group : BitVec 128} :
    LeadsOn s.course (execAdtConfig c port heartbeat hold repair beacon group s) := by
  simp only [execAdtConfig, closeSession_course, course_ite, st_ite, ite_self, course_mk, course_eta, foldl_course, Course.Onward.refl,
    implies_true, replyOk_st, badParam_st, kcp_leadsOn]

theorem withPeer_onward {f : Nat} {kind : Byte} {number : Half} {go : Nat → Reply} (on : κ.Onward s.course)
    (h : ∀ k, κ.Onward (go k).st.course) : κ.Onward (withPeer f kind number s go).st.course := by
  unfold withPeer
  refine onward_reply on (onward_reply on ?_)
  dsimp only
  exact onward_reply (h _) on

theorem execAdtQuery_leadsOn {c : KcpCtx} {kind : Byte} {number : Half} : LeadsOn s.course (execAdtQuery c kind number s) := by
  unfold execAdtQuery
  refine kcp_leadsOn fun f => ?_
  refine withPeer_onward (.refl _) (fun k => ?_)
  simp only [Course.Onward.refl, replyOk_st]

theorem execAdtBind_leadsOn {c : KcpCtx} {kind fixed : Byte} {number : Half} {peer : Long} {address : BitVec 128} :
    LeadsOn s.course (execAdtBind c kind fixed number peer address s) := by
  simp only [execAdtBind, withPeer_onward, leaveSession_course, State.modPeer_course, course_ite, st_ite, ite_self, Course.Onward.refl,
    implies_true, refuse_st, replyOk_st, badParam_st, kcp_leadsOn]

theorem execAdtDisconnect_leadsOn {c : KcpCtx} {kind : Byte} {number hold : Half} :
    LeadsOn s.course (execAdtDisconnect c kind number hold s) := by
  simp only [execAdtDisconnect, withPeer_onward, leaveSession_course, State.modPeer_course, course_ite, st_ite, ite_self,
    Course.Onward.refl, implies_true, replyOk_st, badParam_st, kcp_leadsOn]

theorem withRange_onward {f : Nat} {first count : Half} {go : List Nat → Reply} (on : κ.Onward s.course)
    (h : ∀ ks, κ.Onward (go ks).st.course) : κ.Onward (withRange f first count s go).st.course := by
  unfold withRange
  split
  · exact on
  split
  · exact on
  dsimp only
  split
  · exact on
  · exact h _

theorem execAdtRefresh_leadsOn {c : KcpCtx} {first count : Half} : LeadsOn s.course (execAdtRefresh c first count s) := by
  unfold execAdtRefresh
  refine kcp_leadsOn fun f => ?_
  simp only [withRange_onward, resetHeld_course, foldl_course, Course.Onward.refl, implies_true, replyOk_st]

theorem execAdtBlank_leadsOn {c : KcpCtx} {first count : Half} {op notice : Byte} {background colour : BitVec 24} :
    LeadsOn s.course (execAdtBlank c first count op notice background colour s) := by
  unfold execAdtBlank
  refine kcp_leadsOn fun f => ?_
  refine withRange_onward (.refl _) (fun ks => ?_)
  split
  · simp only [Course.Onward.refl, badParam_st]
  · split
    · simp only [Course.Onward.refl, badParam_st]
    · dsimp only
      rw [replyOk_st]
      refine foldl_onward (fun s x => ?_) ?_
      · split
        · split <;> simp only [endBlank_course, course_ite, ite_self, Course.Onward.refl]
        · simp only [State.modPeer_course, State.sendBlank_course, course_ite, ite_self, Course.Onward.refl]
      · simp only [Course.Onward.refl]

theorem execAdtSourceCtrl_leadsOn {c : KcpCtx} {source op : Byte} : LeadsOn s.course (execAdtSourceCtrl c source op s) := by
  simp only [execAdtSourceCtrl, State.modPeer_course, State.adtSend_course, course_ite, st_ite, ite_self, Course.Onward.refl,
    implies_true, refuse_st, replyOk_st, badParam_st, kcp_leadsOn]

theorem execAdtStats_leadsOn {c : KcpCtx} : LeadsOn s.course (execAdtStats c s) := by
  unfold execAdtStats
  refine kcp_leadsOn fun f => ?_
  simp only [Course.Onward.refl, replyOk_st]

/-! ### The counter page, its rows and the counter commands -/

theorem State.counterWide_course {f : Nat} {user : Bool} : (s.counterWide f user).course = s.course := (rfl)

theorem State.counterLo_course {f : Nat} {user : Bool} {c : Nat} : (s.counterLo f user c).2.course = s.course := by
  simp only [State.counterLo, State.modPmu_course, course_ite, snd_ite, ite_self]

theorem execPmuCntLoRead_leadsOn {fn : Fin 16} {user : Bool} {counter : BitVec 9} {wide : Bool} :
    LeadsOn s.course (execPmuCntLoRead fn user counter wide s) := by
  simp only [execPmuCntLoRead, State.bar0_course, State.emit_course, State.denied_course, State.counterWide_course,
    State.counterLo_course, course_ite, leadsOn_done, leadsOn_ite, ite_self, Course.Onward.refl]

theorem execPmuCntHiWrite_leadsOn {fn : Fin 16} {user : Bool} {counter : BitVec 9} {value : Word} :
    LeadsOn s.course (execPmuCntHiWrite fn user counter value s) := by
  simp only [execPmuCntHiWrite, State.bar0_course, State.denied_course, State.modPmu_course, course_ite, leadsOn_done, leadsOn_ite,
    ite_self, Course.Onward.refl]

theorem execPmuCntLoWrite_leadsOn {fn : Fin 16} {user : Bool} {counter : BitVec 9} {wide : Bool} {value : Long} :
    LeadsOn s.course (execPmuCntLoWrite fn user counter wide value s) := by
  simp only [execPmuCntLoWrite, State.bar0_course, State.denied_course, State.modPmu_course, course_ite, leadsOn_done, leadsOn_ite,
    ite_self, Course.Onward.refl]

theorem execPmuUpdate_leadsOn : LeadsOn s.course (execPmuUpdate s) := by
  simp only [execPmuUpdate, pmuUpdate_course, State.untilPlan_onward, leadsOn_done, leadsOn_ite, ite_self, Course.Onward.refl]

theorem execPmuSnapTakeBit_leadsOn {fn : Fin 16} : LeadsOn s.course (execPmuSnapTakeBit fn s) := by
  simp only [execPmuSnapTakeBit, State.bar0_course, State.denied_course, State.modPmu_course, leadsOn_done, leadsOn_ite, ite_self,
    Course.Onward.refl]

theorem execPmuSnapReleaseBit_leadsOn {fn : Fin 16} {bank : Fin 2} : LeadsOn s.course (execPmuSnapReleaseBit fn bank s) := by
  simp only [execPmuSnapReleaseBit, State.bar0_course, State.denied_course, State.modPmu_course, leadsOn_done, leadsOn_ite, ite_self,
    Course.Onward.refl]

theorem execSnapshotDone_leadsOn {ns : Nat} : LeadsOn s.course (execSnapshotDone ns s) := by
  unfold execSnapshotDone
  split <;> simp only [leadsOn_done, Course.Onward.refl, State.untilPlan_onward, State.modPmu_course, State.pend_course,
    State.recordTo_course]

theorem execSnapTimeLoRead_leadsOn {fn : Fin 16} : LeadsOn s.course (execSnapTimeLoRead fn s) := by
  simp only [execSnapTimeLoRead, State.emit_course, State.modPmu_course, State.counterWide_course, leadsOn_done, leadsOn_ite, ite_self,
    Course.Onward.refl]

theorem execBwWindowEnd_leadsOn {n : Fin 18} : LeadsOn s.course (execBwWindowEnd n s) := by
  simp only [execBwWindowEnd, State.untilPlan_onward, State.modPmu_course, State.pend_course, course_ite, leadsOn_done, ite_self,
    Course.Onward.refl]

theorem execPmuFcSet_leadsOn {c : KcpCtx} {counter mode path direction cls master chain clear : Byte} {privilege : Word} {event : Half}
    {low high : Long} :
    LeadsOn s.course (execPmuFcSet c counter mode path direction cls master chain clear privilege event low high s) := by
  simp only [execPmuFcSet, State.modPmu_course, course_ite, st_ite, ite_self, Course.Onward.refl, implies_true, refuse_st, replyOk_st,
    badParam_st, kcp_leadsOn]

theorem execPmuFcQuery_leadsOn {c : KcpCtx} {counter : Byte} : LeadsOn s.course (execPmuFcQuery c counter s) := by
  simp only [execPmuFcQuery, st_ite, ite_self, Course.Onward.refl, implies_true, refuse_st, replyOk_st, badParam_st, kcp_leadsOn]

theorem execPmuSnapCfg_leadsOn {c : KcpCtx} {mask group cls hold : Byte} {period : Word} :
    LeadsOn s.course (execPmuSnapCfg c mask group cls hold period s) := by
  simp only [execPmuSnapCfg, course_ite, st_ite, ite_self, course_mk, course_eta, Course.Onward.refl, implies_true, replyOk_st,
    badParam_st, kcp_leadsOn]

theorem execPmuSnapTake_leadsOn {c : KcpCtx} : LeadsOn s.course (execPmuSnapTake c s) := by
  simp only [execPmuSnapTake, State.modPmu_course, course_ite, st_ite, ite_self, Course.Onward.refl, implies_true, refuse_st, replyOk_st,
    kcp_leadsOn]

theorem execPmuSnapQuery_leadsOn {c : KcpCtx} : LeadsOn s.course (execPmuSnapQuery c s) := by
  simp only [execPmuSnapQuery, st_ite, ite_self, Course.Onward.refl, implies_true, refuse_st, replyOk_st, kcp_leadsOn]

theorem execPmuBwSet_leadsOn {c : KcpCtx} {engine k align cls : Byte} {threshold : Word} {clear : Byte} :
    LeadsOn s.course (execPmuBwSet c engine k align cls threshold clear s) := by
  simp only [execPmuBwSet, bwPartial_course, State.modPmu_course, course_ite, st_ite, ite_self, course_mk, course_eta, Course.Onward.refl,
    implies_true, replyOk_st, badParam_st, kcp_leadsOn]

theorem execPmuBwQuery_leadsOn {c : KcpCtx} {engine : Byte} : LeadsOn s.course (execPmuBwQuery c engine s) := by
  simp only [execPmuBwQuery, st_ite, ite_self, Course.Onward.refl, implies_true, refuse_st, replyOk_st, badParam_st, kcp_leadsOn]

theorem execPmuClear_leadsOn {c : KcpCtx} {mask : Byte} : LeadsOn s.course (execPmuClear c mask s) := by
  simp only [execPmuClear, State.modPmu_course, course_ite, st_ite, ite_self, Course.Onward.refl, implies_true, replyOk_st, badParam_st,
    kcp_leadsOn]

/-! ### The DMA engine -/

theorem dmaPost_onward {c : Nat} {d : Desc} {status bytes : Nat} (on : κ.Onward s.course) :
    κ.Onward (dmaPost c d status bytes s).course := by
  simp only [dmaPost, cqPost_course, State.modCh_course, cqWrite_onward, on, course_ite, onward_ite, ite_self]

theorem dmaEnd_onward {c status : Nat} (on : κ.Onward s.course) : κ.Onward (dmaEnd c status s).course := by
  unfold dmaEnd
  dsimp only
  split
  · exact on
  · simp only [dmaPost_onward, State.modCh_course, State.count_course, State.pend_course, on, course_ite, ite_self]

theorem dmaRefuse_onward {c : Nat} (on : κ.Onward s.course) : κ.Onward (dmaRefuse c s).course := by
  simp only [dmaRefuse, State.fault_course, dmaEnd_onward, on]

theorem dmaTake_onward {c : Nat} {m : HostMem} (on : κ.Onward s.course) : κ.Onward (dmaTake c m s).course := by
  unfold dmaTake
  dsimp only
  split
  · exact on
  · split <;> simp only [State.hostRead_course, State.memLoad_course, State.pend_course, State.fault_course, State.modCh_course, on,
      course_ite, snd_ite, ite_self, State.bgAdvance_course, dmaRefuse_onward, onward_ite]

theorem movePiece_onward {c : Nat} {d : Desc} {m : HostMem} {i col n : Nat} (on : κ.Onward s.course) :
    κ.Onward (movePiece c d m i col n s).2.course := by
  unfold movePiece
  extract_lets f src dst asked w r got counted
  have read : got.2.2.course = s.course := by
    unfold got
    split
    · rfl
    split
    · split <;> exact State.hostRead_course
    · split <;> simp only [r, w, State.memLoad_course, State.countN_course, State.draw_course]
  have same : counted.course = s.course := by simp only [counted, State.countUnits_course, course_ite, ite_self, read]
  clear_value got counted
  split
  · split <;> simp only [State.hostStore_course, State.memWrite_onward, same, on]
  · rwa [read]

theorem moveBytes_onward {c : Nat} {d : Desc} {m : HostMem} {n : Nat} (on : κ.Onward s.course) :
    κ.Onward (moveBytes c d m n s).2.course := by
  simp only [moveBytes, movePiece_onward, State.modCh_course, on, course_ite, snd_ite, onward_ite, ite_self, foldl_snd_onward,
    Course.Onward.refl, implies_true]

theorem dmaFails_onward {c : Nat} {e : Moved} (on : κ.Onward s.course) : κ.Onward (dmaFails c e s).course := by
  simp only [dmaFails, dmaEnd_onward, State.fault_course, on, course_ite, ite_self]

theorem serveRequest_onward {line : Nat} {m : HostMem} {c : Nat} (on : κ.Onward s.course) : κ.Onward (serveRequest line m c s).course := by
  unfold serveRequest
  dsimp only
  split
  · simp only [State.modDma_course, moveBytes_onward, State.modCh_course, dmaTake_onward, dmaFails_onward, on, course_ite, onward_ite,
      ite_self]
  · exact on

theorem execDmaRequest_leadsOn {line : Fin 64} {m : HostMem} : LeadsOn s.course (execDmaRequest line m s) := by
  unfold execDmaRequest
  refine leadsOn_done.mpr ?_
  refine foldl_onward (fun s x => ?_) ?_ <;> simp only [serveRequest_onward, course_ite, onward_ite, ite_self, foldl_onward,
    Course.Onward.refl, implies_true]

theorem execDmaDescDone_leadsOn {c : Fin 32} {m : HostMem} : LeadsOn s.course (execDmaDescDone c m s) := by
  unfold execDmaDescDone
  dsimp only
  split
  · simp only [dmaTake_onward, leadsOn_done, Course.Onward.refl]
  · split
    · simp only [leadsOn_done, Course.Onward.refl]
    · split
      · refine leadsOn_done.mpr ?_
        refine dmaTake_onward ?_
        simp only [moveBytes_onward, dmaEnd_onward, dmaFails_onward, course_ite, onward_ite, ite_self, Course.Onward.refl]
      · simp only [dmaTake_onward, dmaEnd_onward, leadsOn_done, leadsOn_ite, ite_self, Course.Onward.refl]

theorem execDmaDoorbell_leadsOn {fn : Fin 16} {c : Fin 32} {value : Word} {m : HostMem} :
    LeadsOn s.course (execDmaDoorbell fn c value m s) := by
  unfold execDmaDoorbell
  split
  · simp only [leadsOn_done, Course.Onward.refl]
  · dsimp only
    split
    · simp only [State.bar0_course, State.denied_course, leadsOn_done, Course.Onward.refl]
    · split
      · simp only [State.bar0_course, leadsOn_done, Course.Onward.refl]
      · refine leadsOn_done.mpr ?_
        refine dmaTake_onward ?_
        simp only [State.bar0_course, State.modCh_course, Course.Onward.refl]

theorem execDmaChCfgWrite_leadsOn {fn : Fin 16} {c : Fin 32} {value : Word} {m : HostMem} :
    LeadsOn s.course (execDmaChCfgWrite fn c value m s) := by
  simp only [execDmaChCfgWrite, State.bar0_course, State.denied_course, State.count_course, State.modCh_course, dmaTake_onward,
    course_ite, leadsOn_done, leadsOn_ite, ite_self, Course.Onward.refl]

theorem dmaAbort_onward {c : Nat} (on : κ.Onward s.course) : κ.Onward (dmaAbort c s).course := by
  simp only [dmaAbort, State.modCh_course, dmaEnd_onward, on]

theorem execDmaChAbort_leadsOn {fn : Fin 16} {c : Fin 32} : LeadsOn s.course (execDmaChAbort fn c s) := by
  unfold execDmaChAbort
  split
  · simp only [leadsOn_done, Course.Onward.refl]
  · dsimp only
    split
    · simp only [State.bar0_course, State.denied_course, leadsOn_done, Course.Onward.refl]
    · refine leadsOn_done.mpr ?_
      refine dmaAbort_onward ?_
      simp only [State.bar0_course, Course.Onward.refl]

theorem execDmaChResume_leadsOn {fn : Fin 16} {c : Fin 32} {m : HostMem} : LeadsOn s.course (execDmaChResume fn c m s) := by
  unfold execDmaChResume
  split
  · simp only [leadsOn_done, Course.Onward.refl]
  · dsimp only
    split
    · simp only [State.bar0_course, State.denied_course, leadsOn_done, Course.Onward.refl]
    · split
      · refine leadsOn_done.mpr ?_
        refine dmaTake_onward ?_
        simp only [State.bar0_course, State.modCh_course, Course.Onward.refl]
      · simp only [State.bar0_course, leadsOn_done, Course.Onward.refl]

theorem execDmaSwreq_leadsOn {fn : Fin 16} {value : Half} : LeadsOn s.course (execDmaSwreq fn value s) := by
  simp only [execDmaSwreq, State.bar0_course, State.assertLine_course, leadsOn_done, leadsOn_ite, ite_self, foldl_course,
    Course.Onward.refl, implies_true]

theorem execDreqEdge_leadsOn {line : Fin 4} {qualified : Bool} {levels : BitVec 4} :
    LeadsOn s.course (execDreqEdge line qualified levels s) := by
  simp only [execDreqEdge, State.modDma_course, State.assertLine_course, State.count_course, leadsOn_done, leadsOn_ite, ite_self,
    Course.Onward.refl]

theorem cqDrain_onward {q : Nat} {m : HostMem} (on : κ.Onward s.course) : κ.Onward (cqDrain q m s).course := by
  unfold cqDrain
  refine foldl_onward (fun s x => ?_) on
  split
  · split
    · dsimp only
      refine dmaTake_onward ?_
      split
      · refine cqWrite_onward ?_
        simp only [State.modCh_course, Course.Onward.refl]
      · simp only [State.modCh_course, Course.Onward.refl]
    · simp only [Course.Onward.refl]
  · simp only [Course.Onward.refl]

theorem execDmaCqConsWrite_leadsOn {fn : Fin 16} {q : Fin 8} {value : Word} {m : HostMem} :
    LeadsOn s.course (execDmaCqConsWrite fn q value m s) := by
  simp only [execDmaCqConsWrite, State.bar0_course, State.denied_course, cqDrain_onward, cqLevel_course, State.modCq_course, leadsOn_done,
    leadsOn_ite, ite_self, Course.Onward.refl]

theorem execDmaCqCfgWrite_leadsOn {fn : Fin 16} {q : Fin 8} {value : Word} {m : HostMem} :
    LeadsOn s.course (execDmaCqCfgWrite fn q value m s) := by
  simp only [execDmaCqCfgWrite, State.bar0_course, State.denied_course, State.count_course, cqDrain_onward, State.modCq_course,
    course_ite, leadsOn_done, leadsOn_ite, ite_self, Course.Onward.refl]

theorem dmaSurprise_onward (on : κ.Onward s.course) : κ.Onward (dmaSurprise s).course := by
  unfold dmaSurprise
  refine foldl_onward (fun s x => ?_) on
  split <;> simp only [dmaEnd_onward, course_ite, onward_ite, ite_self, Course.Onward.refl]

theorem dmaFlr_onward {f : Nat} (on : κ.Onward s.course) : κ.Onward (dmaFlr f s).course := by
  simp only [dmaFlr, dmaAbort_onward, State.modCq_course, on, course_ite, onward_ite, ite_self, foldl_course, foldl_onward,
    Course.Onward.refl, implies_true]

theorem execDmaCqCfg_leadsOn {c : KcpCtx} {queue owner : Byte} : LeadsOn s.course (execDmaCqCfg c queue owner s) := by
  simp only [execDmaCqCfg, State.modCq_course, course_ite, st_ite, ite_self, Course.Onward.refl, implies_true, refuse_st, replyOk_st,
    badParam_st, kcp_leadsOn]

theorem execDmaReqMap_leadsOn {c : KcpCtx} {line : Byte} {source : Half} : LeadsOn s.course (execDmaReqMap c line source s) := by
  simp only [execDmaReqMap, State.modDma_course, course_ite, st_ite, ite_self, Course.Onward.refl, implies_true, replyOk_st, badParam_st,
    kcp_leadsOn]

theorem execDmaQuery_leadsOn {c : KcpCtx} {channel : Byte} : LeadsOn s.course (execDmaQuery c channel s) := by
  simp only [execDmaQuery, st_ite, ite_self, Course.Onward.refl, implies_true, refuse_st, replyOk_st, badParam_st, kcp_leadsOn]

/-! ### The fault collector's events, force bits and commands -/

theorem fltSamplePin_course {high : Bool} : (fltSamplePin high s).2.course = s.course := (rfl)

theorem execBrokenWire_leadsOn {source : Fin 192} : LeadsOn s.course (execBrokenWire source s) := by
  simp only [execBrokenWire, State.faults_course, leadsOn_done, Course.Onward.refl]

theorem execFaultLiveFall_leadsOn {source : Fin 192} : LeadsOn s.course (execFaultLiveFall source s) := by
  simp only [execFaultLiveFall, State.fltFall_course, leadsOn_done, Course.Onward.refl]

theorem quietEnd_onward {x : Nat} (on : κ.Onward s.course) : κ.Onward (quietEnd x s).course := by
  simp only [quietEnd, State.untilAon_onward, State.modFltSrc_course, State.putFence_course, chooseVariants_course, fltUncover_course,
    fltRecoveryEvent_course, State.count_course, State.putLock_course, on, course_ite, onward_ite, ite_self]

theorem logCopy_onward {r : FltRec} (on : κ.Onward s.course) : κ.Onward (logCopy r s).course := by
  simp only [logCopy, State.memStore_onward, on, foldl_onward, Course.Onward.refl, implies_true]

theorem execFaultRingMirror_leadsOn : LeadsOn s.course (execFaultRingMirror s) := by
  unfold execFaultRingMirror
  split
  · simp only [leadsOn_done, Course.Onward.refl]
  · split
    · simp only [leadsOn_done, Course.Onward.refl]
    · dsimp only
      refine leadsOn_done.mpr ?_
      refine foldl_onward (fun s x => ?_) ?_ <;> simp only [logCopy_onward, Course.Onward.refl, State.modFltMram_course,
        State.modFlt_course]

theorem execErrnPulseEnd_leadsOn : LeadsOn s.course (execErrnPulseEnd s) := by
  simp only [execErrnPulseEnd, State.modFlt_course, State.untilAon_onward, leadsOn_done, leadsOn_ite, ite_self, Course.Onward.refl]

theorem execCoreWatchdogExpiry_leadsOn {core : Fin 4} : LeadsOn s.course (execCoreWatchdogExpiry core s) := by
  simp only [execCoreWatchdogExpiry, State.fault_course, leadsOn_done, Course.Onward.refl]

theorem fltForce_course {fn v : Nat} : (fltForce fn v s).course = s.course := by
  simp only [fltForce, State.denied_course, fltReturn_course, State.classify_course, State.modFltSrc_course, fltCycle_course, course_ite,
    ite_self]

theorem execFltForceAssert_leadsOn {fn : Fin 16} {value : Word} : LeadsOn s.course (execFltForceAssert fn value s) := by
  simp only [execFltForceAssert, State.bar0_course, fltForce_course, leadsOn_done, leadsOn_ite, ite_self, Course.Onward.refl]

theorem execFltForceBroken_leadsOn {fn : Fin 16} {value : Word} : LeadsOn s.course (execFltForceBroken fn value s) := by
  simp only [execFltForceBroken, State.bar0_course, fltForce_course, leadsOn_done, leadsOn_ite, ite_self, Course.Onward.refl]

theorem execFltForceRelease_leadsOn {fn : Fin 16} {value : Word} : LeadsOn s.course (execFltForceRelease fn value s) := by
  simp only [execFltForceRelease, State.bar0_course, fltForce_course, leadsOn_done, leadsOn_ite, ite_self, Course.Onward.refl]

theorem execFltQuery_leadsOn {c : KcpCtx} : LeadsOn s.course (execFltQuery c s) := by
  simp only [execFltQuery, st_ite, ite_self, Course.Onward.refl, implies_true, refuse_st, replyOk_st, kcp_leadsOn]

theorem fltLogRead_onward {c : KcpCtx} {first : Word} {count : Half} {mode : Byte} {address : Long} {f : Nat} (on : κ.Onward s.course) :
    κ.Onward (fltLogRead c first count mode address f s).st.course := by
  simp only [fltLogRead, State.memWrite_onward, State.hostWrite_course, on, course_ite, st_ite, onward_ite, ite_self, refuse_st,
    replyOk_st, badParam_st]

theorem execFltLogRead_leadsOn {c : KcpCtx} {first : Word} {count : Half} {mode : Byte} {address : Long} :
    LeadsOn s.course (execFltLogRead c first count mode address s) := by
  simp only [execFltLogRead, fltLogRead_onward, Course.Onward.refl, implies_true, kcpRun_leadsOn]

theorem fltAck_course {kind first count _f : Nat} : (fltAck kind first count _f s).st.course = s.course := by
  simp only [fltAck, fltMove_course, State.modFlt_course, fltClear_course, course_ite, st_ite, ite_self, replyOk_st, badParam_st]

theorem execFltAck_leadsOn {c : KcpCtx} {kind : Byte} {first count : Half} : LeadsOn s.course (execFltAck c kind first count s) := by
  simp only [execFltAck, fltAck_course, Course.Onward.refl, implies_true, kcp_leadsOn]

theorem execFltSetSource_leadsOn {c : KcpCtx} {first count : Half} {minClass n ceiling : Byte} {w : Word} :
    LeadsOn s.course (execFltSetSource c first count minClass n ceiling w s) := by
  simp only [execFltSetSource, State.modFltMram_course, course_ite, st_ite, ite_self, Course.Onward.refl, implies_true, replyOk_st,
    badParam_st, kcp_leadsOn]

theorem execFltSetRecovery_leadsOn {c : KcpCtx} {k : Byte} {q2 q3 : Half} : LeadsOn s.course (execFltSetRecovery c k q2 q3 s) := by
  simp only [execFltSetRecovery, State.modFltMram_course, course_ite, st_ite, ite_self, Course.Onward.refl, implies_true, replyOk_st,
    badParam_st, kcp_leadsOn]

theorem fltUnfence_course {x _f : Nat} : (fltUnfence x _f s).st.course = s.course := by
  simp only [fltUnfence, State.putLock_course, State.putFence_course, State.modFltSrc_course, chooseVariants_course, fltUncover_course,
    course_ite, st_ite, ite_self, refuse_st, replyOk_st, badParam_st]

theorem execFltSetErrn_leadsOn {c : KcpCtx} {pulseClass levelClass : Byte} {pulseUs : Half} {swLevel : Byte} :
    LeadsOn s.course (execFltSetErrn c pulseClass levelClass pulseUs swLevel s) := by
  simp only [execFltSetErrn, State.modFltMram_course, State.modFlt_course, course_ite, st_ite, ite_self, Course.Onward.refl, implies_true,
    replyOk_st, badParam_st, kcp_leadsOn]

theorem execFltSetSafeField_leadsOn {c : KcpCtx} {address : Long} {length : Word} :
    LeadsOn s.course (execFltSetSafeField c address length s) := by
  unfold execFltSetSafeField
  refine kcp_leadsOn fun f => ?_
  dsimp only
  split
  · simp only [Course.Onward.refl, badParam_st]
  · split
    · simp only [Course.Onward.refl, badParam_st]
    · split
      · rename_i t e
        obtain rfl := snd_of_eq e
        simp only [State.memFetch_course, Course.Onward.refl, refuse_st]
      · rename_i t e
        obtain rfl := snd_of_eq e
        split <;> simp only [State.memFetch_course, Course.Onward.refl, badParam_st, State.modFltMram_course, replyOk_st]

theorem execFltEnterSafe_leadsOn {c : KcpCtx} {confirm : Word} : LeadsOn s.course (execFltEnterSafe c confirm s) := by
  simp only [execFltEnterSafe, State.modFlt_course, course_ite, st_ite, ite_self, Course.Onward.refl, implies_true, replyOk_st,
    badParam_st, kcp_leadsOn]

theorem execFltEnterSafeDue_leadsOn : LeadsOn s.course (execFltEnterSafeDue s) := by
  simp only [execFltEnterSafeDue, State.untilAon_onward, State.fault_course, State.modFlt_course, leadsOn_done, leadsOn_ite, ite_self,
    Course.Onward.refl]

theorem execFltSrcQuery_leadsOn {c : KcpCtx} {source : Half} : LeadsOn s.course (execFltSrcQuery c source s) := by
  simp only [execFltSrcQuery, st_ite, ite_self, Course.Onward.refl, implies_true, refuse_st, replyOk_st, badParam_st, kcp_leadsOn]

/-! ### References, PLLs, tracking, SYNC_IN, SYNC_OUT and the clock commands -/

theorem execClkTimeLoRead_leadsOn {fn : Fin 16} : LeadsOn s.course (execClkTimeLoRead fn s) := by
  simp only [execClkTimeLoRead, State.bar0_course, State.emit_course, leadsOn_done, leadsOn_ite, ite_self, Course.Onward.refl,
    modClk_course]

theorem execClkNtOffsetLoRead_leadsOn {fn : Fin 16} : LeadsOn s.course (execClkNtOffsetLoRead fn s) := by
  simp only [execClkNtOffsetLoRead, State.bar0_course, State.emit_course, leadsOn_done, leadsOn_ite, ite_self, Course.Onward.refl,
    modClk_course]

theorem holdN_course {k : Nat} : (holdN k s).course = s.course := (rfl)

theorem trackMeasure_course {k : Nat} : (trackMeasure k s).course = s.course := by
  unfold trackMeasure
  dsimp only
  split
  · rfl
  · split <;> simp only [holdN_course, State.modPll_course]

theorem execTrackerNStep_leadsOn {k : Fin 8} : LeadsOn s.course (execTrackerNStep k s) := by
  simp only [execTrackerNStep, State.untilPlan_onward, State.modPll_course, course_ite, onward_ite, leadsOn_done, leadsOn_ite, ite_self,
    Course.Onward.refl]

theorem execSyncInEdge_leadsOn {afterNs highNs : Nat} : LeadsOn s.course (execSyncInEdge afterNs highNs s) := by
  simp only [execSyncInEdge, State.elapse_onward, leadsOn_done, leadsOn_ite, ite_self, Course.Onward.refl, modClk_course]

theorem execSyncInMissing_leadsOn : LeadsOn s.course (execSyncInMissing s) := by
  simp only [execSyncInMissing, State.untilPlan_onward, holdN_course, course_ite, leadsOn_done, leadsOn_ite, ite_self, foldl_course,
    Course.Onward.refl, modClk_course, implies_true]

theorem setSyncOut_course {x : SyncOutCfg} : (setSyncOut x s).course = s.course := by
  simp only [setSyncOut, course_ite, ite_self, modClk_course]

theorem riseSyncOut_course : (riseSyncOut s).course = s.course := (rfl)

theorem execSyncOutRise_leadsOn : LeadsOn s.course (execSyncOutRise s) := by
  unfold execSyncOutRise
  split
  · simp only [leadsOn_done, Course.Onward.refl]
  · split
    · dsimp only
      split <;> simp only [riseSyncOut_course, State.untilPlan_onward, leadsOn_done, Course.Onward.refl, course_ite, ite_self,
        modClk_course]
    · split
      · simp only [riseSyncOut_course, State.untilPlan_onward, leadsOn_done, Course.Onward.refl]
      · split
        · split <;> simp only [riseSyncOut_course, State.untilPlan_onward, leadsOn_done, Course.Onward.refl]
        · simp only [leadsOn_done, Course.Onward.refl]

theorem execSyncOutFall_leadsOn : LeadsOn s.course (execSyncOutFall s) := by
  unfold execSyncOutFall
  split
  · simp only [leadsOn_done, Course.Onward.refl]
  · dsimp only
    split <;> simp only [State.modPins_course, State.untilPlan_onward, leadsOn_done, leadsOn_ite, ite_self, Course.Onward.refl,
      modClk_course]

theorem execTimeHoldover_leadsOn : LeadsOn s.course (execTimeHoldover s) := by
  simp only [execTimeHoldover, setTimeMode_course, State.untilPlan_onward, leadsOn_done, leadsOn_ite, ite_self, Course.Onward.refl]

theorem execClkQuery_leadsOn {c : KcpCtx} {pll : Byte} : LeadsOn s.course (execClkQuery c pll s) := by
  simp only [execClkQuery, st_ite, ite_self, Course.Onward.refl, implies_true, replyOk_st, badParam_st, kcp_leadsOn]

theorem execClkSetTrack_leadsOn {c : KcpCtx} {pll source group : Byte} {deadband : Half} {period : Word} :
    LeadsOn s.course (execClkSetTrack c pll source group deadband period s) := by
  unfold execClkSetTrack
  refine kcp_leadsOn fun f => ?_
  dsimp only
  split
  · simp only [Course.Onward.refl, badParam_st]
  · split
    · simp only [Course.Onward.refl, badParam_st]
    · split
      · simp only [Course.Onward.refl, badParam_st]
      · split
        · simp only [Course.Onward.refl, badParam_st]
        · split <;> simp only [Course.Onward.refl, refuse_st, State.defer_onward, course_ite, st_ite, onward_ite, ite_self, replyOk_st,
            badParam_st]

theorem execClkSetSyncOut_leadsOn {c : KcpCtx} {mode group : Byte} {width : Half} {offset : Word} :
    LeadsOn s.course (execClkSetSyncOut c mode group width offset s) := by
  simp only [execClkSetSyncOut, State.defer_onward, course_ite, st_ite, onward_ite, ite_self, Course.Onward.refl, modClk_course,
    implies_true, refuse_st, replyOk_st, badParam_st, kcp_leadsOn]

theorem execClkRelock_leadsOn {c : KcpCtx} {pll : Byte} : LeadsOn s.course (execClkRelock c pll s) := by
  simp only [execClkRelock, acquirePll_course, State.modPll_course, course_ite, st_ite, ite_self, Course.Onward.refl, implies_true,
    refuse_st, replyOk_st, badParam_st, kcp_leadsOn]

theorem execClkSetSettle_leadsOn {c : KcpCtx} {count : Half} : LeadsOn s.course (execClkSetSettle c count s) := by
  simp only [execClkSetSettle, State.modBootMram_course, course_ite, st_ite, ite_self, Course.Onward.refl, implies_true, replyOk_st,
    badParam_st, kcp_leadsOn]

/-! ### The heads -/

theorem applyPower_course {h v : Nat} : (applyPower h v s).course = s.course := by
  simp only [applyPower, State.modHead_course, headEvent_course, sinkPower_course, startTraining_course, course_ite, ite_self]

theorem leadFrame_course {h : Nat} : (leadFrame h s).course = s.course := by
  unfold leadFrame
  split
  · rfl
  · simp only [State.modGroup_course, course_ite, ite_self, modClk_course]

theorem dropStale_course {h : Nat} : (dropStale h s).course = s.course := by
  unfold dropStale
  split
  · rfl
  · simp only [State.modHead_course]

theorem headWbStart_onward {h : Nat} (on : κ.Onward s.course) : κ.Onward (headWbStart h s).course := by
  unfold headWbStart
  split
  · exact on
  · simp only [wbStart_onward, on, course_ite, onward_ite, ite_self]

theorem execHeadFrameStart_leadsOn {h : Fin 8} : LeadsOn s.course (execHeadFrameStart h s) := by
  unfold execHeadFrameStart
  dsimp only
  split
  · simp only [endRelock_course, leadsOn_done, Course.Onward.refl]
  · split
    · simp only [endRelock_course, leadsOn_done, Course.Onward.refl]
    · refine leadsOn_done.mpr ?_
      refine headWbStart_onward ?_
      rw [leadFrame_course]
      split <;> simp only [endRelock_course, State.untilPlan_onward, State.count_course, State.modHead_course, applyPower_course,
        dropStale_course, trackMeasure_course, course_ite, ite_self, Course.Onward.refl]

theorem headWbLine_onward {h y : Nat} {l : List (List Nat)} (on : κ.Onward s.course) : κ.Onward (headWbLine h y l s).course := by
  unfold headWbLine
  split
  · exact on
  · simp only [wbStrip_onward, on, course_ite, onward_ite, ite_self]

theorem execHeadLineStart_leadsOn {h : Fin 8} {ecc : Fin 3} : LeadsOn s.course (execHeadLineStart h ecc s) := by
  unfold execHeadLineStart
  split <;> simp only [leadsOn_done, Course.Onward.refl, State.untilPlan_onward, State.emit_course, State.modHead_course,
    State.count_course, State.fault_course, headWbLine_onward, course_ite, leadsOn_ite, ite_self]

theorem execHeadWritebackFrameEnd_leadsOn {h : Fin 8} : LeadsOn s.course (execHeadWritebackFrameEnd h s) := by
  unfold execHeadWritebackFrameEnd
  split <;> simp only [State.untilPlan_onward, State.modWb_course, course_ite, onward_ite, leadsOn_done, leadsOn_ite, ite_self,
    Course.Onward.refl]

theorem plugHead_course {h : Nat} {sink : SinkCaps} : (plugHead h sink s).course = s.course := by
  simp only [plugHead, State.pend_course, State.modHead_course, headRecord_course, sinkPower_course, startTraining_course, course_ite,
    ite_self]

theorem execHpdPlug_leadsOn {h : Fin 8} {sink : SinkCaps} : LeadsOn s.course (execHpdPlug h sink s) := by
  simp only [execHpdPlug, plugHead_course, leadsOn_done, leadsOn_ite, ite_self, Course.Onward.refl]

theorem execHpdUnplug_leadsOn {h : Fin 8} : LeadsOn s.course (execHpdUnplug h s) := by
  simp only [execHpdUnplug, State.pend_course, State.modHead_course, headRecord_course, endRelock_course, leadsOn_done, leadsOn_ite,
    ite_self, Course.Onward.refl]

theorem execIrqHpd_leadsOn {h : Fin 8} {linkLost : Bool} : LeadsOn s.course (execIrqHpd h linkLost s) := by
  simp only [execIrqHpd, State.pend_course, State.fault_course, State.modHead_course, startTraining_course, leadsOn_done, leadsOn_ite,
    ite_self, Course.Onward.refl]

theorem execHpdShortPulse_leadsOn {h : Fin 8} : LeadsOn s.course (execHpdShortPulse h s) := by
  simp only [execHpdShortPulse, State.modHead_course, leadsOn_done, leadsOn_ite, ite_self, Course.Onward.refl]

theorem execLinkTrainingAttemptEnd_leadsOn {h : Fin 8} {ok : Bool} : LeadsOn s.course (execLinkTrainingAttemptEnd h ok s) := by
  simp only [execLinkTrainingAttemptEnd, endRelock_course, headEvent_course, State.modHead_course, tryConfigs_course, course_ite,
    leadsOn_done, leadsOn_ite, ite_self, Course.Onward.refl]

theorem withHead_onward {f h : Nat} {go : Nat → Truss → Nat → Reply} (on : κ.Onward s.course)
    (hgo : ∀ g t o, κ.Onward (go g t o).st.course) : κ.Onward (withHead f h s go).st.course := by
  unfold withHead
  split
  · exact on
  split
  · exact on
  split
  · exact on
  · exact hgo ..

theorem withAnyHead_onward {f h : Nat} {go : Reply ⊕ State} (on : κ.Onward s.course)
    (hgo : κ.Onward (Sum.elim Reply.st (fun t => t) go).course) : κ.Onward (Sum.elim Reply.st (fun t => t) (withAnyHead f h s go)).course
      := by
  unfold withAnyHead
  split
  · exact on
  split <;> split
  · exact on
  · exact hgo
  · exact on
  · exact hgo

theorem execHeadQuery_leadsOn {c : KcpCtx} {head view : Byte} : LeadsOn s.course (execHeadQuery c head view s) := by
  unfold execHeadQuery
  refine kcpBegin_leadsOn fun f => withAnyHead_onward (.refl _) ?_
  simp only [Sum.elim_inl, st_ite, badParam_st, replyOk_st, ite_self, Course.Onward.refl]

theorem execHeadSetTiming_leadsOn {c : KcpCtx} {entry : List Byte} : LeadsOn s.course (execHeadSetTiming c entry s) := by
  unfold execHeadSetTiming
  refine kcp_leadsOn fun f => ?_
  dsimp only
  refine withHead_onward (.refl _) (fun g t o => ?_)
  refine unlocked_onward (.refl _) (?_)
  split
  · simp only [Course.Onward.refl, refuse_st]
  · split <;> simp only [Course.Onward.refl, refuse_st, State.modHead_course, replyOk_st]

theorem execHeadSetPower_leadsOn {c : KcpCtx} {head power : Byte} : LeadsOn s.course (execHeadSetPower c head power s) := by
  simp only [execHeadSetPower, withHead_onward, State.modHead_course, course_ite, st_ite, ite_self, Course.Onward.refl, implies_true,
    replyOk_st, badParam_st, kcp_leadsOn]

theorem execHeadRetrain_leadsOn {c : KcpCtx} {head : Byte} : LeadsOn s.course (execHeadRetrain c head s) := by
  simp only [execHeadRetrain, withHead_onward, startTraining_course, course_ite, st_ite, ite_self, Course.Onward.refl, implies_true,
    refuse_st, replyOk_st, kcp_leadsOn]

theorem execHeadAux_leadsOn {c : KcpCtx} {head op length i2c : Byte} {address : Word} {data : List Byte} :
    LeadsOn s.course (execHeadAux c head op length i2c address data s) := by
  unfold execHeadAux
  split
  · exact leadsOn_done.mpr (.refl _)
  refine kcpBegin_leadsOn fun f => withAnyHead_onward (.refl _) ?_
  simp only [apply_ite (Sum.elim Reply.st fun t => t), Sum.elim_inl, Sum.elim_inr, badParam_st, refuse_st, course_ite, State.emit_course,
    State.modHead_course, ite_self, Course.Onward.refl]

theorem execAuxReply_leadsOn {h : Fin 8} {reply : Option (BitVec 4)} {data : List Byte} :
    LeadsOn s.course (execAuxReply h reply data s) := by
  unfold execAuxReply
  split
  · simp only [leadsOn_done, Course.Onward.refl]
  · dsimp only
    split <;> simp only [kcpFinish_course, State.modHead_course, State.elapse_onward, leadsOn_done, Course.Onward.refl, refuse_st,
      State.emit_course, leadsOn_ite, ite_self, replyOk_st]

theorem execHeadSetBacklight_leadsOn {c : KcpCtx} {head : Byte} {level : Half} :
    LeadsOn s.course (execHeadSetBacklight c head level s) := by
  simp only [execHeadSetBacklight, withHead_onward, headAuxOwn_course, State.modHead_course, course_ite, st_ite, ite_self,
    Course.Onward.refl, implies_true, refuse_st, replyOk_st, kcp_leadsOn]

/-! ### The calendar's wheel, shaping, the choice of the next frame, rate sets, and the calendar commands -/

theorem loadRates_course {p : Nat} {r : RateSet} : (loadRates p r s).course = s.course := by
  simp only [loadRates, State.modEth_course, State.modQueue_course]

theorem calendarRates_course {g v : Nat} {t : Truss} : (calendarRates g v t s).course = s.course := by
  simp only [calendarRates, loadRates_course, State.modEth_course, course_ite, ite_self, foldl_course, implies_true]

theorem execCalendarBucketExpand_leadsOn {p : Fin 4} : LeadsOn s.course (execCalendarBucketExpand p s) := by
  unfold execCalendarBucketExpand
  split <;> simp only [leadsOn_done, Course.Onward.refl, State.modEth_course, leadsOn_ite, ite_self]

theorem sendFrame_course {p q now : Nat} {f : QFrame} : (sendFrame p q now f s).course = s.course := by
  simp only [sendFrame, State.modQueue_course, State.modEth_course, State.sentFrame_course, State.emit_course]

theorem kerfWait_course {p q : Nat} {f : QFrame} : (kerfWait p q f s).course = s.course := by
  simp only [kerfWait, State.modQueue_course, State.count_course, State.modEth_course, course_ite, ite_self]

theorem selectFrame_course {p now : Nat} {limit : Option Nat} {qs : List Nat} : (selectFrame p now limit qs s).course = s.course := by
  induction qs generalizing s with
  | nil => rfl
  | cons q qs ih =>
    unfold selectFrame
    dsimp only
    split
    · exact ih
    · simp only [course_ite, sendFrame_course, kerfWait_course, ih, ite_self]

theorem execMacSelectFrame_leadsOn {p : Fin 4} : LeadsOn s.course (execMacSelectFrame p s) := by
  simp only [execMacSelectFrame, State.untilPlan_onward, State.modQueue_course, selectFrame_course, leadsOn_done, leadsOn_ite, ite_self,
    Course.Onward.refl, List.foldl_cons, List.foldl_nil]

theorem execCalQuery_leadsOn {c : KcpCtx} {port variant : Byte} : LeadsOn s.course (execCalQuery c port variant s) := by
  unfold execCalQuery
  refine kcp_leadsOn fun f => ?_
  dsimp only
  split
  · simp only [Course.Onward.refl, badParam_st]
  · split <;> simp only [Course.Onward.refl, refuse_st, st_ite, ite_self, replyOk_st, badParam_st]

theorem execCalSetRates_leadsOn {c : KcpCtx} {port mask : Byte} {rates : List Word} {bursts : List Half} :
    LeadsOn s.course (execCalSetRates c port mask rates bursts s) := by
  unfold execCalSetRates
  refine kcp_leadsOn fun f => ?_
  dsimp only
  split
  · simp only [Course.Onward.refl, badParam_st]
  · split
    · simp only [Course.Onward.refl, refuse_st]
    · split
      · simp only [Course.Onward.refl, refuse_st]
      · split
        · simp only [Course.Onward.refl, badParam_st]
        · split
          · simp only [Course.Onward.refl, badParam_st]
          · split <;> simp only [Course.Onward.refl, refuse_st, unlocked_onward, State.modEth_course, replyOk_st]

/-! ### The Ethernet ports -/

theorem announceAddresses_course {p : Nat} : (announceAddresses p s).course = s.course := by
  simp only [announceAddresses, State.manage_course, course_ite, ite_self]

theorem beginTraffic_course {p : Nat} : (beginTraffic p s).course = s.course := by
  simp only [beginTraffic, announceAddresses_course, State.modAdt_course, course_ite, ite_self]

theorem losePort_course {p : Nat} : (losePort p s).course = s.course := by
  simp only [losePort, chooseVariants_course, State.fault_course, State.modEth_course, course_ite, ite_self]

theorem dropEth_course {p : Nat} : (dropEth p s).course = s.course := by
  simp only [dropEth, ethEvent_course, losePort_course, State.modEth_course]

theorem execEthLinkDown_leadsOn {p : Fin 4} : LeadsOn s.course (execEthLinkDown p s) := by
  simp only [execEthLinkDown, dropEth_course, leadsOn_done, leadsOn_ite, ite_self, Course.Onward.refl]

theorem startMka_course {p : Nat} : (startMka p s).course = s.course := by
  simp only [startMka, State.manage_course, course_ite, ite_self]

theorem execEthLinkUp_leadsOn {p : Fin 4} {rxInvert : Bool} : LeadsOn s.course (execEthLinkUp p rxInvert s) := by
  simp only [execEthLinkUp, State.modEth_course, beginTraffic_course, ethEvent_course, startMka_course, leadsOn_done, leadsOn_ite,
    ite_self, Course.Onward.refl]

theorem execEthLinkUpSettled_leadsOn {p : Fin 4} : LeadsOn s.course (execEthLinkUpSettled p s) := by
  simp only [execEthLinkUpSettled, chooseVariants_course, State.modEth_course, State.untilAon_onward, leadsOn_done, leadsOn_ite, ite_self,
    Course.Onward.refl]

theorem execEthFrameDiscard_leadsOn {p : Fin 4} {integrity : Bool} {wire : Half} :
    LeadsOn s.course (execEthFrameDiscard p integrity wire s) := by
  simp only [execEthFrameDiscard, State.count_course, State.rxFrame_course, State.rxDiscard_course, leadsOn_done, leadsOn_ite, ite_self,
    Course.Onward.refl]

theorem execArpNdRx_leadsOn {p : Fin 4} {reply : Bool} {target sender : BitVec 128} {mac : BitVec 48} :
    LeadsOn s.course (execArpNdRx p reply target sender mac s) := by
  simp only [execArpNdRx, State.rxDiscard_course, State.rxFrame_course, State.learn_course, State.manage_course, leadsOn_done,
    leadsOn_ite, ite_self, Course.Onward.refl]

theorem execIcmpEchoRx_leadsOn {p : Fin 4} {target sender : BitVec 128} {mac : BitVec 48} {bytes : Half} :
    LeadsOn s.course (execIcmpEchoRx p target sender mac bytes s) := by
  simp only [execIcmpEchoRx, State.rxDiscard_course, State.learn_course, State.rxFrame_course, State.modEth_course, State.enqueue_course,
    leadsOn_done, leadsOn_ite, ite_self, Course.Onward.refl]

theorem execArpRetry_leadsOn {p : Fin 4} {address : BitVec 128} : LeadsOn s.course (execArpRetry p address s) := by
  simp only [execArpRetry, State.askNeighbour_course, State.untilAon_onward, leadsOn_done, leadsOn_ite, ite_self, Course.Onward.refl]

theorem execArpGiveUp_leadsOn {p : Fin 4} {address : BitVec 128} : LeadsOn s.course (execArpGiveUp p address s) := by
  simp only [execArpGiveUp, State.untilAon_onward, State.modEth_course, State.countN_course, leadsOn_done, leadsOn_ite, ite_self,
    Course.Onward.refl]

theorem execNeighbourAgeOut_leadsOn {p : Fin 4} {address : BitVec 128} : LeadsOn s.course (execNeighbourAgeOut p address s) := by
  simp only [execNeighbourAgeOut, State.modEth_course, State.untilAon_onward, leadsOn_done, leadsOn_ite, ite_self, Course.Onward.refl]

theorem restartMka_course {p : Nat} : (restartMka p s).course = s.course := by
  simp only [restartMka, State.modEth_course, startMka_course, ethEvent_course, course_ite, ite_self]

theorem execMkaRx_leadsOn {p : Fin 4} {install : Bool} : LeadsOn s.course (execMkaRx p install s) := by
  simp only [execMkaRx, State.rxDiscard_course, State.modEth_course, State.rxFrame_course, State.pend_course, ethEvent_course,
    beginTraffic_course, course_ite, leadsOn_done, leadsOn_ite, ite_self, Course.Onward.refl]

theorem execMkaPeerTimeout_leadsOn {p : Fin 4} : LeadsOn s.course (execMkaPeerTimeout p s) := by
  simp only [execMkaPeerTimeout, State.modEth_course, State.untilAon_onward, ethEvent_course, losePort_course, leadsOn_done, leadsOn_ite,
    ite_self, Course.Onward.refl]

theorem execCbFrameRx_leadsOn {p : Fin 4} {mac : BitVec 48} {vlan : BitVec 12} {seq wire : Half} :
    LeadsOn s.course (execCbFrameRx p mac vlan seq wire s) := by
  unfold execCbFrameRx
  split
  · simp only [leadsOn_done, Course.Onward.refl]
  · split
    · simp only [leadsOn_done, Course.Onward.refl]
    · dsimp only
      split <;> simp only [State.modNet_course, leadsOn_done, Course.Onward.refl, State.count_course, State.rxFrame_course,
        State.rxDiscard_course]

theorem execCbResetTimeout_leadsOn {entry : Byte} : LeadsOn s.course (execCbResetTimeout entry s) := by
  simp only [execCbResetTimeout, State.modNet_course, State.untilAon_onward, leadsOn_done, leadsOn_ite, ite_self, Course.Onward.refl]

/-! ### Network time -/

theorem renumberArm_course {g : Nat} : (renumberArm g s).course = s.course := (rfl)

theorem realignGroup_course {g : Nat} : (realignGroup g s).course = s.course := by
  unfold realignGroup
  split
  · rfl
  · split
    · rfl
    · simp only [renumberArm_course, State.modGroup_course, State.count_course, regrid_course, course_ite, ite_self, modClk_course]

theorem lockTime_course {measured : ℤ} : (lockTime measured s).course = s.course := by
  simp only [lockTime, setTimeMode_course, realignGroup_course, course_ite, ite_self, foldl_course, modClk_course, implies_true]

theorem takeSlave_course {p : Nat} : (takeSlave p s).course = s.course := by
  simp only [takeSlave, State.modNet_course, State.pend_course, State.modEth_course, setTimeMode_course, course_ite, ite_self]

theorem becomeGrandmaster_course : (becomeGrandmaster s).course = s.course := by
  simp only [becomeGrandmaster, State.modNet_course, State.pend_course, setTimeMode_course, course_ite, ite_self, modClk_course]

theorem noSlave_course : (noSlave s).course = s.course := by
  simp only [noSlave, State.modNet_course, State.pend_course, setTimeMode_course, course_ite, ite_self]

theorem selectClock_course : (selectClock s).course = s.course := by
  unfold selectClock
  dsimp only
  split
  · simp only [becomeGrandmaster_course]
  · split <;> simp only [becomeGrandmaster_course, takeSlave_course, course_ite, ite_self, noSlave_course]

theorem execPtpSyncRx_leadsOn {p : Fin 4} {measured : Long} {estimate rate ratio : Word} :
    LeadsOn s.course (execPtpSyncRx p measured estimate rate ratio s) := by
  simp only [execPtpSyncRx, State.rxFrame_course, State.modEth_course, State.modNet_course, lockTime_course, leadsOn_done, leadsOn_ite,
    ite_self, Course.Onward.refl, modClk_course]

theorem execPtpAnnounceRx_leadsOn {p : Fin 4} {priority1 clockClass accuracy : Byte} {variance : Half} {priority2 : Byte}
    {identity : Long} {steps : Half} :
    LeadsOn s.course (execPtpAnnounceRx p priority1 clockClass accuracy variance priority2 identity steps s) := by
  simp only [execPtpAnnounceRx, State.rxFrame_course, selectClock_course, State.modEth_course, leadsOn_done, leadsOn_ite, ite_self,
    Course.Onward.refl]

theorem sendTime_course {what : String} {wire : Nat} {fields : List Nat} : (sendTime what wire fields s).course = s.course := by
  simp only [sendTime, State.enqueue_course, course_ite, ite_self, foldl_course, implies_true]

theorem execPtpSyncTx_leadsOn : LeadsOn s.course (execPtpSyncTx s) := by
  simp only [execPtpSyncTx, State.untilAon_onward, State.modNet_course, sendTime_course, leadsOn_done, leadsOn_ite, ite_self,
    Course.Onward.refl]

theorem execPtpSyncTimeout_leadsOn {p : Fin 4} : LeadsOn s.course (execPtpSyncTimeout p s) := by
  unfold execPtpSyncTimeout
  split
  · simp only [leadsOn_done, Course.Onward.refl]
  · dsimp only
    split <;> simp only [State.fault_course, State.untilAon_onward, State.modEth_course, takeSlave_course, leadsOn_done,
      Course.Onward.refl, selectClock_course, setTimeMode_course, course_ite, ite_self]

theorem execPtpPdelayTimer_leadsOn : LeadsOn s.course (execPtpPdelayTimer s) := by
  simp only [execPtpPdelayTimer, State.untilAon_onward, State.modEth_course, State.modNet_course, sendTime_course, course_ite,
    leadsOn_done, leadsOn_ite, ite_self, foldl_course, Course.Onward.refl, implies_true]

theorem execPtpPdelayRx_leadsOn {p : Fin 4} {response capable : Bool} {delay : Word} :
    LeadsOn s.course (execPtpPdelayRx p response capable delay s) := by
  simp only [execPtpPdelayRx, State.rxFrame_course, State.enqueue_course, State.modEth_course, selectClock_course, course_ite,
    leadsOn_done, leadsOn_ite, ite_self, Course.Onward.refl]

/-! ### The port, network-time, MACsec and elimination commands -/

theorem keepsCheck17_onward {s s' : State} {go : State → Reply} (on : κ.Onward s.course)
    (h : κ.Onward (go s').st.course) : κ.Onward (keepsCheck17 s s' go).st.course := by
  unfold keepsCheck17
  split
  · exact on
  · exact h

theorem State.modCfg_course {p : Nat} {f : PortCfg → PortCfg} : (s.modCfg p f).course = s.course := (rfl)

theorem countFec_course {p : Nat} : (countFec p s).course = s.course := by
  simp only [countFec, State.modEth_course, course_ite, ite_self, State.draw_course]

theorem execNetPortQuery_leadsOn {c : KcpCtx} {port : Byte} : LeadsOn s.course (execNetPortQuery c port s) := by
  simp only [execNetPortQuery, countFec_course, course_ite, st_ite, ite_self, Course.Onward.refl, implies_true, replyOk_st, badParam_st,
    kcp_leadsOn]

theorem execNetPortCfg_leadsOn {c : KcpCtx} {port mode txInvert adt : Byte} {largest : Half} {pcpSlice pcpControl pcpRepair flags : Byte}
    {cap : Half} :
    LeadsOn s.course (execNetPortCfg c port mode txInvert adt largest pcpSlice pcpControl pcpRepair flags cap s) := by
  simp only [execNetPortCfg, State.modCfg_course, keepsCheck17_onward, course_ite, st_ite, onward_ite, ite_self, Course.Onward.refl,
    implies_true, refuse_st, replyOk_st, badParam_st, kcp_leadsOn]

theorem execNetPortEnable_leadsOn {c : KcpCtx} {port enable : Byte} : LeadsOn s.course (execNetPortEnable c port enable s) := by
  simp only [execNetPortEnable, State.modCfg_course, ethEvent_course, dropEth_course, course_ite, st_ite, ite_self, Course.Onward.refl,
    implies_true, replyOk_st, badParam_st, kcp_leadsOn]

theorem execNetSetAddr_leadsOn {c : KcpCtx} {port version prefixLen : Byte} {address : BitVec 128} :
    LeadsOn s.course (execNetSetAddr c port version prefixLen address s) := by
  unfold execNetSetAddr
  refine kcp_leadsOn fun f => ?_
  simp only [State.modCfg_course, keepsCheck17_onward, leaveSession_course, announceAddresses_course, course_ite, st_ite, onward_ite,
    ite_self, foldl_course, Course.Onward.refl, implies_true, replyOk_st, badParam_st]

theorem execNetTimeCfg_leadsOn {c : KcpCtx} {role domain priority1 priority2 clockClass accuracy logSync ports : Byte}
    {asymmetry : List Half} :
    LeadsOn s.course (execNetTimeCfg c role domain priority1 priority2 clockClass accuracy logSync ports asymmetry s) := by
  unfold execNetTimeCfg
  refine kcp_leadsOn fun f => ?_
  split
  · simp only [Course.Onward.refl, badParam_st]
  · split
    · simp only [Course.Onward.refl, badParam_st]
    · split
      · simp only [Course.Onward.refl, badParam_st]
      · split
        · simp only [Course.Onward.refl, badParam_st]
        · dsimp only
          rw [replyOk_st, selectClock_course]
          refine foldl_onward (fun s x => ?_) ?_ <;> simp only [State.modCfg_course, Course.Onward.refl, State.modNetMram_course]

theorem execNetTimeQuery_leadsOn {c : KcpCtx} : LeadsOn s.course (execNetTimeQuery c s) := by
  unfold execNetTimeQuery
  refine kcp_leadsOn fun f => ?_
  simp only [Course.Onward.refl, replyOk_st]

theorem execNetMacsecCfg_leadsOn {c : KcpCtx} {port mode cipher keySlot : Byte} {replay : Word} {keyPrio : Byte} :
    LeadsOn s.course (execNetMacsecCfg c port mode cipher keySlot replay keyPrio s) := by
  simp only [execNetMacsecCfg, State.modCfg_course, keepsCheck17_onward, restartMka_course, course_ite, st_ite, onward_ite, ite_self,
    Course.Onward.refl, implies_true, replyOk_st, badParam_st, kcp_leadsOn]

theorem execNetMacsecKey_leadsOn {c : KcpCtx} {slot op len : Byte} {cak ckn : List Byte} :
    LeadsOn s.course (execNetMacsecKey c slot op len cak ckn s) := by
  simp only [execNetMacsecKey, State.modNetMram_course, restartMka_course, course_ite, st_ite, ite_self, foldl_course, Course.Onward.refl,
    implies_true, refuse_st, replyOk_st, badParam_st, kcp_leadsOn]

theorem execNetCbCfg_leadsOn {c : KcpCtx} {entry op ports history : Byte} {mac : BitVec 48} {vlan timeout : Half} :
    LeadsOn s.course (execNetCbCfg c entry op ports history mac vlan timeout s) := by
  simp only [execNetCbCfg, State.modNetMram_course, State.modNet_course, course_ite, st_ite, ite_self, Course.Onward.refl, implies_true,
    replyOk_st, badParam_st, kcp_leadsOn]

/-! ### The scaler commands -/

theorem bankRefuse_course {st : Status} {detail : Nat} : (bankRefuse st detail s).st.course = s.course := (rfl)

theorem execSclBankLoad_leadsOn {c : KcpCtx} {bank : Byte} {address : Long} : LeadsOn s.course (execSclBankLoad c bank address s) := by
  unfold execSclBankLoad
  refine kcp_leadsOn fun f => ?_
  dsimp only
  split
  · simp only [bankRefuse_course, Course.Onward.refl]
  · split
    · simp only [bankRefuse_course, Course.Onward.refl]
    · split
      · simp only [bankRefuse_course, Course.Onward.refl]
      · split
        · rename_i t e
          obtain rfl := snd_of_eq e
          simp only [bankRefuse_course, State.memLoad_course, Course.Onward.refl]
        · rename_i t e
          obtain rfl := snd_of_eq e
          split <;> simp only [bankRefuse_course, State.memLoad_course, Course.Onward.refl, State.count_course, State.modSeq_course,
            course_ite, st_ite, ite_self, replyOk_st]

theorem execSclBankQuery_leadsOn {c : KcpCtx} {bank copy : Byte} {address : Long} :
    LeadsOn s.course (execSclBankQuery c bank copy address s) := by
  unfold execSclBankQuery
  refine kcpRun_leadsOn fun f => ?_
  dsimp only
  split
  · simp only [Course.Onward.refl, badParam_st]
  · split
    · simp only [Course.Onward.refl, badParam_st]
    · split
      · simp only [Course.Onward.refl, badParam_st]
      · rw [replyOk_st]
        split
        · split
          · refine State.memWrite_onward ?_
            simp only [Course.Onward.refl, State.draw_course]
          · simp only [Course.Onward.refl, State.draw_course]
        · split
          · refine State.memWrite_onward ?_
            simp only [Course.Onward.refl, State.draw_course]
          · simp only [Course.Onward.refl, State.draw_course]

theorem execSclSetSlot_leadsOn {c : KcpCtx} {slot : Half} {h v sh sv : Byte} : LeadsOn s.course (execSclSetSlot c slot h v sh sv s) := by
  unfold execSclSetSlot
  refine kcp_leadsOn fun f => ?_
  simp only [withSlot_onward, State.defer_onward, State.modSlot_course, course_ite, st_ite, onward_ite, ite_self, Course.Onward.refl,
    implies_true, refuse_st, replyOk_st, badParam_st]

theorem execSclQuerySlot_leadsOn {c : KcpCtx} {slot : Half} : LeadsOn s.course (execSclQuerySlot c slot s) := by
  unfold execSclQuerySlot
  refine kcp_leadsOn fun f => ?_
  refine withSlot_onward (.refl _) (fun g t e => ?_)
  simp only [Course.Onward.refl, replyOk_st]

/-! ### The colour store and the colour commands -/

theorem refreshBypass_course : (refreshBypass s).course = s.course := by
  simp only [refreshBypass, State.countN_course, State.modSeq_course, foldl_course, implies_true]

theorem tableRefuse_course {st : Status} {detail : Nat} : (tableRefuse st detail s).st.course = s.course := (rfl)

theorem putTable_course {i : Nat} {b : List Byte} : (putTable i b s).st.course = s.course := by
  unfold putTable
  split <;> simp only [tableRefuse_course, refreshBypass_course, State.count_course, State.modSeq_course, course_ite, st_ite, ite_self,
    replyOk_st]

theorem execColTableLoad_leadsOn {c : KcpCtx} {index : Byte} {address : Long} : LeadsOn s.course (execColTableLoad c index address s) := by
  unfold execColTableLoad
  refine kcp_leadsOn fun f => ?_
  dsimp only
  split
  · simp only [tableRefuse_course, Course.Onward.refl]
  · split
    · simp only [tableRefuse_course, Course.Onward.refl]
    · split
      · simp only [tableRefuse_course, Course.Onward.refl]
      · split
        · rename_i t e
          obtain rfl := snd_of_eq e
          simp only [tableRefuse_course, State.memLoad_course, Course.Onward.refl]
        · rename_i t e
          obtain rfl := snd_of_eq e
          split
          · simp only [State.memLoad_course, putTable_course, Course.Onward.refl]
          · split
            · simp only [tableRefuse_course, State.memLoad_course, Course.Onward.refl]
            · split
              · rename_i t e
                obtain rfl := snd_of_eq e
                simp only [tableRefuse_course, State.memLoad_course, Course.Onward.refl]
              · rename_i t e
                obtain rfl := snd_of_eq e
                simp only [State.memLoad_course, putTable_course, Course.Onward.refl]

theorem execColTableQuery_leadsOn {c : KcpCtx} {index : Byte} : LeadsOn s.course (execColTableQuery c index s) := by
  unfold execColTableQuery
  refine kcp_leadsOn fun f => ?_
  simp only [Course.Onward.refl, replyOk_st]

theorem execColTableFree_leadsOn {c : KcpCtx} {index : Byte} : LeadsOn s.course (execColTableFree c index s) := by
  simp only [execColTableFree, State.modSeq_course, course_ite, st_ite, ite_self, Course.Onward.refl, implies_true, refuse_st, replyOk_st,
    kcp_leadsOn]

theorem withOutput_onward {f o : Nat} {go : Nat → Nat → Reply} (on : κ.Onward s.course)
    (h : ∀ g k, κ.Onward (go g k).st.course) : κ.Onward (withOutput f o s go).st.course := by
  unfold withOutput
  split
  · exact on
  split
  · exact on
  · exact h ..

theorem execColSetOutput_leadsOn {c : KcpCtx} {output : Half} {mask space : Byte} {background : List Half}
    {matrix regamma regTable lut dither : Byte} :
    LeadsOn s.course (execColSetOutput c output mask space background matrix regamma regTable lut dither s) := by
  unfold execColSetOutput
  refine kcp_leadsOn fun f => ?_
  simp only [withOutput_onward, unlocked_onward, State.modSeq_course, course_ite, st_ite, onward_ite, ite_self, Course.Onward.refl,
    implies_true, refuse_st, replyOk_st, badParam_st]

theorem execColQueryOutput_leadsOn {c : KcpCtx} {output : Half} {view : Byte} : LeadsOn s.course (execColQueryOutput c output view s) := by
  simp only [execColQueryOutput, withOutput_onward, st_ite, ite_self, Course.Onward.refl, implies_true, replyOk_st, badParam_st,
    kcp_leadsOn]

theorem execColSetSlot_leadsOn {c : KcpCtx} {slot : Half} {mask : Byte} {values : List Word} :
    LeadsOn s.course (execColSetSlot c slot mask values s) := by
  unfold execColSetSlot
  refine kcp_leadsOn fun f => ?_
  simp only [withSlot_onward, unlocked_onward, putAll_course, course_ite, st_ite, onward_ite, ite_self, Course.Onward.refl, implies_true,
    refuse_st, replyOk_st, badParam_st]

/-! ### Loading, checking and unloading trusses, the embedded planner, and the standing trusses -/

theorem State.touchBase_course {k : Nat} : (s.touchBase k).course = s.course := by
  simp only [State.touchBase, State.modStore_course, foldl_course, implies_true]

theorem completion_course {fn code subject : Nat} {st : Status} {detail : Nat} :
    (completion fn code subject st detail s).course = s.course := by
  simp only [completion, State.serviceEvent_course]

theorem countVerify_course {bad : Bool} : (countVerify bad s).course = s.course := by
  simp only [countVerify, State.count_course, course_ite, ite_self]

theorem jobFailed_course {k code : Nat} {st : Status} {detail : Nat} : (jobFailed k code st detail s).course = s.course := by
  simp only [jobFailed, completion_course, State.modStore_course]

theorem admitInto_course {k : Nat} {img : List Byte} {sigOk : Bool} {version : Nat} :
    (admitInto k img sigOk version s).2.course = s.course := by
  unfold admitInto
  dsimp only
  split
  · simp only [State.modStore_course, State.bgAdvance_course]
  · split
    · simp only [State.modStore_course, State.bgAdvance_course, State.faultOpen_course, countVerify_course]
    · split <;> simp only [State.modStore_course, State.bgAdvance_course, countVerify_course]

theorem loadEnds_onward {k okCode badCode : Nat} {img : Except Nat (List Byte)} {sigOk : Bool} (on : κ.Onward s.course) :
    κ.Onward (loadEnds k okCode badCode img sigOk s).course := by
  unfold loadEnds
  dsimp only
  split
  · simp only [jobFailed_course, on]
  · split
    · simp only [jobFailed_course, on]
    · split
      · rename_i t e
        obtain rfl := snd_of_eq e
        simp only [jobFailed_course, admitInto_course, storeCopy_onward, on]
      · rename_i t e
        obtain rfl := snd_of_eq e
        simp only [admitInto_course, storeCopy_onward, completion_course, on]

theorem dropJob_course {k : Nat} : (dropJob k s).course = s.course := by
  unfold dropJob
  dsimp only
  split
  · simp only [completion_course]
  · simp only [completion_course, State.modBoot_course, State.modTruss_course]
  · rfl

theorem execTrussLoad_leadsOn {c : KcpCtx} {slot source standing : Byte} {address length : Long} :
    LeadsOn s.course (execTrussLoad c slot source standing address length s) := by
  simp only [execTrussLoad, State.modStore_course, State.touchBase_course, dropJob_course, course_ite, st_ite, ite_self,
    Course.Onward.refl, implies_true, refuse_st, badParam_st, kcp_leadsOn]

theorem execTrussLoadDone_leadsOn {slot : Fin 4} {host : Option (List Byte)} {sigOk : Bool} :
    LeadsOn s.course (execTrussLoadDone slot host sigOk s) := by
  unfold execTrussLoadDone
  dsimp only
  split
  · split
    · split
      · rename_i t e
        obtain rfl := snd_of_eq e
        simp only [State.memFetch_course, loadEnds_onward, leadsOn_done, Course.Onward.refl]
      · rename_i t e
        obtain rfl := snd_of_eq e
        simp only [State.memFetch_course, loadEnds_onward, leadsOn_done, Course.Onward.refl]
    · split
      · split <;> simp only [loadEnds_onward, State.hostRead_course, leadsOn_done, Course.Onward.refl]
      · simp only [loadEnds_onward, State.countN_course, leadsOn_done, Course.Onward.refl]
  · simp only [leadsOn_done, Course.Onward.refl]

theorem execTrussCheck_leadsOn {c : KcpCtx} {slot : Byte} : LeadsOn s.course (execTrussCheck c slot s) := by
  simp only [execTrussCheck, State.modStore_course, course_ite, st_ite, ite_self, Course.Onward.refl, implies_true, refuse_st,
    badParam_st, kcp_leadsOn]

theorem execTrussCheckDone_leadsOn {slot : Fin 4} : LeadsOn s.course (execTrussCheckDone slot s) := by
  unfold execTrussCheckDone
  dsimp only
  split
  · split <;> simp only [State.bgAdvance_course, completion_course, State.modStore_course, leadsOn_done, Course.Onward.refl]
  · simp only [leadsOn_done, Course.Onward.refl]

theorem execTrussQuery_leadsOn {c : KcpCtx} {slot : Byte} : LeadsOn s.course (execTrussQuery c slot s) := by
  simp only [execTrussQuery, st_ite, ite_self, Course.Onward.refl, implies_true, replyOk_st, badParam_st, kcp_leadsOn]

theorem execTrussUnload_leadsOn {c : KcpCtx} {slot : Byte} : LeadsOn s.course (execTrussUnload c slot s) := by
  simp only [execTrussUnload, State.modStore_course, State.touchBase_course, course_ite, st_ite, ite_self, Course.Onward.refl,
    implies_true, refuse_st, replyOk_st, badParam_st, kcp_leadsOn]

theorem execPlanChange_leadsOn {c : KcpCtx} {bytes : List Byte} : LeadsOn s.course (execPlanChange c bytes s) := by
  unfold execPlanChange
  refine kcpRun_leadsOn fun f => ?_
  dsimp only
  split
  · simp only [Course.Onward.refl, badParam_st]
  · split <;> simp only [Course.Onward.refl, refuse_st, State.modTruss_course, course_ite, st_ite, ite_self, replyOk_st]

theorem execPlanDiscard_leadsOn {c : KcpCtx} : LeadsOn s.course (execPlanDiscard c s) := by
  simp only [execPlanDiscard, State.modTruss_course, Course.Onward.refl, implies_true, replyOk_st, kcp_leadsOn]

theorem execPlanCommit_leadsOn {c : KcpCtx} {base target : Byte} : LeadsOn s.course (execPlanCommit c base target s) := by
  simp only [execPlanCommit, State.modTruss_course, State.touchBase_course, State.modStore_course, course_ite, st_ite, ite_self,
    Course.Onward.refl, implies_true, refuse_st, badParam_st, kcp_leadsOn]

theorem execPlanCommitDone_leadsOn {slot : Fin 4} {derived : Option (List Byte)} :
    LeadsOn s.course (execPlanCommitDone slot derived s) := by
  unfold execPlanCommitDone
  dsimp only
  split
  · split
    · simp only [jobFailed_course, leadsOn_done, Course.Onward.refl]
    · split <;> simp only [jobFailed_course, leadsOn_done, Course.Onward.refl, State.draw_course, loadEnds_onward]
  · simp only [leadsOn_done, Course.Onward.refl]

theorem execStandingQuery_leadsOn {c : KcpCtx} {slot : Byte} : LeadsOn s.course (execStandingQuery c slot s) := by
  simp only [execStandingQuery, st_ite, ite_self, Course.Onward.refl, implies_true, replyOk_st, badParam_st, kcp_leadsOn]

theorem execStandingWrite_leadsOn {c : KcpCtx} {slot : Byte} : LeadsOn s.course (execStandingWrite c slot s) := by
  simp only [execStandingWrite, State.modBoot_course, State.modStore_course, course_ite, st_ite, ite_self, Course.Onward.refl,
    implies_true, refuse_st, badParam_st, kcp_leadsOn]

theorem storeFault_course {x : Nat} : (storeFault x s).course = s.course := by
  simp only [storeFault, State.pend_course, State.faultOpen_course]

theorem flashErased_course : (flashErased s).course = s.course := (rfl)

theorem execStandingWriteDone_leadsOn {ok : Bool} : LeadsOn s.course (execStandingWriteDone ok s) := by
  unfold execStandingWriteDone
  split
  · simp only [leadsOn_done, Course.Onward.refl]
  · dsimp only
    split
    · split <;> simp only [State.memFetch_course, State.modStore_course, State.modBoot_course, flashErased_course, State.modTruss_course,
        State.modSec_course, State.countN_course, completion_course, State.pend_course, leadsOn_done, foldl_snd_course,
        Course.Onward.refl, implies_true, storeFault_course, course_ite, ite_self]
    · simp only [leadsOn_done, Course.Onward.refl]

theorem execStandingSelect_leadsOn {c : KcpCtx} {slot : Byte} : LeadsOn s.course (execStandingSelect c slot s) := by
  simp only [execStandingSelect, State.modTruss_course, course_ite, st_ite, ite_self, Course.Onward.refl, implies_true, refuse_st,
    replyOk_st, badParam_st, kcp_leadsOn]

/-! ### Arms and disarms as they arrive, the sequencer commands, and the acceptance of a truss switch -/

theorem armDenied_course {arm : Bool} {f g : Nat} : (armDenied arm f g s).course = s.course := by
  simp only [armDenied, State.armResult_course, State.countN_course]

theorem armArrives_course {f g : Nat} : (armArrives f g s).2.course = s.course := by
  simp only [armArrives, State.arrive_course, recompare_course]

theorem disarmArrives_course {f g : Nat} : (disarmArrives f g s).2.course = s.course := by
  simp only [disarmArrives, State.disarm_course, recompare_course]

theorem sillDoorbell_course {f g : Nat} {arm disarm : Bool} : (sillDoorbell f g arm disarm s).course = s.course := by
  simp only [sillDoorbell, armDenied_course, State.denied_course, disarmArrives_course, armArrives_course, State.modFn_course, course_ite,
    ite_self]

theorem execSillArmArm_leadsOn {fn g : Fin 16} : LeadsOn s.course (execSillArmArm fn g s) := by
  simp only [execSillArmArm, sillDoorbell_course, State.bar0_course, leadsOn_done, leadsOn_ite, ite_self, Course.Onward.refl]

theorem execSillArmDisarm_leadsOn {fn g : Fin 16} : LeadsOn s.course (execSillArmDisarm fn g s) := by
  simp only [execSillArmDisarm, sillDoorbell_course, State.bar0_course, leadsOn_done, leadsOn_ite, ite_self, Course.Onward.refl]

theorem maskRun_course {arm : Bool} {go : Nat → Nat → State → Nat × State} {f : Nat} {mask : Half}
    (h : ∀ g t, (go f g t).2.course = t.course) : (maskRun arm go f mask s).2.course = s.course := by
  unfold maskRun
  refine foldl_snd_course fun acc g => ?_
  dsimp only
  split
  · exact armDenied_course
  · exact h ..

theorem execSeqArm_leadsOn {c : KcpCtx} {mask : Half} : LeadsOn s.course (execSeqArm c mask s) := by
  simp only [execSeqArm, maskRun_course, armArrives_course, Course.Onward.refl, implies_true, replyOk_st, kcp_leadsOn]

theorem execSeqDisarm_leadsOn {c : KcpCtx} {mask : Half} : LeadsOn s.course (execSeqDisarm c mask s) := by
  simp only [execSeqDisarm, maskRun_course, disarmArrives_course, Course.Onward.refl, implies_true, replyOk_st, kcp_leadsOn]

theorem execSeqQuery_leadsOn {c : KcpCtx} {group : Byte} : LeadsOn s.course (execSeqQuery c group s) := by
  simp only [execSeqQuery, st_ite, ite_self, Course.Onward.refl, implies_true, refuse_st, replyOk_st, badParam_st, kcp_leadsOn]

theorem execSeqSetCutoff_leadsOn {c : KcpCtx} {group : Byte} {us : Half} : LeadsOn s.course (execSeqSetCutoff c group us s) := by
  simp only [execSeqSetCutoff, State.modSeq_course, course_ite, st_ite, ite_self, Course.Onward.refl, implies_true, refuse_st, replyOk_st,
    badParam_st, kcp_leadsOn]

theorem execSeqForceVariant_leadsOn {c : KcpCtx} {variant : Byte} : LeadsOn s.course (execSeqForceVariant c variant s) := by
  simp only [execSeqForceVariant, chooseVariants_course, State.modSeq_course, course_ite, st_ite, ite_self, Course.Onward.refl,
    implies_true, refuse_st, replyOk_st, badParam_st, kcp_leadsOn]

theorem takeSwitch_course {f k : Nat} {plan : List (Nat × Nat × Nat × Nat × Nat)} : (takeSwitch f k plan s).course = s.course := by
  simp only [takeSwitch, State.modGroup_course, State.modSeq_course, State.modStore_course, foldl_course, implies_true]

theorem execSeqSwitch_leadsOn {c : KcpCtx} {slot : Byte} : LeadsOn s.course (execSeqSwitch c slot s) := by
  unfold execSeqSwitch
  refine kcp_leadsOn fun f => ?_
  dsimp only
  split
  · simp only [Course.Onward.refl, badParam_st]
  · split
    · simp only [Course.Onward.refl, refuse_st]
    · split
      · simp only [Course.Onward.refl, refuse_st]
      · split
        · simp only [Course.Onward.refl, refuse_st]
        · split
          · simp only [Course.Onward.refl, refuse_st]
          · split <;> simp only [Course.Onward.refl, refuse_st, takeSwitch_course, replyOk_st]

/-! ### The fields of the information boards and the emergency bulletin, as commands, pins, sills and starts use them -/

theorem State.modField_course {k : Nat} {f : FieldSt → FieldSt} : (s.modField k f).course = s.course := (rfl)

theorem persistText_course {k : Nat} {text : List Byte} : (persistText k text s).course = s.course := by
  simp only [persistText, State.modField_course, State.modSvcMram_course, course_ite, ite_self]

theorem commitField_onward {f k g : Nat} {d : FieldDef} {h cols : Nat} {laid : List (Nat × Nat) × Nat} {text : List Byte}
    {n : Word} (on : κ.Onward s.course) :
    κ.Onward (commitField f k g d h cols laid text n s).course := by
  simp only [commitField, State.defer_onward, State.modField_course, persistText_course, State.pend_course, State.serviceEvent_course, on,
    course_ite, ite_self]

theorem layBulletin_onward {g wait m : Nat} {e : TSlot} (on : κ.Onward s.course) : κ.Onward (layBulletin g wait m e s).course := by
  unfold layBulletin
  split
  · exact on
  · simp only [State.deferAt_onward, on]

theorem dropBulletin_course {g : Nat} : (dropBulletin g s).course = s.course := (rfl)

theorem stageBulletin_onward {laid origin g : Nat} (on : κ.Onward s.course) : κ.Onward (stageBulletin laid origin g s).course := by
  unfold stageBulletin
  split
  · exact on
  · dsimp only
    refine State.deferAt_onward ?_
    refine foldl_onward (fun s x => ?_) on
    simp only [layBulletin_onward, Course.Onward.refl]

theorem endBulletin_onward {g : Nat} (on : κ.Onward s.course) : κ.Onward (endBulletin g s).course := by
  unfold endBulletin
  dsimp only
  split
  · refine State.defer_onward ?_
    simp only [dropBulletin_course, on]
  · simp only [dropBulletin_course, on]

theorem refreshBulletin_onward {edited : Bool} (on : κ.Onward s.course) : κ.Onward (refreshBulletin edited s).course := by
  unfold refreshBulletin
  split <;> simp only [endBulletin_onward, State.modSvc_course, on, foldl_onward, Course.Onward.refl, implies_true, course_ite, ite_self]

theorem raiseBulletin_onward {r : Raise} (on : κ.Onward s.course) : κ.Onward (raiseBulletin r s).course := by
  simp only [raiseBulletin, State.modSvc_course, sendBeat_course, refreshBulletin_onward, on, foldl_course, implies_true]

theorem clearRaises_onward {p : Raise → Bool} (on : κ.Onward s.course) : κ.Onward (clearRaises p s).course := by
  simp only [clearRaises, refreshBulletin_onward, State.modSvc_course, on]

theorem relayBulletin_onward {g : Nat} {was : List (Nat × Nat)} (on : κ.Onward s.course) : κ.Onward (relayBulletin g was s).course := by
  unfold relayBulletin
  split
  · exact on
  · simp only [layBulletin_onward, State.deferAt_onward, on, course_ite, onward_ite, ite_self, foldl_onward, Course.Onward.refl,
      implies_true]

theorem emergEvent_course {released : Bool} : (emergEvent released s).course = s.course := by
  simp only [emergEvent, State.pend_course, State.serviceEvent_course]

theorem emergAssert_onward (on : κ.Onward s.course) : κ.Onward (emergAssert s).course := by
  simp only [emergAssert, emergEvent_course, State.modSvc_course, raiseBulletin_onward, on, course_ite, onward_ite, ite_self]

theorem emergRelease_onward (on : κ.Onward s.course) : κ.Onward (emergRelease s).course := by
  simp only [emergRelease, emergEvent_course, State.modSvc_course, clearRaises_onward, on]

/-! ### What a publish cutoff decides and what a sill applies -/

theorem takeIngest_course {g v : Nat} {e : TSlot} : (takeIngest g v e s).course = s.course := (rfl)

theorem passCutoff_course {g : Nat} : (passCutoff g s).course = s.course := by
  unfold passCutoff
  split
  · rfl
  · simp only [State.modSlot_course, takeIngest_course, recompare_course, State.modGroup_course, course_ite, ite_self, foldl_course,
      implies_true]

theorem takeWindow_course {armed : Bool} {e : TSlot} : (takeWindow armed e s).course = s.course := by
  simp only [takeWindow, State.modSlot_course, State.count_course, course_ite, ite_self]

theorem takeShadows_course {g : Nat} {t : Truss} : (takeShadows g t s).course = s.course := by
  unfold takeShadows
  dsimp only
  rw [refreshBypass_course]
  refine (foldl_course fun s x => ?_).trans ?_
  · split
    · simp only [loadRates_course, State.modEth_course, course_ite, ite_self]
    · rfl
  · refine foldl_course fun s x => ?_
    split <;> simp only [State.modSeq_course, takeTiming_course]

theorem applyArm_course {g : Nat} {parity : Bool} : (applyArm g parity s).2.course = s.course := by
  unfold applyArm
  split
  · rfl
  · simp only [State.modSlot_course, State.faultOpen_course, State.dropArm_course, takeWindow_course, State.modGroup_course,
      takeShadows_course, course_ite, snd_ite, ite_self, foldl_course, implies_true]

theorem cellsApplied_course {f slot : Nat} {n : Word} : (cellsApplied f slot n s).course = s.course := by
  simp only [cellsApplied, State.count_course, State.serviceEvent_course]

theorem applyOp_course {g : Nat} {n : Word} {d : Deferred} : (applyOp g n d s).course = s.course := by
  unfold applyOp
  split <;> simp only [State.modPll_course, setSyncOut_course, State.modFn_course, State.modSlot_course, State.modWb_course,
    State.modGroup_course, State.modSvc_course, bulletinBlanks_course, State.pend_course, State.serviceEvent_course, course_ite, ite_self,
    cellsApplied_course, State.count_course]

theorem flipMaps_onward {ops : List Deferred} (on : κ.Onward s.course) : κ.Onward (flipMaps ops s).course := by
  simp only [flipMaps, State.modSurf_course, State.writeCells_onward, on, foldl_course, foldl_onward, Course.Onward.refl, implies_true]

theorem applyOps_onward {g : Nat} {n : Word} (on : κ.Onward s.course) : κ.Onward (applyOps g n s).course := by
  simp only [applyOps, State.modSeq_course, applyOp_course, flipMaps_onward, State.writeCells_onward, on, foldl_course, foldl_onward,
    Course.Onward.refl, implies_true]

theorem steerSource_course {num : Nat} : (steerSource num s).course = s.course := by
  simp only [steerSource, State.modPeer_course, State.adtSend_course, course_ite, ite_self]

theorem ensureIngestHandle_course {num : Nat} : (ensureIngestHandle num s).course = s.course := by
  unfold ensureIngestHandle
  split
  · simp only [State.modIng_course]
  · split
    · rfl
    · simp only [State.modIng_course, State.modSurf_course]

theorem relayRings_course {newTruss : Bool} {t : Truss} {v : Nat} : (relayRings newTruss t v s).course = s.course := by
  unfold relayRings
  dsimp only
  split
  · rfl
  · simp only [ensureIngestHandle_course, State.modIng_course, steerSource_course, foldl_course, implies_true]

theorem settleVariant_course {g v : Nat} {t : Truss} : (settleVariant g v t s).course = s.course := by
  simp only [settleVariant, State.modSlot_course, sendHold_course, endHold_course, course_ite, ite_self, foldl_course, implies_true]

theorem takeVariant_course {g v : Nat} : (takeVariant g v s).course = s.course := by
  unfold takeVariant
  split
  · rfl
  · simp only [bwSwitch_course, State.count_course, State.modGroup_course, relayRings_course, calendarRates_course, settleVariant_course]

theorem applyVariant_course {g : Nat} : (applyVariant g s).course = s.course := by
  unfold applyVariant
  dsimp only
  split <;> simp only [State.modGroup_course, takeVariant_course]

theorem revertBanks_course {k : Nat} {x : SclSet} : (revertBanks k x s).2.course = s.course := (rfl)

theorem startSlot_course {g k v : Nat} {t : Truss} {e : TSlot} : (startSlot g k v t e s).course = s.course := by
  unfold startSlot
  dsimp only
  split
  · split
    · split <;> simp only [revertBanks_course, State.modSlot_course, State.modSeq_course]
    · simp only [State.modSlot_course, State.modSvc_course, takeIngest_course, State.modSurf_course, course_ite, ite_self]
  · split
    · split <;> simp only [revertBanks_course, State.modSlot_course, State.modSeq_course]
    · simp only [State.modSlot_course, State.modSvc_course, takeIngest_course, State.modSurf_course, course_ite, ite_self]

theorem dropTargets_onward {o : TOutput} (on : κ.Onward s.course) : κ.Onward (dropTargets o s).course := by
  simp only [dropTargets, wbReport_onward, wbMissing_course, State.modWb_course, on, course_ite, onward_ite, ite_self]

theorem moveEndpoint_course {k : Nat} {was : Machine.Stream} {wasBinding : Option TBinding} :
    (moveEndpoint k was wasBinding s).course = s.course := by
  simp only [moveEndpoint, State.modPeer_course, resetHeld_course, sendAccept_course, course_ite, ite_self]

theorem leaveOutputs_onward {g : Nat} {old new : Truss} (on : κ.Onward s.course) : κ.Onward (leaveOutputs g old new s).course := by
  simp only [leaveOutputs, dropTargets_onward, leaveHead_course, stopHead_course, leaveSession_course, sendHold_course, on, course_ite,
    ite_self, foldl_onward, Course.Onward.refl, implies_true]

theorem takeTruss_onward {g k : Nat} (on : κ.Onward s.course) : κ.Onward (takeTruss g k s).course := by
  unfold takeTruss
  dsimp only
  rw [bwSwitch_course, State.count_course, refreshBypass_course, calendarRates_course, settleVariant_course]
  refine foldl_onward (fun s x => ?_) ?_
  · simp only [moveEndpoint_course, Course.Onward.refl]
  · refine foldl_onward (fun s x => ?_) ?_
    · split <;> simp only [State.modSeq_course, dropTargets_onward, joinHead_course, Course.Onward.refl]
    · refine foldl_onward (fun s x => ?_) ?_
      · simp only [startSlot_course, Course.Onward.refl]
      · split
        · rw [relayRings_course, State.modGroup_course]
          split
          · simp only [leaveOutputs_onward, on]
          · exact on
        · rw [State.modGroup_course]
          split
          · simp only [leaveOutputs_onward, on]
          · exact on

theorem leaveTruss_onward {g : Nat} (on : κ.Onward s.course) : κ.Onward (leaveTruss g s).course := by
  unfold leaveTruss
  dsimp only
  rw [State.count_course, State.modGroup_course, State.modSvc_course, State.modSeq_course]
  split
  · simp only [leaveOutputs_onward, on]
  · exact on

theorem endSwitch_course {x : Switch} : (endSwitch x s).course = s.course := by
  unfold endSwitch
  simp only [course_ite, State.serviceEvent_course, State.draw_course, chooseVariants_course, State.modFlt_course, course_mk, course_eta,
    State.modBootMram_course, State.modSec_course, foldl_course, leaveHead_course, leaveSession_course, ite_self, implies_true]
  refine (foldl_course fun t e => ?_).trans ?_
  · split <;> simp only [moveEndpoint_course, State.modIng_course, leaveSession_course]
  · simp only [State.modSeq_course, course_ite, State.modStore_course, ite_self]

theorem settleSwitch_course : (settleSwitch s).course = s.course := by
  unfold settleSwitch
  split
  · rfl
  · simp only [endSwitch_course, course_ite, ite_self]

/-! ### The publish cutoff, the sill and the end of its copy -/

theorem placeNext_course {g : Nat} {far : Bool} : (placeNext g far s).course = s.course := by
  unfold placeNext
  split
  · rfl
  · split
    · rfl
    · dsimp only
      split <;> simp only [State.modGroup_course, State.count_course, course_ite, ite_self, regrid_course, modClk_course]

theorem countNotReady_course {x : Nat} {shown : Shown} : (countNotReady x shown s).course = s.course := by
  simp only [countNotReady, State.count_course, State.modSlot_course]

theorem showIngest_course {e : TSlot} {n : Word} : (showIngest e n s).2.course = s.course := by
  simp only [showIngest, State.modSlot_course, State.modSvc_course, State.count_course, State.pend_course, State.serviceEvent_course,
    course_ite, ite_self]

theorem scaleFrame_course {g k : Nat} {e : TSlot} : (scaleFrame g k e s).course = s.course := by
  simp only [scaleFrame, State.countN_course, State.modSlot_course, course_ite, ite_self]

theorem beginSlot_course {g k : Nat} {n : Word} {e : TSlot} : (beginSlot g k n e s).course = s.course := by
  simp only [beginSlot, showIngest_course, State.modSlot_course, scaleFrame_course, State.modGroup_course, countNotReady_course,
    course_ite, snd_ite, ite_self]

theorem releaseSurfaces_course {g : Nat} {n : Word} : (releaseSurfaces g n s).course = s.course := by
  simp only [releaseSurfaces, State.modSurf_course, State.serviceEvent_course, course_ite, ite_self, foldl_course, implies_true]

theorem startWritebacks_onward {g : Nat} {t : Truss} {oldV oldJ : Nat} {n : Word} (on : κ.Onward s.course) :
    κ.Onward (startWritebacks g t oldV oldJ n s).course := by
  simp only [startWritebacks, State.modWb_course, wbMissing_course, wbStart_onward, wbReport_onward, on, course_ite, onward_ite, ite_self,
    foldl_onward, Course.Onward.refl, implies_true]

theorem presentGroup_course {g : Nat} : (presentGroup g s).course = s.course := by
  simp only [presentGroup, present_course, course_ite, ite_self, foldl_course, implies_true]

theorem reannounce_course {g : Nat} : (reannounce g s).course = s.course := by
  simp only [reannounce, sendAnnounce_course, State.modPeer_course, course_ite, ite_self, foldl_course, implies_true]

theorem firstSill_course {g : Nat} : (firstSill g s).course = s.course := by
  simp only [firstSill, State.modBoot_course, State.modBootMram_course, course_ite, ite_self]

theorem execPublishCutoff_leadsOn {g : Fin 16} : LeadsOn s.course (execPublishCutoff g s) := by
  simp only [execPublishCutoff, passCutoff_course, State.untilPlan_onward, leadsOn_done, leadsOn_ite, ite_self, Course.Onward.refl]

theorem sillSteps_onward {g : Nat} {parity : Bool} {n : Word} (on : κ.Onward s.course) : κ.Onward (sillSteps g parity n s).2.course := by
  unfold sillSteps
  dsimp only
  split <;> simp only [applyArm_course, applyOps_onward, applyVariant_course, on, settleSwitch_course, takeTruss_onward]

theorem sillReport_course {g : Nat} {arm : Bool × Bool} : (sillReport g arm s).course = s.course := by
  simp only [sillReport, State.pend_course, State.recordTo_course, State.modGroup_course]

theorem beginGroup_course {g : Nat} {n : Word} {hyper j at' : Nat} : (beginGroup g n hyper j at' s).course = s.course := (rfl)

theorem leaveAtSill_onward {g : Nat} {parity : Bool} {n : Word} (on : κ.Onward s.course) : κ.Onward (leaveAtSill g parity n s).course := by
  simp only [leaveAtSill, applyArm_course, State.modGroup_course, applyOps_onward, State.count_course, sillReport_course, snapSill_course,
    releaseSurfaces_course, settleSwitch_course, leaveTruss_onward, on]

theorem openFrame_onward {g : Nat} {far : Bool} {n : Word} {hyper j at' : Nat} {arm : Bool × Bool} {was : GroupSt} {e : TGroup}
    {t : Truss} (on : κ.Onward s.course) :
    κ.Onward (openFrame g far n hyper j at' arm was e t s).course := by
  simp only [openFrame, startWritebacks_onward, beginGroup_course, State.modGroup_course, State.count_course, placeNext_course,
    beginSlot_course, releaseSurfaces_course, sillReport_course, State.modAdt_course, snapSill_course, State.modSeq_course, on,
    course_ite, ite_self, foldl_course, modClk_course, implies_true]

theorem execSill_leadsOn {g : Fin 16} {how : SillIn} : LeadsOn s.course (execSill g how s) := by
  unfold execSill
  extract_lets c at' far cut shown opened maps
  refine .ite (leadsOn_done.mpr (.refl _)) ?_
  rcases s.sillNumber g with _ | ⟨e, hyper, j⟩
  · exact leadsOn_done.mpr (.refl _)
  dsimp -zeta only
  extract_lets n r
  have onCut : s.course.Onward cut.course := .ite (.of_eq (State.untilPlan_onward (.refl _)) passCutoff_course) (.refl _)
  have onShown : s.course.Onward shown.course := .of_eq (State.untilPlan_onward onCut) presentGroup_course
  have on : s.course.Onward opened.course := .ite (.of_eq onShown State.faultOpen_course) onShown
  split
  · exact leadsOn_done.mpr on
  split
  · exact leadsOn_done.mpr (.of_eq (leaveAtSill_onward on) firstSill_course)
  have steps : s.course.Onward r.2.course := sillSteps_onward on
  split
  · exact leadsOn_done.mpr steps
  · exact leadsOn_done.mpr (.of_eq (relayBulletin_onward (.of_eq (openFrame_onward steps) reannounce_course)) firstSill_course)

theorem refillSlot_course {e : TSlot} : (refillSlot e s).course = s.course := (rfl)

theorem State.refillColour_course {key : Nat} : (s.refillColour key).course = s.course := (rfl)

theorem refillShadow_course {g : Nat} : (refillShadow g s).course = s.course := by
  unfold refillShadow
  split
  · rfl
  · dsimp only
    refine (foldl_course fun s x => ?_).trans ?_
    · simp only [State.refillColour_course, State.modHead_course, course_ite, ite_self]
    · refine foldl_course fun s x => ?_
      simp only [refillSlot_course]

theorem execSillCopyDone_leadsOn {g : Fin 16} : LeadsOn s.course (execSillCopyDone g s) := by
  simp only [execSillCopyDone, State.untilPlan_onward, refillShadow_course, State.assertLine_course, State.modGroup_course, course_ite,
    leadsOn_done, leadsOn_ite, ite_self, Course.Onward.refl]

theorem execSillNextLoRead_leadsOn {fn g : Fin 16} : LeadsOn s.course (execSillNextLoRead fn g s) := by
  simp only [execSillNextLoRead, State.bar0_course, State.emit_course, State.denied_course, leadsOn_done, leadsOn_ite, ite_self,
    Course.Onward.refl, modClk_course]

/-! ### Work items on the lanes -/

theorem releaseItem_course {g item : Nat} {n : Word} : (releaseItem g item n s).course = s.course := (rfl)

theorem closeItem_course {g item : Nat} {n : Word} : (closeItem g item n s).course = s.course := by
  simp only [closeItem, sweepIssues_course, State.modSeq_course, State.faultOpen_course, course_ite, ite_self]

theorem startRun_course {lane : Nat} {r : Run} : (startRun lane r s).course = s.course := by
  simp only [startRun, State.compose_course, State.modLane_course, pumpReads_course, closeItem_course]

theorem startNext_course {lane : Nat} : (startNext lane s).course = s.course := by
  unfold startNext
  split
  · rfl
  · split <;> simp only [State.modLane_course, startRun_course]

theorem execItemIssue_leadsOn {g : Fin 16} {item : Nat} {bad : Bool} : LeadsOn s.course (execItemIssue g item bad s) := by
  unfold execItemIssue
  split <;> simp only [leadsOn_done, Course.Onward.refl, State.modGroup_course, State.untilPlan_onward, State.faultOpen_course,
    startNext_course, State.modLane_course, State.count_course, leadsOn_ite, ite_self]

theorem execLaneFreeStart_leadsOn {lane : Fin 16} : LeadsOn s.course (execLaneFreeStart lane s) := by
  simp only [execLaneFreeStart, startNext_course, leadsOn_done, leadsOn_ite, ite_self, Course.Onward.refl]

theorem commitStrip_course {h strip : Nat} {n : Word} {st : Strip} : (commitStrip h strip n st s).course = s.course := by
  simp only [commitStrip, State.count_course, State.modHead_course, course_ite, ite_self]

theorem wbDeliver_onward {o : TOutput} {strip : Nat} {n : Word} {st : Strip} (on : κ.Onward s.course) :
    κ.Onward (wbDeliver o strip n st s).course := by
  simp only [wbDeliver, wbStrip_onward, on, course_ite, onward_ite, ite_self]

theorem deliver_onward {t : Truss} {i : TItem} {r : Run} (on : κ.Onward s.course) : κ.Onward (deliver t i r s).course := by
  simp only [deliver, commitStrip_course, encodeRow_course, wbDeliver_onward, on, course_ite, onward_ite, ite_self]

theorem execItemComplete_leadsOn {lane : Fin 16} : LeadsOn s.course (execItemComplete lane s) := by
  unfold execItemComplete
  split <;> simp only [leadsOn_done, Course.Onward.refl, releaseItem_course, State.modLane_course, pumpReads_course,
    State.modGroup_course, State.count_course, State.countUnits_course, deliver_onward, leadsOn_ite, ite_self]

theorem missOutput_course {g : Nat} {t : Truss} {i : TItem} {st : Strip} {lines : Nat} :
    (missOutput g t i st lines s).course = s.course := by
  simp only [missOutput, State.countN_course, commitStrip_course, State.count_course, markDirty_course, wbMissing_course, course_ite,
    ite_self]

theorem execItemDeadline_leadsOn {g : Fin 16} {item : Nat} {lines : Byte} : LeadsOn s.course (execItemDeadline g item lines s) := by
  unfold execItemDeadline
  split <;> simp only [leadsOn_done, Course.Onward.refl, State.untilPlan_onward, State.modLane_course, releaseItem_course,
    State.modGroup_course, missOutput_course, State.faultOpen_course, pumpReads_course, State.count_course, course_ite, leadsOn_ite,
    ite_self]

/-! ### Pace monitors, the adaptive-voltage loop, the regulator and the pace commands -/

theorem State.modMon_course {i : Nat} {f : PaceMon → PaceMon} : (s.modMon i f).course = s.course := (rfl)

theorem paceTarget_course {mv : Nat} : (paceTarget mv s).course = s.course := by
  simp only [paceTarget, State.modPace_course, State.pend_course, course_ite, ite_self]

theorem busOut_course {cmd data : Nat} : (busOut cmd data s).course = s.course := (rfl)

theorem pumpBus_course : (pumpBus s).course = s.course := by
  unfold pumpBus
  split
  · rfl
  · dsimp only
    split <;> simp only [busOut_course, State.modPace_course, course_ite, ite_self]

theorem busSend_course {cmd data : Nat} : (busSend cmd data s).course = s.course := by
  simp only [busSend, pumpBus_course, State.modPace_course]

theorem openLoop_course : (openLoop s).course = s.course := by
  simp only [openLoop, State.pend_course, State.fault_course, State.modPace_course]

theorem regulatorError_course {t : Option PmTrans} : (regulatorError t s).course = s.course := by
  unfold regulatorError
  dsimp only
  split
  · split
    · simp only [State.modPace_course, State.fault_course, State.pend_course, State.draw_course]
    · split
      · simp only [State.modPace_course, State.fault_course, openLoop_course, State.draw_course]
      · split <;> simp only [State.modPace_course, State.fault_course, State.pend_course, State.draw_course]
  · split
    · simp only [State.modPace_course, State.fault_course, State.pend_course]
    · split
      · simp only [State.modPace_course, openLoop_course]
      · split <;> simp only [State.modPace_course, State.fault_course, State.pend_course]

theorem windowRaise_course : (windowRaise s).course = s.course := by
  simp only [windowRaise, State.modPace_course, pumpBus_course, paceTarget_course]

theorem monitorFail_course {i : Nat} : (monitorFail i s).course = s.course := by
  simp only [monitorFail, State.modMon_course, State.pend_course, State.fault_course, pumpBus_course, paceTarget_course,
    State.modPace_course, course_ite, ite_self]

theorem goodRun_course : (goodRun s).course = s.course := (rfl)

theorem execPaceWindow_leadsOn {i : Fin 24} {count : Nat} : LeadsOn s.course (execPaceWindow i count s) := by
  simp only [execPaceWindow, State.untilAon_onward, State.modMon_course, State.pend_course, State.modPace_course, monitorFail_course,
    goodRun_course, windowRaise_course, course_ite, leadsOn_done, leadsOn_ite, ite_self, Course.Onward.refl]

theorem loopStep_course {m : ℤ} : (loopStep m s).course = s.course := by
  simp only [loopStep, State.modPace_course, paceTarget_course, course_ite, ite_self]

theorem execAvsLoopPeriod_leadsOn {tj : ℤ} : LeadsOn s.course (execAvsLoopPeriod tj s) := by
  unfold execAvsLoopPeriod
  split
  · simp only [leadsOn_done, Course.Onward.refl]
  · dsimp only
    split
    · simp only [State.untilAon_onward, State.modBoot_course, State.modPace_course, leadsOn_done, Course.Onward.refl]
    · split <;> simp only [State.untilAon_onward, State.modBoot_course, State.modPace_course, paceTarget_course, pumpBus_course,
        course_ite, leadsOn_done, ite_self, Course.Onward.refl, loopStep_course]

theorem execPaceEscalate_leadsOn : LeadsOn s.course (execPaceEscalate s) := by
  simp only [execPaceEscalate, State.modPace_course, chooseVariants_course, State.pend_course, State.fault_course, leadsOn_done,
    leadsOn_ite, ite_self, Course.Onward.refl]

theorem execPaceReducedFloorBreach_leadsOn {i : Fin 24} : LeadsOn s.course (execPaceReducedFloorBreach i s) := by
  simp only [execPaceReducedFloorBreach, State.fault_course, State.modMon_course, leadsOn_done, leadsOn_ite, ite_self, Course.Onward.refl]

theorem execPaceReturn_leadsOn : LeadsOn s.course (execPaceReturn s) := by
  simp only [execPaceReturn, State.untilAon_onward, chooseVariants_course, State.modPace_course, leadsOn_done, leadsOn_ite, ite_self,
    Course.Onward.refl]

theorem voutRead_course {mv : Nat} : (voutRead mv s).course = s.course := by
  simp only [voutRead, State.modPace_course, paceTarget_course, course_ite, ite_self]

theorem busAnswer_course {t : PmTrans} {v : Nat} : (busAnswer t v s).course = s.course := by
  simp only [busAnswer, State.modPace_course, voutRead_course, busSend_course, openLoop_course, State.fault_course, course_ite, ite_self]

theorem execPmbusTransactionDone_leadsOn {ok : Bool} {value : Half} : LeadsOn s.course (execPmbusTransactionDone ok value s) := by
  unfold execPmbusTransactionDone
  split <;> simp only [leadsOn_done, Course.Onward.refl, State.modPace_course, pumpBus_course, busAnswer_course, regulatorError_course,
    course_ite, ite_self]

theorem execReadVoutPoll_leadsOn : LeadsOn s.course (execReadVoutPoll s) := by
  simp only [execReadVoutPoll, State.untilAon_onward, busSend_course, State.modPace_course, leadsOn_done, leadsOn_ite, ite_self,
    Course.Onward.refl]

theorem execRegulatorSettleTimeout_leadsOn : LeadsOn s.course (execRegulatorSettleTimeout s) := by
  simp only [execRegulatorSettleTimeout, State.untilAon_onward, State.modPace_course, pumpBus_course, regulatorError_course, leadsOn_done,
    leadsOn_ite, ite_self, Course.Onward.refl]

theorem execReadIoutPoll_leadsOn : LeadsOn s.course (execReadIoutPoll s) := by
  simp only [execReadIoutPoll, State.untilAon_onward, busSend_course, State.modPace_course, leadsOn_done, leadsOn_ite, ite_self,
    Course.Onward.refl]

theorem execOpenLoopRetry_leadsOn : LeadsOn s.course (execOpenLoopRetry s) := by
  simp only [execOpenLoopRetry, State.untilAon_onward, busSend_course, State.modPace_course, leadsOn_done, leadsOn_ite, ite_self,
    Course.Onward.refl]

theorem execPmAlert_leadsOn : LeadsOn s.course (execPmAlert s) := by
  simp only [execPmAlert, busSend_course, State.pend_course, leadsOn_done, leadsOn_ite, ite_self, Course.Onward.refl]

theorem execPaceQuery_leadsOn {c : KcpCtx} : LeadsOn s.course (execPaceQuery c s) := by
  unfold execPaceQuery
  refine kcp_leadsOn fun f => ?_
  simp only [Course.Onward.refl, replyOk_st]

theorem execPaceSetBand_leadsOn {c : KcpCtx} {lo hi alarm : Half} : LeadsOn s.course (execPaceSetBand c lo hi alarm s) := by
  simp only [execPaceSetBand, course_ite, st_ite, ite_self, course_mk, course_eta, Course.Onward.refl, implies_true, replyOk_st,
    badParam_st, kcp_leadsOn]

theorem execPaceSetLimits_leadsOn {c : KcpCtx} {vmin vmax : Half} {up down period : Byte} :
    LeadsOn s.course (execPaceSetLimits c vmin vmax up down period s) := by
  simp only [execPaceSetLimits, course_ite, st_ite, ite_self, course_mk, course_eta, Course.Onward.refl, implies_true, replyOk_st,
    badParam_st, kcp_leadsOn]

theorem execPaceClear_leadsOn {c : KcpCtx} : LeadsOn s.course (execPaceClear c s) := by
  simp only [execPaceClear, State.modPace_course, Course.Onward.refl, implies_true, replyOk_st, kcp_leadsOn]

theorem execPaceForceReduced_leadsOn {c : KcpCtx} {enter : Byte} : LeadsOn s.course (execPaceForceReduced c enter s) := by
  simp only [execPaceForceReduced, chooseVariants_course, State.modPace_course, course_ite, st_ite, ite_self, Course.Onward.refl,
    implies_true, refuse_st, replyOk_st, badParam_st, kcp_leadsOn]

/-! ### KCP sessions, grants and the maintenance settings -/

theorem closeMbx_course {f n : Nat} : (closeMbx f n s).course = s.course := by
  simp only [closeMbx, State.modMbx_course, course_ite, ite_self]

theorem closeUdp_course {k : Nat} : (closeUdp k s).course = s.course := (rfl)

theorem closeUdpIf_course {p : UdpSess → Bool} : (closeUdpIf p s).course = s.course := by
  simp only [closeUdpIf, closeUdp_course, course_ite, ite_self, foldl_course, implies_true]

theorem closeAllSessions_course : (closeAllSessions s).course = s.course := by
  simp only [closeAllSessions, closeUdpIf_course, closeMbx_course, foldl_course, implies_true]

theorem closeFnSessions_course {f : Nat} : (closeFnSessions f s).course = s.course := by
  simp only [closeFnSessions, closeUdpIf_course, closeMbx_course, foldl_course, implies_true]

theorem sessOpen_course {c : KcpCtx} {lo hi mask f : Nat} : (sessOpen c lo hi mask f s).st.course = s.course := by
  unfold sessOpen
  split
  · simp only [badParam_st]
  · split
    · simp only [refuse_st]
    · split
      · simp only [refuse_st]
      · split <;> simp only [State.modMbx_course, State.drawHandle_course, replyOk_st, State.modUdp_course]

theorem execSessOpen_leadsOn {c : KcpCtx} {hostMin hostMax : Byte} {_client : List Byte} {mask : Half} :
    LeadsOn s.course (execSessOpen c hostMin hostMax _client mask s) := by
  simp only [execSessOpen, sessOpen_course, Course.Onward.refl, implies_true, kcp_leadsOn]

theorem execSessClose_leadsOn {c : KcpCtx} : LeadsOn s.course (execSessClose c s) := by
  unfold execSessClose
  refine kcp_leadsOn fun f => ?_
  split <;> simp only [State.modMbx_course, Course.Onward.refl, replyOk_st, State.modUdp_course]

theorem execSessInfo_leadsOn {c : KcpCtx} : LeadsOn s.course (execSessInfo c s) := by
  unfold execSessInfo
  refine kcp_leadsOn fun f => ?_
  simp only [Course.Onward.refl, replyOk_st]

theorem execSessNop_leadsOn {c : KcpCtx} {bytes : List Byte} : LeadsOn s.course (execSessNop c bytes s) := by
  unfold execSessNop
  refine kcp_leadsOn fun f => ?_
  simp only [Course.Onward.refl, replyOk_st]

theorem grantTrim_course {f : Nat} : (grantTrim f s).course = s.course := by
  simp only [grantTrim, State.modFn_course, State.intQueue_course, foldl_course, implies_true]

theorem execSessGrantQuery_leadsOn {c : KcpCtx} {fn kind index : Byte} : LeadsOn s.course (execSessGrantQuery c fn kind index s) := by
  simp only [execSessGrantQuery, st_ite, ite_self, Course.Onward.refl, implies_true, replyOk_st, badParam_st, kcp_leadsOn]

theorem execMntReset_leadsOn {c : KcpCtx} {kind : Byte} {confirm : Word} : LeadsOn s.course (execMntReset c kind confirm s) := by
  simp only [execMntReset, State.modHost_course, course_ite, st_ite, ite_self, Course.Onward.refl, implies_true, replyOk_st, badParam_st,
    kcp_leadsOn]

theorem execMntCfgGet_leadsOn {c : KcpCtx} {item : Half} : LeadsOn s.course (execMntCfgGet c item s) := by
  unfold execMntCfgGet
  refine kcp_leadsOn fun f => ?_
  split <;> simp only [Course.Onward.refl, badParam_st, replyOk_st]

theorem execMntCfgSet_leadsOn {c : KcpCtx} {item : Half} {length : Byte} {value : List Byte} {refKhz : Nat} :
    LeadsOn s.course (execMntCfgSet c item length value refKhz s) := by
  unfold execMntCfgSet
  refine kcpRun_leadsOn fun f => ?_
  dsimp only
  split
  · simp only [Course.Onward.refl, refuse_st]
  · split <;> simp only [Course.Onward.refl, badParam_st, State.modBootMram_course, course_ite, st_ite, ite_self, refuse_st, replyOk_st]

theorem execMntSetNetmgmt_leadsOn {c : KcpCtx} {enable ports ipVersion : Byte} {port vlan : Half} {pcp prefixLen : Byte}
    {address : BitVec 128} :
    LeadsOn s.course (execMntSetNetmgmt c enable ports ipVersion port vlan pcp prefixLen address s) := by
  simp only [execMntSetNetmgmt, closeUdpIf_course, course_ite, st_ite, ite_self, course_mk, course_eta, Course.Onward.refl, implies_true,
    replyOk_st, badParam_st, kcp_leadsOn]

theorem execMntNetkey_leadsOn {c : KcpCtx} {slot op role : Byte} {key : List Byte} :
    LeadsOn s.course (execMntNetkey c slot op role key s) := by
  simp only [execMntNetkey, closeUdpIf_course, course_ite, st_ite, ite_self, course_mk, course_eta, Course.Onward.refl, implies_true,
    refuse_st, replyOk_st, badParam_st, kcp_leadsOn]

theorem udpDrop_course {peer : Nat} : (udpDrop peer s).course = s.course := (rfl)

theorem kcpArrives_leadsOn {a : UdpIn} {go : State → Host.Outcome State Fault Refusal}
    (h : ∀ t, t.course = s.course → LeadsOn s.course (go t)) : LeadsOn s.course (kcpArrives a go s) := by
  unfold kcpArrives
  split
  · exact leadsOn_done.mpr (.refl _)
  split
  · rw [leadsOn_done, State.rxDiscard_course]
    exact .refl _
  dsimp only
  split
  · rw [leadsOn_done, State.rxFrame_course]
    exact .refl _
  · exact h _ State.rxFrame_course

theorem helloTaken_course {k : Nat} {a : UdpIn} {d : KcpDgram} : (helloTaken k a d s).course = s.course := by
  simp only [helloTaken, State.sendKcp_course, State.modHost_course, State.draw_course, State.drawHandle_course]

theorem execKcpUdpHello_leadsOn {port : Fin 4} {ends : UdpEnds} {bytes : List Byte} {tagOk : Bool} :
    LeadsOn s.course (execKcpUdpHello port ends bytes tagOk s) := by
  unfold execKcpUdpHello
  refine kcpArrives_leadsOn fun t same => ?_
  rw [← same]
  dsimp only
  split
  · rw [leadsOn_done, udpDrop_course]
    exact .refl _
  · split <;> simp only [leadsOn_done, helloTaken_course, State.learn_course, Course.Onward.refl]

theorem dgramAccepted_course {k : Nat} {a : UdpIn} {d : KcpDgram} : (dgramAccepted k a d s).course = s.course := by
  simp only [dgramAccepted, State.modUdp_course, State.learn_course]

theorem dgramWaits_course {k : Nat} {d : KcpDgram} : (dgramWaits k d s).course = s.course := by
  simp only [dgramWaits, State.modHost_course, State.modUdp_course]

theorem execKcpUdpCommand_leadsOn {port : Fin 4} {ends : UdpEnds} {bytes : List Byte} {tagOk : Bool} {plain : List Byte} :
    LeadsOn s.course (execKcpUdpCommand port ends bytes tagOk plain s) := by
  unfold execKcpUdpCommand
  refine kcpArrives_leadsOn fun t same => ?_
  rw [← same]
  dsimp only
  split
  · rw [leadsOn_done, udpDrop_course]
    exact .refl _
  split
  · rw [leadsOn_done, udpDrop_course]
    exact .refl _
  split
  · rw [leadsOn_done, udpResend_course, dgramAccepted_course]
    exact .refl _
  · exact kcpUnknown_leadsOn.of_eq (by rw [dgramWaits_course, dgramAccepted_course])

theorem execKcpUdpHandleLapse_leadsOn {k : Fin 8} : LeadsOn s.course (execKcpUdpHandleLapse k s) := by
  simp only [execKcpUdpHandleLapse, closeUdp_course, State.untilAon_onward, leadsOn_done, leadsOn_ite, ite_self, Course.Onward.refl]

theorem execKcpUdpSessionIdle_leadsOn {k : Fin 8} : LeadsOn s.course (execKcpUdpSessionIdle k s) := by
  simp only [execKcpUdpSessionIdle, closeUdp_course, State.untilAon_onward, leadsOn_done, leadsOn_ite, ite_self, Course.Onward.refl]

theorem execKcpUdpIgnoreEnd_leadsOn {peer : Nat} : LeadsOn s.course (execKcpUdpIgnoreEnd peer s) := by
  simp only [execKcpUdpIgnoreEnd, State.untilAon_onward, State.modHost_course, leadsOn_done, leadsOn_ite, ite_self, Course.Onward.refl]

/-! ### Mailboxes and their doorbells, KCP over UDP, grants, and the status and maintenance queries -/

theorem mbxBell_course {f n : Nat} {prod : BitVec 17} : (mbxBell f n prod s).course = s.course := by
  simp only [mbxBell, State.count_course, State.modMbx_course, State.pend_course, course_ite, ite_self]

theorem mbxRing_course {f n : Nat} {value : Word} : (mbxRing f n value s).course = s.course := by
  simp only [mbxRing, mbxBell_course, State.modMbx_course, course_ite, ite_self]

theorem execMbxDoorbell_leadsOn {fn : Fin 16} {n : Fin 4} {value : Word} : LeadsOn s.course (execMbxDoorbell fn n value s) := by
  simp only [execMbxDoorbell, State.bar0_course, mbxRing_course, State.modFn_course, leadsOn_done, leadsOn_ite, ite_self,
    Course.Onward.refl]

theorem mbxSize_course {f n : Nat} {size : BitVec 4} : (mbxSize f n size s).course = s.course := by
  simp only [mbxSize, State.modMbx_course, State.count_course, course_ite, ite_self]

theorem mbxEnable_course {f n : Nat} {on' : Bool} : (mbxEnable f n on' s).course = s.course := by
  simp only [mbxEnable, State.modMbx_course, mbxBell_course, course_ite, ite_self]

theorem execMbxCfgWrite_leadsOn {fn : Fin 16} {n : Fin 4} {value : Word} : LeadsOn s.course (execMbxCfgWrite fn n value s) := by
  simp only [execMbxCfgWrite, mbxEnable_course, mbxSize_course, State.bar0_course, leadsOn_done, leadsOn_ite, ite_self, Course.Onward.refl]

theorem execMbxRspConsWrite_leadsOn {fn : Fin 16} {n : Fin 4} {value : Word} : LeadsOn s.course (execMbxRspConsWrite fn n value s) := by
  simp only [execMbxRspConsWrite, State.modMbx_course, State.bar0_course, leadsOn_done, leadsOn_ite, ite_self, Course.Onward.refl]

theorem execMbxTakeCommand_leadsOn {fn : Fin 16} {n : Fin 4} {entry : Option (List Byte)} :
    LeadsOn s.course (execMbxTakeCommand fn n entry s) := by
  unfold execMbxTakeCommand
  dsimp only
  split
  · exact leadsOn_done.mpr (.refl _)
  split
  · exact kcpUnknown_leadsOn
  split
  · exact leadsOn_done.mpr (.refl _)
  cases entry with
  | none => exact leadsOn_done.mpr (by rw [State.modMbx_course, State.hostRead_course]; exact .refl _)
  | some bytes =>
    exact kcpUnknown_leadsOn.of_eq (by simp only [State.count_course, State.modHost_course, State.modMbx_course, State.hostRead_course])

theorem grantGroups_onward {f : Nat} (on : κ.Onward s.course) : κ.Onward (grantGroups f s).course := by
  simp only [grantGroups, State.deferAt_onward, State.modFn_course, on, course_ite, onward_ite, ite_self, foldl_onward,
    Course.Onward.refl, implies_true]

theorem grantCounters_course {was now : Word} : (grantCounters was now s).course = s.course := by
  simp only [grantCounters, State.modPmu_course, foldl_course, implies_true]

theorem sessGrant_onward {fn kind index op : Nat} {value : List Byte} (on : κ.Onward s.course) :
    κ.Onward (sessGrant fn kind index op value s).st.course := by
  unfold sessGrant
  split
  · simp only [on, badParam_st]
  · split
    · simp only [on, badParam_st]
    · split
      · simp only [on, badParam_st]
      · split
        · simp only [on, badParam_st]
        · split <;> simp only [on, badParam_st, State.modFn_course, grantGroups_onward, grantCounters_course, grantTrim_course,
            course_ite, onward_ite, ite_self, replyOk_st]

theorem execSessGrant_leadsOn {c : KcpCtx} {fn kind index op : Byte} {value : List Byte} :
    LeadsOn s.course (execSessGrant c fn kind index op value s) := by
  simp only [execSessGrant, sessGrant_onward, Course.Onward.refl, implies_true, kcpRun_leadsOn]

theorem execSessStatus_leadsOn {c : KcpCtx} : LeadsOn s.course (execSessStatus c s) := by
  unfold execSessStatus
  refine kcp_leadsOn fun f => ?_
  simp only [Course.Onward.refl, replyOk_st]

theorem execMntInfo_leadsOn {c : KcpCtx} : LeadsOn s.course (execMntInfo c s) := by
  unfold execMntInfo
  refine kcp_leadsOn fun f => ?_
  simp only [Course.Onward.refl, replyOk_st]

/-! ### The CXL ports' events, poison, BAR4 and the memory commands -/

theorem stirAdmission_course : (stirAdmission s).course = s.course := by
  simp only [stirAdmission, State.modStore_course, foldl_course, implies_true]

theorem loseCxl_onward {m cause : Nat} (on : κ.Onward s.course) : κ.Onward (loseCxl m cause s).course := by
  simp only [loseCxl, State.modPort_course, stirAdmission_course, loseReads_course, State.memForget_onward, State.pend_course,
    State.fault_course, on, course_ite, onward_ite, ite_self]

theorem execCxlLinkDown_leadsOn {m : Fin 4} : LeadsOn s.course (execCxlLinkDown m s) := by
  simp only [execCxlLinkDown, loseCxl_onward, leadsOn_done, Course.Onward.refl]

theorem execCxlViral_leadsOn {m : Fin 4} : LeadsOn s.course (execCxlViral m s) := by
  simp only [execCxlViral, loseCxl_onward, State.count_course, leadsOn_done, Course.Onward.refl]

theorem linkRecovery_course {m : Nat} : (linkRecovery m s).course = s.course := by
  simp only [linkRecovery, State.modPort_course, State.countN_course, State.count_course, State.draw_course]

theorem execCxlRecoveryTimeout_leadsOn {m : Fin 4} : LeadsOn s.course (execCxlRecoveryTimeout m s) := by
  simp only [execCxlRecoveryTimeout, loseCxl_onward, linkRecovery_course, leadsOn_done, Course.Onward.refl]

theorem execCxlRecoveryDone_leadsOn {m : Fin 4} : LeadsOn s.course (execCxlRecoveryDone m s) := by
  simp only [execCxlRecoveryDone, State.pend_course, State.fault_course, linkRecovery_course, leadsOn_done, leadsOn_ite, ite_self,
    Course.Onward.refl]

theorem execCxlLinkTrained_leadsOn {m : Fin 4} {x : CxlIn} : LeadsOn s.course (execCxlLinkTrained m x s) := by
  simp only [execCxlLinkTrained, State.fault_course, stirAdmission_course, State.modPort_course, leadsOn_done, leadsOn_ite, ite_self,
    Course.Onward.refl]

theorem recopyAssets_onward {m : Nat} (on : κ.Onward s.course) : κ.Onward (recopyAssets m s).course := by
  simp only [recopyAssets, State.memWrite_onward, on, course_ite, onward_ite, ite_self, foldl_onward, Course.Onward.refl, implies_true]

theorem rearmStanding_onward {m : Nat} (on : κ.Onward s.course) : κ.Onward (rearmStanding m s).course := by
  unfold rearmStanding
  dsimp only
  split
  · exact on
  · split
    · simp only [takeSwitch_course, recopyAssets_onward, on]
    · exact on

theorem rearmPorts_onward (on : κ.Onward s.course) : κ.Onward (rearmPorts s).course := by
  simp only [rearmPorts, rearmStanding_onward, on, foldl_onward, Course.Onward.refl, implies_true]

theorem execCxlPortInitDone_leadsOn {m : Fin 4} : LeadsOn s.course (execCxlPortInitDone m s) := by
  simp only [execCxlPortInitDone, State.countInit_course, State.modPort_course, State.modFltSrc_course, rearmPorts_onward,
    State.pend_course, State.linkRecord_course, stirAdmission_course, course_ite, leadsOn_done, leadsOn_ite, ite_self, Course.Onward.refl]

theorem execCxlOfflineComplete_leadsOn {m : Fin 4} : LeadsOn s.course (execCxlOfflineComplete m s) := by
  simp only [execCxlOfflineComplete, State.modPort_course, State.memForget_onward, State.modPins_course, State.pend_course,
    State.linkRecord_course, stirAdmission_course, leadsOn_done, leadsOn_ite, ite_self, Course.Onward.refl]

theorem execQuietPeriodEnd_leadsOn {source : Fin 192} : LeadsOn s.course (execQuietPeriodEnd source s) := by
  simp only [execQuietPeriodEnd, rearmPorts_onward, quietEnd_onward, leadsOn_done, Course.Onward.refl]

theorem execFltUnfence_leadsOn {c : KcpCtx} {source : Half} : LeadsOn s.course (execFltUnfence c source s) := by
  simp only [execFltUnfence, fltUnfence_course, rearmPorts_onward, Course.Onward.refl, implies_true, kcp_leadsOn]

theorem keepTable_course {bank : Bool} {index : Nat} : (keepTable bank index s).course = s.course := by
  unfold keepTable
  split
  · rfl
  · split
    · simp only [State.modSeq_course]
    · dsimp only
      rw [refreshBypass_course]
      split <;> simp only [State.modSeq_course]

theorem reloadOrFallBack_course : (reloadOrFallBack s).course = s.course := by
  unfold reloadOrFallBack
  dsimp only
  split
  · simp only [State.draw_course]
  · split <;> simp only [takeSwitch_course, State.draw_course]

theorem poisonUsed_course {m a : Nat} {use : PoisonUse} : (poisonUsed m a use s).course = s.course := by
  unfold poisonUsed
  dsimp only
  split
  · split <;> simp only [landRead_course, poisonSeen_course]
  · split <;> simp only [landRead_course, poisonSeen_course]
  · split <;> simp only [landRead_course, poisonSeen_course]
  · split <;> simp only [poisonSeen_course, State.faultOpen_course, State.modGroup_course]
  · simp only [poisonSeen_course, State.faultOpen_course, keepTable_course]
  · simp only [poisonSeen_course, State.faultOpen_course]
  · simp only [poisonSeen_course, State.faultOpen_course, reloadOrFallBack_course]
  · simp only [poisonSeen_course, State.faultOpen_course, State.modFlt_course, State.modBootMram_course]

theorem execPoisonResponse_leadsOn {address : BitVec 43} {use : PoisonUse} : LeadsOn s.course (execPoisonResponse address use s) := by
  unfold execPoisonResponse
  dsimp only
  split <;> simp only [leadsOn_done, Course.Onward.refl, poisonUsed_course, leadsOn_ite, ite_self, course_mk, course_eta]

theorem landWrites_onward {f : Nat} (on : κ.Onward s.course) : κ.Onward (landWrites f s).course := by
  simp only [landWrites, State.modFn_course, State.memStore_onward, armArrives_course, mbxRing_course, on, course_ite, ite_self,
    foldl_course, foldl_onward, Course.Onward.refl, implies_true]

theorem barMiss_course {f : Nat} : (barMiss f s).course = s.course := by
  simp only [barMiss, State.count_course, State.modFn_course]

theorem execBar4Write_leadsOn {fn : Fin 16} {offset : BitVec 38} {bytes : List Byte} {lands : Bool} :
    LeadsOn s.course (execBar4Write fn offset bytes lands s) := by
  unfold execBar4Write
  split
  · simp only [leadsOn_done, Course.Onward.refl]
  · dsimp only
    split <;> simp only [State.count_course, barMiss_course, leadsOn_done, Course.Onward.refl, State.modFn_course, landWrites_onward,
      course_ite, onward_ite, ite_self]

theorem execBar4Read_leadsOn {fn : Fin 16} {offset : BitVec 38} {len : Nat} : LeadsOn s.course (execBar4Read fn offset len s) := by
  unfold execBar4Read
  split
  · simp only [leadsOn_done, Course.Onward.refl]
  · dsimp only
    split
    · simp only [landWrites_onward, State.count_course, State.emit_course, barMiss_course, leadsOn_done, Course.Onward.refl]
    · split
      · rename_i t e
        obtain rfl := snd_of_eq e
        simp only [landWrites_onward, State.count_course, State.emit_course, State.memLoad_course, course_ite, leadsOn_done, ite_self,
          Course.Onward.refl]
      · rename_i t e
        obtain rfl := snd_of_eq e
        simp only [landWrites_onward, State.count_course, State.emit_course, State.memLoad_course, course_ite, leadsOn_done, ite_self,
          Course.Onward.refl, State.draw_course]

theorem execArmWritesLanded_leadsOn {fn : Fin 16} : LeadsOn s.course (execArmWritesLanded fn s) := by
  simp only [execArmWritesLanded, landWrites_onward, leadsOn_done, Course.Onward.refl]

theorem execMemQuery_leadsOn {c : KcpCtx} {port : Byte} : LeadsOn s.course (execMemQuery c port s) := by
  simp only [execMemQuery, State.bgAdvance_course, course_ite, st_ite, ite_self, Course.Onward.refl, implies_true, replyOk_st,
    badParam_st, kcp_leadsOn]

theorem execMemSetInterleave_leadsOn {c : KcpCtx} {size : Half} : LeadsOn s.course (execMemSetInterleave c size s) := by
  simp only [execMemSetInterleave, State.modBootMram_course, course_ite, st_ite, ite_self, Course.Onward.refl, implies_true, refuse_st,
    replyOk_st, badParam_st, kcp_leadsOn]

theorem execMemMapAperture_leadsOn {c : KcpCtx} {fn segment enable : Byte} {address : Long} :
    LeadsOn s.course (execMemMapAperture c fn segment enable address s) := by
  simp only [execMemMapAperture, State.bgAdvance_course, State.modFn_course, course_ite, st_ite, ite_self, Course.Onward.refl,
    implies_true, refuse_st, replyOk_st, badParam_st, kcp_leadsOn]

theorem execMemPortOffline_leadsOn {c : KcpCtx} {port : Byte} : LeadsOn s.course (execMemPortOffline c port s) := by
  simp only [execMemPortOffline, chooseVariants_course, State.modPort_course, course_ite, st_ite, ite_self, Course.Onward.refl,
    implies_true, refuse_st, replyOk_st, badParam_st, kcp_leadsOn]

theorem execMemPortOnline_leadsOn {c : KcpCtx} {port : Byte} : LeadsOn s.course (execMemPortOnline c port s) := by
  simp only [execMemPortOnline, State.modPins_course, course_ite, st_ite, ite_self, Course.Onward.refl, implies_true, refuse_st,
    replyOk_st, badParam_st, kcp_leadsOn]

theorem execMemSetSnoop_leadsOn {c : KcpCtx} {fn noSnoop : Byte} : LeadsOn s.course (execMemSetSnoop c fn noSnoop s) := by
  unfold execMemSetSnoop
  refine kcp_leadsOn fun f => ?_
  simp only [State.defer_onward, State.modFn_course, course_ite, st_ite, onward_ite, ite_self, foldl_onward, Course.Onward.refl,
    implies_true, replyOk_st, badParam_st]

/-! ### The host link -/

theorem dropColour_course {hit : Nat → Bool} {key : Nat} : (dropColour hit key s).course = s.course := (rfl)

theorem discardShadows_course {hit : Nat → Bool} : (discardShadows hit s).course = s.course := by
  unfold discardShadows
  refine foldl_course fun s x => ?_
  split
  · rfl
  · simp only [State.modSlot_course, dropColour_course, State.modHead_course, State.modEth_course, course_ite, ite_self, foldl_course,
      implies_true]

theorem clearFn_onward {f : Nat} (on : κ.Onward s.course) : κ.Onward (clearFn f s).course := by
  simp only [clearFn, closeFnSessions_course, landWrites_onward, discardShadows_course, State.intRelease_course, dmaFlr_onward,
    loseReads_course, State.modTruss_course, State.modHost_course, on]

theorem clearAllFns_onward (on : κ.Onward s.course) : κ.Onward (clearAllFns s).course := by
  simp only [clearAllFns, State.modHost_course, clearFn_onward, on, foldl_onward, Course.Onward.refl, implies_true]

theorem execFunctionLevelReset_leadsOn {fn : Fin 16} : LeadsOn s.course (execFunctionLevelReset fn s) := by
  simp only [execFunctionLevelReset, State.count_course, clearAllFns_onward, clearFn_onward, course_ite, onward_ite, leadsOn_done,
    leadsOn_ite, ite_self, Course.Onward.refl]

theorem execVfEnableWrite_leadsOn {enable : Bool} : LeadsOn s.course (execVfEnableWrite enable s) := by
  simp only [execVfEnableWrite, State.modHost_course, clearAllFns_onward, leadsOn_done, leadsOn_ite, ite_self, Course.Onward.refl]

theorem portReset_onward (on : κ.Onward s.course) : κ.Onward (portReset s).course := by
  simp only [portReset, landWrites_onward, State.intRelease_course, closeAllSessions_course, discardShadows_course, loseReads_course,
    State.modTruss_course, State.modHost_course, stirAdmission_course, on, foldl_course, foldl_onward, Course.Onward.refl, implies_true]

theorem sensePerst_onward (on : κ.Onward s.course) : κ.Onward (sensePerst s).course := by
  simp only [sensePerst, State.modHost_course, portReset_onward, on, course_ite, onward_ite, ite_self]

theorem execHostPortReset_leadsOn : LeadsOn s.course (execHostPortReset s) := by
  simp only [execHostPortReset, sensePerst_onward, State.modHost_course, leadsOn_done, Course.Onward.refl]

theorem execPerstNDeassert_leadsOn : LeadsOn s.course (execPerstNDeassert s) := by
  simp only [execPerstNDeassert, sensePerst_onward, State.modHost_course, leadsOn_done, Course.Onward.refl]

theorem execPeRefclkLoss_leadsOn : LeadsOn s.course (execPeRefclkLoss s) := by
  simp only [execPeRefclkLoss, sensePerst_onward, State.modHost_course, leadsOn_done, Course.Onward.refl]

theorem execPeRefclkReturn_leadsOn : LeadsOn s.course (execPeRefclkReturn s) := by
  simp only [execPeRefclkReturn, sensePerst_onward, State.modHost_course, leadsOn_done, Course.Onward.refl]

theorem execSurpriseDown_leadsOn {dmaInFlight : Nat} : LeadsOn s.course (execSurpriseDown dmaInFlight s) := by
  simp only [execSurpriseDown, dmaSurprise_onward, portReset_onward, State.modHost_course, State.fault_course, State.count_course,
    leadsOn_done, leadsOn_ite, ite_self, Course.Onward.refl]

theorem checkHostBw_course : (checkHostBw s).course = s.course := by
  simp only [checkHostBw, State.fault_course, State.modHost_course, course_ite, ite_self]

theorem settleRing0_course : (settleRing0 s).course = s.course := by
  simp only [settleRing0, checkHostBw_course, stirAdmission_course, State.modHost_course, State.countN_course, State.payOwed_course,
    course_ite, ite_self]

theorem execHostLinkTrained_leadsOn {rate : BitVec 3} {width : BitVec 5} {latency : Nat} :
    LeadsOn s.course (execHostLinkTrained rate width latency s) := by
  simp only [execHostLinkTrained, State.count_course, State.modHost_course, stirAdmission_course, State.linkRecord_course,
    settleRing0_course, checkHostBw_course, course_ite, leadsOn_done, leadsOn_ite, ite_self, Course.Onward.refl, State.draw_course]

theorem execBusMasterDisable_leadsOn {fn : Fin 16} : LeadsOn s.course (execBusMasterDisable fn s) := by
  simp only [execBusMasterDisable, loseReads_course, State.modFn_course, leadsOn_done, leadsOn_ite, ite_self, Course.Onward.refl]

theorem sendPending_course {f : Nat} : (sendPending f s).course = s.course := by
  simp only [sendPending, State.count_course, State.emit_course, State.modHost_course, course_ite, ite_self, foldl_course, implies_true]

theorem execBusMasterEnableSet_leadsOn {fn : Fin 16} : LeadsOn s.course (execBusMasterEnableSet fn s) := by
  simp only [execBusMasterEnableSet, sendPending_course, State.modFn_course, settleRing0_course, course_ite, leadsOn_done, leadsOn_ite,
    ite_self, Course.Onward.refl]

theorem execEvtRingCfgWrite_leadsOn {fn : Fin 16} {n : Fin 4} {value : Word} : LeadsOn s.course (execEvtRingCfgWrite fn n value s) := by
  simp only [execEvtRingCfgWrite, State.bar0_course, State.setRing_course, State.count_course, settleRing0_course, course_ite,
    leadsOn_done, leadsOn_ite, ite_self, Course.Onward.refl]

theorem execEvtRingConsWrite_leadsOn {fn : Fin 16} {n : Fin 4} {value : Word} : LeadsOn s.course (execEvtRingConsWrite fn n value s) := by
  simp only [execEvtRingConsWrite, State.bar0_course, State.setRing_course, State.modFn_course, State.payStale_course, course_ite,
    leadsOn_done, leadsOn_ite, ite_self, Course.Onward.refl]

theorem execEvtCoalTimeout_leadsOn {fn : Fin 16} {n : Fin 4} : LeadsOn s.course (execEvtCoalTimeout fn n s) := by
  simp only [execEvtCoalTimeout, State.untilAon_onward, State.signal_course, course_ite, leadsOn_done, leadsOn_ite, ite_self,
    Course.Onward.refl]

theorem execFunctionStale_leadsOn {fn : Fin 16} : LeadsOn s.course (execFunctionStale fn s) := by
  unfold execFunctionStale
  split <;> simp only [leadsOn_done, Course.Onward.refl, State.untilAon_onward, State.modFn_course, leadsOn_ite, ite_self]

/-! ### Trust -/

theorem putImage_course {k : Nat} {x : FwImage} : (putImage k x s).course = s.course := (rfl)

theorem imageReport_course {x : ImageWrite} {code : Nat} {st : Status} {detail : Nat} :
    (imageReport x code st detail s).course = s.course := by
  simp only [imageReport, State.pend_course, State.serviceEvent_course]

theorem execSecImageWrite_leadsOn {c : KcpCtx} {target source : Byte} {length : Word} {address : Long} :
    LeadsOn s.course (execSecImageWrite c target source length address s) := by
  simp only [execSecImageWrite, State.modBoot_course, State.modSec_course, course_ite, st_ite, ite_self, Course.Onward.refl, implies_true,
    refuse_st, badParam_st, kcp_leadsOn]

theorem imageInstalled_course {region : Nat} {img : List Byte} : (imageInstalled region img s).course = s.course := by
  simp only [imageInstalled, putImage_course, countVerify_course, State.countN_course, flashErased_course]

theorem imageTaken_course {x : ImageWrite} {img : List Byte} : (imageTaken x img s).course = s.course := by
  simp only [imageTaken, imageInstalled_course, State.modBootMram_course, course_ite, ite_self]

theorem execImageWriteDone_leadsOn {host : Option (List Byte)} {sigOk ok : Bool} :
    LeadsOn s.course (execImageWriteDone host sigOk ok s) := by
  unfold execImageWriteDone
  split
  · simp only [leadsOn_done, Course.Onward.refl]
  · dsimp only
    split
    · rename_i t e
      obtain rfl := snd_of_eq e
      simp only [State.modBoot_course, State.modSec_course, State.memLoad_course, State.hostRead_course, imageReport_course, course_ite,
        snd_ite, leadsOn_done, ite_self, Course.Onward.refl]
    · rename_i t e
      obtain rfl := snd_of_eq e
      split <;> simp only [State.modBoot_course, State.modSec_course, State.memLoad_course, State.hostRead_course, imageReport_course,
        countVerify_course, course_ite, snd_ite, leadsOn_done, ite_self, Course.Onward.refl, storeFault_course, flashErased_course,
        imageTaken_course, leadsOn_ite]

theorem execSecImageQuery_leadsOn {c : KcpCtx} {image : Byte} : LeadsOn s.course (execSecImageQuery c image s) := by
  simp only [execSecImageQuery, st_ite, ite_self, Course.Onward.refl, implies_true, replyOk_st, badParam_st, kcp_leadsOn]

theorem execSecRollbackCommit_leadsOn {c : KcpCtx} {kind : Byte} {value : Word} :
    LeadsOn s.course (execSecRollbackCommit c kind value s) := by
  simp only [execSecRollbackCommit, State.modSec_course, State.modSecMram_course, State.pend_course, course_ite, st_ite, ite_self,
    Course.Onward.refl, implies_true, refuse_st, replyOk_st, badParam_st, kcp_leadsOn]

theorem keyRecord_course {slot op : Nat} {key : List Byte} : (keyRecord slot op key s).course = s.course := (rfl)

theorem execSecKeyInstall_leadsOn {c : KcpCtx} {address : Long} {sigOk : Bool} :
    LeadsOn s.course (execSecKeyInstall c address sigOk s) := by
  unfold execSecKeyInstall
  refine kcp_leadsOn fun f => ?_
  dsimp only
  refine onward_reply (.refl _) (onward_reply (.refl _) ?_)
  generalize e : s.memLoad _ _ _ = p
  have read : p.2.course = s.course := by rw [← e, State.memLoad_course]
  obtain ⟨_ | b, t⟩ := p
  · exact Course.Onward.of_eq (.refl _) read
  have on : s.course.Onward t.course := Course.Onward.of_eq (.refl _) read
  dsimp only
  refine onward_reply on (onward_reply on (onward_reply on (onward_reply ?_ ?_)))
  · rwa [replyOk_st, keyRecord_course]
  split
  next w e =>
    have read : w.course = t.course := by rw [snd_of_eq e, snd_ite, course_ite, State.memLoad_course, ite_self]
    simp only [refuse_st, State.faultOpen_course, countVerify_course, on.of_eq read]
  next g w e =>
    have read : w.course = t.course := by rw [snd_of_eq e, snd_ite, course_ite, State.memLoad_course, ite_self]
    split <;> simp only [refuse_st, replyOk_st, keyRecord_course, State.faultOpen_course, countVerify_course, on.of_eq read]

theorem execSecKeyQuery_leadsOn {c : KcpCtx} {slot : Byte} : LeadsOn s.course (execSecKeyQuery c slot s) := by
  simp only [execSecKeyQuery, st_ite, ite_self, Course.Onward.refl, implies_true, refuse_st, replyOk_st, badParam_st, kcp_leadsOn]

theorem putOut_onward {f mode a : Nat} {bs : List Byte} (on : κ.Onward s.course) : κ.Onward (putOut f mode a bs s).course := by
  simp only [putOut, State.memWrite_onward, State.hostWrite_course, on, course_ite, onward_ite, ite_self]

theorem execSecAttest_leadsOn {c : KcpCtx} {mode : Byte} {address : Long} {nonce : List Byte} :
    LeadsOn s.course (execSecAttest c mode address nonce s) := by
  simp only [execSecAttest, State.count_course, putOut_onward, course_ite, st_ite, onward_ite, ite_self, Course.Onward.refl, implies_true,
    refuse_st, replyOk_st, badParam_st, kcp_leadsOn]

theorem execSecIdentity_leadsOn {c : KcpCtx} {mode : Byte} {address : Long} : LeadsOn s.course (execSecIdentity c mode address s) := by
  simp only [execSecIdentity, putOut_onward, course_ite, st_ite, onward_ite, ite_self, Course.Onward.refl, implies_true, refuse_st,
    replyOk_st, badParam_st, kcp_leadsOn]

theorem execSecDebugChallenge_leadsOn {c : KcpCtx} : LeadsOn s.course (execSecDebugChallenge c s) := by
  simp only [execSecDebugChallenge, State.modSec_course, course_ite, st_ite, ite_self, Course.Onward.refl, implies_true,
    State.draw_course, refuse_st, replyOk_st, kcp_leadsOn]

theorem execDebugChallengeLapse_leadsOn : LeadsOn s.course (execDebugChallengeLapse s) := by
  simp only [execDebugChallengeLapse, State.modSec_course, State.untilAon_onward, leadsOn_done, leadsOn_ite, ite_self, Course.Onward.refl]

theorem unlockFailed_course : (unlockFailed s).course = s.course := by
  simp only [unlockFailed, State.modSec_course, State.faultOpen_course, course_ite, ite_self]

theorem unlocks_course {level : Nat} : (unlocks level s).course = s.course := by
  simp only [unlocks, State.modFlt_course, State.modSec_course, State.fault_course, State.pend_course, course_ite, ite_self]

theorem execSecDebugUnlock_leadsOn {c : KcpCtx} {address : Long} {sigOk : Bool} :
    LeadsOn s.course (execSecDebugUnlock c address sigOk s) := by
  unfold execSecDebugUnlock
  refine kcp_leadsOn fun f => ?_
  dsimp only
  split
  · simp only [Course.Onward.refl, refuse_st]
  · split
    · simp only [Course.Onward.refl, badParam_st]
    · split
      · rename_i t e
        obtain rfl := snd_of_eq e
        simp only [State.memLoad_course, Course.Onward.refl, refuse_st]
      · rename_i t e
        obtain rfl := snd_of_eq e
        split <;> simp only [State.memLoad_course, State.count_course, unlockFailed_course, countVerify_course, course_ite, ite_self,
          Course.Onward.refl, refuse_st, unlocks_course, replyOk_st]

theorem execSecTamperCfg_leadsOn {c : KcpCtx} {action : Byte} : LeadsOn s.course (execSecTamperCfg c action s) := by
  simp only [execSecTamperCfg, State.modSecMram_course, course_ite, st_ite, ite_self, Course.Onward.refl, implies_true, refuse_st,
    replyOk_st, badParam_st, kcp_leadsOn]

theorem tamper_course {x : Nat} : (tamper x s).course = s.course := by
  simp only [tamper, State.count_course, State.pend_course, State.faultOpen_course, State.modSec_course]

theorem eraseKeys_course : (eraseKeys s).course = s.course := by
  simp only [eraseKeys, closeUdpIf_course, restartMka_course, State.modNetMram_course, course_ite, ite_self, course_mk, course_eta,
    foldl_course, implies_true]

theorem execTamperAssert_leadsOn : LeadsOn s.course (execTamperAssert s) := by
  simp only [execTamperAssert, tamper_course, State.modPins_course, eraseKeys_course, course_ite, leadsOn_done, leadsOn_ite, ite_self,
    Course.Onward.refl]

theorem execTamperRelease_leadsOn : LeadsOn s.course (execTamperRelease s) := by
  simp only [execTamperRelease, State.pend_course, State.modPins_course, leadsOn_done, leadsOn_ite, ite_self, Course.Onward.refl]

theorem execSupplyGlitch_leadsOn {rail : Rail} {mv ns : Nat} : LeadsOn s.course (execSupplyGlitch rail mv ns s) := by
  simp only [execSupplyGlitch, tamper_course, leadsOn_done, leadsOn_ite, ite_self, Course.Onward.refl]

theorem execTemperatureAlarm_leadsOn {tj : ℤ} : LeadsOn s.course (execTemperatureAlarm tj s) := by
  simp only [execTemperatureAlarm, State.modBoot_course, tamper_course, leadsOn_done, leadsOn_ite, ite_self, Course.Onward.refl]

theorem rcvGo_course {cfg : Bool} : (rcvGo cfg s).course = s.course := by
  simp only [rcvGo, State.modSec_course, course_ite, ite_self]

theorem execIdRcvGo_leadsOn {fn : Fin 16} : LeadsOn s.course (execIdRcvGo fn s) := by
  simp only [execIdRcvGo, State.bar0_course, State.denied_course, rcvGo_course, leadsOn_done, leadsOn_ite, ite_self, Course.Onward.refl]

theorem execIdRcvCfgReset_leadsOn {fn : Fin 16} : LeadsOn s.course (execIdRcvCfgReset fn s) := by
  simp only [execIdRcvCfgReset, State.bar0_course, State.denied_course, rcvGo_course, leadsOn_done, leadsOn_ite, ite_self,
    Course.Onward.refl]

theorem rcvFailed_course {reason : Nat} : (rcvFailed reason s).course = s.course := (rfl)

theorem rcvInstall_course {img : List Byte} : (rcvInstall img s).course = s.course := by
  simp only [rcvInstall, imageInstalled_course, State.modBootMram_course, State.modSec_course, course_ite, ite_self]

theorem execRcvInstallDone_leadsOn {image : Option (List Byte)} {sigOk ok : Bool} :
    LeadsOn s.course (execRcvInstallDone image sigOk ok s) := by
  unfold execRcvInstallDone
  split
  · simp only [leadsOn_done, Course.Onward.refl]
  · dsimp only
    split
    · simp only [State.hostRead_course, rcvFailed_course, leadsOn_done, Course.Onward.refl]
    · split
      · simp only [State.hostRead_course, rcvFailed_course, leadsOn_done, Course.Onward.refl]
      · split <;> simp only [State.hostRead_course, rcvFailed_course, countVerify_course, leadsOn_done, Course.Onward.refl,
          flashErased_course, rcvInstall_course, leadsOn_ite, ite_self]

/-! ### Writes to the registers of BAR0 that have no command of their own, field by field -/

theorem writeId_course {f off : Nat} {v : Word} : (writeId f off v s).course = s.course := by
  simp only [writeId, State.modHost_course, State.modSec_course, State.denied_course, course_ite, ite_self]

theorem writeMbx_course {f n off : Nat} {v : Word} : (writeMbx f n off v s).course = s.course := by
  simp only [writeMbx, State.count_course, State.modMbx_course, State.denied_course, course_ite, ite_self]

theorem writeRing_course {f n off : Nat} {v : Word} : (writeRing f n off v s).course = s.course := by
  simp only [writeRing, State.count_course, State.setRing_course, State.denied_course, course_ite, ite_self]

theorem unmaskVec_course {f x : Nat} : (unmaskVec f x s).course = s.course := by
  simp only [unmaskVec, State.count_course, State.emit_course, State.modHost_course, course_ite, ite_self]

theorem writeVec_course {f off : Nat} {v : Word} : (writeVec f off v s).course = s.course := by
  unfold writeVec
  dsimp only
  split <;> simp only [State.modHost_course, unmaskVec_course]

theorem writeIntc_course {f off : Nat} : (writeIntc f off s).course = s.course := by
  simp only [writeIntc, State.denied_course, course_ite, ite_self]

theorem writeFlt_course {f off : Nat} {v : Word} : (writeFlt f off v s).course = s.course := by
  simp only [writeFlt, State.modFlt_course, State.denied_course, course_ite, ite_self]

theorem writePmu_course {f off : Nat} {v : Word} : (writePmu f off v s).course = s.course := by
  simp only [writePmu, State.denied_course, State.modPmu_course, course_ite, ite_self]

theorem writeClk_course {f off : Nat} : (writeClk f off s).course = s.course := by
  simp only [writeClk, State.denied_course, course_ite, ite_self]

theorem writeDma_course {f off : Nat} {v : Word} : (writeDma f off v s).course = s.course := by
  simp only [writeDma, State.denied_course, State.count_course, State.modCh_course, State.modCq_course, course_ite, ite_self]

theorem writeSill_course {f off : Nat} {v : Word} : (writeSill f off v s).course = s.course := by
  simp only [writeSill, sillDoorbell_course, State.denied_course, State.modGroup_course, course_ite, ite_self]

theorem writeReg_course {f off : Nat} {v : Word} : (writeReg f off v s).course = s.course := by
  simp only [writeReg, writeId_course, writeMbx_course, State.denied_course, writeRing_course, writeVec_course, writeIntc_course,
    writeFlt_course, writePmu_course, writeClk_course, writeDma_course, writeSill_course, course_ite, ite_self]

theorem writeWide_course {f off : Nat} {v : Long} : (writeWide f off v s).course = s.course := by
  simp only [writeWide, writeReg_course, State.modPmu_course, State.modFn_course, course_ite, ite_self]

theorem execRegisterWrite_leadsOn {fn : Fin 16} {offset : BitVec 26} {size : Nat} {value : Long} :
    LeadsOn s.course (execRegisterWrite fn offset size value s) := by
  simp only [execRegisterWrite, State.bar0_course, writeReg_course, writeWide_course, State.denied_course, leadsOn_done, leadsOn_ite,
    ite_self, Course.Onward.refl]

/-! ### Resets, the cold and the warm start, the boot-attempt counters, the boot watchdog and limp mode -/

theorem fenceLocked_course : (fenceLocked s).course = s.course := (rfl)

theorem abortStanding_course : (abortStanding s).course = s.course := by
  unfold abortStanding
  refine foldl_course fun s x => ?_
  split
  · simp only [State.modTruss_course]
  · rfl

theorem enterReset_onward {cold : Bool} {phase : Phase} (on : κ.Onward s.course) :
    κ.Onward (enterReset cold phase s).course := by
  unfold enterReset
  dsimp only
  rw [fenceLocked_course, course_mk]
  refine (on.of_eq abortStanding_course).trans ⟨rfl, fun h => ?_, Nat.le_refl _⟩
  unfold MemSt.afterReset
  split
  · rfl
  · exact h

theorem sampleStraps_course {i : StartIn} : (sampleStraps i s).course = s.course := (rfl)

theorem beginStart_course {cause since : Nat} : (beginStart cause since s).course = s.course := (rfl)

theorem romVolts_course {i : StartIn} : (romVolts i s).course = s.course := by
  simp only [romVolts, State.modBoot_course, busOut_course, State.modPace_course, openLoop_course, State.modPins_course, course_ite,
    ite_self]

theorem lockPll_course {k : Nat} {locks : Bool} : (lockPll k locks s).course = s.course := by
  simp only [lockPll, State.modPll_course, State.pend_course, State.faultOpen_course, acquirePll_course, course_ite, ite_self]

theorem fixedPll_course {k : Nat} {locks : Bool} : (fixedPll k locks s).course = s.course := by
  simp only [fixedPll, lockPll_course, State.modPll_course, State.draw_course]

theorem calibrate_course {i : StartIn} : (calibrate i s).course = s.course := by
  simp only [calibrate, State.modBoot_course, State.modBootMram_course, fixedPll_course, course_ite, ite_self, modClk_course]

theorem selfTests_course : (selfTests s).course = s.course := by
  simp only [selfTests, State.modBoot_course, State.modBootMram_course, course_ite, ite_self]

theorem verifyImage_course {k : Nat} {sigOk : Bool} : (verifyImage k sigOk s).course = s.course := by
  unfold verifyImage
  split
  · rfl
  · dsimp only
    split <;> simp only [countVerify_course, putImage_course, State.fault_course, State.fltFall_course]

theorem verifyImages_course {i : StartIn} : (verifyImages i s).course = s.course := by
  simp only [verifyImages, State.modBoot_course, verifyImage_course, State.modBootMram_course, course_ite, ite_self]

theorem chooseGolden_course : (chooseGolden s).2.course = s.course := by
  simp only [chooseGolden, State.modBootMram_course, course_ite, snd_ite, ite_self]

theorem chooseImage_course : (chooseImage s).2.course = s.course := by
  simp only [chooseImage, storeFault_course, State.fltFall_course, State.modBootMram_course, chooseGolden_course, course_ite, snd_ite,
    ite_self]

theorem limpTiming_course {h : Nat} {sink : SinkCaps} : (limpTiming h sink s).2.course = s.course := by
  unfold limpTiming
  split
  · rfl
  · simp only [State.draw_course]

theorem startHead_course {i : StartIn} {h : Nat} : (startHead i h s).course = s.course := by
  unfold startHead
  dsimp only
  split
  · rw [plugHead_course]
    split
    · simp only [lockPll_course]
    · rfl
  · split
    · simp only [lockPll_course]
    · rfl

theorem showSafeField_course {i : StartIn} {hs : List Nat} : (showSafeField i hs s).course = s.course := by
  simp only [showSafeField, limpTiming_course, programPll_course, State.modHead_course, startHead_course, refreshPllHeads_course,
    foldl_course, implies_true]

theorem enterLimp_onward {i : StartIn} (on : κ.Onward s.course) : κ.Onward (enterLimp i s).course := by
  simp only [enterLimp, sensePerst_onward, showSafeField_course, State.modBoot_course, on]

theorem enterRecovery_onward (on : κ.Onward s.course) : κ.Onward (enterRecovery s).course := by
  simp only [enterRecovery, sensePerst_onward, State.modBoot_course, on]

theorem measure_course {k : Nat} : (measure k s).course = s.course := (rfl)

theorem startPace_course {i : StartIn} : (startPace i s).course = s.course := by
  simp only [startPace, State.modPace_course, busOut_course, openLoop_course, monitorFail_course, course_ite, ite_self, foldl_course,
    implies_true]

theorem trainCxl_onward {i : StartIn} {m : Nat} (on : κ.Onward s.course) : κ.Onward (trainCxl i m s).course := by
  simp only [trainCxl, State.modPort_course, State.memForget_onward, State.fault_course, State.fltFall_course, loseCxl_onward, on,
    course_ite, onward_ite, ite_self]

theorem startCxl_onward {i : StartIn} (on : κ.Onward s.course) : κ.Onward (startCxl i s).course := by
  simp only [startCxl, State.modPins_course, trainCxl_onward, State.modBoot_course, State.fault_course, on, course_ite, ite_self,
    course_mk, course_eta, foldl_onward, Course.Onward.refl, implies_true]

theorem foregroundInit_onward {t : Truss} (on : κ.Onward s.course) : κ.Onward (foregroundInit t s).course := by
  unfold foregroundInit
  refine foldl_onward (fun s r => ?_) on
  dsimp only
  refine onward_mem ?_ (tabKeep_wf (d := 0) (p := fun a _ => !(decide (r.addr ≤ a) && decide (a < r.addr + r.size))))
  rw [foldl_course fun s p => State.countN_course]
  exact .refl _

theorem assetSurface_course {t : Truss} {a : TAsset} : (assetSurface t a s).course = s.course := by
  simp only [assetSurface, State.modSurf_course, course_ite, ite_self, State.draw_course]

theorem assetCharMap_course {a : TAsset} {b : List Byte} : (assetCharMap a b s).course = s.course := by
  simp only [assetCharMap, State.modSvc_course, course_ite, ite_self]

theorem loadStanding_onward {i : StartIn} {fore : Bool} {k : Nat} (on : κ.Onward s.course) :
    κ.Onward (loadStanding i fore k s).2.course := by
  unfold loadStanding
  dsimp only
  split
  · exact on
  generalize e : admitInto 0 _ _ _ _ = p
  have admitted : κ.Onward p.2.course := by
    rw [← e, admitInto_course]
    refine storeCopy_onward ?_
    rw [State.modStore_course]
    refine foldl_onward (fun s a => ?_) ?_
    · simp only [assetCharMap_course, assetSurface_course, State.memWrite_onward, Course.Onward.refl]
    · split <;> simp only [foregroundInit_onward, State.countN_course, on]
  obtain ⟨_ | r, t⟩ := p
  · simp only [snd_ite, course_ite, State.modStore_course, ite_self, admitted]
  · rwa [State.modSeq_course, State.modStore_course]

theorem resumeTruss_course {i : StartIn} : (resumeTruss i s).2.course = s.course := by
  unfold resumeTruss
  split
  · rfl
  · split
    · rfl
    · dsimp only
      split
      · rename_i t e
        obtain rfl := snd_of_eq e
        simp only [admitInto_course, State.modTruss_course, State.modBoot_course]
      · rename_i t e
        obtain rfl := snd_of_eq e
        simp only [admitInto_course]

theorem chooseTruss_onward {i : StartIn} (on : κ.Onward s.course) : κ.Onward (chooseTruss i s).2.course := by
  unfold chooseTruss
  split
  · rename_i t e
    obtain rfl := snd_of_eq e
    simp only [resumeTruss_course, on]
  · rename_i t e
    obtain rfl := snd_of_eq e
    simp only [resumeTruss_course, State.modSeq_course, State.modTruss_course, loadStanding_onward, State.modBoot_course, on, course_ite,
      snd_ite, onward_ite, ite_self]

theorem extendWatchdog_course {t : Truss} : (extendWatchdog t s).course = s.course := by
  simp only [extendWatchdog, State.modBoot_course, course_ite, ite_self]

theorem restoreField_onward {t : Truss} {k : Nat} (on : κ.Onward s.course) : κ.Onward (restoreField t k s).course := by
  unfold restoreField
  dsimp only
  split
  · exact on
  · simp only [State.writeCells_onward, State.modField_course, State.pend_course, on, course_ite, onward_ite, ite_self]

theorem restoreFields_onward {t : Truss} (on : κ.Onward s.course) : κ.Onward (restoreFields t s).course := by
  simp only [restoreFields, restoreField_onward, on, foldl_onward, Course.Onward.refl, implies_true]

theorem armTruss_onward {i : StartIn} {k : Nat} (on : κ.Onward s.course) : κ.Onward (armTruss i k s).course := by
  unfold armTruss
  dsimp only
  refine foldl_onward (fun s x => ?_) ?_
  · simp only [startHead_course, Course.Onward.refl]
  · refine foldl_onward (fun s x => ?_) ?_
    · split <;> simp only [joinHead_course, Course.Onward.refl]
    · split <;> simp only [restoreFields_onward, extendWatchdog_course, State.elapse_onward, State.modBoot_course, takeSwitch_course, on]

theorem startWithout_onward {i : StartIn} (on : κ.Onward s.course) : κ.Onward (startWithout i s).course := by
  simp only [startWithout, State.fault_course, showSafeField_course, State.elapse_onward, State.sendBlank_course,
    State.modBootMram_course, State.modBoot_course, on, foldl_course, implies_true]

theorem startFirmware_onward {i : StartIn} {k : Nat} (on : κ.Onward s.course) : κ.Onward (startFirmware i k s).course := by
  unfold startFirmware
  extract_lets cxl clock r up
  have onCxl : κ.Onward cxl.course := startCxl_onward (.of_eq (sensePerst_onward (.of_eq on measure_course)) startPace_course)
  have onClock : κ.Onward clock.course := .ite onCxl (.of_eq onCxl selectClock_course)
  have chosen : κ.Onward r.2.course := chooseTruss_onward onClock
  have onUp : κ.Onward up.course := by
    unfold up
    split
    · exact armTruss_onward chosen
    · exact startWithout_onward chosen
  exact .ite (emergAssert_onward onUp) onUp

theorem romSteps_onward {i : StartIn} (on : κ.Onward s.course) : κ.Onward (romSteps i s).course := by
  unfold romSteps
  split
  · simp only [State.modBoot_course, on]
  · dsimp only
    split <;> simp only [State.modHost_course, chooseImage_course, verifyImages_course, selfTests_course, calibrate_course,
      enterRecovery_onward, on, enterLimp_onward, startFirmware_onward]

theorem runStart_onward {i : StartIn} (on : κ.Onward s.course) : κ.Onward (runStart i s).course := by
  simp only [runStart, romSteps_onward, romVolts_course, on]

theorem warmStart_onward {cause : Nat} {i : StartIn} (on : κ.Onward s.course) : κ.Onward (warmStart cause i s).course := by
  simp only [warmStart, beginStart_course, runStart_onward, sampleStraps_course, on, course_ite, ite_self]

theorem discardRecord_course {r : MramRecord} : (discardRecord r s).course = s.course := by
  unfold discardRecord
  split <;> simp only [State.modBootMram_course, course_mk, course_eta, State.modFltMram_course, State.modSvcMram_course,
    State.modSecMram_course]

theorem coldStart_onward {since : Nat} {i : StartIn} (on : κ.Onward s.course) : κ.Onward (coldStart since i s).course := by
  simp only [coldStart, runStart_onward, sampleStraps_course, beginStart_course, discardRecord_course, on, foldl_course, implies_true]

theorem execPowerOnReset_leadsOn {i : StartIn} : LeadsOn s.course (execPowerOnReset i s) := by
  unfold execPowerOnReset
  dsimp only
  split
  · simp only [State.elapse_onward, coldStart_onward, State.modBoot_course, leadsOn_done, leadsOn_ite, ite_self, Course.Onward.refl]
  · split
    · refine leadsOn_done.mpr ?_
      refine coldStart_onward ?_
      simp only [enterReset_onward, State.elapse_onward, Course.Onward.refl]
    · simp only [enterReset_onward, State.elapse_onward, State.modBoot_course, leadsOn_done, Course.Onward.refl]

theorem execRefclkWaitRetry_leadsOn {i : StartIn} : LeadsOn s.course (execRefclkWaitRetry i s) := by
  simp only [execRefclkWaitRetry, romSteps_onward, State.elapse_onward, leadsOn_done, leadsOn_ite, ite_self, Course.Onward.refl]

theorem execBrownOut_leadsOn {rail : Rail} {mv ns : Nat} : LeadsOn s.course (execBrownOut rail mv ns s) := by
  unfold execBrownOut
  split <;> simp only [leadsOn_done, Course.Onward.refl, enterReset_onward, leadsOn_ite, ite_self]

theorem execResetNAssert_leadsOn {lowNs : Nat} : LeadsOn s.course (execResetNAssert lowNs s) := by
  simp only [execResetNAssert, State.modPins_course, State.faultOpen_course, State.modBoot_course, enterReset_onward, course_ite,
    leadsOn_done, leadsOn_ite, ite_self, Course.Onward.refl, State.draw_course]

theorem execResetNRelease_leadsOn {i : StartIn} : LeadsOn s.course (execResetNRelease i s) := by
  simp only [execResetNRelease, State.modPins_course, coldStart_onward, State.modBoot_course, warmStart_onward, leadsOn_done, leadsOn_ite,
    ite_self, Course.Onward.refl]

theorem execKcpResetBegin_leadsOn {i : StartIn} : LeadsOn s.course (execKcpResetBegin i s) := by
  unfold execKcpResetBegin
  split
  · simp only [leadsOn_done, Course.Onward.refl]
  · refine leadsOn_done.mpr ?_
    refine warmStart_onward ?_
    simp only [enterReset_onward, State.untilAon_onward, Course.Onward.refl]

theorem execBootWatchdogExpiry_leadsOn {i : StartIn} : LeadsOn s.course (execBootWatchdogExpiry i s) := by
  unfold execBootWatchdogExpiry
  split
  · simp only [leadsOn_done, Course.Onward.refl]
  · refine leadsOn_done.mpr ?_
    refine warmStart_onward ?_
    simp only [enterReset_onward, State.untilAon_onward, Course.Onward.refl]

theorem execMemInitDone_leadsOn : LeadsOn s.course (execMemInitDone s) := by
  simp only [execMemInitDone, State.bgAdvance_course, State.modPort_course, State.countInit_course, State.modBoot_course, course_ite,
    leadsOn_done, leadsOn_ite, ite_self, foldl_course, Course.Onward.refl, implies_true]

/-! ### REFCLK, loss of lock and relock -/

theorem losePll_course {k : Nat} : (losePll k s).course = s.course := by
  simp only [losePll, closeGate_course, State.modPll_course]

theorem dropLinks_onward (on : κ.Onward s.course) : κ.Onward (dropLinks s).course := by
  simp only [dropLinks, State.modPins_course, loseCxl_onward, dropEth_course, on, course_ite, ite_self, foldl_course, foldl_onward,
    Course.Onward.refl, implies_true]

theorem execRefclkLoss_leadsOn : LeadsOn s.course (execRefclkLoss s) := by
  unfold execRefclkLoss
  split
  · simp only [leadsOn_done, Course.Onward.refl]
  · dsimp only
    refine leadsOn_done.mpr ?_
    split
    · refine dropLinks_onward ?_
      refine foldl_onward (fun s x => ?_) ?_
      · simp only [State.pend_course, Course.Onward.refl]
      · rw [State.faults_course]
        refine foldl_snd_onward (fun s x => ?_) ?_ <;> simp only [Course.Onward.refl, State.draw_course, State.modPll_course,
          losePll_course, foldl_course, modClk_course, implies_true]
    · refine foldl_onward (fun s x => ?_) ?_
      · simp only [State.pend_course, Course.Onward.refl]
      · rw [State.faults_course]
        refine foldl_snd_onward (fun s x => ?_) ?_ <;> simp only [Course.Onward.refl, State.draw_course, State.modPll_course,
          losePll_course, foldl_course, modClk_course, implies_true]

theorem execRefclkReturn_leadsOn : LeadsOn s.course (execRefclkReturn s) := by
  simp only [execRefclkReturn, acquirePll_course, course_ite, leadsOn_done, leadsOn_ite, ite_self, foldl_course, Course.Onward.refl,
    modClk_course, implies_true]

theorem execPllLossOfLock_leadsOn {k : Fin 10} : LeadsOn s.course (execPllLossOfLock k s) := by
  simp only [execPllLossOfLock, State.pend_course, State.faultOpen_course, acquirePll_course, losePll_course, dropLinks_onward,
    course_ite, onward_ite, leadsOn_done, leadsOn_ite, ite_self, Course.Onward.refl]

theorem execPllLock_leadsOn {k : Fin 10} : LeadsOn s.course (execPllLock k s) := by
  simp only [execPllLock, State.modPll_course, leadsOn_done, leadsOn_ite, ite_self, Course.Onward.refl]

theorem execPllSettleDone_leadsOn {k : Fin 10} : LeadsOn s.course (execPllSettleDone k s) := by
  simp only [execPllSettleDone, State.modPll_course, State.untilAon_onward, leadsOn_done, leadsOn_ite, ite_self, Course.Onward.refl]

theorem resumeGroups_course : (resumeGroups s).course = s.course := by
  simp only [resumeGroups, regrid_course, State.modGroup_course, State.modSeq_course, course_ite, ite_self, foldl_course, implies_true]

theorem execPllGateOpen_leadsOn {k : Fin 10} : LeadsOn s.course (execPllGateOpen k s) := by
  simp only [execPllGateOpen, State.untilPlan_onward, State.modPll_course, pmuStart_course, endRelock_course, resumeGroups_course,
    startTraining_course, State.modPins_course, course_ite, onward_ite, leadsOn_done, leadsOn_ite, ite_self, foldl_course,
    Course.Onward.refl, implies_true]

theorem execPllRelockTimeout_leadsOn {k : Fin 10} : LeadsOn s.course (execPllRelockTimeout k s) := by
  simp only [execPllRelockTimeout, State.untilAon_onward, State.pend_course, State.modPll_course, leadsOn_done, leadsOn_ite, ite_self,
    Course.Onward.refl]

/-! ### Disagreements between the hardware view and the firmware view of a unit or a peer -/

theorem modDisagree_course {kind index : Nat} {f : Disagree → Disagree} : (modDisagree kind index f s).course = s.course := (rfl)

theorem disagreeEvent_course {code : Nat} {d : Disagree} : (disagreeEvent code d s).course = s.course := by
  simp only [disagreeEvent, State.serviceEvent_course]

theorem execDisagreeOpen_leadsOn {kind : Fin 10} {index : Half} : LeadsOn s.course (execDisagreeOpen kind index s) := by
  simp only [execDisagreeOpen, State.count_course, State.modFlt_course, leadsOn_done, leadsOn_ite, ite_self, Course.Onward.refl]

theorem execDisagree1ms_leadsOn {kind : Fin 10} {index : Half} : LeadsOn s.course (execDisagree1ms kind index s) := by
  unfold execDisagree1ms
  split
  · exact leadsOn_done.mpr (.refl _)
  · simp only [leadsOn_ite, leadsOn_done, State.pend_course, disagreeEvent_course, modDisagree_course, State.modFlt_course,
      State.untilAon_onward,
      Course.Onward.refl, ite_self]

theorem execDisagreeWindowEnd_leadsOn {kind : Fin 10} {index : Half} : LeadsOn s.course (execDisagreeWindowEnd kind index s) := by
  unfold execDisagreeWindowEnd
  split
  · simp only [leadsOn_done, Course.Onward.refl]
  · split
    · simp only [leadsOn_done, Course.Onward.refl]
    · split <;> simp only [leadsOn_done, Course.Onward.refl, modDisagree_course, State.untilPlan_onward, State.fault_course]

theorem execDisagreeClose_leadsOn {kind : Fin 10} {index : Half} : LeadsOn s.course (execDisagreeClose kind index s) := by
  unfold execDisagreeClose
  split <;> simp only [leadsOn_done, Course.Onward.refl, State.modFlt_course, State.peerState_course, resetHeld_course,
    disagreeEvent_course, course_ite, ite_self]

/-! ### Camera ingest -/

theorem State.modFrame_course {i frame : Nat} {g : IngFrame → IngFrame} : (s.modFrame i frame g).course = s.course := (rfl)

theorem abandonFrame_course {i frame : Nat} : (abandonFrame i frame s).course = s.course := by
  simp only [abandonFrame, State.pend_course, State.count_course, State.modIng_course]

theorem beginFrame_course {i frame : Nat} {b : TBinding} : (beginFrame i frame b s).course = s.course := by
  unfold beginFrame
  dsimp only
  split
  · simp only [State.modIng_course]
  · split <;> simp only [State.modIng_course, State.pend_course, State.count_course]

theorem ingPut_onward {acc : Bool × State} {a : Nat} {bs : List Byte} (on : κ.Onward acc.2.course) :
    κ.Onward (ingPut acc a bs).2.course := by
  simp only [ingPut, State.countUnits_course, State.memWrite_onward, on]

theorem writeSlice_onward {b : TBinding} {base index : Nat} {st : Strip} (on : κ.Onward s.course) :
    κ.Onward (writeSlice b base index st s).2.course := by
  simp only [writeSlice, ingPut_onward, on, course_ite, snd_ite, onward_ite, ite_self, foldl_snd_onward, Course.Onward.refl, implies_true]

theorem takeSlice_onward {i : Nat} {b : TBinding} {f : IngFrame} {index digest : Nat} {payload : List Byte} (on : κ.Onward s.course) :
    κ.Onward (takeSlice i b f index digest payload s).course := by
  unfold takeSlice
  dsimp only
  split
  · simp only [State.modFrame_course, State.count_course, on]
  · split
    · simp only [State.modFrame_course, on]
    · split <;> simp only [State.modFrame_course, State.count_course, abandonFrame_course, on, State.countUnits_course, writeSlice_onward,
        course_ite, ite_self]

theorem takeFragment_onward {i : Nat} {b : TBinding} {f : IngFrame} {index frag count digest : Nat}
    {payload : List Byte} (on : κ.Onward s.course) :
    κ.Onward (takeFragment i b f index frag count digest payload s).course := by
  simp only [takeFragment, State.modFrame_course, takeSlice_onward, State.count_course, on, course_ite, onward_ite, ite_self]

theorem execSourceSliceRx_leadsOn {d : AdtDgram} {frame : Word} {index : Half} {frag fragCount : Byte} {digest : Long} {offset : Word}
    {payload : List Byte} :
    LeadsOn s.course (execSourceSliceRx d frame index frag fragCount digest offset payload s) := by
  unfold execSourceSliceRx
  split
  · rename_i t e
    obtain rfl := snd_of_eq e
    simp only [adtTake_course, leadsOn_done, Course.Onward.refl]
  · rename_i t e
    obtain rfl := snd_of_eq e
    dsimp only
    split
    · simp only [adtTake_course, leadsOn_done, Course.Onward.refl]
    · split
      · simp only [adtTake_course, State.count_course, leadsOn_done, Course.Onward.refl]
      · split
        · simp only [adtTake_course, leadsOn_done, Course.Onward.refl]
        · split <;> simp only [adtTake_course, State.count_course, beginFrame_course, course_ite, leadsOn_done, ite_self,
            Course.Onward.refl, takeFragment_onward]

theorem repairSource_course {k : Nat} {b : TBinding} {f : IngFrame} : (repairSource k b f s).course = s.course := by
  simp only [repairSource, State.adtSend_course]

theorem execFrameDoneRx_leadsOn {d : AdtDgram} {frame : Word} {capture : Long} {slices : Half} {digest : Long} :
    LeadsOn s.course (execFrameDoneRx d frame capture slices digest s) := by
  unfold execFrameDoneRx
  split
  · rename_i t e
    obtain rfl := snd_of_eq e
    simp only [adtTake_course, leadsOn_done, Course.Onward.refl]
  · rename_i t e
    obtain rfl := snd_of_eq e
    dsimp only
    split <;> simp only [adtTake_course, abandonFrame_course, State.modFrame_course, repairSource_course, leadsOn_done, leadsOn_ite,
      ite_self, Course.Onward.refl]

theorem execIngestFrameComplete_leadsOn {source : Byte} : LeadsOn s.course (execIngestFrameComplete source s) := by
  unfold execIngestFrameComplete
  dsimp only
  split
  · simp only [leadsOn_done, Course.Onward.refl]
  · split <;> simp only [leadsOn_done, Course.Onward.refl, abandonFrame_course, State.modIng_course, State.count_course, postFrame_onward,
      State.assertLine_course, State.modPeer_course, State.liveAgain_course, course_ite, leadsOn_ite, ite_self, foldl_course, implies_true]

theorem execIngestFrameTimeout_leadsOn {source : Byte} : LeadsOn s.course (execIngestFrameTimeout source s) := by
  unfold execIngestFrameTimeout
  dsimp only
  split <;> simp only [abandonFrame_course, State.untilAon_onward, leadsOn_done, Course.Onward.refl]

theorem execIngCfg_leadsOn {c : KcpCtx} {source depth queue : Byte} : LeadsOn s.course (execIngCfg c source depth queue s) := by
  simp only [execIngCfg, State.modIng_course, course_ite, st_ite, ite_self, Course.Onward.refl, implies_true, replyOk_st, badParam_st,
    kcp_leadsOn]

theorem execIngQuery_leadsOn {c : KcpCtx} {source : Byte} : LeadsOn s.course (execIngQuery c source s) := by
  unfold execIngQuery
  refine kcp_leadsOn fun f => ?_
  simp only [Course.Onward.refl, replyOk_st]

/-! ### What the unit that reports a fault does besides its report, and the occurrences as they reach the collector -/

theorem State.drawBelow_course {n : Nat} : (s.drawBelow n).2.course = s.course := (rfl)

theorem State.drawFrom_course {l : List α} : (s.drawFrom l).2.course = s.course := (rfl)

theorem copyError_course : (copyError s).course = s.course := by
  unfold copyError
  dsimp only
  split
  · simp only [State.drawFrom_course, State.dropArm_course]
  · rfl

theorem sequencerEffect_course {x : Nat} : (sequencerEffect x s).course = s.course := by
  unfold sequencerEffect
  split
  · simp only [copyError_course]
  · split
    · dsimp only
      split
      · simp only [State.drawFrom_course, State.modGroup_course]
      · rfl
    · dsimp only
      split
      · simp only [State.drawFrom_course, regridFar_course]
      · rfl

theorem laneEffect_course {d : Nat} : (laneEffect d s).course = s.course := by
  simp only [laneEffect, State.count_course, State.drawBelow_course, refreshBypass_course, State.modSeq_course, copyError_course,
    course_ite, ite_self]

theorem openStrip_course {bits : Nat} {x : Strip} : (openStrip bits x s).2.course = s.course := by
  simp only [openStrip, State.draw_course]

theorem patchRun_course {k : Nat} : (patchRun k s).course = s.course := by
  unfold patchRun
  split
  · rfl
  · simp only [State.drawBelow_course, State.countN_course, State.modSlot_course, State.modGroup_course, openStrip_course,
      State.modLane_course, State.draw_course]

theorem scalerEffect_course {k d : Nat} : (scalerEffect k d s).course = s.course := by
  simp only [scalerEffect, State.count_course, patchRun_course, State.modSeq_course, course_ite, ite_self]

theorem loseRead_course {hit : FRead → Bool} : (loseRead hit s).course = s.course := by
  unfold loseRead
  dsimp only
  split
  · rfl
  · simp only [State.drawBelow_course, State.modSeq_course]

theorem dropSlices_course {e : Nat} {all : Bool} : (dropSlices e all s).course = s.course := by
  simp only [dropSlices, State.drawBelow_course, State.modAdt_course, markDirty_course, course_ite, ite_self, foldl_course, implies_true]

theorem spoilFrames_course {d : Nat} {all : Bool} : (spoilFrames d all s).course = s.course := by
  unfold spoilFrames
  dsimp only
  split
  · simp only [abandonFrame_course, foldl_course, implies_true]
  · split
    · simp only [abandonFrame_course, State.drawBelow_course]
    · rfl

theorem dscEffect_course {k d : Nat} : (dscEffect k d s).course = s.course := by
  simp only [dscEffect, State.count_course, dropSlices_course, spoilFrames_course, course_ite, ite_self]

theorem ethEffect_course {p d : Nat} : (ethEffect p d s).course = s.course := by
  simp only [ethEffect, State.drawBelow_course, State.modEth_course, course_ite, ite_self]

theorem dmaEffect_onward {c d : Nat} (on : κ.Onward s.course) : κ.Onward (dmaEffect c d s).course := by
  simp only [dmaEffect, dmaEnd_onward, State.pend_course, State.modCh_course, on, course_ite, onward_ite, ite_self]

theorem ingestEffect_course {k d : Nat} : (ingestEffect k d s).course = s.course := by
  unfold ingestEffect
  dsimp only
  split
  · simp only [State.modDma_course]
  · split
    · split
      · simp only [State.drawBelow_course, abandonFrame_course]
      · rfl
    · rfl

theorem intcEffect_course : (intcEffect s).course = s.course := by
  simp only [intcEffect, State.drawBelow_course, State.modIntSrc_course, foldl_course, implies_true]

theorem tornRecord_course : (tornRecord s).course = s.course := by
  unfold tornRecord
  dsimp only
  split <;> simp only [State.drawBelow_course, discardRecord_course]

theorem noDirectory_course : (noDirectory s).course = s.course := by
  simp only [noDirectory, putImage_course, foldl_course, implies_true]

theorem storeEffect_course {x : Nat} : (storeEffect x s).course = s.course := by
  simp only [storeEffect, State.count_course, State.pend_course, State.modSec_course, tornRecord_course, noDirectory_course, course_ite,
    ite_self]

theorem occurrenceEffect_onward {x d : Nat} (on : κ.Onward s.course) : κ.Onward (occurrenceEffect x d s).course := by
  simp only [occurrenceEffect, laneEffect_course, scalerEffect_course, dscEffect_course, ethEffect_course, dmaEffect_onward,
    wbMissing_course, ingestEffect_course, sequencerEffect_course, loseRead_course, storeEffect_course, intcEffect_course, on, course_ite,
    onward_ite, ite_self]

theorem execFaultCollectorCycle_leadsOn {occs : List FltIn} {pinHigh : Bool} :
    LeadsOn s.course (execFaultCollectorCycle occs pinHigh s) := by
  simp only [execFaultCollectorCycle, fltSamplePin_course, State.elapse_onward, occurrenceEffect_onward, State.faults_course,
    leadsOn_done, foldl_onward, Course.Onward.refl, implies_true]

theorem execFaultOccurrence_leadsOn {source : Fin 192} {detail : Word} : LeadsOn s.course (execFaultOccurrence source detail s) := by
  simp only [execFaultOccurrence, State.fault_course, occurrenceEffect_onward, course_ite, onward_ite, leadsOn_done, ite_self,
    Course.Onward.refl]

/-! ### The interrupt controller's rounds, accesses and commands -/

theorem execIntcRound_leadsOn : LeadsOn s.course (execIntcRound s) := by
  simp only [execIntcRound, intRound_course, leadsOn_done, Course.Onward.refl]

theorem execIntcClaim_leadsOn {core : Fin 4} : LeadsOn s.course (execIntcClaim core s) := by
  simp only [execIntcClaim, intRound_course, State.intQueue_course, leadsOn_done, Course.Onward.refl]

theorem execIntcComplete_leadsOn {core : Fin 4} {source : BitVec 10} : LeadsOn s.course (execIntcComplete core source s) := by
  simp only [execIntcComplete, intRound_course, State.intQueue_course, leadsOn_done, Course.Onward.refl]

theorem execIntcCoreCtrlWrite_leadsOn {core : Fin 4} {enable : Bool} {settings : List IntSetting} :
    LeadsOn s.course (execIntcCoreCtrlWrite core enable settings s) := by
  simp only [execIntcCoreCtrlWrite, State.intQueue_course, intRound_course, course_ite, leadsOn_done, ite_self, foldl_course,
    Course.Onward.refl, implies_true]

theorem execIntcHostEoi_leadsOn {fn : Fin 16} {value : Word} : LeadsOn s.course (execIntcHostEoi fn value s) := by
  simp only [execIntcHostEoi, State.bar0_course, intRound_course, State.intQueue_course, leadsOn_done, leadsOn_ite, ite_self,
    Course.Onward.refl]

theorem execIntcHostSwset_leadsOn {fn : Fin 16} {value : Word} : LeadsOn s.course (execIntcHostSwset fn value s) := by
  simp only [execIntcHostSwset, State.bar0_course, intRound_course, State.intQueue_course, State.denied_course, leadsOn_done, leadsOn_ite,
    ite_self, Course.Onward.refl]

theorem execIntcHostMaskWrite_leadsOn {fn : Fin 16} {k : Fin 20} {value : Word} :
    LeadsOn s.course (execIntcHostMaskWrite fn k value s) := by
  simp only [execIntcHostMaskWrite, State.bar0_course, intRound_course, State.intQueue_course, leadsOn_done, leadsOn_ite, ite_self,
    Course.Onward.refl]

theorem intSetSource_course {first count : Nat} {items sensing prio enable : Byte} {targets : Half} {f : Nat} :
    (intSetSource first count items sensing prio enable targets f s).st.course = s.course := by
  simp only [intSetSource, intRound_course, State.intQueue_course, course_ite, st_ite, ite_self, foldl_course, implies_true, refuse_st,
    replyOk_st, badParam_st]

theorem execIntcSetSource_leadsOn {c : KcpCtx} {first count : Half} {items sensing prio enable : Byte} {targets : Half} :
    LeadsOn s.course (execIntcSetSource c first count items sensing prio enable targets s) := by
  simp only [execIntcSetSource, intSetSource_course, Course.Onward.refl, implies_true, kcp_leadsOn]

theorem execIntcQuerySource_leadsOn {c : KcpCtx} {source : Half} : LeadsOn s.course (execIntcQuerySource c source s) := by
  simp only [execIntcQuerySource, st_ite, ite_self, Course.Onward.refl, implies_true, refuse_st, replyOk_st, badParam_st, kcp_leadsOn]

theorem execIntcQueryTarget_leadsOn {c : KcpCtx} {target : Byte} : LeadsOn s.course (execIntcQueryTarget c target s) := by
  simp only [execIntcQueryTarget, st_ite, ite_self, Course.Onward.refl, implies_true, replyOk_st, badParam_st, kcp_leadsOn]

/-! ### The service commands, and the events of the standing services -/

theorem execSvcFieldDefine_leadsOn {c : KcpCtx} {field slot col row cols rows : Half} {just flags map fg bg : Byte} :
    LeadsOn s.course (execSvcFieldDefine c field slot col row cols rows just flags map fg bg s) := by
  simp only [execSvcFieldDefine, State.modSvc_course, State.modSvcMram_course, course_ite, st_ite, ite_self, Course.Onward.refl,
    implies_true, replyOk_st, badParam_st, kcp_leadsOn]

theorem execSvcFieldSet_leadsOn {c : KcpCtx} {field : Half} {op flags fg bg length : Byte} {text : List Byte} :
    LeadsOn s.course (execSvcFieldSet c field op flags fg bg length text s) := by
  unfold execSvcFieldSet
  refine kcpRun_leadsOn fun f => ?_
  dsimp only
  refine onward_reply (.refl _) (onward_reply (.refl _) (onward_reply (.refl _) (onward_reply (.refl _) (onward_reply (.refl _)
    (onward_reply (.refl _) ?_)))))
  split
  · exact .refl _
  refine onward_reply ?_ (onward_reply (.refl _) ?_)
  · rw [replyOk_st, State.modField_course]
    exact .refl _
  split
  · exact .refl _
  · refine commitField_onward ?_
    rw [State.modField_course]
    exact .refl _

theorem execSvcFieldQuery_leadsOn {c : KcpCtx} {field : Half} : LeadsOn s.course (execSvcFieldQuery c field s) := by
  simp only [execSvcFieldQuery, st_ite, ite_self, Course.Onward.refl, implies_true, replyOk_st, badParam_st, kcp_leadsOn]

theorem execFieldPersistWrite_leadsOn {field : BitVec 11} : LeadsOn s.course (execFieldPersistWrite field s) := by
  unfold execFieldPersistWrite
  dsimp only
  split <;> simp only [leadsOn_done, Course.Onward.refl, persistText_course, State.untilAon_onward]

theorem execSvcCharmapLoad_leadsOn {c : KcpCtx} {map : Byte} {address : Long} : LeadsOn s.course (execSvcCharmapLoad c map address s) := by
  unfold execSvcCharmapLoad
  refine kcp_leadsOn fun f => ?_
  dsimp only
  split
  · simp only [Course.Onward.refl, badParam_st]
  · split
    · simp only [Course.Onward.refl, badParam_st]
    · split
      · rename_i t e
        obtain rfl := snd_of_eq e
        simp only [State.memLoad_course, Course.Onward.refl, refuse_st]
      · rename_i t e
        obtain rfl := snd_of_eq e
        split
        · simp only [State.memLoad_course, Course.Onward.refl, badParam_st]
        · split
          · simp only [State.memLoad_course, Course.Onward.refl, badParam_st]
          · split
            · rename_i t e
              obtain rfl := snd_of_eq e
              simp only [State.memLoad_course, Course.Onward.refl, refuse_st]
            · rename_i t e
              obtain rfl := snd_of_eq e
              split <;> simp only [State.memLoad_course, Course.Onward.refl, badParam_st, State.modSvc_course, replyOk_st]

theorem execSvcMosaicSet_leadsOn {c : KcpCtx} {slot m : Half} {width : Byte} {colour : Word} {pattern0 pattern1 : Half} :
    LeadsOn s.course (execSvcMosaicSet c slot m width colour pattern0 pattern1 s) := by
  unfold execSvcMosaicSet
  refine kcp_leadsOn fun f => ?_
  simp only [withSlot_onward, State.defer_onward, course_ite, st_ite, onward_ite, ite_self, Course.Onward.refl, implies_true, refuse_st,
    replyOk_st, badParam_st]

theorem execSvcMosaicQuery_leadsOn {c : KcpCtx} {slot : Half} : LeadsOn s.course (execSvcMosaicQuery c slot s) := by
  simp only [execSvcMosaicQuery, withSlot_onward, st_ite, ite_self, Course.Onward.refl, implies_true, refuse_st, replyOk_st, kcp_leadsOn]

theorem putMessage_onward {k : Nat} {x : Message} (on : κ.Onward s.course) : κ.Onward (putMessage k x s).course := by
  simp only [putMessage, State.modSvcMram_course, State.modSvc_course, refreshBulletin_onward, on, course_ite, onward_ite, ite_self]

theorem execSvcMsgSet_leadsOn {c : KcpCtx} {message op map fg bg prio length : Byte} {text : List Byte} :
    LeadsOn s.course (execSvcMsgSet c message op map fg bg prio length text s) := by
  simp only [execSvcMsgSet, putMessage_onward, course_ite, st_ite, onward_ite, ite_self, Course.Onward.refl, implies_true, refuse_st,
    replyOk_st, badParam_st, kcpRun_leadsOn]

theorem bulletinReply_course {more : Byte → State → List Byte} : (bulletinReply s more).st.course = s.course := by
  unfold bulletinReply
  split <;> simp only [replyOk_st, State.draw_course]

theorem execSvcBulletin_leadsOn {c : KcpCtx} {op message : Byte} : LeadsOn s.course (execSvcBulletin c op message s) := by
  simp only [execSvcBulletin, bulletinReply_course, clearRaises_onward, raiseBulletin_onward, course_ite, st_ite, onward_ite, ite_self,
    Course.Onward.refl, implies_true, refuse_st, badParam_st, kcp_leadsOn]

theorem execSvcBulletinQuery_leadsOn {c : KcpCtx} : LeadsOn s.course (execSvcBulletinQuery c s) := by
  simp only [execSvcBulletinQuery, bulletinReply_course, Course.Onward.refl, implies_true, kcp_leadsOn]

theorem execSvcEmergCfg_leadsOn {c : KcpCtx} {message enable : Byte} : LeadsOn s.course (execSvcEmergCfg c message enable s) := by
  simp only [execSvcEmergCfg, State.modSvcMram_course, course_ite, st_ite, ite_self, Course.Onward.refl, implies_true, replyOk_st,
    badParam_st, kcp_leadsOn]

theorem execEmergNAssert_leadsOn : LeadsOn s.course (execEmergNAssert s) := by
  simp only [execEmergNAssert, State.modPins_course, emergAssert_onward, leadsOn_done, leadsOn_ite, ite_self, Course.Onward.refl]

theorem execEmergNRelease_leadsOn : LeadsOn s.course (execEmergNRelease s) := by
  simp only [execEmergNRelease, State.modPins_course, emergRelease_onward, leadsOn_done, leadsOn_ite, ite_self, Course.Onward.refl]

theorem execBulletinLaid_leadsOn {ns : Nat} : LeadsOn s.course (execBulletinLaid ns s) := by
  simp only [execBulletinLaid, State.untilPlan_onward, State.modSvc_course, stageBulletin_onward, leadsOn_done, leadsOn_ite, ite_self,
    foldl_onward, Course.Onward.refl, implies_true]

end

/-! ### Every command, and every step -/

/-- Every command leads on from the state it is carried out in. -/
theorem exec_leadsOn (i : Instr) (s : State) : LeadsOn s.course (exec i s) := by
  cases i with dsimp only [exec]
  | powerOnReset => exact execPowerOnReset_leadsOn
  | refclkWaitRetry => exact execRefclkWaitRetry_leadsOn
  | brownOut => exact execBrownOut_leadsOn
  | resetNAssert => exact execResetNAssert_leadsOn
  | resetNRelease => exact execResetNRelease_leadsOn
  | kcpResetBegin => exact execKcpResetBegin_leadsOn
  | bootWatchdogExpiry => exact execBootWatchdogExpiry_leadsOn
  | memInitDone => exact execMemInitDone_leadsOn
  | hostPortReset => exact execHostPortReset_leadsOn
  | hostLinkTrained => exact execHostLinkTrained_leadsOn
  | surpriseDown => exact execSurpriseDown_leadsOn
  | functionLevelReset => exact execFunctionLevelReset_leadsOn
  | busMasterDisable => exact execBusMasterDisable_leadsOn
  | refclkLoss => exact execRefclkLoss_leadsOn
  | refclkReturn => exact execRefclkReturn_leadsOn
  | pllLossOfLock => exact execPllLossOfLock_leadsOn
  | pllLock => exact execPllLock_leadsOn
  | pllSettleDone => exact execPllSettleDone_leadsOn
  | pllGateOpen => exact execPllGateOpen_leadsOn
  | pllRelockTimeout => exact execPllRelockTimeout_leadsOn
  | trackerNStep => exact execTrackerNStep_leadsOn
  | syncInEdge => exact execSyncInEdge_leadsOn
  | syncInMissing => exact execSyncInMissing_leadsOn
  | syncOutRise => exact execSyncOutRise_leadsOn
  | syncOutFall => exact execSyncOutFall_leadsOn
  | timeHoldover => exact execTimeHoldover_leadsOn
  | clkTimeLoRead => exact execClkTimeLoRead_leadsOn
  | clkNtOffsetLoRead => exact execClkNtOffsetLoRead_leadsOn
  | sillNextLoRead => exact execSillNextLoRead_leadsOn
  | clkQuery => exact execClkQuery_leadsOn
  | clkSetTrack => exact execClkSetTrack_leadsOn
  | clkSetSyncOut => exact execClkSetSyncOut_leadsOn
  | clkRelock => exact execClkRelock_leadsOn
  | clkSetSettle => exact execClkSetSettle_leadsOn
  | paceWindow => exact execPaceWindow_leadsOn
  | avsLoopPeriod => exact execAvsLoopPeriod_leadsOn
  | paceEscalate => exact execPaceEscalate_leadsOn
  | paceReducedFloorBreach => exact execPaceReducedFloorBreach_leadsOn
  | paceReturn => exact execPaceReturn_leadsOn
  | pmbusTransactionDone => exact execPmbusTransactionDone_leadsOn
  | readVoutPoll => exact execReadVoutPoll_leadsOn
  | regulatorSettleTimeout => exact execRegulatorSettleTimeout_leadsOn
  | readIoutPoll => exact execReadIoutPoll_leadsOn
  | openLoopRetry => exact execOpenLoopRetry_leadsOn
  | pmAlert => exact execPmAlert_leadsOn
  | paceQuery => exact execPaceQuery_leadsOn
  | paceSetBand => exact execPaceSetBand_leadsOn
  | paceSetLimits => exact execPaceSetLimits_leadsOn
  | paceClear => exact execPaceClear_leadsOn
  | paceForceReduced => exact execPaceForceReduced_leadsOn
  | cxlLinkTrained => exact execCxlLinkTrained_leadsOn
  | cxlLinkDown => exact execCxlLinkDown_leadsOn
  | cxlViral => exact execCxlViral_leadsOn
  | cxlRecoveryTimeout => exact execCxlRecoveryTimeout_leadsOn
  | cxlRecoveryDone => exact execCxlRecoveryDone_leadsOn
  | poisonResponse => exact execPoisonResponse_leadsOn
  | cxlOfflineComplete => exact execCxlOfflineComplete_leadsOn
  | memQuery => exact execMemQuery_leadsOn
  | memSetInterleave => exact execMemSetInterleave_leadsOn
  | memMapAperture => exact execMemMapAperture_leadsOn
  | memPortOffline => exact execMemPortOffline_leadsOn
  | memPortOnline => exact execMemPortOnline_leadsOn
  | memSetSnoop => exact execMemSetSnoop_leadsOn
  | bar4Write => exact execBar4Write_leadsOn
  | bar4Read => exact execBar4Read_leadsOn
  | armWritesLanded => exact execArmWritesLanded_leadsOn
  | registerWrite => exact execRegisterWrite_leadsOn
  | evtRingCfgWrite => exact execEvtRingCfgWrite_leadsOn
  | evtRingConsWrite => exact execEvtRingConsWrite_leadsOn
  | evtCoalTimeout => exact execEvtCoalTimeout_leadsOn
  | functionStale => exact execFunctionStale_leadsOn
  | mbxDoorbell => exact execMbxDoorbell_leadsOn
  | mbxCfgWrite => exact execMbxCfgWrite_leadsOn
  | mbxRspConsWrite => exact execMbxRspConsWrite_leadsOn
  | mbxTakeCommand => exact execMbxTakeCommand_leadsOn
  | sessOpen c lo hi client mask => exact execSessOpen_leadsOn (_client := client)
  | sessClose => exact execSessClose_leadsOn
  | sessInfo => exact execSessInfo_leadsOn
  | sessNop => exact execSessNop_leadsOn
  | sessStatus => exact execSessStatus_leadsOn
  | sessGrant => exact execSessGrant_leadsOn
  | sessGrantQuery => exact execSessGrantQuery_leadsOn
  | mntReset => exact execMntReset_leadsOn
  | mntInfo => exact execMntInfo_leadsOn
  | mntCfgGet => exact execMntCfgGet_leadsOn
  | mntCfgSet => exact execMntCfgSet_leadsOn
  | mntSetNetmgmt => exact execMntSetNetmgmt_leadsOn
  | mntNetkey => exact execMntNetkey_leadsOn
  | kcpUdpHello => exact execKcpUdpHello_leadsOn
  | kcpUdpCommand => exact execKcpUdpCommand_leadsOn
  | kcpUdpHandleLapse => exact execKcpUdpHandleLapse_leadsOn
  | kcpUdpSessionIdle => exact execKcpUdpSessionIdle_leadsOn
  | kcpUdpIgnoreEnd => exact execKcpUdpIgnoreEnd_leadsOn
  | trussLoad => exact execTrussLoad_leadsOn
  | trussLoadDone => exact execTrussLoadDone_leadsOn
  | trussCheck => exact execTrussCheck_leadsOn
  | trussCheckDone => exact execTrussCheckDone_leadsOn
  | trussQuery => exact execTrussQuery_leadsOn
  | trussUnload => exact execTrussUnload_leadsOn
  | planChange => exact execPlanChange_leadsOn
  | planCommit => exact execPlanCommit_leadsOn
  | planCommitDone => exact execPlanCommitDone_leadsOn
  | planDiscard => exact execPlanDiscard_leadsOn
  | standingQuery => exact execStandingQuery_leadsOn
  | standingWrite => exact execStandingWrite_leadsOn
  | standingWriteDone => exact execStandingWriteDone_leadsOn
  | standingSelect => exact execStandingSelect_leadsOn
  | itemIssue => exact execItemIssue_leadsOn
  | laneFreeStart => exact execLaneFreeStart_leadsOn
  | fetchIssue => exact execFetchIssue_leadsOn
  | readDataLand => exact execReadDataLand_leadsOn
  | itemComplete => exact execItemComplete_leadsOn
  | itemDeadline => exact execItemDeadline_leadsOn
  | publishCutoff => exact execPublishCutoff_leadsOn
  | sill => exact execSill_leadsOn
  | sillCopyDone => exact execSillCopyDone_leadsOn
  | sillArmArm => exact execSillArmArm_leadsOn
  | sillArmDisarm => exact execSillArmDisarm_leadsOn
  | llwWrite => exact execLlwWrite_leadsOn
  | seqSwitch => exact execSeqSwitch_leadsOn
  | seqArm => exact execSeqArm_leadsOn
  | seqDisarm => exact execSeqDisarm_leadsOn
  | seqQuery => exact execSeqQuery_leadsOn
  | seqSetCutoff => exact execSeqSetCutoff_leadsOn
  | seqForceVariant => exact execSeqForceVariant_leadsOn
  | surfAlloc => exact execSurfAlloc_leadsOn
  | surfFree => exact execSurfFree_leadsOn
  | surfQuery => exact execSurfQuery_leadsOn
  | surfShare => exact execSurfShare_leadsOn
  | layerSet => exact execLayerSet_leadsOn
  | layerSetType => exact execLayerSetType_leadsOn
  | layerQuery => exact execLayerQuery_leadsOn
  | cellWrite => exact execCellWrite_leadsOn
  | cellFill => exact execCellFill_leadsOn
  | sclBankLoad => exact execSclBankLoad_leadsOn
  | sclBankQuery => exact execSclBankQuery_leadsOn
  | sclSetSlot => exact execSclSetSlot_leadsOn
  | sclQuerySlot => exact execSclQuerySlot_leadsOn
  | colTableLoad => exact execColTableLoad_leadsOn
  | colTableQuery => exact execColTableQuery_leadsOn
  | colTableFree => exact execColTableFree_leadsOn
  | colSetOutput => exact execColSetOutput_leadsOn
  | colQueryOutput => exact execColQueryOutput_leadsOn
  | colSetSlot => exact execColSetSlot_leadsOn
  | headFrameStart => exact execHeadFrameStart_leadsOn
  | headLineStart => exact execHeadLineStart_leadsOn
  | hpdPlug => exact execHpdPlug_leadsOn
  | hpdUnplug => exact execHpdUnplug_leadsOn
  | irqHpd => exact execIrqHpd_leadsOn
  | hpdShortPulse => exact execHpdShortPulse_leadsOn
  | linkTrainingAttemptEnd => exact execLinkTrainingAttemptEnd_leadsOn
  | auxReply => exact execAuxReply_leadsOn
  | headWritebackFrameEnd => exact execHeadWritebackFrameEnd_leadsOn
  | headQuery => exact execHeadQuery_leadsOn
  | headSetTiming => exact execHeadSetTiming_leadsOn
  | headSetPower => exact execHeadSetPower_leadsOn
  | headRetrain => exact execHeadRetrain_leadsOn
  | headAux => exact execHeadAux_leadsOn
  | headSetBacklight => exact execHeadSetBacklight_leadsOn
  | beaconTimer => exact execBeaconTimer_leadsOn
  | adtHelloRx => exact execAdtHelloRx_leadsOn
  | adtHeartbeatRx => exact execAdtHeartbeatRx_leadsOn
  | adtLeaveRx => exact execAdtLeaveRx_leadsOn
  | adtRepairRx => exact execAdtRepairRx_leadsOn
  | sourceSliceRx => exact execSourceSliceRx_leadsOn
  | frameDoneRx => exact execFrameDoneRx_leadsOn
  | ingestFrameComplete => exact execIngestFrameComplete_leadsOn
  | ingestFrameTimeout => exact execIngestFrameTimeout_leadsOn
  | adtHeartbeatTx => exact execAdtHeartbeatTx_leadsOn
  | adtPeerNotLive => exact execAdtPeerNotLive_leadsOn
  | adtSessionTimeout => exact execAdtSessionTimeout_leadsOn
  | announceTime => exact execAnnounceTime_leadsOn
  | mortiseOpen => exact execMortiseOpen_leadsOn
  | adtBlankRepeat => exact execAdtBlankRepeat_leadsOn
  | adtHoldEnd => exact execAdtHoldEnd_leadsOn
  | adtConfig => exact execAdtConfig_leadsOn
  | adtQuery => exact execAdtQuery_leadsOn
  | adtBind => exact execAdtBind_leadsOn
  | adtDisconnect => exact execAdtDisconnect_leadsOn
  | adtRefresh => exact execAdtRefresh_leadsOn
  | adtBlank => exact execAdtBlank_leadsOn
  | adtSourceCtrl => exact execAdtSourceCtrl_leadsOn
  | adtStats => exact execAdtStats_leadsOn
  | ethLinkDown => exact execEthLinkDown_leadsOn
  | ethLinkUp => exact execEthLinkUp_leadsOn
  | ethLinkUpSettled => exact execEthLinkUpSettled_leadsOn
  | ethFrameDiscard => exact execEthFrameDiscard_leadsOn
  | arpNdRx => exact execArpNdRx_leadsOn
  | icmpEchoRx => exact execIcmpEchoRx_leadsOn
  | arpRetry => exact execArpRetry_leadsOn
  | arpGiveUp => exact execArpGiveUp_leadsOn
  | neighbourAgeOut => exact execNeighbourAgeOut_leadsOn
  | ptpSyncRx => exact execPtpSyncRx_leadsOn
  | ptpAnnounceRx => exact execPtpAnnounceRx_leadsOn
  | ptpSyncTx => exact execPtpSyncTx_leadsOn
  | ptpSyncTimeout => exact execPtpSyncTimeout_leadsOn
  | mkaRx => exact execMkaRx_leadsOn
  | mkaPeerTimeout => exact execMkaPeerTimeout_leadsOn
  | cbResetTimeout => exact execCbResetTimeout_leadsOn
  | cbFrameRx => exact execCbFrameRx_leadsOn
  | calendarBucketExpand => exact execCalendarBucketExpand_leadsOn
  | macSelectFrame => exact execMacSelectFrame_leadsOn
  | netPortQuery => exact execNetPortQuery_leadsOn
  | netPortCfg => exact execNetPortCfg_leadsOn
  | netPortEnable => exact execNetPortEnable_leadsOn
  | netSetAddr => exact execNetSetAddr_leadsOn
  | netTimeCfg => exact execNetTimeCfg_leadsOn
  | netTimeQuery => exact execNetTimeQuery_leadsOn
  | netMacsecCfg => exact execNetMacsecCfg_leadsOn
  | netMacsecKey => exact execNetMacsecKey_leadsOn
  | netCbCfg => exact execNetCbCfg_leadsOn
  | calQuery => exact execCalQuery_leadsOn
  | calSetRates => exact execCalSetRates_leadsOn
  | dmaDoorbell => exact execDmaDoorbell_leadsOn
  | dmaChCfgWrite => exact execDmaChCfgWrite_leadsOn
  | dmaChAbort => exact execDmaChAbort_leadsOn
  | dmaChResume => exact execDmaChResume_leadsOn
  | dmaSwreq => exact execDmaSwreq_leadsOn
  | dreqEdge => exact execDreqEdge_leadsOn
  | dmaRequest => exact execDmaRequest_leadsOn
  | dmaDescDone => exact execDmaDescDone_leadsOn
  | dmaCqConsWrite => exact execDmaCqConsWrite_leadsOn
  | dmaCqCfgWrite => exact execDmaCqCfgWrite_leadsOn
  | wbFrameDone => exact execWbFrameDone_leadsOn
  | ingCfg => exact execIngCfg_leadsOn
  | ingQuery => exact execIngQuery_leadsOn
  | wbSetTarget => exact execWbSetTarget_leadsOn
  | wbQuery => exact execWbQuery_leadsOn
  | dmaCqCfg => exact execDmaCqCfg_leadsOn
  | dmaReqMap => exact execDmaReqMap_leadsOn
  | dmaQuery => exact execDmaQuery_leadsOn
  | emergNAssert => exact execEmergNAssert_leadsOn
  | emergNRelease => exact execEmergNRelease_leadsOn
  | bulletinLaid => exact execBulletinLaid_leadsOn
  | fieldPersistWrite => exact execFieldPersistWrite_leadsOn
  | svcFieldDefine => exact execSvcFieldDefine_leadsOn
  | svcFieldSet => exact execSvcFieldSet_leadsOn
  | svcFieldQuery => exact execSvcFieldQuery_leadsOn
  | svcCharmapLoad => exact execSvcCharmapLoad_leadsOn
  | svcMosaicSet => exact execSvcMosaicSet_leadsOn
  | svcMosaicQuery => exact execSvcMosaicQuery_leadsOn
  | svcMsgSet => exact execSvcMsgSet_leadsOn
  | svcBulletin => exact execSvcBulletin_leadsOn
  | svcBulletinQuery => exact execSvcBulletinQuery_leadsOn
  | svcEmergCfg => exact execSvcEmergCfg_leadsOn
  | intcRound => exact execIntcRound_leadsOn
  | intcClaim => exact execIntcClaim_leadsOn
  | intcComplete => exact execIntcComplete_leadsOn
  | intcCoreCtrlWrite => exact execIntcCoreCtrlWrite_leadsOn
  | intcHostEoi => exact execIntcHostEoi_leadsOn
  | intcHostSwset => exact execIntcHostSwset_leadsOn
  | intcHostMaskWrite => exact execIntcHostMaskWrite_leadsOn
  | intcSetSource => exact execIntcSetSource_leadsOn
  | intcQuerySource => exact execIntcQuerySource_leadsOn
  | intcQueryTarget => exact execIntcQueryTarget_leadsOn
  | faultCollectorCycle => exact execFaultCollectorCycle_leadsOn
  | faultOccurrence => exact execFaultOccurrence_leadsOn
  | brokenWire => exact execBrokenWire_leadsOn
  | faultLiveFall => exact execFaultLiveFall_leadsOn
  | quietPeriodEnd => exact execQuietPeriodEnd_leadsOn
  | faultRingMirror => exact execFaultRingMirror_leadsOn
  | errnPulseEnd => exact execErrnPulseEnd_leadsOn
  | disagreeOpen => exact execDisagreeOpen_leadsOn
  | disagree1ms => exact execDisagree1ms_leadsOn
  | disagreeWindowEnd => exact execDisagreeWindowEnd_leadsOn
  | disagreeClose => exact execDisagreeClose_leadsOn
  | coreWatchdogExpiry => exact execCoreWatchdogExpiry_leadsOn
  | fltForceAssert => exact execFltForceAssert_leadsOn
  | fltForceBroken => exact execFltForceBroken_leadsOn
  | fltForceRelease => exact execFltForceRelease_leadsOn
  | fltQuery => exact execFltQuery_leadsOn
  | fltLogRead => exact execFltLogRead_leadsOn
  | fltAck => exact execFltAck_leadsOn
  | fltSetSource => exact execFltSetSource_leadsOn
  | fltSetRecovery => exact execFltSetRecovery_leadsOn
  | fltUnfence => exact execFltUnfence_leadsOn
  | fltSetErrn => exact execFltSetErrn_leadsOn
  | fltSetSafeField => exact execFltSetSafeField_leadsOn
  | fltEnterSafe => exact execFltEnterSafe_leadsOn
  | fltEnterSafeDue => exact execFltEnterSafeDue_leadsOn
  | fltSrcQuery => exact execFltSrcQuery_leadsOn
  | pmuUpdate => exact execPmuUpdate_leadsOn
  | pmuCntLoRead => exact execPmuCntLoRead_leadsOn
  | pmuCntHiWrite => exact execPmuCntHiWrite_leadsOn
  | pmuCntLoWrite => exact execPmuCntLoWrite_leadsOn
  | pmuSnapTakeBit => exact execPmuSnapTakeBit_leadsOn
  | pmuSnapReleaseBit => exact execPmuSnapReleaseBit_leadsOn
  | snapshotDone => exact execSnapshotDone_leadsOn
  | bwWindowEnd => exact execBwWindowEnd_leadsOn
  | pmuFcSet => exact execPmuFcSet_leadsOn
  | pmuFcQuery => exact execPmuFcQuery_leadsOn
  | pmuSnapCfg => exact execPmuSnapCfg_leadsOn
  | pmuSnapTake => exact execPmuSnapTake_leadsOn
  | pmuSnapQuery => exact execPmuSnapQuery_leadsOn
  | pmuBwSet => exact execPmuBwSet_leadsOn
  | pmuBwQuery => exact execPmuBwQuery_leadsOn
  | pmuClear => exact execPmuClear_leadsOn
  | idRcvGo => exact execIdRcvGo_leadsOn
  | idRcvCfgReset => exact execIdRcvCfgReset_leadsOn
  | rcvInstallDone => exact execRcvInstallDone_leadsOn
  | imageWriteDone => exact execImageWriteDone_leadsOn
  | tamperAssert => exact execTamperAssert_leadsOn
  | tamperRelease => exact execTamperRelease_leadsOn
  | supplyGlitch => exact execSupplyGlitch_leadsOn
  | temperatureAlarm => exact execTemperatureAlarm_leadsOn
  | debugChallengeLapse => exact execDebugChallengeLapse_leadsOn
  | secAttest => exact execSecAttest_leadsOn
  | secIdentity => exact execSecIdentity_leadsOn
  | secKeyInstall => exact execSecKeyInstall_leadsOn
  | secKeyQuery => exact execSecKeyQuery_leadsOn
  | secImageWrite => exact execSecImageWrite_leadsOn
  | secImageQuery => exact execSecImageQuery_leadsOn
  | secRollbackCommit => exact execSecRollbackCommit_leadsOn
  | secDebugChallenge => exact execSecDebugChallenge_leadsOn
  | secDebugUnlock => exact execSecDebugUnlock_leadsOn
  | secTamperCfg => exact execSecTamperCfg_leadsOn
  | perstNDeassert => exact execPerstNDeassert_leadsOn
  | peRefclkLoss => exact execPeRefclkLoss_leadsOn
  | peRefclkReturn => exact execPeRefclkReturn_leadsOn
  | busMasterEnableSet => exact execBusMasterEnableSet_leadsOn
  | vfEnableWrite => exact execVfEnableWrite_leadsOn
  | cxlPortInitDone => exact execCxlPortInitDone_leadsOn
  | ptpPdelayTimer => exact execPtpPdelayTimer_leadsOn
  | ptpPdelayRx => exact execPtpPdelayRx_leadsOn
  | snapTimeLoRead => exact execSnapTimeLoRead_leadsOn

/-- An edge of the plan-time counter leads on. -/
theorem tick_onward (s : State) : s.course.Onward s.tick.course := by
  unfold State.tick
  split
  · exact ⟨rfl, id, Nat.le_add_right _ _⟩
  · exact State.elapse_onward (.refl _)

/-- A step leads on from the state with the queue's rest. -/
theorem step_leadsOn (s : State) : LeadsOn ({ s with pending := s.pending.tail } : State).course (step s) := by
  unfold step
  split
  next e =>
    rw [leadsOn_done, e]
    have on := tick_onward s
    exact ⟨on.queue.trans e, on.bytes, on.aon⟩
  next c rest e =>
    rw [e]
    exact exec_leadsOn c _

end Sys2Proof.Machine
end

section
/-! SUPPORT. One edge of the plan-time counter (R74, logs 1 and 2). -/

namespace Sys2Proof.Machine

/-- An edge with nothing waiting lets 2 ns pass and moves the clock block alone. -/
theorem State.tick_frame (s : State) :
    s.tick.clk.aon = s.clk.aon + 2 ∧ s.tick.mem = s.mem ∧ s.tick.truss = s.truss ∧ s.tick.seq = s.seq ∧ s.tick.host = s.host ∧
    s.tick.pending = s.pending := by
  unfold tick
  split
  · exact ⟨rfl, rfl, rfl, rfl, rfl, rfl⟩
  · exact ⟨rfl, rfl, rfl, rfl, rfl, rfl⟩

end Sys2Proof.Machine
end

section
/-! SUPPORT. A gate that opens on a head whose training cannot begin (R68, R306). -/

namespace Sys2Proof.Machine

/-- PLL9 waits to open its gate, and a plugged head has a timing that no link of its sink, which reports no lanes, can carry. -/
def lanelessSink : State :=
  { boot := { phase := .running }, clk := { plls := [(9, { gated := true, opening := true })] },
    heads := [(0, { state := .plugged, hpd := true, timing := some {} })] }

/-- R306: the head retrains as PLL9's gate opens, its training fails at once, and the failure is a fault. -/
theorem pllGateOpen_records_failed_training {t : State} (h : exec (.pllGateOpen 9) lanelessSink = .next t) :
    t.flt.first.isSome = true := by
  have run : (match exec (.pllGateOpen 9) lanelessSink with | .next t => t.flt.first.isSome | _ => false) = true := by decide +kernel
  simpa only [h] using run

end Sys2Proof.Machine
end

section
/-! SUPPORT. Reads of BAR0 at the low words of plan time and of the network offset (R79). -/

namespace Sys2Proof.Machine

/-- The high half of a 64-bit value needs no cut. -/
theorem halfOf_high {v : Nat} (h : v < 2 ^ 64) : halfOf true v = v / 2 ^ 32 :=
  Nat.mod_eq_of_lt (Nat.div_lt_of_lt_mul h)

theorem signedField_lt (w : Nat) (i : Int) : signedField w i < 2 ^ w := BitVec.isLt _

section
variable {s : State} {f : Nat}

/-- Where firmware runs, an offset of the clock block reads that block's word. -/
theorem State.regWord_clk (h : s.fwRuns = true) {off : Nat} (lo : 0x60000 ≤ off) (hi : off < 0x70000) :
    s.regWord f off = s.clkWord f (off - 0x60000) := by
  have below : ∀ n ≤ 0x60000, ¬ off < n := fun n hn => by omega
  simp [regWord, h, below, lo, hi]

theorem State.readWord_timeLo (h : s.fwRuns = true) :
    s.readWord f 0x60008 = (some (s.planTime.toNat % 2 ^ 32),
      s.modClk fun c => { c with timeHiLatch := tabSet c.timeHiLatch f (s.planTime.toNat / 2 ^ 32 + 1) }) := by
  rw [readWord, if_neg (by simp [h]), if_pos rfl, regWord_clk h (by decide) (by decide), halfOf_high (BitVec.isLt _)]
  rfl

theorem State.readWord_offsetLo (h : s.fwRuns = true) :
    s.readWord f 0x60010 = (some (signedField 64 s.clk.ntOffset % 2 ^ 32),
      s.modClk fun c => { c with offsetHiLatch := tabSet c.offsetHiLatch f (signedField 64 s.clk.ntOffset / 2 ^ 32 + 1) }) := by
  rw [readWord, if_neg (by simp [h]), if_neg (by decide), if_neg (by decide), if_pos rfl, regWord_clk h (by decide) (by decide),
    halfOf_high (signedField_lt ..)]
  rfl

/-- A 32-bit read of a word that answers counts one access and gives the word. -/
theorem State.bar0Read_word {off v : Nat} {t : State} (aligned : off % 4 = 0) (h : s.bar0.readWord f off = (some v, t)) :
    s.bar0Read f off 4 = (v, t) := by
  rw [bar0Read, if_neg (by simp [aligned]), if_pos rfl, h]

end

end Sys2Proof.Machine
end

section
/-! SUPPORT. The gates of the PLLs: what closes with one, what goes down with PLL9's, and what none of it moves (R65–R69). -/

namespace Sys2Proof.Machine

/-! ### What the counters, the heads and the links do when a gate closes -/

theorem updateCounter_lasting (c : Nat) (s : State) : (updateCounter c s).lasting = s.lasting :=
  State.lasting_then (State.lasting_then rfl (State.pend_lasting ..)) (State.pend_lasting ..)

theorem updateFiltered_lasting (below : Bool) (f : Nat) (s : State) : (updateFiltered below f s).2.lasting = s.lasting :=
  State.lasting_then (State.lasting_then rfl (State.pend_lasting ..)) (State.pend_lasting ..)

theorem dropTriggers_lasting (n : Nat) (s : State) : (dropTriggers n s).lasting = s.lasting := State.pend_lasting ..

theorem takeSnapshot_lasting (mask : Nat) (s : State) : (takeSnapshot mask s).lasting = s.lasting :=
  State.lasting_ite rfl (State.lasting_ite (dropTriggers_lasting ..) rfl)

theorem pmuUpdate_lasting (s : State) : (pmuUpdate s).lasting = s.lasting := by
  have drawn : s.draw.2.lasting = s.lasting := rfl
  have counters := fun l => foldl_lasting (f := fun s c => updateCounter c s) (fun s c => updateCounter_lasting c s) l
  have filtered := fun l =>
    foldl_keeps (fun acc : Bool × State => acc.2.lasting) (fun acc f => updateFiltered_lasting acc.1 f acc.2) l
  have cleared : ∀ (f : PmuSt → PmuSt) (t : State), (t.modPmu f).lasting = t.lasting := fun _ _ => rfl
  simp only [pmuUpdate, takeSnapshot_lasting, cleared, filtered, counters, State.countN_lasting, drawn]

theorem pmuStop_lasting (s : State) : (pmuStop s).lasting = s.lasting := pmuUpdate_lasting s

theorem wbMissing_lasting (e : Nat) (s : State) : (wbMissing e s).lasting = s.lasting := State.lasting_ite rfl rfl

theorem stopHead_lasting (h : Nat) (s : State) : (stopHead h s).lasting = s.lasting := by
  refine State.lasting_ite rfl ?_
  dsimp only
  split
  · exact State.lasting_ite rfl (wbMissing_lasting ..)
  · rfl

theorem headEvent_lasting (h : Nat) (s : State) : (headEvent h s).lasting = s.lasting :=
  (State.pend_lasting ..).trans (State.recordTo_lasting ..)

theorem dropLink_lasting (h : Nat) (s : State) : (dropLink h s).lasting = s.lasting :=
  State.lasting_ite (headEvent_lasting ..) rfl

theorem State.faults_lasting (l : List (Nat × Word × Bool)) (s : State) : (s.faults l).lasting = s.lasting := by
  refine (fltCycle_lasting ..).trans (foldl_keeps (fun acc : List Occ × State => acc.2.lasting) (fun acc i => ?_) ..)
  split
  · rfl
  · exact State.lasting_ite rfl rfl

/-- What keeps the lasting part keeps the clocks. -/
theorem State.clk_of_lasting {s t : State} (h : t.lasting = s.lasting) : t.clk = s.clk := (congrArg State.clk h :)

theorem losePort_lasting (p : Nat) (s : State) : (losePort p s).lasting = s.lasting :=
  State.lasting_ite rfl ((chooseVariants_lasting _).trans (State.fault_lasting ..))

theorem dropEth_lasting (p : Nat) (s : State) : (dropEth p s).lasting = s.lasting :=
  ((State.pend_lasting ..).trans (State.recordTo_lasting ..)).trans (losePort_lasting ..)

theorem stirAdmission_clk (s : State) : (stirAdmission s).clk = s.clk :=
  foldl_keeps State.clk (fun _ _ => by rfl) ..

theorem loseCxl_clk (m cause : Nat) (s : State) : (loseCxl m cause s).clk = s.clk := by
  unfold loseCxl
  extract_lets p detail lost unread
  split
  · rfl
  · calc
      _ = unread.clk := State.clk_of_lasting ((State.pend_lasting ..).trans (State.fault_lasting ..))
      _ = s.clk := stirAdmission_clk _

theorem dropLinks_clk (s : State) : (dropLinks s).clk = s.clk := by
  refine (foldl_keeps State.clk (fun _ _ => ?_) ..).trans (foldl_keeps State.clk (fun _ _ => loseCxl_clk ..) ..)
  split
  · exact State.clk_of_lasting (dropEth_lasting ..)
  · rfl

/-! ### One gate -/

/-- The clocks but for the PLLs. -/
def State.clkSansPlls (s : State) : ClkSt := { s.clk with plls := [] }

/-- The state but for the PLLs. -/
def State.sansPlls (s : State) : State := { s with clk := s.clkSansPlls }

/-- The gate of PLL `k` that is open closes in the clock block; the rest of it is outside that block. -/
theorem closeGate_clk {k : Nat} {s : State} (h : (s.pll k).gated = false) :
    (closeGate k s).clk = (s.modPll k fun p => { p with gated := true }).clk := by
  have stopped : (if k = 8 then pmuStop s else s).clk = s.clk := by
    split
    · exact State.clk_of_lasting (pmuStop_lasting s)
    · rfl
  have closed : ((if k = 8 then pmuStop s else s).modPll k fun p => { p with gated := true }).clk =
      (s.modPll k fun p => { p with gated := true }).clk := by
    simp only [State.modPll, State.modClk, stopped]
  rw [closeGate, if_neg (by simp [h])]
  refine Eq.trans ?_ closed
  have stop : ∀ (l : List Nat) (t : State), (l.foldl (fun (s : State) h => stopHead h s) t).clk = t.clk :=
    foldl_keeps State.clk fun _ _ => State.clk_of_lasting (stopHead_lasting ..)
  have drop : ∀ (l : List Nat) (t : State), (l.foldl (fun (s : State) h => dropLink h s) t).clk = t.clk :=
    foldl_keeps State.clk fun _ _ => State.clk_of_lasting (dropLink_lasting ..)
  dsimp only
  split
  · exact stop ..
  split
  · split
    · rfl
    · exact stop ..
  · exact drop ..

theorem closeGate_pll (k j : Nat) (s : State) :
    (closeGate k s).pll j = if j = k then { s.pll k with gated := true } else s.pll j := by
  cases h : (s.pll k).gated
  · rw [State.pll, closeGate_clk h]
    exact State.modPll_pll ..
  · rw [closeGate, if_pos h]
    split
    · next e => rw [e, ← h]
    · rfl

theorem closeGate_clkSansPlls (k : Nat) (s : State) : (closeGate k s).clkSansPlls = s.clkSansPlls := by
  cases h : (s.pll k).gated
  · rw [State.clkSansPlls, closeGate_clk h]
    rfl
  · rw [closeGate, if_pos h]

/-- R65, R66: a PLL out of lock or of reference is unlocked and gated, and its settle count does not run. -/
theorem losePll_pll_self (k : Nat) (s : State) :
    ((losePll k s).pll k).locked = false ∧ ((losePll k s).pll k).gated = true ∧ ((losePll k s).pll k).settling = false := by
  rw [losePll, closeGate_pll, if_pos rfl, State.modPll_pll, if_pos rfl]
  exact ⟨rfl, rfl, rfl⟩

theorem losePll_pll_other {k j : Nat} (h : j ≠ k) (s : State) : (losePll k s).pll j = s.pll j := by
  rw [losePll, closeGate_pll, if_neg h, State.modPll_pll, if_neg h]

theorem losePll_clkSansPlls (k : Nat) (s : State) : (losePll k s).clkSansPlls = s.clkSansPlls := closeGate_clkSansPlls k _

/-! ### Loss of REFCLK -/

/-- R60, R66: out of reference, and no attempt in progress. -/
def Pll.dark (p : Pll) : Prop := p.locked = false ∧ p.gated = true ∧ p.acquiring = false ∧ p.settling = false

/-- R60: what loss of REFCLK does to one PLL. -/
def darkenPll (s : State) (k : Nat) : State := (losePll k s).modPll k fun p => { p with acquiring := false }

theorem darkenPll_dark (s : State) (k : Nat) : ((darkenPll s k).pll k).dark := by
  obtain ⟨unlocked, gated, unsettled⟩ := losePll_pll_self k s
  rw [darkenPll, State.modPll_pll, if_pos rfl]
  exact ⟨unlocked, gated, rfl, unsettled⟩

theorem darkenPll_keeps_dark {k : Nat} (s : State) (j : Nat) (h : (s.pll k).dark) : ((darkenPll s j).pll k).dark := by
  by_cases hj : k = j
  · exact hj ▸ darkenPll_dark s k
  · rw [darkenPll, State.modPll_pll, if_neg hj, losePll_pll_other hj]
    exact h

theorem darkenPll_clkSansPlls (s : State) (k : Nat) : (darkenPll s k).clkSansPlls = s.clkSansPlls := losePll_clkSansPlls k s

/-- R60: the PLLs and the reference's own fields, once REFCLK is lost. -/
def refLost (s : State) : State :=
  (List.range 10).foldl darkenPll (s.modClk fun c => { c with refOk := false, lossCount := satInc c.lossCount, valid := false })

theorem refLost_dark {k : Nat} (hk : k < 10) (s : State) : ((refLost s).pll k).dark :=
  foldl_makes (P := fun t => (t.pll k).dark) (List.mem_range.mpr hk) (darkenPll_dark · k) darkenPll_keeps_dark _

theorem refLost_reference (s : State) :
    (refLost s).clk.refOk = false ∧ (refLost s).clk.valid = false ∧ (refLost s).clk.lossCount = satInc s.clk.lossCount := by
  have rest : (refLost s).clkSansPlls = { s.clk with plls := [], refOk := false, lossCount := satInc s.clk.lossCount, valid := false } :=
    foldl_keeps State.clkSansPlls darkenPll_clkSansPlls ..
  generalize refLost s = t at rest ⊢
  exact ⟨(congrArg ClkSt.refOk rest :), (congrArg ClkSt.valid rest :), (congrArg ClkSt.lossCount rest :)⟩

/-- R60, R69: the reports of the loss and the links that drop lie outside the clock block. -/
theorem execRefclkLoss_clk {s : State} (h : s.clk.refOk = true) : ∃ t, execRefclkLoss s = .next t ∧ t.clk = (refLost s).clk := by
  unfold execRefclkLoss
  rw [if_neg (by simp [h])]
  extract_lets ks open' cleared lost r pended
  refine ⟨_, rfl, ?_⟩
  simp only [State.driveErrn_frame]
  have lostIs : lost = refLost s := rfl
  clear_value lost
  have drawn : r.2.clk = lost.clk := foldl_keeps (fun acc : List (Nat × Word × Bool) × State => acc.2.clk) (fun _ _ => by rfl) ..
  have reported : pended.clk = lost.clk := calc
    _ = (r.2.faults r.1).clk := foldl_keeps State.clk (fun _ _ => State.clk_of_lasting (State.pend_lasting ..)) ..
    _ = r.2.clk := State.clk_of_lasting (State.faults_lasting ..)
    _ = lost.clk := drawn
  clear_value pended
  rw [← lostIs, ← reported]
  split
  · exact dropLinks_clk _
  · rfl

/-! ### Its return -/

/-- R69: what the return of REFCLK does to one PLL. -/
def relockPll (s : State) (k : Nat) : State := if (s.pll k).failed then s else acquirePll k s

theorem acquirePll_pll (k j : Nat) (s : State) : (acquirePll k s).pll j =
    if j = k then { s.pll k with acquiring := true, attemptAt := s.clk.aon, settling := false, opening := false, settle := s.bootMram.settle }
    else s.pll j := State.modPll_pll ..

/-- A PLL that has not failed is in a lock attempt that began now. -/
def State.relocks (k : Nat) (s : State) : Prop :=
  (s.pll k).failed = false → (s.pll k).acquiring = true ∧ (s.pll k).attemptAt = s.clk.aon

theorem relockPll_relocks (s : State) (k : Nat) : (relockPll s k).relocks k := by
  unfold relockPll
  split
  · next failed => exact fun sound => absurd (failed.symm.trans sound) (by decide)
  · rw [State.relocks, acquirePll_pll, if_pos rfl]
    exact fun _ => ⟨rfl, rfl⟩

theorem relockPll_pll_other {k j : Nat} (h : j ≠ k) (s : State) : (relockPll s k).pll j = s.pll j := by
  unfold relockPll
  split
  · rfl
  · rw [acquirePll_pll, if_neg h]

/-- It moves the PLLs alone. -/
theorem relockPll_sansPlls (s : State) (k : Nat) : (relockPll s k).sansPlls = s.sansPlls := by
  unfold relockPll
  split
  · rfl
  · rfl

theorem relockPll_keeps_relocks {k : Nat} (s : State) (j : Nat) (h : s.relocks k) : (relockPll s j).relocks k := by
  by_cases hj : k = j
  · exact hj ▸ relockPll_relocks s k
  · have aon : (relockPll s j).clk.aon = s.clk.aon := (congrArg (·.clk.aon) (relockPll_sansPlls s j) :)
    rw [State.relocks, relockPll_pll_other hj, aon]
    exact h

/-- Whether a PLL has failed does not change with its attempt; one that has stays as it is. -/
theorem relockPll_failed (k : Nat) (s : State) (j : Nat) : ((relockPll s j).pll k).failed = (s.pll k).failed := by
  by_cases hj : k = j
  · subst hj
    unfold relockPll
    split
    · rfl
    · rw [acquirePll_pll, if_pos rfl]
  · rw [relockPll_pll_other hj]

theorem relockPll_pll_of_failed {k : Nat} {s : State} (j : Nat) (h : (s.pll k).failed = true) : (relockPll s j).pll k = s.pll k := by
  by_cases hj : k = j
  · rw [relockPll, if_pos (hj ▸ h)]
  · exact relockPll_pll_other hj s

/-- R69: the PLLs once REFCLK has returned. -/
def relockPlls (s : State) : State := (List.range 10).foldl relockPll s

theorem relockPlls_sansPlls (s : State) : (relockPlls s).sansPlls = s.sansPlls :=
  foldl_keeps State.sansPlls relockPll_sansPlls ..

theorem relockPlls_relocks {k : Nat} (hk : k < 10) (s : State) : (relockPlls s).relocks k :=
  foldl_makes (P := State.relocks k) (List.mem_range.mpr hk) (relockPll_relocks · k) relockPll_keeps_relocks s

theorem relockPlls_failed (k : Nat) (s : State) : ((relockPlls s).pll k).failed = (s.pll k).failed :=
  foldl_keeps (fun t : State => (t.pll k).failed) (relockPll_failed k) ..

theorem relockPlls_pll_of_failed {k : Nat} {s : State} (h : (s.pll k).failed = true) : (relockPlls s).pll k = s.pll k :=
  List.foldlRecOn (motive := fun t : State => t.pll k = s.pll k) (List.range 10) relockPll rfl fun _ ht j _ =>
    (relockPll_pll_of_failed j (by rw [ht, h])).trans ht

theorem execRefclkReturn_running {s : State} (h : s.clk.refOk = false) (running : s.boot.phase = .running) :
    execRefclkReturn s =
      done (relockPlls (s.modClk fun c => { c with refOk := true, valid := true, everLocked := false, goodSyncs := 0 })) := by
  unfold execRefclkReturn
  rw [if_neg (by simp [h, running])]
  rfl

end Sys2Proof.Machine
end

section
/-! SUPPORT. Time that passes to a plan-time instant, the trackers, and SYNC_IN (R70, R71). -/

namespace Sys2Proof.Machine

/-- Plan time that passes moves the counts of the clock block alone. -/
theorem State.untilPlan_clk (t : Nat) (s : State) :
    (s.untilPlan t).clk = { s.clk with aon := (s.untilPlan t).clk.aon, plan := (s.untilPlan t).clk.plan,
                                       planFrac := (s.untilPlan t).clk.planFrac } := by
  unfold untilPlan
  split
  · rfl
  · rfl

theorem State.untilPlan_pll (t k : Nat) (s : State) : (s.untilPlan t).pll k = s.pll k := by rw [pll, untilPlan_clk, pll]

theorem State.driveErrn_pll (s : State) (k : Nat) : s.driveErrn.pll k = s.pll k := by simp only [pll, driveErrn_frame]

/-! ### A step of n -/

/-- R70: one step of n toward its target. -/
def Pll.stepped (p : Pll) (now : Nat) : Pll :=
  { p with nOffset := if p.nOffset < p.target then p.nOffset + 1 else p.nOffset - 1, stepAt := now + 1 }

/-- R70: the instant from which PLL `k` may step again. -/
def stepDue (k : Nat) (s : State) : State := if (s.pll k).stepAt = 0 then s else s.untilPlan ((s.pll k).stepAt - 1 + s.pfdNs k 64)

theorem execTrackerNStep_moves {k : Fin 8} {s : State} (gate : (s.pll k).gated = false) (plan : s.planGated = false)
    (safe : s.flt.safe = false) (there : s.trackMissing k = false) (off : (s.pll k).nOffset ≠ (s.pll k).target) :
    execTrackerNStep k s = done ((stepDue k s).modPll k fun p => p.stepped (stepDue k s).clk.plan) := by
  unfold execTrackerNStep
  exact if_neg (by simp [gate, plan, safe, there, off])

theorem stepDue_pll (k j : Nat) (s : State) : (stepDue k s).pll j = s.pll j := by
  unfold stepDue
  split
  · rfl
  · exact State.untilPlan_pll ..

theorem stepDue_plan {k : Nat} {s : State} (h : (s.pll k).stepAt ≠ 0) :
    (s.pll k).stepAt - 1 + s.pfdNs k 64 ≤ (stepDue k s).clk.plan := by
  rw [stepDue, if_neg h, State.untilPlan_plan]
  exact Nat.le_max_right ..

theorem stepDue_frame (k : Nat) (s : State) : (stepDue k s).mem = s.mem ∧ (stepDue k s).heads = s.heads ∧ (stepDue k s).seq = s.seq ∧
    (stepDue k s).host = s.host := by
  unfold stepDue
  split
  · exact ⟨rfl, rfl, rfl, rfl⟩
  · simp only [State.untilPlan_frame, and_self]

/-! ### SYNC_IN -/

/-- R71: an edge that is long enough and near its time is accepted. -/
theorem execSyncInEdge_near {after high : Nat} {s : State} (plan : (s.elapse after).planGated = false) (running : s.boot.phase = .running)
    (long : 100 ≤ high) (period : s.syncPeriod ≠ 0) (last : s.clk.syncLast ≠ 0)
    (near : syncNear s.syncPeriod ((s.elapse after).clk.plan - (s.clk.syncLast - 1)) = true) :
    execSyncInEdge after high s = done ((s.elapse after).modClk fun c =>
      { c with syncPresent := true, syncLast := (s.elapse after).clk.plan + 1, syncAccepted := (s.elapse after).clk.plan + 1 }) := by
  have samePeriod : (s.elapse after).syncPeriod = s.syncPeriod := rfl
  have sameLast : (s.elapse after).clk.syncLast = s.clk.syncLast := rfl
  unfold execSyncInEdge
  extract_lets t now per nearTo
  rw [if_neg (by simp [t, plan, running])]
  refine if_pos ⟨long, period, ?_⟩
  simp [nearTo, per, now, t, samePeriod, sameLast, last, near]

theorem execSyncInEdge_short {after high : Nat} {s : State} (plan : (s.elapse after).planGated = false) (running : s.boot.phase = .running)
    (short : high < 100) :
    execSyncInEdge after high s = done ((s.elapse after).modClk fun c =>
      { c with syncLast := (s.elapse after).clk.plan + 1, syncRejected := satInc c.syncRejected }) := by
  unfold execSyncInEdge
  extract_lets t now per nearTo
  rw [if_neg (by simp [t, plan, running])]
  exact if_neg fun h => Nat.not_le.mpr short h.1

/-- R71: a PLL whose SYNC_IN is missing keeps its n. -/
def Pll.held (p : Pll) : Pll := { p with target := if p.trackSrc = 1 then p.nOffset else p.target }

theorem Pll.held_held (p : Pll) : p.held.held = p.held := by
  unfold held
  split <;> rfl

/-- R71: what missing edges do to the tracker of one PLL. -/
def holdOnSync (s : State) (k : Nat) : State := if (s.pll k).trackSrc = 1 then holdN k s else s

theorem holdOnSync_pll (s : State) (k j : Nat) : (holdOnSync s k).pll j = if j = k then (s.pll k).held else s.pll j := by
  unfold holdOnSync
  split
  · next h => rw [holdN, State.modPll_pll, Pll.held, if_pos h]
  · next h =>
    rw [Pll.held, if_neg h]
    split
    · next e => rw [e]
    · rfl

theorem holdOnSync_sansPlls (s : State) (k : Nat) : (holdOnSync s k).sansPlls = s.sansPlls := by
  unfold holdOnSync
  split
  · rfl
  · rfl

theorem holdOnSync_held (k : Nat) (s : State) (j : Nat) : ((holdOnSync s j).pll k).held = (s.pll k).held := by
  rw [holdOnSync_pll]
  split
  · next e => rw [Pll.held_held, e]
  · rfl

/-- R71: every tracker on SYNC_IN holds n. -/
def holdAllOnSync (s : State) : State := (List.range 8).foldl holdOnSync s

theorem holdAllOnSync_sansPlls (s : State) : (holdAllOnSync s).sansPlls = s.sansPlls := foldl_keeps State.sansPlls holdOnSync_sansPlls ..

theorem holdAllOnSync_pll {k : Nat} (hk : k < 8) (s : State) : (holdAllOnSync s).pll k = (s.pll k).held := by
  have fixed : ((holdAllOnSync s).pll k).held = (holdAllOnSync s).pll k := by
    refine foldl_makes (P := fun t : State => (t.pll k).held = t.pll k) (List.mem_range.mpr hk) (fun t => ?_) (fun t j h => ?_) s
    · rw [holdOnSync_pll, if_pos rfl, Pll.held_held]
    · rw [holdOnSync_held, holdOnSync_pll]
      split
      · next e => rw [e]
      · exact h
  rw [← fixed]
  exact foldl_keeps (fun t : State => (t.pll k).held) (holdOnSync_held k) ..

/-- R71: the third missing edge. -/
def syncLost (s : State) : State :=
  (s.untilPlan (s.clk.syncAccepted - 1 + 3 * s.syncPeriod + s.syncPeriod / 20)).modClk fun c => { c with syncPresent := false }

theorem syncLost_pll (s : State) (k : Nat) : (syncLost s).pll k = s.pll k := State.untilPlan_pll ..

theorem syncLost_plan (s : State) : s.clk.syncAccepted - 1 + 3 * s.syncPeriod + s.syncPeriod / 20 ≤ (syncLost s).clk.plan :=
  (Nat.le_max_right ..).trans_eq (State.untilPlan_plan ..).symm

theorem syncLost_frame (s : State) :
    (syncLost s).mem = s.mem ∧ (syncLost s).heads = s.heads ∧ (syncLost s).seq = s.seq ∧ (syncLost s).flt = s.flt := by
  rw [syncLost, State.untilPlan_eq]
  exact ⟨rfl, rfl, rfl, rfl⟩

theorem execSyncInMissing_present {s : State} (h : s.clk.syncPresent = true) : execSyncInMissing s = done (holdAllOnSync (syncLost s)) := by
  unfold execSyncInMissing
  exact if_neg (by simp [h])

end Sys2Proof.Machine
end

section
/-! SUPPORT. SYNC_OUT and holdover (R73, R75). -/

namespace Sys2Proof.Machine

theorem State.driveErrn_syncOut (s : State) : s.driveErrn.pins.syncOut = s.pins.syncOut := by
  unfold driveErrn
  split
  · rfl
  · rfl

theorem State.untilPlan_syncOut (t : Nat) (s : State) : (s.untilPlan t).clk.syncOut = s.clk.syncOut := by rw [untilPlan_clk]

theorem State.untilPlan_syncOutNext (t : Nat) (s : State) : (s.untilPlan t).clk.syncOutNext = s.clk.syncOutNext := by rw [untilPlan_clk]

/-! ### A pulse -/

theorem execSyncOutRise_second {s : State} (low : s.pins.syncOut = false) (plan : s.planGated = false) (none : s.clk.syncOutNext = none)
    (mode : s.clk.syncOut.mode = 2) : execSyncOutRise s = done (riseSyncOut (s.untilPlan s.nextSecond)) := by
  unfold execSyncOutRise
  rw [if_neg (by simp [low, plan]), none]
  exact if_pos mode

/-- R73: with SYNC_OUT off until now, a pending second mode comes into force at the whole second. -/
theorem execSyncOutRise_change {s : State} {x : SyncOutCfg} (low : s.pins.syncOut = false) (plan : s.planGated = false)
    (next : s.clk.syncOutNext = some x) (mode : x.mode = 2) (off : s.clk.syncOut.mode = 0) :
    execSyncOutRise s =
      done (riseSyncOut ((s.untilPlan s.nextSecond).modClk fun c => { c with syncOut := x, syncOutNext := none })) := by
  unfold execSyncOutRise
  rw [if_neg (by simp [low, plan]), next]
  dsimp only
  rw [if_neg (by simp [off]), if_pos mode]
  rfl

theorem execSyncOutFall_high {s : State} (high : s.pins.syncOut = true) (plan : s.planGated = false) (none : s.clk.syncOutNext = none) :
    execSyncOutFall s = done (((s.untilPlan (s.clk.syncOutFall - 1)).modPins fun p => { p with syncOut := false }).modClk fun c =>
      { c with syncOutFall := 0 }) := by
  unfold execSyncOutFall
  rw [if_neg (by simp [high, plan])]
  extract_lets low fallen
  have still : fallen.clk.syncOutNext = .none := (State.untilPlan_syncOutNext ..).trans none
  rw [still]

/-! ### Holdover -/

theorem execTimeHoldover_locked {s : State} (h : s.clk.mode = 1) :
    execTimeHoldover s = done (setTimeMode 2 (s.untilPlan (s.net.lastSync.toNat + 3 * s.syncNs))) := if_neg (not_not_intro h)

theorem setTimeMode_of_ne {m : BitVec 2} {s : State} (h : s.clk.mode ≠ m) :
    setTimeMode m s = (s.modClk fun c => { c with mode := m, goodSyncs := 0 }).pend (433 + s.timePort) := if_neg h

end Sys2Proof.Machine
end

section
/-! SUPPORT. What the clock commands answer once their parameters are in range (R80). -/

namespace Sys2Proof.Machine

theorem length_leBytes (k n : Nat) : (leBytes k n).length = k := by
  induction k generalizing n with
  | zero => rfl
  | succ k ih => rw [leBytes, List.length_cons, ih]

/-- R80: what CLK_QUERY returns of a PLL. -/
def clkQueryBytes (pll : Byte) (s : State) : List Byte :=
  let p := s.pll pll.toNat
  leBytes 8 s.planTime.toNat ++ leBytes 8 (signedField 64 s.clk.ntOffset) ++ leBytes 4 s.clkTime ++ leBytes 4 p.cfg ++
    leBytes 4 p.status ++ leBytes 4 p.events

theorem clkQueryBytes_length (pll : Byte) (s : State) : (clkQueryBytes pll s).length = 32 := by
  simp only [clkQueryBytes, List.length_append, length_leBytes]

theorem clkQueryBytes_time (pll : Byte) (s : State) : (clkQueryBytes pll s).take 8 = leBytes 8 s.planTime.toNat := by
  simp only [clkQueryBytes, List.append_assoc]
  exact List.take_left' (length_leBytes ..)

theorem clkQueryBytes_pll (pll : Byte) (s : State) :
    (clkQueryBytes pll s).drop 24 = leBytes 4 (s.pll pll.toNat).status ++ leBytes 4 (s.pll pll.toNat).events := by
  simp only [clkQueryBytes]
  rw [List.append_assoc _ (leBytes 4 (s.pll pll.toNat).status)]
  exact List.drop_left' (by simp only [List.length_append, length_leBytes])

theorem execClkQuery_ok {c : KcpCtx} {s : State} {pll : Byte} (h : kcpReady 0x0900 0 c s = true) (hk : pll.toNat ≤ 9) :
    execClkQuery c pll s = .next (kcpOk 0x0900 c s s (clkQueryBytes pll s)) :=
  kcp_ok h (by decide) (if_neg (Nat.not_lt.mpr hk)) (kcpReady_session h)

theorem execClkSetTrack_ok {c : KcpCtx} {s : State} {pll source group : Byte} {deadband : Half} {period : Word} {g base h : Nat}
    (ready : kcpReady 0x0901 0 c s = true) (hk : pll.toNat ≤ 7) (hsource : source.toNat ≤ 2) (hgroup : group.toNat ≤ 15)
    (short : 1000000 ≤ period.toNat) (long : period.toNat ≤ 1000000000) (heads : s.pllGroup pll.toNat = some (g, base, h))
    (hyper : base = 1 → period.toNat = h * 64) (n : source ≠ 0 → 2000 ≤ (s.pll pll.toNat).nProg) :
    execClkSetTrack c pll source group deadband period s = .next (kcpOk 0x0901 c s (s.defer g (s.kcpFn c)
      (.track pll.toNat source.toNat group.toNat (if deadband = 0 then 64 else deadband.toNat) period.toNat)) []) := by
  refine kcp_ok_of_sessions ready (by decide) ?_ rfl (.inr rfl)
  dsimp only
  rw [if_neg (Nat.not_lt.mpr hk), if_neg (Nat.not_lt.mpr hsource), if_neg (Nat.not_lt.mpr hgroup), if_neg (by omega), heads]
  exact (if_neg fun h => h.2 (hyper h.1)).trans (if_neg fun h => Nat.not_le.mpr h.2 (n h.1))

theorem execClkSetSyncOut_second {c : KcpCtx} {s : State} {group : Byte} {width : Half} {offset : Word}
    (ready : kcpReady 0x0902 0 c s = true) (hw : width ≠ 0) (low : -1000000 ≤ offset.toInt) (high : offset.toInt ≤ 1000000) :
    execClkSetSyncOut c 2 group width offset s = .next (kcpOk 0x0902 c s (s.modClk fun x =>
      { x with syncOutNext := some { mode := 2, group := group.toNat, width := width.toNat, offset := offset.toInt } }) []) := by
  refine kcp_ok_of_sessions ready (by decide) ?_ rfl (.inr rfl)
  dsimp only
  rw [if_neg (by decide), if_neg (by simp), if_neg (not_and_of_not_right _ hw), if_neg (by omega), if_neg (by simp), if_neg (by decide),
    if_neg (by simp), if_neg (by simp)]
  rfl

theorem execClkRelock_unlocked {c : KcpCtx} {s : State} {pll : Byte} (ready : kcpReady 0x0903 0 c s = true) (hk : pll.toNat ≤ 7)
    (unlocked : (s.pll pll.toNat).locked = false) :
    execClkRelock c pll s = .next (kcpOk 0x0903 c s
      (acquirePll pll.toNat (s.modPll pll.toNat fun p => { p with failed := false, attempts := 0, recal := false })) []) := by
  refine kcp_ok_of_sessions ready (by decide) ?_ rfl (.inr rfl)
  exact (if_neg (by omega)).trans ((if_neg (by omega)).trans (if_neg (by simp [unlocked])))

theorem execClkSetSettle_ok {c : KcpCtx} {s : State} {count : Half} (ready : kcpReady 0x0904 0 c s = true) (h : 1024 ≤ count.toNat) :
    execClkSetSettle c count s = .next (kcpOk 0x0904 c s { s with bootMram := { s.bootMram with settle := count.toNat } } []) :=
  kcp_ok_of_sessions ready (by decide) (if_neg (Nat.not_lt.mpr h)) rfl (.inr rfl)

end Sys2Proof.Machine
end

section
/-! SUPPORT. The statements of the family of clocks and synthesis, settled. -/

open Sys2Proof Sys2Proof.Machine

/-- Settles O60: a step leads on from the state with the queue's rest, command by command. -/
theorem everyStepKeepsMemoryQueueAndTime : Obligations.EveryStepKeepsMemoryQueueAndTime := by
  intro s t h
  have on := step_leadsOn s t h
  exact ⟨on.queue, on.bytes, on.aon⟩

/-- Settles O7: each PLL goes dark with the reference, and each that has not failed is started again when it returns. -/
theorem referenceLossGatesEveryPll : Obligations.ReferenceLossGatesEveryPll := by
  refine ⟨fun s h => ?_, fun s h running => ?_⟩
  · obtain ⟨t, ht, clk⟩ := execRefclkLoss_clk h
    obtain ⟨ref, valid, losses⟩ := refLost_reference s
    refine ⟨t, ht, ?_⟩
    simp only [State.pll, clk]
    exact ⟨ref, valid, losses, fun k hk => refLost_dark hk s⟩
  · rw [exec_refclkReturn, execRefclkReturn_running h running]
    generalize hu : s.modClk _ = u
    have rest := relockPlls_sansPlls u
    have relocks := fun k hk => relockPlls_relocks (k := k) hk u
    have failed := fun k => relockPlls_failed k u
    have kept := fun k => relockPlls_pll_of_failed (k := k) (s := u)
    generalize relockPlls u = t at rest relocks failed kept ⊢
    subst hu
    refine ⟨_, rfl, ?_⟩
    simp only [State.pll, State.driveErrn_frame]
    refine ⟨(congrArg (·.clk.refOk) rest :), (congrArg (·.clk.valid) rest :), fun k hk sound => ?_, fun k _ => kept k,
      (congrArg State.mem rest :), (congrArg State.seq rest :), (congrArg State.heads rest :), (congrArg State.flt rest :)⟩
    obtain ⟨acquiring, since⟩ := relocks k hk ((failed k).trans sound)
    exact ⟨acquiring, since.trans (congrArg (·.clk.aon) rest :)⟩

/-- Settles O6: the command is the read of the low word, whose value keeps its high half for the function. -/
theorem lowReadsLatchTheHighWord : Obligations.LowReadsLatchTheHighWord := by
  intro fn s h
  rw [exec_clkTimeLoRead, exec_clkNtOffsetLoRead, execClkTimeLoRead, execClkNtOffsetLoRead, if_neg (by simp [h]), if_neg (by simp [h])]
  refine ⟨rfl, rfl, fun running => ?_⟩
  have fw : s.bar0.fwRuns = true := beq_iff_eq.mpr running
  rw [State.bar0Read_word rfl (State.readWord_timeLo fw), State.bar0Read_word rfl (State.readWord_offsetLo fw)]
  exact ⟨rfl, rfl⟩

/-- Refutes O8: where PLL9's gate opens on a head whose training fails, the fault collector does not stay as it was. -/
theorem not_pllLockSequence : ¬ Obligations.PllLockSequence := by
  intro h
  obtain ⟨-, -, -, opens, -⟩ := h 9 lanelessSink
  obtain ⟨t, ht, -, -, -, -, -, -, flt⟩ := opens rfl (.inl (by decide))
  have recorded := pllGateOpen_records_failed_training ht
  rw [flt] at recorded
  exact absurd recorded (by decide)

/-- Settles O9: the tracker's step, an edge and three missing edges each take their branch. -/
theorem trackingMovesOneStep : Obligations.TrackingMovesOneStep := by
  refine ⟨fun k s gate plan safe there off => ?_, fun after high s plan running => ⟨fun short => ?_, fun long period last near => ?_⟩,
    fun s h => ?_⟩
  · obtain ⟨mem, heads, seq, host⟩ := stepDue_frame k s
    rw [exec_trackerNStep, execTrackerNStep_moves gate plan safe there off]
    refine ⟨_, rfl, ?_⟩
    simp only [State.driveErrn_pll, State.driveErrn_frame, State.modPll_pll, if_true, stepDue_pll, State.modPll_frame]
    exact ⟨rfl, rfl, rfl, stepDue_plan, mem, heads, seq, host⟩
  · rw [exec_syncInEdge, execSyncInEdge_short plan running short]
    rfl
  · rw [exec_syncInEdge, execSyncInEdge_near plan running long period last near]
    rfl
  · rw [exec_syncInMissing, execSyncInMissing_present h]
    have rest := holdAllOnSync_sansPlls (syncLost s)
    have held := fun k hk => holdAllOnSync_pll (k := k) hk (syncLost s)
    obtain ⟨mem, heads, seq, flt⟩ := syncLost_frame s
    generalize holdAllOnSync (syncLost s) = t at rest held ⊢
    refine ⟨_, rfl, ?_⟩
    simp only [State.driveErrn_pll, State.driveErrn_frame]
    refine ⟨(congrArg (·.clk.syncPresent) rest :), (syncLost_plan s).trans_eq (congrArg (·.clk.plan) rest :).symm, fun k hk => ?_,
      (congrArg State.mem rest :).trans mem, (congrArg State.heads rest :).trans heads, (congrArg State.seq rest :).trans seq,
      (congrArg State.flt rest :).trans flt⟩
    rw [held k hk, syncLost_pll]
    exact ⟨rfl, rfl⟩

/-- Settles O10: each pulse rises and falls at its instant, and three intervals without synchronisation change the mode alone. -/
theorem syncOutAndHoldover : Obligations.SyncOutAndHoldover := by
  refine ⟨fun s low plan none mode => ?_, fun s x low plan next mode off => ?_, fun s high plan none => ?_, fun s h => ?_⟩
  · rw [exec_syncOutRise, execSyncOutRise_second low plan none mode]
    refine ⟨_, rfl, ?_⟩
    simp only [riseSyncOut, State.driveErrn_syncOut, State.driveErrn_frame, State.modClk_clk, State.modClk_pins, State.modClk_mem,
      State.modClk_seq, State.modClk_heads, State.modClk_flt, State.modPins_pins, State.modPins_clk, State.modPins_mem, State.modPins_seq,
      State.modPins_heads, State.modPins_flt, State.untilPlan_plan, State.untilPlan_syncOut, State.untilPlan_frame, and_true, true_and]
    rfl
  · rw [exec_syncOutRise, execSyncOutRise_change low plan next mode off]
    refine ⟨_, rfl, ?_⟩
    simp only [riseSyncOut, State.driveErrn_syncOut, State.driveErrn_frame, State.modClk_clk, State.modClk_pins, State.modPins_pins,
      State.modPins_clk, State.untilPlan_plan, true_and]
    rfl
  · rw [exec_syncOutFall, execSyncOutFall_high high plan none]
    refine ⟨_, rfl, ?_⟩
    simp only [State.driveErrn_syncOut, State.driveErrn_frame, State.modClk_clk, State.modClk_pins, State.modClk_mem, State.modClk_seq,
      State.modClk_heads, State.modClk_flt, State.modPins_pins, State.modPins_clk, State.modPins_mem, State.modPins_seq,
      State.modPins_heads, State.modPins_flt, State.untilPlan_plan, State.untilPlan_frame, and_self]
  · have locked : ∀ t, (s.untilPlan t).clk.mode ≠ 2 := fun t => by
      rw [State.untilPlan_clk, h]
      decide
    rw [exec_timeHoldover, execTimeHoldover_locked h, setTimeMode_of_ne (locked _)]
    refine ⟨_, rfl, ?_⟩
    simp only [State.driveErrn_frame, State.pend_frame, State.modClk_clk, State.modClk_mem, State.modClk_seq, State.modClk_heads,
      State.modClk_flt, State.untilPlan_frame, and_true, true_and]
    rw [State.untilPlan_clk]
    exact ⟨rfl, rfl⟩

/-- Settles O11: each command passes its own checks, and none touches the sessions. -/
theorem clockCommandsAnswer : Obligations.ClockCommandsAnswer := by
  refine fun c s => ⟨fun pll ready hk => ?_, fun _ _ _ _ _ _ _ _ => execClkSetTrack_ok, fun _ _ _ => execClkSetSyncOut_second,
    fun _ => execClkRelock_unlocked, fun _ => execClkSetSettle_ok⟩
  exact ⟨clkQueryBytes pll s, execClkQuery_ok ready hk, clkQueryBytes_length .., clkQueryBytes_time .., clkQueryBytes_pll ..⟩

/-- Settles O57: a waiting command is carried out on the queue's rest, and without one the counter has an edge. -/
theorem stepRunsTheFront : Obligations.StepRunsTheFront := by
  refine ⟨fun c l s => rfl, fun s he => ?_⟩
  refine ⟨s.tick.driveErrn, ?_, ?_⟩
  · rw [step, he]
    rfl
  · simpa only [State.driveErrn_frame, he] using s.tick_frame

end

section
/-! SUPPORT. What the choice of variant moves (R90, R92, R212, R447). -/

namespace Sys2Proof.Machine

/-- The condition of a step does not matter when both ends show the same. -/
theorem ite_keeps {α β : Type} (φ : α → β) {c : Prop} {_ : Decidable c} {a b : α} {x : β} (ha : φ a = x) (hb : φ b = x) :
    φ (if c then a else b) = x := by
  split
  · exact ha
  · exact hb

/-- A step that is taken under a condition, after one that keeps what `φ` shows. -/
theorem ite_then {α β : Type} (φ : α → β) {c : Prop} {_ : Decidable c} {t u : α} {x : β} (ht : φ t = x) (hu : φ u = φ t) :
    φ (if c then u else t) = x := ite_keeps φ (hu.trans ht) ht

/-- An event input moves the interrupt controller alone. -/
theorem State.pend_eq (x : Nat) (s : State) : s.pend x = { s with intc := (s.pend x).intc } := by
  unfold pend
  split
  · rfl
  · rfl

/-! ### The choice of variant -/

/-- R92: the entry and the end of reduced pace are each told once. -/
theorem paceEdge_eq (s : State) :
    paceEdge s = { s with pace := { s.pace with reducedSeen := s.paceReduced }, intc := (paceEdge s).intc } := by
  unfold paceEdge
  split
  · next same => rw [same]
  · rw [State.pend_eq]
    rfl

/-- The state with the sequencer erased. -/
def State.sansSeq (s : State) : State := { s with seq := {} }

/-- R212: past the edge of reduced pace, the choice moves the groups alone. -/
theorem chooseVariants_sansSeq (s : State) : (chooseVariants s).sansSeq = (paceEdge s).sansSeq := by
  unfold chooseVariants
  refine ite_keeps State.sansSeq rfl (foldl_keeps State.sansSeq (fun t g => ?_) ..)
  exact ite_keeps State.sansSeq (ite_keeps State.sansSeq rfl rfl) rfl

theorem chooseVariants_pace (s : State) : (chooseVariants s).pace = { s.pace with reducedSeen := s.paceReduced } :=
  (congrArg State.pace (chooseVariants_sansSeq s) :).trans (congrArg State.pace (paceEdge_eq s))

theorem chooseVariants_frame (s : State) :
    (chooseVariants s).host = s.host ∧ (chooseVariants s).heads = s.heads ∧ (chooseVariants s).mem = s.mem := by
  have h := chooseVariants_sansSeq s
  rw [paceEdge_eq] at h
  exact ⟨(congrArg State.host h :), (congrArg State.heads h :), (congrArg State.mem h :)⟩

end Sys2Proof.Machine
end

section
/-! SUPPORT. A fault's report leaves the pace block as it is, but for what was last told of reduced pace (R92): neither event records, nor
what goes out to peers, nor the collector's reactions touch it. -/

namespace Sys2Proof.Machine

theorem State.pend_pace (x : Nat) (s : State) : (s.pend x).pace = s.pace := by rw [pend_eq]

/-! ### Frames and event records -/

theorem State.enqueue_pace (p q : Nat) (f : QFrame) (s : State) : (s.enqueue p q f).pace = s.pace := ite_keeps State.pace rfl rfl

theorem State.manage_pace (p : Nat) (what : String) (fields : List Nat) (s : State) : (s.manage p what fields).pace = s.pace :=
  ite_keeps State.pace (enqueue_pace ..) rfl

theorem State.keepNeighbour_pace (p addr : Nat) (n : Neighbour) (s : State) : (s.keepNeighbour p addr n).pace = s.pace := by
  unfold keepNeighbour
  dsimp only
  split
  · rfl
  · rfl

theorem State.askNeighbour_pace (p addr : Nat) (s : State) : (s.askNeighbour p addr).pace = s.pace :=
  (manage_pace ..).trans (keepNeighbour_pace ..)

theorem State.sendIp_pace (p q addr : Nat) (f : QFrame) (s : State) : (s.sendIp p q addr f).pace = s.pace :=
  ite_keeps State.pace rfl (ite_keeps State.pace (enqueue_pace ..) (ite_keeps State.pace rfl (askNeighbour_pace ..)))

theorem udpSend_pace (k kind : Nat) (secret : Bool) (body : List Byte) (s : State) : (udpSend k kind secret body s).pace = s.pace :=
  State.sendIp_pace ..

theorem State.signal_pace (f n : Nat) (s : State) : (s.signal f n).pace = s.pace := ite_keeps State.pace rfl rfl

theorem State.signalIfDue_pace (f n : Nat) (s : State) : (s.signalIfDue f n).pace = s.pace := ite_keeps State.pace (signal_pace ..) rfl

theorem State.putRecord_pace (f n t : Nat) (subject : Half) (payload : List Byte) (s : State) :
    (s.putRecord f n t subject payload).pace = s.pace := by
  simp only [putRecord, signalIfDue_pace, emit_frame, count_frame, setRing, modHost_pace]

theorem State.ringRecord_pace (f t : Nat) (subject : Half) (payload : List Byte) (s : State) :
    (s.ringRecord f t subject payload).pace = s.pace := by
  unfold ringRecord
  split
  · rfl
  · exact ite_keeps State.pace (ite_keeps State.pace rfl rfl) (putRecord_pace ..)

theorem State.udpRecord_pace (k t : Nat) (subject : Half) (payload : List Byte) (s : State) :
    (s.udpRecord k t subject payload).pace = s.pace :=
  ite_keeps State.pace (ite_keeps State.pace rfl (udpSend_pace ..)) rfl

theorem State.payStale_pace (f : Nat) (s : State) : (s.payStale f).pace = s.pace := ite_keeps State.pace (ringRecord_pace ..) rfl

theorem State.payOwed_pace (s : State) : s.payOwed.pace = s.pace := by
  have surprise : ∀ c : Prop, ∀ _ : Decidable c, ∀ subject payload, ∀ f : HostSt → HostSt,
      (if c then s else (s.ringRecord 0 0x0A subject payload).modHost f).pace = s.pace :=
    fun _ _ _ _ _ => ite_keeps State.pace rfl (ringRecord_pace ..)
  unfold payOwed
  refine ite_keeps State.pace rfl (ite_keeps State.pace ?_ (surprise ..))
  exact (ringRecord_pace ..).trans (surprise ..)

theorem State.hostRecord_pace (f t : Nat) (subject : Half) (payload : List Byte) (s : State) :
    (s.hostRecord f t subject payload).pace = s.pace := by
  refine ite_keeps State.pace (ite_keeps State.pace rfl rfl) (ite_keeps State.pace rfl ?_)
  rw [ringRecord_pace, payStale_pace]
  exact ite_keeps State.pace (payOwed_pace s) rfl

theorem State.recordTo_pace (p : Nat → Bool) (t : Nat) (subject : Half) (payload : List Byte) (s : State) :
    (s.recordTo p t subject payload).pace = s.pace := by
  refine foldl_keeps State.pace (fun u f => ?_) ..
  have sessions := foldl_keeps State.pace (f := fun (u : State) k => if (tabGet u.host.udp k).role == f then u.udpRecord k t subject payload else u)
    fun _ _ => ite_keeps State.pace (udpRecord_pace ..) rfl
  exact (sessions ..).trans (hostRecord_pace ..)

/-! ### Sending to peers -/

theorem State.adtSend_pace (k : Nat) (kind : String) (body : Nat) (fields : List Nat) (s : State) :
    (s.adtSend k kind body fields).pace = s.pace :=
  foldl_keeps State.pace (fun _ _ => ite_keeps State.pace (sendIp_pace ..) rfl) ..

theorem State.peerState_pace (k state reason : Nat) (s : State) : (s.peerState k state reason).pace = s.pace :=
  (pend_pace ..).trans (recordTo_pace ..)

theorem State.sendBlank_pace (k : Nat) (b : Blank) (s : State) : (s.sendBlank k b).pace = s.pace := by
  refine ite_then State.pace (foldl_keeps State.pace (fun t i => ?_) ..) (peerState_pace ..)
  exact adtSend_pace ..

/-! ### The fault collector -/

theorem stopDecoder_pace (d : Nat) (s : State) : (stopDecoder d s).pace = s.pace := by
  refine ite_keeps State.pace rfl (foldl_keeps State.pace (fun _ _ => ?_) ..)
  exact ite_keeps State.pace (State.adtSend_pace ..) rfl

theorem unitReaction_pace (x : Nat) (s : State) : (unitReaction x s).pace = s.pace :=
  ite_keeps State.pace rfl (ite_keeps State.pace (stopDecoder_pace ..) (ite_keeps State.pace rfl rfl))

theorem enterSafe_pace (s : State) : (enterSafe s).pace = s.pace :=
  ite_keeps State.pace rfl (foldl_keeps State.pace (fun _ _ => State.sendBlank_pace ..) ..)

theorem State.putFence_pace (x : Nat) (v : Bool) (s : State) : (s.putFence x v).pace = s.pace := by
  unfold putFence
  split
  · rfl
  · rfl

theorem fltStore_pace (o : Occ) (s : State) : (fltStore o s).pace = s.pace := by
  refine ite_keeps State.pace ((State.recordTo_pace ..).trans ?_) ((State.pend_pace ..).trans ?_) <;>
    exact ite_keeps State.pace (State.pend_pace ..) (ite_keeps State.pace rfl rfl)

theorem fltMove_pace (s : State) : (fltMove s).pace = s.pace := by
  unfold fltMove
  split
  · exact State.pend_pace ..
  · rfl

/-- The pace block but for what was last told of reduced pace. -/
def State.loopState (s : State) : PaceSt := { s.pace with reducedSeen := false }

theorem State.loopState_of_pace {s t : State} (h : t.pace = s.pace) : t.loopState = s.loopState := by rw [loopState, h, loopState]

theorem chooseVariants_loopState (s : State) : (chooseVariants s).loopState = s.loopState := by
  rw [State.loopState, chooseVariants_pace, State.loopState]

theorem fltFence_loopState (o : Occ) (s : State) : (fltFence o s).loopState = s.loopState := by
  refine ite_keeps State.loopState (ite_keeps State.loopState rfl ?_) (ite_keeps State.loopState rfl rfl)
  refine (chooseVariants_loopState _).trans (State.loopState_of_pace ((unitReaction_pace ..).trans ?_))
  refine ite_keeps State.pace ?_ ?_ <;> exact State.putFence_pace ..

theorem fltReact_loopState (o : Occ) (s : State) : (fltReact o s).loopState = s.loopState := by
  refine ite_then State.loopState ((fltFence_loopState ..).trans (State.loopState_of_pace ?_)) (State.loopState_of_pace (enterSafe_pace _))
  exact ite_then State.pace (ite_then State.pace (ite_then State.pace (ite_then State.pace (ite_then State.pace
    (ite_then State.pace (State.pend_pace ..) rfl) rfl) rfl) rfl) rfl) rfl

theorem fltTake_loopState (o : Occ) (s : State) : (fltTake o s).loopState = s.loopState := by
  have snap : (snapFault o.cls (s.modFltSrc o.source fun c => { c with occ := satInc c.occ })).loopState = s.loopState :=
    ite_keeps State.loopState rfl rfl
  have stored : ∀ t, (fltStore o t).loopState = t.loopState := fun t => State.loopState_of_pace (fltStore_pace o t)
  refine ite_keeps State.loopState ?_ ?_ <;> simp only [stored, fltReact_loopState, snap]

theorem State.fault_loopState (x : Nat) (detail : Word) (s : State) : (s.fault x detail).loopState = s.loopState := by
  refine ite_keeps State.loopState ?_ (ite_keeps State.loopState rfl rfl)
  exact (foldl_keeps State.loopState (fun _ _ => fltTake_loopState ..) ..).trans (loopState_of_pace (fltMove_pace _))

end Sys2Proof.Machine
end

section
/-! SUPPORT. The voltage target, the regulator's bus and the loop period (R85–R87). -/

namespace Sys2Proof.Machine

/-! ### The bus and the target -/

/-- The state with everything erased that the next transaction moves. -/
def State.sansBus (s : State) : State :=
  { s with pace := { s.pace with wanted := 0, target := 0, bus := none, busQueue := [] }, out := [] }

theorem pumpBus_sansBus (s : State) : (pumpBus s).sansBus = s.sansBus := by
  unfold pumpBus
  split
  · rfl
  · dsimp only
    split
    · exact ite_keeps State.sansBus rfl rfl
    · exact ite_keeps State.sansBus rfl rfl

/-- The state with everything erased that a new target moves besides: it may be told (449). -/
def State.sansTarget (s : State) : State := { s.sansBus with intc := {} }

theorem paceTarget_sansTarget (mv : Nat) (s : State) : (paceTarget mv s).sansTarget = s.sansTarget := by
  refine ite_keeps State.sansTarget rfl (ite_keeps State.sansTarget ?_ rfl)
  rw [State.pend_eq]
  rfl

/-- R86: sending the target that waits leaves the target last set; so does sending any other command. -/
theorem pumpBus_volts (s : State) : (pumpBus s).volts = s.volts := by
  have sent : ∀ (p : Prop) (bus : Option PmTrans), (s.pace.wanted ≠ 0 ∧ p) →
      (busOut 0x21 (s.pace.wanted - 1) (s.modPace fun q => { q with wanted := 0, target := s.pace.wanted - 1, bus := bus })).volts = s.volts :=
    fun _ _ h => (if_neg h.1).symm
  unfold pumpBus
  split
  · rfl
  · dsimp only
    split
    · split
      · next h => exact sent _ _ h
      · rfl
    · split
      · next h => exact sent _ _ h.2
      · rfl

/-- R86: outside open-loop mode the target last set is the new one. -/
theorem paceTarget_volts {mv : Nat} {s : State} (h : s.pace.openLoop = false) : (paceTarget mv s).volts = mv := by
  have wanted : (paceTarget mv s).pace.wanted = mv + 1 := by
    rw [paceTarget, if_neg (by simp [h])]
    refine ite_keeps (fun t : State => t.pace.wanted) ?_ rfl
    rw [State.pend_pace]
    rfl
  rw [State.volts, wanted]
  exact if_neg (Nat.succ_ne_zero mv)

/-- With no transaction on the bus, none waiting and no target to send, nothing is sent. -/
theorem pumpBus_idle {s : State} (free : s.pace.bus = none) (queue : s.pace.busQueue = []) (wanted : s.pace.wanted = 0) : pumpBus s = s := by
  rw [pumpBus, free, queue]
  exact if_neg (by simp [wanted])

/-! ### What ERR_N's drive leaves -/

theorem State.driveErrn_mon (s : State) (i : Nat) : s.driveErrn.mon i = s.mon i := by simp only [mon, driveErrn_frame]

theorem State.driveErrn_volts (s : State) : s.driveErrn.volts = s.volts := by simp only [volts, driveErrn_frame]

/-! ### The loop period -/

/-- The state with everything erased that the loop moves once it knows the lowest margin. -/
def State.sansLoop (s : State) : State :=
  { s.sansTarget with pace := { s.sansTarget.pace with raisedAt := 0, above := 0, raises := 0, lowers := 0, fastRaises := 0 } }

theorem paceTarget_sansLoop (mv : Nat) (s : State) : (paceTarget mv s).sansLoop = s.sansLoop := by
  rw [State.sansLoop, paceTarget_sansTarget, State.sansLoop]

theorem pumpBus_sansLoop (s : State) : (pumpBus s).sansLoop = s.sansLoop := by
  rw [State.sansLoop, State.sansTarget, pumpBus_sansBus, State.sansLoop, State.sansTarget]

theorem loopStep_sansLoop (m : Int) (s : State) : (loopStep m s).sansLoop = s.sansLoop := by
  refine ite_keeps State.sansLoop (paceTarget_sansLoop ..) (ite_keeps State.sansLoop ?_ rfl)
  exact ite_keeps State.sansLoop (paceTarget_sansLoop ..) rfl

/-- R86: below lo the target rises by a step, as far as vmax, and the raise is counted. -/
theorem loopStep_low {m : Int} {s : State} (low : m < s.pace.cfg.lo) (closed : s.pace.openLoop = false) :
    (loopStep m s).volts = min (s.volts + s.pace.cfg.stepUp) s.pace.cfg.vmax ∧ (loopStep m s).pace.raises = satInc s.pace.raises := by
  rw [loopStep, if_pos low]
  refine ⟨paceTarget_volts closed, ?_⟩
  exact (congrArg (·.pace.raises) (paceTarget_sansTarget ..) :)

/-- R86: from lo to hi the target stays. -/
theorem loopStep_between {m : Int} {s : State} (lo : s.pace.cfg.lo ≤ m) (hi : m ≤ s.pace.cfg.hi) :
    loopStep m s = s.modPace fun p => { p with above := 0 } := by
  rw [loopStep, if_neg (not_lt.mpr lo), if_neg (not_lt.mpr hi)]

/-- R86: what the loop does about the lowest margin `m` of its period. -/
def answerPeriod (m : Int) (s : State) : State := pumpBus (loopStep m s)

theorem answerPeriod_frame (m : Int) (s : State) :
    (answerPeriod m s).pace.cfg = s.pace.cfg ∧ (∀ i, (answerPeriod m s).mon i = s.mon i) ∧
    (answerPeriod m s).pace.minMargin = s.pace.minMargin ∧ (answerPeriod m s).pace.minMon = s.pace.minMon ∧
    (answerPeriod m s).pace.loopAt = s.pace.loopAt ∧ (answerPeriod m s).mem = s.mem ∧ (answerPeriod m s).truss = s.truss ∧
    (answerPeriod m s).flt = s.flt := by
  have h : (answerPeriod m s).sansLoop = s.sansLoop := (pumpBus_sansLoop _).trans (loopStep_sansLoop m s)
  generalize answerPeriod m s = t at h ⊢
  exact ⟨(congrArg (·.pace.cfg) h :), fun i => (congrArg (State.mon · i) h :), (congrArg (·.pace.minMargin) h :),
    (congrArg (·.pace.minMon) h :), (congrArg (·.pace.loopAt) h :), (congrArg State.mem h :), (congrArg State.truss h :),
    (congrArg State.flt h :)⟩

theorem answerPeriod_volts (m : Int) (s : State) :
    (answerPeriod m s).volts = (loopStep m s).volts ∧ (answerPeriod m s).pace.raises = (loopStep m s).pace.raises :=
  ⟨pumpBus_volts _, (congrArg (·.pace.raises) (pumpBus_sansBus (loopStep m s)) :)⟩

/-- R86, R91, R93: the end of a loop period, once the lowest margin of the period is known. -/
def loopPeriodEnded (tj : Int) (l : Int × Nat) (s : State) : State :=
  let s := (s.untilAon s.pace.loopAt).modBoot fun b => { b with tj := tj }
  s.modPace fun p =>
    { p with cfg := s.paceMram, tj := BitVec.ofNat 8 (max 0 (min 255 (tj + 64))).toNat, loopAt := s.now + msNs (max 1 s.paceMram.period),
             mons := tabMap (fun _ m => { m with low := none }) p.mons, minMargin := l.1, minMon := l.2 }

theorem loopPeriodEnded_low (tj : Int) (l : Int × Nat) (s : State) (i : Nat) : ((loopPeriodEnded tj l s).mon i).low = none := by
  rw [State.mon, loopPeriodEnded, State.modPace_pace]
  exact tabGet_tabMap (P := fun m : PaceMon => m.low = none) (f := fun _ m => { m with low := none }) rfl (fun _ _ => rfl) ..

theorem loopPeriodEnded_loopAt (tj : Int) (l : Int × Nat) (s : State) :
    (loopPeriodEnded tj l s).pace.loopAt = max s.clk.aon s.pace.loopAt + 1000000 * max 1 s.paceMram.period :=
  congrArg₂ (· + ·) (State.untilAon_aon ..) (Nat.mul_comm ..)

theorem loopPeriodEnded_frame (tj : Int) (l : Int × Nat) (s : State) :
    (loopPeriodEnded tj l s).pace.cfg = s.paceMram ∧ (loopPeriodEnded tj l s).pace.minMargin = l.1 ∧
    (loopPeriodEnded tj l s).pace.minMon = l.2 ∧ (loopPeriodEnded tj l s).volts = s.volts ∧
    (loopPeriodEnded tj l s).pace.raises = s.pace.raises ∧ (loopPeriodEnded tj l s).pace.openLoop = s.pace.openLoop ∧
    (loopPeriodEnded tj l s).mem = s.mem ∧ (loopPeriodEnded tj l s).truss = s.truss ∧ (loopPeriodEnded tj l s).flt = s.flt :=
  ⟨rfl, rfl, rfl, rfl, rfl, rfl, rfl, rfl, rfl⟩

theorem execAvsLoopPeriod_running {tj : Int} {s : State} {l : Int × Nat} (running : s.boot.phase = .running) (ungated : (s.pll 9).gated = false)
    (lowest : s.lowestOfPeriod = some l) (held : s.pace.held = false) :
    execAvsLoopPeriod tj s = done (answerPeriod l.1 (loopPeriodEnded tj l s)) := by
  unfold execAvsLoopPeriod
  rw [if_neg (by simp [running])]
  extract_lets u code configured begun target
  have hungated : (begun.pll 9).gated = false := ungated
  have hheld : target = begun := if_neg (by simp [begun, configured, u, held])
  have hlowest : target.lowestOfPeriod = some l := hheld ▸ lowest
  rw [if_neg (by simp [hungated]), hlowest, hheld]
  rfl

end Sys2Proof.Machine
end

section
/-! SUPPORT. What ends a transaction with the regulator: its answer, or an error (R87). -/

namespace Sys2Proof.Machine

/-! ### READ_VOUT -/

/-- R87: the output voltage is within 10 mV of the target. -/
def State.voutNear (s : State) (mv : Nat) : Bool := decide (mv ≤ s.pace.target + 10) && decide (s.pace.target ≤ mv + 10)

/-- R87: the transaction on the bus has ended. -/
def State.busFreed (s : State) : State := s.modPace fun p => { p with bus := none }

theorem State.voutNear_of {mv : Nat} {s : State} (high : mv ≤ s.pace.target + 10) (low : s.pace.target ≤ mv + 10) :
    s.voutNear mv = true := by
  rw [voutNear, decide_eq_true high, decide_eq_true low]
  rfl

/-- R87: what READ_VOUT's answer moves in a loop that is not held. -/
theorem voutRead_unheld {mv : Nat} {s : State} (held : s.pace.held = false) :
    voutRead mv s = s.modPace fun p =>
      { p with read := mv, openLoop := p.openLoop && !(p.openLoop && p.modeOk), settling := if s.voutNear mv then 0 else p.settling,
               lastBad := if s.voutNear mv then false else p.lastBad,
               voutAt := s.now + (if (if s.voutNear mv then 0 else p.settling) = 0 then msNs 100 else usNs 200) } := by
  unfold voutRead
  extract_lets near closes read kept
  have : kept = read := if_neg (by simp [read, held])
  rw [this]
  rfl

theorem busAnswer_vout {t : PmTrans} {mv : Nat} {s : State} (cmd : t.cmd = 0x8B) : busAnswer t mv s = voutRead mv s := by
  unfold busAnswer
  extract_lets t'
  have kept : t' = s := if_pos (.inr (.inl cmd))
  rw [kept, if_neg (by simp [cmd]), if_pos cmd]

/-- With nothing to send, READ_VOUT's answer leaves the bus free. -/
theorem execPmbusTransactionDone_vout {value : Half} {s : State} {t : PmTrans} (bus : s.pace.bus = some t) (wanted : s.pace.wanted = 0)
    (queue : s.pace.busQueue = []) (held : s.pace.held = false) (cmd : t.cmd = 0x8B) :
    execPmbusTransactionDone true value s = done (voutRead value.toNat s.busFreed) := by
  unfold execPmbusTransactionDone
  rw [bus]
  dsimp only
  rw [if_pos rfl, busAnswer_vout cmd, ← State.busFreed, voutRead_unheld (s := s.busFreed) held, pumpBus_idle]
  · rfl
  · exact queue
  · exact wanted

theorem execPmbusTransactionDone_error {value : Half} {s : State} {t : PmTrans} (bus : s.pace.bus = some t) :
    execPmbusTransactionDone false value s = done (pumpBus (regulatorError (some t) s.busFreed)) := by
  unfold execPmbusTransactionDone
  rw [bus]
  rfl

/-- R87: the millisecond that the regulator had to settle has passed. -/
def settleEnded (s : State) : State := (s.untilAon (s.pace.settling - 1 + msNs 1)).modPace fun p => { p with settling := 0 }

theorem settleEnded_aon (s : State) : s.pace.settling - 1 + 1000000 ≤ (settleEnded s).clk.aon := by
  rw [settleEnded, State.modPace_clk, State.untilAon_aon, msNs]
  omega

/-- Time that passes moves neither the pace block nor memory. -/
theorem untilAon_modPace (due : Nat) (f : PaceSt → PaceSt) (s : State) :
    ((s.untilAon due).modPace f).pace = f s.pace ∧ ((s.untilAon due).modPace f).mem = s.mem := ⟨rfl, rfl⟩

theorem settleEnded_frame (s : State) : (settleEnded s).pace = { s.pace with settling := 0 } ∧ (settleEnded s).mem = s.mem :=
  untilAon_modPace ..

theorem execRegulatorSettleTimeout_settling {s : State} (h : s.pace.settling ≠ 0) :
    execRegulatorSettleTimeout s =
      done (pumpBus (regulatorError (some { cmd := 0x21, data := (settleEnded s).pace.target }) (settleEnded s))) := if_neg h

/-! ### Errors -/

/-- What a regulator error has done to `s` by the time it has made `t` of it: it counts, a settling that has ended stays ended, and nothing
moves that a fault's report leaves. -/
structure RegulatorErred (s t : State) : Prop where
  lasting : t.lasting = s.lasting
  errors : t.pace.regErrors = satInc s.pace.regErrors
  settled : s.pace.settling = 0 → t.pace.settling = 0

namespace RegulatorErred

variable {s t : State}

theorem fault (x : Nat) (detail : Word) (h : RegulatorErred s t) : RegulatorErred s (t.fault x detail) := by
  have same := State.fault_loopState x detail t
  exact ⟨(State.fault_lasting ..).trans h.lasting, (congrArg PaceSt.regErrors same :).trans h.errors,
    fun ended => (congrArg PaceSt.settling same :).trans (h.settled ended)⟩

theorem pend (x : Nat) (h : RegulatorErred s t) : RegulatorErred s (t.pend x) := by
  rw [State.pend_eq]
  exact ⟨h.lasting, h.errors, h.settled⟩

theorem modPace {f : PaceSt → PaceSt} (errors : (f t.pace).regErrors = t.pace.regErrors)
    (settled : t.pace.settling = 0 → (f t.pace).settling = 0) (h : RegulatorErred s t) : RegulatorErred s (t.modPace f) :=
  ⟨h.lasting, errors.trans h.errors, settled ∘ h.settled⟩

theorem pumpBus (h : RegulatorErred s t) : RegulatorErred s (pumpBus t) := by
  have same := pumpBus_sansBus t
  exact ⟨(congrArg State.lasting same :).trans h.lasting, (congrArg (·.pace.regErrors) same :).trans h.errors,
    fun ended => (congrArg (·.pace.settling) same :).trans (h.settled ended)⟩

theorem openLoop (h : RegulatorErred s t) : RegulatorErred s (openLoop t) :=
  have told := (h.fault 183 2).pend 452
  ⟨told.lasting, told.errors, fun _ => rfl⟩

theorem aon (h : RegulatorErred s t) : t.clk.aon = s.clk.aon := (congrArg (·.clk.aon) h.lasting :)

theorem mem (h : RegulatorErred s t) : t.mem = s.mem := (congrArg State.mem h.lasting :)

end RegulatorErred

theorem regulatorError_erred (t : Option PmTrans) (s : State) : RegulatorErred s (regulatorError t s) := by
  unfold regulatorError
  extract_lets counted drawn told retold bad
  have hcounted : RegulatorErred s counted := ⟨rfl, rfl, id⟩
  have hdrawn : RegulatorErred s drawn.2 := ⟨rfl, rfl, id⟩
  have htold : RegulatorErred s told := by
    unfold told
    split
    · exact hdrawn.fault ..
    · exact hcounted
  have hretold : RegulatorErred s retold := (htold.fault ..).pend _
  have hbad : RegulatorErred s bad := hretold.modPace rfl id
  split
  · exact hretold
  · split
    · exact htold.openLoop
    · split
      · exact hbad.modPace rfl id
      · exact hbad

end Sys2Proof.Machine
end

section
/-! SUPPORT. The end of a pace monitor's window (R84, R86, R88–R90). -/

namespace Sys2Proof.Machine

/-! ### The measure -/

/-- R91: the lowest margin, once a window of margin `m` has followed the lowest so far. -/
def lowestWith (m : Int) (w : Option Int) : Int := match w with | some w => min w m | none => m

/-- R84, R86, R88, R89: monitor `i` after a window of margin `m`. -/
def measureWindow (i : Nat) (m : Int) (s : State) : State :=
  let s := s.untilAon (s.mon i).nextAt
  let s := s.modMon i fun c => { c with nextAt := s.now + 10240 }
  s.modMon i fun c =>
    { c with margin := m, worst := some (lowestWith m c.worst), low := some (lowestWith m c.low), alarm := decide (m < s.pace.cfg.alarm),
             below := if m < s.pace.cfg.alarm then c.below + 1 else 0,
             breach := if s.runsReduced = true ∧ m < s.reducedFloor then c.breach + 1 else 0 }

theorem measureWindow_mon (i : Nat) (m : Int) (s : State) :
    (measureWindow i m s).mon i =
      { margin := m, worst := some (lowestWith m (s.mon i).worst), low := some (lowestWith m (s.mon i).low), failed := (s.mon i).failed,
        alarm := decide (m < s.pace.cfg.alarm), below := if m < s.pace.cfg.alarm then (s.mon i).below + 1 else 0,
        breach := if s.runsReduced = true ∧ m < s.reducedFloor then (s.mon i).breach + 1 else 0,
        nextAt := max s.clk.aon (s.mon i).nextAt + 10240 } := by
  have now : (s.untilAon (s.mon i).nextAt).now = max s.clk.aon (s.mon i).nextAt := State.untilAon_aon ..
  rw [measureWindow, State.modMon_mon, if_pos rfl, State.modMon_mon, if_pos rfl, now]
  rfl

/-! ### What it tells -/

theorem State.pend_intSrc_other {x y : Nat} (h : y ≠ x) (s : State) : (s.pend x).intSrc y = s.intSrc y := by
  refine ite_keeps (fun t : State => t.intSrc y) ?_ rfl
  rw [modIntSrc_intSrc, if_neg h]

/-- R420: an event of a source that has an event input. -/
theorem State.pend_pended {x : Nat} (real : (intReal x && !intIsCond x) = true) (s : State) : Pended x s (s.pend x) := by
  have src : (s.pend x).intSrc x = { s.intSrc x with rose := true, events := (s.intSrc x).events + 1 } := by
    rw [pend, if_pos real, modIntSrc_intSrc, if_pos rfl]
  exact ⟨congrArg IntSrc.rose src, congrArg IntSrc.events src⟩

/-- Whether a source has had an event is a matter of that source alone. -/
theorem pended_congr {x : Nat} {s s' t t' : State} (hs : s'.intSrc x = s.intSrc x) (ht : t'.intSrc x = t.intSrc x) (h : Pended x s t) :
    Pended x s' t' :=
  ⟨(congrArg IntSrc.rose ht).trans h.1, (congrArg IntSrc.events ht).trans (h.2.trans (congrArg (fun c => c.events + 1) hs.symm))⟩

/-- R86: a margin below alarm is told (447). -/
def tellAlarm (m : Int) (s : State) : State := if m < s.pace.cfg.alarm then s.pend 447 else s

theorem tellAlarm_eq (m : Int) (s : State) : tellAlarm m s = { s with intc := (tellAlarm m s).intc } := by
  unfold tellAlarm
  split
  · exact State.pend_eq ..
  · rfl

theorem tellAlarm_intSrc {x : Nat} (h : x ≠ 447) (m : Int) (s : State) : (tellAlarm m s).intSrc x = s.intSrc x :=
  ite_keeps (fun t : State => t.intSrc x) (State.pend_intSrc_other h s) rfl

/-- R89: a margin below 0 is a floor breach, counted and told (448). -/
def tellBreach (m : Int) (s : State) : State :=
  if m < 0 then (s.modPace fun p => { p with breaches := satInc p.breaches }).pend 448 else s

theorem tellBreach_eq (m : Int) (s : State) :
    tellBreach m s = { s with pace := { s.pace with breaches := if m < 0 then satInc s.pace.breaches else s.pace.breaches },
                              intc := (tellBreach m s).intc } := by
  unfold tellBreach
  split
  · rw [State.pend_eq]
    rfl
  · rfl

theorem tellBreach_pended {m : Int} (h : m < 0) (s : State) : Pended 448 s (tellBreach m s) := by
  rw [tellBreach, if_pos h]
  exact pended_congr rfl rfl (State.pend_pended (by decide) (s.modPace fun p => { p with breaches := satInc p.breaches }))

/-- R86, R89: what a window of margin `m` tells. -/
def tellWindow (m : Int) (s : State) : State := tellBreach m (tellAlarm m s)

/-- Telling moves the count of floor breaches and the interrupt controller alone. -/
theorem tellWindow_eq (m : Int) (s : State) :
    tellWindow m s = { s with pace := { s.pace with breaches := if m < 0 then satInc s.pace.breaches else s.pace.breaches },
                              intc := (tellWindow m s).intc } := by
  rw [tellWindow, tellBreach_eq, tellAlarm_eq]

theorem tellWindow_pended {m : Int} (h : m < 0) (s : State) : Pended 448 s (tellWindow m s) :=
  pended_congr (tellAlarm_intSrc (by decide) m s).symm rfl (tellBreach_pended h (tellAlarm m s))

theorem tellWindow_mon (m : Int) (s : State) (i : Nat) : (tellWindow m s).mon i = s.mon i := by
  rw [tellWindow_eq]
  rfl

/-! ### What the loop does about it -/

/-- R86, R88, R90: the loop after a window of margin `m` of a healthy monitor. -/
def answerWindow (m : Int) (s : State) : State :=
  let s := if m < s.pace.cfg.alarm then windowRaise s else s
  let s := if s.escalating then s else s.modPace fun p => { p with escalated := false }
  goodRun s

/-- The state with everything erased that the loop moves at the end of a window. -/
def State.sansAnswer (s : State) : State :=
  { s.sansLoop with pace := { s.sansLoop.pace with escalated := false, goodSince := 0 } }

theorem windowRaise_sansLoop (s : State) : (windowRaise s).sansLoop = s.sansLoop :=
  (pumpBus_sansLoop _).trans (paceTarget_sansLoop ..)

theorem answerWindow_sansAnswer (m : Int) (s : State) : (answerWindow m s).sansAnswer = s.sansAnswer := by
  have raised : (windowRaise s).sansAnswer = s.sansAnswer := by rw [State.sansAnswer, windowRaise_sansLoop, State.sansAnswer]
  refine Eq.trans ?_ (ite_keeps State.sansAnswer raised rfl : (if m < s.pace.cfg.alarm then windowRaise s else s).sansAnswer = _)
  exact ite_keeps State.sansAnswer rfl rfl

theorem answerWindow_frame (m : Int) (s : State) :
    (∀ i, (answerWindow m s).mon i = s.mon i) ∧ (answerWindow m s).pace.breaches = s.pace.breaches ∧ (answerWindow m s).mem = s.mem ∧
    (answerWindow m s).truss = s.truss ∧ (answerWindow m s).heads = s.heads ∧ (answerWindow m s).flt = s.flt := by
  have h := answerWindow_sansAnswer m s
  generalize answerWindow m s = t at h ⊢
  exact ⟨fun i => (congrArg (State.mon · i) h :), (congrArg (·.pace.breaches) h :), (congrArg State.mem h :), (congrArg State.truss h :),
    (congrArg State.heads h :), (congrArg State.flt h :)⟩

theorem windowRaise_intSrc {x : Nat} (h : x ≠ 449) (s : State) : (windowRaise s).intSrc x = s.intSrc x := by
  have pumped : ∀ t, (pumpBus t).intSrc x = t.intSrc x := fun t => (congrArg (State.intSrc · x) (pumpBus_sansBus t) :)
  refine (pumped _).trans (ite_keeps (State.intSrc · x) rfl (ite_keeps (State.intSrc · x) ?_ rfl))
  exact State.pend_intSrc_other h _

theorem answerWindow_intSrc {x : Nat} (h : x ≠ 449) (m : Int) (s : State) : (answerWindow m s).intSrc x = s.intSrc x := by
  refine Eq.trans ?_ (ite_keeps (State.intSrc · x) (windowRaise_intSrc h s) rfl :
    (if m < s.pace.cfg.alarm then windowRaise s else s).intSrc x = s.intSrc x)
  exact ite_keeps (State.intSrc · x) rfl rfl

theorem execPaceWindow_sound {i : Fin 24} {count : Nat} {s : State} (ungated : (s.pll 9).gated = false) (running : s.boot.phase = .running)
    (counts : count ≠ 0) (scale : paceMargin i count ≠ 2047) (sound : (s.mon i).failed = false) :
    execPaceWindow i count s =
      done (answerWindow (paceMargin i count) (tellWindow (paceMargin i count) (measureWindow i (paceMargin i count) s))) := by
  unfold execPaceWindow
  extract_lets u v m reduced lowest measured alarmed told failed raised escalated
  have hungated : (v.pll 9).gated = false := ungated
  have hrunning : v.boot.phase = .running := running
  have hfailed : failed = told := if_neg (by simp [counts, scale, m])
  have htold : told = tellWindow m (measureWindow i m s) := rfl
  have healthy : told.monHealthy i = true := by
    rw [State.monHealthy, htold, tellWindow_mon, measureWindow_mon, sound]
    rfl
  rw [if_neg (by simp [hungated, hrunning]), if_neg (by simp [hfailed, healthy])]
  simp only [escalated, raised, hfailed]
  rfl

end Sys2Proof.Machine
end

section
/-! SUPPORT. What the pace commands answer once their parameters are in range (R93). -/

namespace Sys2Proof.Machine

/-- R93: what PACE_QUERY returns. -/
def paceQueryBytes (s : State) : List Byte :=
  ([0, 4, 8, 0x14, 0x18, 0x1C].flatMap fun o => leBytes 4 (s.paceReg o)) ++
    leBytes 4 (((List.range 24).map fun i => b2n (s.mon i).failed * 2 ^ i).sum)

theorem paceQueryBytes_length (s : State) : (paceQueryBytes s).length = 28 := by
  simp only [paceQueryBytes, List.flatMap_cons, List.flatMap_nil, List.length_append, length_leBytes, List.length_nil]

theorem execPaceQuery_ok {c : KcpCtx} {s : State} (ready : kcpReady 0x0910 0 c s = true) :
    execPaceQuery c s = .next (kcpOk 0x0910 c s s (paceQueryBytes s)) :=
  kcp_ok ready (by decide) rfl (kcpReady_session ready)

theorem execPaceSetBand_ok {c : KcpCtx} {s : State} {lo hi alarm : Half} (ready : kcpReady 0x0911 0 c s = true) (positive : 0 < alarm.toNat)
    (below : alarm.toNat < lo.toNat) (wide : lo.toNat + 51 ≤ hi.toNat) (high : hi.toNat ≤ 1023) :
    execPaceSetBand c lo hi alarm s = .next (kcpOk 0x0911 c s
      { s with paceMram := { s.paceMram with lo := lo.toNat, hi := hi.toNat, alarm := alarm.toNat } } []) := by
  have there : alarm ≠ 0 := by
    rintro rfl
    exact absurd positive (by decide)
  refine kcp_ok_of_sessions ready (by decide) ?_ rfl (.inr rfl)
  dsimp only
  rw [if_neg (by omega), if_neg (by omega), if_neg (not_or_intro there (Nat.not_le.mpr below))]

/-- R93: a step of the loop in range. -/
theorem stepBad_of_mem {b : Byte} (h : b.toNat ∈ [5, 10, 15, 20]) : stepBad b = false := by
  simp only [List.mem_cons, List.not_mem_nil, or_false] at h
  obtain h | h | h | h := h <;> simp [stepBad, h]

theorem execPaceSetLimits_ok {c : KcpCtx} {s : State} {vmin vmax : Half} {up down period : Byte} (ready : kcpReady 0x0912 0 c s = true)
    (low : 720 ≤ vmin.toNat) (apart : vmin.toNat + 20 ≤ vmax.toNat) (high : vmax.toNat ≤ 860) (hup : up.toNat ∈ [5, 10, 15, 20])
    (hdown : down.toNat ∈ [5, 10, 15, 20]) (some : 1 ≤ period.toNat) (short : period.toNat ≤ 100) :
    execPaceSetLimits c vmin vmax up down period s = .next (kcpOk 0x0912 c s
      { s with paceMram := { s.paceMram with vmin := vmin.toNat, vmax := vmax.toNat, stepUp := up.toNat, stepDown := down.toNat,
                                             period := period.toNat } } []) := by
  have there : period ≠ 0 := by
    rintro rfl
    exact absurd some (by decide)
  refine kcp_ok_of_sessions ready (by decide) ?_ rfl (.inr rfl)
  dsimp only
  rw [if_neg (by omega), if_neg (Nat.not_lt.mpr high), if_neg (by simp [stepBad_of_mem hup]), if_neg (by simp [stepBad_of_mem hdown]),
    if_neg (not_or_intro there (Nat.not_lt.mpr short))]

/-- R93: a monitor's worst margin, forgotten. -/
def PaceMon.forgotten (m : PaceMon) : PaceMon := { m with worst := none }

/-- R93: the monitors with their worst margins forgotten. -/
def forgetWorst (t : Tab PaceMon) : Tab PaceMon := (List.range 24).foldl (fun t i => tabMod t i PaceMon.forgotten) t

theorem forgetWorst_worst {i : Nat} (hi : i < 24) (t : Tab PaceMon) : (tabGet (forgetWorst t) i).worst = none := by
  refine foldl_makes (P := fun t : Tab PaceMon => (tabGet t i).worst = none) (List.mem_range.mpr hi) (fun t => ?_) (fun t j h => ?_) t
  · rw [tabGet_mod, if_pos rfl]
    rfl
  · rw [tabGet_mod]
    split
    · rfl
    · exact h

theorem forgetWorst_margin (i : Nat) (t : Tab PaceMon) : (tabGet (forgetWorst t) i).margin = (tabGet t i).margin := by
  refine foldl_keeps (fun t : Tab PaceMon => (tabGet t i).margin) (fun t j => ?_) ..
  rw [tabGet_mod]
  split
  · next e => rw [e]; rfl
  · rfl

/-- R93: what PACE_CLEAR leaves. -/
def paceCleared (s : State) : State :=
  s.modPace fun p =>
    { p with mons := forgetWorst p.mons, raises := 0, lowers := 0, fastRaises := 0, breaches := 0, entries := 0, regErrors := 0 }

theorem paceCleared_mon (i : Nat) (s : State) : (paceCleared s).mon i = tabGet (forgetWorst s.pace.mons) i := by
  rw [State.mon, paceCleared, State.modPace_pace]

theorem execPaceClear_ok {c : KcpCtx} {s : State} (ready : kcpReady 0x0913 0 c s = true) :
    execPaceClear c s = .next (kcpOk 0x0913 c s (paceCleared s) []) :=
  kcp_ok_of_sessions ready (by decide) rfl rfl (.inr rfl)

/-- R90: reduced pace forced, and every group's variant chosen again. -/
def reducedForced (s : State) : State := chooseVariants (s.modPace fun p => { p with forced := true })

theorem reducedForced_forced (s : State) : (reducedForced s).pace.forced = true := by
  rw [reducedForced, chooseVariants_pace]
  rfl

theorem execPaceForceReduced_enter {c : KcpCtx} {s : State} (ready : kcpReady 0x0914 0 c s = true) :
    execPaceForceReduced c 1 s = .next (kcpOk 0x0914 c s (reducedForced s) []) := by
  obtain ⟨host, -, -⟩ := chooseVariants_frame (s.modPace fun p => { p with forced := true })
  exact kcp_ok_of_sessions ready (by decide) rfl (congrArg HostSt.mbx host) (.inr (congrArg HostSt.udp host))

theorem execPaceForceReduced_leave {c : KcpCtx} {s : State} (ready : kcpReady 0x0914 0 c s = true) (h : s.escalating = true) :
    execPaceForceReduced c 0 s = .next (kcpNo 0x0914 c s .state 0) :=
  kcp_no ready (by decide) (if_pos h)

end Sys2Proof.Machine
end

section
/-! SUPPORT. The statements of the family of the self-timed core and pace, settled. -/

open Sys2Proof Sys2Proof.Machine

/-- Settles O12: a window is measured, told and answered; the answer moves neither the monitors nor the count of breaches, nor source 448. -/
theorem paceWindowsMeasureMargin : Obligations.PaceWindowsMeasureMargin := by
  intro i count s ungated running counts scale sound
  rw [exec_paceWindow, execPaceWindow_sound ungated running counts scale sound]
  generalize paceMargin i count = m
  obtain ⟨mon, breaches, mem, truss, heads, flt⟩ := answerWindow_frame m (tellWindow m (measureWindow i m s))
  have source := answerWindow_intSrc (x := 448) (by decide) m (tellWindow m (measureWindow i m s))
  generalize answerWindow m (tellWindow m (measureWindow i m s)) = t at *
  have driven : t.driveErrn.mon i = (measureWindow i m s).mon i := by
    rw [State.driveErrn_mon, mon, tellWindow_mon]
  have drivenSource : t.driveErrn.intSrc 448 = (tellWindow m (measureWindow i m s)).intSrc 448 := by
    rw [← source]
    simp only [State.intSrc, State.driveErrn_frame]
  refine ⟨_, rfl, ?_⟩
  rw [driven, measureWindow_mon]
  refine ⟨rfl, rfl, rfl, sound, rfl, ?_⟩
  simp only [State.driveErrn_frame, breaches, mem, truss, heads, flt]
  rw [tellWindow_eq]
  refine ⟨rfl, fun below => ?_, rfl, rfl, rfl, rfl⟩
  exact pended_congr rfl drivenSource (tellWindow_pended below (measureWindow i m s))

/-- Settles O13: each event's condition picks its branch. -/
theorem reducedPaceIsEnteredAndLeft : Obligations.ReducedPaceIsEnteredAndLeft := by
  refine fun s => ⟨fun holds fresh => ?_, fun i runs healthy long => ?_, fun awaits since => ?_⟩
  · rw [exec_paceEscalate, execPaceEscalate, if_pos (by simp [holds, fresh])]
    rfl
  · rw [exec_paceReducedFloorBreach, execPaceReducedFloorBreach, if_pos (by simp [runs, healthy, long])]
    rfl
  · exact if_pos (by simp [awaits, since])

/-- Settles O14: sending a target leaves the target last set, so what the loop's step made of it stands; each poll takes its branch; and the
reports of a regulator error leave its count and the end of a settling. -/
theorem theLoopMovesTheVoltage : Obligations.TheLoopMovesTheVoltage := by
  refine ⟨⟨fun tj s l running ungated lowest closed held => ?_, fun s => ⟨fun closed running => ?_, fun running => ?_, fun opened => ?_,
    fun running => ?_⟩⟩, fun value s t bus wanted queue held => ⟨fun cmd => ?_, ?_⟩, fun s settling => ?_⟩
  · obtain ⟨cfg, minMargin, minMon, volts, raises, openLoop, mem, truss, flt⟩ := loopPeriodEnded_frame tj l s
    obtain ⟨cfg', mons', minMargin', minMon', loopAt', mem', truss', flt'⟩ := answerPeriod_frame l.1 (loopPeriodEnded tj l s)
    obtain ⟨volts', raises'⟩ := answerPeriod_volts l.1 (loopPeriodEnded tj l s)
    rw [exec_avsLoopPeriod, execAvsLoopPeriod_running running ungated lowest held]
    refine ⟨_, rfl, ?_⟩
    simp only [State.driveErrn_mon, State.driveErrn_volts, State.driveErrn_frame]
    refine ⟨cfg'.trans cfg, fun i _ => (congrArg PaceMon.low (mons' i)).trans (loopPeriodEnded_low tj l s i), minMargin'.trans minMargin,
      minMon'.trans minMon, loopAt'.trans (loopPeriodEnded_loopAt tj l s), fun below => ?_, fun lo hi => ?_, mem'.trans mem,
      truss'.trans truss, flt'.trans flt⟩
    · obtain ⟨rises, counts⟩ := loopStep_low (s := loopPeriodEnded tj l s) (cfg ▸ below) (openLoop.trans closed)
      rw [volts', raises', rises, counts, volts, raises, cfg]
      exact ⟨rfl, rfl⟩
    · rw [volts', raises', loopStep_between (cfg ▸ lo) (cfg ▸ hi)]
      exact ⟨volts, raises⟩
  · rw [exec_readVoutPoll, execReadVoutPoll, if_neg (by simp [closed, running])]
    rfl
  · rw [exec_readIoutPoll, execReadIoutPoll, if_neg (by simp [running])]
    rfl
  · rw [exec_openLoopRetry, execOpenLoopRetry, if_pos opened]
    rfl
  · rw [exec_pmAlert, execPmAlert, if_neg (by simp [running])]
    rfl
  · rw [exec_pmbusTransactionDone, execPmbusTransactionDone_vout bus wanted queue held cmd, voutRead_unheld (s := s.busFreed) held]
    refine ⟨_, rfl, ?_⟩
    simp only [State.driveErrn_frame]
    refine ⟨rfl, rfl, ?_, fun high low => ?_, rfl, rfl, rfl⟩
    · show (s.pace.openLoop && !(s.pace.openLoop && s.pace.modeOk)) = _
      cases s.pace.openLoop <;> rfl
    · have near : s.busFreed.voutNear value.toNat = true := State.voutNear_of high low
      simp only [State.modPace_pace, near, if_true, and_self]
  · rw [exec_pmbusTransactionDone, execPmbusTransactionDone_error bus]
    have erred := (regulatorError_erred (some t) s.busFreed).pumpBus
    refine ⟨_, rfl, ?_⟩
    simp only [State.driveErrn_frame]
    exact ⟨erred.errors, erred.mem⟩
  · have erred := (regulatorError_erred (some { cmd := 0x21, data := (settleEnded s).pace.target }) (settleEnded s)).pumpBus
    obtain ⟨pace, mem⟩ := settleEnded_frame s
    have settled := erred.settled (by rw [pace])
    have errors := erred.errors.trans (by rw [pace])
    rw [exec_regulatorSettleTimeout, execRegulatorSettleTimeout_settling settling]
    refine ⟨_, rfl, ?_⟩
    simp only [State.driveErrn_frame]
    exact ⟨settled, errors, (settleEnded_aon s).trans_eq erred.aon.symm, erred.mem.trans mem⟩

/-- Settles O15: each command passes its own checks; the choice of variants that forced reduced pace asks for keeps the sessions. -/
theorem paceCommandsAnswer : Obligations.PaceCommandsAnswer := by
  refine fun c s => ⟨fun ready => ?_, fun _ _ _ => execPaceSetBand_ok, fun _ _ _ _ _ => execPaceSetLimits_ok, fun ready => ?_,
    fun ready => ?_, execPaceForceReduced_leave⟩
  · exact ⟨paceQueryBytes s, paceQueryBytes_length s, execPaceQuery_ok ready⟩
  · refine ⟨paceCleared s, execPaceClear_ok ready, fun i hi => ?_, ?_⟩
    · rw [paceCleared_mon]
      exact ⟨forgetWorst_worst hi _, forgetWorst_margin i _⟩
    · simp only [paceCleared, State.modPace_pace, State.modPace_mem, State.modPace_truss, State.modPace_flt, and_self]
  · obtain ⟨-, heads, mem⟩ := chooseVariants_frame (s.modPace fun p => { p with forced := true })
    exact ⟨reducedForced s, execPaceForceReduced_enter ready, reducedForced_forced s, mem, heads⟩

end

section
/-! SUPPORT. The spread window of CXL memory (R97). -/

namespace Sys2Proof.Machine

theorem spread_port (y : Nat) : (y >>> 8) &&& 3 = y / 256 % 4 := by
  rw [Nat.shiftRight_eq_div_pow]
  exact Nat.and_two_pow_sub_one_eq_mod _ 2

theorem spread_offset (y : Nat) : ((y >>> 10) <<< 8) ||| (y &&& 0xff) = y / 1024 * 256 + y % 256 := by
  rw [show y &&& 0xff = y % 256 from Nat.and_two_pow_sub_one_eq_mod y 8, Nat.shiftRight_eq_div_pow,
    ← Nat.shiftLeft_add_eq_or_of_lt (Nat.mod_lt y (by decide)), Nat.shiftLeft_eq]

theorem State.memDecode_spread {s : State} {y : Nat} (inside : y < 4 * (s.mem.spread * gib)) (size : s.mem.spread ≤ 512) :
    s.memDecode (0x40000000000 + y) =
      some (y / 256 % 4, (s.port (y / 256 % 4)).gib * gib - s.mem.spread * gib + (y / 1024 * 256 + y % 256)) := by
  have window : 0x40000000000 + y < 0x60000000000 := by
    unfold gib at inside
    omega
  rw [memDecode, if_neg (by omega), if_pos ⟨by omega, window⟩, Nat.add_sub_cancel_left]
  exact if_pos inside

theorem State.memPort_spread {s : State} {y : Nat} (inside : y < 4 * (s.mem.spread * gib)) (size : s.mem.spread ≤ 512) :
    s.memPort (0x40000000000 + y) = y / 256 % 4 := by
  rw [memPort, memDecode_spread inside size]

end Sys2Proof.Machine
end

section
/-! SUPPORT. Accesses of the memory, and the writes of BAR4 that land (R106, R112–R114). -/

namespace Sys2Proof.Machine

/-- The state with everything erased that a write to memory may move: the bytes, their poison and the counters. -/
def State.sansBytes (s : State) : State := { s with mem := { s.mem with bytes := [], poison := [] }, pmu := {} }

@[simp] theorem State.bwAdd_sansBytes (n cls bytes : Nat) (s : State) : (s.bwAdd n cls bytes).sansBytes = s.sansBytes :=
  ite_keeps State.sansBytes rfl rfl

@[simp] theorem State.traffic_sansBytes (p : Nat) (w : Bool) (who : Who) (l : List Nat) (s : State) :
    (s.traffic p w who l).sansBytes = s.sansBytes :=
  ite_keeps State.sansBytes rfl (bwAdd_sansBytes ..)

@[simp] theorem State.memPuts_sansBytes (bs : List Byte) (a : Nat) (s : State) : (s.memPuts a bs).sansBytes = s.sansBytes := by
  induction bs generalizing a s with
  | nil => rfl
  | cons b bs ih => exact (ih ..).trans (ite_keeps State.sansBytes rfl rfl)

/-- R118: a write's lines, counted port by port. -/
def State.countWrite (a n : Nat) (w : Who) (s : State) : State :=
  (List.range 4).foldl (fun (s : State) m =>
    let k := s.linesOn m a n
    if k = 0 then s
    else if s.portServes m then (s.countN (128 + 16 * m + 2) k).traffic m true w (s.portLines m a n)
    else s.count (128 + 16 * m + 14)) s

theorem State.countWrite_sansBytes (a n : Nat) (w : Who) (s : State) : (s.countWrite a n w).sansBytes = s.sansBytes := by
  refine foldl_keeps State.sansBytes (fun t m => ?_) ..
  exact ite_keeps State.sansBytes rfl (ite_keeps State.sansBytes (traffic_sansBytes ..) rfl)

theorem State.memStore_eq (a : Nat) (bs : List Byte) (w : Who) (s : State) :
    s.memStore a bs w = if (s.memDecode a).isNone then s else ((s.countWrite a bs.length w).memHeal a bs.length).memPuts a bs := rfl

/-- A write moves the bytes, their poison and the counters alone. -/
@[simp] theorem State.memStore_sansBytes (a : Nat) (bs : List Byte) (w : Who) (s : State) : (s.memStore a bs w).sansBytes = s.sansBytes := by
  rw [memStore_eq]
  exact ite_keeps State.sansBytes rfl ((memPuts_sansBytes ..).trans (countWrite_sansBytes ..))

/-- Which addresses a port serves is a matter neither of the bytes nor of the counters. -/
theorem State.memUp_of_sansBytes {s t : State} (h : t.sansBytes = s.sansBytes) (a : Nat) : t.memUp a = s.memUp a :=
  (congrArg (·.memUp a) h :)

theorem State.memHeal_memUp (a n : Nat) (s : State) (j : Nat) : (s.memHeal a n).memUp j = s.memUp j := rfl

/-- A byte put on a port that serves it stands where it was put, whatever became of the others. -/
theorem State.memPuts_served {bs : List Byte} {a k : Nat} {s : State} (hk : k < bs.length) (served : s.memUp (a + k) = true) :
    tabGet (s.memPuts a bs).mem.bytes (a + k) = bs[k] := by
  induction bs generalizing a k s with
  | nil => exact absurd hk (Nat.not_lt_zero k)
  | cons b bs ih =>
    unfold memPuts
    cases k with
    | zero =>
      have here : s.memUp a = true := served
      rw [if_pos here]
      exact (memPuts_outside (.inl (Nat.lt_add_one a))).trans ((memPut_bytes ..).trans (if_pos rfl))
    | succ k =>
      have next : a + (k + 1) = a + 1 + k := by omega
      rw [next] at served ⊢
      have kept : (if s.memUp a then s.memPut a b else s).memUp (a + 1 + k) = true :=
        (ite_keeps (State.memUp · (a + 1 + k)) (memPut_memUp ..) rfl).trans served
      exact ih (Nat.lt_of_succ_lt_succ hk) kept

/-- R106, R112: each byte of a write whose port serves it is stored. -/
theorem State.memStore_served {a k : Nat} {bs : List Byte} {w : Who} {s : State} (mapped : (s.memDecode a).isSome = true) (hk : k < bs.length)
    (served : s.memUp (a + k) = true) : tabGet (s.memStore a bs w).mem.bytes (a + k) = bs[k] := by
  rw [memStore_eq, if_neg (by simp [Option.isSome_iff_ne_none.mp mapped])]
  refine memPuts_served hk ?_
  rw [memHeal_memUp, memUp_of_sansBytes (countWrite_sansBytes ..), served]

theorem State.memStore_outside {a j : Nat} {bs : List Byte} {w : Who} {s : State} (h : j < a ∨ a + bs.length ≤ j) :
    tabGet (s.memStore a bs w).mem.bytes j = tabGet s.mem.bytes j := by
  rw [memStore_eq]
  refine ite_keeps (fun t : State => tabGet t.mem.bytes j) rfl ?_
  rw [memPuts_outside h, memHeal_bytes, countWrite, countWrite_mem]

/-! ### Reads -/

@[simp] theorem poisonSeen_mem (m : Nat) (s : State) : (poisonSeen m s).mem = s.mem := by
  simp only [poisonSeen, State.pend_frame, State.count_frame]

theorem State.memFetch_mem (a n : Nat) (w : Who) (s : State) : (s.memFetch a n w).2.mem = s.mem := by
  refine ite_keeps (fun r : Option (List Byte) × State => r.2.mem) rfl ?_
  refine (foldl_mem (fun _ _ => poisonSeen_mem ..) ..).trans (foldl_mem (fun t m => ?_) ..)
  exact ite_keeps State.mem ((traffic_mem ..).trans rfl) rfl

theorem State.fault_mem (x : Nat) (detail : Word) (s : State) : (s.fault x detail).mem = s.mem := (congrArg State.mem (fault_lasting x detail s) :)

/-- A read leaves memory as it is. -/
theorem State.memLoad_mem (x a n : Nat) (w : Who) (s : State) : (s.memLoad x a n w).2.mem = s.mem := by
  have fetched := s.memFetch_mem a n w
  exact ite_keeps (fun r : Option (List Byte) × State => r.2.mem) fetched ((fault_mem ..).trans fetched)

/-! ### BAR4 -/

/-- What has been sent stays sent when ERR_N is driven. -/
theorem State.sent_driveErrn {o : Out} {s : State} (h : o ∈ s.out) : o ∈ s.driveErrn.out := by
  unfold driveErrn
  split
  · exact h
  · exact List.mem_cons_of_mem _ h

theorem State.driveErrn_fn (s : State) (f : Nat) : s.driveErrn.fn f = s.fn f := by simp only [fn, driveErrn_frame]

theorem State.count_fn (e : Nat) (s : State) (f : Nat) : (s.count e).fn f = s.fn f := by simp only [fn, count_frame]

/-- R112: nothing of a function's BAR4 writes is on its way, or waits for them. -/
def FnSt.landed (x : FnSt) : FnSt := { x with inFlight := [], heldArms := [], heldBells := [] }

/-- R112: with no arm and no doorbell that waits, the function's writes are stored. -/
theorem landWrites_unheld {f : Nat} {s : State} (arms : (s.fn f).heldArms = []) (bells : (s.fn f).heldBells = []) :
    landWrites f s = (s.fn f).inFlight.foldl (fun (s : State) w => s.memStore w.1 w.2 (barWho f)) (s.modFn f FnSt.landed) := by
  rw [landWrites, arms, bells]
  rfl

/-- R114: which address an offset maps to is a matter of the function's segments alone. -/
theorem State.barAddress_congr {f : Nat} {s t : State} (h : (t.fn f).segs = (s.fn f).segs) (offset : Nat) :
    t.barAddress f offset = s.barAddress f offset := by
  rw [barAddress, h, barAddress]

/-- R118: a BAR4 write, counted for the host link and for its port. -/
def countBar4Write (a : Nat) (s : State) : State :=
  let s := s.count 202
  if s.memPort a < 4 then s.count (128 + 16 * s.memPort a + 9) else s

/-- Counting moves the counters alone. -/
theorem countBar4Write_eq (a : Nat) (s : State) : countBar4Write a s = { s with pmu := (countBar4Write a s).pmu } := by
  unfold countBar4Write
  dsimp only
  split <;> rfl

/-- R112: a write that has been issued is on its way, behind the function's earlier ones. -/
def bar4Issued (f a : Nat) (bytes : List Byte) (s : State) : State :=
  (countBar4Write a s).modFn f fun x => { x with inFlight := x.inFlight ++ [(a, bytes)] }

theorem execBar4Write_mapped {fn : Fin 16} {offset : BitVec 38} {bytes : List Byte} {lands : Bool} {s : State} {a : Nat}
    (opened : s.barOpen fn = true) (calm : s.flt.safe = false) (mapped : s.barAddress fn offset.toNat = some a) :
    execBar4Write fn offset bytes lands s =
      done (if lands then landWrites fn (bar4Issued fn a bytes s) else bar4Issued fn a bytes s) := by
  have address : (s.count 202).barAddress fn offset.toNat = some a := mapped
  have issues : (if (countBar4Write a s).flt.safe then countBar4Write a s else bar4Issued fn a bytes s) = bar4Issued fn a bytes s :=
    if_neg (by rw [countBar4Write_eq]; simp [calm])
  rw [execBar4Write, if_neg (by simp [opened])]
  dsimp only
  rw [address]
  exact congrArg (fun u => done (if lands then landWrites fn u else u)) issues

theorem execBar4Write_unmapped {fn : Fin 16} {offset : BitVec 38} {bytes : List Byte} {lands : Bool} {s : State}
    (opened : s.barOpen fn = true) (unmapped : s.barAddress fn offset.toNat = none) :
    execBar4Write fn offset bytes lands s = done (barMiss fn (s.count 202)) := by
  have address : (s.count 202).barAddress fn offset.toNat = none := unmapped
  rw [execBar4Write, if_neg (by simp [opened])]
  dsimp only
  rw [address]

theorem bar4Issued_fn (f a : Nat) (bytes : List Byte) (s : State) :
    (bar4Issued f a bytes s).fn f = { s.fn f with inFlight := (s.fn f).inFlight ++ [(a, bytes)] } := by
  rw [bar4Issued, countBar4Write_eq, State.modFn_fn, if_pos rfl]
  rfl

/-- An issue moves the counters and the host port's block alone. -/
theorem bar4Issued_eq (f a : Nat) (bytes : List Byte) (s : State) :
    bar4Issued f a bytes s = { s with pmu := (bar4Issued f a bytes s).pmu, host := (bar4Issued f a bytes s).host } := by
  rw [bar4Issued, countBar4Write_eq]
  rfl

/-- R112: what an issued write leaves when it lands, with none before it and nothing that waits for it. -/
theorem landWrites_issued {f a : Nat} {bytes : List Byte} {s : State} (flight : (s.fn f).inFlight = []) (arms : (s.fn f).heldArms = [])
    (bells : (s.fn f).heldBells = []) :
    ∃ p h, landWrites f (bar4Issued f a bytes s) = ({ s with pmu := p, host := h } : State).memStore a bytes (barWho f) := by
  have issued := bar4Issued_fn f a bytes s
  rw [flight] at issued
  rw [landWrites_unheld (by rw [issued]; exact arms) (by rw [issued]; exact bells), issued, bar4Issued_eq]
  exact ⟨_, _, rfl⟩

/-- R112: with nothing that waits, landing leaves the function no write on its way, and moves nothing but the bytes, their poison, the counters
and the writes of that function. -/
theorem landWrites_sansBytes {f : Nat} {s : State} (arms : (s.fn f).heldArms = []) (bells : (s.fn f).heldBells = []) :
    (landWrites f s).sansBytes = (s.modFn f FnSt.landed).sansBytes := by
  rw [landWrites_unheld arms bells]
  exact foldl_keeps State.sansBytes (fun _ _ => State.memStore_sansBytes ..) ..

/-- R113: a read of a function without writes finds nothing to land. -/
theorem landWrites_idle {f : Nat} {s : State} (flight : (s.fn f).inFlight = []) (arms : (s.fn f).heldArms = [])
    (bells : (s.fn f).heldBells = []) : landWrites f s = s.modFn f FnSt.landed := by
  rw [landWrites_unheld arms bells, flight, List.foldl_nil]

/-- R113: what BAR4's segments map is the same once the writes have landed. -/
theorem landed_barAddress (f offset : Nat) (s : State) : ((s.count 201).modFn f FnSt.landed).barAddress f offset = s.barAddress f offset := by
  refine State.barAddress_congr ?_ _
  rw [State.modFn_fn, if_pos rfl]
  rfl

section
variable {fn : Fin 16} {offset : BitVec 38} {len : Nat} {s : State} (opened : s.barOpen fn = true) (flight : (s.fn fn).inFlight = [])
  (arms : (s.fn fn).heldArms = []) (bells : (s.fn fn).heldBells = [])
include opened flight arms bells

theorem execBar4Read_unmapped (unmapped : s.barAddress fn offset.toNat = none) :
    execBar4Read fn offset len s =
      done ((barMiss fn ((s.count 201).modFn fn FnSt.landed)).emit (.readData fn (256 ^ len - 1) false)) := by
  have idle : landWrites fn (s.count 201) = (s.count 201).modFn fn FnSt.landed := landWrites_idle flight arms bells
  rw [execBar4Read, if_neg (by simp [opened]), idle]
  dsimp only
  rw [landed_barAddress, unmapped]

/-- R113: a read through a mapped segment, with nothing to land, leaves memory as it is. -/
theorem execBar4Read_mapped {a : Nat} (mapped : s.barAddress fn offset.toNat = some a) :
    ∃ t, execBar4Read fn offset len s = done t ∧ t.mem = s.mem := by
  have idle : landWrites fn (s.count 201) = (s.count 201).modFn fn FnSt.landed := landWrites_idle flight arms bells
  rw [execBar4Read, if_neg (by simp [opened]), idle]
  dsimp only
  rw [landed_barAddress, mapped]
  dsimp only
  generalize hu : (s.count 201).modFn fn FnSt.landed = u
  have there : u.mem = s.mem := by
    rw [← hu]
    rfl
  generalize hv : (if u.memPort a < 4 then u.count (128 + 16 * u.memPort a + 8) else u) = v
  have counted : v.mem = u.mem := by
    rw [← hv]
    exact ite_keeps State.mem rfl rfl
  have loaded := v.memLoad_mem 156 a len (barWho fn)
  generalize v.memLoad 156 a len (barWho fn) = r at loaded ⊢
  obtain ⟨_ | bs, w⟩ := r
  · exact ⟨_, rfl, loaded.trans (counted.trans there)⟩
  · exact ⟨_, rfl, loaded.trans (counted.trans there)⟩

end

end Sys2Proof.Machine
end

section
/-! SUPPORT. What an event record, over PCIe or UDP, can move: the host port's block, the network ports, the counters and what has been sent. -/

namespace Sys2Proof.Machine

/-- The state with everything erased that an event record may move. -/
def State.sansSent (s : State) : State := { s with host := {}, net := {}, pmu := {}, out := [] }

/-! ### Frames -/

theorem State.enqueue_sansSent (p q : Nat) (f : QFrame) (s : State) : (s.enqueue p q f).sansSent = s.sansSent :=
  ite_keeps State.sansSent rfl rfl

theorem State.manage_sansSent (p : Nat) (what : String) (fields : List Nat) (s : State) :
    (s.manage p what fields).sansSent = s.sansSent := ite_keeps State.sansSent (enqueue_sansSent ..) rfl

theorem State.keepNeighbour_sansSent (p addr : Nat) (n : Neighbour) (s : State) :
    (s.keepNeighbour p addr n).sansSent = s.sansSent := by
  unfold keepNeighbour
  dsimp only
  split
  · rfl
  · rfl

theorem State.sendIp_sansSent (p q addr : Nat) (f : QFrame) (s : State) : (s.sendIp p q addr f).sansSent = s.sansSent := by
  refine ite_keeps State.sansSent rfl (ite_keeps State.sansSent (enqueue_sansSent ..) (ite_keeps State.sansSent rfl ?_))
  exact (manage_sansSent ..).trans (keepNeighbour_sansSent ..)

theorem udpSend_sansSent (k kind : Nat) (secret : Bool) (body : List Byte) (s : State) : (udpSend k kind secret body s).sansSent = s.sansSent :=
  State.sendIp_sansSent ..

/-! ### Records -/

theorem State.emit_sansSent (o : Out) (s : State) : (s.emit o).sansSent = s.sansSent := rfl
theorem State.count_sansSent (e : Nat) (s : State) : (s.count e).sansSent = s.sansSent := rfl
theorem State.setRing_sansSent (f n : Nat) (r : EvtRing) (s : State) : (s.setRing f n r).sansSent = s.sansSent := rfl

theorem State.modHost_sansSent (f : HostSt → HostSt) (s : State) : (s.modHost f).sansSent = s.sansSent := rfl
theorem State.modUdp_sansSent (k : Nat) (f : UdpSess → UdpSess) (s : State) : (s.modUdp k f).sansSent = s.sansSent := rfl

theorem State.signal_sansSent (f n : Nat) (s : State) : (s.signal f n).sansSent = s.sansSent := by
  unfold signal
  dsimp only
  split
  · rw [modHost_sansSent, setRing_sansSent]
  · rw [count_sansSent, emit_sansSent, setRing_sansSent]

theorem State.putRecord_sansSent (f n t : Nat) (subject : Half) (payload : List Byte) (s : State) :
    (s.putRecord f n t subject payload).sansSent = s.sansSent := by
  refine (ite_keeps State.sansSent (signal_sansSent ..) rfl).trans ?_
  simp only [emit_sansSent, count_sansSent, setRing_sansSent]

theorem State.ringRecord_sansSent (f t : Nat) (subject : Half) (payload : List Byte) (s : State) :
    (s.ringRecord f t subject payload).sansSent = s.sansSent := by
  unfold ringRecord
  split
  · rfl
  · exact ite_keeps State.sansSent (ite_keeps State.sansSent rfl rfl) (putRecord_sansSent ..)

theorem State.udpRecord_sansSent (k t : Nat) (subject : Half) (payload : List Byte) (s : State) :
    (s.udpRecord k t subject payload).sansSent = s.sansSent :=
  ite_keeps State.sansSent (ite_keeps State.sansSent (modUdp_sansSent ..) ((udpSend_sansSent ..).trans (modUdp_sansSent ..))) rfl

theorem State.payStale_sansSent (f : Nat) (s : State) : (s.payStale f).sansSent = s.sansSent :=
  ite_keeps State.sansSent (ringRecord_sansSent ..) rfl

theorem State.payOwed_sansSent (s : State) : s.payOwed.sansSent = s.sansSent := by
  have surprise : ∀ c : Prop, ∀ _ : Decidable c, ∀ subject payload, ∀ f : HostSt → HostSt,
      (if c then s else (s.ringRecord 0 0x0A subject payload).modHost f).sansSent = s.sansSent :=
    fun _ _ _ _ _ => ite_keeps State.sansSent rfl (ringRecord_sansSent ..)
  refine ite_keeps State.sansSent rfl (ite_keeps State.sansSent ?_ (surprise ..))
  exact (ringRecord_sansSent ..).trans (surprise ..)

theorem State.hostRecord_sansSent (f t : Nat) (subject : Half) (payload : List Byte) (s : State) :
    (s.hostRecord f t subject payload).sansSent = s.sansSent := by
  refine ite_keeps State.sansSent (ite_keeps State.sansSent rfl rfl) (ite_keeps State.sansSent rfl ?_)
  refine (ringRecord_sansSent ..).trans ((payStale_sansSent ..).trans ?_)
  exact ite_keeps State.sansSent (payOwed_sansSent s) rfl

theorem State.recordTo_sansSent (p : Nat → Bool) (t : Nat) (subject : Half) (payload : List Byte) (s : State) :
    (s.recordTo p t subject payload).sansSent = s.sansSent := by
  refine foldl_keeps State.sansSent (fun u f => ?_) ..
  have sessions := foldl_keeps State.sansSent
    (f := fun (u : State) k => if (tabGet u.host.udp k).role == f then u.udpRecord k t subject payload else u)
    fun _ _ => ite_keeps State.sansSent (udpRecord_sansSent ..) rfl
  exact (sessions ..).trans (hostRecord_sansSent ..)

theorem State.linkRecord_frame (kind index state rate width : Nat) (s : State) :
    (s.linkRecord kind index state rate width).mem = s.mem ∧ (s.linkRecord kind index state rate width).pins = s.pins ∧
    (s.linkRecord kind index state rate width).heads = s.heads := by
  have h : (s.linkRecord kind index state rate width).sansSent = s.sansSent := recordTo_sansSent ..
  generalize s.linkRecord kind index state rate width = t at h ⊢
  exact ⟨(congrArg State.mem h :), (congrArg State.pins h :), (congrArg State.heads h :)⟩

end Sys2Proof.Machine
end

section
/-! SUPPORT. The CXL ports as they train, are initialised and are removed (R95, R101, R107, R108). -/

namespace Sys2Proof.Machine

/-- The state with the store slots' block erased. -/
def State.sansTruss (s : State) : State := { s with truss := {} }

/-- R185: what an admission under way counts stands in its store slot alone. -/
theorem stirAdmission_sansTruss (s : State) : (stirAdmission s).sansTruss = s.sansTruss := by
  refine foldl_keeps State.sansTruss (fun t k => ?_) ..
  rfl

theorem stirAdmission_frame (s : State) :
    (stirAdmission s).mem = s.mem ∧ (stirAdmission s).pins = s.pins ∧ (stirAdmission s).heads = s.heads ∧
    (stirAdmission s).flt = s.flt ∧ (stirAdmission s).seq = s.seq := by
  have h := stirAdmission_sansTruss s
  exact ⟨(congrArg State.mem h :), (congrArg State.pins h :), (congrArg State.heads h :), (congrArg State.flt h :), (congrArg State.seq h :)⟩

theorem State.port_of_mem {s t : State} (h : t.mem = s.mem) (k : Nat) : t.port k = s.port k := by rw [port, h, port]

theorem State.driveErrn_port (s : State) (k : Nat) : s.driveErrn.port k = s.port k := by simp only [port, driveErrn_frame]

/-- R101, R107, R131: a change of port `m`, which was `p`, stirs an admission under way, is recorded and pends the port's source. -/
def tellPort (m state : Nat) (p : CxlPort) (s : State) : State :=
  ((stirAdmission s).linkRecord 1 m state (b2n p.fast) p.width).pend (479 + m)

theorem tellPort_frame (m state : Nat) (p : CxlPort) (s : State) :
    (tellPort m state p s).mem = s.mem ∧ (tellPort m state p s).pins = s.pins ∧ (tellPort m state p s).heads = s.heads := by
  simp only [tellPort, State.pend_frame, State.linkRecord_frame, stirAdmission_frame, and_self]

/-! ### Training -/

/-- R95, R108: a port whose link has trained well begins to be initialised; its content counts as lost. -/
def CxlPort.trained (x : CxlIn) (back : Bool) (p : CxlPort) : CxlPort :=
  { p with state := .initialising, fast := decide (64 ≤ x.gts), width := if 8 ≤ x.width then 8 else 4, deviceGib := x.gib,
           gib := min 512 x.gib, latency := x.latency, boundary := 0, viral := false, second := false, awaitTruss := p.awaitTruss || back,
           foreLost := true }

section
variable {m : Fin 4} {x : CxlIn} {s : State} (running : s.boot.phase = .running) (trains : s.portTrains m = true) (up : x.up = true)
include running trains up

theorem execCxlLinkTrained_slow (slow : x.gts < 32 ∨ x.width < 4) :
    execCxlLinkTrained m x s = done ((stirAdmission (s.modPort m fun p => { p with state := .absent })).fault (52 + m) 1) := by
  rw [execCxlLinkTrained, if_neg (by simp [running, trains, up]), if_pos slow]

theorem execCxlLinkTrained_unsupported (gts : 32 ≤ x.gts) (width : 4 ≤ x.width) (odd : x.supported = false) :
    execCxlLinkTrained m x s = done (stirAdmission (s.modPort m fun p => { p with state := .absent })) := by
  rw [execCxlLinkTrained, if_neg (by simp [running, trains, up]), if_neg (by omega), if_pos (by simp [odd])]

theorem execCxlLinkTrained_fast (gts : 32 ≤ x.gts) (width : 4 ≤ x.width) (fits : x.supported = true) :
    ∃ back, execCxlLinkTrained m x s = done (stirAdmission (s.modPort m (CxlPort.trained x back))) := by
  rw [execCxlLinkTrained, if_neg (by simp [running, trains, up]), if_neg (by omega), if_neg (by simp [fits])]
  exact ⟨_, rfl⟩

end

/-! ### The end of the initialisation -/

theorem State.port_of_sansBytes {s t : State} (h : t.sansBytes = s.sansBytes) (k : Nat) : t.port k = s.port k := (congrArg (State.port · k) h :)

/-- A write by the GM8's own engines moves the bytes, their poison and the counters alone. -/
theorem State.memWrite_sansBytes (a : Nat) (bs : List Byte) (w : Who) (s : State) : (s.memWrite a bs w).sansBytes = s.sansBytes :=
  ite_keeps State.sansBytes rfl (memStore_sansBytes ..)

theorem takeSwitch_mem (f k : Nat) (plan : List (Nat × Nat × Nat × Nat × Nat)) (s : State) : (takeSwitch f k plan s).mem = s.mem := by
  refine foldl_mem (fun t x => ?_) plan s
  rfl

theorem recopyAssets_port (m k : Nat) (s : State) : (recopyAssets m s).port k = s.port k := by
  refine State.port_of_sansBytes (foldl_keeps State.sansBytes (fun t e => ?_) ..) k
  exact ite_keeps State.sansBytes rfl (State.memWrite_sansBytes ..)

theorem rearmStanding_port (m k : Nat) (s : State) : (rearmStanding m s).port k = s.port k := by
  refine ite_keeps (State.port · k) rfl ?_
  split
  · exact (State.port_of_mem (takeSwitch_mem ..) k).trans (recopyAssets_port m k s)
  · rfl

/-- R108: the restoration of the standing truss to a port leaves the ports as they are. -/
theorem rearmPorts_port (k : Nat) (s : State) : (rearmPorts s).port k = s.port k :=
  foldl_keeps (State.port · k) (fun t m => rearmStanding_port m k t) ..

theorem State.modFltSrc_port (x : Nat) (f : FltSrc → FltSrc) (s : State) (k : Nat) : (s.modFltSrc x f).port k = s.port k := rfl

/-- R46, R108: a port that has been initialised to its end. -/
def CxlPort.finished (p : CxlPort) : CxlPort := { p with state := .up, boundary := p.gib * Machine.gib, countReturn := false }

/-- R46, R108: port `m` is initialised to its end, which is counted; so is its return, where that counts. -/
def finishReturn (m : Nat) (s : State) : State :=
  let p := s.port m
  let s := (s.countInit m p.boundary (p.gib * gib)).modPort m CxlPort.finished
  if p.countReturn then s.modFltSrc (52 + m) fun c => { c with recoveredAt := s.now :: c.recoveredAt } else s

theorem finishReturn_port (m : Nat) (s : State) : (finishReturn m s).port m = (s.port m).finished := by
  have finished : ((s.countInit m (s.port m).boundary ((s.port m).gib * gib)).modPort m CxlPort.finished).port m = (s.port m).finished := by
    rw [State.modPort_port, if_pos rfl, State.countInit_port]
  unfold finishReturn
  dsimp only
  split
  · rw [State.modFltSrc_port, finished]
  · exact finished

theorem execCxlPortInitDone_initialising {m : Fin 4} {s : State} (h : (s.port m).state = .initialising) :
    execCxlPortInitDone m s = done (rearmPorts (tellPort m 1 (s.port m) (finishReturn m s))) := by
  rw [execCxlPortInitDone]
  dsimp only
  rw [if_neg (not_not_intro h), finishReturn, tellPort]
  rfl

/-! ### The end of a removal -/

/-- A bit that is put is that bit, and every other stays. -/
theorem putBit_getLsbD {w : Nat} (x : BitVec w) (i : Nat) (b : Bool) {j : Nat} (hj : j < w) :
    (putBit x i b).getLsbD j = if j = i then b else x.getLsbD j := by
  have one : (BitVec.ofNat w (2 ^ i)).getLsbD j = decide (j = i) := by
    rw [BitVec.getLsbD_ofNat, Nat.testBit_two_pow, decide_eq_true hj, Bool.true_and]
    exact decide_eq_decide.mpr eq_comm
  cases b
  · rw [putBit, if_neg Bool.false_ne_true, BitVec.getLsbD_and, BitVec.getLsbD_not, one]
    by_cases same : j = i
    · simp [same]
    · simp [same, hj]
  · rw [putBit, if_pos rfl, BitVec.getLsbD_or, one]
    by_cases same : j = i
    · simp [same]
    · simp [same]

theorem State.driveErrn_cxlPerstN (s : State) : s.driveErrn.pins.cxlPerstN = s.pins.cxlPerstN := ite_keeps (fun t : State => t.pins.cxlPerstN) rfl rfl

/-- R107: a port that has been removed. -/
def CxlPort.removed (p : CxlPort) : CxlPort :=
  { p with state := .outOfService, removing := false, boundary := 0, foreLost := true, countReturn := p.state == .up }

/-- R107: port `m` is removed: its content is forgotten, and its pins fall. -/
def removePort (m : Nat) (s : State) : State :=
  ((s.memForget m).modPort m CxlPort.removed).modPins fun q =>
    { q with cxlPerstN := putBit q.cxlPerstN m false, cxlRefclk := putBit q.cxlRefclk m false }

theorem removePort_port (m : Nat) (s : State) : (removePort m s).port m = (s.port m).removed :=
  (State.modPort_port m CxlPort.removed m (s.memForget m)).trans (if_pos rfl)

theorem execCxlOfflineComplete_quiet {m : Fin 4} {s : State} (removing : (s.port m).removing = true) (quiet : s.portQuiet m = true) :
    execCxlOfflineComplete m s = done (tellPort m 3 (s.port m) (removePort m s)) := by
  rw [execCxlOfflineComplete]
  exact if_neg (by simp [removing, quiet])

end Sys2Proof.Machine
end

section
/-! SUPPORT. What the memory commands answer once their parameters are in range (R98, R107, R108, R111, R114, R119). -/

namespace Sys2Proof.Machine

/-! ### Sessions, and what the background initialisation keeps -/

/-- A ready command that its own part refuses, after a step that leaves the sessions, ends with the refusal. -/
theorem kcp_no_of_sessions {id : Nat} {c : KcpCtx} {body : Nat → State → Reply} {s t : State} {st : Status} {d : Nat}
    (ready : kcpReady id 0 c s = true) (hid : id ≠ 0) (hb : body (s.kcpFn c) s = refuse st d t) (host : t.host = s.host) :
    kcp id c body s = .next (kcpNo id c t st d) := by
  have session : t.kcpSession c = s.kcpSession c := kcpSession_congr (congrArg HostSt.mbx host) (.inr (congrArg HostSt.udp host))
  have there : kcpSessionGone id c t = false := kcpSessionGone_of (session ▸ kcpReady_session ready)
  simp [kcp, kcpRun, kcpBegin_ready ready hid, hb, there, kcpNo, done, State.kcpVersion, session]

/-- R46: as the background initialisation goes on, the host port's block stays as it is. -/
theorem State.bgAdvance_host (s : State) : s.bgAdvance.host = s.host := by
  by_cases running : s.boot.phase = .running
  · have h := bgAdvance_sansInit running
    generalize s.bgAdvance = t at h ⊢
    exact (congrArg State.host h :)
  · rw [bgAdvance, if_pos running]

/-! ### MEM_QUERY and MEM_SET_INTERLEAVE -/

/-- R119: what MEM_QUERY returns of a port. -/
def memQueryBytes (m : Nat) (s : State) : List Byte :=
  let p := s.port m
  [BitVec.ofNat 8 p.state.code, BitVec.ofNat 8 (b2n p.fast), BitVec.ofNat 8 p.width, 0] ++ leBytes 2 p.gib ++
    leBytes 2 p.deviceGib ++ leBytes 4 p.latency ++ leBytes 8 p.boundary ++ leBytes 2 s.mem.spread ++ leBytes 2 p.recoveries.toNat

theorem memQueryBytes_length (m : Nat) (s : State) : (memQueryBytes m s).length = 24 := by
  simp only [memQueryBytes, List.length_append, length_leBytes, List.length_cons, List.length_nil]

theorem memQueryBytes_state (m : Nat) (s : State) : (memQueryBytes m s).take 1 = [BitVec.ofNat 8 (s.port m).state.code] := rfl

section
variable {c : KcpCtx} {s : State}

theorem execMemQuery_ok {port : Byte} (ready : kcpReady 0x0280 0 c s = true) (hm : port.toNat < 4) :
    execMemQuery c port s = .next (kcpOk 0x0280 c s s.bgAdvance (memQueryBytes port.toNat s.bgAdvance)) :=
  kcp_ok_of_sessions ready (by decide) (if_neg (by omega)) (congrArg HostSt.mbx s.bgAdvance_host) (.inr (congrArg HostSt.udp s.bgAdvance_host))

theorem execMemSetInterleave_ok {size : Half} (ready : kcpReady 0x0281 0 c s = true) (high : size.toNat ≤ 512)
    (ports : ∀ m < 4, (s.port m).state ≠ .absent ∧ size.toNat ≤ (s.port m).gib) :
    execMemSetInterleave c size s = .next (kcpOk 0x0281 c s (s.modBootMram fun b => { b with spread := size.toNat }) []) := by
  have small : ¬ (((List.range 4).map s.port).any fun p => p.state != .absent && decide (p.gib < size.toNat)) = true := by
    simp only [List.any_map, List.any_eq_true, List.mem_range, Function.comp_apply, Bool.and_eq_true, decide_eq_true_eq, not_exists, not_and]
    exact fun m hm _ => Nat.not_lt.mpr (ports m hm).2
  have present : ¬ (((List.range 4).map s.port).any fun p => p.state == .absent) = true := by
    simp only [List.any_map, List.any_eq_true, List.mem_range, Function.comp_apply, beq_iff_eq, not_exists, not_and]
    exact fun m hm => (ports m hm).1
  refine kcp_ok_of_sessions ready (by decide) ?_ rfl (.inr rfl)
  dsimp only
  rw [if_neg (Nat.not_lt.mpr high), if_neg small, if_neg (not_and_of_not_right _ present)]

/-! ### MEM_MAP_APERTURE -/

/-- R114: segment `segment` of a function's BAR4 takes the value `v`: 0 unmapped, else one more than the number of its 16 GiB. -/
def FnSt.mapSegment (segment v : Nat) (x : FnSt) : FnSt := { x with segs := tabSet x.segs segment v }

theorem execMemMapAperture_off {fn segment : Byte} {address : Long} (ready : kcpReady 0x0282 0 c s = true) (hf : fn.toNat ≤ 15)
    (hs : segment.toNat ≤ 15) (own : s.kcpFn c = 0 ∨ s.kcpFn c = fn.toNat) :
    execMemMapAperture c fn segment 0 address s =
      .next (kcpOk 0x0282 c s (s.bgAdvance.modFn fn.toNat (FnSt.mapSegment segment.toNat 0)) []) := by
  refine kcp_ok_of_sessions ready (by decide) ?_ (congrArg HostSt.mbx s.bgAdvance_host :) (.inr (congrArg HostSt.udp s.bgAdvance_host :))
  dsimp only
  rw [if_neg (by omega), if_neg (by omega), if_neg (by decide), if_pos rfl]
  rfl

theorem execMemMapAperture_on {fn segment : Byte} {address : Long} (ready : kcpReady 0x0282 0 c s = true) (hf : fn.toNat ≤ 15)
    (hs : segment.toNat ≤ 15) (own : s.kcpFn c = 0 ∨ s.kcpFn c = fn.toNat) (aligned : address.toNat % (16 * 2 ^ 30) = 0)
    (init : s.bgAdvance.memRangeInit address.toNat (16 * 2 ^ 30) = true)
    (granted : fn.toNat = 0 ∨ apertureCovers (s.fn fn.toNat).apertures address.toNat = true) :
    execMemMapAperture c fn segment 1 address s =
      .next (kcpOk 0x0282 c s (s.bgAdvance.modFn fn.toNat (FnSt.mapSegment segment.toNat (address.toNat / (16 * 2 ^ 30) + 1))) []) := by
  have mapped : s.bgAdvance.memMapped address.toNat (16 * 2 ^ 30) = true := (Bool.and_eq_true_iff.mp init).1
  have well : ¬ (address.toNat % (16 * gib) ≠ 0 ∨ (!s.bgAdvance.memMapped address.toNat (16 * gib)) = true) :=
    not_or_intro (not_not_intro aligned) (by rw [gib, mapped]; decide)
  have covered : ¬ (!s.bgAdvance.memRangeInit address.toNat (16 * gib)) = true := by
    rw [gib, init]
    decide
  have reached : ¬ (fn.toNat ≠ 0 ∧ (!apertureCovers (s.bgAdvance.fn fn.toNat).apertures address.toNat) = true) := by
    rw [State.fn, s.bgAdvance_host]
    rintro ⟨virtual, denied⟩
    exact granted.elim virtual fun covers => absurd covers (by simpa [State.fn] using denied)
  refine kcp_ok_of_sessions ready (by decide) ?_ (congrArg HostSt.mbx s.bgAdvance_host :) (.inr (congrArg HostSt.udp s.bgAdvance_host :))
  dsimp only
  rw [if_neg (by omega), if_neg (by omega), if_neg (by decide), if_neg (by decide), if_neg well, if_neg reached, if_neg covered]
  rfl

theorem execMemMapAperture_other {fn segment enable : Byte} {address : Long} (ready : kcpReady 0x0282 0 c s = true) (virtual : s.kcpFn c ≠ 0)
    (other : s.kcpFn c ≠ fn.toNat) :
    execMemMapAperture c fn segment enable address s = .next (kcpNo 0x0282 c s.bgAdvance .badParam 0) :=
  kcp_no_of_sessions ready (by decide) (if_pos (.inr ⟨virtual, other.symm⟩)) s.bgAdvance_host

/-! ### MEM_PORT_OFFLINE and MEM_PORT_ONLINE -/

theorem execMemPortOffline_ok {port : Byte} (ready : kcpReady 0x0283 0 c s = true) (hm : port.toNat < 4) (pinned : s.mem.spread = 0)
    (staying : (s.port port.toNat).removing = false) (present : (s.port port.toNat).state ≠ .absent)
    (serves : (s.port port.toNat).state ≠ .outOfService)
    (others : ∀ k < 4, k ≠ port.toNat → (s.port k).removing = false ∧ (s.port k).state ≠ .absent ∧ (s.port k).state ≠ .outOfService) :
    execMemPortOffline c port s =
      .next (kcpOk 0x0283 c s (chooseVariants (s.modPort port.toNat fun p => { p with removing := true })) []) := by
  have alone : ((List.range 4).any fun k =>
      k != port.toNat && ((s.port k).removing || (s.port k).state == .absent || (s.port k).state == .outOfService)) = false := by
    rw [List.any_eq_false]
    intro k hk
    by_cases same : k = port.toNat
    · simp [same]
    · obtain ⟨stays, there, inService⟩ := others k (List.mem_range.mp hk) same
      simp [stays, there, inService]
  obtain ⟨host, -, -⟩ := chooseVariants_frame (s.modPort port.toNat fun p => { p with removing := true })
  refine kcp_ok_of_sessions ready (by decide) ?_ (congrArg HostSt.mbx host) (.inr (congrArg HostSt.udp host))
  dsimp only
  rw [if_neg (by omega), if_neg (by simp [staying]), if_neg (by simp [alone, pinned, present, serves])]

theorem execMemPortOnline_ok {port : Byte} (ready : kcpReady 0x0284 0 c s = true) (hm : port.toNat < 4)
    (out : (s.port port.toNat).state = .outOfService ∨ (s.port port.toNat).state = .absent) :
    execMemPortOnline c port s = .next (kcpOk 0x0284 c s (s.modPins fun q =>
      { q with cxlPerstN := putBit q.cxlPerstN port.toNat true, cxlRefclk := putBit q.cxlRefclk port.toNat (!(s.pll 9).gated) }) []) := by
  refine kcp_ok_of_sessions ready (by decide) ?_ rfl (.inr rfl)
  dsimp only
  rw [if_neg (by omega), if_neg fun ⟨inService, present⟩ => out.elim inService present]

/-! ### MEM_SET_SNOOP -/

/-- R111: group `g` of a function takes the setting at once. -/
def FnSt.snoop (on : Bool) (g : Nat) (x : FnSt) : FnSt := { x with noSnoop := putBit x.noSnoop g on }

/-- R111: all groups of function `f` take the setting at once. -/
def setSnoop (f : Nat) (on : Bool) (l : List Nat) (s : State) : State := l.foldl (fun (s : State) g => s.modFn f (FnSt.snoop on g)) s

/-- R111: groups of no running truss take the setting at once. -/
theorem snoop_idle {f : Nat} {on : Bool} {op : SillOp} (l : List Nat) {s : State} (idle : ∀ g ∈ l, s.grpRuns g = false) :
    l.foldl (fun (s : State) g => if s.grpRuns g then s.defer g f op else s.modFn f (FnSt.snoop on g)) s = setSnoop f on l s := by
  induction l generalizing s with
  | nil => rfl
  | cons g l ih =>
    obtain ⟨first, rest⟩ := List.forall_mem_cons.mp idle
    rw [List.foldl_cons, if_neg (by simp [first])]
    exact ih rest

/-- The setting moves the host port's functions alone. -/
theorem setSnoop_frame (f : Nat) (on : Bool) (l : List Nat) (s : State) :
    (setSnoop f on l s).mem = s.mem ∧ (setSnoop f on l s).seq = s.seq ∧ (setSnoop f on l s).host.mbx = s.host.mbx ∧
    (setSnoop f on l s).host.udp = s.host.udp := by
  have keeps := foldl_keeps (fun s : State => (s.mem, s.seq, s.host.mbx, s.host.udp)) (f := fun (s : State) g => s.modFn f (FnSt.snoop on g))
    (fun _ _ => rfl) l s
  simp only [Prod.mk.injEq] at keeps
  exact keeps

theorem setSnoop_noSnoop {f g : Nat} {l : List Nat} (hg : g ∈ l) (bits : g < 16) (on : Bool) (s : State) :
    (((setSnoop f on l s).fn f).noSnoop).getLsbD g = on := by
  have step : ∀ (t : State) (j : Nat), ((t.modFn f (FnSt.snoop on j)).fn f).noSnoop.getLsbD g =
      if g = j then on else (t.fn f).noSnoop.getLsbD g := fun t j => by
    rw [State.modFn_fn, if_pos rfl]
    exact putBit_getLsbD _ _ _ bits
  refine foldl_makes (P := fun t : State => (t.fn f).noSnoop.getLsbD g = on) hg (fun t => ?_) (fun t j h => ?_) s
  · rw [step, if_pos rfl]
  · rw [step, h, ite_self]

theorem execMemSetSnoop_idle {fn noSnoop : Byte} (ready : kcpReady 0x0285 0 c s = true) (hf : fn.toNat ≤ 15) (hn : noSnoop.toNat ≤ 1)
    (idle : ∀ g ∈ allGroups, s.grpRuns g = false) :
    execMemSetSnoop c fn noSnoop s = .next (kcpOk 0x0285 c s (setSnoop fn.toNat (noSnoop == 1) allGroups s) []) := by
  obtain ⟨-, -, mbx, udp⟩ := setSnoop_frame fn.toNat (noSnoop == 1) allGroups s
  refine kcp_ok_of_sessions ready (by decide) ?_ mbx (.inr udp)
  dsimp only
  rw [if_neg (by omega), if_neg (by omega)]
  exact congrArg replyOk (snoop_idle allGroups idle)

end

end Sys2Proof.Machine
end

section
/-! SUPPORT. The registers of a mailbox, and the entry that it takes (R112, R136–R139, R151). -/

namespace Sys2Proof.Machine

/-! ### Doorbells -/

section
variable {fn : Fin 16} {n : Fin 4} {value : Word} {s : State}

/-- R138: a doorbell of an enabled mailbox takes effect. -/
theorem execMbxDoorbell_enabled (opened : s.barOpen fn = true) (flight : (s.fn fn).inFlight = []) (on : (s.mbx fn n).enable = true) :
    execMbxDoorbell fn n value s = done (mbxBell fn n (BitVec.ofNat 17 value.toNat) (s.count 199)) := by
  have none : ((s.count 199).fn fn).inFlight.isEmpty = true := List.isEmpty_iff.mpr flight
  have rings : mbxRing fn n value (s.count 199) = mbxBell fn n (BitVec.ofNat 17 value.toNat) (s.count 199) := if_pos on
  rw [execMbxDoorbell, if_neg (by simp [opened])]
  exact (if_pos none).trans (congrArg done rings)

/-- R112: a doorbell waits for the function's writes. -/
theorem execMbxDoorbell_held (opened : s.barOpen fn = true) (flight : (s.fn fn).inFlight ≠ []) :
    execMbxDoorbell fn n value s =
      done ((s.count 199).modFn fn fun x => { x with heldBells := x.heldBells ++ [(n.val, value)] }) := by
  have some : ¬ ((s.count 199).fn fn).inFlight.isEmpty = true := fun none => flight (List.isEmpty_iff.mp none)
  rw [execMbxDoorbell, if_neg (by simp [opened])]
  exact if_neg some

end

section
variable {f n : Nat} {prod : BitVec 17} {s : State}

/-- R138: the entries up to a doorbell that the ring holds become available. -/
theorem mbxBell_fits (fits : (prod - (s.mbx f n).cmdCons).toNat ≤ (s.mbx f n).size) (more : prod ≠ (s.mbx f n).cmdCons) :
    mbxBell f n prod s = (s.modMbx f n fun m => { m with cmdProd := prod, avail := prod }).pend (41 + 4 * f + n) :=
  (if_neg (Nat.not_lt.mpr fits)).trans (if_neg more)

/-- R138: a doorbell past what the ring holds is ignored. -/
theorem mbxBell_beyond (beyond : (s.mbx f n).size < (prod - (s.mbx f n).cmdCons).toNat) :
    mbxBell f n prod s = (s.modMbx f n fun m => { m with cmdProd := m.avail, badDoorbell := true, ignored := satInc m.ignored }).count 213 :=
  if_pos beyond

end

/-! ### CFG -/

theorem State.modMbx_mbx (f n : Nat) (g : Mbx → Mbx) (s : State) : (s.modMbx f n g).mbx f n = g (s.mbx f n) :=
  tabGet_mod.trans (if_pos rfl)

theorem State.driveErrn_mbx (s : State) (f n : Nat) : s.driveErrn.mbx f n = s.mbx f n := by simp only [mbx, driveErrn_frame]

/-- R137: a disabled mailbox takes the size written. -/
theorem mbxSize_disabled {f n : Nat} {size : BitVec 4} {s : State} (off : (s.mbx f n).enable = false) :
    mbxSize f n size s = s.modMbx f n fun m => { m with log2Size := size } := if_pos (by simp [off])

/-- R137: a disabled mailbox, with no doorbell kept, is enabled or stays. -/
theorem mbxEnable_disabled {f n : Nat} {on : Bool} {s : State} (off : (s.mbx f n).enable = false)
    (noneKept : (s.mbx f n).cmdProd = (s.mbx f n).avail) :
    mbxEnable f n on s = if on then s.modMbx f n fun m => { m with enable := true, stopped := false } else s := by
  cases on
  · exact if_pos off.symm
  · exact (if_neg (by simp [off])).trans ((if_neg (by decide)).trans (if_pos noneKept))

theorem execMbxCfgWrite_disabled {fn : Fin 16} {n : Fin 4} {value : Word} {s : State} (opened : s.barOpen fn = true)
    (off : (s.mbx fn n).enable = false) (noneKept : (s.mbx fn n).cmdProd = (s.mbx fn n).avail) :
    ∃ t, execMbxCfgWrite fn n value s = done t ∧ (t.mbx fn n).enable = value.getLsbD 0 ∧
      (t.mbx fn n).log2Size = BitVec.ofNat 4 (value.toNat / 2) ∧ t.mem = s.mem ∧ t.seq = s.seq := by
  have sized := mbxSize_disabled (size := BitVec.ofNat 4 (value.toNat / 2)) (s := s.bar0) off
  have mbx := State.modMbx_mbx fn n (fun m => { m with log2Size := BitVec.ofNat 4 (value.toNat / 2) }) s.bar0
  rw [execMbxCfgWrite, if_neg (by simp [opened]), sized]
  generalize hu : s.bar0.modMbx fn n _ = u at mbx ⊢
  have frame : u.mem = s.mem ∧ u.seq = s.seq := by
    rw [← hu]
    exact ⟨rfl, rfl⟩
  rw [mbxEnable_disabled (by rw [mbx]; exact off) (by rw [mbx]; exact noneKept)]
  refine ⟨_, rfl, ?_⟩
  cases value.getLsbD 0
  · rw [if_neg Bool.false_ne_true, mbx]
    exact ⟨off, rfl, frame⟩
  · rw [if_pos rfl, State.modMbx_mbx, mbx]
    exact ⟨rfl, rfl, frame⟩

/-! ### An entry whose ID has no row -/

/-- R141: an entry is the command that its own fields spell. -/
theorem isFor_ctx (e : CmdEntry) (fn : Fin 16) (via : Via) : e.isFor e.id.toNat (e.ctx fn via) = true := by
  simp [CmdEntry.isFor, CmdEntry.ctx]

/-- R151: a command in its turn that one of the checks refuses ends there. -/
theorem kcpBegin_refused {id extra : Nat} {inSafe : Bool} {c : KcpCtx} {body : Nat → State → Reply ⊕ State} {s : State}
    {x : Session} {st : Status} {d : Nat} (turn : kcpTurn id c s = true) (session : s.kcpSession c = some x)
    (check : kcpCheck id ((kcpFind id).getD default).pfOnly (((kcpFind id).getD default).fixed + extra) inSafe (s.kcpFn c) (some x) c.handle
      c.seq c.len.toNat s = some (st, d)) :
    kcpBegin id extra inSafe c body s = done (kcpRefused id c x.version.toNat st d s) := by
  simp only [kcpTurn, State.kcpVersion, session, Bool.and_eq_true, Bool.not_eq_true', Option.isNone_iff_eq_none] at turn
  obtain ⟨⟨here, free⟩, fresh⟩ := turn
  simp only [kcpBegin, State.kcpVersion, session, here, free, fresh, check, Bool.not_true, Bool.or_self, Bool.false_eq_true, if_false]

/-- R151: an ID without a row, on an open session in its turn, is refused as unknown. -/
theorem kcpCheck_noRow {id required f len : Nat} {pfOnly inSafe : Bool} {x : Session} {handle : Word} {seq : Half} (s : State)
    (noRow : kcpFind id = none) (hh : handle = x.handle) (hs : seq = x.expected) :
    kcpCheck id pfOnly required inSafe f (some x) handle seq len s = some (.unknownCommand, 0) := by
  have notOpen : id ≠ 0 := fun zero => by
    rw [zero] at noRow
    exact absurd noRow (by decide)
  simp [kcpCheck, notOpen, noRow, hh, hs]

section
variable {fn : Fin 16} {n : Fin 4} {t : Taken} {s : State} (taken : (s.mbx fn n).taken = some t)
include taken

theorem kcpUnknown_of_taken : kcpUnknown fn (.mailbox n) s =
    if (kcpFind t.entry.id.toNat).isSome then done s else kcp t.entry.id.toNat (t.entry.ctx fn (.mailbox n)) (fun _ s => replyOk s) s := by
  have here : kcpTaken { fn := fn, via := .mailbox n, handle := 0, seq := 0, flags := 0, len := 0, tag := 0, params := [] } s = some t := taken
  rw [kcpUnknown, here]

/-- R154: an entry whose ID has a row waits for the command of that row. -/
theorem kcpUnknown_row (row : (kcpFind t.entry.id.toNat).isSome = true) : kcpUnknown fn (.mailbox n) s = done s :=
  (kcpUnknown_of_taken taken).trans (if_pos row)

/-- R151: an entry in its turn whose ID has no row is refused. -/
theorem kcpUnknown_refused {x : Session} (fresh : t.begun = false) (noRow : kcpFind t.entry.id.toNat = none)
    (session : (s.mbx fn n).session = some x) (handle : t.entry.handle = x.handle) (seq : t.entry.seq = x.expected)
    (unfenced : t.entry.flags.getLsbD 0 = false) :
    kcpUnknown fn (.mailbox n) s =
      done (kcpRefused t.entry.id.toNat (t.entry.ctx fn (.mailbox n)) x.version.toNat .unknownCommand 0 s) := by
  have here : kcpTaken (t.entry.ctx fn (.mailbox n)) s = some t := taken
  have isHere : kcpHere t.entry.id.toNat (t.entry.ctx fn (.mailbox n)) s = true := by
    rw [kcpHere, here]
    dsimp only
    rw [fresh, isFor_ctx]
    rfl
  have flag : (t.entry.ctx fn (.mailbox n)).flags.getLsbD 0 = false := unfenced
  have free : ∀ version, kcpFenced (t.entry.ctx fn (.mailbox n)) version s = false := fun version => by
    rw [kcpFenced, here]
    dsimp only
    rw [flag, Bool.false_and, Bool.false_and]
  have turn : kcpTurn t.entry.id.toNat (t.entry.ctx fn (.mailbox n)) s = true := by
    rw [kcpTurn, isHere, free]
    rfl
  rw [kcpUnknown_of_taken taken, if_neg (by simp [noRow]), kcp, kcpRun]
  exact kcpBegin_refused turn session (kcpCheck_noRow s noRow handle seq)

end

/-! ### An entry taken -/

/-- The state with the counters, and what has been sent, erased. -/
def State.sansCounts (s : State) : State := { s with pmu := {}, out := [] }

theorem State.countN_sansCounts (e n : Nat) (s : State) : (s.countN e n).sansCounts = s.sansCounts := rfl

theorem State.traffic_sansCounts (p : Nat) (w : Bool) (who : Who) (l : List Nat) (s : State) : (s.traffic p w who l).sansCounts = s.sansCounts :=
  ite_keeps State.sansCounts rfl (ite_keeps State.sansCounts rfl rfl)

/-- R120: a read of host memory moves the counters, and what has been sent, alone. -/
theorem State.hostRead_sansCounts (a n : Nat) (noSnoop : Bool) (w : Who) (s : State) :
    (s.hostRead a n noSnoop w).sansCounts = s.sansCounts := by
  have requests := foldl_keeps State.sansCounts (f := fun (s : State) (p : Nat × Nat) => s.emit (.hostRead p.1 p.2 noSnoop)) (fun _ _ => rfl)
    (readPieces (n / 256 + 3) a n) s
  unfold hostRead
  dsimp only
  generalize List.foldl _ s _ = r at requests ⊢
  rw [traffic_sansCounts, countN_sansCounts, countN_sansCounts]
  exact requests

/-- R139: the mailbox holds the entry that it has read, and its consumer has moved past it. -/
def Mbx.holding (t : Taken) (m : Mbx) : Mbx := { m with cmdCons := m.cmdCons + 1, busy := true, taken := some t }

/-- R139: the next entry of mailbox `n` of function `f` is read, and taken. -/
def takeEntry (f n : Nat) (bytes : List Byte) (s : State) : State :=
  let m := s.mbx f n
  let s := s.hostRead (m.cmdBase.toNat + 64 * (m.cmdCons.toNat % m.size)) 64 false ⟨16, 69, f⟩
  ((s.modMbx f n (Mbx.holding { entry := readEntry false bytes, order := s.host.taken })).modHost fun h =>
    { h with taken := h.taken + 1 }).count 197

theorem takeEntry_frame (f n : Nat) (bytes : List Byte) (s : State) :
    (takeEntry f n bytes s).mbx f n = (s.mbx f n).holding { entry := readEntry false bytes, order := s.host.taken } ∧
    (takeEntry f n bytes s).mem = s.mem ∧ (takeEntry f n bytes s).truss = s.truss ∧ (takeEntry f n bytes s).seq = s.seq := by
  unfold takeEntry
  dsimp only
  have h := s.hostRead_sansCounts ((s.mbx f n).cmdBase.toNat + 64 * ((s.mbx f n).cmdCons.toNat % (s.mbx f n).size)) 64 false ⟨16, 69, f⟩
  generalize s.hostRead _ 64 false _ = r at h ⊢
  have host : r.host = s.host := (congrArg State.host h :)
  have mbx : r.mbx f n = s.mbx f n := (congrArg (State.mbx · f n) h :)
  simp only [State.mbx, State.count_frame, State.modHost_host, State.modHost_mem, State.modHost_truss, State.modHost_seq, State.modMbx_frame]
  refine ⟨(State.modMbx_mbx f n _ r).trans ?_, (congrArg State.mem h :), (congrArg State.truss h :), (congrArg State.seq h :)⟩
  rw [mbx, host]
  rfl

section
variable {fn : Fin 16} {n : Fin 4} {s : State} (there : s.hasFn fn = true) (running : s.boot.phase = .running)
  (takes : (s.mbx fn n).takes = true) (reach : s.fnReach fn = true)
include there running takes reach

theorem execMbxTakeCommand_some (bytes : List Byte) :
    execMbxTakeCommand fn n (some bytes) s = kcpUnknown fn (.mailbox n) (takeEntry fn n bytes s) := by
  rw [execMbxTakeCommand]
  dsimp only
  rw [if_neg (by simp [there, running]), if_neg (by simp [takes]), if_neg (by simp [reach])]
  rfl

theorem execMbxTakeCommand_none : ∃ t, execMbxTakeCommand fn n none s = done t ∧ (t.mbx fn n).fetchError = true ∧
    (t.mbx fn n).stopped = true ∧ (t.mbx fn n).cmdCons = (s.mbx fn n).cmdCons := by
  rw [execMbxTakeCommand]
  dsimp only
  rw [if_neg (by simp [there, running]), if_neg (by simp [takes]), if_neg (by simp [reach])]
  refine ⟨_, rfl, ?_⟩
  have h := s.hostRead_sansCounts ((s.mbx fn n).cmdBase.toNat + 64 * ((s.mbx fn n).cmdCons.toNat % (s.mbx fn n).size)) 64 false ⟨16, 69, fn⟩
  generalize s.hostRead _ 64 false _ = r at h ⊢
  have mbx : r.mbx fn n = s.mbx fn n := (congrArg (State.mbx · fn n) h :)
  rw [State.modMbx_mbx, mbx]
  exact ⟨rfl, rfl, rfl⟩

end

end Sys2Proof.Machine
end

section
/-! SUPPORT. The statements of the family of memory ports and visibility, settled. -/

open Sys2Proof Sys2Proof.Machine

/-- Settles O16: the window decodes as R97 says, and its port is a matter of the block of 256 bytes within the KiB. -/
theorem spreadAddressesInterleave : Obligations.SpreadAddressesInterleave := by
  intro s y inside size
  refine ⟨?_, fun z within block => ?_, fun m hm => ?_⟩
  · rw [spread_port, spread_offset]
    exact State.memDecode_spread inside size
  · rw [State.memPort_spread inside size, State.memPort_spread within size, block]
  · have kib : y / 1024 * 1024 + 256 * m < 4 * (s.mem.spread * gib) := by
      unfold gib
      omega
    rw [State.memPort_spread kib size]
    omega

/-- Settles O17: what lands is a store of the bytes issued, which leaves all but the bytes, their poison and the counters; a read lands nothing. -/
theorem aperturesReachMemory : Obligations.AperturesReachMemory := by
  refine ⟨fun fn offset bytes s opened calm => ⟨fun a flight arms bells mapped => ?_, fun unmapped => ?_, fun a mapped => ?_⟩,
    fun fn s => ⟨fun offset len opened flight arms bells => ?_, fun bells arms => ?_⟩⟩
  · obtain ⟨p, h, stored⟩ := landWrites_issued (a := a) (bytes := bytes) flight arms bells
    have rest := State.memStore_sansBytes a bytes (barWho fn) { s with pmu := p, host := h }
    rw [exec_bar4Write, execBar4Write_mapped opened calm mapped, if_pos rfl, stored]
    refine ⟨_, rfl, ?_⟩
    simp only [State.driveErrn_frame]
    exact ⟨fun i hi isMapped => State.memStore_served (s := { s with pmu := p, host := h }) isMapped hi,
      fun x outside => State.memStore_outside outside,
      (congrArg State.truss rest :), (congrArg State.heads rest :), (congrArg State.seq rest :)⟩
  · rw [exec_bar4Write, execBar4Write_unmapped opened unmapped]
    refine ⟨_, rfl, ?_⟩
    simp only [State.driveErrn_fn, State.driveErrn_frame]
    simp only [barMiss, State.count_frame, State.modFn_frame, State.count_fn, State.modFn_fn, if_true, and_self]
  · have issued := bar4Issued_fn fn a bytes s
    rw [exec_bar4Write, execBar4Write_mapped opened calm mapped, if_neg Bool.false_ne_true]
    refine ⟨_, rfl, ?_⟩
    simp only [State.driveErrn_fn, State.driveErrn_frame, issued, and_true]
    rw [bar4Issued_eq]
  · rw [exec_bar4Read]
    cases hm : s.barAddress fn offset.toNat with
    | none =>
      rw [execBar4Read_unmapped opened flight arms bells hm]
      refine ⟨_, rfl, fun x => ?_, fun _ => State.sent_driveErrn (List.mem_cons_self ..)⟩
      simp only [barMiss, State.driveErrn_frame, State.emit_frame, State.count_frame, State.modFn_frame]
    | some a =>
      obtain ⟨t, ht, mem⟩ := execBar4Read_mapped (len := len) opened flight arms bells hm
      refine ⟨_, ht, fun x => ?_, nofun⟩
      simp only [State.driveErrn_frame, mem]
  · have rest := landWrites_sansBytes arms bells
    rw [exec_armWritesLanded, execArmWritesLanded]
    have landed : (landWrites fn s).fn fn = (s.fn fn).landed :=
      (congrArg (State.fn · fn) rest :).trans ((State.modFn_fn ..).trans (if_pos rfl))
    refine ⟨_, rfl, ?_⟩
    simp only [State.driveErrn_fn, State.driveErrn_frame, landed]
    exact ⟨rfl, rfl, rfl, (congrArg State.truss rest :), (congrArg State.heads rest :)⟩

/-- Settles O19: each event's conditions pick its branch; neither the stir of an admission nor the records nor a restored truss move a port. -/
theorem aReturningPortIsInitialised : Obligations.AReturningPortIsInitialised := by
  refine fun m s => ⟨fun x running trains up => ⟨fun gts width fits => ?_, fun gts width odd => ?_, fun slow => ?_⟩,
    fun initialising _ => ?_, fun removing quiet => ?_⟩
  · obtain ⟨back, h⟩ := execCxlLinkTrained_fast running trains up gts width fits
    obtain ⟨mem, -, -, flt, seq⟩ := stirAdmission_frame (s.modPort m (CxlPort.trained x back))
    have ports := fun k => State.port_of_mem mem k
    rw [exec_cxlLinkTrained, h]
    refine ⟨_, rfl, ?_⟩
    simp only [State.driveErrn_port, State.driveErrn_frame, ports, mem, flt, seq, State.modPort_port, if_true]
    exact ⟨rfl, rfl, rfl, rfl, rfl, fun k other => if_neg (Fin.val_ne_of_ne other), rfl, rfl, rfl⟩
  · rw [exec_cxlLinkTrained, execCxlLinkTrained_unsupported running trains up gts width odd]
    rfl
  · rw [exec_cxlLinkTrained, execCxlLinkTrained_slow running trains up slow]
    rfl
  · obtain ⟨mem, -, -⟩ := tellPort_frame m 1 (s.port m) (finishReturn m s)
    rw [exec_cxlPortInitDone, execCxlPortInitDone_initialising initialising]
    refine ⟨_, rfl, ?_⟩
    rw [State.driveErrn_port, rearmPorts_port, State.port_of_mem mem, finishReturn_port]
    exact ⟨rfl, rfl⟩
  · obtain ⟨mem, pins, heads⟩ := tellPort_frame m 3 (s.port m) (removePort m s)
    rw [exec_cxlOfflineComplete, execCxlOfflineComplete_quiet removing quiet]
    refine ⟨_, rfl, ?_⟩
    simp only [State.driveErrn_port, State.driveErrn_cxlPerstN, State.driveErrn_frame, State.port_of_mem mem, pins, heads,
      removePort_port]
    exact ⟨rfl, rfl, rfl, (putBit_getLsbD _ _ _ m.isLt).trans (if_pos rfl), rfl⟩

/-- Settles O21: each command passes its own checks, and neither it nor the background initialisation touches the sessions. -/
theorem memoryCommandsAnswer : Obligations.MemoryCommandsAnswer := by
  refine fun c s => ⟨fun port ready hm => ?_, fun _ => execMemSetInterleave_ok, fun fn segment address ready hf hs own =>
      ⟨execMemMapAperture_off ready hf hs own, execMemMapAperture_on ready hf hs own⟩,
    fun _ _ _ _ => execMemMapAperture_other, fun _ => execMemPortOffline_ok, fun _ => execMemPortOnline_ok,
    fun fn noSnoop ready hf hn idle => ?_⟩
  · refine ⟨memQueryBytes port.toNat s.bgAdvance, memQueryBytes_length .., ?_, execMemQuery_ok ready hm⟩
    have state : (s.bgAdvance.port port.toNat).state = (s.port port.toNat).state := congrArg Prod.fst (s.bgAdvance_portExtent port.toNat)
    rw [memQueryBytes_state, state]
  · obtain ⟨mem, seq, -, -⟩ := setSnoop_frame fn.toNat (noSnoop == 1) allGroups s
    exact ⟨_, execMemSetSnoop_idle ready hf hn idle, fun g hg => setSnoop_noSnoop (List.mem_range.mpr hg) hg .., mem, seq⟩

/-- Settles O30: a doorbell's condition picks its branch, CFG of a disabled mailbox stores its fields, and what is taken has a row of its own or is
refused. -/
theorem mailboxRegistersAndEntries : Obligations.MailboxRegistersAndEntries := by
  refine fun fn n s => ⟨fun value opened => ⟨fun flight on more => ⟨fun fits => ?_, fun beyond => ?_⟩, fun flight => ?_, ?_, fun off kept => ?_⟩,
    fun there running takes reach => ⟨fun bytes row => ?_, fun bytes x noRow session handle seq unfenced => ?_, ?_⟩⟩
  · rw [exec_mbxDoorbell, execMbxDoorbell_enabled opened flight on, mbxBell_fits (s := s.count 199) fits more]
    rfl
  · rw [exec_mbxDoorbell, execMbxDoorbell_enabled opened flight on, mbxBell_beyond (s := s.count 199) beyond]
    rfl
  · rw [exec_mbxDoorbell, execMbxDoorbell_held opened flight]
    rfl
  · rw [exec_mbxRspConsWrite, execMbxRspConsWrite, if_neg (by simp [opened])]
    rfl
  · obtain ⟨t, ht, enable, size, mem, seq⟩ := execMbxCfgWrite_disabled (value := value) opened off kept
    refine ⟨_, ht, ?_⟩
    simp only [State.driveErrn_mbx, State.driveErrn_frame]
    exact ⟨enable, size, mem, seq⟩
  · obtain ⟨mbx, mem, truss, seq⟩ := takeEntry_frame fn n bytes s
    rw [exec_mbxTakeCommand, execMbxTakeCommand_some there running takes reach, kcpUnknown_row (congrArg Mbx.taken mbx) row]
    refine ⟨_, rfl, ?_⟩
    simp only [State.driveErrn_mbx, State.driveErrn_frame, mbx]
    exact ⟨rfl, rfl, rfl, mem, truss, seq⟩
  · obtain ⟨mbx, mem, -, seq'⟩ := takeEntry_frame fn n bytes s
    rw [exec_mbxTakeCommand, execMbxTakeCommand_some there running takes reach,
      kcpUnknown_refused (congrArg Mbx.taken mbx) rfl noRow ((congrArg Mbx.session mbx).trans session) handle seq unfenced]
    exact ⟨_, rfl, congrArg Mbx.cmdCons mbx, mem, seq'⟩
  · obtain ⟨t, ht, error, stopped, cons⟩ := execMbxTakeCommand_none there running takes reach
    refine ⟨_, ht, ?_⟩
    simp only [State.driveErrn_mbx]
    exact ⟨error, stopped, cons⟩

end

section
/-! SUPPORT. The host link as it trains, and as it goes down without a reset (R122, R126, R133). -/

namespace Sys2Proof.Machine

/-! ### A surprise-down -/

/-- R126: ID_SURPRISE.count. -/
def State.surprises (s : State) : Half := s.host.surpriseCount

theorem State.surprises_of_lasting {s t : State} (h : t.lasting = s.lasting) : t.surprises = s.surprises := (congrArg State.surprises h :)

theorem foldl_surprises {α : Type} {f : State → α → State} (h : ∀ s x, (f s x).surprises = s.surprises) (l : List α) (s : State) :
    (l.foldl f s).surprises = s.surprises := foldl_keeps State.surprises h l s

theorem mbxRing_surprises (f n : Nat) (v : Word) (s : State) : (mbxRing f n v s).surprises = s.surprises := by
  refine ite_keeps State.surprises (ite_keeps State.surprises rfl (ite_keeps State.surprises rfl ?_)) rfl
  exact (State.surprises_of_lasting (State.pend_lasting ..)).trans rfl

theorem State.memStore_surprises (a : Nat) (bs : List Byte) (w : Who) (s : State) : (s.memStore a bs w).surprises = s.surprises :=
  (congrArg State.surprises (memStore_sansBytes a bs w s) :)

theorem landWrites_surprises (f : Nat) (s : State) : (landWrites f s).surprises = s.surprises := by
  refine (foldl_surprises (fun _ _ => mbxRing_surprises ..) ..).trans ?_
  refine (foldl_surprises (fun _ _ => State.surprises_of_lasting (State.lasting_ite (armArrives_lasting ..) rfl)) ..).trans ?_
  exact foldl_surprises (fun _ _ => State.memStore_surprises ..) ..

theorem closeMbx_surprises (f n : Nat) (s : State) : (closeMbx f n s).surprises = s.surprises := ite_keeps State.surprises rfl rfl

theorem closeAllSessions_surprises (s : State) : (closeAllSessions s).surprises = s.surprises := by
  rw [closeAllSessions, State.surprises_of_lasting (closeUdpIf_lasting ..)]
  exact foldl_surprises (fun _ _ => foldl_surprises (fun _ _ => closeMbx_surprises ..) ..) ..

theorem portEnded_surprises (s : State) : (portEnded s).surprises = s.surprises := by
  rw [portEnded, State.surprises_of_lasting (discardShadows_lasting ..), State.surprises_of_lasting (loseReads_lasting ..),
    foldl_surprises fun _ _ => State.surprises_of_lasting (State.intRelease_lasting ..), closeAllSessions_surprises]
  exact foldl_surprises (fun _ _ => landWrites_surprises ..) ..

/-- R126: the reset of the port keeps the count of surprise-downs. -/
theorem portReset_surprises (s : State) : (portReset s).surprises = s.surprises := by
  rw [← portEnded_surprises s, portReset_eq]
  generalize portEnded s = t
  rw [State.surprises, stirAdmission_host]
  rfl

theorem State.traffic_host (p : Nat) (w : Bool) (who : Who) (l : List Nat) (s : State) : (s.traffic p w who l).host = s.host :=
  (congrArg State.host (traffic_sansBytes p w who l s) :)

theorem cqWrite_host (q : Nat) (r : CplRec) (s : State) : (cqWrite q r s).host = s.host := by
  simp only [cqWrite, cqLevel, State.setCond_frame]
  exact ite_keeps State.host (ite_keeps State.host (State.traffic_host ..) rfl) (congrArg State.host (State.memWrite_sansBytes ..) :)

/-- R393: the end of a descriptor leaves the host port's block as it is. -/
theorem dmaEnd_host (c status : Nat) (s : State) : (dmaEnd c status s).host = s.host := by
  have posted (d : Desc) (bytes : Nat) : (dmaPost c d status bytes s).host = s.host :=
    ite_keeps State.host rfl (ite_keeps State.host rfl (ite_keeps State.host rfl (cqWrite_host ..)))
  have pended (x : Nat) (t : State) : (t.pend x).host = t.host := by rw [State.pend_eq]
  unfold dmaEnd
  dsimp only
  split
  · rfl
  · refine ite_then State.host (ite_keeps State.host ?_ ?_) (pended ..) <;>
      simp only [State.count_frame, State.modCh_frame, posted]

theorem dmaSurprise_host (s : State) : (dmaSurprise s).host = s.host := by
  refine foldl_keeps State.host (fun t c => ?_) ..
  split
  · exact ite_keeps State.host (dmaEnd_host ..) rfl
  · rfl

/-- R133: a link that is up goes down: the port is reset and what DMA had of host memory ends, then the loss is counted, the link trains and the
fault is recorded. -/
theorem execSurpriseDown_up {lost : Nat} {s : State} (up : s.host.linkUp = true) (free : s.host.inReset = false) :
    execSurpriseDown lost s = done ((((dmaSurprise (portReset s)).modHost fun h =>
      { h with training := true, surpriseCount := satInc h.surpriseCount, surpriseAt := (dmaSurprise (portReset s)).now + 1, surpriseFor := 0,
               surpriseOwed := satInc h.surpriseOwed, dmaDropped := satAdd h.dmaDropped lost }).count 208).fault 56 1) :=
  if_neg (by simp [up, free])

/-! ### Training -/

/-- R126: what ID_LINK tells of the link, whether it trains, and the CXL memory behind it. -/
def State.linkAndMem (s : State) : Bool × Bool × BitVec 3 × BitVec 5 × MemSt :=
  (s.host.linkUp, s.host.training, s.host.rate, s.host.width, s.mem)

theorem State.linkAndMem_of_lasting {s t : State} (h : t.lasting = s.lasting) : t.linkAndMem = s.linkAndMem :=
  (congrArg State.linkAndMem h :)

theorem stirAdmission_linkAndMem (s : State) : (stirAdmission s).linkAndMem = s.linkAndMem := by
  have h := stirAdmission_sansTruss s
  generalize stirAdmission s = t at h ⊢
  exact (congrArg State.linkAndMem h :)

theorem checkHostBw_linkAndMem (s : State) : (checkHostBw s).linkAndMem = s.linkAndMem :=
  ite_keeps State.linkAndMem rfl ((State.linkAndMem_of_lasting (State.fault_lasting ..)).trans rfl)

/-- R122: neither the measurement of L_h nor the records that ring 0 owes touch the link or memory. -/
theorem settleRing0_linkAndMem (s : State) : (settleRing0 s).linkAndMem = s.linkAndMem := by
  refine ite_keeps State.linkAndMem rfl ((State.linkAndMem_of_lasting (State.payOwed_lasting _)).trans ?_)
  refine ite_keeps State.linkAndMem rfl ?_
  exact (checkHostBw_linkAndMem _).trans (stirAdmission_linkAndMem _)

/-- R122: the link trains at a rate and a width that the port has. -/
theorem execHostLinkTrained_valid {rate : BitVec 3} {width : BitVec 5} {latency : Nat} {s : State} (free : s.host.inReset = false)
    (slowest : 1 ≤ rate.toNat) (fastest : rate.toNat ≤ 5) (lanes : width.toNat ∈ [1, 2, 4, 8]) :
    ∃ t, execHostLinkTrained rate width latency s = done t ∧ t.linkAndMem = (true, false, rate, width, s.mem) := by
  have valid : ¬ (s.host.inReset = true ∨ rate = 0 ∨ 5 < rate.toNat ∨ (!([1, 2, 4, 8].contains width.toNat)) = true) := by
    rintro (reset | rfl | fast | odd)
    · exact Bool.noConfusion (free.symm.trans reset)
    · exact absurd slowest (by decide)
    · omega
    · exact absurd odd (by rw [List.contains_iff_mem.mpr lanes]; decide)
  unfold execHostLinkTrained
  dsimp only
  rw [if_neg valid]
  refine ⟨_, rfl, ?_⟩
  refine (settleRing0_linkAndMem _).trans ((checkHostBw_linkAndMem _).trans ?_)
  refine ite_then State.linkAndMem ((stirAdmission_linkAndMem _).trans ?_)
    ((State.linkAndMem_of_lasting (State.recordTo_lasting ..)).trans rfl)
  exact congrArg (fun m => (true, false, rate, width, m)) (ite_keeps State.mem rfl rfl)

end Sys2Proof.Machine
end

section
/-! SUPPORT. What SESS_GRANT and SESS_GRANT_QUERY answer (R155, R156). -/

namespace Sys2Proof.Machine

/-- A ready command of variable length that leaves the sessions of its path as they are and answers OK ends in `kcpOk`. -/
theorem kcpRun_ok_of_sessions {id extra : Nat} {inSafe : Bool} {c : KcpCtx} {body : Nat → State → Reply} {s t : State} {bs : List Byte}
    (ready : kcpReady id extra c s = true) (hid : id ≠ 0) (hb : body (s.kcpFn c) s = replyOk t bs) (mbx : t.host.mbx = s.host.mbx)
    (udp : t.host.udp = s.host.udp) : kcpRun id extra inSafe c body s = .next (kcpOk id c s t bs) :=
  kcpRun_ok ready hid hb (by rw [kcpSession_congr mbx (.inr udp)]; exact kcpReady_session ready)

/-- A ready command of variable length that its own part refuses ends in `kcpNo`. -/
theorem kcpRun_no {id extra : Nat} {inSafe : Bool} {c : KcpCtx} {body : Nat → State → Reply} {s : State} {st : Status} {d : Nat}
    (ready : kcpReady id extra c s = true) (hid : id ≠ 0) (hb : body (s.kcpFn c) s = refuse st d s) :
    kcpRun id extra inSafe c body s = .next (kcpNo id c s st d) := by
  have there : kcpSessionGone id c s = false := kcpSessionGone_of (kcpReady_session ready)
  simp [kcpRun, kcpBegin_ready ready hid, hb, there, kcpNo, done]

/-! ### SESS_GRANT -/

/-- R156: what a narrower grant takes with it is the function's segments and work for the interrupt controller's next round. -/
theorem grantTrim_host (f : Nat) (s : State) : (grantTrim f s).host =
    (s.modFn f fun x => { x with segs := tabKeep (fun _ v => apertureCovers x.apertures ((v - 1) * 16 * gib)) x.segs }).host := by
  unfold grantTrim
  exact foldl_keeps State.host (f := fun (s : State) (e : Nat × IntSrc) => s.intQueue (.drop e.1 f)) (fun _ _ => rfl) ..

/-- R156: a grant that neither waits for a sill nor narrows counters is set, or withdrawn, and what it covered no more is trimmed. -/
theorem sessGrant_direct {fn kind index op : Nat} {value : List Byte} {s : State} (virtual : 1 ≤ fn ∧ fn ≤ 15) (kindKnown : kind ≤ 8)
    (direct : kind ≠ 1 ∧ kind ≠ 5) (indexed : index < grantIndices kind) (known : op ≤ 1) (fits : op = 0 → grantBad kind value s = none) :
    sessGrant fn kind index op value s =
      replyOk (grantTrim fn (s.modFn fn (putGrant kind index (if op = 0 then some value else none)))) := by
  have good : (if op = 0 then grantBad kind value s else none) = none := by
    split
    · next sets => exact fits sets
    · rfl
  unfold sessGrant
  rw [if_neg (by omega), if_neg (by omega), if_neg (by omega), if_neg (by omega), good]
  dsimp only
  rw [if_neg direct.1, if_neg direct.2]

theorem execSessGrant_direct {c : KcpCtx} {fn kind index op : Byte} {value : List Byte} {s : State}
    (ready : kcpReady 0x0005 (grantLen kind.toNat op.toNat) c s = true) (virtual : 1 ≤ fn.toNat ∧ fn.toNat ≤ 15) (kindKnown : kind.toNat ≤ 8)
    (direct : kind.toNat ≠ 1 ∧ kind.toNat ≠ 5) (indexed : index.toNat < grantIndices kind.toNat) (known : op.toNat ≤ 1)
    (fits : op = 0 → grantBad kind.toNat value s = none) :
    execSessGrant c fn kind index op value s = .next (kcpOk 0x0005 c s
      (grantTrim fn.toNat (s.modFn fn.toNat (putGrant kind.toNat index.toNat (if op = 0 then some value else none)))) []) := by
  have zero : op.toNat = 0 ↔ op = 0 := BitVec.toNat_inj (y := 0)
  have own := sessGrant_direct virtual kindKnown direct indexed known (fits ∘ zero.mp)
  simp only [zero] at own
  exact kcpRun_ok_of_sessions ready (by decide) own (congrArg HostSt.mbx (grantTrim_host ..) :) (congrArg HostSt.udp (grantTrim_host ..) :)

/-- R156: the physical function holds everything, and no grant is set on it. -/
theorem execSessGrant_pf {c : KcpCtx} {kind index op : Byte} {value : List Byte} {s : State}
    (ready : kcpReady 0x0005 (grantLen kind.toNat op.toNat) c s = true) :
    execSessGrant c 0 kind index op value s = .next (kcpNo 0x0005 c s .badParam 0) :=
  kcpRun_no ready (by decide) (if_pos (.inl (by decide)))

/-! ### SESS_GRANT_QUERY -/

/-- R155: what SESS_GRANT_QUERY returns of a function's grant. -/
def grantQueryBytes (f kind : Nat) (index : Byte) (s : State) : List Byte :=
  fitBytes 24 (if f = 0 then (if index = 0 then grantPf kind else [])
    else if grantIndices kind ≤ index.toNat then [] else grantBytes kind index.toNat (s.fn f))

theorem fitBytes_length (n : Nat) (bs : List Byte) : (fitBytes n bs).length = n := by simp [fitBytes, zeros]

section
variable {c : KcpCtx} {fn kind index : Byte} {s : State} (ready : kcpReady 0x0006 0 c s = true)
include ready

theorem execSessGrantQuery_own (known : fn.toNat ≤ 15) (kindKnown : kind.toNat ≤ 8) (own : s.kcpFn c = 0 ∨ s.kcpFn c = fn.toNat) :
    ∃ r : List Byte, r.length = 24 ∧ execSessGrantQuery c fn kind index s = .next (kcpOk 0x0006 c s s r) := by
  refine ⟨grantQueryBytes fn.toNat kind.toNat index s, fitBytes_length .., kcp_ok_of_sessions ready (by decide) ?_ rfl (.inr rfl)⟩
  dsimp only
  rw [if_neg (by omega), if_neg (by omega)]
  rfl

/-- Log 14: a virtual function hears of its own grants alone. -/
theorem execSessGrantQuery_other (virtual : s.kcpFn c ≠ 0) (other : s.kcpFn c ≠ fn.toNat) :
    execSessGrantQuery c fn kind index s = .next (kcpNo 0x0006 c s .badParam 0) :=
  kcp_no ready (by decide) (if_pos (.inr ⟨virtual, other.symm⟩))

end

end Sys2Proof.Machine
end

section
/-! SUPPORT. A table of functions that lists one of them twice. The reset of the functions (R134) clears the entry that is read; the disabling of the
virtual functions then goes through every entry listed, so that the last one of a function stands. No table that the model's own operations build
from reset lists a key twice; the statement that this refutes speaks of every state. -/

namespace Sys2Proof.Machine

theorem functionLevelReset_pf {s t : State} (reached : s.reached 0 = true) (h : exec (.functionLevelReset 0) s = .next t) :
    t = (clearAllFns (s.count 215)).driveErrn := by
  have clears : execFunctionLevelReset 0 s = .next (clearAllFns (s.count 215)).driveErrn := if_neg (by simp [reached])
  exact (Host.Outcome.next.inj (clears.symm.trans h)).symm

/-- Firmware runs with the host link up, and function 1 is listed twice: as it reads, without Bus Master Enable, and behind that with it set. -/
def twiceListed : State :=
  { boot := { phase := .running },
    host := { inReset := false, linkUp := true, fns := [(1, { groups := 1 }), (1, { bme := true })] } }

/-- R134: the reset of one function finds nothing to clear. -/
theorem clearFn_twiceListed : ∀ f ∈ allFns, clearFn f (twiceListed.count 215) = twiceListed.count 215 := by
  decide +kernel

/-- A fold whose every listed step leaves its start as it is. -/
theorem foldl_still {α β : Type} {f : β → α → β} {b : β} {l : List α} (h : ∀ x ∈ l, f b x = b) : l.foldl f b = b :=
  List.foldlRecOn (motive := (· = b)) l f rfl fun _ hc x hx => hc ▸ h x hx

/-- R134: with the virtual functions disabled, function 1 reads as its second entry. -/
theorem clearAllFns_twiceListed : ((clearAllFns (twiceListed.count 215)).fn 1).bme = true := by
  rw [clearAllFns, foldl_still (f := fun s f => clearFn f s) clearFn_twiceListed]
  decide

end Sys2Proof.Machine
end

section
/-! SUPPORT. The statements of the family of the host link and events, settled. -/

open Sys2Proof Sys2Proof.Machine

/-- Settles O23: training puts the link up before what ring 0 owes is paid, which leaves it; a surprise-down is counted past the port's reset. -/
theorem hostLinkComesAndGoes : Obligations.HostLinkComesAndGoes := by
  refine fun s free => ⟨fun rate width latency slowest fastest lanes => ?_, fun lost up => ?_⟩
  · obtain ⟨t, ht, link⟩ := execHostLinkTrained_valid (latency := latency) free slowest fastest lanes
    simp only [State.linkAndMem, Prod.mk.injEq] at link
    refine ⟨_, exec_hostLinkTrained.trans ht, ?_⟩
    simpa only [State.driveErrn_frame] using link
  · obtain ⟨linkUp, -, -, mbx, rings, -, -, -⟩ := portReset_cleared s
    refine ⟨dmaSurprise (portReset s), exec_surpriseDown.trans (execSurpriseDown_up up free), ?_⟩
    rw [dmaSurprise_host]
    exact ⟨linkUp, mbx, rings, portReset_surprises s⟩

/-- Refutes O24: where the table of functions lists one twice, the physical function's reset leaves it with Bus Master Enable set. -/
theorem not_functionsAreResetAlone : ¬ Obligations.FunctionsAreResetAlone := by
  intro h
  have runs : twiceListed.reached 0 = true := by decide
  obtain ⟨-, -, reset, -, -⟩ := h 0 twiceListed runs
  obtain ⟨t, ht, -, clear⟩ := reset runs
  have set := clear 1 (by decide)
  rw [functionLevelReset_pf runs ht, State.driveErrn_fn] at set
  exact Bool.noConfusion (clearAllFns_twiceListed.symm.trans set)

/-- Settles O32: a grant of host memory or of command groups is direct, and each refusal is the first check that fails. -/
theorem grantsAreSetAndWithdrawn : Obligations.GrantsAreSetAndWithdrawn := by
  refine fun c s fn kind index op value => ⟨fun ready _ least most kinds first known flag => ?_, fun ready pf => ?_, fun ready fnKnown kindKnown =>
    ⟨execSessGrantQuery_own ready fnKnown kindKnown, execSessGrantQuery_other ready⟩⟩
  · subst first
    have indexed : 0 < grantIndices kind.toNat := by rcases kinds with k | k <;> rw [k] <;> decide
    have fits : op = 0 → grantBad kind.toNat value s = none := by
      intro sets
      rcases kinds with k | k <;> rw [k]
      · exact if_neg (Nat.not_lt.mpr (flag k sets))
      · rfl
    exact execSessGrant_direct ready ⟨least, most⟩ (by omega) (by omega) indexed known fits
  · subst pf
    exact execSessGrant_pf ready

end

section
/-! SUPPORT. Every KCP command as a call on the one path: R151's checks in their order, and the rows that are not in their turn. -/

namespace Sys2Proof.Machine

/-- R154: what ends a command is a call on the one path: it has a row in the index, and a part of its own. -/
def KcpCall.Runs (k : KcpCall) (s : State) (o : Host.Outcome State Fault Refusal) : Prop :=
  (kcpFind k.id).isSome = true ∧ ∃ body, o = kcpBegin k.id k.extra k.inSafe k.ctx body s

section
variable {id extra : Nat} {inSafe : Bool} {c : KcpCtx} {s : State} (row : (kcpFind id).isSome = true)
include row

theorem KcpCall.Runs.kcpBegin {body : Nat → State → Reply ⊕ State} :
    KcpCall.Runs ⟨id, extra, inSafe, c⟩ s (kcpBegin id extra inSafe c body s) := ⟨row, body, rfl⟩

theorem KcpCall.Runs.kcpRun {body : Nat → State → Reply} : KcpCall.Runs ⟨id, extra, inSafe, c⟩ s (kcpRun id extra inSafe c body s) :=
  .kcpBegin row

theorem KcpCall.Runs.kcp {body : Nat → State → Reply} :
    KcpCall.Runs ⟨id, 0, ((kcpFind id).getD default).inSafe, c⟩ s (kcp id c body s) := .kcpRun row

end

/-- R150: every command that is a call goes the one path. -/
theorem exec_of_kcpCall {i : Instr} {s : State} {k : KcpCall} (call : s.kcpCall i = some k) : k.Runs s (exec i s) := by
  cases i with
  | sessGrant | mntCfgSet | planChange | layerSetType | cellWrite | sclBankQuery | svcFieldSet | svcMsgSet | fltLogRead =>
    cases call
    dsimp only [exec]
    exact .kcpRun (by decide)
  | headQuery =>
    cases call
    dsimp only [exec]
    exact .kcpBegin (by decide)
  | headAux c head op length i2c address data =>
    rw [exec_headAux, execHeadAux]
    by_cases waits : (s.head head.toNat).aux.isSome = true
    · exact nomatch (if_pos waits).symm.trans call
    · cases (if_neg waits).symm.trans call
      rw [if_neg waits]
      exact .kcpBegin (by decide)
  -- every other row is no call, or one whose index row decides all but its effect
  | _ => cases call <;> (dsimp only [exec]; exact .kcp (by decide))

/-! ### A command's turn -/

theorem kcpTurn_iff {id : Nat} {c : KcpCtx} {s : State} :
    kcpTurn id c s = true ↔ kcpHere id c s = true ∧ kcpFenced c (s.kcpVersion c) s = false ∧ kcpStored c s = none := by
  simp only [kcpTurn, Bool.and_eq_true, Bool.not_eq_true', Option.isNone_iff_eq_none, and_assoc]

section
variable {id extra : Nat} {inSafe : Bool} {c : KcpCtx} {body : Nat → State → Reply ⊕ State} {s : State}

/-- R139, R145, log 31: a row that is not the command its path has taken, or that a fence holds, changes nothing. -/
theorem kcpBegin_idle (idle : kcpHere id c s = false ∨ kcpFenced c (s.kcpVersion c) s = true) :
    kcpBegin id extra inSafe c body s = done s :=
  if_pos (by simpa only [Bool.or_eq_true, Bool.not_eq_true'] using idle)

/-- R163: a command over UDP that repeats a sequence number answered has its stored response sent again. -/
theorem kcpBegin_repeats {n : Fin 8} {r : StoredRsp} (via : c.via = .udp n) (here : kcpHere id c s = true)
    (free : kcpFenced c (s.kcpVersion c) s = false) (stored : kcpStored c s = some r) :
    ∃ secret, kcpBegin id extra inSafe c body s = done (kcpRelease c (udpResend n secret r s)) := by
  simp only [kcpBegin, here, free, stored, via, Bool.not_true, Bool.or_self, Bool.false_eq_true, if_false]
  exact ⟨_, rfl⟩

end

/-! ### The checks in their order -/

/-- R151: what the checks find of a call; none when it passes them all. -/
def KcpCall.check (k : KcpCall) (s : State) : Option (Status × Nat) :=
  kcpCheck k.id ((kcpFind k.id).getD default).pfOnly (((kcpFind k.id).getD default).fixed + k.extra) k.inSafe (s.kcpFn k.ctx) (s.kcpSession k.ctx)
    k.ctx.handle k.ctx.seq k.ctx.len.toNat s

section
variable {k : KcpCall} {s : State}

/-- R151: a call in its turn ends where the first check that fails has it end. -/
theorem KcpCall.denied {st : Status} {d : Nat} {body : Nat → State → Reply ⊕ State} (turn : kcpTurn k.id k.ctx s = true)
    (check : k.check s = some (st, d)) : kcpBegin k.id k.extra k.inSafe k.ctx body s = .next (kcpDeny k s st d) := by
  obtain ⟨here, free, fresh⟩ := kcpTurn_iff.mp turn
  rw [KcpCall.check] at check
  simp only [kcpBegin, here, free, fresh, check, Bool.not_true, Bool.or_self, Bool.false_eq_true, if_false]
  rfl

variable (ordinary : k.id ≠ 0)
include ordinary

theorem KcpCall.check_noSession (closed : s.kcpSession k.ctx = none) : k.check s = some (.badSession, 0) := by
  rw [check, closed]
  exact if_pos ⟨ordinary, .inl rfl⟩

/-- R151: on an open session, the handle, the sequence number, the version, the function, its grant, the length and the safe state. -/
theorem KcpCall.check_session {x : Session} (row : (kcpFind k.id).isSome = true) (session : s.kcpSession k.ctx = some x) :
    k.check s =
      if k.ctx.handle ≠ x.handle then some (.badSession, x.handle.toNat)
      else if k.ctx.seq ≠ x.expected then some (.sequence, x.expected.toNat)
      else if x.version.toNat < kcpSince k.id then some (.unsupported, kcpSince k.id)
      else if ((kcpFind k.id).getD default).pfOnly = true ∧ s.kcpFn k.ctx ≠ 0 then some (.pfOnly, 0)
      else if s.hasCmdGroup (s.kcpFn k.ctx) (k.id / 256) = false then some (.notGranted, 8)
      else if k.ctx.len.toNat < ((kcpFind k.id).getD default).fixed + k.extra then
        some (.badLength, ((kcpFind k.id).getD default).fixed + k.extra)
      else if s.flt.safe = true ∧ k.inSafe = false then some (.safeState, 0)
      else none := by
  have found : (kcpFind k.id).isNone = false := by rw [← Option.not_isSome, row]; rfl
  simp only [check, kcpCheck, session, ordinary, found, Option.isNone_some, Bool.false_eq_true, Bool.not_eq_true', BitVec.toNat_inj, ne_eq,
    not_false_eq_true, true_and, false_and, false_or, if_false]

end

end Sys2Proof.Machine
end

section
/-! SUPPORT. What a frame moves on its way: the Ethernet ports and the counters alone (R354, R364, R373). -/

namespace Sys2Proof.Machine

/-- The state with the Ethernet ports and the counters erased. -/
def State.sansFrames (s : State) : State := { s with net := {}, pmu := {} }

theorem State.enqueue_sansFrames (p q : Nat) (f : QFrame) (s : State) : (s.enqueue p q f).sansFrames = s.sansFrames :=
  ite_keeps State.sansFrames rfl rfl

theorem State.manage_sansFrames (p : Nat) (what : String) (fields : List Nat) (s : State) :
    (s.manage p what fields).sansFrames = s.sansFrames := ite_keeps State.sansFrames (enqueue_sansFrames ..) rfl

theorem State.keepNeighbour_sansFrames (p addr : Nat) (n : Neighbour) (s : State) :
    (s.keepNeighbour p addr n).sansFrames = s.sansFrames := by
  unfold keepNeighbour
  dsimp only
  split
  · rfl
  · rfl

theorem State.sendIp_sansFrames (p q addr : Nat) (f : QFrame) (s : State) : (s.sendIp p q addr f).sansFrames = s.sansFrames := by
  refine ite_keeps State.sansFrames rfl (ite_keeps State.sansFrames (enqueue_sansFrames ..) (ite_keeps State.sansFrames rfl ?_))
  exact (manage_sansFrames ..).trans (keepNeighbour_sansFrames ..)

theorem State.sendKcp_frame (p peer port : Nat) (bytes : List Byte) (s : State) :
    (s.sendKcp p peer port bytes).host = s.host ∧ (s.sendKcp p peer port bytes).mem = s.mem ∧ (s.sendKcp p peer port bytes).seq = s.seq ∧
    (s.sendKcp p peer port bytes).out = s.out := by
  have h : (s.sendKcp p peer port bytes).sansFrames = s.sansFrames := sendIp_sansFrames ..
  generalize s.sendKcp p peer port bytes = t at h ⊢
  exact ⟨(congrArg State.host h :), (congrArg State.mem h :), (congrArg State.seq h :), (congrArg State.out h :)⟩

/-- R160: a datagram of a UDP session takes the session's next counter. -/
theorem udpSend_frame (k kind : Nat) (secret : Bool) (body : List Byte) (s : State) :
    (udpSend k kind secret body s).host = (s.modUdp k fun u => { u with txCounter := u.txCounter + 1 }).host ∧
    (udpSend k kind secret body s).out = s.out := by
  obtain ⟨host, -, -, out⟩ := State.sendKcp_frame (s.udp k).eth (s.udp k).peer (s.udp k).udpPort
    (sealDgram (s.udp k).key kind secret (s.udp k).keySlot (s.udp k).session.handle (s.udp k).txCounter body)
    (s.modUdp k fun u => { u with txCounter := u.txCounter + 1 })
  exact ⟨host, out⟩

theorem udpSend_udp (k kind : Nat) (secret : Bool) (body : List Byte) (s : State) (j : Nat) :
    (udpSend k kind secret body s).udp j = (s.modUdp k fun u => { u with txCounter := u.txCounter + 1 }).udp j :=
  congrArg (fun h : HostSt => tabGet h.udp j) (udpSend_frame k kind secret body s).1

end Sys2Proof.Machine
end

section
/-! SUPPORT. What has been sent stays sent (log 7): an event record, over PCIe or UDP, adds to it. -/

namespace Sys2Proof.Machine

/-- What `s` has sent, `t` has sent too. -/
def State.SentIn (s t : State) : Prop := s.out <:+ t.out

theorem State.SentIn.refl (s : State) : s.SentIn s := List.suffix_refl _

theorem State.SentIn.trans {s t u : State} (h : s.SentIn t) (h' : t.SentIn u) : s.SentIn u := List.IsSuffix.trans h h'

theorem State.SentIn.of_out {s t : State} (h : t.out = s.out) : s.SentIn t := by rw [SentIn, h]

theorem State.SentIn.mem {s t : State} {o : Out} (h : s.SentIn t) (sent : o ∈ s.out) : o ∈ t.out := h.subset sent

theorem State.SentIn.ite {c : Prop} {_ : Decidable c} {s a b : State} (ha : s.SentIn a) (hb : s.SentIn b) :
    s.SentIn (if c then a else b) := by
  split
  · exact ha
  · exact hb

theorem State.SentIn.foldl {α : Type} {f : State → α → State} (h : ∀ (s : State) x, s.SentIn (f s x)) (l : List α) (s : State) :
    s.SentIn (l.foldl f s) :=
  List.foldlRecOn (motive := s.SentIn) l f (.refl s) fun _ sent _ _ => sent.trans (h ..)

theorem State.sentIn_emit (o : Out) (s : State) : s.SentIn (s.emit o) := List.suffix_cons ..

theorem State.sentIn_signal (f n : Nat) (s : State) : s.SentIn (s.signal f n) := .ite (.of_out rfl) (sentIn_emit ..)

theorem State.sentIn_putRecord (f n t : Nat) (subject : Half) (payload : List Byte) (s : State) : s.SentIn (s.putRecord f n t subject payload) := by
  refine .trans ?_ (.ite (sentIn_signal ..) (.refl _))
  exact (sentIn_emit _ (s.setRing f n _)).trans (sentIn_emit ..)

theorem State.sentIn_ringRecord (f t : Nat) (subject : Half) (payload : List Byte) (s : State) : s.SentIn (s.ringRecord f t subject payload) := by
  unfold ringRecord
  split
  · exact .refl s
  · exact .ite (.ite (.refl s) (.of_out rfl)) (sentIn_putRecord ..)

theorem State.sentIn_udpRecord (k t : Nat) (subject : Half) (payload : List Byte) (s : State) : s.SentIn (s.udpRecord k t subject payload) :=
  .ite (.ite (.of_out rfl) (.of_out (udpSend_frame ..).2)) (.refl s)

theorem State.sentIn_payStale (f : Nat) (s : State) : s.SentIn (s.payStale f) := .ite (sentIn_ringRecord ..) (.refl s)

theorem State.sentIn_payOwed (s : State) : s.SentIn s.payOwed := by
  have surprise : ∀ c : Prop, ∀ _ : Decidable c, ∀ subject payload, ∀ f : HostSt → HostSt,
      s.SentIn (if c then s else (s.ringRecord 0 0x0A subject payload).modHost f) :=
    fun _ _ _ _ _ => .ite (.refl s) (sentIn_ringRecord ..)
  refine .ite (.refl s) (.ite ?_ (surprise ..))
  exact (surprise ..).trans (sentIn_ringRecord ..)

theorem State.sentIn_hostRecord (f t : Nat) (subject : Half) (payload : List Byte) (s : State) : s.SentIn (s.hostRecord f t subject payload) := by
  refine .ite (.ite (.refl s) (.of_out rfl)) (.ite (.of_out rfl) ?_)
  exact (State.SentIn.ite (sentIn_payOwed s) (.refl s)).trans ((sentIn_payStale ..).trans (sentIn_ringRecord ..))

theorem State.sentIn_record (f t : Nat) (subject : Half) (payload : List Byte) (s : State) : s.SentIn (s.record f t subject payload) :=
  (sentIn_hostRecord ..).trans (.foldl (fun _ _ => .ite (sentIn_udpRecord ..) (.refl _)) ..)

end Sys2Proof.Machine
end

section
/-! SUPPORT. The answer to a KCP command on its path: what it makes of the path, and what it leaves (R136, R140, R148, R153, R163). -/

namespace Sys2Proof.Machine

theorem State.record_mbx (f t : Nat) (subject : Half) (payload : List Byte) (s : State) (g n : Nat) :
    (s.record f t subject payload).mbx g n = s.mbx g n := by
  have h := record_lasting f t subject payload s
  generalize s.record f t subject payload = u at h ⊢
  exact (congrArg (State.mbx · g n) h :)

theorem State.record_sansSent (f t : Nat) (subject : Half) (payload : List Byte) (s : State) :
    (s.record f t subject payload).sansSent = s.sansSent :=
  (foldl_keeps State.sansSent (fun _ _ => ite_keeps State.sansSent (udpRecord_sansSent ..) rfl) ..).trans (hostRecord_sansSent ..)

theorem State.count_mbx (e : Nat) (s : State) (f n : Nat) : (s.count e).mbx f n = s.mbx f n := rfl

theorem State.driveErrn_udp (s : State) (k : Nat) : s.driveErrn.udp k = s.udp k := by simp only [udp, driveErrn_frame]

/-! ### A response entry in a mailbox's ring -/

/-- R140: a response entry as it is written, with the phase bit of its pass over the ring. -/
def mbxEntry (f n : Nat) (r : Response) (s : State) : Response :=
  { r with flags := BitVec.ofNat 8 (packBits [(0, 1, b2n (s.mbx f n).phase), (1, 1, b2n s.disagree)]) }

/-- R140: where a response entry goes out: its slot is the producer's, and its address 64 bytes a slot from the ring's base. -/
def mbxSent (f n : Nat) (r : Response) (s : State) : Out :=
  .response (4 * f + n) ((s.mbx f n).rspProd.toNat % (s.mbx f n).size)
    ((s.mbx f n).rspBase.toNat + 64 * ((s.mbx f n).rspProd.toNat % (s.mbx f n).size)) (mbxEntry f n r s) ((mbxEntry f n r s).bytes false [])

section
variable {f n : Nat} {r : Response} {s : State}

/-- R140: where host memory can be reached, the entry goes out, the producer moves, and a record tells of it. -/
theorem mbxRespond_reach (reach : s.fnReach f = true) : ∃ subject payload, mbxRespond f n r s =
    (((s.modMbx f n fun m => { m with rspProd := m.rspProd + 1 }).emit (mbxSent f n r s)).count 198).record f 2 subject payload :=
  ⟨_, _, if_pos reach⟩

theorem mbxRespond_mbx (reach : s.fnReach f = true) :
    (mbxRespond f n r s).mbx f n = { s.mbx f n with rspProd := (s.mbx f n).rspProd + 1 } := by
  obtain ⟨subject, payload, h⟩ := mbxRespond_reach (n := n) (r := r) reach
  rw [h, State.record_mbx, State.count_mbx]
  exact State.modMbx_mbx ..

theorem mbxRespond_sent (reach : s.fnReach f = true) : mbxSent f n r s ∈ (mbxRespond f n r s).out := by
  obtain ⟨subject, payload, h⟩ := mbxRespond_reach (n := n) (r := r) reach
  rw [h]
  exact (State.sentIn_record ..).mem List.mem_cons_self

/-- R136: a response touches no session. -/
theorem mbxRespond_session : ((mbxRespond f n r s).mbx f n).session = (s.mbx f n).session := by
  by_cases reach : s.fnReach f = true
  · rw [mbxRespond_mbx reach]
  · rw [mbxRespond, if_neg reach]

theorem mbxRespond_sansSent : (mbxRespond f n r s).sansSent = s.sansSent :=
  ite_keeps State.sansSent ((State.record_sansSent ..).trans rfl) rfl

end

/-! ### The answer -/

/-- R142, R143: the response to a command, before its path gives it flags. -/
def kcpResponse (id : Nat) (c : KcpCtx) (st : Status) (detail : Nat) (result : List Byte) : Response :=
  { id := BitVec.ofNat 16 id, flags := 0, tag := c.tag, status := BitVec.ofNat 16 st.code, seq := c.seq, detail := BitVec.ofNat 32 detail,
    result := result }

/-- R148, R155: what an answer of status `st` makes of its session. -/
def Session.afterAnswer (st : Status) (x : Session) : Session :=
  { x with answered := satInc x.answered,
           refusals := if st = .ok ∨ st = .inProgress then x.refusals else satInc x.refusals,
           expected := if st = .badSession ∨ st = .sequence then x.expected else x.expected + 1 }

/-- R5, R148, R219: the state in which a response is written: the session has counted it, and the counter of refused static fields a refusal. -/
def kcpCounted (id : Nat) (c : KcpCtx) (r : Reply) : State :=
  let t := if id = 0 || id = 1 then r.st else sessAnswered c r.status r.st
  if r.status = .busyStatic then t.count 395 else t

theorem kcpAnswer_eq (id : Nat) (c : KcpCtx) (version : Nat) (r : Reply) :
    kcpAnswer id c version r = kcpRelease c (kcpRespond id c version r.status r.detail (r.result.take 48) (kcpCounted id c r)) := rfl

section
variable {id version : Nat} {c : KcpCtx} {r : Reply}

/-- R155: SESS_OPEN and SESS_CLOSE are counted by no session. -/
theorem kcpCounted_host_unbound (unbound : id = 0 ∨ id = 1) : (kcpCounted id c r).host = r.st.host :=
  ite_then State.host (congrArg State.host (if_pos (by simpa using unbound))) rfl

theorem kcpCounted_host (bound : 2 ≤ id) : (kcpCounted id c r).host = (sessAnswered c r.status r.st).host :=
  ite_then State.host (congrArg State.host (if_neg (by simp; omega))) rfl

theorem kcpCounted_sansSent : (kcpCounted id c r).sansSent = r.st.sansSent := by
  have session : (sessAnswered c r.status r.st).sansSent = r.st.sansSent := by
    unfold sessAnswered State.modSession
    split
    · rfl
    · rfl
  exact ite_then State.sansSent (ite_keeps State.sansSent rfl session) rfl

/-- An answer moves the host port's block, the network ports, the counters and what has been sent. -/
theorem kcpAnswer_sansSent : (kcpAnswer id c version r).sansSent = r.st.sansSent := by
  have release : ∀ s, (kcpRelease c s).sansSent = s.sansSent := by
    intro s
    unfold kcpRelease
    split
    · rfl
    · rfl
  have respond : ∀ st detail result s, (kcpRespond id c version st detail result s).sansSent = s.sansSent := by
    intro st detail result s
    refine ite_keeps State.sansSent rfl ?_
    dsimp only
    split
    · exact mbxRespond_sansSent
    · exact udpSend_sansSent ..
  rw [kcpAnswer_eq, release, respond, kcpCounted_sansSent]

theorem kcpAnswer_frame : (kcpAnswer id c version r).mem = r.st.mem ∧ (kcpAnswer id c version r).seq = r.st.seq ∧
    (kcpAnswer id c version r).truss = r.st.truss := by
  have h := kcpAnswer_sansSent (id := id) (c := c) (version := version) (r := r)
  generalize kcpAnswer id c version r = t at h ⊢
  exact ⟨(congrArg State.mem h :), (congrArg State.seq h :), (congrArg State.truss h :)⟩

/-! ### On a mailbox -/

section
variable {n : Fin 4} (via : c.via = .mailbox n)
include via

theorem sessAnswered_mailbox (st : Status) (s : State) :
    sessAnswered c st s = s.modMbx c.fn n fun m => { m with session := m.session.map (Session.afterAnswer st) } := by
  simp only [sessAnswered, State.modSession, via]
  rfl

theorem kcpRelease_mailbox (s : State) : kcpRelease c s = s.modMbx c.fn n fun m => { m with busy := false, taken := none } := by
  simp only [kcpRelease, via]

theorem kcpRespond_mailbox {st : Status} (loud : kcpQuiet c version st = false) (detail : Nat) (result : List Byte) (s : State) :
    kcpRespond id c version st detail result s = mbxRespond c.fn n (kcpResponse id c st detail result) s := by
  simp only [kcpRespond, loud, via, Bool.false_eq_true, if_false]
  rfl

theorem kcpRespond_session (st : Status) (detail : Nat) (result : List Byte) (s : State) :
    ((kcpRespond id c version st detail result s).mbx c.fn n).session = (s.mbx c.fn n).session := by
  cases quiet : kcpQuiet c version st with
  | true => rw [kcpRespond, if_pos quiet]
  | false => rw [kcpRespond_mailbox via quiet, mbxRespond_session]

/-- R136, R153: an answer leaves the mailbox free, with the session that the command's effect left on it. -/
theorem kcpAnswer_mailbox : ((kcpAnswer id c version r).mbx c.fn n).busy = false ∧
    ((kcpAnswer id c version r).mbx c.fn n).session = ((kcpCounted id c r).mbx c.fn n).session := by
  rw [kcpAnswer_eq, kcpRelease_mailbox via, State.modMbx_mbx]
  exact ⟨rfl, kcpRespond_session via ..⟩

theorem kcpCounted_mbx (bound : 2 ≤ id) : (kcpCounted id c r).mbx c.fn n =
    { r.st.mbx c.fn n with session := (r.st.mbx c.fn n).session.map (Session.afterAnswer r.status) } := by
  rw [State.mbx, kcpCounted_host bound, sessAnswered_mailbox via]
  exact State.modMbx_mbx ..

theorem kcpCounted_fnReach (bound : 2 ≤ id) (f : Nat) : (kcpCounted id c r).fnReach f = r.st.fnReach f := by
  have h : ∀ t : State, t.host = (sessAnswered c r.status r.st).host → t.fnReach f = r.st.fnReach f := by
    intro t host
    rw [sessAnswered_mailbox via] at host
    simp only [State.fnReach, State.hasFn, State.fn, host]
    rfl
  exact h _ (kcpCounted_host bound)

end

/-! ### On a UDP session -/

/-- R163: an answer leaves a UDP session in use, or not, as the command's effect left it. -/
theorem kcpAnswer_inUse {k : Fin 8} (via : c.via = .udp k) :
    ((kcpAnswer id c version r).udp k).inUse = ((kcpCounted id c r).udp k).inUse := by
  have released : ∀ s, ((kcpRelease c s).udp k).inUse = (s.udp k).inUse := fun s => by
    simp only [kcpRelease, via, State.modUdp_udp, if_true]
  have responded : ∀ st detail result s, ((kcpRespond id c version st detail result s).udp k).inUse = (s.udp k).inUse := by
    intro st detail result s
    refine ite_keeps (fun t : State => (t.udp k).inUse) rfl ?_
    simp only [via, udpRespond, udpAnswer, udpSend_udp, State.modUdp_udp, if_true]
  rw [kcpAnswer_eq, released, responded]

end

end Sys2Proof.Machine
end

section
/-! SUPPORT. Commands as they end, and the session commands (R151–R157). -/

namespace Sys2Proof.Machine

/-! ### How a command that passes the checks ends -/

section
variable {id : Nat} {c : KcpCtx} {body : Nat → State → Reply} {s : State} {r : Reply}

/-- A ready command ends with the answer that its own part gives, as long as it is one that is answered (R153). -/
theorem kcp_answered (ready : kcpReady id 0 c s = true) (ordinary : id ≠ 0) (own : body (s.kcpFn c) s = r)
    (stays : kcpSessionGone id c r.st = false) : kcp id c body s = .next (kcpAnswer id c (s.kcpVersion c) r).driveErrn := by
  rw [kcp, kcpRun, kcpBegin_ready ready ordinary, own]
  exact if_neg (by simp [stays])

/-- A ready command that leaves the sessions of its path as they are and answers IN_PROGRESS ends in `kcpStart`. -/
theorem kcp_start_of_sessions {t : State} (ready : kcpReady id 0 c s = true) (ordinary : id ≠ 0)
    (own : body (s.kcpFn c) s = ⟨.inProgress, 0, [], t⟩) (host : t.host = s.host) : kcp id c body s = .next (kcpStart id c s t) := by
  refine kcp_answered ready ordinary own (kcpSessionGone_of ?_)
  rw [kcpSession_congr (congrArg HostSt.mbx host) (.inr (congrArg HostSt.udp host))]
  exact kcpReady_session ready

/-- R153: SESS_OPEN and SESS_CLOSE are answered whatever has become of the session. -/
theorem kcpSessionGone_unbound (unbound : id = 0 ∨ id = 1) (t : State) : kcpSessionGone id c t = false := by
  obtain rfl | rfl := unbound
  · rfl
  · rfl

end

theorem driveErrn_kcpSession (c : KcpCtx) (s : State) : s.driveErrn.kcpSession c = s.kcpSession c :=
  kcpSession_congr (by simp only [State.driveErrn_frame]) (.inr (by simp only [State.driveErrn_frame]))

/-! ### SESS_OPEN -/

theorem State.drawHandle_ne_zero (s : State) : s.drawHandle.1 ≠ 0 := by
  unfold drawHandle
  dsimp only
  split
  · decide
  · assumption

section
variable {c : KcpCtx} {s : State}

/-- R151: SESS_OPEN is checked for its sequence number and its length alone. -/
theorem kcpCheck_sessOpen {f : Nat} (seq : c.seq = 0) (length : 24 ≤ c.len.toNat) :
    kcpCheck 0 ((kcpFind 0).getD default).pfOnly (((kcpFind 0).getD default).fixed + 0) ((kcpFind 0).getD default).inSafe f (s.kcpSession c)
      c.handle c.seq c.len.toNat s = none := by
  have row : kcpFind 0 = some ⟨0, false, 24, true⟩ := rfl
  simp [kcpCheck, row, seq, State.hasCmdGroup, Nat.not_lt.mpr length]

theorem execSessOpen_passed {lo hi : Byte} {mask : Half} (client : List Byte) (turn : kcpTurn 0 c s = true) (seq : c.seq = 0)
    (length : 24 ≤ c.len.toNat) : execSessOpen c lo hi client mask s =
      .next (kcpAnswer 0 c (s.kcpVersion c) (sessOpen c lo.toNat hi.toNat mask.toNat (s.kcpFn c) s)).driveErrn := by
  obtain ⟨here, free, fresh⟩ := kcpTurn_iff.mp turn
  simp only [execSessOpen, kcp, kcpRun, kcpBegin, here, free, fresh, kcpCheck_sessOpen seq length, kcpSessionGone_unbound (.inl rfl),
    Bool.not_true, Bool.or_self, Bool.false_eq_true, if_false]
  rfl

/-- R153, R155: a session of version `v` is open on mailbox `n` of function `f`, under the handle drawn. -/
def openMbxSession (v f n : Nat) (s : State) : State :=
  s.drawHandle.2.modMbx f n fun m => { m with session := some (newSession v s.drawHandle.1 s.drawHandle.2) }

section
variable {n : Fin 4} (via : c.via = .mailbox n)
include via

/-- R153: the highest version in the host's range is the one opened. -/
theorem sessOpen_mailbox {lo hi v : Nat} (mask : Nat) (range : lo ≤ hi) (chosen : kcpChoose lo hi = some v) :
    ∃ bs, sessOpen c lo hi mask (s.kcpFn c) s = replyOk (openMbxSession v c.fn n s) bs := by
  have mailbox : overUdp c = false := by simp only [overUdp, KcpCtx.net, via]
  rw [sessOpen, if_neg (Nat.not_lt.mpr range), if_neg (by simp [mailbox]), chosen]
  simp only [State.kcpFn, via]
  exact ⟨_, rfl⟩

/-- R153, R155: SESS_OPEN's answer leaves the mailbox free and the session on it. -/
theorem sessOpen_opens {version v : Nat} {bs : List Byte} {t : State}
    (h : t = (kcpAnswer 0 c version (replyOk (openMbxSession v c.fn n s) bs)).driveErrn) :
    (t.mbx c.fn n).session = some (newSession v s.drawHandle.1 s.drawHandle.2) ∧ (t.mbx c.fn n).busy = false ∧ t.mem = s.mem ∧ t.seq = s.seq := by
  have host : (kcpCounted 0 c (replyOk (openMbxSession v c.fn n s) bs)).host = (openMbxSession v c.fn n s).host := kcpCounted_host_unbound (.inl rfl)
  obtain ⟨free, session⟩ := kcpAnswer_mailbox (id := 0) (version := version) (r := replyOk (openMbxSession v c.fn n s) bs) via
  obtain ⟨mem, seq, -⟩ := kcpAnswer_frame (id := 0) (c := c) (version := version) (r := replyOk (openMbxSession v c.fn n s) bs)
  subst h
  simp only [State.driveErrn_mbx, State.driveErrn_frame, free, session, mem, seq]
  rw [State.mbx, host]
  exact ⟨congrArg Mbx.session (State.modMbx_mbx ..), trivial, rfl, rfl⟩

end

/-! ### SESS_CLOSE -/

/-- R155: SESS_CLOSE's own part: the session of its path ends. -/
def sessClosed (c : KcpCtx) (f : Nat) (s : State) : State :=
  match c.via with
  | .mailbox n => s.modMbx f n fun m => { m with session := none }
  | .udp k => s.modUdp k fun u => { u with opened := false, inUse := false }

theorem execSessClose_ready (ready : kcpReady 0x0001 0 c s = true) :
    execSessClose c s = .next (kcpAnswer 0x0001 c (s.kcpVersion c) (replyOk (sessClosed c (s.kcpFn c) s))).driveErrn := by
  refine kcp_answered ready (by decide) ?_ (kcpSessionGone_unbound (.inr rfl) _)
  cases via : c.via with
  | mailbox n => simp only [sessClosed, via]
  | udp k => simp only [sessClosed, via]

theorem sessClosed_frame (f : Nat) : (sessClosed c f s).mem = s.mem ∧ (sessClosed c f s).seq = s.seq ∧ (sessClosed c f s).truss = s.truss := by
  unfold sessClosed
  split
  · exact ⟨rfl, rfl, rfl⟩
  · exact ⟨rfl, rfl, rfl⟩

theorem sessClosed_mailbox {n : Fin 4} (via : c.via = .mailbox n) :
    sessClosed c (s.kcpFn c) s = s.modMbx c.fn n fun m => { m with session := none } := by simp only [sessClosed, State.kcpFn, via]

theorem sessClosed_udp {k : Fin 8} (via : c.via = .udp k) (f : Nat) :
    sessClosed c f s = s.modUdp k fun u => { u with opened := false, inUse := false } := by simp only [sessClosed, via]

/-- R153, R155: once SESS_CLOSE has been answered its path has no session. -/
theorem sessClose_ends {version : Nat} :
    (kcpAnswer 0x0001 c version (replyOk (sessClosed c (s.kcpFn c) s))).kcpSession c = none := by
  have host : (kcpCounted 0x0001 c (replyOk (sessClosed c (s.kcpFn c) s))).host = (sessClosed c (s.kcpFn c) s).host :=
    kcpCounted_host_unbound (.inr rfl)
  cases via : c.via with
  | mailbox n =>
    have ended : ((sessClosed c (s.kcpFn c) s).mbx c.fn n).session = none := by
      rw [sessClosed_mailbox via, State.modMbx_mbx]
    rw [State.mbx, ← host] at ended
    simp only [State.kcpSession, via]
    exact (kcpAnswer_mailbox via).2.trans ended
  | udp k =>
    have ended : ((sessClosed c (s.kcpFn c) s).udp k).inUse = false := by
      rw [sessClosed_udp via, State.modUdp_udp, if_pos rfl]
    rw [State.udp, ← host] at ended
    simp only [State.kcpSession, via, (kcpAnswer_inUse via).trans ended, Bool.false_and, Bool.false_eq_true, if_false]

end

end Sys2Proof.Machine
end

section
/-! SUPPORT. KCP over UDP: datagrams that arrive, and the ends of sessions (R160–R163). -/

namespace Sys2Proof.Machine

/-! ### A datagram that is one for KCP -/

theorem State.rxFrame_sansFrames (p wire : Nat) (s : State) : (s.rxFrame p wire).sansFrames = s.sansFrames :=
  ite_keeps State.sansFrames rfl rfl

theorem State.learn_sansFrames (p addr mac : Nat) (s : State) : (s.learn p addr mac).sansFrames = s.sansFrames := by
  unfold learn
  refine (foldl_keeps State.sansFrames (fun _ _ => enqueue_sansFrames ..) ..).trans ?_
  exact keepNeighbour_sansFrames ..

/-- What frames do not move, as KCP over UDP reads it. -/
theorem State.frame_of_sansFrames {s t : State} (h : t.sansFrames = s.sansFrames) :
    t.host = s.host ∧ t.clk = s.clk ∧ t.mem = s.mem ∧ t.seq = s.seq ∧ t.netKeys = s.netKeys :=
  ⟨(congrArg State.host h :), (congrArg State.clk h :), (congrArg State.mem h :), (congrArg State.seq h :), (congrArg State.netKeys h :)⟩

theorem State.udp_of_host {s t : State} (h : t.host = s.host) (k : Nat) : t.udp k = s.udp k := by rw [udp, h, udp]

section
variable {a : UdpIn} {s : State} (carries : s.portCarries a.port = true) (hears : s.kcpHears a = true)
  (heeded : s.udpIgnored a.src.toNat = false)
include carries hears heeded

/-- R162, R163: a datagram to KCP's address by a port that carries traffic, from a sender not ignored, is taken. -/
theorem kcpArrives_heard {go : State → Host.Outcome State Fault Refusal} : kcpArrives a go s = go (s.rxFrame a.port (s.kcpWire a)) := by
  have up : s.portUp a.port = true := (Bool.and_eq_true_iff.mp carries).1
  have same : (s.rxFrame a.port (s.kcpWire a)).udpIgnored a.src.toNat = s.udpIgnored a.src.toNat := by
    obtain ⟨host, clk, -⟩ := State.frame_of_sansFrames (s.rxFrame_sansFrames a.port (s.kcpWire a))
    rw [State.udpIgnored, State.now, host, clk]
    rfl
  rw [kcpArrives, if_neg (by simp [up]), if_neg (by simp [carries, hears])]
  exact if_neg (by simp [same, heeded])

end

/-! ### A hello -/

/-- R161: the session entry that a hello takes, with its handle and session key still to be drawn. -/
def provisional (a : UdpIn) (d : KcpDgram) (handle : Word) (key : Nat) (s : State) : UdpSess :=
  { inUse := true, keySlot := d.slot, role := (tabGet s.netKeys d.slot).role, session := { handle := handle }, peer := a.src.toNat,
    udpPort := a.sport.toNat, eth := a.port, key := key, deadline := s.clk.aon + 2000000000 }

theorem helloTaken_udp (k : Nat) (a : UdpIn) (d : KcpDgram) (s : State) :
    (∃ handle key, (helloTaken k a d s).udp k = provisional a d handle key s) ∧ (helloTaken k a d s).mem = s.mem ∧
    (helloTaken k a d s).seq = s.seq := by
  simp only [helloTaken, State.udp, State.sendKcp_frame, State.modHost_host, tabGet_set, if_true]
  exact ⟨⟨_, _, rfl⟩, rfl, rfl⟩

/-- R161: a well-formed hello, its tag good, for a slot that holds a key, takes the first free entry. -/
theorem execKcpUdpHello_taken {port : Fin 4} {ends : UdpEnds} {bytes : List Byte} {s : State} {k : Nat} {a : UdpIn} {d : KcpDgram}
    (arrives : a = { toUdpEnds := ends, port := port, bytes := bytes, tagOk := true, plain := s.helloPlain bytes }) (reads : d = readDgram a)
    (carries : s.portCarries port = true) (hears : s.kcpHears a = true) (heeded : s.udpIgnored ends.src.toNat = false)
    (framed : d.framed = true) (kind : d.kind = 3) (slot : d.slot ≤ 7) (counter : d.counter = 0)
    (present : (tabGet s.netKeys d.slot).present = true) (free : (List.range 8).find? (fun k => !(s.udp k).inUse) = some k) :
    ∃ t, t.sansFrames = s.sansFrames ∧ execKcpUdpHello port ends bytes true s = done (helloTaken k a d t) := by
  subst arrives
  have heard := s.rxFrame_sansFrames port (s.kcpWire { toUdpEnds := ends, port := port, bytes := bytes, tagOk := true, plain := s.helloPlain bytes })
  rw [execKcpUdpHello, kcpArrives_heard carries hears heeded]
  dsimp only
  generalize s.rxFrame port _ = r at heard ⊢
  obtain ⟨host, -, -, -, keys⟩ := State.frame_of_sansFrames heard
  have learnt := (r.learn_sansFrames port ends.src.toNat ends.mac.toNat).trans heard
  have fits : ¬ 7 < d.slot := Nat.not_lt.mpr slot
  rw [← reads, keys, if_neg (by simp [framed, kind, fits, counter, present])]
  generalize r.learn port ends.src.toNat ends.mac.toNat = u at learnt ⊢
  obtain ⟨host, -⟩ := State.frame_of_sansFrames learnt
  simp only [State.udp_of_host host, free]
  exact ⟨u, learnt, rfl⟩

/-! ### A command -/

/-- R163: what an accepted datagram makes of its session. -/
def UdpSess.accepts (a : UdpIn) (d : KcpDgram) (now : Nat) (u : UdpSess) : UdpSess :=
  { u with rxCounter := d.counter, peer := a.src.toNat, udpPort := a.sport.toNat, eth := a.port, secret := d.secret,
           deadline := if u.opened then now + 30000000000 else u.deadline }

theorem dgramAccepted_udp (k : Nat) (a : UdpIn) (d : KcpDgram) (s : State) :
    (dgramAccepted k a d s).udp k = (s.udp k).accepts a d s.clk.aon ∧ (dgramAccepted k a d s).host.taken = s.host.taken ∧
    (dgramAccepted k a d s).mem = s.mem ∧ (dgramAccepted k a d s).seq = s.seq := by
  have learnt := s.learn_sansFrames a.port a.src.toNat a.mac.toNat
  unfold dgramAccepted
  generalize s.learn a.port a.src.toNat a.mac.toNat = u at learnt ⊢
  obtain ⟨host, -, mem, seq, -⟩ := State.frame_of_sansFrames learnt
  refine ⟨?_, (congrArg HostSt.taken host :), mem, seq⟩
  rw [State.modUdp_udp, if_pos rfl, State.udp_of_host host]
  rfl

/-- R163: the entry that an accepted datagram leaves waiting. -/
def dgramEntry (d : KcpDgram) (s : State) : Taken := { entry := readEntry true d.body, order := s.host.taken, secret := d.secret }

theorem dgramWaits_udp (k : Nat) (d : KcpDgram) (s : State) :
    (dgramWaits k d s).udp k = { s.udp k with waiting := (s.udp k).waiting ++ [dgramEntry d s] } := by
  have queued := State.modUdp_udp k (fun u => { u with waiting := u.waiting ++ [dgramEntry d s] }) k s
  rw [if_pos rfl] at queued
  exact queued

/-- R154: an entry at the head of a UDP session's queue whose ID has a row waits for the command of that row. -/
theorem kcpUnknown_udp_row {k : Nat} {t : Taken} {ts : List Taken} {s : State} (known : k < 8) (inUse : (s.udp k).inUse = true)
    (head : (s.udp k).waiting = t :: ts) (row : (kcpFind t.entry.id.toNat).isSome = true) :
    kcpUnknown 0 (.udp (Fin.ofNat 8 k)) s = done s := by
  have same : (Fin.ofNat 8 k).val = k := Nat.mod_eq_of_lt known
  simp only [kcpUnknown, kcpTaken, same, inUse, head, List.head?_cons, row, if_true]

theorem State.dgramSession_of_host {s t : State} (h : t.host = s.host) (d : KcpDgram) : t.dgramSession d = s.dgramSession d := by
  simp only [dgramSession, udp_of_host h]

theorem State.dgramSession_some {s : State} {d : KcpDgram} {k : Nat} (found : s.dgramSession d = some k) : k < 8 ∧ (s.udp k).inUse = true := by
  have meets := List.find?_some found
  simp only [Bool.and_eq_true] at meets
  exact ⟨List.mem_range.mp (List.mem_of_find?_eq_some found), meets.1.1⟩

section
variable {port : Fin 4} {ends : UdpEnds} {bytes plain : List Byte} {s : State} {tagOk : Bool} {a : UdpIn}
  (arrives : a = { toUdpEnds := ends, port := port, bytes := bytes, tagOk := tagOk, plain := plain })
  (carries : s.portCarries port = true) (hears : s.kcpHears a = true) (heeded : s.udpIgnored ends.src.toNat = false)
include arrives carries hears heeded

/-- R163: a well-formed command, its tag good and its counter the highest of its session, is accepted and waits. -/
theorem execKcpUdpCommand_waits {k : Nat} {d : KcpDgram} (good : tagOk = true) (reads : d = readDgram a) (named : s.dgramSession d = some k)
    (framed : d.framed = true) (kind : d.kind = 0) (counts : (s.udp k).countsUp d.counter = true) (alone : (s.udp k).waiting = [])
    (fresh : ((s.udp k).stored.find? fun r => r.seq == (readEntry true d.body).seq) = none)
    (row : (kcpFind (readEntry true d.body).id.toNat).isSome = true) :
    execKcpUdpCommand port ends bytes tagOk plain s = done (dgramWaits k d (dgramAccepted k a d (s.rxFrame port (s.kcpWire a)))) := by
  subst arrives
  have heard := s.rxFrame_sansFrames port (s.kcpWire { toUdpEnds := ends, port := port, bytes := bytes, tagOk := tagOk, plain := plain })
  rw [execKcpUdpCommand, kcpArrives_heard carries hears heeded]
  dsimp only
  generalize s.rxFrame port _ = r at heard ⊢
  obtain ⟨host, -⟩ := State.frame_of_sansFrames heard
  obtain ⟨known, inUse⟩ := State.dgramSession_some named
  have accepted := (dgramAccepted_udp k { toUdpEnds := ends, port := port, bytes := bytes, tagOk := tagOk, plain := plain } d r).1
  rw [State.udp_of_host host] at accepted
  rw [← reads, State.dgramSession_of_host host, named]
  dsimp only
  generalize dgramAccepted k _ d r = v at accepted ⊢
  have inUse' : ((dgramWaits k d v).udp k).inUse = true := by
    rw [dgramWaits_udp, accepted]
    exact inUse
  have head : ((dgramWaits k d v).udp k).waiting = [dgramEntry d v] := by
    rw [dgramWaits_udp, accepted]
    exact congrArg (· ++ [dgramEntry d v]) alone
  have fresh' : ((v.udp k).stored.find? fun r => r.seq == (readEntry true d.body).seq) = none := by
    rw [accepted]
    exact fresh
  rw [State.udp_of_host host, if_neg (by simp [framed, kind, good, counts]), fresh']
  exact kcpUnknown_udp_row known inUse' head row

/-- R163: a datagram whose tag fails is dropped, whatever else it holds. -/
theorem execKcpUdpCommand_forged (bad : tagOk = false) : execKcpUdpCommand port ends bytes tagOk plain s =
    done (udpDrop ends.src.toNat (s.rxFrame port (s.kcpWire a))) := by
  subst arrives
  rw [execKcpUdpCommand, kcpArrives_heard carries hears heeded]
  dsimp only
  split
  · rfl
  · exact if_pos (by simp [bad])

end

/-! ### The ends of sessions -/

/-- R161, R163: a session that ends at an instant has ended once the instant has come. -/
theorem closeUdp_at (k at' : Nat) (s : State) :
    ((closeUdp k (s.untilAon at')).driveErrn.udp k).inUse = false ∧ at' ≤ (closeUdp k (s.untilAon at')).driveErrn.clk.aon ∧
    (closeUdp k (s.untilAon at')).driveErrn.mem = s.mem := by
  have due : at' ≤ (s.untilAon at').clk.aon := by rw [State.untilAon_aon]; exact Nat.le_max_right ..
  rw [State.driveErrn_udp, closeUdp_udp, if_pos rfl]
  simp only [State.driveErrn_frame]
  exact ⟨trivial, due, rfl⟩

end Sys2Proof.Machine
end

section
/-! SUPPORT. What the truss, planner and standing-slot commands answer (R179, R186, R187, R189). -/

namespace Sys2Proof.Machine

/-! ### Store slots -/

/-- R186: the commits that a change of slot `k` is told to stand in the store slots alone. -/
theorem State.touchBase_frame (k : Nat) (s : State) : (s.touchBase k).host = s.host ∧ (s.touchBase k).mem = s.mem ∧ (s.touchBase k).seq = s.seq := by
  have h : (s.touchBase k).sansTruss = s.sansTruss := by
    refine foldl_keeps State.sansTruss (fun _ _ => ?_) ..
    rfl
  generalize s.touchBase k = t at h ⊢
  exact ⟨(congrArg State.host h :), (congrArg State.mem h :), (congrArg State.seq h :)⟩

/-- R179: an idle slot has no check and no standing write to drop. -/
theorem dropJob_idle {k : Nat} {s : State} (idle : (s.store k).idle = true) : dropJob k s = s := by
  have none : (s.store k).job = .none := by
    revert idle
    unfold StoreSlot.idle
    split
    · exact fun _ => ‹_›
    · exact nofun
  rw [dropJob, none]

section
variable {c : KcpCtx} {s : State}

/-! ### TRUSS_LOAD, TRUSS_CHECK, TRUSS_QUERY, TRUSS_UNLOAD -/

/-- R179: slot `k` as TRUSS_LOAD from device memory leaves it. -/
def loadSlot (k : Nat) (job : StoreJob) (f version : Nat) (s : State) : State :=
  (s.touchBase k).modStore k fun _ => { state := .loading, job := job, jobFn := f, jobVersion := version, fromStanding := 0 }

theorem loadSlot_host (k : Nat) (job : StoreJob) (f version : Nat) (s : State) : (loadSlot k job f version s).host = s.host :=
  (State.touchBase_frame k s).1

theorem execTrussLoad_device {slot standing : Byte} {address length : Long} (ready : kcpReady 0x0100 0 c s = true) (known : slot.toNat ≤ 3)
    (fits : length.toNat ≤ 2 ^ 26) (mapped : s.memMapped address.toNat length.toNat = true) (idle : (s.store slot.toNat).idle = true)
    (still : (s.store slot.toNat).state ≠ .running) (free : (s.store slot.toNat).state ≠ .loading) :
    execTrussLoad c slot 0 standing address length s = .next (kcpStart 0x0100 c s
      (loadSlot slot.toNat (.load 0 standing.toNat address.toNat length.toNat) (s.kcpFn c) (s.kcpVersion c) s)) := by
  refine kcp_start_of_sessions ready (by decide) ?_ (loadSlot_host ..)
  dsimp only
  rw [if_neg (by omega), if_neg (by decide), if_neg (not_and_of_not_left _ (by decide)), if_neg (by omega), if_neg (by simp [mapped]),
    if_neg still, if_neg free, if_neg (not_and_of_not_left _ (by decide)), dropJob_idle idle]
  rfl

theorem execTrussCheck_signed {slot : Byte} (ready : kcpReady 0x0101 0 c s = true) (known : slot.toNat ≤ 3)
    (idle : (s.store slot.toNat).idle = true) (held : (s.store slot.toNat).state ≠ .empty) (signed : (s.store slot.toNat).signed = true) :
    execTrussCheck c slot s = .next (kcpStart 0x0101 c s (s.modStore slot.toNat fun x =>
      { x with job := .check, jobFn := s.kcpFn c, changes := 0 })) := by
  refine kcp_start_of_sessions ready (by decide) ?_ rfl
  dsimp only
  rw [if_neg (by omega), if_neg (by simp [idle]), if_neg (by simp [held, signed])]

/-- R189: what TRUSS_QUERY returns of slot `k`. -/
def trussQueryBytes (k : Nat) (s : State) : List Byte :=
  let x := s.store k
  let t := x.truss.getD { format := 0, id := 0, parent := 0 }
  let variant := fun (g : Nat) => if x.state = .running ∧ (s.group g).store = k + 1 then (s.group g).variant else 0xFF
  [BitVec.ofNat 8 x.state.code, BitVec.ofNat 8 t.format, BitVec.ofNat 8 x.variantCount, 0] ++ leBytes 8 t.id ++
    leBytes 8 t.parent ++ leBytes 4 x.detail ++ leBytes 4 x.image.length ++ allGroups.map fun g => BitVec.ofNat 8 (variant g)

theorem trussQueryBytes_length (k : Nat) (s : State) : (trussQueryBytes k s).length = 44 := by
  simp only [trussQueryBytes, allGroups, List.length_append, length_leBytes, List.length_cons, List.length_nil, List.length_map, List.length_range]

theorem trussQueryBytes_state (k : Nat) (s : State) : (trussQueryBytes k s).take 1 = [BitVec.ofNat 8 (s.store k).state.code] := rfl

theorem execTrussQuery_ok {slot : Byte} (ready : kcpReady 0x0102 0 c s = true) (known : slot.toNat ≤ 3) :
    execTrussQuery c slot s = .next (kcpOk 0x0102 c s s (trussQueryBytes slot.toNat s)) :=
  kcp_ok_of_sessions ready (by decide) (if_neg (by omega)) rfl (.inr rfl)

theorem execTrussUnload_idle {slot : Byte} (ready : kcpReady 0x0103 0 c s = true) (known : slot.toNat ≤ 3)
    (idle : (s.store slot.toNat).idle = true) (still : (s.store slot.toNat).state ≠ .running) :
    execTrussUnload c slot s = .next (kcpOk 0x0103 c s ((s.touchBase slot.toNat).modStore slot.toNat fun _ => {}) []) := by
  obtain ⟨host, -, -⟩ := State.touchBase_frame slot.toNat s
  refine kcp_ok_of_sessions ready (by decide) ?_ (congrArg HostSt.mbx host) (.inr (congrArg HostSt.udp host))
  dsimp only
  rw [if_neg (by omega), if_neg still, if_neg (by simp [idle])]

theorem execTrussUnload_running {slot : Byte} (ready : kcpReady 0x0103 0 c s = true) (known : slot.toNat ≤ 3)
    (runs : (s.store slot.toNat).state = .running) : execTrussUnload c slot s = .next (kcpNo 0x0103 c s .state 0) :=
  kcp_no ready (by decide) ((if_neg (by omega)).trans (if_pos runs))

/-! ### The planner -/

theorem fitBytes_of_length {n : Nat} {bs : List Byte} (h : bs.length = n) : fitBytes n bs = bs := List.take_left' h

/-- R186: the change set of function `f`. -/
def State.changeSet (s : State) (f : Nat) : List (List Byte) := tabGet s.truss.changes f

section
variable {bytes : List Byte} (ready : kcpReady 0x0110 (changeLen (u bytes 0 1)) c s = true) (size : bytes.length = 1 + changeLen (u bytes 0 1))
  (good : changeBad bytes = none) (granted : s.changeDenied (s.kcpFn c) bytes = none)
include ready size good granted

/-- R186: a change that names what exists, and that its function may make, is held while there is room. -/
theorem execPlanChange_room (room : (s.changeSet (s.kcpFn c)).length < 256) :
    execPlanChange c bytes s = .next (kcpOk 0x0110 c s
      (s.modTruss fun t => { t with changes := tabSet t.changes (s.kcpFn c) (s.changeSet (s.kcpFn c) ++ [bytes]) })
      (leBytes 2 ((s.changeSet (s.kcpFn c)).length + 1))) := by
  refine kcpRun_ok_of_sessions ready (by decide) ?_ rfl rfl
  dsimp only
  rw [fitBytes_of_length size, good]
  dsimp only
  rw [granted]
  exact if_neg (Nat.not_le.mpr room)

theorem execPlanChange_full (full : 256 ≤ (s.changeSet (s.kcpFn c)).length) :
    execPlanChange c bytes s = .next (kcpNo 0x0110 c s .noResource 0) := by
  refine kcpRun_no ready (by decide) ?_
  dsimp only
  rw [fitBytes_of_length size, good]
  dsimp only
  rw [granted]
  exact if_pos full

end

/-- R186: PLAN_COMMIT into slot `k`: it takes function `f`'s change set, and the slot is loading. -/
def startCommit (base k f : Nat) (s : State) : State :=
  ((s.touchBase k).modTruss fun t => { t with changes := tabErase t.changes f }).modStore k fun _ =>
    { state := .loading, job := .commit base false (s.changeSet f), jobFn := f, jobVersion := 0x32 }

theorem startCommit_frame (base k f : Nat) (s : State) :
    (startCommit base k f s).host = s.host ∧ (startCommit base k f s).mem = s.mem ∧ (startCommit base k f s).seq = s.seq :=
  State.touchBase_frame k s

theorem startCommit_changeSet (base k f : Nat) (s : State) : (startCommit base k f s).changeSet f = [] :=
  tabGetD_erase.trans (if_pos rfl)

theorem startCommit_store (base k f : Nat) (s : State) : (startCommit base k f s).store k =
    { state := .loading, job := .commit base false (s.changeSet f), jobFn := f, jobVersion := 0x32 } :=
  (State.modStore_store ..).trans (if_pos rfl)

theorem execPlanCommit_started {base target : Byte} (ready : kcpReady 0x0111 0 c s = true) (hb : base.toNat ≤ 3) (ht : target.toNat ≤ 3)
    (apart : target ≠ base) (idle : (s.store target.toNat).idle = true) (still : (s.store target.toNat).state ≠ .running)
    (whole : (s.store base.toNat).state = .admitted ∨ (s.store base.toNat).state = .running) (level : s.sec.level ≠ 2)
    (key : s.sec.keyFailed = false) (granted : s.commitDenied (s.kcpFn c) (s.trussIn base.toNat) (s.changeSet (s.kcpFn c)) = false) :
    execPlanCommit c base target s = .next (kcpStart 0x0111 c s (startCommit base.toNat target.toNat (s.kcpFn c) s)) := by
  have plans : ¬ (!((s.store base.toNat).state == .admitted || (s.store base.toNat).state == .running) || !s.plannerKey) = true := by
    simpa [State.plannerKey, level, key] using or_iff_not_imp_left.mp whole
  refine kcp_start_of_sessions ready (by decide) ?_ (startCommit_frame ..).1
  dsimp only
  rw [if_neg (by omega), if_neg (not_or_intro (by omega) apart), if_neg still, if_neg (by simp [idle]), if_neg plans]
  exact if_neg (Bool.eq_false_iff.mp granted)

/-! ### The standing slots -/

/-- R189: what STANDING_QUERY returns of standing slot `k`. -/
def standingQueryBytes (k : Nat) (s : State) : List Byte :=
  let x := s.standing k
  let t := readTruss x.image
  [BitVec.ofNat 8 (b2n x.valid), BitVec.ofNat 8 (b2n (s.truss.preferred == k)), 0, 0] ++ leBytes 8 t.id ++
    leBytes 4 t.security ++ leBytes 8 (x.assets.map List.length).sum

theorem standingQueryBytes_length (k : Nat) (s : State) : (standingQueryBytes k s).length = 24 := by
  simp only [standingQueryBytes, List.length_append, length_leBytes, List.length_cons, List.length_nil]

theorem execStandingQuery_ok {slot : Byte} (ready : kcpReady 0x0120 0 c s = true) (known : slot.toNat ≤ 1) :
    execStandingQuery c slot s = .next (kcpOk 0x0120 c s s (standingQueryBytes slot.toNat s)) :=
  kcp_ok_of_sessions ready (by decide) (if_neg (by omega)) rfl (.inr rfl)

theorem execStandingWrite_started {slot : Byte} (ready : kcpReady 0x0121 0 c s = true) (known : slot.toNat ≤ 3)
    (idle : (s.store slot.toNat).idle = true) (quiet : s.boot.flashBusy = false)
    (whole : (s.store slot.toNat).state = .admitted ∨ (s.store slot.toNat).state = .running)
    (marked : (s.trussIn slot.toNat).flags.testBit 0 = true) :
    execStandingWrite c slot s = .next (kcpStart 0x0121 c s ((s.modBoot fun b => { b with flashBusy := true }).modStore slot.toNat fun x =>
      { x with job := .standing (1 - s.truss.preferred), jobFn := s.kcpFn c })) := by
  refine kcp_start_of_sessions ready (by decide) ?_ rfl
  dsimp only
  rw [if_neg (by omega), if_neg (by simp [idle, quiet]), if_neg (by simpa [marked] using or_iff_not_imp_left.mp whole)]
  rfl

theorem execStandingSelect_valid {slot : Byte} (ready : kcpReady 0x0122 0 c s = true) (known : slot.toNat ≤ 1)
    (valid : (s.standing slot.toNat).valid = true) :
    execStandingSelect c slot s = .next (kcpOk 0x0122 c s (s.modTruss fun t => { t with preferred := slot.toNat }) []) :=
  kcp_ok_of_sessions ready (by decide) ((if_neg (by omega)).trans (if_neg (by simp [valid]))) rfl (.inr rfl)

end

end Sys2Proof.Machine
end

section
/-! SUPPORT. The statements of the family of the Kyduter control protocol, settled. -/

open Sys2Proof Sys2Proof.Machine

/-- Settles O27: each call is the one path, and each check decides once those before it pass. -/
theorem checksAreMadeInOrder : Obligations.ChecksAreMadeInOrder := by
  refine ⟨fun i s k call ordinary turn => ?_, fun i s k call => ?_⟩
  · obtain ⟨row, body, runs⟩ := exec_of_kcpCall call
    have denied : ∀ {st d}, k.check s = some (st, d) → exec i s = .next (kcpDeny k s st d) := fun h => runs.trans (KcpCall.denied turn h)
    refine ⟨fun closed => denied (KcpCall.check_noSession ordinary closed), fun x session => ?_⟩
    have order := KcpCall.check_session ordinary row session
    refine ⟨fun fails => denied (order.trans (if_pos fails)), fun handle => ?_⟩
    rw [if_neg (not_not_intro handle)] at order
    refine ⟨fun fails => denied (order.trans (if_pos fails)), fun seq => ?_⟩
    rw [if_neg (not_not_intro seq)] at order
    refine ⟨fun fails => denied (order.trans (if_pos fails)), fun version => ?_⟩
    rw [if_neg (Nat.not_lt.mpr version)] at order
    refine ⟨fun only other => denied (order.trans (if_pos ⟨only, other⟩)), fun role => ?_⟩
    rw [if_neg (by simpa [imp_iff_not_or] using role)] at order
    refine ⟨fun fails => denied (order.trans (if_pos fails)), fun granted => ?_⟩
    rw [if_neg (by simp [granted])] at order
    refine ⟨fun fails => denied (order.trans (if_pos fails)), fun length safe off => ?_⟩
    rw [if_neg (Nat.not_lt.mpr length)] at order
    exact denied (order.trans (if_pos ⟨safe, off⟩))
  · obtain ⟨-, body, runs⟩ := exec_of_kcpCall call
    refine ⟨fun idle => runs.trans (kcpBegin_idle idle), fun n r via here free stored => ?_⟩
    obtain ⟨secret, sent⟩ := kcpBegin_repeats via here free stored
    exact ⟨secret, runs.trans sent⟩

/-- Settles O29: the session counts the answer, the ring takes the entry, and the mailbox is free. -/
theorem responsesAreEntriesOfTheRing : Obligations.ResponsesAreEntriesOfTheRing := by
  intro id c n version r x via bound session reach loud
  have counted := kcpCounted_mbx (r := r) via bound
  have reach' : (kcpCounted id c r).fnReach c.fn = true := (kcpCounted_fnReach via bound _).trans reach
  have sent := mbxRespond_sent (n := n) (r := kcpResponse id c r.status r.detail (r.result.take 48)) reach'
  have ring := mbxRespond_mbx (n := n) (r := kcpResponse id c r.status r.detail (r.result.take 48)) reach'
  rw [mbxSent, counted] at sent
  rw [counted, session] at ring
  refine ⟨_, rfl, ?_⟩
  rw [kcpAnswer_eq, kcpRelease_mailbox via, kcpRespond_mailbox via loud, State.modMbx_mbx, ring]
  exact ⟨rfl, rfl, rfl, rfl, _, sent, rfl, rfl, rfl, rfl, rfl, rfl⟩

/-- Settles O31: an answer leaves the session that its command has opened, ended or kept. -/
theorem sessionsOpenCloseAndReport : Obligations.SessionsOpenCloseAndReport := by
  intro c s
  refine ⟨fun lo hi client mask n v via turn seq length range chosen _ => ?_, fun ready => ?_, fun ready => ?_, fun bytes ready => ?_,
    fun ready => ?_⟩
  · obtain ⟨bs, own⟩ := sessOpen_mailbox (s := s) via mask.toNat range chosen
    have answer := execSessOpen_passed (lo := lo) (hi := hi) (mask := mask) client turn seq length
    rw [own] at answer
    obtain ⟨session, free, mem, seq⟩ := sessOpen_opens via rfl
    exact ⟨_, _, answer, session, rfl, rfl, State.drawHandle_ne_zero s, rfl, free, mem, seq⟩
  · obtain ⟨mem, seq, truss⟩ := sessClosed_frame (c := c) (s := s) (s.kcpFn c)
    refine ⟨_, execSessClose_ready ready, ?_⟩
    simp only [State.driveErrn_frame, kcpAnswer_frame, replyOk_st, mem, seq, truss, and_true]
    exact (driveErrn_kcpSession ..).trans sessClose_ends
  · rw [exec_sessInfo, execSessInfo]
    exact kcp_ok_of_sessions ready (by decide) rfl rfl (.inr rfl)
  · rw [exec_sessNop, execSessNop]
    exact kcp_ok_of_sessions ready (by decide) rfl rfl (.inr rfl)
  · rw [exec_sessStatus, execSessStatus]
    exact kcp_ok_of_sessions ready (by decide) rfl rfl (.inr rfl)

/-- Settles O34: a datagram for KCP moves counters on its way; what it names decides the rest. -/
theorem udpSessionsLive : Obligations.UdpSessionsLive := by
  refine ⟨fun port ends bytes s k a d arrives reads carries hears heeded framed kind slot counter present free => ?_,
    fun port ends bytes plain s a d arrives reads carries hears heeded => ⟨fun k named framed kind counts alone fresh row => ?_, ?_⟩,
    fun k peer s => ⟨fun inUse opened => ?_, fun inUse opened => ?_, fun ignored => ?_⟩⟩
  · obtain ⟨u, moved, taken⟩ := execKcpUdpHello_taken arrives reads carries hears heeded framed kind slot counter present free
    obtain ⟨-, clk, mem, seq, -⟩ := State.frame_of_sansFrames moved
    obtain ⟨⟨handle, key, entry⟩, mem', seq'⟩ := helloTaken_udp k a d u
    refine ⟨_, taken, ?_⟩
    simp only [State.driveErrn_udp, State.driveErrn_frame, entry, mem', seq', mem, seq, and_true]
    subst arrives
    exact ⟨rfl, rfl, rfl, rfl, by rw [provisional, clk]⟩
  · subst arrives
    have heard := s.rxFrame_sansFrames port (s.kcpWire { toUdpEnds := ends, port := port, bytes := bytes, tagOk := true, plain := plain })
    have waits := execKcpUdpCommand_waits rfl carries hears heeded rfl reads named framed kind counts alone fresh row
    generalize s.rxFrame port _ = r at heard waits
    obtain ⟨host, clk, mem, seq, -⟩ := State.frame_of_sansFrames heard
    obtain ⟨entry, taken, mem', seq'⟩ :=
      dgramAccepted_udp k { toUdpEnds := ends, port := port, bytes := bytes, tagOk := true, plain := plain } d r
    refine ⟨_, waits, ?_⟩
    simp only [State.driveErrn_udp, State.driveErrn_frame, dgramWaits_udp, entry, State.udp_of_host host, clk]
    refine ⟨rfl, ?_, rfl, mem'.trans mem, seq'.trans seq⟩
    rw [dgramEntry, taken, host]
    exact congrArg (· ++ _) alone
  · subst arrives
    exact execKcpUdpCommand_forged (a := { toUdpEnds := ends, port := port, bytes := bytes, tagOk := false, plain := plain }) rfl carries hears
      heeded rfl
  · exact ⟨_, (exec_kcpUdpHandleLapse).trans (if_pos (by simp [inUse, opened])), closeUdp_at ..⟩
  · exact ⟨_, (exec_kcpUdpSessionIdle).trans (if_pos (by simp [inUse, opened])), closeUdp_at ..⟩
  · refine ⟨_, (exec_kcpUdpIgnoreEnd).trans (if_neg ignored), ?_⟩
    simp only [State.driveErrn_frame, State.modHost_host, State.modHost_clk, State.modHost_mem, tabGet_set, if_true, State.untilAon_aon,
      State.untilAon_frame]
    exact ⟨trivial, Nat.le_max_right .., trivial⟩

/-- Settles O35: each command passes its own checks, and its job or its answer leaves the sessions as they are. -/
theorem trussStoreCommands : Obligations.TrussStoreCommands := by
  intro c s
  refine ⟨fun slot standing address length ready known fits mapped idle still free =>
      execTrussLoad_device ready known fits mapped idle still free,
    fun slot ready known idle held signed => execTrussCheck_signed ready known idle held signed,
    fun slot ready known => ⟨_, trussQueryBytes_length .., trussQueryBytes_state .., execTrussQuery_ok ready known⟩,
    fun slot ready known idle => ⟨execTrussUnload_idle ready known idle, execTrussUnload_running ready known⟩,
    fun bytes ready size good granted => ⟨execPlanChange_room ready size good granted, execPlanChange_full ready size good granted⟩,
    fun ready => ?_, fun base target ready hb ht apart idle still whole level key granted => ?_,
    fun slot ready known => ⟨_, standingQueryBytes_length .., execStandingQuery_ok ready known⟩,
    fun slot ready known idle quiet whole marked => execStandingWrite_started ready known idle quiet whole marked,
    fun slot ready known valid => execStandingSelect_valid ready known valid⟩
  · rw [exec_planDiscard, execPlanDiscard]
    exact kcp_ok_of_sessions ready (by decide) rfl rfl (.inr rfl)
  · obtain ⟨-, mem, seq⟩ := startCommit_frame base.toNat target.toNat (s.kcpFn c) s
    have slot := startCommit_store base.toNat target.toNat (s.kcpFn c) s
    exact ⟨_, execPlanCommit_started ready hb ht apart idle still whole level key granted, congrArg StoreSlot.job slot,
      congrArg StoreSlot.state slot, startCommit_changeSet .., mem, seq⟩

end

section
/-! SUPPORT. A fault's report moves, of the sequencer, the variants that the groups are to run and the reads of the entries issued (R106, R212,
R446): neither event records, nor what goes out to peers, nor the collector's reactions touch the rest of it. -/

namespace Sys2Proof.Machine

/-- The sequencer but for its groups and the entries issued. -/
def State.planSeq (s : State) : SeqSt := { s.seq with groups := [], issues := [] }

theorem State.planSeq_of_seq {s t : State} (h : t.seq = s.seq) : t.planSeq = s.planSeq := by rw [planSeq, h, planSeq]

theorem State.pend_seq (x : Nat) (s : State) : (s.pend x).seq = s.seq := by simp only [pend_frame]

/-! ### Event records, and sending to peers -/

theorem State.recordTo_seq (p : Nat → Bool) (t : Nat) (subject : Half) (payload : List Byte) (s : State) :
    (s.recordTo p t subject payload).seq = s.seq := by
  have h := recordTo_sansSent p t subject payload s
  generalize s.recordTo p t subject payload = u at h ⊢
  exact (congrArg State.seq h :)

theorem State.sendIp_seq (p q addr : Nat) (f : QFrame) (s : State) : (s.sendIp p q addr f).seq = s.seq := by
  have h := sendIp_sansFrames p q addr f s
  generalize s.sendIp p q addr f = u at h ⊢
  exact (congrArg State.seq h :)

theorem State.adtSend_seq (k : Nat) (kind : String) (body : Nat) (fields : List Nat) (s : State) :
    (s.adtSend k kind body fields).seq = s.seq :=
  foldl_keeps State.seq (fun _ _ => ite_keeps State.seq (sendIp_seq ..) rfl) ..

theorem State.peerState_seq (k state reason : Nat) (s : State) : (s.peerState k state reason).seq = s.seq :=
  (pend_seq ..).trans (recordTo_seq ..)

theorem State.sendBlank_seq (k : Nat) (b : Blank) (s : State) : (s.sendBlank k b).seq = s.seq := by
  refine ite_then State.seq (foldl_keeps State.seq (fun t i => ?_) ..) (peerState_seq ..)
  exact adtSend_seq ..

/-! ### The fault collector -/

theorem chooseVariants_planSeq (s : State) : (chooseVariants s).planSeq = s.planSeq := by
  have edge : (paceEdge s).planSeq = s.planSeq := by rw [paceEdge_eq]; rfl
  refine ite_keeps State.planSeq edge ((foldl_keeps State.planSeq (fun t g => ?_) ..).trans edge)
  exact ite_keeps State.planSeq (ite_keeps State.planSeq rfl rfl) rfl

theorem stopDecoder_seq (d : Nat) (s : State) : (stopDecoder d s).seq = s.seq := by
  refine ite_keeps State.seq rfl (foldl_keeps State.seq (fun _ _ => ?_) ..)
  exact ite_keeps State.seq (State.adtSend_seq ..) rfl

theorem unitReaction_planSeq (x : Nat) (s : State) : (unitReaction x s).planSeq = s.planSeq :=
  ite_keeps State.planSeq rfl (ite_keeps State.planSeq (State.planSeq_of_seq (stopDecoder_seq ..)) (ite_keeps State.planSeq rfl rfl))

theorem enterSafe_seq (s : State) : (enterSafe s).seq = s.seq :=
  ite_keeps State.seq rfl (foldl_keeps State.seq (fun _ _ => State.sendBlank_seq ..) ..)

theorem State.putFence_seq (x : Nat) (v : Bool) (s : State) : (s.putFence x v).seq = s.seq := by
  unfold putFence
  split
  · rfl
  · rfl

theorem fltStore_seq (o : Occ) (s : State) : (fltStore o s).seq = s.seq := by
  refine ite_keeps State.seq ((State.recordTo_seq ..).trans ?_) ((State.pend_seq ..).trans ?_) <;>
    exact ite_keeps State.seq (State.pend_seq ..) (ite_keeps State.seq rfl rfl)

theorem fltMove_seq (s : State) : (fltMove s).seq = s.seq := by
  unfold fltMove
  split
  · exact State.pend_seq ..
  · rfl

theorem fltFence_planSeq (o : Occ) (s : State) : (fltFence o s).planSeq = s.planSeq := by
  refine ite_keeps State.planSeq (ite_keeps State.planSeq rfl ?_) (ite_keeps State.planSeq rfl rfl)
  refine (chooseVariants_planSeq _).trans ((unitReaction_planSeq ..).trans (State.planSeq_of_seq ?_))
  refine ite_keeps State.seq ?_ ?_ <;> exact State.putFence_seq ..

theorem fltReact_planSeq (o : Occ) (s : State) : (fltReact o s).planSeq = s.planSeq := by
  refine ite_then State.planSeq ((fltFence_planSeq ..).trans (State.planSeq_of_seq ?_)) (State.planSeq_of_seq (enterSafe_seq _))
  exact ite_then State.seq (ite_then State.seq (ite_then State.seq (ite_then State.seq (ite_then State.seq
    (ite_then State.seq (State.pend_seq ..) rfl) rfl) rfl) rfl) rfl) rfl

theorem fltTake_planSeq (o : Occ) (s : State) : (fltTake o s).planSeq = s.planSeq := by
  have snap : (snapFault o.cls (s.modFltSrc o.source fun c => { c with occ := satInc c.occ })).planSeq = s.planSeq :=
    ite_keeps State.planSeq rfl rfl
  have stored : ∀ t, (fltStore o t).planSeq = t.planSeq := fun t => State.planSeq_of_seq (fltStore_seq o t)
  refine ite_keeps State.planSeq ?_ ?_ <;> simp only [stored, fltReact_planSeq, snap]

theorem State.fault_planSeq (x : Nat) (detail : Word) (s : State) : (s.fault x detail).planSeq = s.planSeq := by
  refine ite_keeps State.planSeq ?_ (ite_keeps State.planSeq rfl rfl)
  exact (foldl_keeps State.planSeq (fun _ _ => fltTake_planSeq ..) ..).trans (planSeq_of_seq (fltMove_seq _))

theorem State.fault_truss (x : Nat) (detail : Word) (s : State) : (s.fault x detail).truss = s.truss := by
  have h := fault_lasting x detail s
  generalize s.fault x detail = u at h ⊢
  exact (congrArg State.truss h :)

end Sys2Proof.Machine
end

section
/-! SUPPORT. How a load, a check, a commit and a standing write end (R178–R181, R186, R187, R190). -/

namespace Sys2Proof.Machine

/-! ### What the operations of a job leave as it is -/

theorem State.store_of_truss {s t : State} (h : t.truss = s.truss) (k : Nat) : t.store k = s.store k := by rw [store, h, store]

theorem State.driveErrn_store (s : State) (k : Nat) : s.driveErrn.store k = s.store k := by simp only [store, driveErrn_frame]

/-- R190: a completion is a record, no more. -/
theorem completion_frame (fn code subject : Nat) (st : Status) (detail : Nat) (s : State) :
    (completion fn code subject st detail s).truss = s.truss ∧ (completion fn code subject st detail s).seq = s.seq ∧
    (completion fn code subject st detail s).mem = s.mem ∧ (completion fn code subject st detail s).boot = s.boot := by
  have h : (completion fn code subject st detail s).sansSent = s.sansSent := State.recordTo_sansSent ..
  generalize completion fn code subject st detail s = t at h ⊢
  exact ⟨(congrArg State.truss h :), (congrArg State.seq h :), (congrArg State.mem h :), (congrArg State.boot h :)⟩

theorem State.bgAdvance_frame (s : State) :
    s.bgAdvance.truss = s.truss ∧ s.bgAdvance.seq = s.seq ∧ s.bgAdvance.mem.bytes = s.mem.bytes := by
  by_cases running : s.boot.phase = .running
  · have h := bgAdvance_sansInit running
    generalize s.bgAdvance = t at h ⊢
    exact ⟨(congrArg State.truss h :), (congrArg State.seq h :), (congrArg (fun u : State => u.mem.bytes) h :)⟩
  · rw [bgAdvance, if_pos running]
    exact ⟨rfl, rfl, rfl⟩

/-- R165: the copies of an image go to memory alone. -/
theorem storeCopy_frame (k : Nat) (img : List Byte) (s : State) : (storeCopy k img s).truss = s.truss ∧ (storeCopy k img s).seq = s.seq := by
  have h : (storeCopy k img s).sansBytes = s.sansBytes :=
    foldl_keeps State.sansBytes (fun _ _ => ite_keeps State.sansBytes rfl (State.memStore_sansBytes ..)) ..
  generalize storeCopy k img s = t at h ⊢
  exact ⟨(congrArg State.truss h :), (congrArg State.seq h :)⟩

/-- The state with everything erased that a read of memory may move: the counters, and what a poisoned line pends. -/
def State.sansReads (s : State) : State := { s with intc := {}, pmu := {} }

theorem State.frame_of_sansReads {s t : State} (h : t.sansReads = s.sansReads) : t.truss = s.truss ∧ t.seq = s.seq :=
  ⟨(congrArg State.truss h :), (congrArg State.seq h :)⟩

theorem State.traffic_sansReads (p : Nat) (w : Bool) (who : Who) (l : List Nat) (s : State) : (s.traffic p w who l).sansReads = s.sansReads :=
  ite_keeps State.sansReads rfl (ite_keeps State.sansReads rfl rfl)

theorem poisonSeen_sansReads (m : Nat) (s : State) : (poisonSeen m s).sansReads = s.sansReads := by
  rw [poisonSeen, State.pend_eq]
  rfl

theorem State.memFetch_sansReads (a n : Nat) (w : Who) (s : State) : (s.memFetch a n w).2.sansReads = s.sansReads := by
  refine ite_keeps (fun r : Option (List Byte) × State => r.2.sansReads) rfl ?_
  refine (foldl_keeps State.sansReads (fun _ _ => poisonSeen_sansReads ..) ..).trans (foldl_keeps State.sansReads (fun t m => ?_) ..)
  exact ite_keeps State.sansReads ((traffic_sansReads ..).trans rfl) rfl

/-! ### The end of a job -/

/-- What no job of a store slot moves: the trusses of the standing slots, and the store slot that runs. -/
def State.jobFrame (s : State) : Tab StandingSlot × Nat := (s.truss.standing, s.seq.running)

theorem State.jobFrame_of_eq {s t : State} (truss : t.truss = s.truss) (seq : t.seq = s.seq) : t.jobFrame = s.jobFrame := by
  rw [jobFrame, truss, seq, jobFrame]

theorem completion_jobFrame (fn code subject : Nat) (st : Status) (detail : Nat) (s : State) :
    (completion fn code subject st detail s).jobFrame = s.jobFrame := by
  obtain ⟨truss, seq, -, -⟩ := completion_frame fn code subject st detail s
  exact State.jobFrame_of_eq truss seq

theorem completion_store (fn code subject : Nat) (st : Status) (detail : Nat) (s : State) (k : Nat) :
    (completion fn code subject st detail s).store k = s.store k :=
  State.store_of_truss (completion_frame ..).1 k

theorem State.faultOpen_jobFrame (x : Nat) (s : State) : (s.faultOpen x).jobFrame = s.jobFrame := by
  have truss : (s.faultOpen x).truss = s.truss := fault_truss ..
  have seq : (s.faultOpen x).planSeq = s.planSeq := fault_planSeq ..
  generalize s.faultOpen x = t at truss seq ⊢
  exact Prod.ext (congrArg TrussSt.standing truss) (congrArg SeqSt.running seq :)

theorem State.faultOpen_store (x : Nat) (s : State) (k : Nat) : (s.faultOpen x).store k = s.store k := store_of_truss (fault_truss ..) k

theorem State.modStore_jobFrame (k : Nat) (f : StoreSlot → StoreSlot) (s : State) : (s.modStore k f).jobFrame = s.jobFrame := rfl

theorem countVerify_jobFrame (bad : Bool) (s : State) : (countVerify bad s).jobFrame = s.jobFrame := ite_keeps State.jobFrame rfl rfl

theorem countVerify_store (bad : Bool) (s : State) (k : Nat) : (countVerify bad s).store k = s.store k := ite_keeps (State.store · k) rfl rfl

/-- R179: slot `k`, whose job has ended from `s` on: idle, admitted or failed. -/
structure JobEnded (k : Nat) (s t : State) : Prop where
  idle : (t.store k).job = .none
  decided : (t.store k).state = .admitted ∨ (t.store k).state = .failed
  frame : t.jobFrame = s.jobFrame

/-- R179: a job that fails leaves its slot idle and failed, with the image that it holds. -/
theorem jobFailed_store (k code : Nat) (st : Status) (detail : Nat) (s : State) :
    ((jobFailed k code st detail s).store k).job = .none ∧ ((jobFailed k code st detail s).store k).state = .failed ∧
    ((jobFailed k code st detail s).store k).image = (s.store k).image := by
  simp only [jobFailed, completion_store, State.modStore_store, if_true, and_self]

theorem jobFailed_state (k code : Nat) (st : Status) (detail : Nat) (s : State) :
    ((jobFailed k code st detail s).store k).state = .failed := by
  obtain ⟨-, failed, -⟩ := jobFailed_store k code st detail s
  exact failed

theorem jobFailed_ended {k code : Nat} {st : Status} {detail : Nat} {s t : State} (frame : t.jobFrame = s.jobFrame) :
    JobEnded k s (jobFailed k code st detail t) := by
  obtain ⟨idle, failed, -⟩ := jobFailed_store k code st detail t
  exact ⟨idle, .inr failed, (completion_jobFrame ..).trans frame⟩

/-! ### Loading -/

/-- R177–R181: what the checks of an image copied into slot `k` leave: the slot holds it, and one that none of them refuses is admitted. -/
structure Judged (k : Nat) (img : List Byte) (sigOk : Bool) (version : Nat) (s : State) (r : Option (Status × Nat) × State) : Prop where
  image : (r.2.store k).image = img
  frame : r.2.jobFrame = s.jobFrame
  admits : r.1 = none → (r.2.store k).job = .none ∧ (r.2.store k).state = .admitted ∧ sigOk = true ∧
    ((readTruss img).format = 4 → 0x30 ≤ version)

/-- R177: a signature that the key engine found bad is refused. -/
theorem State.sigDetail_none {signed : List Byte} {x : TSig} {sigOk : Bool} {security : Option Nat} {s : State}
    (good : s.sigDetail signed x sigOk security = none) : sigOk = true := by
  cases sigOk with
  | true => rfl
  | false =>
    have refused : (s.sigDetail signed x false security).isSome = true :=
      ite_keeps Option.isSome rfl (ite_keeps Option.isSome rfl (congrArg Option.isSome (if_pos (by simp))))
    rw [good] at refused
    cases refused

theorem admitInto_judged (k : Nat) (img : List Byte) (sigOk : Bool) (version : Nat) (s : State) :
    Judged k img sigOk version s (admitInto k img sigOk version s) := by
  obtain ⟨truss, seq, -⟩ := s.bgAdvance_frame
  have start := State.jobFrame_of_eq truss seq
  unfold admitInto
  dsimp only
  split
  · refine ⟨?_, ?_, nofun⟩ <;>
      simp only [State.modStore_jobFrame, start, State.modStore_store, if_true]
  · next served =>
    split
    · refine ⟨?_, ?_, nofun⟩ <;>
        simp only [State.faultOpen_jobFrame, countVerify_jobFrame, State.modStore_jobFrame, start, State.faultOpen_store, countVerify_store,
          State.modStore_store, if_true]
    · next signed =>
      split
      · refine ⟨?_, ?_, nofun⟩ <;>
          simp only [countVerify_jobFrame, State.modStore_jobFrame, start, countVerify_store, State.modStore_store, if_true]
      · have accepted : sigOk = true := by
          split at signed
          · cases signed
          · exact State.sigDetail_none signed
        refine ⟨?_, ?_, fun _ => ⟨?_, ?_, accepted, fun four => by omega⟩⟩ <;>
          simp only [countVerify_jobFrame, State.modStore_jobFrame, start, countVerify_store, State.modStore_store, if_true]

/-- R165, R179, R190: a load whose bytes could be read, of 64 MiB or less, ends with the slot holding them. -/
theorem loadEnds_fits {k okCode badCode : Nat} {img : List Byte} {sigOk : Bool} {s : State} (fits : img.length ≤ 2 ^ 26) :
    JobEnded k s (loadEnds k okCode badCode (.ok img) sigOk s) ∧
    ((loadEnds k okCode badCode (.ok img) sigOk s).store k).image = img ∧
    ((readTruss img).format = 4 → (s.store k).jobVersion < 0x30 →
      ((loadEnds k okCode badCode (.ok img) sigOk s).store k).state = .failed) ∧
    (((loadEnds k okCode badCode (.ok img) sigOk s).store k).state = .admitted → sigOk = true) := by
  obtain ⟨truss, seq⟩ := storeCopy_frame k img s
  obtain ⟨image, frame, admits⟩ := admitInto_judged k img sigOk (s.store k).jobVersion (storeCopy k img s)
  have frame := frame.trans (State.jobFrame_of_eq truss seq)
  rw [loadEnds, if_neg (Nat.not_lt.mpr fits)]
  generalize admitInto k img sigOk (s.store k).jobVersion (storeCopy k img s) = r at image frame admits ⊢
  obtain ⟨found, t⟩ := r
  cases found with
  | none =>
    obtain ⟨idle, admitted, accepted, version⟩ := admits rfl
    refine ⟨⟨?_, ?_, (completion_jobFrame ..).trans frame⟩, ?_, fun four old => absurd old (Nat.not_lt.mpr (version four)),
      fun _ => accepted⟩ <;>
      simp only [completion_store, idle, admitted, image, true_or]
  | some refusal =>
    obtain ⟨-, failed, kept⟩ := jobFailed_store k badCode refusal.1 refusal.2 t
    exact ⟨jobFailed_ended frame, kept.trans image, fun _ _ => failed, fun admitted => nomatch failed.symm.trans admitted⟩

/-- R179: however a load ends, its slot is idle, and admitted or failed. -/
theorem loadEnds_ended {k okCode badCode : Nat} {img : Except Nat (List Byte)} {sigOk : Bool} {s : State} :
    JobEnded k s (loadEnds k okCode badCode img sigOk s) := by
  cases img with
  | error d => exact jobFailed_ended rfl
  | ok img =>
    by_cases fits : img.length ≤ 2 ^ 26
    · exact (loadEnds_fits fits).1
    · rw [loadEnds, if_pos (Nat.not_le.mp fits)]
      exact jobFailed_ended rfl

section
variable {slot : Fin 4} {s : State}

/-- R179: a load from device memory whose bytes could be read ends as its checks find. -/
theorem execTrussLoadDone_device {standing a n : Nat} {host : Option (List Byte)} {sigOk : Bool} {img : List Byte} {u : State}
    (job : (s.store slot).job = .load 0 standing a n) (read : s.memFetch a n = (some img, u)) :
    execTrussLoadDone slot host sigOk s = done (loadEnds slot 0 1 (.ok img) sigOk u) := by
  rw [execTrussLoadDone, job]
  dsimp only
  rw [if_pos rfl, read]

/-! ### Checks -/

/-- R179: a check that ends changes its slot, by `f`, and reports it. -/
theorem checkEnds_frame (fn code : Nat) (st : Status) (detail k : Nat) (f : StoreSlot → StoreSlot) (s : State) :
    (completion fn code k st detail (s.bgAdvance.modStore k f)).store k = f (s.store k) ∧
    (completion fn code k st detail (s.bgAdvance.modStore k f)).mem.bytes = s.mem.bytes ∧
    (completion fn code k st detail (s.bgAdvance.modStore k f)).seq = s.seq := by
  obtain ⟨truss, seq, bytes⟩ := s.bgAdvance_frame
  obtain ⟨truss', seq', mem', -⟩ := completion_frame fn code k st detail (s.bgAdvance.modStore k f)
  refine ⟨?_, (congrArg MemSt.bytes mem').trans bytes, seq'.trans seq⟩
  rw [State.store_of_truss truss', State.modStore_store, if_pos rfl, State.store_of_truss truss]

/-- R179, R180: a slot that runs goes on, whatever a check finds; any other is admitted or failed. -/
theorem execTrussCheckDone_ends (job : (s.store slot).job = .check) :
    ∃ t, execTrussCheckDone slot s = .next t ∧ (t.store slot).job = .none ∧ (t.store slot).image = (s.store slot).image ∧
      ((s.store slot).state = .running → (t.store slot).state = .running) ∧
      ((s.store slot).state ≠ .running → (t.store slot).state = .admitted ∨ (t.store slot).state = .failed) ∧
      t.mem.bytes = s.mem.bytes ∧ t.seq = s.seq := by
  rw [execTrussCheckDone, job]
  dsimp only
  split
  · refine ⟨_, rfl, ?_⟩
    simp only [State.driveErrn_store, State.driveErrn_frame, checkEnds_frame, and_true, true_and]
    exact ⟨fun runs => if_pos runs, fun still => .inr (if_neg still)⟩
  · refine ⟨_, rfl, ?_⟩
    simp only [State.driveErrn_store, State.driveErrn_frame, checkEnds_frame, and_true, true_and]
    exact ⟨fun runs => if_pos runs, fun still => .inl (if_neg still)⟩

/-! ### Commits -/

/-- R186: a commit ends its slot's job, and fails where its base has changed or the planner has no image. -/
theorem execPlanCommitDone_ends {base : Nat} {changed : Bool} {changes : List (List Byte)} {derived : Option (List Byte)}
    (job : (s.store slot).job = .commit base changed changes) :
    ∃ t, execPlanCommitDone slot derived s = done t ∧ JobEnded slot s t ∧
      (changed = true ∨ derived = none → (t.store slot).state = .failed) := by
  rw [execPlanCommitDone, job]
  dsimp only
  split
  · exact ⟨_, rfl, jobFailed_ended rfl, fun _ => jobFailed_state ..⟩
  · next same =>
    split
    · exact ⟨_, rfl, jobFailed_ended rfl, fun _ => jobFailed_state ..⟩
    · next img planned =>
      refine ⟨_, rfl, loadEnds_ended, fun fails => ?_⟩
      obtain changed | rfl := fails
      · exact absurd changed same
      · cases planned

/-! ### Standing writes -/

/-- R67, R187: with PLL9's gate open, the slot is at work on a standing write. -/
def State.writesStanding (s : State) (k : Nat) : Bool := !(s.pll 9).gated && match (s.store k).job with | .standing _ => true | _ => false

theorem State.writesStanding_standing {k to' : Nat} (job : (s.store k).job = .standing to') : s.writesStanding k = !(s.pll 9).gated := by
  rw [writesStanding, job, Bool.and_true]

theorem State.writesStanding_other {k : Nat} (other : ∀ to', (s.store k).job ≠ .standing to') : s.writesStanding k = false := by
  unfold writesStanding
  split
  · next to' job => exact absurd job (other to')
  · exact Bool.and_false _

/-- R187: with PLL9's gate open, the write that ends is that of the first slot at work on one. -/
theorem State.find_writesStanding {to' : Nat} (job : (s.store slot).job = .standing to')
    (first : ∀ j x : Nat, j < slot.val → (s.store j).job ≠ .standing x) (gate : (s.pll 9).gated = false) :
    (List.range 4).find? s.writesStanding = some slot.val := by
  refine List.find?_range_eq_some.mpr ⟨?_, List.mem_range.mpr slot.isLt, fun j before => ?_⟩
  · rw [writesStanding_standing job, gate, Bool.not_false]
  · rw [writesStanding_other fun x => first j x before, Bool.not_false]

/-- R179: the store slots once slot `k` is idle. -/
def State.idled (s : State) (k : Nat) : TrussSt := (s.modStore k fun x => { x with job := .none }).truss

theorem State.idled_job (s : State) (k : Nat) : (tabGet (s.idled k).slots k).job = .none := by
  simp only [idled, modStore, modTruss_truss, tabGet_mod, if_true]

/-- R187: flash is free again, and slot `k` idle. -/
def flashEnds (k : Nat) (s : State) : State :=
  ((flashErased s).modBoot fun b => { b with flashBusy := false }).modStore k fun x => { x with job := .none }

/-- R187: however much of the image's assets has been read, the end of a write frees flash and slot `k`. -/
theorem flashEnds_frame {k : Nat} {s u : State} (read : u.sansReads = s.sansReads) :
    (flashEnds k u).truss = s.idled k ∧ (flashEnds k u).boot.flashBusy = false := by
  obtain ⟨truss, -⟩ := State.frame_of_sansReads read
  exact ⟨congrArg (fun q : TrussSt => { q with slots := tabMod q.slots k fun x => { x with job := .none } }) truss, rfl⟩

/-- R499: a fault of the flash leaves the trusses, and what flash is at work on, as they are. -/
theorem storeFault_frame (x : Nat) (s : State) : (storeFault x s).truss = s.truss ∧ (storeFault x s).boot.flashBusy = s.boot.flashBusy := by
  have h : (storeFault x s).lasting = s.lasting := (State.pend_lasting ..).trans (State.faultOpen_lasting ..)
  generalize storeFault x s = t at h ⊢
  exact ⟨(congrArg State.truss h :), (congrArg (fun u : State => u.boot.flashBusy) h :)⟩

section
variable {to' : Nat} (job : (s.store slot).job = .standing to') (first : ∀ j x : Nat, j < slot.val → (s.store j).job ≠ .standing x)
  (gate : (s.pll 9).gated = false)
include job first gate

/-- R187: a write without assets that flash took. -/
theorem execStandingWriteDone_taken (bare : (s.trussIn slot).assets = []) : ∃ t, execStandingWriteDone true s = done t ∧
    t.truss = { s.idled slot with
      standing := tabSet (s.idled slot).standing to' { valid := true, image := (s.store slot).image, assets := [] }, preferred := to' } ∧
    t.boot.flashBusy = false := by
  obtain ⟨truss, free⟩ := flashEnds_frame (k := slot) (rfl : s.sansReads = s.sansReads)
  have chosen := State.find_writesStanding job first gate
  unfold execStandingWriteDone
  split
  · next missing => exact nomatch missing.symm.trans chosen
  · next k found =>
    obtain rfl := Option.some.inj (found.symm.trans chosen)
    dsimp only
    rw [job, bare]
    refine ⟨_, rfl, ?_⟩
    simp only [completion_frame, State.pend_frame]
    rw [← truss]
    exact ⟨rfl, free⟩

/-- R187: a write that flash did not take. -/
theorem execStandingWriteDone_bad : ∃ t, execStandingWriteDone false s = done t ∧
    t.truss = { s.idled slot with standing := tabSet (s.idled slot).standing to' {} } ∧ t.boot.flashBusy = false := by
  have chosen := State.find_writesStanding job first gate
  unfold execStandingWriteDone
  split
  · next missing => exact nomatch missing.symm.trans chosen
  · next k found =>
    obtain rfl := Option.some.inj (found.symm.trans chosen)
    dsimp only
    rw [job]
    refine ⟨_, rfl, ?_⟩
    have read := foldl_keeps (fun r : Option (List (List Byte)) × State => r.2.sansReads)
      (f := fun acc (a : TAsset) => (acc.1.bind fun l => (acc.2.memFetch a.addr a.len).1.map fun b => l ++ [b], (acc.2.memFetch a.addr a.len).2))
      (fun _ _ => State.memFetch_sansReads ..) (s.trussIn slot).assets (some [], s)
    obtain ⟨truss, free⟩ := flashEnds_frame (k := slot) read
    simp only [completion_frame, State.pend_frame, Bool.false_eq_true, if_false, storeFault_frame]
    rw [← truss]
    exact ⟨rfl, free⟩

end

end

end Sys2Proof.Machine
end

section
/-! SUPPORT. The statement of the family of trusses and admission, settled. -/

open Sys2Proof Sys2Proof.Machine

/-- Settles O36: each job ends by its own checks, and the end of the command moves nothing of them. -/
theorem trussJobsEnd : Obligations.TrussJobsEnd := by
  intro slot s
  refine ⟨fun standing a n host sigOk img u job read fits => ?_, fun job => exec_trussCheckDone ▸ execTrussCheckDone_ends job,
    fun base changed changes derived job => ?_, fun to' job first gate => ⟨fun bare => ?_, ?_⟩⟩
  · have moved : u.sansReads = s.sansReads := by rw [← State.memFetch_sansReads a n {} s, read]
    obtain ⟨truss, seq⟩ := State.frame_of_sansReads moved
    obtain ⟨⟨idle, decided, frame⟩, image, old, good⟩ := loadEnds_fits (k := slot) (okCode := 0) (badCode := 1) (sigOk := sigOk) (s := u) fits
    have frame := frame.trans (State.jobFrame_of_eq truss seq)
    rw [State.store_of_truss truss] at old
    refine ⟨_, exec_trussLoadDone.trans (execTrussLoadDone_device job read), ?_⟩
    simp only [State.driveErrn_store, State.driveErrn_frame]
    exact ⟨idle, image, decided, old, good, congrArg Prod.snd frame, congrArg Prod.fst frame⟩
  · obtain ⟨t, ends, ⟨idle, decided, frame⟩, fails⟩ := execPlanCommitDone_ends (derived := derived) job
    refine ⟨_, exec_planCommitDone.trans ends, ?_⟩
    simp only [State.driveErrn_store, State.driveErrn_frame]
    exact ⟨idle, fun h => fails (.inl h), fun h => fails (.inr h), decided, congrArg Prod.snd frame⟩
  · obtain ⟨t, ends, truss, free⟩ := execStandingWriteDone_taken job first gate bare
    refine ⟨_, exec_standingWriteDone.trans ends, ?_⟩
    simp only [State.driveErrn_frame, State.store, State.standing, truss, tabGet_set, if_true, free, and_true]
    exact State.idled_job s slot
  · obtain ⟨t, ends, truss, free⟩ := execStandingWriteDone_bad job first gate
    refine ⟨_, exec_standingWriteDone.trans ends, ?_⟩
    simp only [State.driveErrn_frame, State.store, State.standing, truss, tabGet_set, if_true, free, true_and, and_true]
    exact ⟨State.idled_job s slot, rfl⟩

end

section
/-! SUPPORT. What sills and items go by: plan time, the trusses, the groups but for what arms, records and variants move, and the lanes. Each
operation of the model that leaves all of it as it is has a lemma `<operation>_cadence`. Where it stays by definition the proof is `(rfl)`: as a bare
`rfl` it would have `simp` unfold the operation's arguments to check it. -/

namespace Sys2Proof.Machine

/-- What a group goes by from sill to sill: all of it but what arms, announcements, records, variants and slots that are not ready move. -/
def GroupSt.steady (c : GroupSt) : GroupSt :=
  { c with arm := none, copying := false, announced := false, result := 0, lateWrite := false, badSlot := 0, reason := 0, cutoffSet := 0, variant := 0,
           variantNext := [], lateWrites := 0, lateNow := 0, ignored := 0, nrLast := 0, nrTotal := 0, patched := 0 }

/-- What sills and items go by. -/
structure Cadence where
  /-- R8: plan time. -/
  plan : Nat
  /-- R165: the truss in each store slot. -/
  truss : Nat → Option Truss
  /-- R216: the groups, as they go from sill to sill. -/
  group : Nat → GroupSt
  /-- R192: the lanes. -/
  lanes : Tab LaneSt

/-- The cadence of a state. -/
def State.cadence (s : State) : Cadence := ⟨s.clk.plan, fun k => (s.store k).truss, fun g => (s.group g).steady, s.seq.lanes⟩

/-- A change of one group. -/
def Cadence.modGroup (g : Nat) (F : GroupSt → GroupSt) (κ : Cadence) : Cadence :=
  { κ with group := fun j => if j = g then F (κ.group g) else κ.group j }

theorem Cadence.modGroup_group (g : Nat) (F : GroupSt → GroupSt) (κ : Cadence) : (κ.modGroup g F).group g = F (κ.group g) := if_pos rfl

section
variable {s : State}

/-! ### The rules -/

theorem cadence_ite {c : Prop} {_ : Decidable c} {a b : State} : (if c then a else b).cadence = if c then a.cadence else b.cadence := apply_ite ..

theorem foldl_cadence {α : Type} {f : State → α → State} {l : List α} (h : ∀ s x, (f s x).cadence = s.cadence) :
    (l.foldl f s).cadence = s.cadence := foldl_keeps State.cadence h l s

theorem foldl_snd_cadence {α β : Type} {f : β × State → α → β × State} {l : List α} {s : β × State}
    (h : ∀ s x, (f s x).2.cadence = s.2.cadence) : (l.foldl f s).2.cadence = s.2.cadence := foldl_keeps (fun s => s.2.cadence) h l s

/-- What moves neither the lasting part nor the sequencer leaves the cadence. -/
theorem cadence_of_lasting {t : State} (lasting : t.lasting = s.lasting) (seq : t.seq = s.seq) : t.cadence = s.cadence := by
  have plan : t.clk.plan = s.clk.plan := (congrArg (fun u : State => u.clk.plan) lasting :)
  have truss : t.truss = s.truss := (congrArg State.truss lasting :)
  simp only [State.cadence, State.store, State.group, plan, truss, seq]

theorem cadence_of_sansSent {t : State} (h : t.sansSent = s.sansSent) : t.cadence = s.cadence := (congrArg State.cadence h :)

theorem cadence_of_sansCounts {t : State} (h : t.sansCounts = s.sansCounts) : t.cadence = s.cadence := (congrArg State.cadence h :)

theorem cadence_of_sansBytes {t : State} (h : t.sansBytes = s.sansBytes) : t.cadence = s.cadence := (congrArg State.cadence h :)

/-! ### One block or one entry of the state -/

theorem modClk_cadence {f : ClkSt → ClkSt} (h : (f s.clk).plan = s.clk.plan) : (s.modClk f).cadence = s.cadence :=
  congrArg (fun p : Nat => ({ s.cadence with plan := p } : Cadence)) h

theorem modSeq_cadence {f : SeqSt → SeqSt} (groups : (f s.seq).groups = s.seq.groups) (lanes : (f s.seq).lanes = s.seq.lanes) :
    (s.modSeq f).cadence = s.cadence := by
  simp only [State.cadence, State.group, State.modSeq_seq, State.modSeq_clk, State.store, State.modSeq_truss, groups, lanes]

/-- A change of group `g` that the cadence sees is a change of the cadence's group. -/
theorem State.modGroup_cadence_eq {g : Nat} {f F : GroupSt → GroupSt} (h : ∀ c, (f c).steady = F c.steady) :
    (s.modGroup g f).cadence = s.cadence.modGroup g F := by
  have group : (fun j => ((s.modGroup g f).group j).steady) = (s.cadence.modGroup g F).group := by
    funext j
    rw [State.modGroup_group]
    simp only [Cadence.modGroup, State.cadence]
    split
    · exact h _
    · rfl
  exact congrArg (fun x : Nat → GroupSt => ({ s.cadence with group := x } : Cadence)) group

theorem State.modGroup_cadence {g : Nat} {f : GroupSt → GroupSt} (h : ∀ c, (f c).steady = c.steady) : (s.modGroup g f).cadence = s.cadence := by
  refine (State.modGroup_cadence_eq (F := id) h).trans ?_
  have group : (s.cadence.modGroup g id).group = s.cadence.group := by
    funext j
    simp only [Cadence.modGroup, id]
    split
    · next same => rw [same]
    · rfl
  exact congrArg (fun x : Nat → GroupSt => ({ s.cadence with group := x } : Cadence)) group

theorem State.modStore_cadence {k : Nat} {f : StoreSlot → StoreSlot} (h : ∀ x, (f x).truss = x.truss) : (s.modStore k f).cadence = s.cadence := by
  have truss : (fun j => ((s.modStore k f).store j).truss) = fun j => (s.store j).truss := by
    funext j
    rw [State.modStore_store]
    split
    · next same => rw [h, same]
    · rfl
  exact congrArg (fun x : Nat → Option Truss => ({ s.cadence with truss := x } : Cadence)) truss

theorem State.modFn_cadence {k : Nat} {f : FnSt → FnSt} : (s.modFn k f).cadence = s.cadence := (rfl)
theorem State.modBoot_cadence {f : BootSt → BootSt} : (s.modBoot f).cadence = s.cadence := (rfl)
theorem State.modBootMram_cadence {f : BootMram → BootMram} : (s.modBootMram f).cadence = s.cadence := (rfl)
theorem State.modPll_cadence {k : Nat} {g : Pll → Pll} : (s.modPll k g).cadence = s.cadence := (rfl)
theorem State.modFlt_cadence {f : FltSt → FltSt} : (s.modFlt f).cadence = s.cadence := (rfl)
theorem State.modFltSrc_cadence {k : Nat} {g : FltSrc → FltSrc} : (s.modFltSrc k g).cadence = s.cadence := (rfl)
theorem State.modSvc_cadence {f : SvcSt → SvcSt} : (s.modSvc f).cadence = s.cadence := (rfl)
theorem State.modSec_cadence {f : SecSt → SecSt} : (s.modSec f).cadence = s.cadence := (rfl)
theorem State.modPmu_cadence {f : PmuSt → PmuSt} : (s.modPmu f).cadence = s.cadence := (rfl)
theorem State.modEth_cadence {p : Nat} {f : EthSt → EthSt} : (s.modEth p f).cadence = s.cadence := (rfl)
theorem State.modQueue_cadence {p q : Nat} {f : NetQueue → NetQueue} : (s.modQueue p q f).cadence = s.cadence := (rfl)
theorem State.modHead_cadence {h : Nat} {f : HeadSt → HeadSt} : (s.modHead h f).cadence = s.cadence := (rfl)
theorem State.modAdt_cadence {f : AdtSt → AdtSt} : (s.modAdt f).cadence = s.cadence := (rfl)
theorem State.modPeer_cadence {k : Nat} {f : Peer → Peer} : (s.modPeer k f).cadence = s.cadence := (rfl)
theorem State.modIng_cadence {x : Nat} {f : IngSt → IngSt} : (s.modIng x f).cadence = s.cadence := (rfl)
theorem State.modWb_cadence {e : Nat} {f : WbSt → WbSt} : (s.modWb e f).cadence = s.cadence := (rfl)
theorem State.modSlot_cadence {x : Nat} {f : SlotSt → SlotSt} : (s.modSlot x f).cadence = s.cadence := (rfl)
theorem State.modSurf_cadence {h : Nat} {f : Surface → Surface} : (s.modSurf h f).cadence = s.cadence := (rfl)
theorem State.modIssue_cadence {i : Nat} {f : Issue → Issue} : (s.modIssue i f).cadence = s.cadence := (rfl)
theorem State.draw_cadence : s.draw.2.cadence = s.cadence := (rfl)
theorem State.countN_cadence {e n : Nat} : (s.countN e n).cadence = s.cadence := (rfl)
theorem State.count_cadence {e : Nat} : (s.count e).cadence = s.cadence := (rfl)
theorem State.countUnits_cadence {e unit n : Nat} : (s.countUnits e unit n).cadence = s.cadence := (rfl)
theorem State.emit_cadence {o : Out} : (s.emit o).cadence = s.cadence := (rfl)

theorem State.pend_cadence {x : Nat} : (s.pend x).cadence = s.cadence := cadence_of_lasting (pend_lasting ..) (pend_seq ..)

theorem State.setCond_cadence {x : Nat} {b : Bool} : (s.setCond x b).cadence = s.cadence := ite_keeps State.cadence (rfl) (rfl)

theorem State.untilPlan_cadence {t : Nat} : (s.untilPlan t).cadence = { s.cadence with plan := max s.clk.plan t } := by
  rw [← State.untilPlan_plan, State.untilPlan_eq]
  rfl

theorem State.driveErrn_cadence : s.driveErrn.cadence = s.cadence := ite_keeps State.cadence (rfl) (rfl)

/-! ### Event records, traffic and memory -/

theorem State.record_cadence {f t : Nat} {subject : Half} {payload : List Byte} : (s.record f t subject payload).cadence = s.cadence :=
  cadence_of_sansSent (record_sansSent ..)

theorem State.recordTo_cadence {p : Nat → Bool} {t : Nat} {subject : Half} {payload : List Byte} :
    (s.recordTo p t subject payload).cadence = s.cadence := cadence_of_sansSent (recordTo_sansSent ..)

theorem State.serviceEvent_cadence {p : Nat → Bool} {service : Half} {code subject : Nat} {detail : List Byte} :
    (s.serviceEvent p service code subject detail).cadence = s.cadence := State.recordTo_cadence

theorem State.traffic_cadence {path : Nat} {write : Bool} {w : Who} {units : List Nat} : (s.traffic path write w units).cadence = s.cadence :=
  cadence_of_sansCounts (traffic_sansCounts ..)

theorem State.hostRead_cadence {a n : Nat} {noSnoop : Bool} {w : Who} : (s.hostRead a n noSnoop w).cadence = s.cadence :=
  cadence_of_sansCounts (hostRead_sansCounts ..)

theorem State.hostWrite_cadence {a : Nat} {bs : List Byte} {w : Who} : (s.hostWrite a bs w).cadence = s.cadence := by
  simp only [State.hostWrite, State.traffic_cadence, State.countN_cadence, State.emit_cadence]

theorem State.memWrite_cadence {a : Nat} {bs : List Byte} {w : Who} : (s.memWrite a bs w).cadence = s.cadence :=
  ite_keeps State.cadence rfl (cadence_of_sansBytes (memStore_sansBytes ..))

/-! ### Sending to peers -/

theorem State.sendIp_cadence {p q addr : Nat} {f : QFrame} : (s.sendIp p q addr f).cadence = s.cadence :=
  cadence_of_sansSent (sendIp_sansSent ..)

theorem State.adtSendBy_cadence {q k : Nat} {kind : String} {body : Nat} {fields : List Nat} :
    (s.adtSendBy q k kind body fields).cadence = s.cadence := by
  simp only [State.adtSendBy, State.modPeer_cadence, State.sendIp_cadence, cadence_ite, ite_self, foldl_cadence, implies_true]

theorem State.adtSend_cadence {k : Nat} {kind : String} {body : Nat} {fields : List Nat} : (s.adtSend k kind body fields).cadence = s.cadence :=
  State.adtSendBy_cadence

theorem State.peerState_cadence {k state reason : Nat} : (s.peerState k state reason).cadence = s.cadence :=
  cadence_of_lasting (peerState_lasting ..) (peerState_seq ..)

theorem State.liveAgain_cadence {k : Nat} : (s.liveAgain k).cadence = s.cadence := ite_keeps State.cadence State.peerState_cadence rfl

theorem State.sendBlank_cadence {k : Nat} {b : Blank} : (s.sendBlank k b).cadence = s.cadence :=
  cadence_of_lasting (sendBlank_lasting ..) (sendBlank_seq ..)

/-! ### The fault collector -/

/-- R212: the choice of variant decides switches to come, no more. -/
theorem chooseVariants_cadence : (chooseVariants s).cadence = s.cadence := by
  have edge : (paceEdge s).cadence = s.cadence := ite_keeps State.cadence rfl State.pend_cadence
  have decided : ∀ (g want : Nat) (t : State), (decideVariant g want t).cadence = t.cadence := fun _ _ _ => State.modGroup_cadence fun _ => rfl
  refine ite_keeps State.cadence edge ((foldl_cadence fun t g => ?_).trans edge)
  exact ite_keeps State.cadence (ite_keeps State.cadence rfl (decided ..)) rfl

theorem stopDecoder_cadence {d : Nat} : (stopDecoder d s).cadence = s.cadence := cadence_of_lasting (stopDecoder_lasting ..) (stopDecoder_seq ..)

theorem unitReaction_cadence {src : Nat} : (unitReaction src s).cadence = s.cadence :=
  ite_keeps State.cadence rfl (ite_keeps State.cadence stopDecoder_cadence (ite_keeps State.cadence rfl rfl))

theorem State.putFence_cadence {x : Nat} {v : Bool} : (s.putFence x v).cadence = s.cadence :=
  cadence_of_lasting (putFence_lasting ..) (putFence_seq ..)

theorem enterSafe_cadence : (enterSafe s).cadence = s.cadence := cadence_of_lasting (enterSafe_lasting s) (enterSafe_seq s)

theorem fltStore_cadence {o : Occ} : (fltStore o s).cadence = s.cadence := cadence_of_lasting (fltStore_lasting o s) (fltStore_seq o s)

theorem fltMove_cadence : (fltMove s).cadence = s.cadence := cadence_of_lasting (fltMove_lasting s) (fltMove_seq s)

theorem fltFence_cadence {o : Occ} : (fltFence o s).cadence = s.cadence := by
  simp only [fltFence, State.modFltSrc_cadence, State.count_cadence, State.putFence_cadence, State.modFlt_cadence, chooseVariants_cadence,
    unitReaction_cadence, cadence_ite, ite_self]

theorem fltReact_cadence {o : Occ} : (fltReact o s).cadence = s.cadence := by
  simp only [fltReact, State.modFltSrc_cadence, State.pend_cadence, State.count_cadence, State.modFlt_cadence, State.modBoot_cadence,
    fltFence_cadence, enterSafe_cadence, cadence_ite, ite_self]

theorem snapFault_cadence {cls : Nat} : (snapFault cls s).cadence = s.cadence := ite_keeps State.cadence rfl rfl

theorem fltTake_cadence {o : Occ} : (fltTake o s).cadence = s.cadence := by
  simp only [fltTake, snapFault_cadence, State.modFltSrc_cadence, fltStore_cadence, fltReact_cadence, cadence_ite, ite_self]

theorem State.fault_cadence {x : Nat} {detail : Word} : (s.fault x detail).cadence = s.cadence :=
  ite_keeps State.cadence ((foldl_cadence fun _ _ => fltTake_cadence).trans fltMove_cadence) (ite_keeps State.cadence rfl rfl)

theorem State.faultOpen_cadence {x : Nat} : (s.faultOpen x).cadence = s.cadence := State.fault_cadence

/-! ### Fetches -/

theorem sweepIssues_cadence : (sweepIssues s).cadence = s.cadence := (rfl)

theorem readOut_cadence {x : Issue} {r : FRead} : (readOut x r s).cadence = s.cadence :=
  ite_keeps State.cadence State.hostRead_cadence State.traffic_cadence

theorem tryRead_cadence {i j : Nat} {acc : List Nat × State} : (tryRead i j acc).2.cadence = acc.2.cadence := by
  simp only [tryRead, State.modIssue_cadence, State.count_cadence, State.countN_cadence, readOut_cadence, cadence_ite, snd_ite, ite_self]

theorem pumpReads_cadence : (pumpReads s).cadence = s.cadence := by
  simp only [pumpReads, tryRead_cadence, foldl_snd_cadence, implies_true]

theorem budgetReached_cadence {slot n : Nat} : (budgetReached slot n s).cadence = s.cadence := by
  simp only [budgetReached, State.modSlot_cadence, State.countN_cadence, State.faultOpen_cadence, cadence_ite, ite_self]

theorem issueEntry_cadence {k v g item entry : Nat} {n : Word} {ahead : Bool} : (issueEntry k v g item entry n ahead s).cadence = s.cadence := by
  unfold issueEntry
  dsimp only
  split
  · rfl
  split
  · rfl
  refine ite_keeps State.cadence rfl (pumpReads_cadence.trans ?_)
  exact ite_then State.cadence rfl budgetReached_cadence

theorem dropIssue_cadence {i : Nat} : (dropIssue i s).cadence = s.cadence := by
  simp only [dropIssue, State.count_cadence, State.countN_cadence, State.modSlot_cadence, State.modIssue_cadence, cadence_ite, ite_self,
    foldl_cadence, implies_true]

theorem recompareAt_cadence {g i : Nat} : (recompareAt g i s).cadence = s.cadence := by
  unfold recompareAt
  dsimp only
  split
  · rfl
  split
  · rfl
  · simp only [dropIssue_cadence, State.count_cadence, issueEntry_cadence, cadence_ite, ite_self]

theorem recompare_cadence {g : Nat} : (recompare g s).cadence = s.cadence := sweepIssues_cadence.trans (foldl_cadence fun _ _ => recompareAt_cadence)

end

end Sys2Proof.Machine
end

section
/-! SUPPORT. What the steps of a sill leave of the cadence (R196–R208, R212–R214): what goes out to peers, heads, engines and ports, the settings that
come into force, and the slots. -/

namespace Sys2Proof.Machine

section
variable {s : State}

/-! ### Endpoints and sources -/

theorem markDirty_cadence {k : Nat} {is : List Nat} : (markDirty k is s).cadence = s.cadence := (rfl)

theorem resetHeld_cadence {k : Nat} : (resetHeld k s).cadence = s.cadence := (rfl)

theorem present_cadence {k : Nat} {n : Word} {count : Nat} : (present k n count s).cadence = s.cadence := by
  have settled : (settleHeld k n count s).cadence = s.cadence := (rfl)
  simp only [present, settled, markDirty_cadence, State.modAdt_cadence, State.count_cadence, State.adtSend_cadence, State.liveAgain_cadence,
    State.modPeer_cadence, cadence_ite, ite_self]

theorem presentGroup_cadence {g : Nat} : (presentGroup g s).cadence = s.cadence :=
  ite_keeps State.cadence rfl (foldl_cadence fun _ _ => present_cadence)

theorem sendHold_cadence {k reason : Nat} : (sendHold k reason s).cadence = s.cadence := by
  simp only [sendHold, State.count_cadence, State.adtSend_cadence, State.liveAgain_cadence, State.modPeer_cadence, cadence_ite, ite_self]

theorem endHold_cadence {k : Nat} : (endHold k s).cadence = s.cadence := ite_keeps State.cadence rfl State.liveAgain_cadence

theorem settleEndpoint_cadence {k : Nat} : (settleEndpoint k s).cadence = s.cadence := by
  unfold settleEndpoint
  refine ite_keeps State.cadence rfl (ite_keeps State.cadence State.sendBlank_cadence (ite_keeps State.cadence State.sendBlank_cadence ?_))
  split
  · exact State.sendBlank_cadence
  · exact ite_keeps State.cadence rfl sendHold_cadence
  · exact sendHold_cadence

theorem bulletinBlanks_cadence {g : Nat} : (bulletinBlanks g s).cadence = s.cadence := by
  refine foldl_cadence fun s x => ?_
  split
  · simp only [settleEndpoint_cadence, State.liveAgain_cadence, resetHeld_cadence, State.sendBlank_cadence, cadence_ite, ite_self]
  · rfl

theorem sendAnnounce_cadence {k : Nat} {update : Bool} : (sendAnnounce k update s).cadence = s.cadence := by
  unfold sendAnnounce
  split
  · rfl
  · exact State.adtSend_cadence

theorem reannounce_cadence {g : Nat} : (reannounce g s).cadence = s.cadence :=
  foldl_cadence fun _ _ => ite_keeps State.cadence sendAnnounce_cadence rfl

theorem closeSession_cadence {k reason : Nat} : (closeSession k reason s).cadence = s.cadence := by
  have kept : ∀ t : State, (keepRtag k t).cadence = t.cadence := fun _ => (rfl)
  simp only [closeSession, kept, State.peerState_cadence, State.modAdt_cadence, State.modPeer_cadence, cadence_ite, ite_self]

theorem leaveSession_cadence {k reason : Nat} : (leaveSession k reason s).cadence = s.cadence :=
  ite_keeps State.cadence rfl (closeSession_cadence.trans State.adtSend_cadence)

theorem moveEndpoint_cadence {k : Nat} {was : Machine.Stream} {wasBinding : Option TBinding} :
    (moveEndpoint k was wasBinding s).cadence = s.cadence :=
  ite_keeps State.cadence rfl (ite_keeps State.cadence rfl (resetHeld_cadence.trans State.adtSend_cadence))

theorem ensureIngestHandle_cadence {num : Nat} : (ensureIngestHandle num s).cadence = s.cadence := by
  unfold ensureIngestHandle
  split
  · rfl
  split
  · rfl
  · rfl

theorem steerSource_cadence {num : Nat} : (steerSource num s).cadence = s.cadence := by
  simp only [steerSource, State.modPeer_cadence, State.adtSend_cadence, cadence_ite, ite_self]

theorem relayRings_cadence {newTruss : Bool} {t : Truss} {v : Nat} : (relayRings newTruss t v s).cadence = s.cadence := by
  unfold relayRings
  dsimp only
  split
  · rfl
  · simp only [ensureIngestHandle_cadence, State.modIng_cadence, steerSource_cadence, foldl_cadence, implies_true]

/-! ### Heads and their PLLs -/

theorem updateCounter_cadence {c : Nat} : (updateCounter c s).cadence = s.cadence := by
  simp only [updateCounter, State.modPmu_cadence, State.pend_cadence, cadence_ite, ite_self]

theorem updateFiltered_cadence {below : Bool} {f : Nat} : (updateFiltered below f s).2.cadence = s.cadence := by
  simp only [updateFiltered, State.modPmu_cadence, State.pend_cadence, cadence_ite, ite_self]

theorem takeSnapshot_cadence {mask : Nat} : (takeSnapshot mask s).cadence = s.cadence :=
  ite_keeps State.cadence rfl (ite_keeps State.cadence rfl rfl)

theorem pmuStop_cadence : (pmuStop s).cadence = s.cadence := by
  simp only [pmuStop, pmuUpdate, State.countN_cadence, updateCounter_cadence, updateFiltered_cadence, takeSnapshot_cadence, State.modPmu_cadence,
    foldl_cadence, foldl_snd_cadence, implies_true, State.draw_cadence]

theorem wbMissing_cadence {e : Nat} : (wbMissing e s).cadence = s.cadence := ite_keeps State.cadence rfl rfl

theorem stopHead_cadence {h : Nat} : (stopHead h s).cadence = s.cadence := by
  refine ite_keeps State.cadence rfl ?_
  dsimp only
  split
  · exact ite_keeps State.cadence rfl wbMissing_cadence
  · rfl

theorem headRecord_cadence {h : Nat} : (headRecord h s).cadence = s.cadence := State.recordTo_cadence

theorem headEvent_cadence {h : Nat} : (headEvent h s).cadence = s.cadence := State.pend_cadence.trans headRecord_cadence

theorem dropLink_cadence {h : Nat} : (dropLink h s).cadence = s.cadence := ite_keeps State.cadence headEvent_cadence rfl

theorem closeGate_cadence {k : Nat} : (closeGate k s).cadence = s.cadence := by
  simp only [closeGate, pmuStop_cadence, State.modPll_cadence, stopHead_cadence, dropLink_cadence, cadence_ite, ite_self, foldl_cadence,
    implies_true]

theorem programPll_cadence {x : HeadTiming} : (programPll x s).cadence = s.cadence := by
  have begun : ∀ (k : Nat) (t : State), (acquirePll k t).cadence = t.cadence := fun _ _ => (rfl)
  simp only [programPll, closeGate_cadence, State.modPll_cadence, begun, cadence_ite, ite_self]

theorem tryConfigs_cadence {h : Nat} {cs : List (Nat × Nat)} : (tryConfigs h cs s).cadence = s.cadence := by
  unfold tryConfigs
  split
  · rfl
  · exact State.fault_cadence.trans headEvent_cadence

theorem startTraining_cadence {h : Nat} {fromLast : Bool} : (startTraining h fromLast s).cadence = s.cadence :=
  ite_keeps State.cadence rfl (ite_keeps State.cadence rfl (tryConfigs_cadence.trans headRecord_cadence))

theorem refreshPllHeads_cadence : (refreshPllHeads s).cadence = s.cadence := foldl_cadence fun _ _ => State.modPll_cadence

theorem takeTiming_cadence {h : Nat} {x : HeadTiming} : (takeTiming h x s).cadence = s.cadence := by
  have fresh : ∀ (k : Nat) (t : State), (freshHead k t).cadence = t.cadence := fun _ _ => (rfl)
  simp only [takeTiming, refreshPllHeads_cadence, State.modHead_cadence, fresh, programPll_cadence, startTraining_cadence, cadence_ite, ite_self,
    foldl_cadence, implies_true]

theorem leaveHead_cadence {h : Nat} : (leaveHead h s).cadence = s.cadence := by
  have power : ∀ (v : Nat) (t : State), (sinkPower h v t).cadence = t.cadence := fun _ _ => ite_keeps State.cadence rfl rfl
  simp only [leaveHead, stopHead_cadence, refreshPllHeads_cadence, State.modHead_cadence, headEvent_cadence, power, cadence_ite, ite_self]

/-! ### Writeback engines -/

theorem State.assertLine_cadence {line : Nat} : (s.assertLine line).cadence = s.cadence := by
  refine foldl_cadence fun s x => ?_
  dsimp only
  split
  · exact ite_keeps State.cadence (ite_keeps State.cadence rfl rfl) rfl
  · rfl

theorem postFrame_cadence {queue : Nat} {r : CplRec} : (postFrame queue r s).cadence = s.cadence := by
  have posted : ∀ (q : Nat) (t : State), (cqPost q r t).2.cadence = t.cadence := fun _ _ => (rfl)
  have dropped : ∀ (q : Nat) (t : State), (cqDrop q t).cadence = t.cadence := fun _ _ => (rfl)
  have written : ∀ (q : Nat) (r : CplRec) (t : State), (cqWrite q r t).cadence = t.cadence := fun _ _ _ =>
    State.setCond_cadence.trans (ite_keeps State.cadence (ite_keeps State.cadence State.hostWrite_cadence rfl) State.memWrite_cadence)
  simp only [postFrame, posted, dropped, written, cadence_ite, ite_self]

theorem wbReport_cadence {e : Nat} : (wbReport e s).cadence = s.cadence := by
  simp only [wbReport, State.modWb_cadence, State.count_cadence, State.fault_cadence, State.pend_cadence, postFrame_cadence,
    State.assertLine_cadence, cadence_ite, ite_self]

theorem wbTell_cadence {e : Nat} {skip : Bool} : (wbTell e skip s).cadence = s.cadence := ite_keeps State.cadence rfl State.pend_cadence

theorem wbStart_cadence {e : Nat} {n : Word} : (wbStart e n s).cadence = s.cadence := by
  unfold wbStart
  extract_lets told w
  have ended : told.cadence = s.cadence := ite_keeps State.cadence wbReport_cadence rfl
  refine ite_keeps State.cadence ended ?_
  split
  · exact ite_keeps State.cadence ended (wbTell_cadence.trans ended)
  · exact wbTell_cadence.trans ended

theorem startWritebacks_cadence {g : Nat} {t : Truss} {oldV oldJ : Nat} {n : Word} : (startWritebacks g t oldV oldJ n s).cadence = s.cadence := by
  simp only [startWritebacks, State.modWb_cadence, wbMissing_cadence, wbStart_cadence, wbReport_cadence, cadence_ite, ite_self, foldl_cadence,
    implies_true]

theorem dropTargets_cadence {o : TOutput} : (dropTargets o s).cadence = s.cadence := by
  simp only [dropTargets, wbReport_cadence, wbMissing_cadence, State.modWb_cadence, cadence_ite, ite_self]

/-! ### The publish cutoff -/

/-- R203: the cutoff of the next sill has passed. -/
def GroupSt.cutOff (c : GroupSt) : GroupSt := { c with cutoffPassed := true }

/-- R203: what a cutoff decides for the slots is theirs alone. -/
theorem passCutoff_cadence {g : Nat} (runs : s.grpRuns g = true) : (passCutoff g s).cadence = s.cadence.modGroup g GroupSt.cutOff := by
  obtain ⟨t, ht⟩ := Option.isSome_iff_exists.mp runs
  unfold passCutoff
  rw [ht]
  refine recompare_cadence.trans ((State.modGroup_cadence_eq (F := GroupSt.cutOff) fun _ => rfl).trans (congrArg _ (foldl_cadence fun u e => ?_)))
  have ingest : ∀ (v : Nat) (u : State), (takeIngest g v e u).cadence = u.cadence := fun _ _ => (rfl)
  exact ite_then State.cadence rfl (ingest ..)

/-! ### Step 1: the armed shadow set -/

theorem State.armResult_cadence {f g result slot : Nat} {n : Word} : (s.armResult f g result slot n).cadence = s.cadence :=
  State.pend_cadence.trans (State.record_cadence.trans (State.modGroup_cadence fun _ => rfl))

theorem State.dropArm_cadence {g : Nat} : (s.dropArm g).cadence = s.cadence := by
  have withdrawn : ∀ a : Arm, (s.withdraw a.fn g).cadence = s.cadence := fun a => by
    refine State.armResult_cadence.trans (Eq.trans ?_ (State.modGroup_cadence (g := g) (f := fun c => { c with arm := none }) fun _ => rfl))
    split
    · exact foldl_cadence fun _ _ => State.modSlot_cadence
    · rfl
  unfold State.dropArm
  split
  · exact withdrawn _
  · rfl

theorem takeWindow_cadence {armed : Bool} {e : TSlot} : (takeWindow armed e s).cadence = s.cadence := by
  simp only [takeWindow, State.modSlot_cadence, State.count_cadence, cadence_ite, ite_self]

theorem loadRates_cadence {p : Nat} {r : RateSet} : (loadRates p r s).cadence = s.cadence := by
  simp only [loadRates, State.modQueue_cadence, State.modEth_cadence]

theorem takeShadows_cadence {g : Nat} {t : Truss} : (takeShadows g t s).cadence = s.cadence := by
  have bypass : ∀ u : State, (refreshBypass u).cadence = u.cadence := fun _ => foldl_cadence fun _ _ => (rfl)
  refine (bypass _).trans ((foldl_cadence fun t p => ?_).trans (foldl_cadence fun t o => ?_))
  · split
    · exact ite_keeps State.cadence (loadRates_cadence.trans State.modEth_cadence) rfl
    · rfl
  · dsimp only
    split
    · exact takeTiming_cadence
    · rfl

theorem applyArm_cadence {g : Nat} {parity : Bool} : (applyArm g parity s).2.cadence = s.cadence := by
  unfold applyArm
  split
  · rfl
  · have apart : ∀ u : State, (u.modGroup g fun c => { c with arm := none, copying := true }).cadence = u.cadence :=
      fun _ => State.modGroup_cadence fun _ => rfl
    have waits : ∀ u : State, (u.modGroup g fun c => { c with arm := c.arm.map fun a => { a with wait := a.wait - 1 } }).cadence = u.cadence :=
      fun _ => State.modGroup_cadence fun _ => rfl
    simp only [State.modSlot_cadence, State.faultOpen_cadence, State.dropArm_cadence, takeWindow_cadence, apart, waits, takeShadows_cadence,
      cadence_ite, snd_ite, ite_self, foldl_cadence, implies_true]

/-! ### Step 2: deferred commands -/

theorem State.writeCells_cadence {h copy cols : Nat} {cells : List (Nat × Nat)} : (s.writeCells h copy cols cells).cadence = s.cadence :=
  foldl_cadence fun _ _ => ite_keeps State.cadence State.hostWrite_cadence State.memWrite_cadence

theorem setSyncOut_cadence {x : SyncOutCfg} : (setSyncOut x s).cadence = s.cadence := ite_keeps State.cadence (rfl) (rfl)

theorem cellsApplied_cadence {f slot : Nat} {n : Word} : (cellsApplied f slot n s).cadence = s.cadence := State.serviceEvent_cadence

theorem applyOp_cadence {g : Nat} {n : Word} {d : Deferred} : (applyOp g n d s).cadence = s.cadence := by
  have cutoff : ∀ us : Nat, (s.modGroup g fun c => { c with cutoffSet := if us = 0 then 0 else us + 1 }).cadence = s.cadence :=
    fun _ => State.modGroup_cadence fun _ => rfl
  unfold applyOp
  split <;> simp only [State.modPll_cadence, setSyncOut_cadence, State.modFn_cadence, State.modSlot_cadence, State.modWb_cadence, cutoff,
    State.modSvc_cadence, bulletinBlanks_cadence, State.pend_cadence, State.serviceEvent_cadence, cadence_ite, ite_self, cellsApplied_cadence,
    State.count_cadence]

theorem flipMaps_cadence {ops : List Deferred} : (flipMaps ops s).cadence = s.cadence :=
  (foldl_cadence fun _ _ => State.writeCells_cadence).trans (foldl_cadence fun _ _ => State.modSurf_cadence)

theorem applyOps_cadence {g : Nat} {n : Word} : (applyOps g n s).cadence = s.cadence := by
  refine (foldl_cadence fun _ _ => State.writeCells_cadence).trans ((foldl_cadence fun _ _ => applyOp_cadence).trans ?_)
  exact flipMaps_cadence.trans (modSeq_cadence rfl rfl)

/-! ### Step 3: a variant switch -/

theorem settleVariant_cadence {g v : Nat} {t : Truss} : (settleVariant g v t s).cadence = s.cadence := by
  simp only [settleVariant, State.modSlot_cadence, sendHold_cadence, endHold_cadence, cadence_ite, ite_self, foldl_cadence, implies_true]

theorem calendarRates_cadence {g v : Nat} {t : Truss} : (calendarRates g v t s).cadence = s.cadence :=
  foldl_cadence fun _ _ => ite_keeps State.cadence (loadRates_cadence.trans State.modEth_cadence) rfl

theorem takeVariant_cadence {g v : Nat} : (takeVariant g v s).cadence = s.cadence := by
  have taken : ((s.modGroup g fun c => { c with variant := v }).count 402).cadence = s.cadence :=
    State.count_cadence.trans (State.modGroup_cadence fun _ => rfl)
  have spans : ∀ u : State, (bwSwitch u).cadence = u.cadence := fun _ => foldl_cadence fun _ _ => (rfl)
  unfold takeVariant
  split
  · rfl
  · exact relayRings_cadence.trans (calendarRates_cadence.trans (settleVariant_cadence.trans ((spans _).trans taken)))

theorem applyVariant_cadence {g : Nat} : (applyVariant g s).cadence = s.cadence := by
  have counted : ∀ l, (s.modGroup g fun c => { c with variantNext := l }).cadence = s.cadence := fun _ => State.modGroup_cadence fun _ => rfl
  unfold applyVariant
  dsimp only
  split
  · exact takeVariant_cadence.trans (counted _)
  · exact counted _

end

end Sys2Proof.Machine
end

section
/-! SUPPORT. The sill of a group (R192–R208, R213, R217): what its steps make of the group, in a group that goes on and in one that leaves. -/

namespace Sys2Proof.Machine

/-- R213: the truss switch due at a group's next sill, as the cadence gives it. -/
def Cadence.switchDue (κ : Cadence) (g : Nat) : Option Nat :=
  (κ.group g).switchTo.bind fun x => if x.2 ≤ (κ.group g).nextAt then some x.1 else none

/-- R213: the truss that a group runs on, as the cadence gives it. -/
def Cadence.grpTruss (κ : Cadence) (g : Nat) : Option Truss :=
  if (κ.group g).store = 0 then none else κ.truss ((κ.group g).store - 1)

/-- What of a group the placing of its next sill leaves (R193–R196). -/
def GroupSt.opened (c : GroupSt) : GroupSt := { c.steady with nextAt := 0, nextHyper := 0, nextJ := 0, reference := 0, period := 0 }

/-- Plan time, and of group `g` what the placing of its next sill leaves. -/
def State.frameOf (g : Nat) (s : State) : Nat × GroupSt := (s.clk.plan, (s.group g).opened)

section
variable {s : State}

theorem State.switchDue_eq (g : Nat) : s.switchDue g = s.cadence.switchDue g := rfl

theorem State.grpTruss_eq (g : Nat) : s.grpTruss g = s.cadence.grpTruss g := rfl

theorem State.frameOf_of_cadence {t : State} (h : t.cadence = s.cadence) (g : Nat) : t.frameOf g = s.frameOf g :=
  (congrArg (fun κ : Cadence => (κ.plan, (κ.group g).opened)) h :)

theorem State.plan_of_cadence {t : State} (h : t.cadence = s.cadence) : t.clk.plan = s.clk.plan := (congrArg Cadence.plan h :)

/-! ### The instant of the sill -/

/-- The state in which group `g` stands at the instant of its sill, its cutoff passed and the frame that ends presented (R192, R203, R336). -/
def atSill (g at' : Nat) (s : State) : State :=
  presentGroup g ((if (s.group g).cutoffPassed then s else passCutoff g (s.untilPlan ((s.group g).nextAt - s.cutoffNs g))).untilPlan at')

/-- On the way to its sill a group keeps its truss and the switch that it is to make. -/
theorem atSill_frame {g at' : Nat} (runs : s.grpRuns g = true) :
    (atSill g at' s).switchDue g = s.switchDue g ∧ (atSill g at' s).grpTruss g = s.grpTruss g ∧ at' ≤ (atSill g at' s).clk.plan := by
  have cut : ∀ u : State, u.cadence.switchDue g = s.cadence.switchDue g → u.cadence.grpTruss g = s.cadence.grpTruss g →
      (presentGroup g (u.untilPlan at')).switchDue g = s.switchDue g ∧ (presentGroup g (u.untilPlan at')).grpTruss g = s.grpTruss g ∧
      at' ≤ (presentGroup g (u.untilPlan at')).clk.plan := fun u due truss => by
    have shown := (presentGroup_cadence (s := u.untilPlan at') (g := g)).trans State.untilPlan_cadence
    refine ⟨?_, ?_, ?_⟩
    · rw [State.switchDue_eq, shown]
      exact due
    · rw [State.grpTruss_eq, shown]
      exact truss
    · rw [State.plan_of_cadence presentGroup_cadence, State.untilPlan_plan]
      exact Nat.le_max_right ..
  unfold atSill
  split
  · exact cut s rfl rfl
  · have later : (s.untilPlan ((s.group g).nextAt - s.cutoffNs g)).grpRuns g = true := by
      rw [State.grpRuns, State.grpTruss_eq, State.untilPlan_cadence]
      exact runs
    refine cut _ ?_ ?_ <;> rw [passCutoff_cadence later, State.untilPlan_cadence] <;>
      simp only [Cadence.switchDue, Cadence.grpTruss, Cadence.modGroup, if_true] <;> rfl

/-! ### A group that goes on -/

/-- R202: steps 1 to 4, in a group that makes no truss switch. -/
theorem sillSteps_cadence {g : Nat} {parity : Bool} {n : Word} (stays : s.switchDue g = none) : (sillSteps g parity n s).2.cadence = s.cadence := by
  have applied : (applyOps g n (applyArm g parity s).2).cadence = s.cadence := applyOps_cadence.trans applyArm_cadence
  have still : (applyOps g n (applyArm g parity s).2).switchDue g = none := by
    rw [State.switchDue_eq, applied]
    exact stays
  unfold sillSteps
  dsimp only
  rw [still]
  exact applyVariant_cadence.trans applied

theorem State.modGroup_frameOf {g : Nat} {f : GroupSt → GroupSt} (h : ∀ c, (f c).opened = c.opened) : (s.modGroup g f).frameOf g = s.frameOf g := by
  rw [State.frameOf, State.modGroup_group, if_pos rfl, h]
  rfl

theorem State.count_frameOf {g e : Nat} : (s.count e).frameOf g = s.frameOf g := State.frameOf_of_cadence State.count_cadence g

theorem modClk_frameOf {g : Nat} {f : ClkSt → ClkSt} (h : (f s.clk).plan = s.clk.plan) : (s.modClk f).frameOf g = s.frameOf g :=
  State.frameOf_of_cadence (modClk_cadence h) g

/-- R193–R196: the sill to come is placed; of the frame that has begun nothing moves. -/
theorem placeNext_frameOf {g : Nat} : (placeNext g false s).frameOf g = s.frameOf g := by
  unfold placeNext
  split
  · rfl
  split
  · rfl
  extract_lets c p0 hyper j ahead wrap own reference next grid placed fixed
  have grid : grid.frameOf g = s.frameOf g := ite_keeps (State.frameOf g) rfl (modClk_frameOf rfl)
  have placed : placed.frameOf g = s.frameOf g := by
    unfold placed
    split
    · exact State.modGroup_frameOf fun _ => rfl
    rw [if_neg (c := false = true ∧ _) (by simp only [Bool.false_eq_true, false_and, not_false_eq_true])]
    refine ite_keeps (State.frameOf g) (State.modGroup_frameOf fun _ => rfl) ?_
    exact Eq.trans (State.modGroup_frameOf fun _ => rfl) grid
  have fixed : fixed.frameOf g = s.frameOf g := Eq.trans (State.modGroup_frameOf fun _ => rfl) placed
  exact ite_keeps (State.frameOf g) fixed (State.count_frameOf.trans fixed)

theorem showIngest_cadence {e : TSlot} {n : Word} : (showIngest e n s).2.cadence = s.cadence := by
  simp only [showIngest, State.modSlot_cadence, State.modSvc_cadence, State.count_cadence, State.pend_cadence, State.serviceEvent_cadence,
    cadence_ite, ite_self]

theorem scaleFrame_cadence {g k : Nat} {e : TSlot} : (scaleFrame g k e s).cadence = s.cadence := ite_keeps State.cadence rfl (rfl)

theorem beginSlot_cadence {g k : Nat} {n : Word} {e : TSlot} : (beginSlot g k n e s).cadence = s.cadence := by
  have told : ∀ u : State, (u.modGroup g fun c => { c with nrLast := satInc c.nrLast, nrTotal := satInc c.nrTotal }).cadence = u.cadence :=
    fun _ => State.modGroup_cadence fun _ => rfl
  have counted : ∀ (x : Nat) (shown : Shown) (u : State), (countNotReady x shown u).cadence = u.cadence :=
    fun _ _ _ => State.count_cadence.trans (State.count_cadence.trans State.modSlot_cadence)
  simp only [beginSlot, showIngest_cadence, State.modSlot_cadence, scaleFrame_cadence, told, counted, cadence_ite, snd_ite, ite_self]

theorem releaseSurfaces_cadence {g : Nat} {n : Word} : (releaseSurfaces g n s).cadence = s.cadence :=
  foldl_cadence fun _ _ => ite_keeps State.cadence State.serviceEvent_cadence rfl

theorem sillReport_cadence {g : Nat} {arm : Bool × Bool} : (sillReport g arm s).cadence = s.cadence :=
  Eq.trans (State.modGroup_cadence fun _ => rfl) (State.pend_cadence.trans State.recordTo_cadence)

theorem snapSill_cadence {g : Nat} : (snapSill g s).cadence = s.cadence := ite_keeps State.cadence rfl rfl

theorem State.deferAt_cadence {g wait f : Nat} {op : SillOp} : (s.deferAt g wait f op).cadence = s.cadence := by
  unfold State.deferAt
  dsimp only
  split
  · exact ite_keeps State.cadence State.writeCells_cadence rfl
  · rfl

theorem layBulletin_cadence {g wait m : Nat} {e : TSlot} : (layBulletin g wait m e s).cadence = s.cadence := by
  unfold layBulletin
  split
  · rfl
  · exact State.deferAt_cadence

theorem relayBulletin_cadence {g : Nat} {was : List (Nat × Nat)} : (relayBulletin g was s).cadence = s.cadence := by
  unfold relayBulletin
  split
  · rfl
  · have laid := fun (t : Truss) => foldl_cadence (s := s) (l := (State.bulletinSlots t g).filter fun e => !was.contains (e.slot, (s.slot e.slot).active.surfaceHandle))
      (f := fun s e => layBulletin g (s.usableWait g) (s.svc.laid - 1) e s) fun _ _ => layBulletin_cadence
    exact ite_keeps State.cadence rfl (ite_keeps State.cadence (laid _) (State.deferAt_cadence.trans (laid _)))

theorem firstSill_cadence {g : Nat} : (firstSill g s).cadence = s.cadence := ite_keeps State.cadence rfl (ite_keeps State.cadence rfl rfl)

/-- R196, R202: what the sill of frame `n` makes of its group. -/
def GroupSt.beginFrame (n : Word) (hyper j at' : Nat) (c : GroupSt) : GroupSt :=
  { c with n := n, hyper := hyper, j := j, sillAt := at', begun := true, cutoffPassed := false, announced := false, copyDue := true, nrLast := 0,
           missLast := c.missNow, missNow := 0, issued := [], finished := [], missed := [], reference := if c.begun then c.reference else at' }

theorem beginGroup_eq (g : Nat) (n : Word) (hyper j at' : Nat) (s : State) :
    beginGroup g n hyper j at' s = s.modGroup g (GroupSt.beginFrame n hyper j at') := rfl

theorem beginGroup_cadence {g : Nat} {n : Word} {hyper j at' : Nat} :
    (beginGroup g n hyper j at' s).cadence = s.cadence.modGroup g (GroupSt.beginFrame n hyper j at') :=
  State.modGroup_cadence_eq fun _ => rfl

/-- R196–R208: the frame that a sill within a grain of its instant begins. -/
theorem openFrame_frameOf {g : Nat} {n : Word} {hyper j at' : Nat} {arm : Bool × Bool} {was : GroupSt} {e : TGroup} {t : Truss} :
    (openFrame g false n hyper j at' arm was e t s).frameOf g = (beginGroup g n hyper j at' s).frameOf g := by
  unfold openFrame
  extract_lets engines begun based tracked placed slots reported stats
  have same : begun.frameOf g = (beginGroup g n hyper j at' s).frameOf g := by
    refine State.frameOf_of_cadence ?_ g
    rw [beginGroup_cadence, beginGroup_cadence, startWritebacks_cadence]
  have base : based.frameOf g = begun.frameOf g := ite_keeps (State.frameOf g) rfl (State.modGroup_frameOf fun _ => rfl)
  have next : placed.frameOf g = based.frameOf g := State.count_frameOf.trans placeNext_frameOf
  have kept : slots.cadence = placed.cadence := foldl_cadence fun _ _ => beginSlot_cadence
  have told : (snapSill g (stats.modSeq fun q => { q with scalerRom := 0 })).cadence = slots.cadence :=
    snapSill_cadence.trans ((modSeq_cadence rfl rfl).trans (releaseSurfaces_cadence.trans sillReport_cadence))
  rw [State.frameOf_of_cadence (told.trans kept), next, base, same]

/-! ### A group that leaves -/

theorem leaveOutputs_cadence {g : Nat} {old new : Truss} : (leaveOutputs g old new s).cadence = s.cadence := by
  simp only [leaveOutputs, dropTargets_cadence, leaveHead_cadence, stopHead_cadence, leaveSession_cadence, sendHold_cadence, cadence_ite, ite_self,
    foldl_cadence, implies_true]

/-- R213: a group that leaves has no truss any more. -/
theorem leaveTruss_cadence {g : Nat} : (leaveTruss g s).cadence = s.cadence.modGroup g fun _ => {} := by
  unfold leaveTruss
  extract_lets new out ops svc
  have kept : svc.cadence = s.cadence := by
    refine State.modSvc_cadence.trans ((modSeq_cadence rfl rfl).trans ?_)
    unfold out
    split
    · exact leaveOutputs_cadence
    · rfl
  rw [State.count_cadence, ← kept]
  exact State.modGroup_cadence_eq fun _ => rfl

theorem endSwitch_cadence {x : Switch} : (endSwitch x s).cadence = s.cadence := by
  unfold endSwitch
  extract_lets t was left gone passed slots noSource sources ends heads sec mem ported order chosen d d2
  have admitted : left.cadence = s.cadence := ite_keeps State.cadence rfl (State.modStore_cadence fun _ => rfl)
  have taken : slots.cadence = s.cadence := (modSeq_cadence rfl rfl).trans ((modSeq_cadence rfl rfl).trans admitted)
  have moved : sources.cadence = slots.cadence := foldl_cadence fun _ _ => by
    dsimp only
    split
    · exact moveEndpoint_cadence
    · exact State.modIng_cadence.trans leaveSession_cadence
  have closed : ends.cadence = sources.cadence := foldl_cadence fun _ _ => ite_keeps State.cadence leaveSession_cadence rfl
  have off : heads.cadence = ends.cadence := foldl_cadence fun _ _ => ite_keeps State.cadence leaveHead_cadence rfl
  have ports : ported.cadence = sec.cadence := by
    simp only [ported, State.cadence, State.store, State.group]
  have kept : sec.cadence = heads.cadence := State.modBootMram_cadence.trans State.modSec_cadence
  have all : chosen.cadence = s.cadence :=
    calc chosen.cadence
      _ = order.cadence := chooseVariants_cadence
      _ = ported.cadence := State.modFlt_cadence
      _ = slots.cadence := ports.trans (kept.trans (off.trans (closed.trans moved)))
      _ = s.cadence := taken
  exact ite_keeps State.cadence all (State.serviceEvent_cadence.trans all)

theorem settleSwitch_cadence : (settleSwitch s).cadence = s.cadence := by
  unfold settleSwitch
  split
  · rfl
  · exact ite_keeps State.cadence rfl endSwitch_cadence

theorem State.grpRuns_of_cadence {t : State} (h : t.cadence = s.cadence) (g : Nat) : t.grpRuns g = s.grpRuns g :=
  (congrArg (fun κ : Cadence => (κ.grpTruss g).isSome) h :)

/-- R213, R217: after the sill at which it leaves, a group has no truss any more. -/
theorem leaveAtSill_leaves {g : Nat} {parity : Bool} {n : Word} :
    (leaveAtSill g parity n s).clk.plan = s.clk.plan ∧ (leaveAtSill g parity n s).grpRuns g = false := by
  unfold leaveAtSill
  extract_lets r named reported
  have plan : reported.clk.plan = s.clk.plan :=
    calc reported.clk.plan
      _ = named.clk.plan := State.plan_of_cadence (State.count_cadence.trans sillReport_cadence)
      _ = (applyOps g n r.2).clk.plan := rfl
      _ = r.2.clk.plan := State.plan_of_cadence applyOps_cadence
      _ = s.clk.plan := State.plan_of_cadence applyArm_cadence
  have left : (leaveTruss g reported).cadence = reported.cadence.modGroup g fun _ => {} := leaveTruss_cadence
  have rest : (snapSill g (releaseSurfaces g n (settleSwitch (leaveTruss g reported)))).cadence = (leaveTruss g reported).cadence :=
    snapSill_cadence.trans (releaseSurfaces_cadence.trans settleSwitch_cadence)
  refine ⟨(State.plan_of_cadence rest).trans ((congrArg Cadence.plan left).trans plan), (State.grpRuns_of_cadence rest g).trans ?_⟩
  rw [State.grpRuns, State.grpTruss_eq, left, Cadence.grpTruss, if_pos]
  · rfl
  · exact congrArg GroupSt.store (if_pos rfl)

/-! ### The row -/

/-- R192: the instant of a sill issued `off` grains from the one placed for it. -/
def State.sillAt (s : State) (g : Nat) (off : Int) : Nat := (((s.group g).nextAt : Int) + 64 * off).toNat

/-- R192: a group whose cutoff has passed has it passed by, and the sill is issued at its instant. -/
theorem atSill_eq (g : Nat) (off : Int) (s : State) :
    presentGroup g ((if !(s.group g).cutoffPassed then passCutoff g (s.untilPlan ((s.group g).nextAt - s.cutoffNs g)) else s).untilPlan
      (((s.group g).nextAt : Int) + grain * off).toNat) = atSill g (s.sillAt g off) s := by
  have turn : (if !(s.group g).cutoffPassed then passCutoff g (s.untilPlan ((s.group g).nextAt - s.cutoffNs g)) else s) =
      if (s.group g).cutoffPassed then s else passCutoff g (s.untilPlan ((s.group g).nextAt - s.cutoffNs g)) := by
    cases (s.group g).cutoffPassed <;> rfl
  rw [turn]
  rfl

variable {g : Fin 16} {how : SillIn} {e : TGroup} {hyper j : Nat}

/-- R192–R208: the sill of a group that runs on and makes no truss switch, within a grain of its instant, begins its frame. -/
theorem execSill_begins (runs : s.grpRuns g = true) (goes : s.seqStopped = false) (near : how.off.toInt.natAbs ≤ 1)
    (number : s.sillNumber g = some (e, hyper, j)) (live : (atSill g (s.sillAt g how.off.toInt) s).flt.safe = false)
    (stays : s.switchDue g = none) :
    ∃ t, execSill g how s = .next t ∧ t.frameOf g =
      (beginGroup g (frameNumber e hyper j) hyper j (s.sillAt g how.off.toInt) (atSill g (s.sillAt g how.off.toInt) s)).frameOf g := by
  obtain ⟨due, truss, -⟩ := atSill_frame (at' := s.sillAt g how.off.toInt) runs
  have near : decide (1 < how.off.toInt.natAbs) = false := decide_eq_false (Nat.not_lt.mpr near)
  generalize shown : atSill g (s.sillAt g how.off.toInt) s = u at live due truss
  have steps : (sillSteps g how.parity (frameNumber e hyper j) u).2.cadence = u.cadence := sillSteps_cadence (due.trans stays)
  have truss : (sillSteps g how.parity (frameNumber e hyper j) u).2.grpRuns g = true := by
    rw [State.grpRuns_of_cadence steps, State.grpRuns, truss]
    exact runs
  obtain ⟨t, truss⟩ := Option.isSome_iff_exists.mp truss
  have begun : ∀ r : State, r.cadence = u.cadence → (beginGroup g (frameNumber e hyper j) hyper j (s.sillAt g how.off.toInt) r).cadence =
      (beginGroup g (frameNumber e hyper j) hyper j (s.sillAt g how.off.toInt) u).cadence := fun r h => by
    rw [beginGroup_cadence, beginGroup_cadence, h]
  have told : ∀ (v : State) (maps : List (Nat × Nat)), (firstSill g (relayBulletin g maps (reannounce g v))).driveErrn.cadence = v.cadence :=
    fun _ _ => State.driveErrn_cadence.trans (firstSill_cadence.trans (relayBulletin_cadence.trans reannounce_cadence))
  unfold execSill
  simp only [runs, goes, number, near, atSill_eq, shown, live, due, stays, truss, Bool.not_true, Bool.false_and, Bool.false_or, Bool.true_and,
    Bool.false_eq_true, if_false, reduceCtorEq]
  exact ⟨_, rfl, (State.frameOf_of_cadence (told ..) g).trans (openFrame_frameOf.trans (State.frameOf_of_cadence (begun _ steps) g))⟩

/-- R213: a group that leaves at its sill has no truss from it on. -/
theorem execSill_leaves (runs : s.grpRuns g = true) (goes : s.seqStopped = false) (near : how.off.toInt.natAbs ≤ 1)
    (number : s.sillNumber g = some (e, hyper, j)) (live : (atSill g (s.sillAt g how.off.toInt) s).flt.safe = false)
    (leaves : s.switchDue g = some 16) :
    ∃ t, execSill g how s = .next t ∧ t.clk.plan = (atSill g (s.sillAt g how.off.toInt) s).clk.plan ∧ t.grpRuns g = false := by
  obtain ⟨due, -, -⟩ := atSill_frame (at' := s.sillAt g how.off.toInt) runs
  have near : decide (1 < how.off.toInt.natAbs) = false := decide_eq_false (Nat.not_lt.mpr near)
  generalize shown : atSill g (s.sillAt g how.off.toInt) s = u at live due
  obtain ⟨plan, gone⟩ := leaveAtSill_leaves (s := u) (g := g) (parity := how.parity) (n := frameNumber e hyper j)
  have told : ∀ v : State, (firstSill g v).driveErrn.cadence = v.cadence := fun _ => State.driveErrn_cadence.trans firstSill_cadence
  unfold execSill
  simp only [runs, goes, number, near, atSill_eq, shown, live, due, leaves, Bool.not_true, Bool.false_and, Bool.false_or, Bool.true_and,
    Bool.false_eq_true, if_false, if_true]
  exact ⟨_, rfl, (State.plan_of_cadence (told _)).trans plan, (State.grpRuns_of_cadence (told _) g).trans gone⟩

/-! ### The publish cutoff, the end of the copy, and the register of the next sill -/

theorem passCutoff_lasting {g : Nat} : (passCutoff g s).lasting = s.lasting := by
  unfold passCutoff
  split
  · rfl
  · refine (recompare_lasting ..).trans ((State.modGroup_lasting ..).trans (foldl_lasting (fun t e => ?_) ..))
    exact State.lasting_then rfl rfl

theorem passCutoff_frame (g : Nat) (s : State) : (passCutoff g s).mem = s.mem ∧ (passCutoff g s).truss = s.truss := by
  have h := passCutoff_lasting (g := g) (s := s)
  generalize passCutoff g s = t at h ⊢
  exact ⟨(congrArg State.mem h :), (congrArg State.truss h :)⟩

/-- R203: the publish cutoff of a group that runs comes before its sill, closes its shadow sets, and moves neither memory nor the trusses. -/
theorem execPublishCutoff_shuts (runs : s.grpRuns g = true) (goes : s.seqStopped = false) (ahead : (s.group g).cutoffPassed = false) :
    ∃ t, execPublishCutoff g s = .next t ∧ (t.group g).cutoffPassed = true ∧ (t.group g).nextAt = (s.group g).nextAt ∧
      (s.group g).nextAt - s.cutoffNs g ≤ t.clk.plan ∧ t.mem.bytes = s.mem.bytes ∧ t.truss = s.truss := by
  simp only [execPublishCutoff, runs, goes, ahead, Bool.not_true, Bool.or_false, Bool.false_eq_true, if_false]
  refine ⟨_, rfl, ?_⟩
  generalize hu : s.untilPlan ((s.group g).nextAt - s.cutoffNs g) = u
  have plan : (s.group g).nextAt - s.cutoffNs g ≤ u.clk.plan := by
    rw [← hu, State.untilPlan_plan]
    exact Nat.le_max_right ..
  obtain ⟨bytes, truss, seq⟩ : u.mem.bytes = s.mem.bytes ∧ u.truss = s.truss ∧ u.seq = s.seq := by
    simp only [← hu, State.untilPlan_frame, and_self]
  have still : u.grpRuns g = true := by
    rw [State.grpRuns, State.grpTruss, State.group, State.store, truss, seq]
    exact runs
  have shut := State.driveErrn_cadence.trans (passCutoff_cadence still)
  have group : ((passCutoff g u).driveErrn.group g).steady = GroupSt.cutOff (s.group g).steady := by
    refine (congrArg (fun κ : Cadence => κ.group g) shut).trans ((Cadence.modGroup_group ..).trans ?_)
    simp only [State.cadence, State.group, seq]
  obtain ⟨mem, held⟩ := passCutoff_frame g u
  refine ⟨(congrArg GroupSt.cutoffPassed group :), (congrArg GroupSt.nextAt group :), plan.trans_eq (congrArg Cadence.plan shut).symm, ?_⟩
  simp only [State.driveErrn_frame, mem, held, bytes, truss, and_self]

/-- What a copy of a sill, and the request line that its end asserts, leave as they are: the clocks, memory and the trusses. -/
def State.copyFrame (s : State) : ClkSt × MemSt × TrussSt := (s.clk, s.mem, s.truss)

/-- R202: what the shadow set takes up is its own. -/
theorem refillShadow_copyFrame {g : Nat} : (refillShadow g s).copyFrame = s.copyFrame := by
  unfold refillShadow
  split
  · rfl
  · refine (foldl_keeps State.copyFrame (fun u o => ?_) ..).trans ?_
    · exact ite_keeps State.copyFrame rfl rfl
    · exact foldl_keeps State.copyFrame (f := fun u e => refillSlot e u) (fun _ _ => rfl) ..

/-- R389: a request line moves the DMA channels and the counters alone. -/
theorem State.assertLine_frame (line : Nat) (s : State) : (s.assertLine line).copyFrame = s.copyFrame ∧ (s.assertLine line).seq = s.seq := by
  have kept : (fun u : State => (u.copyFrame, u.seq)) (s.assertLine line) = (s.copyFrame, s.seq) :=
    foldl_keeps (fun u : State => (u.copyFrame, u.seq)) (fun u c => by
      dsimp only
      split
      · exact ite_keeps (fun u : State => (u.copyFrame, u.seq)) (ite_keeps (fun u : State => (u.copyFrame, u.seq)) rfl rfl) rfl
      · rfl) ..
  exact Prod.mk.inj kept

/-- R202, R203: 8 grains after its sill the shadow set has taken up what is in force. -/
def copied (g : Nat) (s : State) : State :=
  if (s.group g).copying then refillShadow g (s.untilPlan ((s.group g).sillAt + 512)) else s.untilPlan ((s.group g).sillAt + 512)

theorem copied_copyFrame (g : Nat) (s : State) : (copied g s).copyFrame = (s.untilPlan ((s.group g).sillAt + 512)).copyFrame :=
  ite_keeps State.copyFrame refillShadow_copyFrame rfl

/-- R202, R203, R389: 8 grains after its sill a copy is complete. -/
theorem execSillCopyDone_due (due : (s.group g).copyDue = true) :
    execSillCopyDone g s = .next (((copied g s).modGroup g fun c => { c with copying := false, copyDue := false }).assertLine (4 + g)).driveErrn := by
  have same : (s.untilPlan ((s.group g).sillAt + 512)).group g = s.group g := by simp only [State.group, State.untilPlan_frame]
  have grains : 8 * grain = 512 := rfl
  simp only [execSillCopyDone, copied, due, grains, same, Bool.not_true, Bool.false_eq_true, if_false]
  rfl

/-- R202, R203: once its copy is complete a group's lock has ended; memory and the trusses stay. -/
theorem execSillCopyDone_unlocks (due : (s.group g).copyDue = true) :
    ∃ t, execSillCopyDone g s = .next t ∧ (t.group g).copying = false ∧ (t.group g).copyDue = false ∧
      (s.group g).sillAt + 512 ≤ t.clk.plan ∧ t.mem.bytes = s.mem.bytes ∧ t.truss = s.truss := by
  refine ⟨_, execSillCopyDone_due due, ?_⟩
  generalize hv : (copied g s).modGroup g (fun c => { c with copying := false, copyDue := false }) = v
  obtain ⟨frame, seq⟩ := State.assertLine_frame (4 + g) v
  have group : v.group g = { (copied g s).group g with copying := false, copyDue := false } := by
    rw [← hv, State.modGroup_group, if_pos rfl]
  have kept : v.copyFrame = (s.untilPlan ((s.group g).sillAt + 512)).copyFrame := by
    rw [← copied_copyFrame, ← hv]
    rfl
  obtain ⟨clk, mem, truss⟩ := Prod.mk.inj (frame.trans kept) |>.imp_right Prod.mk.inj
  simp only [State.group, State.driveErrn_frame, seq, clk, mem, truss, State.untilPlan_plan, State.untilPlan_frame, and_true]
  exact ⟨(congrArg GroupSt.copying group :), (congrArg GroupSt.copyDue group :), Nat.le_max_right ..⟩

/-- R79, R216: a read of SILL_NEXT_LO by a function with the group's grant, while the group runs. -/
theorem execSillNextLoRead_granted {fn : Fin 16} (opened : s.barOpen fn = true) (grant : s.hasGroup fn g = true) (runs : s.grpRuns g = true) :
    execSillNextLoRead fn g s = .next (((s.count 199).modClk fun c =>
        { c with sillNextLatch := tabSet c.sillNextLatch (16 * fn + g) ((s.group g).nextAt / 2 ^ 32 + 1) }).emit
      (.readData fn ((s.group g).nextAt % 2 ^ 32) false)).driveErrn := by
  have grant : s.bar0.hasGroup fn g = true := grant
  have runs : s.bar0.grpRuns g = true := runs
  simp only [execSillNextLoRead, opened, grant, runs, Bool.not_true, Bool.false_eq_true, if_false, if_true]
  rfl

/-- R124: a read of SILL_NEXT_LO by a function without the group's grant. -/
theorem execSillNextLoRead_denied {fn : Fin 16} (opened : s.barOpen fn = true) (grant : s.hasGroup fn g = false) :
    execSillNextLoRead fn g s = .next (((s.count 199).denied fn).emit (.readData fn 0 false)).driveErrn := by
  have grant : s.bar0.hasGroup fn g = false := grant
  simp only [execSillNextLoRead, opened, grant, Bool.not_true, Bool.not_false, Bool.false_eq_true, if_false, if_true]
  rfl

end

end Sys2Proof.Machine
end

section
/-! SUPPORT. The statements of the family of the sequencer and the sill, settled. -/

open Sys2Proof Sys2Proof.Machine

/-- Settles O37: what each step of a sill leaves of the cadence carries the frame that begins, and the group's end, to the end of the command. -/
theorem cutoffSillAndCopy : Obligations.CutoffSillAndCopy := by
  intro g s
  refine ⟨fun runs goes ahead => exec_publishCutoff ▸ execPublishCutoff_shuts runs goes ahead,
    fun how e hyper j at' runs goes near when' number live => ?_,
    fun due => ⟨exec_sillCopyDone ▸ execSillCopyDone_unlocks due, fun apart => ?_⟩,
    fun fn opened => ⟨fun grant runs => exec_sillNextLoRead.trans (execSillNextLoRead_granted opened grant runs),
      fun grant => exec_sillNextLoRead.trans (execSillNextLoRead_denied opened grant)⟩⟩
  · obtain ⟨-, -, late⟩ := atSill_frame (at' := s.sillAt g how.off.toInt) runs
    subst when'
    refine ⟨fun stays => ?_, fun leaves => ?_⟩
    · obtain ⟨t, ends, begun⟩ := execSill_begins runs goes near number live stays
      obtain ⟨plan, frame⟩ := Prod.mk.inj begun
      rw [beginGroup_eq, State.modGroup_group, if_pos rfl] at frame
      exact ⟨t, exec_sill.trans ends, (congrArg GroupSt.n frame :), (congrArg GroupSt.hyper frame :), (congrArg GroupSt.j frame :),
        (congrArg GroupSt.sillAt frame :), (congrArg GroupSt.begun frame :), (congrArg GroupSt.cutoffPassed frame :),
        (congrArg GroupSt.copyDue frame :), (congrArg GroupSt.issued frame :), late.trans_eq plan.symm⟩
    · obtain ⟨t, ends, plan, gone⟩ := execSill_leaves runs goes near number live leaves
      exact ⟨t, exec_sill.trans ends, gone, late.trans_eq plan.symm⟩
  · rw [exec_sillCopyDone, execSillCopyDone_due due, copied, apart, if_neg Bool.false_ne_true]

end

section
/-! SUPPORT. Fetch entries and their data (R191, R192, R233, R234). -/

namespace Sys2Proof.Machine

section
variable {s : State}

/-! ### The item of the frame that runs -/

/-- R191: an item of the frame that runs stands in the section of its group's truss and variant. -/
theorem State.frameItem_some {g item : Nat} {t : Truss} {i : TItem} (h : s.frameItem g item = some (t, i)) :
    s.grpTruss g = some t ∧ (t.itemsOf (s.group g).variant)[item]? = some i ∧ (s.group g).begun = true ∧ i.frame = (s.group g).j ∧
      t.itemGroup i = g := by
  obtain ⟨t', truss, h⟩ := Option.bind_eq_some_iff.mp h
  obtain ⟨i', entry, h⟩ := Option.bind_eq_some_iff.mp h
  split at h
  · next fits =>
    simp only [Bool.and_eq_true, beq_iff_eq] at fits
    obtain ⟨⟨begun, frame⟩, group⟩ := fits
    cases h
    exact ⟨truss, entry, begun, frame, group⟩
  · cases h

/-- R213: a group that runs has a store slot, and its truss lies there. -/
theorem State.grpTruss_some {g : Nat} {t : Truss} (h : s.grpTruss g = some t) :
    (s.group g).store ≠ 0 ∧ s.trussIn ((s.group g).store - 1) = t := by
  unfold State.grpTruss at h
  split at h
  · cases h
  · next held => exact ⟨held, by rw [State.trussIn, h, Option.getD_some]⟩

/-! ### Issue -/

/-- R191, R192, R233: a current entry of a direct layer is issued at its item's start less its lead. -/
theorem execFetchIssue_current {g : Fin 16} {item entry : Nat} {t : Truss} {i : TItem} (goes : s.seqStopped = false)
    (frame : s.frameItem g item = some (t, i)) (open' : (s.group g).issued.contains item = false)
    (new : (s.seq.issues.any fun x => x.group == g.val && x.item == item && x.n == (s.group g).n && x.entry == entry && !x.dropped) = false)
    (entry' : entry < i.count) (direct : ((t.entriesOf (s.group g).variant i).getD entry default).kind ≠ 2) (lead : i.lead ≤ t.startOffset i)
    (time : s.clk.plan ≤ s.instant g t ((t.itemSill i + t.startOffset i - i.lead) % t.h) + 8) :
    execFetchIssue g item entry s = .next (issueEntry ((s.group g).store - 1) (s.group g).variant g item entry (s.group g).n false
      (s.untilPlan (s.instant g t ((t.itemSill i + t.startOffset i - i.lead) % t.h)))).driveErrn := by
  obtain ⟨truss, here, begun, j, group⟩ := State.frameItem_some frame
  obtain ⟨-, stored⟩ := State.grpTruss_some truss
  have runs : s.grpRuns g = true := by rw [State.grpRuns, truss]; rfl
  unfold execFetchIssue
  simp only [goes, runs, stored, here, begun, j, group, open', new, entry', direct, Nat.not_lt.mpr lead, Nat.not_lt.mpr time, beq_self_eq_true,
    Bool.not_true, Bool.not_false, Bool.false_eq_true, Bool.and_true, Bool.or_false, decide_true, if_true, if_false]
  rfl

/-! ### Data that lands -/

/-- Read `j` of entry `i` (R234). -/
def State.read (s : State) (i j : Nat) : FRead := (s.seq.issues.getD i {}).reads.getD j {}

/-- The state with everything erased that the reads of fetch entries may move: the sequencer, the counters and what has been sent. -/
def State.sansFetch (s : State) : State := { s with seq := {}, pmu := {}, out := [] }

theorem readOut_sansCounts (x : Issue) (r : FRead) (s : State) : (readOut x r s).sansCounts = s.sansCounts :=
  ite_keeps State.sansCounts (State.hostRead_sansCounts ..) (State.traffic_sansCounts ..)

theorem readOut_sansFetch (x : Issue) (r : FRead) (s : State) : (readOut x r s).sansFetch = s.sansFetch :=
  (congrArg State.sansFetch (readOut_sansCounts x r s) :)

theorem tryRead_sansFetch (i j : Nat) (acc : List Nat × State) : (tryRead i j acc).2.sansFetch = acc.2.sansFetch := by
  let kept := fun acc : List Nat × State => acc.2.sansFetch
  refine ite_keeps kept rfl (ite_keeps kept rfl (ite_keeps kept ?_ (ite_keeps kept rfl ?_)))
  · exact ite_keeps (fun u : State => u.sansFetch) rfl rfl
  · exact readOut_sansFetch ..

theorem pumpReads_sansFetch (s : State) : (pumpReads s).sansFetch = s.sansFetch :=
  foldl_keeps (fun acc : List Nat × State => acc.2.sansFetch) (fun _ i =>
    foldl_keeps (fun acc : List Nat × State => acc.2.sansFetch) (fun acc j => tryRead_sansFetch i j acc) ..) ..

/-- A change of one read of an entry. -/
def Issue.modRead (j : Nat) (f : FRead → FRead) (x : Issue) : Issue := { x with reads := x.reads.modify j f }

/-- A change of one read of one entry is not seen by any other. -/
theorem State.modRead_read_other {i j i' j' : Nat} {f : FRead → FRead} (other : ¬(i' = i ∧ j' = j)) (s : State) :
    (s.modIssue i' (Issue.modRead j' f)).read i j = s.read i j := by
  simp only [State.read, State.modIssue, State.modSeq_seq, List.getD_eq_getElem?_getD, List.getElem?_modify]
  by_cases same : i' = i
  · have apart : j' ≠ j := fun h => other ⟨same, h⟩
    cases s.seq.issues[i]? with
    | none => simp only [Option.map_eq_map, Option.map_none]
    | some x => simp only [Option.map_eq_map, Option.map_some, Option.getD_some, same, if_true, Issue.modRead, List.getElem?_modify, apart, if_false,
        Option.map_id']
  · simp only [same, if_false, Option.map_eq_map, Option.map_id']

/-- A change of a read that stands in an entry that stands. -/
theorem State.modRead_read {i j : Nat} {f : FRead → FRead} (hi : i < s.seq.issues.length) (hj : j < (s.seq.issues.getD i {}).reads.length) :
    (s.modIssue i (Issue.modRead j f)).read i j = f (s.read i j) := by
  rw [List.getD_eq_getElem _ _ hi] at hj
  simp only [State.read, State.modIssue, State.modSeq_seq, List.getD_eq_getElem?_getD, List.getElem?_modify, List.getElem?_eq_getElem hi,
    Option.map_eq_map, Option.map_some, Option.getD_some, if_true, Issue.modRead, List.getElem?_eq_getElem hj]

theorem readOut_read (i j : Nat) (x : Issue) (r : FRead) (s : State) : (readOut x r s).read i j = s.read i j :=
  (congrArg (State.read · i j) (readOut_sansCounts x r s) :)

/-- R234: a read that does not wait stays as it is while others are issued. -/
theorem tryRead_read {i j : Nat} (i' j' : Nat) (acc : List Nat × State) (h : (acc.2.read i j).state ≠ .waiting) :
    (tryRead i' j' acc).2.read i j = acc.2.read i j := by
  let kept := fun acc : List Nat × State => acc.2.read i j
  unfold tryRead
  extract_lets s x r put
  by_cases waits : r.state = .waiting
  · have other : ¬(i' = i ∧ j' = j) := by
      rintro ⟨rfl, rfl⟩
      exact h waits
    have put : ∀ (f : FRead → FRead) (u : State), (put f u).read i j = u.read i j := fun _ u => State.modRead_read_other other u
    refine ite_keeps kept rfl (ite_keeps kept (put ..) (ite_keeps kept ((put ..).trans ?_) (ite_keeps kept (put ..) ?_)))
    · exact ite_keeps (State.read · i j) rfl rfl
    · exact (readOut_read ..).trans (put ..)
  · simp only [bne_iff_ne, ne_eq, waits, not_false_eq_true, Bool.or_eq_true, true_or, if_true]

theorem pumpReads_read {i j : Nat} (h : (s.read i j).state ≠ .waiting) : (pumpReads s).read i j = s.read i j := by
  have step : ∀ (i' j' : Nat) (acc : List Nat × State), acc.2.read i j = s.read i j → (tryRead i' j' acc).2.read i j = s.read i j :=
    fun i' j' acc same => (tryRead_read i' j' acc (same ▸ h)).trans same
  have entry : ∀ (i' : Nat) (l : List Nat) (acc : List Nat × State), acc.2.read i j = s.read i j →
      (l.foldl (fun acc j' => tryRead i' j' acc) acc).2.read i j = s.read i j := fun i' l acc same =>
    List.foldlRecOn (motive := fun acc : List Nat × State => acc.2.read i j = s.read i j) l _ same fun acc same j' _ => step i' j' acc same
  exact List.foldlRecOn (motive := fun acc : List Nat × State => acc.2.read i j = s.read i j) _ _ rfl fun acc same i' _ => entry i' _ acc same

/-- R234: a read that waits for a line stands in an entry that stands. -/
theorem State.findRead_some {p a i j : Nat} (h : s.findRead p a = some (i, j)) :
    i < s.seq.issues.length ∧ j < (s.seq.issues.getD i {}).reads.length := by
  obtain ⟨x, mem, found⟩ := List.exists_of_findSome?_eq_some h
  obtain ⟨j', index, found⟩ := Option.map_eq_some_iff.mp found
  cases found
  have at' : s.seq.issues[x.2]? = some x.1 := List.mem_zipIdx_iff_getElem?.mp mem
  obtain ⟨hj, -⟩ := List.findIdx?_eq_some_iff_getElem.mp index
  obtain ⟨hi, -⟩ := List.getElem?_eq_some_iff.mp at'
  exact ⟨hi, by rwa [List.getD_eq_getElem?_getD, at', Option.getD_some]⟩

/-- R234: a read that has landed with its data. -/
def FRead.land (data : List Byte) (r : FRead) : FRead := { r with state := .landed, data := data }

/-- R234: data for a read of a direct entry that is open lands. -/
theorem landRead_open {i j : Nat} {data : List Byte} (kept : (s.seq.issues.getD i {}).dropped = false)
    (opened : (s.seq.issues.getD i {}).closed = false) (direct : (s.seq.issues.getD i {}).kind ≠ 1) :
    landRead i j (some data) false s =
      pumpReads ((countData (s.read i j).port (s.seq.issues.getD i {}).ahead s).modIssue i (Issue.modRead j (FRead.land data))) := by
  simp only [landRead, kept, opened, direct, Option.isSome_some, Option.isNone_some, Option.getD_some, Bool.false_and, Bool.false_eq_true, if_true,
    if_false, false_and]
  rfl

theorem State.count_sansFetch (e : Nat) (s : State) : (s.count e).sansFetch = s.sansFetch := (rfl)

theorem countData_frame (p : Nat) (ahead : Bool) (s : State) : (countData p ahead s).sansFetch = s.sansFetch ∧ (countData p ahead s).seq = s.seq := by
  simp only [countData, apply_ite State.sansFetch, apply_ite State.seq, State.count_sansFetch, State.count_frame, ite_self, and_self]

/-- R234: the data that a host read brings for a read of a direct entry that is open is its own, and nothing else moves but reads and counters. -/
theorem execReadDataLand_host {address : Long} {bs : List Byte} {i j : Nat} (found : s.findRead 4 address.toNat = some (i, j))
    (kept : (s.seq.issues.getD i {}).dropped = false) (opened : (s.seq.issues.getD i {}).closed = false)
    (direct : (s.seq.issues.getD i {}).kind ≠ 1) :
    ∃ t, execReadDataLand 4 address (some bs) s = .next t ∧ t.read i j = FRead.land (fitBytes 64 bs) (s.read i j) ∧
      t.mem = s.mem ∧ t.heads = s.heads ∧ t.truss = s.truss := by
  have port : ((4 : Fin 5) : Nat) = 4 := rfl
  obtain ⟨hi, hj⟩ := State.findRead_some found
  refine ⟨(landRead i j (some (fitBytes 64 bs)) false s).driveErrn, ?_, ?_⟩
  · simp only [execReadDataLand, port, found, if_true, Option.map_some]
    rfl
  rw [landRead_open kept opened direct]
  obtain ⟨frame, seq⟩ := countData_frame (s.read i j).port (s.seq.issues.getD i {}).ahead s
  generalize countData (s.read i j).port (s.seq.issues.getD i {}).ahead s = u at frame seq ⊢
  have lands : (u.modIssue i (Issue.modRead j (FRead.land (fitBytes 64 bs)))).read i j = FRead.land (fitBytes 64 bs) (s.read i j) := by
    rw [State.modRead_read (seq ▸ hi) (seq ▸ hj), State.read, seq, State.read]
  have stays := pumpReads_read (lands ▸ ReadState.noConfusion : ((u.modIssue i (Issue.modRead j (FRead.land (fitBytes 64 bs)))).read i j).state ≠ .waiting)
  have fetch := (pumpReads_sansFetch (u.modIssue i (Issue.modRead j (FRead.land (fitBytes 64 bs))))).trans frame
  generalize pumpReads (u.modIssue i (Issue.modRead j (FRead.land (fitBytes 64 bs)))) = v at stays fetch ⊢
  simp only [State.read, State.driveErrn_frame]
  exact ⟨stays.trans lands, (congrArg State.mem fetch :), (congrArg State.heads fetch :), (congrArg State.truss fetch :)⟩

end

end Sys2Proof.Machine
end

section
/-! SUPPORT. Work items on the lanes (R191, R192, R209–R212, R237, R242, R270, R300, R333, R381): what their strips leave of the cadence, and how each
is issued, runs, completes or misses its deadline. -/

namespace Sys2Proof.Machine

section
variable {s : State}

/-! ### Composition and delivery -/

theorem State.tallyLayer_cadence {g : Nat} {o : TOutput} {e : TSlot} {geo : Geo} {l : LayerOut} :
    (s.tallyLayer g o e geo l).cadence = s.cadence := by
  have patched : ∀ (n : Nat) (u : State), (u.modGroup g fun c => { c with patched := satAdd c.patched n }).cadence = u.cadence :=
    fun _ _ => State.modGroup_cadence fun _ => rfl
  simp only [State.tallyLayer, State.countN_cadence, State.countUnits_cadence, State.count_cadence, State.modSlot_cadence, patched,
    State.faultOpen_cadence, cadence_ite, ite_self]

theorem State.composePos_cadence {g k item : Nat} {t : Truss} {i : TItem} {n : Word} {oc : OutColour} {pos : Nat} {acc : Canvas × State} :
    (State.composePos g k item t i n oc pos acc).2.cadence = acc.2.cadence := by
  unfold State.composePos
  dsimp only
  split
  · rfl
  · split <;> simp only [State.count_cadence, cadence_ite, snd_ite, ite_self, State.tallyLayer_cadence]

theorem State.compose_cadence {g k item : Nat} {t : Truss} {i : TItem} {n : Word} : (s.compose g k item t i n).2.2.cadence = s.cadence := by
  simp only [State.compose, State.composePos_cadence, State.countN_cadence, State.countUnits_cadence, foldl_snd_cadence, implies_true]

theorem commitStrip_cadence {h strip : Nat} {n : Word} {st : Strip} : (commitStrip h strip n st s).cadence = s.cadence := by
  simp only [commitStrip, State.count_cadence, State.modHead_cadence, cadence_ite, ite_self]

theorem lateSlice_cadence {k g : Nat} {x : Slice} : (lateSlice k g x s).cadence = s.cadence := by
  have repaired : ∀ (flags : Nat) (want : Nat → Bool) (since : Nat), (repairFrags k g x flags want since s).2.cadence = s.cadence :=
    fun flags want since => by
      unfold repairFrags
      dsimp only
      split
      · rfl
      · simp only [State.adtSendBy_cadence, cadence_ite, snd_ite, ite_self, foldl_cadence, implies_true]
  have sent : ∀ u : State, (sliceSent k x u).cadence = u.cadence := fun u => by
    simp only [sliceSent, State.countUnits_cadence, State.count_cadence, State.modPeer_cadence, cadence_ite, ite_self]
  simp only [lateSlice, repaired, State.modAdt_cadence, sent, markDirty_cadence, State.count_cadence, cadence_ite, ite_self]

theorem placeSlice_cadence {k g : Nat} {x : Slice} {patched : Bool} : (placeSlice k g x patched s).cadence = s.cadence := by
  simp only [placeSlice, lateSlice_cadence, State.modAdt_cadence, State.count_cadence, markDirty_cadence, cadence_ite, ite_self]

theorem encodeRow_cadence {g : Nat} {t : Truss} {i : TItem} {n : Word} {strip : Strip} {patched : Bool} :
    (encodeRow g t i n strip patched s).cadence = s.cadence := by
  simp only [encodeRow, markDirty_cadence, State.countN_cadence, State.countUnits_cadence, placeSlice_cadence, cadence_ite, ite_self,
    foldl_cadence, implies_true]

theorem wbPut_cadence {e a : Nat} {bs : List Byte} : (wbPut e a bs s).cadence = s.cadence := by
  simp only [wbPut, State.countUnits_cadence, State.memWrite_cadence, State.modWb_cadence, cadence_ite, ite_self]

theorem wbDeliver_cadence {o : TOutput} {strip : Nat} {n : Word} {st : Strip} : (wbDeliver o strip n st s).cadence = s.cadence := by
  simp only [wbDeliver, wbStrip, State.modWb_cadence, wbPut_cadence, cadence_ite, ite_self, foldl_cadence, implies_true]

theorem deliver_cadence {t : Truss} {i : TItem} {r : Run} : (deliver t i r s).cadence = s.cadence := by
  simp only [deliver, commitStrip_cadence, encodeRow_cadence, wbDeliver_cadence, cadence_ite, ite_self]

theorem missOutput_cadence {g : Nat} {t : Truss} {i : TItem} {st : Strip} {lines : Nat} : (missOutput g t i st lines s).cadence = s.cadence := by
  simp only [missOutput, State.countN_cadence, commitStrip_cadence, State.count_cadence, markDirty_cadence, wbMissing_cadence, cadence_ite,
    ite_self]

theorem releaseItem_cadence {g item : Nat} {n : Word} : (releaseItem g item n s).cadence = s.cadence := (rfl)

theorem closeItem_cadence {g item : Nat} {n : Word} : (closeItem g item n s).cadence = s.cadence :=
  ite_then State.cadence (modSeq_cadence rfl rfl) State.faultOpen_cadence

/-! ### Lanes -/

/-- Changes a lane of the cadence. -/
def Cadence.modLane (k : Nat) (f : LaneSt → LaneSt) (κ : Cadence) : Cadence := { κ with lanes := tabMod κ.lanes k f }

theorem State.modLane_cadence {k : Nat} {f : LaneSt → LaneSt} : (s.modLane k f).cadence = s.cadence.modLane k f := rfl

theorem State.lane_of_cadence {t : State} (h : t.cadence = s.cadence) (k : Nat) : t.lane k = s.lane k :=
  (congrArg (fun κ : Cadence => tabGet κ.lanes k) h :)

/-- R192, R270: the run that a lane starts is the item's, with the strip composed for it. -/
theorem startRun_cadence (lane : Nat) (r : Run) (s : State) : ∃ (strip : Strip) (patched : Bool),
    (startRun lane r s).cadence = s.cadence.modLane lane fun l => { l with run := some { r with strip := strip, patched := patched } } := by
  let x := s.compose r.group r.store r.item (s.trussIn r.store) (((s.trussIn r.store).itemsOf r.variant).getD r.item default) r.n
  exact ⟨x.1, x.2.1, pumpReads_cadence.trans (closeItem_cadence.trans (State.modLane_cadence.trans (congrArg _ State.compose_cadence)))⟩

/-- R192: a lane that is free starts the first item of its queue, when that item still stands. -/
theorem startNext_first {lane : Nat} {r : Run} {rest : List Run} (free : (s.lane lane).run = none) (queue : (s.lane lane).queue = r :: rest)
    (stands : s.runStands r = true) : startNext lane s = startRun lane r (s.modLane lane fun l => { l with queue := rest }) := by
  have first : ((s.lane lane).queue.dropWhile fun r => !s.runStands r) = r :: rest := by
    rw [queue, List.dropWhile_cons_of_neg (by simp only [stands, Bool.not_true, Bool.false_eq_true, not_false_eq_true])]
  simp only [startNext, free, first, Option.isSome_none, Bool.false_eq_true, if_false]

theorem startNext_busy {lane : Nat} {r : Run} (busy : (s.lane lane).run = some r) : startNext lane s = s := by
  simp only [startNext, busy, Option.isSome_some, if_true]

/-- R192: what a free lane runs once it has started the first item of its queue; the groups go on as they were. -/
theorem startNext_runs {lane : Nat} {r : Run} {rest : List Run} (free : (s.lane lane).run = none) (queue : (s.lane lane).queue = r :: rest)
    (stands : s.runStands r = true) :
    ∃ q : Run, ((startNext lane s).lane lane).run = some q ∧ ((startNext lane s).lane lane).queue = rest ∧ q.item = r.item ∧ q.group = r.group ∧
      q.n = r.n ∧ ∀ g, ((startNext lane s).group g).steady = (s.group g).steady := by
  obtain ⟨strip, patched, started⟩ := startRun_cadence lane r (s.modLane lane fun l => { l with queue := rest })
  rw [startNext_first free queue stands]
  have lane' : (startRun lane r (s.modLane lane fun l => { l with queue := rest })).lane lane =
      { s.lane lane with queue := rest, run := some { r with strip := strip, patched := patched } } := by
    refine (congrArg (fun κ : Cadence => tabGet κ.lanes lane) started).trans ?_
    simp only [Cadence.modLane, State.modLane_cadence, tabGet_mod, if_true]
  exact ⟨_, congrArg LaneSt.run lane', congrArg LaneSt.queue lane', rfl, rfl, rfl, fun g => (congrArg (fun κ : Cadence => κ.group g) started :)⟩

/-! ### Issue, completion and deadline of an item -/

/-- R192: the run of item `item` of group `g`, of the frame that runs, which waits for lane `lane`. -/
def State.newRun (s : State) (g item lane : Nat) : Run :=
  let r : Run := { group := g, item := item, n := (s.group g).n, variant := (s.group g).variant, store := (s.group g).store - 1 }
  { r with contended := (s.lane lane).contends r }

/-- R191, R192: the item is issued at `at'` and joins its lane. -/
def enlist (g item lane at' : Nat) (s : State) : State :=
  (((s.untilPlan at').modGroup g fun c => { c with issued := item :: c.issued }).count 384).modLane lane
    fun l => { l with queue := l.queue ++ [s.newRun g item lane] }

theorem untilPlan_modGroup_planGated (at' g : Nat) (f : GroupSt → GroupSt) (s : State) :
    ((s.untilPlan at').modGroup g f).planGated = s.planGated := congrArg Pll.gated (State.untilPlan_pll at' 8 s)

theorem untilPlan_modGroup_laneFenced (at' g lane : Nat) (f : GroupSt → GroupSt) (s : State) :
    ((s.untilPlan at').modGroup g f).laneFenced lane = s.laneFenced lane := by
  rw [State.untilPlan_eq]
  rfl

theorem untilPlan_modGroup_lane (at' g lane : Nat) (f : GroupSt → GroupSt) (s : State) :
    ((s.untilPlan at').modGroup g f).lane lane = s.lane lane := by
  rw [State.untilPlan_eq]
  rfl

/-- R191, R192: an item of the frame that runs, issued in time on a lane that is not fenced, joins its lane, which starts what waits if it is free. -/
theorem execItemIssue_due {g : Fin 16} {item : Nat} {t : Truss} {i : TItem} (frame : s.frameItem g item = some (t, i)) (safe : s.flt.safe = false)
    (runs : s.boot.phase = .running) (new : (s.group g).issued.contains item = false) (kept : (s.group g).missed.contains item = false)
    (open' : s.planGated = false) (fence : s.laneFenced i.lane = false) (first : s.earlierDue g item t i = false)
    (time : s.clk.plan ≤ s.instant g t i.start + 8) :
    execItemIssue g item false s = done (startNext i.lane (enlist g item i.lane (s.instant g t i.start) s)) := by
  have inTime : s.inTime (s.instant g t i.start) = true := decide_eq_true time
  have phase : (s.boot.phase != .running) = false := bne_eq_false_iff_eq.mpr runs
  simp only [execItemIssue, frame, safe, phase, new, kept, first, inTime, untilPlan_modGroup_planGated, open', untilPlan_modGroup_laneFenced, fence,
    untilPlan_modGroup_lane, Bool.or_false, Bool.not_true, Bool.false_eq_true, if_false]
  rfl

theorem enlist_group (g item lane at' : Nat) (s : State) :
    (enlist g item lane at' s).group g = { s.group g with issued := item :: (s.group g).issued } := by
  refine (State.modGroup_group g (fun c => { c with issued := item :: c.issued }) g (s.untilPlan at') :).trans ((if_pos rfl).trans ?_)
  rw [State.untilPlan_eq]
  rfl

theorem enlist_lane (g item lane at' : Nat) (s : State) :
    (enlist g item lane at' s).lane lane = { s.lane lane with queue := (s.lane lane).queue ++ [s.newRun g item lane] } := by
  rw [enlist, State.modLane_lane, if_pos rfl]
  exact congrArg (fun l : LaneSt => { l with queue := l.queue ++ [s.newRun g item lane] }) (untilPlan_modGroup_lane ..)

theorem enlist_plan (g item lane at' : Nat) (s : State) : at' ≤ (enlist g item lane at' s).clk.plan :=
  (Nat.le_max_right ..).trans_eq (State.untilPlan_plan at' s).symm

/-- R192: an item that joins its lane in the frame that runs belongs to it. -/
theorem enlist_stands {g item lane at' : Nat} (begun : (s.group g).begun = true) (held : (s.group g).store ≠ 0)
    (kept : (s.group g).missed.contains item = false) : (enlist g item lane at' s).runStands (s.newRun g item lane) = true := by
  have store : (s.group g).store - 1 + 1 = (s.group g).store := Nat.succ_pred held
  simp only [State.runStands, State.newRun, enlist_group, begun, kept, store, beq_self_eq_true, Bool.not_false, Bool.and_self]

/-- R192: on a lane that is busy, the item issued waits behind the others. -/
theorem startNext_enlist_busy {g item lane at' : Nat} {r : Run} (busy : (s.lane lane).run = some r) :
    startNext lane (enlist g item lane at' s) = enlist g item lane at' s :=
  startNext_busy (r := r) (by rw [enlist_lane, busy])

/-- R192: on a lane that is free and for which nothing waits, the item issued runs. -/
theorem startNext_enlist_free {g item lane at' : Nat} (free : (s.lane lane).run = none) (empty : (s.lane lane).queue = [])
    (begun : (s.group g).begun = true) (held : (s.group g).store ≠ 0) (kept : (s.group g).missed.contains item = false) :
    ∃ r : Run, ((startNext lane (enlist g item lane at' s)).lane lane).run = some r ∧ r.group = g ∧ r.item = item ∧ r.n = (s.group g).n ∧
      item ∈ ((startNext lane (enlist g item lane at' s)).group g).issued := by
  have free' : ((enlist g item lane at' s).lane lane).run = none := by rw [enlist_lane, free]
  have queue : ((enlist g item lane at' s).lane lane).queue = [s.newRun g item lane] := by rw [enlist_lane, empty, List.nil_append]
  obtain ⟨r, run, -, item', group, n, steady⟩ := startNext_runs free' queue (enlist_stands begun held kept)
  have issued : ((startNext lane (enlist g item lane at' s)).group g).issued = item :: (s.group g).issued :=
    (congrArg GroupSt.issued (steady g) :).trans (congrArg GroupSt.issued (enlist_group ..))
  exact ⟨r, run, group, item', n, issued ▸ List.mem_cons_self⟩

theorem State.driveErrn_lane (k : Nat) (s : State) : s.driveErrn.lane k = s.lane k := State.lane_of_cadence State.driveErrn_cadence k

theorem State.driveErrn_group (g : Nat) (s : State) : s.driveErrn.group g = s.group g := by simp only [State.group, State.driveErrn_frame]

/-- R192: a lane that is free starts the next item. -/
theorem execLaneFreeStart_open {lane : Fin 16} (safe : s.flt.safe = false) (open' : s.planGated = false) (fence : s.laneFenced lane = false) :
    execLaneFreeStart lane s = .next (startNext lane s).driveErrn := by
  simp only [execLaneFreeStart, safe, open', fence, Bool.or_self, Bool.false_eq_true, if_false]
  rfl

/-- R192: the run of lane `lane` ends. -/
def endRun (lane : Nat) (r : Run) (s : State) : State := releaseItem r.group r.item r.n (s.modLane lane fun l => { l with run := none })

theorem endRun_cadence (lane : Nat) (r : Run) (s : State) : (endRun lane r s).cadence = s.cadence.modLane lane fun l => { l with run := none } :=
  releaseItem_cadence

theorem endRun_free (lane : Nat) (r : Run) (s : State) : ((endRun lane r s).lane lane).run = none := by
  have lanes : (endRun lane r s).lane lane = _ := congrArg (fun κ : Cadence => tabGet κ.lanes lane) (endRun_cadence lane r s)
  rw [lanes, Cadence.modLane, tabGet_mod, if_pos rfl]

/-- R293: an item that no longer stands, or may not run, leaves its lane with nothing delivered. -/
theorem execItemComplete_falls {lane : Fin 16} {r : Run} (busy : (s.lane lane).run = some r)
    (falls : (s.runStands r && !s.flt.safe && !s.laneFenced lane) = false) :
    execItemComplete lane s = .next (pumpReads (endRun lane r s)).driveErrn := by
  simp only [execItemComplete, busy, falls, Bool.not_false, if_true]
  rfl

/-- R293: an item of the group's frame counts as finished. -/
def GroupSt.finish (item : Nat) (c : GroupSt) : GroupSt := { c with finished := item :: c.finished }

/-- R293, R300: an item that stands completes: its lane is free and it counts as finished. -/
theorem execItemComplete_stands {lane : Fin 16} {r : Run} (busy : (s.lane lane).run = some r)
    (stands : (s.runStands r && !s.flt.safe && !s.laneFenced lane) = true) :
    ∃ u, execItemComplete lane s = .next u ∧
      u.cadence = (endRun lane r s).cadence.modGroup r.group (.finish r.item) := by
  simp only [execItemComplete, busy, stands, Bool.not_true, Bool.false_eq_true, if_false]
  refine ⟨_, rfl, State.driveErrn_cadence.trans (pumpReads_cadence.trans (deliver_cadence.trans ?_))⟩
  refine (State.modGroup_cadence_eq (F := .finish r.item) fun _ => rfl).trans (congrArg _ ?_)
  exact State.count_cadence.trans State.countUnits_cadence

/-- R192: at its completion an item leaves its lane free, and counts as finished if it stands and may run. -/
theorem execItemComplete_frees {lane : Fin 16} {r : Run} (busy : (s.lane lane).run = some r) :
    ∃ u, execItemComplete lane s = .next u ∧ (u.lane lane).run = none ∧
      (s.runStands r = true → s.flt.safe = false → s.laneFenced lane = false → r.item ∈ (u.group r.group).finished) := by
  rcases stands : s.runStands r && !s.flt.safe && !s.laneFenced lane
  · refine ⟨_, execItemComplete_falls busy stands, ?_, fun kept safe fence => ?_⟩
    · rw [State.lane_of_cadence (State.driveErrn_cadence.trans pumpReads_cadence), endRun_free]
    · rw [kept, safe, fence] at stands
      cases stands
  · obtain ⟨u, ends, completed⟩ := execItemComplete_stands busy stands
    have lanes : u.lane lane = (endRun lane r s).lane lane := (congrArg (fun κ : Cadence => tabGet κ.lanes lane) completed :)
    have group := (congrArg (fun κ : Cadence => κ.group r.group) completed).trans (Cadence.modGroup_group ..)
    have finished : (u.group r.group).finished = r.item :: ((endRun lane r s).group r.group).finished := (congrArg GroupSt.finished group :)
    exact ⟨u, ends, lanes ▸ endRun_free lane r s, fun _ _ _ => finished ▸ List.mem_cons_self⟩

/-- R209, R211: an item of the group's frame is missed. -/
def GroupSt.missItem (item : Nat) (c : GroupSt) : GroupSt :=
  { c with missed := item :: c.missed, missNow := satInc c.missNow, missTotal := satInc c.missTotal }

/-- R209, R211: at its deadline, which plan time reaches, an item issued that is not finished is missed; nothing but its lane and its group goes by it. -/
theorem execItemDeadline_misses {g : Fin 16} {item : Nat} {lines : Byte} {t : Truss} {i : TItem} (frame : s.frameItem g item = some (t, i))
    (safe : s.flt.safe = false) (runs : s.boot.phase = .running) (open' : (s.group g).finished.contains item = false)
    (kept : (s.group g).missed.contains item = false) (issued : (s.group g).issued.contains item = true) :
    ∃ (u : State) (f : LaneSt → LaneSt), execItemDeadline g item lines s = .next u ∧
      u.cadence = (({ s.cadence with plan := max s.clk.plan (s.instant g t i.deadline) } : Cadence).modLane i.lane f).modGroup g (.missItem item) := by
  have phase : (s.boot.phase != .running) = false := bne_eq_false_iff_eq.mpr runs
  simp only [execItemDeadline, frame, safe, phase, open', kept, issued, Bool.not_true, Bool.and_false, Bool.or_self, Bool.false_eq_true, if_false]
  have struck : ∀ (f : LaneSt → LaneSt) (h : GroupSt → GroupSt), (∀ c, (h c).steady = c.steady.missItem item) →
      ((releaseItem g item (s.group g).n ((s.untilPlan (s.instant g t i.deadline)).modLane i.lane f)).modGroup g h).cadence =
        (({ s.cadence with plan := max s.clk.plan (s.instant g t i.deadline) } : Cadence).modLane i.lane f).modGroup g (.missItem item) :=
    fun f h missed => (State.modGroup_cadence_eq missed).trans (congrArg (Cadence.modGroup g (.missItem item))
      (releaseItem_cadence.trans (State.modLane_cadence.trans (congrArg (Cadence.modLane i.lane f) State.untilPlan_cadence))))
  exact ⟨_, _, rfl, State.driveErrn_cadence.trans (pumpReads_cadence.trans (ite_then State.cadence (ite_then State.cadence
    (missOutput_cadence.trans (struck _ _ fun _ => rfl)) State.faultOpen_cadence) (State.faultOpen_cadence.trans State.count_cadence)))⟩

end

end Sys2Proof.Machine
end

section
/-! SUPPORT. The statements of the family of the sequencer and the sill about items and fetches, settled. -/

open Sys2Proof Sys2Proof.Machine

/-- Settles O38: of each command of an item, the lane and the cadence that it leaves; of a read's data, the read that it fills. -/
theorem itemsAndFetches : Obligations.ItemsAndFetches := by
  refine ⟨fun g item entry s t i goes frame open' new entry' direct lead _ _ time =>
      exec_fetchIssue.trans (execFetchIssue_current goes frame open' new entry' direct lead time), ?data, ?issue, ?lanes, ?deadline⟩
  case data =>
    intro address bs s i j found kept opened direct
    obtain ⟨t, ends, read, rest⟩ := execReadDataLand_host (bs := bs) found kept opened direct
    exact ⟨t, exec_readDataLand.trans ends, (congrArg FRead.state read :), (congrArg FRead.data read :), rest⟩
  case issue =>
    intro g item s t i frame safe runs new kept open' fence first time
    obtain ⟨truss, -, begun, -⟩ := State.frameItem_some frame
    obtain ⟨held, -⟩ := State.grpTruss_some truss
    have ends := exec_itemIssue.trans (execItemIssue_due frame safe runs new kept open' fence first time)
    refine ⟨fun r busy => ?_, fun free empty => ?_⟩
    · rw [startNext_enlist_busy busy] at ends
      refine ⟨_, s.newRun g item i.lane, ends, ?_, ?_, ?_, ?_, rfl, rfl, rfl, rfl, Nat.succ_pred held⟩
      · rw [State.driveErrn_group, enlist_group]
        exact List.mem_cons_self
      · simp only [State.driveErrn_frame, enlist_plan]
      · rw [State.driveErrn_lane, enlist_lane, busy]
      · rw [State.driveErrn_lane, enlist_lane]
    · obtain ⟨r, run, group, item', n, issued⟩ := startNext_enlist_free (at' := s.instant g t i.start) free empty begun held kept
      exact ⟨_, r, ends, by rwa [State.driveErrn_group], by rwa [State.driveErrn_lane], group, item', n⟩
  case lanes =>
    intro lane s r
    refine ⟨fun rest free safe open' fence queue stands => ?_, fun busy => exec_itemComplete ▸ execItemComplete_frees busy⟩
    obtain ⟨q, run, waits, item, group, -⟩ := startNext_runs free queue stands
    exact ⟨_, q, exec_laneFreeStart.trans (execLaneFreeStart_open safe open' fence), by rwa [State.driveErrn_lane], item, group,
      by rwa [State.driveErrn_lane]⟩
  case deadline =>
    intro g item lines s t i frame safe runs open' kept issued
    obtain ⟨u, f, ends, missed⟩ := execItemDeadline_misses (lines := lines) frame safe runs open' kept issued
    have plan : u.clk.plan = max s.clk.plan (s.instant g t i.deadline) := (congrArg Cadence.plan missed :)
    have group := (congrArg (fun κ : Cadence => κ.group g) missed).trans (Cadence.modGroup_group ..)
    have items : (u.group g).missed = item :: (s.group g).missed := (congrArg GroupSt.missed group :)
    exact ⟨u, exec_itemDeadline.trans ends, items ▸ List.mem_cons_self, plan ▸ Nat.le_max_right .., (congrArg GroupSt.missTotal group :)⟩

end

section
/-! SUPPORT. The active lines of a head whose strip is committed (R301, R302): what it scans and what it records, by the ECC error of its
buffer line. -/

namespace Sys2Proof.Machine

/-- R300: line `y` of the raster in a strip buffer. -/
def StripBuf.line (b : StripBuf) (y : Nat) : List (List Nat) :=
  [b.lines.a.getD (y % 8) [], b.lines.b.getD (y % 8) [], b.lines.c.getD (y % 8) [], b.lines.alpha.getD (y % 8) []]

/-- R302: the line that a head scans where its buffer `b` holds line `y`: an uncorrectable error (`ecc` 2) repeats the last one scanned. -/
def HeadSt.eccLine (c : HeadSt) (ecc : Fin 3) (b : StripBuf) (y : Nat) : List (List Nat) := if ecc = 2 then c.last else b.line y

/-- R302: what an ECC error in a buffer line of head `h` records: detail 4 corrected, detail 5 uncorrectable. -/
def State.eccReport (h : Nat) (ecc : Fin 3) (s : State) : State :=
  if ecc = 1 then s.fault (32 + h) 4 else if ecc = 2 then s.fault (32 + h) 5 else s

/-- R301: the instant at which the first pixel of head `h`'s next line is due. -/
def State.lineDue (s : State) (h : Nat) (x : HeadTiming) : Nat :=
  (s.head h).frameStart +
    s.pixelsNs x ((x.vsync + x.vbp + (s.head h).line) * (x.hactive + x.hfp + x.hsync + x.hbp) + x.hsync + x.hbp)

/-- R301: at its instant a head scans `l` as its next line; the last line of a strip or of the frame releases the strip's buffer. -/
def State.scanLine (h : Nat) (x : HeadTiming) (l : List (List Nat)) (s : State) : State :=
  (s.untilPlan (s.lineDue h x)).modHead h fun c =>
    { c with line := (s.head h).line + 1, last := l,
             bufs := if (s.head h).line % 8 = 7 ∨ (s.head h).line + 1 = x.vactive then tabSet c.bufs ((s.head h).line / 8 % 4) {} else c.bufs }

variable {s : State}

theorem State.untilPlan_head (t h : Nat) (s : State) : (s.untilPlan t).head h = s.head h := by simp only [head, untilPlan_frame]

/-- R314: the truss that names a head is the sequencer's; time does not change it. -/
theorem State.untilPlan_headGroup (t h : Nat) (s : State) : (s.untilPlan t).headGroup h = s.headGroup h := by
  rw [untilPlan_eq]
  rfl

theorem State.scanLine_line (h : Nat) (x : HeadTiming) (l : List (List Nat)) (s : State) :
    ((s.scanLine h x l).head h).line = (s.head h).line + 1 := by simp only [scanLine, modHead_head, if_true]

theorem State.scanLine_last (h : Nat) (x : HeadTiming) (l : List (List Nat)) (s : State) : ((s.scanLine h x l).head h).last = l := by
  simp only [scanLine, modHead_head, if_true]

/-- R301, R302: an active line of a scanning head whose strip is committed: the buffer's line, or the last one again; it is recorded, goes to the
writeback engine, and goes out marked as a repeat where it is one. -/
theorem execHeadLineStart_committed {h : Fin 8} {ecc : Fin 3} {x : HeadTiming} {b : StripBuf} (timing : (s.head h).timing = some x)
    (scanning : (s.head h).scanning = true) (active : (s.head h).line < x.vactive) (safe : s.flt.safe = false)
    (named : (s.headGroup h).isNone = false) (buf : tabGet (s.head h).bufs ((s.head h).line / 8 % 4) = b) (committed : b.committed = true)
    (strip : b.strip = (s.head h).line / 8) :
    execHeadLineStart h ecc s =
      done (headWbLine h (s.head h).line ((s.head h).eccLine ecc b (s.head h).line)
        (((s.scanLine h x ((s.head h).eccLine ecc b (s.head h).line)).eccReport h ecc).emit (.headLine h (s.head h).line (ecc == 2)))) := by
  have inFrame : decide (x.vactive ≤ (s.head h).line) = false := decide_eq_false (Nat.not_le.mpr active)
  have there : (b.strip == (s.head h).line / 8) = true := beq_iff_eq.mpr strip
  simp only [execHeadLineStart, timing, scanning, inFrame, State.untilPlan_frame, State.untilPlan_head, State.untilPlan_headGroup, safe, named, buf,
    committed, there, Bool.not_true, Bool.or_self, Bool.or_false, Bool.true_and, Bool.false_and, Bool.false_or, Bool.false_eq_true, if_false, if_true,
    true_and, Bool.not_eq_true', beq_eq_false_iff_ne, ne_eq, ite_not, beq_iff_eq]
  rfl

end Sys2Proof.Machine
end

section
/-! SUPPORT. The statement of the family of the local heads about ECC errors in buffer lines, settled. -/

open Sys2Proof Sys2Proof.Machine

/-- Settles O42: the start of a committed line, taken at an uncorrectable and at a corrected error. -/
theorem eccErrorsRepeatTheLine : Obligations.EccErrorsRepeatTheLine := by
  intro h s x e b timing scanning active safe named buf committed strip
  have starts : ∀ ecc, exec (.headLineStart h ecc) s = _ := fun ecc => exec_headLineStart.trans
    (execHeadLineStart_committed (ecc := ecc) timing scanning active safe (named ▸ rfl) buf.symm committed strip)
  refine ⟨?uncorrectable, ?corrected⟩
  case uncorrectable => exact ⟨_, starts 2, State.scanLine_last .., State.scanLine_line ..⟩
  case corrected =>
    rintro l rfl
    exact ⟨_, starts 1, State.scanLine_last .., State.scanLine_line ..⟩

end

section
/-! SUPPORT. What goes out to one peer, and each change of its session: of the peers that one alone moves, and of the rest what is sent and told
(R340, R341, R344, R348). -/

namespace Sys2Proof.Machine

/-- The state with everything erased that a message to a peer, or a change of its session, may move. -/
def State.sansPeers (s : State) : State := { s.sansSent with intc := {}, adt := {} }

/-- From `s` to `t` no peer but `k` moves, and nothing that `sansPeers` keeps. -/
structure OnlyPeer (k : Nat) (s t : State) : Prop where
  rest : t.sansPeers = s.sansPeers
  others : ∀ j, j ≠ k → t.peer j = s.peer j

theorem State.peer_of_sansSent {s t : State} (h : t.sansSent = s.sansSent) (j : Nat) : t.peer j = s.peer j := (congrArg (State.peer · j) h :)

theorem State.blocks_of_sansPeers {s t : State} (h : t.sansPeers = s.sansPeers) :
    t.adtCfg = s.adtCfg ∧ t.mem = s.mem ∧ t.seq = s.seq ∧ t.now = s.now :=
  ⟨(congrArg State.adtCfg h :), (congrArg State.mem h :), (congrArg State.seq h :), (congrArg State.now h :)⟩

section
variable {k : Nat} {s t u : State}

theorem OnlyPeer.refl : OnlyPeer k s s := ⟨rfl, fun _ _ => rfl⟩

theorem OnlyPeer.trans (h : OnlyPeer k s t) (h' : OnlyPeer k t u) : OnlyPeer k s u :=
  ⟨h'.rest.trans h.rest, fun j other => (h'.others j other).trans (h.others j other)⟩

theorem OnlyPeer.ite {c : Prop} {_ : Decidable c} (ht : OnlyPeer k s t) (hu : OnlyPeer k s u) : OnlyPeer k s (if c then t else u) := by
  split
  · exact ht
  · exact hu

theorem OnlyPeer.of_sansSent (h : t.sansSent = s.sansSent) : OnlyPeer k s t :=
  ⟨(congrArg State.sansPeers h :), fun j _ => State.peer_of_sansSent h j⟩

theorem OnlyPeer.modPeer {f : Peer → Peer} : OnlyPeer k s (s.modPeer k f) := ⟨rfl, fun j other => by rw [State.modPeer_peer, if_neg other]⟩

theorem OnlyPeer.modAdt {f : AdtSt → AdtSt} (h : ∀ a, (f a).peers = a.peers) : OnlyPeer k s (s.modAdt f) :=
  ⟨rfl, fun j _ => congrArg (tabGet · j) (h s.adt)⟩

theorem OnlyPeer.pend {x : Nat} : OnlyPeer k s (s.pend x) := by
  rw [State.pend_eq]
  exact ⟨rfl, fun _ _ => rfl⟩

theorem OnlyPeer.foldl {α : Type} {f : State → α → State} (h : ∀ s x, OnlyPeer k s (f s x)) (l : List α) (s : State) :
    OnlyPeer k s (l.foldl f s) :=
  List.foldlRecOn (motive := OnlyPeer k s) l f .refl fun t kept x _ => kept.trans (h t x)

/-! ### Messages, and the state of a session -/

theorem State.adtSend_sansSent (kind : String) (body : Nat) (fields : List Nat) :
    (s.adtSend k kind body fields).sansSent = (s.modPeer k fun p => { p with txSeq := p.txSeq + 1 }).sansSent :=
  foldl_keeps State.sansSent (fun _ _ => ite_keeps State.sansSent (sendIp_sansSent ..) rfl) ..

theorem OnlyPeer.adtSend {kind : String} {body : Nat} {fields : List Nat} : OnlyPeer k s (s.adtSend k kind body fields) :=
  .trans .modPeer (.of_sansSent (State.adtSend_sansSent ..))

theorem OnlyPeer.peerState {state reason : Nat} : OnlyPeer k s (s.peerState k state reason) :=
  .trans .modPeer (.trans (.of_sansSent (State.recordTo_sansSent ..)) .pend)

theorem OnlyPeer.liveAgain : OnlyPeer k s (s.liveAgain k) := .ite .peerState .refl

theorem OnlyPeer.sendBlank {b : Blank} : OnlyPeer k s (s.sendBlank k b) :=
  .trans (.trans (.foldl (fun _ _ => .trans .adtSend (.of_sansSent (State.count_sansSent ..))) ..) .modPeer) .liveAgain

theorem OnlyPeer.sendHold {reason : Nat} : OnlyPeer k s (sendHold k reason s) :=
  .ite .refl (.trans (.trans (.trans .adtSend (.of_sansSent (State.count_sansSent ..))) .modPeer) .liveAgain)

theorem OnlyPeer.resetHeld : OnlyPeer k s (resetHeld k s) := .modPeer

/-- R337: no digest is held, and the next ANNOUNCE gives the full set. -/
theorem resetHeld_forgets (s : State) (k : Nat) : ((resetHeld k s).peer k).held = [] ∧ ((resetHeld k s).peer k).fresh = true := by
  rw [Machine.resetHeld, State.modPeer_peer, if_pos rfl]
  exact ⟨rfl, rfl⟩

/-! ### Sessions that end -/

theorem OnlyPeer.keepRtag : OnlyPeer k s (keepRtag k s) := .of_sansSent rfl

theorem OnlyPeer.closeSession {reason : Nat} : OnlyPeer k s (closeSession k reason s) := by
  refine .ite .refl ?_
  have ended : OnlyPeer k s (Machine.keepRtag k (s.peerState k 0 reason)) := .trans .peerState .keepRtag
  refine .trans (.trans ended ?_) .modPeer
  exact .modAdt fun _ => rfl

theorem closeSession_inSession (k reason : Nat) (s : State) : ((closeSession k reason s).peer k).inSession = false := by
  unfold closeSession
  split
  · next closed => simpa using closed
  · rw [State.modPeer_peer, if_pos rfl]
    rfl

theorem OnlyPeer.leaveSession {reason : Nat} : OnlyPeer k s (leaveSession k reason s) := .ite .refl (.trans .adtSend .closeSession)

theorem leaveSession_inSession (k reason : Nat) (s : State) : ((leaveSession k reason s).peer k).inSession = false := by
  unfold leaveSession
  split
  · next closed => simpa using closed
  · exact closeSession_inSession ..

/-! ### Blanks -/

theorem State.adtSend_blank {kind : String} {body : Nat} {fields : List Nat} : ((s.adtSend k kind body fields).peer k).blank = (s.peer k).blank := by
  rw [peer_of_sansSent (adtSend_sansSent ..), modPeer_peer, if_pos rfl]

theorem State.peerState_blank {state reason : Nat} : ((s.peerState k state reason).peer k).blank = (s.peer k).blank := by
  unfold peerState
  dsimp only
  rw [pend_eq]
  refine (congrArg Peer.blank (peer_of_sansSent (recordTo_sansSent ..) k)).trans ?_
  rw [modPeer_peer, if_pos rfl]

theorem State.liveAgain_blank : ((s.liveAgain k).peer k).blank = (s.peer k).blank :=
  ite_keeps (fun t : State => (t.peer k).blank) peerState_blank rfl

/-- R341: a BLANK sent is the one in force. -/
theorem State.sendBlank_blank {b : Blank} : ((s.sendBlank k b).peer k).blank = some b := by
  refine liveAgain_blank.trans ?_
  unfold emitBlank
  rw [modPeer_peer, if_pos rfl]

theorem sendHold_blank {reason : Nat} : ((sendHold k reason s).peer k).blank = (s.peer k).blank := by
  refine ite_keeps (fun t : State => (t.peer k).blank) rfl ?_
  rw [State.liveAgain_blank, State.modPeer_peer, if_pos rfl]
  exact State.adtSend_blank

theorem OnlyPeer.settleEndpoint : OnlyPeer k s (settleEndpoint k s) := by
  unfold Machine.settleEndpoint
  refine .ite .refl (.ite .sendBlank (.ite .sendBlank ?_))
  split
  · exact .sendBlank
  · exact .ite .refl .sendHold
  · exact .sendHold

theorem OnlyPeer.endBlank : OnlyPeer k s (endBlank k s) :=
  .ite .refl (.trans (.trans (.trans .modPeer .resetHeld) .liveAgain) .settleEndpoint)

/-- R341: the peer shows no host blank. -/
def Peer.NoHostBlank (p : Peer) : Prop := ∀ b, p.blank = some b → b.reason ≠ 2

theorem Peer.noHostBlank_of_none {p : Peer} (h : p.blank = none) : p.NoHostBlank := fun _ shown => nomatch h.symm.trans shown

theorem Peer.noHostBlank_of_some {p : Peer} {b : Blank} (h : p.blank = some b) (other : b.reason ≠ 2) : p.NoHostBlank := fun _ shown =>
  Option.some.inj (h.symm.trans shown) ▸ other

/-- R340, R341: an endpoint without a blank is given none but the safe field's. -/
theorem settleEndpoint_noHostBlank (h : (s.peer k).blank = none) : ((settleEndpoint k s).peer k).NoHostBlank := by
  have held : ∀ reason, ((sendHold k reason s).peer k).NoHostBlank := fun _ => Peer.noHostBlank_of_none (sendHold_blank.trans h)
  have safe : ∀ reason, reason ≠ 2 → ((s.sendBlank k (s.safeBlank reason)).peer k).NoHostBlank := fun _ other =>
    Peer.noHostBlank_of_some State.sendBlank_blank other
  have none' : s.blankOn k = none := by rw [State.blankOn, h]
  unfold settleEndpoint
  split
  · exact Peer.noHostBlank_of_none h
  split
  · exact safe 0 (by decide)
  split
  · exact safe 1 (by decide)
  split
  · next shown => exact nomatch none'.symm.trans shown
  · split
    · exact Peer.noHostBlank_of_none h
    · exact held 1
  · exact held 0

theorem endBlank_noHostBlank (h : (s.peer k).blank.isNone = false) : ((endBlank k s).peer k).NoHostBlank := by
  rw [endBlank, if_neg (by simp [h])]
  refine settleEndpoint_noHostBlank (State.liveAgain_blank.trans ?_)
  rw [resetHeld, State.modPeer_peer, if_pos rfl, State.modPeer_peer, if_pos rfl]

end

/-! ### Peers in turn -/

section
variable {f : State → Nat → State} (only : ∀ s k, OnlyPeer k s (f s k))
include only

/-- What each peer in turn is made to be, or was and is not touched, it is after the last. -/
theorem foldl_peer_makes {P : Peer → Prop} (makes : ∀ s k, P ((f s k).peer k)) {ks : List Nat} {k : Nat} {s : State}
    (h : k ∈ ks ∨ P (s.peer k)) : P ((ks.foldl f s).peer k) := by
  have keeps : ∀ t x, P (t.peer k) → P ((f t x).peer k) := by
    intro t x held
    by_cases same : k = x
    · exact same ▸ makes t k
    · rwa [(only t x).others k same]
  obtain listed | held := h
  · exact foldl_makes (P := fun t : State => P (t.peer k)) listed (makes · k) keeps s
  · exact List.foldlRecOn (motive := fun t : State => P (t.peer k)) ks f held fun t held x _ => keeps t x held

theorem foldl_peer_other {ks : List Nat} {k : Nat} (h : k ∉ ks) (s : State) : (ks.foldl f s).peer k = s.peer k :=
  List.foldlRecOn (motive := fun t : State => t.peer k = s.peer k) ks f rfl fun t kept x listed =>
    ((only t x).others k fun same => h (same ▸ listed)).trans kept

theorem foldl_peers_rest (ks : List Nat) (s : State) : (ks.foldl f s).sansPeers = s.sansPeers :=
  foldl_keeps State.sansPeers (fun t k => (only t k).rest) ks s

end

end Sys2Proof.Machine
end

section
/-! SUPPORT. The display-transport commands, past the checks of R151 (R351). -/

namespace Sys2Proof.Machine

section
variable {id : Nat} {c : KcpCtx} {s : State}

theorem State.peer_of_adt {t : State} (h : t.adt = s.adt) (j : Nat) : t.peer j = s.peer j := congrArg (fun a : AdtSt => tabGet a.peers j) h

theorem kcpRelease_sansSent (c : KcpCtx) (s : State) : (kcpRelease c s).sansSent = s.sansSent := by
  unfold kcpRelease
  split
  · rfl
  · rfl

/-- R153: a ready command's effect stands whether or not its session outlives it: the end of the command moves none of these blocks. -/
theorem kcp_ends {body : Nat → State → Reply} {r : Reply} (ready : kcpReady id 0 c s = true) (ordinary : id ≠ 0)
    (own : body (s.kcpFn c) s = r) :
    ∃ t, kcp id c body s = .next t ∧ t.adt = r.st.adt ∧ t.adtCfg = r.st.adtCfg ∧ t.mem = r.st.mem ∧ t.seq = r.st.seq := by
  obtain ⟨u, ends, same⟩ : ∃ u, kcp id c body s = done u ∧ u.sansSent = r.st.sansSent := by
    rw [kcp, kcpRun, kcpBegin_ready ready ordinary, own]
    dsimp only
    split
    · exact ⟨_, rfl, kcpRelease_sansSent ..⟩
    · exact ⟨_, rfl, kcpAnswer_sansSent⟩
  refine ⟨_, ends, ?_⟩
  simp only [State.driveErrn_frame]
  exact ⟨(congrArg State.adt same :), (congrArg State.adtCfg same :), (congrArg State.mem same :), (congrArg State.seq same :)⟩

/-! ### ADT_CONFIG -/

/-- R351: every session ends, as a new port has it. -/
def State.endAdtSessions (s : State) : State := (s.adt.peers.map (·.1)).foldl (fun (s : State) k => closeSession k 0 s) s

theorem State.endAdtSessions_inSession (s : State) (k : Nat) : (s.endAdtSessions.peer k).inSession = false := by
  refine foldl_peer_makes (P := fun p => p.inSession = false) (fun _ _ => .closeSession) (fun s k => closeSession_inSession k 0 s) ?_
  by_cases listed : k ∈ s.adt.peers.map (·.1)
  · exact .inl listed
  · refine .inr ?_
    rw [peer, tabGet, tabGetD_of_not_mem listed]
    rfl

theorem State.endAdtSessions_rest (s : State) : s.endAdtSessions.sansPeers = s.sansPeers := foldl_peers_rest (fun _ _ => .closeSession) ..

/-- R351: what ADT_CONFIG makes of the configuration. -/
def AdtCfg.stored (p : Nat) (heartbeat hold repair : Half) (beacon : Byte) (group : BitVec 128) (a : AdtCfg) : AdtCfg :=
  { a with port := p, heartbeat := heartbeat.toNat, hold := hold.toNat, repair := repair.toNat, beacon := beacon == 1, group := group.toNat }

/-- R351: ADT_CONFIG's effect: with a new port every session ends first. -/
def State.storeAdtCfg (p : Nat) (heartbeat hold repair : Half) (beacon : Byte) (group : BitVec 128) (s : State) : State :=
  let s := if p = s.adtCfg.port then s else s.endAdtSessions
  { s with adtCfg := s.adtCfg.stored p heartbeat hold repair beacon group }

section
variable {p : Nat} {heartbeat hold repair : Half} {beacon : Byte} {group : BitVec 128}

theorem State.storeAdtCfg_same (same : p = s.adtCfg.port) : s.storeAdtCfg p heartbeat hold repair beacon group =
    { s with adtCfg := { s.adtCfg with heartbeat := heartbeat.toNat, hold := hold.toNat, repair := repair.toNat, beacon := beacon == 1,
                                       group := group.toNat } } := by
  subst same
  rw [storeAdtCfg, if_pos rfl]
  rfl

theorem State.storeAdtCfg_frame (p : Nat) (heartbeat hold repair : Half) (beacon : Byte) (group : BitVec 128) (s : State) :
    (s.storeAdtCfg p heartbeat hold repair beacon group).adtCfg = s.adtCfg.stored p heartbeat hold repair beacon group ∧
    (s.storeAdtCfg p heartbeat hold repair beacon group).mem = s.mem ∧ (s.storeAdtCfg p heartbeat hold repair beacon group).seq = s.seq := by
  have rest : (if p = s.adtCfg.port then s else s.endAdtSessions).sansPeers = s.sansPeers := ite_keeps sansPeers rfl s.endAdtSessions_rest
  obtain ⟨cfg, mem, seq, -⟩ := blocks_of_sansPeers rest
  exact ⟨congrArg (AdtCfg.stored p heartbeat hold repair beacon group) cfg, mem, seq⟩

theorem State.storeAdtCfg_inSession (moved : p ≠ s.adtCfg.port) (k : Nat) :
    ((s.storeAdtCfg p heartbeat hold repair beacon group).peer k).inSession = false := by
  rw [storeAdtCfg, if_neg moved]
  exact s.endAdtSessions_inSession k

/-- R351: with values in range, ADT_CONFIG is its effect. -/
theorem execAdtConfig_valid {port : Half} (beats : 100 ≤ heartbeat.toNat) (beats' : heartbeat.toNat ≤ 1000) (holds : 1 ≤ hold.toNat)
    (holds' : hold.toNat ≤ 3600) (repairs : 500 ≤ repair.toNat) (repairs' : repair.toNat ≤ 10000) (flag : beacon.toNat ≤ 1)
    (named : p = if port = 0 then 56410 else port.toNat) : execAdtConfig c port heartbeat hold repair beacon group s =
      kcp 0x0400 c (fun _ s => replyOk (s.storeAdtCfg p heartbeat hold repair beacon group)) s := by
  have within : ∀ {v : Half} {lo hi : Nat}, lo ≤ v.toNat → v.toNat ≤ hi → (decide (v.toNat < lo) || decide (hi < v.toNat)) = false := by
    intro v lo hi low high
    rw [decide_eq_false (Nat.not_lt.mpr low), decide_eq_false (Nat.not_lt.mpr high), Bool.or_self]
  subst named
  simp only [execAdtConfig, within beats beats', within holds holds', within repairs repairs', Nat.not_lt.mpr flag, Bool.false_eq_true, if_false]
  rfl

end

/-! ### Commands that name a peer -/

/-- R351: a command that names a peer in range, its group granted, goes on to that peer. -/
theorem withPeer_named {f : Nat} {kind : Byte} {number : Half} {go : Nat → Reply} (named : adtNamed f kind number s = true) :
    withPeer f kind number s go = go (peerKey (kind == 1) number.toNat) := by
  simp only [adtNamed, Bool.and_eq_true, decide_eq_true_eq] at named
  obtain ⟨⟨known, inRange⟩, granted⟩ := named
  have numbered : ¬ (if kind = 1 then decide (255 < number.toNat) else decide (1023 < number.toNat)) = true := by
    by_cases source : kind = 1
    · rw [if_pos source] at inRange ⊢
      simpa using inRange
    · rw [if_neg source] at inRange ⊢
      simpa using inRange
  rw [withPeer, if_neg (Nat.not_lt.mpr known), if_neg numbered]
  refine if_pos ?_
  cases found : s.endpoint (peerKey (kind == 1) number.toNat) with
  | none => rwa [found] at granted
  | some x => rwa [found] at granted

/-- R326: a ready command that ends peer `k`'s session, then writes of it, moves no other peer. -/
theorem kcp_leaves {k reason : Nat} {f : Peer → Peer} {body : Nat → State → Reply} (ready : kcpReady id 0 c s = true)
    (ordinary : id ≠ 0) (own : body (s.kcpFn c) s = replyOk ((leaveSession k reason s).modPeer k f)) :
    ∃ t, kcp id c body s = .next t ∧ t.peer k = f ((leaveSession k reason s).peer k) ∧ t.mem = s.mem ∧ t.seq = s.seq ∧
      ∀ j, j ≠ k → t.peer j = s.peer j := by
  obtain ⟨t, ends, adt, -, mem, seq⟩ := kcp_ends ready ordinary own
  have moved : OnlyPeer k s ((leaveSession k reason s).modPeer k f) := .trans .leaveSession .modPeer
  obtain ⟨-, mem', seq', -⟩ := State.blocks_of_sansPeers moved.rest
  refine ⟨t, ends, ?_, mem.trans mem', seq.trans seq', fun j other => (State.peer_of_adt adt j).trans (moved.others j other)⟩
  rw [State.peer_of_adt adt, replyOk_st, State.modPeer_peer, if_pos rfl]

section
variable {kind : Byte} {number : Half} {k : Nat} (named : adtNamed (s.kcpFn c) kind number s = true)
  (key : k = peerKey (kind == 1) number.toNat)
include named

/-- R351: what ADT_QUERY answers fills 46 bytes. -/
theorem execAdtQuery_named (ready : kcpReady 0x0401 0 c s = true) :
    ∃ bs : List Byte, bs.length = 46 ∧ execAdtQuery c kind number s = .next (kcpOk 0x0401 c s s bs) :=
  ⟨_, by simp [leBytes], kcp_ok_of_sessions ready (by decide) (withPeer_named named) rfl (.inr rfl)⟩

include key

/-- R351: ADT_BIND of a peer with a binding, by an ID that is bound to no other. -/
theorem execAdtBind_bound {fixed : Byte} {peer : Long} {address : BitVec 128} (ready : kcpReady 0x0402 0 c s = true) (flag : fixed.toNat ≤ 1)
    (bound : (s.peerBinding k).isSome = true) (own : ∀ x, s.bindingOf kind.toNat peer.toNat = some x → x.1 = k) :
    ∃ t, execAdtBind c kind fixed number peer address s = .next t ∧
      t.peer k = { (leaveSession k 11 s).peer k with bound := some (fixed == 1, peer.toNat, address.toNat) } ∧ t.mem = s.mem ∧ t.seq = s.seq ∧
      ∀ j, j ≠ k → t.peer j = s.peer j := by
  subst key
  unfold execAdtBind
  refine kcp_leaves (f := fun p => { p with bound := some (fixed == 1, peer.toNat, address.toNat) }) ready (by decide)
    (.trans (withPeer_named named) ?_)
  rw [if_neg (Nat.not_lt.mpr flag), if_neg (Bool.eq_false_iff.mp (Option.isNone_eq_false_iff.mpr bound))]
  cases found : s.bindingOf kind.toNat peer.toNat with
  | none => rfl
  | some x => exact if_neg (by simp [own x found])

/-- R351: ADT_DISCONNECT with a hold-off in range. -/
theorem execAdtDisconnect_named {hold : Half} (ready : kcpReady 0x0403 0 c s = true) (inRange : hold.toNat ≤ 3600) :
    ∃ t, execAdtDisconnect c kind number hold s = .next t ∧
      t.peer k = { (leaveSession k 8 s).peer k with
        holdOff := if hold = 0 then 0 else (leaveSession k 8 s).now + secNs hold.toNat + 1 } ∧ t.mem = s.mem ∧ t.seq = s.seq ∧
      ∀ j, j ≠ k → t.peer j = s.peer j := by
  subst key
  unfold execAdtDisconnect
  refine kcp_leaves (f := fun p => { p with holdOff := if hold = 0 then 0 else (leaveSession _ 8 s).now + secNs hold.toNat + 1 }) ready (by decide)
    (.trans (withPeer_named named) ?_)
  exact if_neg (Nat.not_lt.mpr inRange)

end

/-! ### Commands over a range of endpoints -/

/-- R351: the endpoints of a range that are bound. -/
def State.rangeEndpoints (first count : Half) (s : State) : List Nat :=
  ((List.range count.toNat).map (· + first.toNat)).filter fun k => (s.endpoint k).isSome

theorem State.mem_rangeEndpoints {first count : Half} {k : Nat} :
    k ∈ s.rangeEndpoints first count ↔ (first.toNat ≤ k ∧ k < first.toNat + count.toNat) ∧ (s.endpoint k).isSome = true := by
  simp only [rangeEndpoints, List.mem_filter, List.mem_map, List.mem_range]
  refine and_congr_left fun _ => ⟨?_, fun ⟨low, high⟩ => ⟨k - first.toNat, by omega, by omega⟩⟩
  rintro ⟨i, small, rfl⟩
  omega

/-- R351: a command over a range that lies in range, the group of each endpoint granted, goes on to its endpoints. -/
theorem withRange_granted {f : Nat} {first count : Half} {go : List Nat → Reply} (range : adtRange f first count s = true) :
    withRange f first count s go = go (s.rangeEndpoints first count) := by
  simp only [adtRange, Bool.and_eq_true, decide_eq_true_eq, bne_iff_ne, List.all_eq_true, List.mem_range] at range
  obtain ⟨⟨⟨known, some'⟩, fits⟩, granted⟩ := range
  have each : ¬ ((s.rangeEndpoints first count).any fun k =>
      match s.endpoint k with | some (g, _, _) => !s.hasGroup f g | none => false) = true := by
    rw [Bool.not_eq_true, List.any_eq_false]
    intro k listed
    obtain ⟨⟨low, high⟩, bound⟩ := State.mem_rangeEndpoints.mp listed
    obtain ⟨x, found⟩ := Option.isSome_iff_exists.mp bound
    have grant := granted (k - first.toNat) (by omega)
    rw [Nat.add_sub_cancel' low, found] at grant
    simp only [found] at grant ⊢
    simp [grant]
  rw [withRange, if_neg (Nat.not_lt.mpr known), if_neg (not_or.mpr ⟨some', Nat.not_lt.mpr fits⟩)]
  exact if_neg each

/-- A ready command that works on the endpoints of a range in turn makes each what its step makes it. -/
theorem kcp_range_makes {first count : Half} {body : Nat → State → Reply} {f : State → Nat → State} {P : Peer → Prop}
    (ready : kcpReady id 0 c s = true) (ordinary : id ≠ 0) (own : body (s.kcpFn c) s = replyOk ((s.rangeEndpoints first count).foldl f s))
    (only : ∀ s k, OnlyPeer k s (f s k)) (makes : ∀ s k, P ((f s k).peer k)) :
    ∃ t, kcp id c body s = .next t ∧ t.mem = s.mem ∧ t.seq = s.seq ∧
      ∀ k, first.toNat ≤ k → k < first.toNat + count.toNat → (s.endpoint k).isSome = true → P (t.peer k) := by
  obtain ⟨t, ends, adt, -, mem, seq⟩ := kcp_ends ready ordinary own
  obtain ⟨-, mem', seq', -⟩ := State.blocks_of_sansPeers (foldl_peers_rest only (s.rangeEndpoints first count) s)
  refine ⟨t, ends, mem.trans mem', seq.trans seq', fun k low high bound => ?_⟩
  rw [State.peer_of_adt adt]
  exact foldl_peer_makes only makes (.inl (State.mem_rangeEndpoints.mpr ⟨⟨low, high⟩, bound⟩))

/-- The state with the display transport erased. -/
def State.sansAdt (s : State) : State := { s with adt := {} }

theorem State.eq_of_sansAdt {t : State} (h : t.sansAdt = s.sansAdt) : t = { s with adt := t.adt } :=
  (congrArg (fun x : State => { x with adt := t.adt }) h :)

/-- R351: ADT_REFRESH resets the held digests of each endpoint in turn. -/
theorem execAdtRefresh_granted {first count : Half} (range : adtRange (s.kcpFn c) first count s = true) (ready : kcpReady 0x0404 0 c s = true) :
    execAdtRefresh c first count s = .next (kcpOk 0x0404 c s ((s.rangeEndpoints first count).foldl (fun (s : State) k => resetHeld k s) s) []) := by
  have host := foldl_keeps State.host (f := fun (s : State) k => resetHeld k s) (fun _ _ => rfl) (s.rangeEndpoints first count) s
  exact kcp_ok_of_sessions ready (by decide) (withRange_granted range) (congrArg HostSt.mbx host) (.inr (congrArg HostSt.udp host))

/-! ### ADT_BLANK -/

/-- R341: the blank of reason 2 that ADT_BLANK gives. -/
def hostBlank (notice : Byte) (background colour : BitVec 24) : Blank :=
  let swap := fun (v : BitVec 24) => bitsOf 0 8 v.toNat * 65536 + bitsOf 8 8 v.toNat * 256 + bitsOf 16 8 v.toNat
  { reason := 2, colour := swap background, notice := swap colour, hasNotice := notice == 1 }

/-- R341: ADT_BLANK gives an endpoint the blank, and sends it in an open session unless the bulletin lifts it. -/
def giveBlank (b : Blank) (s : State) (k : Nat) : State :=
  let s := s.modPeer k fun p => { p with blank := some b }
  if (s.peer k).inSession && (s.blankOn k).isSome then s.sendBlank k b else s

/-- R341: ADT_BLANK ends an endpoint's host blank. -/
def liftBlank (s : State) (k : Nat) : State :=
  match (s.peer k).blank with | some x => (if x.reason = 2 then endBlank k s else s) | none => s

theorem OnlyPeer.giveBlank {b : Blank} (s : State) (k : Nat) : OnlyPeer k s (giveBlank b s k) := .ite (.trans .modPeer .sendBlank) .modPeer

theorem giveBlank_blank (b : Blank) (s : State) (k : Nat) : ((giveBlank b s k).peer k).blank = some b := by
  refine ite_keeps (fun t : State => (t.peer k).blank) State.sendBlank_blank ?_
  rw [State.modPeer_peer, if_pos rfl]

theorem OnlyPeer.liftBlank (s : State) (k : Nat) : OnlyPeer k s (liftBlank s k) := by
  unfold Machine.liftBlank
  split
  · exact .ite .endBlank .refl
  · exact .refl

theorem liftBlank_noHostBlank (s : State) (k : Nat) : ((liftBlank s k).peer k).NoHostBlank := by
  unfold liftBlank
  split
  · next x shown =>
    split
    · exact endBlank_noHostBlank (by rw [shown]; rfl)
    · next other => exact Peer.noHostBlank_of_some shown other
  · next bare => exact Peer.noHostBlank_of_none bare

section
variable {first count : Half} {notice : Byte} {background colour : BitVec 24} (range : adtRange (s.kcpFn c) first count s = true)
  (ready : kcpReady 0x0405 0 c s = true) (flag : notice.toNat ≤ 1)
include range ready flag

theorem execAdtBlank_gives : ∃ t, execAdtBlank c first count 1 notice background colour s = .next t ∧ t.mem = s.mem ∧ t.seq = s.seq ∧
    ∀ k, first.toNat ≤ k → k < first.toNat + count.toNat → (s.endpoint k).isSome = true →
      (t.peer k).blank = some (hostBlank notice background colour) :=
  kcp_range_makes (f := giveBlank (hostBlank notice background colour)) (P := fun p => p.blank = some (hostBlank notice background colour))
    ready (by decide) (.trans (withRange_granted range) (if_neg (Nat.not_lt.mpr flag))) OnlyPeer.giveBlank (giveBlank_blank _)

theorem execAdtBlank_lifts : ∃ t, execAdtBlank c first count 0 notice background colour s = .next t ∧ t.mem = s.mem ∧ t.seq = s.seq ∧
    ∀ k, first.toNat ≤ k → k < first.toNat + count.toNat → (s.endpoint k).isSome = true → (t.peer k).NoHostBlank :=
  kcp_range_makes (f := liftBlank) ready (by decide) (.trans (withRange_granted range) (if_neg (Nat.not_lt.mpr flag))) OnlyPeer.liftBlank
    liftBlank_noHostBlank

end

/-! ### ADT_SOURCE_CTRL and ADT_STATS -/

theorem State.sendIp_host (p q addr : Nat) (f : QFrame) (s : State) : (s.sendIp p q addr f).host = s.host :=
  (congrArg State.host (sendIp_sansFrames p q addr f s) :)

theorem State.adtSend_host (k : Nat) (kind : String) (body : Nat) (fields : List Nat) (s : State) : (s.adtSend k kind body fields).host = s.host :=
  foldl_keeps State.host (fun _ _ => ite_keeps State.host (sendIp_host ..) rfl) ..

/-- R347: SOURCE_CTRL to a source in session that the running variant gives a decoder. -/
theorem execAdtSourceCtrl_live {source op : Byte} (ready : kcpReady 0x0406 0 c s = true) (known : op.toNat ≤ 1)
    (live : (s.peer (1024 + source.toNat)).inSession = true) (decoded : s.decoderNow source.toNat ≠ 4) :
    execAdtSourceCtrl c source op s = .next (kcpOk 0x0406 c s ((s.adtSend (1024 + source.toNat) "SOURCE_CTRL" 4 [op.toNat, 0]).modPeer
      (1024 + source.toNat) fun p => { p with stop := if op = 0 then 1 else 0 }) []) := by
  have host := s.adtSend_host (1024 + source.toNat) "SOURCE_CTRL" 4 [op.toNat, 0]
  exact kcp_ok_of_sessions ready (by decide) ((if_neg (Nat.not_lt.mpr known)).trans (if_neg (by simp [live, decoded])))
    (congrArg HostSt.mbx host) (.inr (congrArg HostSt.udp host))

/-- R351: what ADT_STATS answers fills 48 bytes. -/
theorem execAdtStats_ok (ready : kcpReady 0x0407 0 c s = true) :
    ∃ bs : List Byte, bs.length = 48 ∧ execAdtStats c s = .next (kcpOk 0x0407 c s s bs) :=
  ⟨_, by simp [leBytes], kcp_ok_of_sessions ready (by decide) rfl rfl (.inr rfl)⟩

end

end Sys2Proof.Machine
end

section
/-! SUPPORT. The statement of the family of the display transport about its commands, settled. -/

open Sys2Proof Sys2Proof.Machine

/-- Settles O45: each command passes its own checks, and moves the peers that it names. -/
theorem adtCommandsAnswer : Obligations.AdtCommandsAnswer := by
  intro c s
  refine ⟨?config, fun kind fixed number hold peer address k named key => ⟨execAdtQuery_named named, ?bind, ?disconnect⟩,
    fun first count range => ⟨?refresh, fun notice background colour ready flag => ⟨?blank, execAdtBlank_lifts range ready flag⟩⟩,
    fun source op => execAdtSourceCtrl_live, execAdtStats_ok⟩
  case config =>
    intro port heartbeat hold repair beacon group p ready beats beats' holds holds' repairs repairs' flag named
    rw [exec_adtConfig, execAdtConfig_valid beats beats' holds holds' repairs repairs' flag named]
    refine ⟨fun same => ?_, ?_⟩
    · rw [← State.storeAdtCfg_same same]
      refine kcp_ok_of_sessions ready (by decide) rfl ?_ (.inr ?_) <;> rw [State.storeAdtCfg_same same]
    · obtain ⟨t, ends, adt, cfg, mem, seq⟩ := kcp_ends ready (by decide) rfl
      obtain ⟨cfg', mem', seq'⟩ := s.storeAdtCfg_frame p heartbeat hold repair beacon group
      exact ⟨t, ends, cfg.trans cfg', fun moved k => State.peer_of_adt adt k ▸ State.storeAdtCfg_inSession moved k, mem.trans mem',
        seq.trans seq'⟩
  case bind =>
    intro ready flag bound own
    obtain ⟨t, ends, moved, rest⟩ := execAdtBind_bound (address := address) named key ready flag bound own
    exact ⟨t, exec_adtBind.trans ends, moved ▸ rfl, moved ▸ leaveSession_inSession k 11 s, rest⟩
  case disconnect =>
    intro ready inRange
    obtain ⟨t, ends, moved, rest⟩ := execAdtDisconnect_named named key ready inRange
    obtain ⟨-, -, -, now⟩ := State.blocks_of_sansPeers (OnlyPeer.leaveSession (k := k) (reason := 8) (s := s)).rest
    exact ⟨t, exec_adtDisconnect.trans ends, moved ▸ leaveSession_inSession k 8 s, by rw [moved, now], rest⟩
  case refresh =>
    intro ready
    refine ⟨_, exec_adtRefresh.trans (execAdtRefresh_granted range ready), fun k low high bound => ?_, fun k outside => ?_, ?_⟩
    · exact foldl_peer_makes (P := fun p => p.held = [] ∧ p.fresh = true) (fun _ _ => .resetHeld) resetHeld_forgets
        (.inl (State.mem_rangeEndpoints.mpr ⟨⟨low, high⟩, bound⟩))
    · refine foldl_peer_other (fun _ _ => .resetHeld) (fun listed => ?_) s
      obtain ⟨⟨low, high⟩, -⟩ := State.mem_rangeEndpoints.mp listed
      omega
    · have rest := foldl_keeps State.sansAdt (f := fun (s : State) k => resetHeld k s) (fun _ _ => rfl) (s.rangeEndpoints first count) s
      exact State.eq_of_sansAdt rest
  case blank =>
    obtain ⟨t, ends, mem, seq, given⟩ := execAdtBlank_gives (background := background) (colour := colour) range ready flag
    exact ⟨t, exec_adtBlank.trans ends, mem, seq, fun k low high bound => ⟨_, given k low high bound, rfl, rfl, rfl, rfl⟩⟩

end

section
/-! SUPPORT. Shaped queues: what a new rate makes of a queue (R366), and that the frames of a closed one wait while the MAC selects (R365, R367). -/

namespace Sys2Proof.Machine

/-! ### A new rate -/

section
variable {x : NetQueue} {now rate burst : Nat}

theorem NetQueue.setRate_closes : x.setRate now 0 burst =
    { x with burst := burst, rate := 0, debt := if x.closed then x.debt else (x.net - now) * x.rate, closed := true } := by simp [setRate]

theorem NetQueue.setRate_reopens (flows : rate ≠ 0) (closed : x.closed = true) :
    x.setRate now rate burst = { x with burst := burst, rate := rate, net := now + ceilDiv x.debt rate, debt := 0, closed := false } :=
  (if_neg flows).trans (if_pos closed)

theorem NetQueue.setRate_scales (flows : rate ≠ 0) (opened : x.closed = false) (ahead : now < x.net) :
    x.setRate now rate burst = { x with burst := burst, rate := rate, net := now + ceilDiv ((x.net - now) * x.rate) rate } :=
  (if_neg flows).trans ((if_neg (Bool.not_eq_true _ ▸ opened)).trans (if_pos ahead))

theorem NetQueue.setRate_keeps (flows : rate ≠ 0) (opened : x.closed = false) (past : x.net ≤ now) :
    x.setRate now rate burst = { x with burst := burst, rate := rate } :=
  (if_neg flows).trans ((if_neg (Bool.not_eq_true _ ▸ opened)).trans (if_neg (Nat.not_lt.mpr past)))

/-- R366: whatever the rate, the frames stay, and the queue is closed by a rate of 0 alone. -/
theorem NetQueue.setRate_common : (x.setRate now rate burst).frames = x.frames ∧ (x.setRate now rate burst).rate = rate ∧
    (x.setRate now rate burst).burst = burst ∧ ((x.setRate now rate burst).closed = true ↔ rate = 0) := by
  by_cases stops : rate = 0
  · subst stops
    rw [setRate_closes]
    exact ⟨rfl, rfl, rfl, iff_of_true rfl rfl⟩
  · cases closed : x.closed with
    | true =>
      rw [setRate_reopens stops closed]
      exact ⟨rfl, rfl, rfl, iff_of_false Bool.false_ne_true stops⟩
    | false =>
      rcases Nat.lt_or_ge now x.net with ahead | past
      · rw [setRate_scales stops closed ahead]
        exact ⟨rfl, rfl, rfl, iff_of_false (ne_true_of_eq_false closed) stops⟩
      · rw [setRate_keeps stops closed past]
        exact ⟨rfl, rfl, rfl, iff_of_false (ne_true_of_eq_false closed) stops⟩

/-- R365, R366: a closed queue may send nothing. -/
theorem NetQueue.eligible_closed {q l : Nat} (closed : x.closed = true) : x.eligible q now l = false := by simp [eligible, closed]

end

/-! ### A closed queue while the MAC selects -/

/-- Queue `q` of port `p` is closed, and `fs` wait at its head. -/
def State.Waits (p q : Nat) (fs : List QFrame) (s : State) : Prop := (s.queue p q).closed = true ∧ fs <+: (s.queue p q).frames

section
variable {p q : Nat} {fs : List QFrame} {s : State}

theorem State.modQueue_queue (p r : Nat) (f : NetQueue → NetQueue) (q : Nat) (s : State) :
    (s.modQueue p r f).queue p q = if q = r then f (s.queue p r) else s.queue p q := by simp [modQueue, queue]

theorem State.Waits.of_queue {t : State} (h : s.Waits p q fs) (same : t.queue p q = s.queue p q) : t.Waits p q fs := by
  unfold Waits at *
  rwa [same]

theorem State.Waits.of_net {t : State} (h : s.Waits p q fs) (same : t.net = s.net) : t.Waits p q fs :=
  h.of_queue (by rw [State.queue, State.eth, same, State.queue, State.eth])

theorem State.Waits.ite {c : Prop} {_ : Decidable c} {a b : State} (ha : a.Waits p q fs) (hb : b.Waits p q fs) :
    (if c then a else b).Waits p q fs := by
  split
  · exact ha
  · exact hb

theorem State.Waits.modEth {f : EthSt → EthSt} (h : s.Waits p q fs) (keeps : ∀ e, (f e).queues = e.queues) : (s.modEth p f).Waits p q fs :=
  h.of_queue (by simp [State.queue, keeps])

/-- Another queue's change leaves the closed one. -/
theorem State.Waits.modOther {r : Nat} {f : NetQueue → NetQueue} (h : s.Waits p q fs) (other : q ≠ r) : (s.modQueue p r f).Waits p q fs :=
  h.of_queue (by rw [modQueue_queue, if_neg other])

/-- A change that keeps a queue closed, and its frames at its head, keeps the closed one waiting. -/
theorem State.Waits.modQueue {r : Nat} {f : NetQueue → NetQueue} (h : s.Waits p q fs) (closed : ∀ x, (f x).closed = x.closed)
    (frames : ∀ x, x.frames <+: (f x).frames) : (s.modQueue p r f).Waits p q fs := by
  by_cases same : q = r
  · subst same
    rw [Waits, modQueue_queue, if_pos rfl, closed]
    exact ⟨h.1, h.2.trans (frames _)⟩
  · exact h.modOther same

theorem State.countUnits_net (e unit n : Nat) (s : State) : (s.countUnits e unit n).net = s.net := rfl

theorem State.bwAdd_net (n cls bytes : Nat) (s : State) : (s.bwAdd n cls bytes).net = s.net := ite_keeps State.net rfl rfl

theorem State.Waits.manage {what : String} {fields : List Nat} (h : s.Waits p q fs) : (s.manage p what fields).Waits p q fs :=
by
  have queued : ∀ f : QFrame, (s.enqueue p 3 f).Waits p q fs := fun f => by
    refine .ite (h.of_net rfl) (h.modQueue (f := fun x => { x with frames := x.frames ++ [f] }) (fun _ => rfl) fun _ => ?_)
    exact List.prefix_append ..
  exact .ite (queued _) h

/-- R357: a frame that leaves may ask for a new SAK, behind what waits. -/
theorem State.Waits.sentFrame {wire cls : Nat} {clear : Bool} (h : s.Waits p q fs) : (s.sentFrame p wire cls clear).Waits p q fs := by
  have counted : (((s.count (256 + 8 * p)).countUnits (256 + 8 * p + 1) 64 wire).bwAdd (10 + p) cls wire).Waits p q fs :=
    h.of_net ((State.bwAdd_net ..).trans (State.countUnits_net ..))
  unfold State.sentFrame
  refine .ite counted (.ite (.manage ?_) ?_)
  · exact counted.modEth fun _ => rfl
  · exact counted.modEth fun _ => rfl

/-- A frame that the MAC may send is not of a closed queue. -/
theorem State.Waits.other_of_eligible {r now l : Nat} (h : s.Waits p q fs) (may : (s.queue p r).eligible r now l = true) : q ≠ r := by
  rintro rfl
  rw [NetQueue.eligible_closed h.1] at may
  cases may

/-- R367: each queue looked at is passed over, waits at a kerf or sends: none of it touches a closed one's frames. -/
theorem selectFrame_waits {now : Nat} {limit : Option Nat} (qs : List Nat) (h : s.Waits p q fs) : (selectFrame p now limit qs s).Waits p q fs := by
  induction qs generalizing s with
  | nil => exact h
  | cons r qs ih =>
    unfold selectFrame
    dsimp only
    split
    · exact ih h
    · next f _ _ =>
      split
      · exact ih h
      · next may =>
        have other : q ≠ r := h.other_of_eligible (l := f.wire) (now := now) (by simp only [Bool.or_eq_true, not_or] at may; simpa using may.2)
        refine .ite ?sends (ih (.ite h ?kerf))
        case sends =>
          unfold sendFrame
          have sent := (h.modOther (f := fun x => x.sent r now f.wire) other).modEth
            (f := fun e => { e with busyUntil := now + ceilDiv (f.wire * grain * 1024) (s.lineRate p) }) fun _ => rfl
          refine .sentFrame (sent.of_net ?_)
          rfl
        case kerf =>
          have waited := (h.modOther (f := fun x => { x with frames := { f with waited := true } :: x.frames.drop 1 }) other).modEth
            (f := fun e => { e with kerfWaits := e.kerfWaits + 1 }) fun _ => rfl
          exact waited.of_net rfl

theorem State.Waits.untilPlan {t : Nat} (h : s.Waits p q fs) : (s.untilPlan t).Waits p q fs := h.of_queue (by rw [untilPlan_eq]; rfl)

/-- R365, R367: the MAC's choice leaves the frames of a closed queue at its head. -/
theorem execMacSelectFrame_waits {p : Fin 4} (h : s.Waits p q fs) : ∃ t, execMacSelectFrame p s = done t ∧ t.Waits p q fs := by
  unfold execMacSelectFrame
  split
  · exact ⟨_, rfl, h⟩
  · exact ⟨_, rfl, selectFrame_waits _ (List.foldlRecOn (motive := State.Waits p q fs) _ _ h.untilPlan
      fun _ waits _ _ => waits.modQueue (fun _ => rfl) fun _ => List.prefix_refl _)⟩

end

end Sys2Proof.Machine
end

section
/-! SUPPORT. The statement of the family of network ports about shaped queues, settled. -/

open Sys2Proof Sys2Proof.Machine

/-- Settles O48: each rate's branch is an equation of the queue; a closed queue is never eligible, and no frame but an eligible one leaves. -/
theorem rateChangesKeepTheDebt : Obligations.RateChangesKeepTheDebt := by
  refine ⟨fun x now rate burst => ?rates, fun _ _ _ _ closed => NetQueue.eligible_closed closed, fun p q s closed => ?waits⟩
  case rates =>
    obtain ⟨frames, rate', burst', closed'⟩ := NetQueue.setRate_common (x := x) (now := now) (rate := rate) (burst := burst)
    refine ⟨frames, rate', burst', closed', ?_, fun flows closed => ?_, fun flows opened ahead => ?_, fun flows opened past => ?_⟩
    · rintro rfl
      rw [NetQueue.setRate_closes]
    · rw [NetQueue.setRate_reopens flows closed]
    · rw [NetQueue.setRate_scales flows opened ahead]
    · rw [NetQueue.setRate_keeps flows opened past]
  case waits =>
    obtain ⟨t, ends, waits⟩ := execMacSelectFrame_waits (p := p) (fs := (s.queue p q).frames) (s := s) ⟨closed, List.prefix_refl _⟩
    obtain ⟨-, l, kept⟩ := waits.of_queue (t := t.driveErrn) (by simp [State.queue, State.eth])
    exact ⟨_, exec_macSelectFrame.trans ends, l, kept.symm⟩

end

section
/-! SUPPORT. Tables that list an entry twice. What reads a table finds the first entry of a key; what goes through a whole table finds the second too:
the safe state's stop of the channels (R453) leaves the last of a channel standing, and the offers of a round (R424) go by each entry listed. No table
that the model's own operations build from reset lists a key twice; the statements that these refute speak of every state. -/

namespace Sys2Proof.Machine

/-- A command completes, in a state with a property. -/
def completesWith (p : State → Bool) : Host.Outcome State Fault Refusal → Bool
  | .next t => p t
  | _ => false

theorem completesWith_next {p : State → Bool} {o : Host.Outcome State Fault Refusal} {t : State} (holds : completesWith p o = true) (h : o = .next t) :
    p t = true := by
  subst h
  exact holds

/-- Firmware runs with the host link up and no Bus Master Enable. Channel 0, which FLT_SET_SOURCE has at class 4, waits for a descriptor of host memory
that it cannot read, and is listed again behind that, disabled. -/
def channelListedTwice : State :=
  { boot := { phase := .running }, host := { inReset := false, linkUp := true },
    dma := { ch := [(0, { enable := true, host := true, prod := 1 }), (0, {})] },
    fltMram := { cfg := [(95, { minClass := 4 })] } }

/-- R386, R453: the unreadable descriptor makes the device safe, and channel 0 then reads as its second entry. -/
theorem dmaChCfgWrite_channelListedTwice :
    completesWith (fun t => t.flt.safe && !(t.ch 0).enable) (exec (.dmaChCfgWrite 0 0 1 []) channelListedTwice) = true := by
  decide +kernel

/-- Firmware runs, and ring 0 of the physical function takes deliveries. Source 1 is active for that function and not pending, and is listed again behind
that, enabled, latched and active for none. -/
def sourceListedTwice : State :=
  { boot := { phase := .running },
    host := { inReset := false, linkUp := true, fns := [(0, { bme := true })], rings := [(0, { enable := true, types := 1 })] },
    intc := { src := [(1, { host := { active := 5, targets := 1 } }), (1, { host := { enable := true, latch := true } })] } }

/-- R424, R427: the round that completes source 1 offers it by its second entry, and it is active again. -/
theorem intcHostEoi_sourceListedTwice :
    completesWith (fun t => (t.intSrc 1).host.active == 5) (exec (.intcHostEoi 0 1) sourceListedTwice) = true := by
  decide +kernel

end Sys2Proof.Machine
end

section
/-! SUPPORT. The statements on the DMA engine and the interrupt rounds, settled. -/

open Sys2Proof Sys2Proof.Machine

/-- Refutes O49: where the table of channels lists one twice, a CFG write that enables it leaves it disabled. -/
theorem not_dmaChannelsMoveAndComplete : ¬ Obligations.DmaChannelsMoveAndComplete := by
  intro h
  obtain ⟨byFunction, -, -⟩ := h channelListedTwice
  obtain ⟨byChannel, -, -⟩ := byFunction 0 (by decide)
  obtain ⟨-, cfgWrite, -, -⟩ := byChannel 0 [] (by decide)
  obtain ⟨t, ht, enabled, -⟩ := cfgWrite 1
  have disabled := completesWith_next dmaChCfgWrite_channelListedTwice ht
  simp [show (t.ch 0).enable = true from enabled] at disabled

/-- Refutes O52: where the table of sources lists one twice, a function's completion of it leaves it active. -/
theorem not_interruptRoundsAndAccesses : ¬ Obligations.InterruptRoundsAndAccesses := by
  intro h
  obtain ⟨rounds, -⟩ := h
  obtain ⟨-, -, -, byFunction⟩ := rounds sourceListedTwice
  obtain ⟨eoi, -, -⟩ := byFunction 0 (by decide)
  obtain ⟨t, ht, inactive, -, -⟩ := eoi 1 1 (by decide) rfl rfl rfl rfl
  have active := completesWith_next intcHostEoi_sourceListedTwice ht
  simp [inactive] at active

end

section
/-! SUPPORT. A fault's report leaves aside, of the Ethernet ports, all but frames and neighbours, and of the DMA block all but channels and frame
rings: neither event records, nor what goes out to peers, nor the choice of variants, nor the collector's reactions touch the rest of either. What the
collector does not do itself leaves the collector's own registers as they are. -/

namespace Sys2Proof.Machine

/-- An Ethernet port but for its frames and its neighbours. -/
def EthSt.steady (e : EthSt) : EthSt := { e with queues := [], neighbours := [], unresolved := [] }

/-- What a fault's report leaves aside of the Ethernet ports and of the DMA block. -/
structure Aside where
  /-- R371: the ports, but for frames and neighbours. -/
  eth : Nat → EthSt
  /-- The DMA block, but for channels and frame rings. -/
  dma : DmaSt

/-- What a fault's report leaves aside. -/
def State.aside (s : State) : Aside :=
  ⟨fun p => (s.eth p).steady, { s.dma with ch := [], ing := [] }⟩

/-- What all but the collector's own steps leave: the ports and the DMA block but for the above, and the collector. -/
def State.unheard (s : State) : Aside × FltSt × FltMram := (s.aside, s.flt, s.fltMram)

theorem State.aside_of_unheard {s t : State} (h : t.unheard = s.unheard) : t.aside = s.aside := congrArg Prod.fst h
theorem State.flt_of_unheard {s t : State} (h : t.unheard = s.unheard) : t.flt = s.flt := congrArg (·.2.1) h
theorem State.fltMram_of_unheard {s t : State} (h : t.unheard = s.unheard) : t.fltMram = s.fltMram := congrArg (·.2.2) h

section
variable {s t : State}

theorem State.modEth_unheard {p : Nat} {f : EthSt → EthSt} (h : ∀ e, (f e).steady = e.steady) : (s.modEth p f).unheard = s.unheard := by
  have ports : (fun j => ((s.modEth p f).eth j).steady) = fun j => (s.eth j).steady := by
    funext j
    rw [modEth_eth]
    split
    · next same => rw [h, same]
    · rfl
  exact congrArg (fun e => (Aside.mk e { s.dma with ch := [], ing := [] }, s.flt, s.fltMram)) ports

theorem State.modQueue_unheard {p q : Nat} {f : NetQueue → NetQueue} : (s.modQueue p q f).unheard = s.unheard := modEth_unheard fun _ => rfl

theorem State.pend_unheard {x : Nat} : (s.pend x).unheard = s.unheard := by
  rw [pend_eq]
  rfl

theorem State.countN_unheard {c n : Nat} : (s.countN c n).unheard = s.unheard := rfl

/-! ### Frames and event records -/

theorem State.enqueue_unheard {p q : Nat} {f : QFrame} : (s.enqueue p q f).unheard = s.unheard := ite_keeps State.unheard rfl modQueue_unheard

theorem State.manage_unheard {p : Nat} {what : String} {fields : List Nat} : (s.manage p what fields).unheard = s.unheard :=
  ite_keeps State.unheard enqueue_unheard rfl

theorem State.keepNeighbour_unheard {p addr : Nat} {n : Neighbour} : (s.keepNeighbour p addr n).unheard = s.unheard := by
  unfold keepNeighbour
  dsimp only
  split
  · exact modEth_unheard fun _ => rfl
  · exact countN_unheard.trans (modEth_unheard fun _ => rfl)

theorem State.sendIp_unheard {p q addr : Nat} {f : QFrame} : (s.sendIp p q addr f).unheard = s.unheard := by
  have waits : ∀ x, (s.modEth p fun e => { e with unresolved := e.unresolved ++ x }).unheard = s.unheard := fun _ => modEth_unheard fun _ => rfl
  refine ite_keeps State.unheard rfl (ite_keeps State.unheard enqueue_unheard (ite_keeps State.unheard (waits _) ?_))
  exact (manage_unheard.trans keepNeighbour_unheard).trans (waits _)

theorem State.signal_unheard {f n : Nat} : (s.signal f n).unheard = s.unheard := ite_keeps State.unheard rfl rfl

theorem State.putRecord_unheard {f n t : Nat} {subject : Half} {payload : List Byte} :
    (s.putRecord f n t subject payload).unheard = s.unheard := by
  unfold putRecord signalIfDue
  exact ite_keeps State.unheard (signal_unheard.trans rfl) rfl

theorem State.ringRecord_unheard {f t : Nat} {subject : Half} {payload : List Byte} : (s.ringRecord f t subject payload).unheard = s.unheard := by
  unfold ringRecord
  split
  · rfl
  · exact ite_keeps State.unheard (ite_keeps State.unheard rfl rfl) putRecord_unheard

theorem State.udpRecord_unheard {k t : Nat} {subject : Half} {payload : List Byte} : (s.udpRecord k t subject payload).unheard = s.unheard :=
  ite_keeps State.unheard (ite_keeps State.unheard rfl (sendIp_unheard.trans rfl)) rfl

theorem State.payStale_unheard {f : Nat} : (s.payStale f).unheard = s.unheard := ite_keeps State.unheard (ringRecord_unheard (t := 0x0A)) rfl

theorem State.payOwed_unheard : s.payOwed.unheard = s.unheard := by
  have surprise : ∀ c : Prop, ∀ _ : Decidable c, ∀ subject payload, ∀ f : HostSt → HostSt,
      (if c then s else (s.ringRecord 0 0x0A subject payload).modHost f).unheard = s.unheard :=
    fun _ _ _ _ _ => ite_keeps State.unheard rfl (ringRecord_unheard (t := 0x0A))
  refine ite_keeps State.unheard rfl (ite_keeps State.unheard ?_ (surprise ..))
  exact (ringRecord_unheard (t := 0x0A)).trans (surprise ..)

theorem State.record_unheard {f t : Nat} {subject : Half} {payload : List Byte} : (s.record f t subject payload).unheard = s.unheard := by
  have sessions := foldl_keeps State.unheard
    (f := fun (u : State) k => if (tabGet u.host.udp k).role == f then u.udpRecord k t subject payload else u)
    fun _ _ => ite_keeps State.unheard udpRecord_unheard rfl
  refine (sessions ..).trans (ite_keeps State.unheard (ite_keeps State.unheard rfl rfl) (ite_keeps State.unheard rfl ?_))
  exact ringRecord_unheard.trans (payStale_unheard.trans (ite_keeps State.unheard payOwed_unheard rfl))

theorem State.recordTo_unheard {p : Nat → Bool} {t : Nat} {subject : Half} {payload : List Byte} :
    (s.recordTo p t subject payload).unheard = s.unheard := foldl_keeps State.unheard (fun _ _ => record_unheard) ..

/-! ### Sending to peers -/

theorem State.adtSend_unheard {k : Nat} {kind : String} {body : Nat} {fields : List Nat} : (s.adtSend k kind body fields).unheard = s.unheard := by
  unfold adtSend adtSendBy
  exact (foldl_keeps State.unheard (fun _ _ => ite_keeps State.unheard sendIp_unheard rfl) ..).trans rfl

theorem State.peerState_unheard {k state reason : Nat} : (s.peerState k state reason).unheard = s.unheard := by
  unfold peerState
  exact pend_unheard.trans (recordTo_unheard.trans rfl)

theorem State.sendBlank_unheard {k : Nat} {b : Blank} : (s.sendBlank k b).unheard = s.unheard := by
  refine ite_then State.unheard ((foldl_keeps State.unheard (fun t i => ?_) ..)) peerState_unheard
  exact adtSend_unheard

/-! ### Variants, units and the safe state -/

theorem chooseVariants_unheard : (chooseVariants s).unheard = s.unheard := by
  have sansSeq := chooseVariants_sansSeq s
  rw [paceEdge_eq] at sansSeq
  exact (congrArg State.unheard sansSeq :)

/-- A frame ring may change: a fault's report may stop its decoder. -/
theorem State.modIng_unheard {x : Nat} {f : IngSt → IngSt} : (s.modIng x f).unheard = s.unheard := rfl

theorem stopDecoder_unheard {d : Nat} : (stopDecoder d s).unheard = s.unheard := by
  refine ite_keeps State.unheard rfl (foldl_keeps State.unheard (fun t e => ?_) ..)
  exact ite_then State.unheard State.modIng_unheard State.adtSend_unheard

theorem unitReaction_unheard {x : Nat} : (unitReaction x s).unheard = s.unheard :=
  ite_keeps State.unheard rfl (ite_keeps State.unheard stopDecoder_unheard (ite_keeps State.unheard rfl rfl))

theorem safeReaction_unheard : (safeReaction s).unheard = s.unheard := by
  unfold safeReaction
  exact Eq.trans rfl (foldl_keeps State.unheard (fun _ _ => State.sendBlank_unheard) ..)

end

end Sys2Proof.Machine
end

section
/-! SUPPORT. The fault collector by its parts (R439–R451). A record writes the log and its own number; a reaction writes the sources' bits, the fences,
the safe state and the pulse. Neither touches what the other writes, and so an occurrence's result is read part by part. -/

namespace Sys2Proof.Machine

/-- The collector's registers but for what an occurrence's reaction writes. -/
def FltSt.sansBits (c : FltSt) : FltSt := { c with src := [], fence := [], order := [], safe := false, pulseEnd := 0, lastWatchdog := 0 }

/-- The collector's registers but for what an occurrence's record writes. -/
def FltSt.sansLog (c : FltSt) : FltSt := { c with first := none, next := none, ring := [], write := 0, overflow := 0 }

/-- A source but for its unit's quiet period and its count toward escalation. -/
def FltSrc.bits (c : FltSrc) : FltSrc := { c with quietEnd := 0, quietClass := 0, quietK := 0, count := 0, windowStart := 0 }

/-- R439, R443: a source as an occurrence of it leaves it. -/
def FltSrc.taken (o : Occ) (time : Long) (c : FltSrc) : FltSrc :=
  { c with asserted := if o.broken then c.asserted else true, broken := o.broken, cause := true, lastClass := BitVec.ofNat 3 o.cls,
           lastDetail := o.detail, lastTime := time, own := if o.forced then c.own else some (o.detail, o.broken) }

/-- R446: a fence bit lies in its word. -/
theorem fenceBit_lt {x k b : Nat} (h : fenceBit x = some (k, b)) : b < 32 := by
  have listed : ∀ y < 135, ∀ p ∈ fenceBit y, p.2 < 32 := by decide
  by_cases low : x < 135
  · exact listed x low (k, b) h
  · have none_ : fenceBit x = none := by
      unfold fenceBit
      repeat rw [if_neg (by omega)]
    rw [none_] at h
    cases h

/-- R437: the sources of one unit have one fence. -/
theorem fenceBit_unitRep (x : Nat) : fenceBit (unitRep x) = fenceBit x := by
  have shared : ∀ y, 71 ≤ y → y < 95 → fenceBit y = fenceBit 71 := by decide
  unfold unitRep
  split
  · next one => exact (shared x one.1 (by omega)).symm
  · rfl

/-- What every reaction leaves. -/
def State.logPart (s : State) : Aside × FltSt × FltMram := (s.aside, s.flt.sansBits, s.fltMram)

/-- What every record leaves. -/
def State.bitsPart (s : State) : Aside × FltSt × FltMram := (s.aside, s.flt.sansLog, { s.fltMram with logSeq := 0 })

/-- The sources, but for quiet periods and escalation. -/
def State.srcBits (s : State) : Nat → FltSrc := fun j => (s.fltSrc j).bits

/-- The sources as an occurrence leaves them. -/
def State.srcTaken (s : State) (o : Occ) : Nat → FltSrc :=
  fun j => if j = o.source then ((s.fltSrc j).taken o s.planTime).bits else (s.fltSrc j).bits

section
variable {s t : State} {o : Occ}

theorem State.logPart_of_unheard (h : t.unheard = s.unheard) : t.logPart = s.logPart :=
  congrArg (fun v : Aside × FltSt × FltMram => (v.1, v.2.1.sansBits, v.2.2)) h

theorem State.bitsPart_of_unheard (h : t.unheard = s.unheard) : t.bitsPart = s.bitsPart :=
  congrArg (fun v : Aside × FltSt × FltMram => (v.1, v.2.1.sansLog, { v.2.2 with logSeq := 0 })) h

theorem State.srcBits_of_flt (h : t.flt = s.flt) : t.srcBits = s.srcBits := by
  funext j
  simp only [srcBits, State.fltSrc, h]

theorem State.fltSrc_of_bitsPart (h : t.bitsPart = s.bitsPart) : t.fltSrc = s.fltSrc :=
  congrArg (fun v : Aside × FltSt × FltMram => tabGet v.2.1.src) h

theorem State.fenced_of_fence (h : t.flt.fence = s.flt.fence) (x : Nat) : t.fenced x = s.fenced x := by
  simp only [fenced, State.fenceWord, h]

/-! ### Reactions -/

theorem State.putFence_logPart {x : Nat} {v : Bool} : (s.putFence x v).logPart = s.logPart := by
  unfold putFence
  split
  · rfl
  · rfl

theorem State.putFence_srcBits {x : Nat} {v : Bool} : (s.putFence x v).srcBits = s.srcBits := by
  unfold putFence
  split
  · rfl
  · rfl

/-- R446: a fence that is put is that fence. -/
theorem State.putFence_fenced {x : Nat} {v : Bool} (has : (fenceBit x).isSome = true) : (s.putFence x v).fenced x = v := by
  obtain ⟨⟨k, b⟩, bit⟩ := Option.isSome_iff_exists.mp has
  have low : b < 32 := fenceBit_lt bit
  simp [putFence, State.fenced, State.fenceWord, bit, State.modFlt, tabGet_mod, putBit_getLsbD _ _ _ low]

theorem enterSafe_logPart : (enterSafe s).logPart = s.logPart :=
  ite_keeps State.logPart rfl ((State.logPart_of_unheard safeReaction_unheard).trans rfl)

theorem enterSafe_srcBits : (enterSafe s).srcBits = s.srcBits :=
  ite_keeps State.srcBits rfl ((State.srcBits_of_flt (State.flt_of_unheard safeReaction_unheard)).trans rfl)

theorem enterSafe_fence : (enterSafe s).flt.fence = s.flt.fence :=
  ite_keeps (fun u : State => u.flt.fence) rfl (congrArg FltSt.fence (State.flt_of_unheard safeReaction_unheard) :)

theorem enterSafe_safe : (enterSafe s).flt.safe = true := by
  unfold enterSafe
  split
  · assumption
  · exact congrArg FltSt.safe (State.flt_of_unheard safeReaction_unheard)

theorem State.modFltSrc_srcBits {x : Nat} {f : FltSrc → FltSrc} (h : ∀ c, (f c).bits = c.bits) : (s.modFltSrc x f).srcBits = s.srcBits := by
  funext j
  rw [srcBits, srcBits, modFltSrc_fltSrc]
  split
  · next same => rw [h, same]
  · rfl

/-- The choice of variants and the unit's own reaction leave the collector. -/
theorem unitVariants_unheard {x : Nat} : (chooseVariants (unitReaction x s)).unheard = s.unheard := chooseVariants_unheard.trans unitReaction_unheard

theorem fltFence_logPart : (fltFence o s).logPart = s.logPart := by
  unfold fltFence
  refine ite_keeps State.logPart (ite_keeps State.logPart rfl ?_) (ite_keeps State.logPart rfl rfl)
  exact (State.logPart_of_unheard unitVariants_unheard).trans (ite_keeps State.logPart State.putFence_logPart State.putFence_logPart)

theorem fltFence_srcBits : (fltFence o s).srcBits = s.srcBits := by
  have quiet : ∀ x (f : FltSrc → FltSrc), (∀ c, (f c).bits = c.bits) → ∀ u : State, (u.modFltSrc x f).srcBits = u.srcBits :=
    fun _ _ h _ => State.modFltSrc_srcBits h
  have ended := quiet (unitRep o.source) (fun c => { c with quietEnd := 0 }) (fun _ => rfl) s
  have classed := (quiet (unitRep o.source) (fun c => { c with quietClass := max c.quietClass o.cls }) (fun _ => rfl) _).trans ended
  unfold fltFence
  refine ite_keeps State.srcBits (ite_keeps State.srcBits classed ?_) (ite_keeps State.srcBits classed ended)
  refine (State.srcBits_of_flt (State.flt_of_unheard unitVariants_unheard)).trans ?_
  exact ite_keeps State.srcBits (State.putFence_srcBits.trans classed) (State.putFence_srcBits.trans classed)

/-- R446, R448: an occurrence from class 2 on leaves its unit fenced. -/
theorem fltFence_fenced (severe : 2 ≤ o.cls) (has : (fenceBit o.source).isSome = true) : (fltFence o s).fenced o.source = true := by
  unfold fltFence
  dsimp only
  rw [if_pos ⟨severe, has⟩]
  split
  · assumption
  · refine (State.fenced_of_fence (congrArg FltSt.fence (State.flt_of_unheard unitVariants_unheard)) _).trans ?_
    exact ite_keeps (fun u : State => u.fenced o.source) (State.putFence_fenced has) (State.putFence_fenced has)

/-- R439, R451, R461: a reaction before its fence: the bits, the counts, the interrupt and the pulse. -/
def reactBits (o : Occ) (s : State) : State :=
  let s := s.modFltSrc o.source (FltSrc.taken o s.planTime)
  let s := ((s.count 422).count (423 + o.cls)).pend (463 + o.cls)
  let s := if o.escalated then s.count 428 else s
  let s := if o.broken then s.count 433 else s
  let s := if o.forced then s.count 436 else s
  let s := if s.fltMram.pulseClass.toNat ≤ o.cls then
    s.modFlt fun c => { c with pulseEnd := s.now + usNs s.fltMram.pulseUs.toNat + 1 } else s
  let s := if 3 ≤ o.cls then s.modBoot fun b => { b with severeSince := true } else s
  if o.source = 186 then s.modFlt fun c => { c with lastWatchdog := s.now + 1 } else s

theorem fltReact_eq : fltReact o s = if o.cls = 4 then enterSafe (fltFence o (reactBits o s)) else fltFence o (reactBits o s) := rfl

theorem reactBits_logPart : (reactBits o s).logPart = s.logPart := by
  refine ite_then State.logPart (ite_then State.logPart (ite_then State.logPart (ite_then State.logPart (ite_then State.logPart
    (ite_then State.logPart ?_ rfl) rfl) rfl) rfl) rfl) rfl
  exact (State.logPart_of_unheard State.pend_unheard).trans rfl

theorem State.modFltSrc_taken : (s.modFltSrc o.source (FltSrc.taken o s.planTime)).srcBits = s.srcTaken o := by
  funext j
  rw [srcBits, srcTaken, modFltSrc_fltSrc]
  split
  · next same => rw [same]
  · rfl

theorem reactBits_srcBits : (reactBits o s).srcBits = s.srcTaken o := by
  refine ite_then State.srcBits (ite_then State.srcBits (ite_then State.srcBits (ite_then State.srcBits (ite_then State.srcBits
    (ite_then State.srcBits ?_ rfl) rfl) rfl) rfl) rfl) rfl
  exact (State.srcBits_of_flt (State.flt_of_unheard State.pend_unheard)).trans State.modFltSrc_taken

theorem fltReact_logPart : (fltReact o s).logPart = s.logPart := by
  rw [fltReact_eq]
  exact ite_then State.logPart (fltFence_logPart.trans reactBits_logPart) enterSafe_logPart

theorem fltReact_srcBits : (fltReact o s).srcBits = s.srcTaken o := by
  rw [fltReact_eq]
  exact ite_then State.srcBits (fltFence_srcBits.trans reactBits_srcBits) enterSafe_srcBits

theorem fltReact_fenced (severe : 2 ≤ o.cls) (has : (fenceBit o.source).isSome = true) : (fltReact o s).fenced o.source = true := by
  rw [fltReact_eq]
  exact ite_then (fun u : State => u.fenced o.source) (fltFence_fenced severe has) (State.fenced_of_fence enterSafe_fence _)

theorem fltReact_safe (most : o.cls = 4) : (fltReact o s).flt.safe = true := by
  rw [fltReact_eq, if_pos most]
  exact enterSafe_safe

/-! ### Records -/

theorem fltEventRecord_unheard {r : FltRec} : (fltEventRecord r s).unheard = s.unheard := State.recordTo_unheard

/-- R442 step 4: the record that an occurrence makes. -/
def State.fltMade (s : State) (o : Occ) : FltRec :=
  s.fltRecord o s.flt.first.isNone (!s.flt.first.isNone && s.flt.next.isNone) (if decide (s.flt.ring.length < 64) then s.fltMram.logSeq else 0)

/-- R442 step 4: the first-fault and next-fault records, loaded. -/
def fltLoad (o : Occ) (s : State) : State :=
  if s.flt.first.isNone then (s.modFlt fun c => { c with first := some (s.fltMade o) }).pend 468
  else if !s.flt.first.isNone && s.flt.next.isNone then s.modFlt fun c => { c with next := some (s.fltMade o) } else s

theorem fltStore_eq : fltStore o s = if decide (s.flt.ring.length < 64) = true then
    fltEventRecord (s.fltMade o) (((fltLoad o s).modFlt fun c => { c with ring := c.ring ++ [s.fltMade o], write := c.write + 1 }).modFltMram fun c =>
      { c with logSeq := c.logSeq + 1 })
  else (((fltLoad o s).modFlt fun c => { c with overflow := satInc c.overflow }).count 432).pend 470 := rfl

theorem fltLoad_bitsPart : (fltLoad o s).bitsPart = s.bitsPart :=
  ite_keeps State.bitsPart ((State.bitsPart_of_unheard State.pend_unheard).trans rfl) (ite_keeps State.bitsPart rfl rfl)

theorem fltStore_bitsPart : (fltStore o s).bitsPart = s.bitsPart := by
  rw [fltStore_eq]
  refine ite_keeps State.bitsPart ((State.bitsPart_of_unheard fltEventRecord_unheard).trans ?_)
    ((State.bitsPart_of_unheard State.pend_unheard).trans ?_) <;> exact fltLoad_bitsPart

theorem fltMove_bitsPart : (fltMove s).bitsPart = s.bitsPart := by
  unfold fltMove
  split
  · exact (State.bitsPart_of_unheard State.pend_unheard).trans rfl
  · rfl

/-- What a record with room leaves of the log: it is the ring's last entry under the next log number, and loads an empty first-fault record. -/
def Logged (o : Occ) (s t : State) : Prop :=
  ∃ r : FltRec, t.flt.ring = s.flt.ring ++ [r] ∧ r.source = o.source ∧ r.cls = o.cls ∧ r.detail = o.detail ∧ r.logSeq = s.fltMram.logSeq ∧
    t.fltMram.logSeq = s.fltMram.logSeq + 1 ∧ (s.flt.first = none → s.flt.next = none → t.flt.first = some r)

theorem State.log_of_logPart (h : t.logPart = s.logPart) :
    t.flt.ring = s.flt.ring ∧ t.flt.first = s.flt.first ∧ t.flt.next = s.flt.next ∧ t.fltMram.logSeq = s.fltMram.logSeq :=
  ⟨congrArg (fun v : Aside × FltSt × FltMram => v.2.1.ring) h, congrArg (fun v : Aside × FltSt × FltMram => v.2.1.first) h,
    congrArg (fun v : Aside × FltSt × FltMram => v.2.1.next) h, congrArg (fun v : Aside × FltSt × FltMram => v.2.2.logSeq) h⟩

theorem Logged.of_logPart {s' t' : State} (h : Logged o s t) (hs : s.logPart = s'.logPart) (ht : t'.logPart = t.logPart) : Logged o s' t' := by
  obtain ⟨ring, first, next, logSeq⟩ := State.log_of_logPart hs
  obtain ⟨ring', first', -, logSeq'⟩ := State.log_of_logPart ht
  rwa [Logged, ring', first', logSeq', ← ring, ← first, ← next, ← logSeq]

theorem fltLoad_log : (fltLoad o s).flt.ring = s.flt.ring ∧ (fltLoad o s).fltMram = s.fltMram ∧
    (s.flt.first = none → (fltLoad o s).flt.first = some (s.fltMade o)) := by
  unfold fltLoad
  split
  · rw [State.pend_eq]
    exact ⟨rfl, rfl, fun _ => rfl⟩
  · next full =>
    refine ⟨ite_keeps (fun u : State => u.flt.ring) rfl rfl, ite_keeps State.fltMram rfl rfl, fun empty => ?_⟩
    rw [empty] at full
    exact absurd rfl full

/-- R442 step 5: with room the record is the ring's last entry. -/
theorem fltStore_logged (room : s.flt.ring.length < 64) : Logged o s (fltStore o s) := by
  obtain ⟨ring, mram, first⟩ := fltLoad_log (s := s) (o := o)
  rw [fltStore_eq, if_pos (decide_eq_true room)]
  refine ⟨s.fltMade o, ?_, rfl, rfl, rfl, ?_, ?_, fun empty _ => ?_⟩
  · refine (congrArg FltSt.ring (State.flt_of_unheard fltEventRecord_unheard)).trans ?_
    exact congrArg (· ++ [s.fltMade o]) ring
  · simp [State.fltMade, State.fltRecord, room]
  · refine (congrArg FltMram.logSeq (State.fltMram_of_unheard fltEventRecord_unheard)).trans ?_
    exact congrArg (fun m : FltMram => m.logSeq + 1) mram
  · exact (congrArg FltSt.first (State.flt_of_unheard fltEventRecord_unheard)).trans (first empty)

theorem fltMove_log : (fltMove s).flt.ring = s.flt.ring ∧ (fltMove s).fltMram = s.fltMram ∧
    (s.flt.first = none → s.flt.next = none → (fltMove s).flt.first = none ∧ (fltMove s).flt.next = none) := by
  unfold fltMove
  split
  · next next =>
    rw [State.pend_eq]
    exact ⟨rfl, rfl, fun _ empty => by cases next.symm.trans empty⟩
  · exact ⟨rfl, rfl, fun first next => ⟨first, next⟩⟩

theorem Logged.of_move (h : Logged o (fltMove s) t) : Logged o s t := by
  obtain ⟨ring, mram, still⟩ := fltMove_log (s := s)
  obtain ⟨r, entered, source, cls, detail, logSeq, counted, first⟩ := h
  rw [ring] at entered
  rw [mram] at logSeq counted
  exact ⟨r, entered, source, cls, detail, logSeq, counted, fun a b => first (still a b).1 (still a b).2⟩

end

end Sys2Proof.Machine
end

section
/-! SUPPORT. One occurrence, and one collector cycle, by what they leave (R435–R442). -/

namespace Sys2Proof.Machine

/-- What no occurrence touches: the ports, the DMA block and the collector's other registers. -/
def State.untaken (s : State) : Aside × FltSt × FltMram := (s.aside, s.flt.sansBits.sansLog, { s.fltMram with logSeq := 0 })

section
variable {s t : State} {o : Occ}

theorem State.untaken_of_logPart (h : t.logPart = s.logPart) : t.untaken = s.untaken :=
  congrArg (fun v : Aside × FltSt × FltMram => (v.1, v.2.1.sansLog, { v.2.2 with logSeq := 0 })) h

theorem State.untaken_of_bitsPart (h : t.bitsPart = s.bitsPart) : t.untaken = s.untaken :=
  congrArg (fun v : Aside × FltSt × FltMram => (v.1, v.2.1.sansBits, v.2.2)) h

/-- R460, R475: an occurrence is counted for its source and for the snapshots. -/
def occCounted (o : Occ) (s : State) : State := snapFault o.cls (s.modFltSrc o.source fun c => { c with occ := satInc c.occ })

theorem fltTake_eq : fltTake o s = if 175 ≤ o.source ∧ o.source ≤ 182 then fltStore o (fltReact o (occCounted o s)) else
    fltReact o (fltStore o (occCounted o s)) := rfl

theorem occCounted_logPart : (occCounted o s).logPart = s.logPart := ite_keeps State.logPart rfl rfl

theorem occCounted_flt : (occCounted o s).flt = (s.modFltSrc o.source fun c => { c with occ := satInc c.occ }).flt := ite_keeps State.flt rfl rfl

theorem occCounted_lasting : (occCounted o s).lasting = s.lasting := State.lasting_ite rfl rfl

/-- The sources as an occurrence of one leaves them, its count included. -/
def State.srcAfter (s : State) (o : Occ) : Nat → FltSrc :=
  fun j => if j = o.source then { (s.fltSrc j).taken o s.planTime with occ := satInc (s.fltSrc j).occ }.bits else (s.fltSrc j).bits

theorem State.planTime_of_lasting (h : t.lasting = s.lasting) : t.planTime = s.planTime := by
  have clk : t.clk = s.clk := (congrArg State.clk h :)
  rw [planTime, planTime, clk]

theorem State.srcTaken_of (src : t.srcBits = s.srcBits) (time : t.planTime = s.planTime) : t.srcTaken o = s.srcTaken o := by
  funext j
  have same : (t.fltSrc j).bits = (s.fltSrc j).bits := congrFun src j
  have taken : ((t.fltSrc j).taken o s.planTime).bits = ((s.fltSrc j).taken o s.planTime).bits :=
    congrArg (fun c : FltSrc => (c.taken o s.planTime)) same
  rw [srcTaken, srcTaken, time, same, taken]

theorem occCounted_srcTaken : (occCounted o s).srcTaken o = s.srcAfter o := by
  have src : (occCounted o s).fltSrc = (s.modFltSrc o.source fun c => { c with occ := satInc c.occ }).fltSrc :=
    congrArg (fun c : FltSt => tabGet c.src) occCounted_flt
  funext j
  rw [State.srcTaken, State.srcAfter, src, State.modFltSrc_fltSrc, State.planTime_of_lasting occCounted_lasting]
  split
  · next same =>
    subst same
    rfl
  · rfl

theorem fltTake_untaken : (fltTake o s).untaken = s.untaken := by
  have counted := State.untaken_of_logPart (occCounted_logPart (s := s) (o := o))
  rw [fltTake_eq]
  refine ite_keeps State.untaken ?_ ?_
  · exact (State.untaken_of_bitsPart fltStore_bitsPart).trans ((State.untaken_of_logPart fltReact_logPart).trans counted)
  · exact (State.untaken_of_logPart fltReact_logPart).trans ((State.untaken_of_bitsPart fltStore_bitsPart).trans counted)

theorem State.srcBits_of_bitsPart (h : t.bitsPart = s.bitsPart) : t.srcBits = s.srcBits := by
  funext j
  rw [srcBits, srcBits, fltSrc_of_bitsPart h]

/-- R439, R443, R460: an occurrence sets its source's bits and counts it; every other source stays. -/
theorem fltTake_srcBits : (fltTake o s).srcBits = s.srcAfter o := by
  rw [fltTake_eq]
  refine ite_keeps State.srcBits ?_ ?_
  · exact (State.srcBits_of_bitsPart fltStore_bitsPart).trans (fltReact_srcBits.trans occCounted_srcTaken)
  · refine fltReact_srcBits.trans ((State.srcTaken_of (State.srcBits_of_bitsPart fltStore_bitsPart) ?_).trans occCounted_srcTaken)
    exact State.planTime_of_lasting (fltStore_lasting ..)

theorem fltTake_fenced (severe : 2 ≤ o.cls) (has : (fenceBit o.source).isSome = true) : (fltTake o s).fenced o.source = true := by
  rw [fltTake_eq]
  refine ite_keeps (fun u : State => u.fenced o.source) ?_ (fltReact_fenced severe has)
  exact (State.fenced_of_fence (congrArg (fun v : Aside × FltSt × FltMram => v.2.1.fence) fltStore_bitsPart :) _).trans (fltReact_fenced severe has)

theorem fltTake_safe (most : o.cls = 4) : (fltTake o s).flt.safe = true := by
  rw [fltTake_eq]
  refine ite_keeps (fun u : State => u.flt.safe) ?_ (fltReact_safe most)
  exact (congrArg (fun v : Aside × FltSt × FltMram => v.2.1.safe) fltStore_bitsPart).trans (fltReact_safe most)

theorem fltTake_logged (room : s.flt.ring.length < 64) : Logged o s (fltTake o s) := by
  have counted := occCounted_logPart (s := s) (o := o)
  have reacted := (fltReact_logPart (o := o) (s := occCounted o s)).trans counted
  rw [fltTake_eq]
  split
  · exact (fltStore_logged (by rwa [(State.log_of_logPart reacted).1])).of_logPart reacted rfl
  · exact (fltStore_logged (by rwa [(State.log_of_logPart counted).1])).of_logPart counted fltReact_logPart

/-! ### The cycle -/

theorem escalate_bits {now : Nat} {cfg : FltCfg} {cls : Nat} {c : FltSrc} : (escalate now cfg cls c).1.bits = c.bits := by
  have windowed : ∀ p : Prop, ∀ _ : Decidable p, (if p then { c with count := 0, windowStart := now } else c).bits = c.bits :=
    fun _ _ => ite_keeps FltSrc.bits rfl rfl
  exact ite_keeps (fun r : FltSrc × Nat × Bool => r.1.bits) rfl (ite_keeps (fun r : FltSrc × Nat × Bool => r.1.bits) (windowed ..) (windowed ..))

variable {x : Nat} {d : Word} {broken forced : Bool} {given : Option Nat}

theorem State.classify_logPart : (s.classify x d broken forced given).2.logPart = s.logPart := rfl

theorem State.classify_srcBits : (s.classify x d broken forced given).2.srcBits = s.srcBits := by
  funext j
  rw [srcBits, srcBits, classify, modFltSrc_fltSrc]
  split
  · next same =>
    subst same
    exact escalate_bits
  · rfl

theorem State.srcAfter_of (src : t.srcBits = s.srcBits) (time : t.planTime = s.planTime) : t.srcAfter o = s.srcAfter o := by
  funext j
  have same : (t.fltSrc j).bits = (s.fltSrc j).bits := congrFun src j
  have after : { (t.fltSrc j).taken o s.planTime with occ := satInc (t.fltSrc j).occ }.bits =
      { (s.fltSrc j).taken o s.planTime with occ := satInc (s.fltSrc j).occ }.bits :=
    congrArg (fun c : FltSrc => { c.taken o s.planTime with occ := satInc c.occ }) same
  rw [srcAfter, srcAfter, time, same, after]

/-- R442: the cycle of one occurrence that has been classed. -/
def State.occurs (s : State) (x : Nat) (d : Word) (broken forced : Bool) (given : Option Nat) : State :=
  fltCycle [(s.classify x d broken forced given).1] (s.classify x d broken forced given).2

theorem State.occurs_untaken : (s.occurs x d broken forced given).untaken = s.untaken :=
  fltTake_untaken.trans ((untaken_of_bitsPart fltMove_bitsPart).trans (untaken_of_logPart classify_logPart))

theorem State.occurs_lasting : (s.occurs x d broken forced given).lasting = s.lasting := fltCycle_lasting ..

theorem State.occurs_srcBits : (s.occurs x d broken forced given).srcBits = s.srcAfter (s.classify x d broken forced given).1 := by
  refine fltTake_srcBits.trans (srcAfter_of ((srcBits_of_bitsPart fltMove_bitsPart).trans classify_srcBits) ?_)
  exact planTime_of_lasting (fltMove_lasting _)

/-- R439, R443, R460: what an occurrence makes of its own source. -/
theorem State.occurs_fltSrc : ((s.occurs x d broken forced given).fltSrc x).bits =
    { (s.fltSrc x).taken (s.classify x d broken forced given).1 s.planTime with occ := satInc (s.fltSrc x).occ }.bits :=
  (congrFun occurs_srcBits x).trans (if_pos rfl)

theorem State.occurs_logged (room : s.flt.ring.length < 64) :
    Logged (s.classify x d broken forced given).1 s (s.occurs x d broken forced given) := by
  have moved : (fltMove (s.classify x d broken forced given).2).flt.ring.length < 64 := by rwa [fltMove_log.1]
  exact (fltTake_logged moved).of_move.of_logPart classify_logPart rfl

theorem State.occurs_fenced (severe : 2 ≤ (s.classify x d broken forced given).1.cls) (has : (fenceBit x).isSome = true) :
    (s.occurs x d broken forced given).fenced x = true := fltTake_fenced severe has

theorem State.occurs_safe (most : (s.classify x d broken forced given).1.cls = 4) : (s.occurs x d broken forced given).flt.safe = true :=
  fltTake_safe most

/-! ### Inputs -/

theorem State.fault_new (new : s.fltNew x false = true) : s.fault x d = s.occurs x d false false none := if_pos new

theorem State.fault_held (held : s.fltNew x false = false) : s.fault x d = fltHidden x d false s := if_neg (Bool.eq_false_iff.mp held)

theorem State.faults_new (new : s.fltNew x broken = true) :
    s.faults [(x, d, broken)] = s.occurs x (if broken then BitVec.allOnes 32 else d) broken false none := by
  simp [faults, new, occurs]

theorem State.faults_held (held : s.fltNew x broken = false) : s.faults [(x, d, broken)] = fltMove (fltHidden x d broken s) := by
  simp [faults, held, fltCycle, rankOccs]

theorem fltHidden_free (free : (s.fltSrc x).forced = false) : fltHidden x d broken s = s := if_neg (Bool.eq_false_iff.mp free)

theorem fltHidden_forced (held : (s.fltSrc x).forced = true) :
    fltHidden x d broken s = s.modFltSrc x fun c => { c with own := some (d, broken) } := if_pos held

end

end Sys2Proof.Machine
end

section
/-! SUPPORT. What the unit that reports a fault does besides its report (R218–R399) spares the collector, the trusses and the always-on count. -/

namespace Sys2Proof.Machine

/-- What no unit's own part of an occurrence touches. -/
def State.spared (s : State) : FltSt × Word × TrussSt × Nat := (s.flt, s.fltMram.logSeq, s.truss, s.clk.aon)

section
variable {s t : State}

theorem State.spared_of_unheard (unheard : t.unheard = s.unheard) (lasting : t.lasting = s.lasting) : t.spared = s.spared := by
  have mram : t.fltMram = s.fltMram := fltMram_of_unheard unheard
  have truss : t.truss = s.truss := (congrArg State.truss lasting :)
  rw [spared, spared, flt_of_unheard unheard, mram, truss, clk_of_lasting lasting]

theorem State.spared_of_sansBytes (h : t.sansBytes = s.sansBytes) : t.spared = s.spared := (congrArg State.spared h :)

theorem foldl_spared {α : Type} {f : State → α → State} {l : List α} (h : ∀ s x, (f s x).spared = s.spared) : (l.foldl f s).spared = s.spared :=
  foldl_keeps State.spared h l s

theorem State.pend_spared {x : Nat} : (s.pend x).spared = s.spared := spared_of_unheard pend_unheard (pend_lasting ..)

/-! ### Lanes, scalers, fetch and arms -/

theorem State.dropArm_spared {g : Nat} : (s.dropArm g).spared = s.spared := by
  have told : ∀ (f : Nat) (r : Nat) (n : Word) (t : State), (t.armResult f g r 0 n).spared = t.spared := fun _ _ _ _ =>
    pend_spared.trans ((spared_of_unheard record_unheard (record_lasting ..)).trans rfl)
  unfold dropArm
  split
  · unfold withdraw
    refine (told ..).trans ?_
    split
    · refine (foldl_spared fun _ _ => ?_).trans ?_ <;> rfl
    · rfl
  · rfl

theorem copyError_spared : (copyError s).spared = s.spared := by
  unfold copyError
  dsimp only
  split
  · exact State.dropArm_spared
  · rfl

theorem refreshBypass_spared : (refreshBypass s).spared = s.spared := foldl_spared fun _ _ => rfl

theorem laneEffect_spared {d : Nat} : (laneEffect d s).spared = s.spared :=
  ite_keeps State.spared rfl (ite_keeps State.spared (refreshBypass_spared.trans rfl) (ite_keeps State.spared copyError_spared rfl))

theorem regridFar_spared {g : Nat} : (regridFar g s).spared = s.spared := by
  unfold regridFar
  split
  · rfl
  · refine ite_keeps State.spared rfl ?_
    unfold regrid
    split
    · rfl
    · split
      · rfl
      · exact ite_keeps State.spared rfl rfl

theorem sequencerEffect_spared {x : Nat} : (sequencerEffect x s).spared = s.spared := by
  refine ite_keeps State.spared copyError_spared (ite_keeps State.spared ?_ ?_)
  · dsimp only
    split
    · rfl
    · rfl
  · dsimp only
    split
    · exact regridFar_spared
    · rfl

theorem State.countN_spared {e n : Nat} : (s.countN e n).spared = s.spared := (rfl)
theorem State.count_spared {e : Nat} : (s.count e).spared = s.spared := (rfl)
theorem State.modCh_spared {c : Nat} {f : DmaCh → DmaCh} : (s.modCh c f).spared = s.spared := (rfl)
theorem State.modSlot_spared {x : Nat} {f : SlotSt → SlotSt} : (s.modSlot x f).spared = s.spared := (rfl)
theorem State.modGroup_spared {g : Nat} {f : GroupSt → GroupSt} : (s.modGroup g f).spared = s.spared := (rfl)
theorem State.modLane_spared {k : Nat} {f : LaneSt → LaneSt} : (s.modLane k f).spared = s.spared := (rfl)
theorem State.draw_spared : s.draw.2.spared = s.spared := (rfl)
theorem State.drawBelow_spared {n : Nat} : (s.drawBelow n).2.spared = s.spared := (rfl)
theorem openStrip_spared {bits : Nat} {x : Strip} : (openStrip bits x s).2.spared = s.spared := by
  simp only [openStrip, State.draw_spared]

theorem patchRun_spared {k : Nat} : (patchRun k s).spared = s.spared := by
  unfold patchRun
  split
  · rfl
  · simp only [State.modLane_spared, openStrip_spared, State.modGroup_spared, State.modSlot_spared, State.countN_spared, State.drawBelow_spared,
      State.draw_spared]

theorem scalerEffect_spared {k d : Nat} : (scalerEffect k d s).spared = s.spared :=
  ite_keeps State.spared rfl (ite_keeps State.spared rfl (ite_keeps State.spared (patchRun_spared.trans rfl) (ite_keeps State.spared rfl rfl)))

theorem loseRead_spared {hit : FRead → Bool} : (loseRead hit s).spared = s.spared := by
  unfold loseRead
  dsimp only
  split
  · rfl
  · rfl

/-! ### Transport, network, ingest, writeback and DMA -/

theorem dropSlices_spared {e : Nat} {all : Bool} : (dropSlices e all s).spared = s.spared := by
  refine (foldl_spared fun _ _ => ?_).trans (ite_keeps State.spared ?_ ?_) <;> rfl

theorem abandonFrame_spared {i frame : Nat} : (abandonFrame i frame s).spared = s.spared := State.pend_spared.trans rfl

theorem spoilFrames_spared {d : Nat} {all : Bool} : (spoilFrames d all s).spared = s.spared := by
  refine ite_keeps State.spared (foldl_spared fun _ _ => abandonFrame_spared) ?_
  split
  · exact abandonFrame_spared
  · rfl

theorem dscEffect_spared {k d : Nat} : (dscEffect k d s).spared = s.spared := by
  have counted : (if d = 1 then s.count 345 else if d = 2 then s.count 346 else if d = 3 then s.count 347 else s).spared = s.spared :=
    ite_keeps State.spared rfl (ite_keeps State.spared rfl (ite_keeps State.spared rfl rfl))
  refine ite_then State.spared counted (ite_keeps State.spared dropSlices_spared spoilFrames_spared)

theorem ethEffect_spared {p d : Nat} : (ethEffect p d s).spared = s.spared := ite_keeps State.spared rfl (ite_keeps State.spared rfl rfl)

theorem State.setCond_spared {x : Nat} {b : Bool} : (s.setCond x b).spared = s.spared := ite_keeps State.spared rfl rfl

theorem cqWrite_spared {q : Nat} {r : CplRec} : (cqWrite q r s).spared = s.spared := by
  refine State.setCond_spared.trans (ite_keeps State.spared (ite_keeps State.spared ?_ rfl) ?_)
  · exact (State.spared_of_sansBytes (State.traffic_sansBytes ..)).trans rfl
  · exact State.spared_of_sansBytes (State.memWrite_sansBytes ..)

theorem dmaEnd_spared {c status : Nat} : (dmaEnd c status s).spared = s.spared := by
  have posted : ∀ d bytes, (dmaPost c d status bytes s).spared = s.spared := fun _ _ =>
    ite_keeps State.spared rfl (ite_keeps State.spared rfl (ite_keeps State.spared rfl (cqWrite_spared.trans rfl)))
  unfold dmaEnd
  dsimp only
  split
  · rfl
  · next d _ =>
    refine ite_then State.spared (ite_keeps State.spared ?_ ?_) State.pend_spared <;>
      simp only [State.count_spared, State.modCh_spared, posted]

theorem dmaEffect_spared {c d : Nat} : (dmaEffect c d s).spared = s.spared := by
  unfold dmaEffect
  split
  · exact dmaEnd_spared
  · split
    · rw [State.pend_spared]
      rfl
    · rfl

theorem ingestEffect_spared {k d : Nat} : (ingestEffect k d s).spared = s.spared := by
  refine ite_keeps State.spared rfl (ite_keeps State.spared ?_ rfl)
  dsimp only
  split
  · exact abandonFrame_spared
  · rfl

/-! ### The interrupt controller and the store -/

theorem intcEffect_spared : (intcEffect s).spared = s.spared := by
  refine (foldl_spared fun _ _ => ?_).trans ?_ <;> rfl

/-- R34: no record that a start may find torn is the log's or a truss's. -/
theorem discardRecord_spared {r : MramRecord} : (discardRecord r s).spared = s.spared := by
  cases r <;> rfl

theorem tornRecord_spared : (tornRecord s).spared = s.spared := by
  unfold tornRecord
  dsimp only
  split
  · exact discardRecord_spared
  · rfl

theorem noDirectory_spared : (noDirectory s).spared = s.spared := foldl_spared fun _ _ => rfl

theorem storeEffect_spared {x : Nat} : (storeEffect x s).spared = s.spared := by
  have told : (s.pend 491).spared = s.spared := State.pend_spared
  refine ite_keeps State.spared (State.pend_spared (x := 487)) (ite_keeps State.spared (State.pend_spared (x := 492)) ?_)
  exact ite_keeps State.spared told (ite_keeps State.spared (tornRecord_spared.trans told)
    (ite_keeps State.spared (noDirectory_spared.trans told) told))

/-- R435: the unit's own part of an occurrence spares the collector, the trusses and the always-on count. -/
theorem occurrenceEffect_spared {x d : Nat} : (occurrenceEffect x d s).spared = s.spared := by
  unfold occurrenceEffect
  refine ite_keeps State.spared laneEffect_spared (ite_keeps State.spared scalerEffect_spared (ite_keeps State.spared dscEffect_spared
    (ite_keeps State.spared ethEffect_spared (ite_keeps State.spared dmaEffect_spared (ite_keeps State.spared ?_ (ite_keeps State.spared ingestEffect_spared
    (ite_keeps State.spared sequencerEffect_spared (ite_keeps State.spared loseRead_spared (ite_keeps State.spared loseRead_spared
    (ite_keeps State.spared storeEffect_spared (ite_keeps State.spared intcEffect_spared rfl)))))))))))
  exact ite_keeps State.spared (ite_keeps State.spared rfl rfl) rfl

end

end Sys2Proof.Machine
end

section
/-! SUPPORT. The collector's own events: rails that fall or return to their unit, forces, and the end of a quiet period (R443, R448, R449, R459). -/

namespace Sys2Proof.Machine

section
variable {s t : State} {x : Nat} {d : Word} {broken forced : Bool} {given : Option Nat}

/-- What no event of the collector touches: CXL memory, the trusses and the sequencer. -/
def State.works (s : State) : MemSt × TrussSt × SeqSt := (s.mem, s.truss, s.seq)

theorem State.memTruss_of_lasting (h : t.lasting = s.lasting) : t.mem = s.mem ∧ t.truss = s.truss :=
  ⟨(congrArg State.mem h :), (congrArg State.truss h :)⟩

/-- The fields of a source that neither a quiet period nor escalation writes. -/
theorem FltSrc.of_bits {c e : FltSrc} (h : c.bits = e.bits) : c.asserted = e.asserted ∧ c.broken = e.broken ∧ c.cause = e.cause ∧ c.trans = e.trans ∧
    c.lastDetail = e.lastDetail ∧ c.lastTime = e.lastTime ∧ c.occ = e.occ ∧ c.forced = e.forced ∧ c.own = e.own :=
  ⟨(congrArg FltSrc.asserted h :), (congrArg FltSrc.broken h :), (congrArg FltSrc.cause h :), (congrArg FltSrc.trans h :),
    (congrArg FltSrc.lastDetail h :), (congrArg FltSrc.lastTime h :), (congrArg FltSrc.occ h :), (congrArg FltSrc.forced h :),
    (congrArg FltSrc.own h :)⟩

/-! ### Rails that fall -/

theorem fltStartQuiet_srcBits : (fltStartQuiet x s).srcBits = s.srcBits :=
  ite_keeps State.srcBits (State.modFltSrc_srcBits fun _ => rfl) rfl

theorem fltStartQuiet_works : (fltStartQuiet x s).works = s.works := ite_keeps State.works rfl rfl

/-- R443: a source whose rails fall. -/
def FltSrc.fallen (c : FltSrc) : FltSrc := { c with asserted := false, broken := false, own := none, trans := c.trans || c.cause }

/-- R443: the rails of a source that shows its unit's fall, and the cause bit stays. -/
theorem State.fltFall_live (free : (s.fltSrc x).forced = false) (live : (s.fltSrc x).live = true) :
    ((s.fltFall x).fltSrc x).bits = (s.fltSrc x).fallen.bits := by
  rw [fltFall, if_neg (Bool.eq_false_iff.mp free), if_pos live]
  refine (congrFun fltStartQuiet_srcBits x).trans (congrArg FltSrc.bits ?_)
  have counted : (if (s.fltSrc x).cause && !(s.fltSrc x).trans then s.count 434 else s).fltSrc = s.fltSrc := ite_keeps State.fltSrc rfl rfl
  exact (modFltSrc_fltSrc ..).trans ((if_pos rfl).trans (congrArg (fun f : Nat → FltSrc => (f x).fallen) counted))

theorem State.fltFall_quiet (free : (s.fltSrc x).forced = false) (quiet : (s.fltSrc x).live = false) : s.fltFall x = s := by
  rw [fltFall, if_neg (Bool.eq_false_iff.mp free), if_neg (Bool.eq_false_iff.mp quiet)]

theorem State.fltFall_forced (held : (s.fltSrc x).forced = true) : s.fltFall x = s.modFltSrc x fun c => { c with own := none } := if_pos held

theorem State.fltFall_works : (s.fltFall x).works = s.works := by
  refine ite_keeps works rfl (ite_keeps works (fltStartQuiet_works.trans ?_) rfl)
  exact ite_keeps (fun u : State => u.works) rfl rfl

/-! ### Rails that return -/

/-- What the return of a source's rails leaves: they are the unit's, they show what it drives, and what the collector has latched stays. -/
structure Returned (s t : State) (x : Nat) : Prop where
  free : (t.fltSrc x).forced = false
  live : (t.fltSrc x).live = (s.fltSrc x).own.isSome
  cause : (s.fltSrc x).cause = true → (t.fltSrc x).cause = true
  detail : (s.fltSrc x).own = none → (t.fltSrc x).lastDetail = (s.fltSrc x).lastDetail
  mem : t.mem = s.mem
  truss : t.truss = s.truss

/-- R459: the source, its force released. -/
theorem State.release_fltSrc : (s.modFltSrc x fun c => { c with forced := false }).fltSrc x = { s.fltSrc x with forced := false } :=
  (modFltSrc_fltSrc ..).trans (if_pos rfl)

/-- R459: of a quiet unit the rails fall. -/
theorem fltReturn_quiet (quiet : (s.fltSrc x).own = none) : Returned s (fltReturn x s) x := by
  have src := State.release_fltSrc (s := s) (x := x)
  have returns : fltReturn x s = (s.modFltSrc x fun c => { c with forced := false }).fltFall x := by
    simp only [fltReturn, src, quiet]
  rw [returns]
  have works := State.fltFall_works (s := s.modFltSrc x fun c => { c with forced := false }) (x := x)
  generalize released : (s.modFltSrc x fun c => { c with forced := false }) = r at src works
  have free : (r.fltSrc x).forced = false := by rw [src]
  have mem : (r.fltFall x).mem = s.mem := (congrArg Prod.fst works).trans (by rw [← released]; rfl)
  have truss : (r.fltFall x).truss = s.truss := (congrArg (·.2.1) works).trans (by rw [← released]; rfl)
  by_cases live : (r.fltSrc x).live = true
  · obtain ⟨asserted, broken, cause, -, detail, -, -, forced, -⟩ := FltSrc.of_bits (State.fltFall_live free live)
    refine ⟨?_, ?_, fun was => ?_, fun _ => ?_, mem, truss⟩
    · rw [forced, FltSrc.fallen, src]
    · rw [FltSrc.live, asserted, broken, quiet]
      rfl
    · rw [cause, FltSrc.fallen, src]
      exact was
    · rw [detail, FltSrc.fallen, src]
  · have quiet' := Bool.eq_false_iff.mpr live
    rw [State.fltFall_quiet free quiet'] at mem truss ⊢
    refine ⟨free, quiet'.trans (by rw [quiet]; rfl), fun was => ?_, fun _ => ?_, mem, truss⟩
    · rwa [src]
    · rw [src]

/-- R435: rails that change nothing show the unit as it drives them. -/
theorem State.live_of_railsHeld (held : s.railsNew x broken = false) : (s.fltSrc x).live = true := by
  cases broken <;> simp_all [railsNew, FltSrc.live]

/-- R435: what a free source's unit drives shows on its rails, whether it is an occurrence or stands already. -/
theorem State.faults_driven (free : (s.fltSrc x).forced = false) : ((s.faults [(x, d, broken)]).fltSrc x).forced = false ∧
    ((s.faults [(x, d, broken)]).fltSrc x).live = true ∧ ((s.fltSrc x).cause = true → ((s.faults [(x, d, broken)]).fltSrc x).cause = true) := by
  by_cases new : s.fltNew x broken = true
  · rw [faults_new new]
    obtain ⟨asserted, wire, cause, -, -, -, -, forced, -⟩ := FltSrc.of_bits (s.occurs_fltSrc (x := x)
      (d := if broken then BitVec.allOnes 32 else d) (broken := broken) (forced := false) (given := none))
    refine ⟨forced.trans free, ?_, fun _ => cause⟩
    rw [FltSrc.live, asserted, wire]
    cases broken <;> simp [FltSrc.taken, classify]
  · have held := Bool.eq_false_iff.mpr new
    have still : (s.faults [(x, d, broken)]).fltSrc = s.fltSrc := by
      rw [faults_held held, fltHidden_free free]
      exact fltSrc_of_bitsPart fltMove_bitsPart
    rw [still]
    exact ⟨free, live_of_railsHeld (by simpa [fltNew, free] using held), id⟩

/-- R435, R459: what the unit drives shows, and is an occurrence where the rails change. -/
theorem fltReturn_driven {p : Word × Bool} (drives : (s.fltSrc x).own = some p) : Returned s (fltReturn x s) x := by
  have src := State.release_fltSrc (s := s) (x := x)
  have returns : fltReturn x s = (s.modFltSrc x fun c => { c with forced := false }).faults [(x, p.1, p.2)] := by
    simp only [fltReturn, src, drives]
  obtain ⟨mem, truss⟩ := State.memTruss_of_lasting (State.faults_lasting [(x, p.1, p.2)] (s.modFltSrc x fun c => { c with forced := false }))
  obtain ⟨free, live, cause⟩ := State.faults_driven (s := s.modFltSrc x fun c => { c with forced := false }) (x := x) (d := p.1) (broken := p.2) (by rw [src])
  rw [src] at cause
  rw [returns]
  exact ⟨free, live.trans (by rw [drives]; rfl), cause, fun quiet => (nomatch drives.symm.trans quiet), mem, truss⟩

/-- R459: the rails of a source return to its unit. -/
theorem fltReturn_returned : Returned s (fltReturn x s) x := by
  rcases own : (s.fltSrc x).own with _ | p
  · exact fltReturn_quiet own
  · exact fltReturn_driven own

/-! ### Forces -/

/-- What a force write that is an occurrence leaves. -/
structure Forced (s t : State) (x : Nat) (detail : Word) (hold : Bool) : Prop where
  cause : (t.fltSrc x).cause = true
  forced : (t.fltSrc x).forced = hold
  mem : t.mem = s.mem
  truss : t.truss = s.truss
  detail : (s.fltSrc x).own = none → (t.fltSrc x).lastDetail = detail

/-- R459: a write of FLT_FORCE that a function may make and that changes the rails: the occurrence, and what of it is held. -/
theorem fltForce_new {fn v : Nat} {hold : Bool} (unlocked : s.flt.testUnlocked = true) (reads : s.hasFltRead fn = true) (known : v % 256 ≤ 191)
    (keeps : bitOf 13 v = false) (wire : bitOf 12 v = broken) (holds : (bitOf 11 v || (s.fltSrc (v % 256)).forced) = hold)
    (new : s.railsNew (v % 256) broken = true) :
    Forced s (fltForce fn v s) (v % 256) (if broken then BitVec.allOnes 32 else s.flt.forceDetail) hold := by
  generalize source : v % 256 = x at *
  generalize detail : (if broken then BitVec.allOnes 32 else s.flt.forceDetail) = d
  have forces : ∃ given, fltForce fn v s = if hold then (s.occurs x d broken true given).modFltSrc x fun c => { c with forced := hold } else
      fltReturn x ((s.occurs x d broken true given).modFltSrc x fun c => { c with forced := hold }) := by
    refine ⟨if bitsOf 8 3 v ≤ 4 ∧ !broken then some (bitsOf 8 3 v) else none, ?_⟩
    simp only [fltForce, unlocked, reads, source, keeps, wire, holds, new, detail, Nat.not_lt.mpr known, Bool.not_true, Bool.or_self, Bool.false_eq_true,
      if_false, if_true, State.occurs]
  obtain ⟨given, forces⟩ := forces
  obtain ⟨mem, truss⟩ := State.memTruss_of_lasting (s.occurs_lasting (x := x) (d := d) (broken := broken) (forced := true) (given := given))
  obtain ⟨-, -, cause, -, last, -, -, -, own⟩ := FltSrc.of_bits (s.occurs_fltSrc (x := x) (d := d) (broken := broken) (forced := true) (given := given))
  generalize s.occurs x d broken true given = r at forces mem truss cause last own
  have src : (r.modFltSrc x fun c => { c with forced := hold }).fltSrc x = { r.fltSrc x with forced := hold } :=
    (State.modFltSrc_fltSrc ..).trans (if_pos rfl)
  rw [forces]
  cases hold with
  | true =>
    refine ⟨?_, ?_, mem, truss, fun _ => ?_⟩ <;> rw [if_pos rfl, src]
    · exact cause
    · exact last
  | false =>
    have returned := fltReturn_returned (s := r.modFltSrc x fun c => { c with forced := false }) (x := x)
    rw [if_neg Bool.false_ne_true]
    refine ⟨returned.cause (by rw [src]; exact cause), returned.free, returned.mem.trans mem, returned.truss.trans truss, fun quiet => ?_⟩
    refine (returned.detail ?_).trans (by rw [src]; exact last)
    rw [src]
    exact own.trans quiet

/-! ### The end of a quiet period -/

/-- The units' sources, fences and locks, and the always-on count. -/
def State.units (s : State) : Tab FltSrc × Tab Word × Tab Word × Nat := (s.flt.src, s.flt.fence, s.fltMram.lock, s.clk.aon)

theorem State.units_of_unheard (unheard : t.unheard = s.unheard) (lasting : t.lasting = s.lasting) : t.units = s.units := by
  rw [units, units, flt_of_unheard unheard, fltMram_of_unheard unheard, clk_of_lasting lasting]

theorem State.fltSrc_of_units (h : t.units = s.units) : t.fltSrc = s.fltSrc := congrArg (fun v : Tab FltSrc × Tab Word × Tab Word × Nat => tabGet v.1) h
theorem State.fenced_of_units (h : t.units = s.units) : t.fenced x = s.fenced x := fenced_of_fence (congrArg (·.2.1) h :) x
theorem State.fltLocked_of_units (h : t.units = s.units) : t.fltLocked x = s.fltLocked x := by
  have lock : t.fltMram.lock = s.fltMram.lock := (congrArg (·.2.2.1) h :)
  simp only [fltLocked, State.lockWord, lock]
theorem State.now_of_units (h : t.units = s.units) : t.now = s.now := (congrArg (·.2.2.2) h :)

theorem State.pend_units {e : Nat} : (s.pend e).units = s.units := units_of_unheard pend_unheard (pend_lasting ..)

theorem fltRecoveryEvent_units {code : Nat} : (fltRecoveryEvent x code s).units = s.units :=
  State.pend_units.trans (State.units_of_unheard State.recordTo_unheard (State.recordTo_lasting ..))

theorem fltUncover_units : (fltUncover x s).units = s.units := ite_keeps State.units rfl rfl

theorem recopyAssets_units {m : Nat} : (recopyAssets m s).units = s.units := by
  refine foldl_keeps State.units (fun t e => ite_keeps State.units rfl ?_) ..
  exact (congrArg State.units (State.memWrite_sansBytes ..) :)

theorem takeSwitch_units {f k : Nat} {plan : List (Nat × Nat × Nat × Nat × Nat)} : (takeSwitch f k plan s).units = s.units := by
  refine foldl_keeps State.units (fun t x => ?_) plan s
  rfl

theorem rearmPorts_units : (rearmPorts s).units = s.units := by
  refine foldl_keeps State.units (fun t m => ite_keeps State.units rfl ?_) ..
  split
  · exact takeSwitch_units.trans recopyAssets_units
  · rfl

/-- R449: the unit's quiet period is over. -/
def quietOver (x e : Nat) (s : State) : State := (s.untilAon e).modFltSrc (unitRep x) fun c => { c with quietEnd := 0, quietClass := 0 }

theorem quietOver_fltSrc {e : Nat} : (quietOver x e s).fltSrc (unitRep x) = { s.fltSrc (unitRep x) with quietEnd := 0, quietClass := 0 } := by
  refine (State.modFltSrc_fltSrc ..).trans ((if_pos rfl).trans ?_)
  simp only [State.fltSrc, State.untilAon_frame]

theorem quietOver_fence {e : Nat} : (quietOver x e s).flt.fence = s.flt.fence :=
  (congrArg FltSt.fence (show (s.untilAon e).flt = s.flt by simp only [State.untilAon_frame]) :)

/-- R449: a unit that recovers: its fence clears, and the instant is kept. -/
def unitRecovers (rep : Nat) (s : State) : State := (s.putFence rep false).modFltSrc rep fun c => { c with recoveredAt := s.now :: c.recoveredAt }

theorem quietEnd_recovers {e : Nat} (runs : (s.fltSrc (unitRep x)).quietEnd = e + 1)
    (few : (s.untilAon e).fltRecoveries (unitRep x) < (s.fltSrc (unitRep x)).quietK) : (quietEnd x s).units = (unitRecovers (unitRep x) (quietOver x e s)).units := by
  have src : (s.untilAon e).fltSrc (unitRep x) = s.fltSrc (unitRep x) := by simp only [State.fltSrc, State.untilAon_frame]
  rw [quietEnd, runs, if_neg (Nat.succ_ne_zero e), Nat.add_sub_cancel]
  dsimp only
  rw [src, if_pos few]
  refine (State.units_of_unheard chooseVariants_unheard (chooseVariants_lasting _)).trans ?_
  refine fltUncover_units.trans (fltRecoveryEvent_units.trans ?_)
  rfl

theorem quietEnd_locks {e : Nat} (runs : (s.fltSrc (unitRep x)).quietEnd = e + 1)
    (many : (s.fltSrc (unitRep x)).quietK ≤ (s.untilAon e).fltRecoveries (unitRep x)) :
    (quietEnd x s).units = ((quietOver x e s).putLock (unitRep x) true).units := by
  have src : (s.untilAon e).fltSrc (unitRep x) = s.fltSrc (unitRep x) := by simp only [State.fltSrc, State.untilAon_frame]
  rw [quietEnd, runs, if_neg (Nat.succ_ne_zero e), Nat.add_sub_cancel]
  dsimp only
  rw [src, if_neg (Nat.not_lt.mpr many)]
  exact fltRecoveryEvent_units.trans rfl

theorem State.fenced_unitRep : s.fenced (unitRep x) = s.fenced x := by rw [State.fenced, State.fenced, fenceBit_unitRep]

theorem State.putLock_locked {v : Bool} (has : (fenceBit x).isSome = true) : (s.putLock x v).fltLocked x = v := by
  obtain ⟨⟨k, b⟩, bit⟩ := Option.isSome_iff_exists.mp has
  have low : b < 32 := fenceBit_lt bit
  simp [putLock, fltLocked, State.lockWord, bit, modFltMram, tabGet_mod, putBit_getLsbD _ _ _ low]

theorem State.putLock_flt {v : Bool} : (s.putLock x v).flt = s.flt := by
  unfold putLock
  split
  · rfl
  · rfl

end

end Sys2Proof.Machine
end

section
/-! SUPPORT. The log's mirror and the disagreements of views (R445, R455, R456). -/

namespace Sys2Proof.Machine

section
variable {s t : State}

/-! ### The mirror -/

/-- R441: a record is 32 bytes. -/
theorem FltRec.bytes_length (r : FltRec) : r.bytes.length = 32 := by
  simp [bytes, body, leBytes]

theorem logCopy_sansBytes {r : FltRec} : (logCopy r s).sansBytes = s.sansBytes :=
  foldl_keeps State.sansBytes (fun _ _ => State.memStore_sansBytes ..) ..

theorem State.logBase_of_sansBytes (h : t.sansBytes = s.sansBytes) (m : Nat) : t.logBase m = s.logBase m := (congrArg (State.logBase · m) h :)

/-- R445: the byte at an address lies outside a record's place on every port of a list. -/
def State.offLog (s : State) (r : FltRec) (a : Nat) (l : List Nat) : Prop :=
  ∀ m p, m ∈ l → p = s.logBase m + 32 * (r.logSeq.toNat % 32768) → a < p ∨ p + 32 ≤ a

/-- R445: a record written to the region leaves every byte outside its places. -/
theorem logCopy_outside {r : FltRec} {a : Nat} (off : s.offLog r a s.storePorts) : tabGet (logCopy r s).mem.bytes a = tabGet s.mem.bytes a := by
  unfold logCopy
  generalize s.storePorts = l at off
  induction l generalizing s with
  | nil => rfl
  | cons m l ih =>
    have still := State.memStore_sansBytes (s.logBase m + 32 * (r.logSeq.toNat % 32768)) r.bytes {} s
    refine (ih fun n p listed place => off n p (List.mem_cons_of_mem _ listed) ?_).trans (State.memStore_outside ?_)
    · rw [place, State.logBase_of_sansBytes still]
    · rw [FltRec.bytes_length]
      exact off m _ List.mem_cons_self rfl

/-- R445: the state once the oldest ring entry has gone to the MRAM log. -/
def State.mirrored (s : State) (r : FltRec) (l : List FltRec) : State :=
  (s.modFlt fun c => { c with ring := l, mirror := c.mirror + 1, regionBad := false }).modFltMram fun c => { c with log := (r :: c.log).take 32768 }

theorem execFaultRingMirror_ready {r : FltRec} {l : List FltRec} (ring : s.flt.ring = r :: l) (clocked : (s.pll 9).gated = false) :
    execFaultRingMirror s = done ((r :: if s.flt.regionBad then s.fltMram.log else []).foldl (fun s r => logCopy r s) (s.mirrored r l)) := by
  simp [execFaultRingMirror, ring, clocked, State.mirrored]

theorem logCopies_sansBytes {l : List FltRec} : (l.foldl (fun s r => logCopy r s) s).sansBytes = s.sansBytes :=
  foldl_keeps State.sansBytes (fun _ _ => logCopy_sansBytes) ..

/-! ### Disagreements -/

variable {kind index : Nat} {d : Disagree}

theorem State.openOn_unit (h : s.openOn kind index = some d) : d.kind = kind ∧ d.index = index := by
  have found := List.find?_some h
  simpa using found

theorem State.openOn_of_disagreements (h : t.flt.disagreements = s.flt.disagreements) : t.openOn kind index = s.openOn kind index := by
  rw [openOn, openOn, h]

/-- R455: what changes the disagreement open on a unit changes the one that is found there. -/
theorem modDisagree_openOn {f : Disagree → Disagree} (same : ∀ e, (f e).kind = e.kind ∧ (f e).index = e.index) (h : s.openOn kind index = some d) :
    (modDisagree kind index f s).openOn kind index = some (f d) := by
  have unit := State.openOn_unit h
  have sought : ((fun e : Disagree => e.kind == kind && e.index == index) ∘ fun e => if e.kind = kind ∧ e.index = index then f e else e) =
      fun e => e.kind == kind && e.index == index := by
    funext e
    by_cases at' : e.kind = kind ∧ e.index = index
    · simp [at', same]
    · simp [at']
  have found : s.flt.disagreements.find? (fun e => e.kind == kind && e.index == index) = some d := h
  have changed := List.find?_map (f := fun e : Disagree => if e.kind = kind ∧ e.index = index then f e else e)
    (p := fun e => e.kind == kind && e.index == index) (l := s.flt.disagreements)
  rw [sought, found, Option.map_some, if_pos unit] at changed
  exact changed

theorem disagreeEvent_unheard {code : Nat} : (disagreeEvent code d s).unheard = s.unheard := State.recordTo_unheard

theorem disagreeEvent_memSeq {code : Nat} : (disagreeEvent code d s).mem = s.mem ∧ (disagreeEvent code d s).seq = s.seq :=
  ⟨(State.memTruss_of_lasting (State.recordTo_lasting ..)).1, State.recordTo_seq ..⟩

/-- R455, R456: firmware's view of a unit or peer brought to the hardware's. -/
def bringView (d : Disagree) (s : State) : State :=
  if d.kind < 8 then s.modFlt fun c => { c with fwView := tabSet c.fwView (65536 * d.kind + d.index) (s.hwView d.kind d.index) }
  else if s.swView d.kind d.index = s.hwView d.kind d.index then s
  else
    let k := d.index + if d.kind = 9 then 1024 else 0
    if s.hwView d.kind d.index = 0 then s.peerState k (s.liveState k) 0 else resetHeld k (s.peerState k 3 0)

theorem bringView_memSeq : (bringView d s).mem = s.mem ∧ (bringView d s).seq = s.seq := by
  have told : ∀ k state, ((s.peerState k state 0).mem, (s.peerState k state 0).seq) = (s.mem, s.seq) := fun k state =>
    Prod.ext (State.memTruss_of_lasting (State.peerState_lasting ..)).1 (State.peerState_seq ..)
  have kept : ((bringView d s).mem, (bringView d s).seq) = (s.mem, s.seq) := by
    unfold bringView
    refine ite_keeps (fun u : State => (u.mem, u.seq)) rfl (ite_keeps (fun u : State => (u.mem, u.seq)) rfl ?_)
    exact ite_keeps (fun u : State => (u.mem, u.seq)) (told ..) (told ..)
  exact Prod.mk.inj kept

/-- R455: a disagreement closed. -/
def closeDisagree (d : Disagree) (s : State) : State :=
  (bringView d s).modFlt fun c => { c with disagreements := c.disagreements.filter fun x => x.kind != d.kind || x.index != d.index }

theorem closeDisagree_openOn : (closeDisagree d s).openOn d.kind d.index = none := by
  refine List.find?_eq_none.mpr fun e listed => ?_
  have apart := (List.mem_filter.mp listed).2
  simp_all [imp_iff_not_or]

/-- R456: the event of a disagreement that closes, where it was reported. -/
def closeTold (d e : Disagree) (s : State) : State := if d.reported then disagreeEvent 1 e (closeDisagree d s) else closeDisagree d s

theorem execDisagreeClose_open {kind : Fin 10} {index : Half} (h : s.openOn kind.val index.toNat = some d) :
    execDisagreeClose kind index s =
      done (closeTold d { d with hw := s.hwView d.kind d.index, fw := s.hwView d.kind d.index } s) := by
  rw [execDisagreeClose, h]
  rfl

end

end Sys2Proof.Machine
end

section
/-! SUPPORT. The rows of the collector, each by what it leaves (R435–R459). -/

namespace Sys2Proof.Machine

section
variable {s t : State}

theorem State.driveErrn_fltSrc (s : State) : s.driveErrn.fltSrc = s.fltSrc := by
  funext j
  simp only [fltSrc, driveErrn_frame]

theorem State.driveErrn_openOn (s : State) (kind index : Nat) : s.driveErrn.openOn kind index = s.openOn kind index :=
  openOn_of_disagreements (by simp only [driveErrn_frame])

theorem State.driveErrn_units (s : State) : s.driveErrn.units = s.units := by simp only [units, driveErrn_frame]

/-! ### Occurrences -/

/-- R435: the unit's own part of an occurrence, where there is one. -/
theorem unitPart_spared {new : Bool} {x d : Nat} : (if new then occurrenceEffect x d s else s).spared = s.spared :=
  ite_then State.spared rfl occurrenceEffect_spared

theorem State.flt_of_spared (h : t.spared = s.spared) : t.flt = s.flt := congrArg Prod.fst h
theorem State.logSeq_of_spared (h : t.spared = s.spared) : t.fltMram.logSeq = s.fltMram.logSeq := congrArg (·.2.1) h
theorem State.truss_of_spared (h : t.spared = s.spared) : t.truss = s.truss := congrArg (·.2.2.1) h
theorem State.aon_of_spared (h : t.spared = s.spared) : t.clk.aon = s.clk.aon := congrArg (·.2.2.2) h
theorem State.fltSrc_of_spared (h : t.spared = s.spared) : t.fltSrc = s.fltSrc := congrArg (fun v : FltSt × Word × TrussSt × Nat => tabGet v.1.src) h

theorem State.driveErrn_spared (s : State) : s.driveErrn.spared = s.spared := by simp only [spared, driveErrn_frame]

/-- R435: an occurrence's report, and the unit's own part. -/
theorem execFaultOccurrence_spared {x : Fin 192} {d : Word} :
    ∃ t, exec (.faultOccurrence x d) s = .next t ∧ t.spared = (s.fault x d).spared :=
  ⟨_, exec_faultOccurrence, (State.driveErrn_spared _).trans unitPart_spared⟩

theorem Logged.of_spared {o : Occ} {u : State} (h : Logged o s u) (same : t.spared = u.spared) : Logged o s t := by
  rwa [Logged, State.flt_of_spared same, State.logSeq_of_spared same]

theorem execFaultOccurrence_held {x : Fin 192} {d : Word} (held : s.fltNew x false = false) (free : (s.fltSrc x).forced = false) :
    exec (.faultOccurrence x d) s = .next s.driveErrn := by
  have none_ : s.unitNew x.val = false := by simp [State.unitNew, held, free]
  have hidden : s.fault x d = s := (State.fault_held held).trans (fltHidden_free free)
  rw [exec_faultOccurrence, execFaultOccurrence, none_, hidden]
  rfl

theorem State.fltNew_forced {x : Nat} {broken : Bool} (held : (s.fltSrc x).forced = true) : s.fltNew x broken = false := by simp [fltNew, held]

/-- R442: a cycle with one input, its own part done, by what it spares. -/
theorem execFaultCollectorCycle_one {x : Fin 192} {d : Word} {low : State}
    (sampled : low = (s.elapse 20).modFlt fun c => { c with errnPin := false, errnHigh := 0 }) :
    ∃ t, exec (.faultCollectorCycle [⟨x, d, false⟩] false) s = .next t ∧ t.spared = (low.faults [(x, d, false)]).spared := by
  subst sampled
  refine ⟨_, exec_faultCollectorCycle, (State.driveErrn_spared _).trans ?_⟩
  simp only [fltSamplePin, Bool.and_false, Bool.false_eq_true, if_false, List.nil_append, List.map_cons, List.map_nil,
    OfNat.zero_ne_ofNat]
  exact foldl_spared fun _ _ => occurrenceEffect_spared

theorem State.errnPin_of_untaken (h : t.untaken = s.untaken) : t.flt.errnPin = s.flt.errnPin := (congrArg (fun v => v.2.1.errnPin) h :)

theorem State.disagreements_of_untaken (h : t.untaken = s.untaken) : t.flt.disagreements = s.flt.disagreements :=
  (congrArg (fun v => v.2.1.disagreements) h :)

theorem fltHidden_untaken {x : Nat} {d : Word} {broken : Bool} : (fltHidden x d broken s).untaken = s.untaken := ite_keeps State.untaken rfl rfl

theorem State.fault_untaken {x : Nat} {d : Word} : (s.fault x d).untaken = s.untaken := by
  by_cases new : s.fltNew x false = true
  · rw [fault_new new]
    exact occurs_untaken
  · rw [fault_held (Bool.eq_false_iff.mpr new)]
    exact fltHidden_untaken

/-! ### Forces -/

/-! ### Units -/

theorem unitRecovers_fltSrc {rep : Nat} : (unitRecovers rep s).fltSrc rep = { s.fltSrc rep with recoveredAt := s.now :: (s.fltSrc rep).recoveredAt } := by
  have kept : (s.putFence rep false).fltSrc = s.fltSrc ∧ (s.putFence rep false).now = s.now := by
    unfold State.putFence
    split <;> exact ⟨rfl, rfl⟩
  obtain ⟨src, now⟩ := kept
  refine (State.modFltSrc_fltSrc ..).trans ((if_pos rfl).trans ?_)
  rw [src]

theorem unitRecovers_now {rep : Nat} : (unitRecovers rep s).now = s.now := by
  unfold unitRecovers State.putFence
  split <;> rfl

theorem State.fltLocked_unitRep {x : Nat} : s.fltLocked (unitRep x) = s.fltLocked x := by rw [fltLocked, fltLocked, fenceBit_unitRep]

/-! ### Disagreements -/

/-- R456: a disagreement that is still open at 1 ms, before its event. -/
def disagreeReported (d : Disagree) (n : Nat) (s : State) : State :=
  modDisagree d.kind d.index (fun d => { d with reported := true })
    ((s.untilAon n).modFlt fun c => { c with disagreeEvents := satInc c.disagreeEvents })

/-- R455: an open disagreement that was not reported yet is reported. -/
theorem execDisagree1ms_fresh {kind : Fin 10} {index : Half} {d : Disagree} (opened : s.openOn kind index.toNat = some d) (fresh : d.reported = false) :
    ∃ n, execDisagree1ms kind index s = done ((disagreeEvent 0 d (disagreeReported d n s)).pend 470) := by
  rw [execDisagree1ms, opened]
  exact ⟨_, if_neg (Bool.eq_false_iff.mp fresh)⟩

/-- R455: a disagreement that is still open at the end of its window, before its fault. -/
def disagreeLate (d : Disagree) (w : Nat) (s : State) : State := modDisagree d.kind d.index (fun d => { d with late := true }) (s.untilPlan w)

variable {kind index : Nat} {d : Disagree}

theorem disagreeReported_openOn {n : Nat} (h : s.openOn kind index = some d) : (disagreeReported d n s).openOn kind index = some { d with reported := true } := by
  obtain ⟨rfl, rfl⟩ := State.openOn_unit h
  refine modDisagree_openOn (f := fun d => { d with reported := true }) (fun _ => ⟨rfl, rfl⟩) ((State.openOn_of_disagreements ?_).trans h)
  exact (congrArg FltSt.disagreements (show (s.untilAon n).flt = s.flt by simp only [State.untilAon_frame]) :)

theorem disagreeLate_openOn {w : Nat} (h : s.openOn kind index = some d) : (disagreeLate d w s).openOn kind index = some { d with late := true } := by
  obtain ⟨rfl, rfl⟩ := State.openOn_unit h
  refine modDisagree_openOn (f := fun d => { d with late := true }) (fun _ => ⟨rfl, rfl⟩) ((State.openOn_of_disagreements ?_).trans h)
  simp only [State.untilPlan_frame]

theorem disagreeReported_rest {n : Nat} : (disagreeReported d n s).flt.disagreeEvents = satInc s.flt.disagreeEvents ∧
    (disagreeReported d n s).mem = s.mem ∧ (disagreeReported d n s).seq = s.seq := by
  refine ⟨(congrArg (fun c : FltSt => satInc c.disagreeEvents) (?_ : (s.untilAon n).flt = s.flt) :), rfl, rfl⟩
  simp only [State.untilAon_frame]

theorem disagreeLate_rest {w : Nat} : (disagreeLate d w s).fltSrc = s.fltSrc ∧ (disagreeLate d w s).mem = s.mem ∧ (disagreeLate d w s).truss = s.truss := by
  obtain ⟨flt, mem, truss⟩ : (s.untilPlan w).flt = s.flt ∧ (s.untilPlan w).mem = s.mem ∧ (s.untilPlan w).truss = s.truss := by
    simp only [State.untilPlan_frame, and_self]
  exact ⟨(congrArg (fun c : FltSt => tabGet c.src) flt :), mem, truss⟩

theorem closeTold_flt {e : Disagree} : (closeTold d e s).flt = (closeDisagree d s).flt :=
  ite_then State.flt rfl (State.flt_of_unheard disagreeEvent_unheard)

theorem closeTold_memSeq {e : Disagree} : (closeTold d e s).mem = s.mem ∧ (closeTold d e s).seq = s.seq := by
  obtain ⟨mem, seq⟩ := bringView_memSeq (d := d) (s := s)
  exact ⟨ite_then State.mem mem disagreeEvent_memSeq.1, ite_then State.seq seq disagreeEvent_memSeq.2⟩

/-- R455: of a unit, firmware's view is then the hardware's. -/
theorem closeDisagree_fwView (unit : d.kind < 8) : tabGet (closeDisagree d s).flt.fwView (65536 * d.kind + d.index) = s.hwView d.kind d.index := by
  have brings : bringView d s = s.modFlt fun c => { c with fwView := tabSet c.fwView (65536 * d.kind + d.index) (s.hwView d.kind d.index) } := if_pos unit
  rw [closeDisagree, brings]
  exact (tabGet_set ..).trans (if_pos rfl)

/-! ### Forces -/

theorem bitOf_toNat (v : Word) (i : Nat) : bitOf i v.toNat = v.getLsbD i := by
  rw [bitOf, BitVec.getLsbD, Nat.testBit_eq_decide_div_mod_eq, Bool.beq_eq_decide_eq]

/-- R459: a write's source number hangs on its low 8 bits. -/
theorem forceSource {v m : Word} (low : ∀ i < 8, m.getLsbD i = v.getLsbD i) : m.toNat % 256 = (v &&& 0xFF).toNat := by
  rw [BitVec.toNat_and]
  refine Nat.eq_of_testBit_eq fun i => ?_
  rw [show 256 = 2 ^ 8 from rfl, Nat.testBit_mod_two_pow, Nat.testBit_and, show (0xFF : Word).toNat = 2 ^ 8 - 1 from rfl, Nat.testBit_two_pow_sub_one]
  by_cases inside : i < 8
  · rw [decide_eq_true inside, Bool.true_and, Bool.and_true]
    exact low i inside
  · simp [inside]

/-- R459: the fields of a force write, as `fltForce` reads them. -/
theorem forceAssert_fields (v : Word) : (v &&& 0xFFF).toNat % 256 = (v &&& 0xFF).toNat ∧ bitOf 11 (v &&& 0xFFF).toNat = v.getLsbD 11 ∧
    bitOf 12 (v &&& 0xFFF).toNat = false ∧ bitOf 13 (v &&& 0xFFF).toNat = false := by
  refine ⟨forceSource fun i inside => ?_, ?_, ?_, ?_⟩
  · interval_cases i <;> simp
  all_goals
    rw [bitOf_toNat]
    simp

theorem forceBroken_fields (v : Word) : ((v &&& 0xFFF) ||| 0x1000).toNat % 256 = (v &&& 0xFF).toNat ∧
    bitOf 11 ((v &&& 0xFFF) ||| 0x1000).toNat = v.getLsbD 11 ∧ bitOf 12 ((v &&& 0xFFF) ||| 0x1000).toNat = true ∧
    bitOf 13 ((v &&& 0xFFF) ||| 0x1000).toNat = false := by
  refine ⟨forceSource fun i inside => ?_, ?_, ?_, ?_⟩
  · interval_cases i <;> simp
  all_goals
    rw [bitOf_toNat]
    simp

theorem forceRelease_fields (v : Word) : ((v &&& 0x1FFF) ||| 0x2000).toNat % 256 = (v &&& 0xFF).toNat ∧
    bitOf 13 ((v &&& 0x1FFF) ||| 0x2000).toNat = true := by
  refine ⟨forceSource fun i inside => ?_, ?_⟩
  · interval_cases i <;> simp
  · rw [bitOf_toNat]
    simp

/-- R459: a release returns the rails. -/
theorem fltForce_release {fn v : Nat} (unlocked : s.flt.testUnlocked = true) (reads : s.hasFltRead fn = true) (known : v % 256 ≤ 191)
    (releases : bitOf 13 v = true) : fltForce fn v s = fltReturn (v % 256) s := by
  simp [fltForce, unlocked, reads, Nat.not_lt.mpr known, releases]

end

end Sys2Proof.Machine
end

section
/-! SUPPORT. The statement of the family of faults, settled. -/

open Sys2Proof Sys2Proof.Machine

/-- Settles O53: an occurrence is one record and one reaction, which write apart; what the unit itself does spares the collector; and each other row
writes what it names. -/
theorem faultsAreRecordedAndReactedTo : Obligations.FaultsAreRecordedAndReactedTo := by
  refine fun s => ⟨fun x d o classed => ⟨fun new => ?occurs, execFaultOccurrence_held, fun held => ?hidden, fun new => ?wire, fun live free => ?falls,
    fun held => ?quiet, fun new => ?cycle, fun e runs has => ⟨fun few => ?recovers, fun many => ?locks⟩⟩, fun r l ring clocked => ?mirror,
    fun e runs => ?pulse, fun core new => ?watchdog, fun kind index => ⟨fun known differ closed d opened => ?opens, fun d opened =>
    ⟨fun fresh => ?reports, fun w early ends => ?late, ?closes⟩⟩, fun fn value x window unlocked reads source known => ⟨fun new => ?asserts, fun new => ?breaks, ?releases⟩⟩
  case occurs =>
    obtain ⟨t, ht, spared⟩ := execFaultOccurrence_spared (s := s) (x := x) (d := d)
    rw [State.fault_new new] at spared
    obtain ⟨asserted, -, cause, -, detail, time, occ, -, -⟩ := FltSrc.of_bits (s.occurs_fltSrc (x := x) (d := d) (broken := false) (forced := false)
      (given := none))
    have truss := (State.truss_of_spared spared).trans (State.memTruss_of_lasting State.occurs_lasting).2
    have flt := State.flt_of_spared spared
    subst classed
    have logged := fun room => (State.occurs_logged room).of_spared spared
    refine ⟨t, ht, ?_⟩
    rw [State.fltSrc_of_spared spared]
    refine ⟨asserted, cause, detail, time, occ, fun severe has => ?_, fun most => ?_, truss, logged⟩
    · exact (State.fenced_of_fence (congrArg FltSt.fence flt) _).trans (State.occurs_fenced severe has)
    · rw [flt]
      exact State.occurs_safe most
  case hidden =>
    obtain ⟨t, ht, spared⟩ := execFaultOccurrence_spared (s := s) (x := x) (d := d)
    have src : ((s.modFltSrc x.val fun c => { c with own := some (d, false) }).fltSrc x) = { s.fltSrc x with own := some (d, false) } :=
      (State.modFltSrc_fltSrc ..).trans (if_pos rfl)
    rw [State.fault_held (State.fltNew_forced held), fltHidden_forced held] at spared
    refine ⟨t, ht, ?_, ?_⟩ <;> rw [State.fltSrc_of_spared spared, src]
    rfl
  case wire =>
    have ends : exec (.brokenWire x) s = .next (s.occurs x (BitVec.allOnes 32) true false none).driveErrn := by
      rw [exec_brokenWire, execBrokenWire, State.faults_new new]
      rfl
    obtain ⟨-, wire, cause, -, detail, -, occ, -, -⟩ := FltSrc.of_bits (s.occurs_fltSrc (x := x) (d := BitVec.allOnes 32) (broken := true)
      (forced := false) (given := none))
    obtain ⟨mem, truss⟩ := State.memTruss_of_lasting (s.occurs_lasting (x := x) (d := BitVec.allOnes 32) (broken := true) (forced := false)
      (given := none))
    refine ⟨_, ends, ?_⟩
    rw [State.driveErrn_fltSrc]
    simp only [State.driveErrn_frame]
    exact ⟨wire, cause, detail, occ, mem, truss⟩
  case falls =>
    obtain ⟨asserted, wire, cause, trans, -⟩ := FltSrc.of_bits (State.fltFall_live free live)
    obtain ⟨mem, works⟩ := Prod.mk.inj (s.fltFall_works (x := x))
    refine ⟨_, exec_faultLiveFall, ?_⟩
    rw [State.driveErrn_fltSrc]
    simp only [State.driveErrn_frame]
    exact ⟨by rw [FltSrc.live, asserted, wire]; rfl, trans, cause, mem, (Prod.mk.inj works).2⟩
  case quiet =>
    rw [exec_faultLiveFall, execFaultLiveFall, State.fltFall_forced held]
    rfl
  case cycle =>
    obtain ⟨t, ht, spared⟩ := execFaultCollectorCycle_one (s := s) (x := x) (d := d) rfl
    generalize sampled : ((s.elapse 20).modFlt fun c => { c with errnPin := false, errnHigh := 0 }) = low at spared
    have src : low.fltSrc = s.fltSrc := by
      subst sampled
      rfl
    have still : low.fltNew x false = true := by rw [State.fltNew, State.railsNew, src]; exact new
    rw [State.faults_new still, if_neg Bool.false_ne_true] at spared
    obtain ⟨-, -, cause, -, detail, -, occ, -, -⟩ := FltSrc.of_bits (low.occurs_fltSrc (x := x) (d := d) (broken := false) (forced := false)
      (given := none))
    refine ⟨t, ht, ?_, ?_, ?_⟩
    · have clk := State.clk_of_lasting (low.occurs_lasting (x := x) (d := d) (broken := false) (forced := false) (given := none))
      rw [State.aon_of_spared spared, clk, ← sampled]
      exact State.elapse_aon ..
    · rw [State.flt_of_spared spared, State.errnPin_of_untaken State.occurs_untaken, ← sampled]
      rfl
    · rw [State.fltSrc_of_spared spared]
      exact ⟨cause, detail, by rw [← src]; exact occ⟩
  case recovers =>
    have units := (State.driveErrn_units _).trans (rearmPorts_units.trans (quietEnd_recovers runs few))
    have src : (unitRecovers (unitRep x) (quietOver x e s)).fltSrc (unitRep x) =
        { (quietOver x e s).fltSrc (unitRep x) with recoveredAt := (quietOver x e s).now :: ((quietOver x e s).fltSrc (unitRep x)).recoveredAt } :=
      unitRecovers_fltSrc
    refine ⟨_, exec_quietPeriodEnd, ?_, ?_, ?_⟩
    · refine (State.fenced_of_units units).trans (State.fenced_unitRep.symm.trans (State.putFence_fenced ?_))
      rwa [fenceBit_unitRep]
    · rw [State.fltSrc_of_units units, src, quietOver_fltSrc]
    · rw [State.fltSrc_of_units units, src, quietOver_fltSrc, State.now_of_units units, unitRecovers_now]
  case locks =>
    have units := (State.driveErrn_units _).trans (rearmPorts_units.trans (quietEnd_locks runs many))
    have locked : ((quietOver x e s).putLock (unitRep x) true).fltLocked (unitRep x) = true := State.putLock_locked (by rwa [fenceBit_unitRep])
    refine ⟨_, exec_quietPeriodEnd, ?_, ?_, ?_⟩
    · exact (State.fltLocked_of_units units).trans (State.fltLocked_unitRep.symm.trans locked)
    · refine (State.fenced_of_units units).trans (State.fenced_of_fence ?_ _)
      rw [State.putLock_flt, quietOver_fence]
    · have src : ((quietOver x e s).putLock (unitRep x) true).fltSrc = (quietOver x e s).fltSrc := by
        funext j
        simp only [State.fltSrc, State.putLock_flt]
      rw [State.fltSrc_of_units units, src, quietOver_fltSrc]
  case mirror =>
    have still := logCopies_sansBytes (s := s.mirrored r l) (l := r :: if s.flt.regionBad then s.fltMram.log else [])
    have ends := exec_faultRingMirror.trans (execFaultRingMirror_ready ring clocked)
    refine ⟨_, ends, ?_⟩
    simp only [State.driveErrn_frame]
    refine ⟨(congrArg State.flt still :), (congrArg State.fltMram still :), (congrArg State.truss still :), (congrArg State.seq still :), fun sound => ?_⟩
    rw [sound]
    refine ⟨rfl, fun a off => ?_⟩
    exact logCopy_outside (s := s.mirrored r l) off
  case pulse =>
    rw [exec_errnPulseEnd, execErrnPulseEnd, runs, if_neg (Nat.succ_ne_zero e), Nat.add_sub_cancel]
    rfl
  case watchdog =>
    have ends : exec (.coreWatchdogExpiry core) s = .next (s.occurs 186 (BitVec.ofNat 32 core) false false none).driveErrn := by
      rw [exec_coreWatchdogExpiry, execCoreWatchdogExpiry, State.fault_new new]
      rfl
    obtain ⟨-, -, cause, -, detail, -⟩ := FltSrc.of_bits (s.occurs_fltSrc (x := 186) (d := BitVec.ofNat 32 core) (broken := false) (forced := false)
      (given := none))
    obtain ⟨mem, truss⟩ := State.memTruss_of_lasting (s.occurs_lasting (x := 186) (d := BitVec.ofNat 32 core) (broken := false) (forced := false)
      (given := none))
    refine ⟨_, ends, ?_⟩
    rw [State.driveErrn_fltSrc]
    simp only [State.driveErrn_frame]
    exact ⟨cause, detail, mem, truss⟩
  case opens =>
    subst opened
    have open_ : ¬(viewUnits kind ≤ index.toNat ∨ s.hwView kind index.toNat = s.swView kind index.toNat ∨ (s.openOn kind index.toNat).isSome = true) := by
      simp [known, differ, closed]
    rw [exec_disagreeOpen, execDisagreeOpen, if_neg open_]
    rfl
  case reports =>
    obtain ⟨n, ends⟩ := execDisagree1ms_fresh opened fresh
    obtain ⟨mem, seq⟩ := disagreeEvent_memSeq (s := disagreeReported d n s) (d := d) (code := 0)
    have flt : ((disagreeEvent 0 d (disagreeReported d n s)).pend 470).flt = (disagreeReported d n s).flt :=
      State.flt_of_unheard (State.pend_unheard.trans disagreeEvent_unheard)
    refine ⟨_, exec_disagree1ms.trans ends, ?_, ?_, ?_, ?_⟩
    · rw [State.driveErrn_openOn, State.openOn_of_disagreements (congrArg FltSt.disagreements flt)]
      exact disagreeReported_openOn opened
    · simp only [State.driveErrn_frame]
      rw [flt]
      exact disagreeReported_rest.1
    · simp only [State.driveErrn_frame]
      rw [State.pend_eq]
      exact mem
    · simp only [State.driveErrn_frame]
      rw [State.pend_eq]
      exact seq
  case late =>
    have ends : execDisagreeWindowEnd kind index s = done ((disagreeLate d w s).fault 185 (BitVec.ofNat 32 (65536 * d.kind + d.index))) := by
      rw [execDisagreeWindowEnd, opened]
      dsimp only
      rw [if_neg (Bool.eq_false_iff.mp early), ends]
      rfl
    obtain ⟨mem, truss⟩ := State.memTruss_of_lasting ((disagreeLate d w s).fault_lasting 185 (BitVec.ofNat 32 (65536 * d.kind + d.index)))
    obtain ⟨sameKind, sameIndex⟩ := State.openOn_unit opened
    refine ⟨_, exec_disagreeWindowEnd.trans ends, ?_, fun new => ?_, ?_, ?_⟩
    · rw [State.driveErrn_openOn, State.openOn_of_disagreements (State.disagreements_of_untaken State.fault_untaken)]
      exact disagreeLate_openOn opened
    · have still : (disagreeLate d w s).fltNew 185 false = true := by
        rw [State.fltNew, State.railsNew, disagreeLate_rest.1]
        exact new
      obtain ⟨-, -, -, -, detail, -⟩ := FltSrc.of_bits ((disagreeLate d w s).occurs_fltSrc (x := 185)
        (d := BitVec.ofNat 32 (65536 * d.kind + d.index)) (broken := false) (forced := false) (given := none))
      rw [State.driveErrn_fltSrc, State.fault_new still, ← sameKind, ← sameIndex]
      exact detail
    · simp only [State.driveErrn_frame]
      exact mem.trans disagreeLate_rest.2.1
    · simp only [State.driveErrn_frame]
      exact truss.trans disagreeLate_rest.2.2
  case closes =>
    obtain ⟨sameKind, sameIndex⟩ := State.openOn_unit opened
    obtain ⟨mem, seq⟩ := closeTold_memSeq (s := s) (d := d) (e := { d with hw := s.hwView d.kind d.index, fw := s.hwView d.kind d.index })
    refine ⟨_, exec_disagreeClose.trans (execDisagreeClose_open opened), ?_⟩
    rw [State.driveErrn_openOn, State.openOn_of_disagreements (congrArg FltSt.disagreements closeTold_flt)]
    simp only [State.driveErrn_frame]
    rw [closeTold_flt, ← sameKind, ← sameIndex]
    exact ⟨closeDisagree_openOn, closeDisagree_fwView, mem, seq⟩
  case asserts =>
    obtain ⟨low, hold, wire, keeps⟩ := forceAssert_fields value
    have forced := fltForce_new (s := s.bar0) (fn := fn) (v := (value &&& 0xFFF).toNat) (broken := false) unlocked reads (by omega) keeps wire rfl
      (by rw [low, ← source]; exact new)
    rw [low, ← source, hold] at forced
    refine ⟨_, exec_fltForceAssert.trans (if_neg (by simp [window])), ?_⟩
    rw [State.driveErrn_fltSrc]
    simp only [State.driveErrn_frame]
    exact ⟨forced.cause, forced.forced, forced.mem, forced.truss, forced.detail⟩
  case breaks =>
    obtain ⟨low, hold, wire, keeps⟩ := forceBroken_fields value
    have forced := fltForce_new (s := s.bar0) (fn := fn) (v := ((value &&& 0xFFF) ||| 0x1000).toNat) (broken := true) unlocked reads (by omega) keeps wire
      rfl (by rw [low, ← source]; exact new)
    rw [low, ← source, hold] at forced
    refine ⟨_, exec_fltForceBroken.trans (if_neg (by simp [window])), ?_⟩
    rw [State.driveErrn_fltSrc]
    simp only [State.driveErrn_frame]
    exact ⟨forced.cause, forced.forced, forced.mem, forced.truss, forced.detail⟩
  case releases =>
    obtain ⟨low, frees⟩ := forceRelease_fields value
    have ends := fltForce_release (s := s.bar0) (fn := fn) (v := ((value &&& 0x1FFF) ||| 0x2000).toNat) unlocked reads (by omega) frees
    have returned := fltReturn_returned (s := s.bar0) (x := x)
    rw [low, ← source] at ends
    refine ⟨_, exec_fltForceRelease.trans (if_neg (by simp [window])), ?_⟩
    rw [ends, State.driveErrn_fltSrc]
    simp only [State.driveErrn_frame]
    exact ⟨returned.free, returned.live, returned.mem, returned.truss⟩

end

section
/-! SUPPORT. The end of a writeback frame, and the ingest, writeback and DMA commands (R375, R383, R384, R393, R401). -/

namespace Sys2Proof.Machine

/-- The writeback engines, the trusses and the sequencer. -/
def State.wbWorks (s : State) : Tab WbSt × TrussSt × SeqSt := (s.dma.wb, s.truss, s.seq)

section
variable {s t : State}

theorem State.wb_of_wbWorks (h : t.wbWorks = s.wbWorks) (e : Nat) : t.wb e = s.wb e := congrArg (fun v : Tab WbSt × TrussSt × SeqSt => tabGet v.1 e) h

/-- R394: the posting of a frame's record leaves the engines. -/
theorem postFrame_wbWorks {queue : Nat} {r : CplRec} : (postFrame queue r s).wbWorks = s.wbWorks := by
  have levelled : ∀ (q : Nat) (u : State), (cqLevel q u).wbWorks = u.wbWorks := fun _ _ => ite_keeps State.wbWorks rfl rfl
  have written : ∀ (q : Nat) (x : CplRec) (u : State), (cqWrite q x u).wbWorks = u.wbWorks := fun q x u => by
    refine (levelled ..).trans (ite_keeps State.wbWorks (ite_keeps State.wbWorks ?_ rfl) ?_)
    · exact (congrArg State.wbWorks (State.traffic_sansBytes ..) :)
    · exact (congrArg State.wbWorks (State.memWrite_sansBytes ..) :)
  have posted : ∀ (q : Nat) (u : State), (cqPost q r u).2.wbWorks = u.wbWorks := fun _ _ => (rfl)
  have dropped : ∀ (q : Nat) (u : State), (cqDrop q u).wbWorks = u.wbWorks := fun _ _ => (rfl)
  unfold postFrame
  refine ite_keeps State.wbWorks rfl (ite_keeps State.wbWorks (posted ..) (ite_keeps State.wbWorks ?_ ?_))
  · exact (dropped ..).trans (posted ..)
  · exact (written ..).trans (posted ..)

theorem State.assertLine_wbWorks {line : Nat} : (s.assertLine line).wbWorks = s.wbWorks := by
  refine foldl_keeps State.wbWorks (fun u c => ?_) ..
  dsimp only
  split
  · exact ite_keeps State.wbWorks (ite_keeps State.wbWorks rfl rfl) rfl
  · rfl

theorem State.pend_wbWorks {x : Nat} : (s.pend x).wbWorks = s.wbWorks := by
  rw [pend_eq]
  rfl

/-- R442: a fault's report leaves the engines and the trusses. -/
theorem State.fault_wb {x : Nat} {d : Word} (e : Nat) : (s.fault x d).wb e = s.wb e ∧ (s.fault x d).truss = s.truss := by
  have aside : (s.fault x d).dma.wb = s.dma.wb := (congrArg (fun v => v.1.dma.wb) fault_untaken :)
  exact ⟨congrArg (tabGet · e) aside, (memTruss_of_lasting (fault_lasting ..)).2⟩

/-- R383: an engine whose frame has ended. -/
def WbSt.idle (w : WbSt) : WbSt := { w with busy := false, ended := false, target := 0, bad := false }

/-- R384: an engine whose frame has ended whole. -/
def WbSt.whole (w : WbSt) : WbSt := { w.idle with complete := satInc w.complete, count := w.count + 1, lastN := w.frameN }

/-- R384: an engine whose frame has ended with a part missing. -/
def WbSt.broken (w : WbSt) : WbSt := { w.idle with incomplete := satInc w.incomplete }

variable {e : Nat}

/-- R384: the engine's own part of a frame's end. -/
def wbEnds (e : Nat) (f : WbSt → WbSt) (s : State) : State := (s.modWb e WbSt.idle).modWb e f

theorem wbEnds_wb {f : WbSt → WbSt} : (wbEnds e f s).wb e = f (s.wb e).idle := by
  simp [wbEnds]

/-- R384, R389: a whole frame is counted, posted, and a request on its line. -/
theorem wbReport_whole_works (aimed : (s.wb e).target ≠ 0) (sound : (s.wb e).bad = false) : (wbReport e s).wbWorks =
    (wbEnds e (fun w => { w with complete := satInc w.complete, count := w.count + 1, lastN := w.frameN }) s).wbWorks := by
  obtain ⟨r, ends⟩ : ∃ r, wbReport e s = (postFrame (s.wb e).queue r ((wbEnds e (fun w =>
      { w with complete := satInc w.complete, count := w.count + 1, lastN := w.frameN }) s).count (366 + e))).assertLine (20 + e) := by
    refine ⟨_, (if_neg aimed).trans (if_neg (Bool.eq_false_iff.mp sound))⟩
  rw [ends, State.assertLine_wbWorks, postFrame_wbWorks]
  rfl

/-- R384, R393: a frame with a part missing is counted, posted with status 7, and a fault. -/
theorem wbReport_broken_works (aimed : (s.wb e).target ≠ 0) (bad : (s.wb e).bad = true) :
    ∃ u : State, wbReport e s = u.fault (127 + e) 1 ∧ u.wbWorks = (wbEnds e (fun w => { w with incomplete := satInc w.incomplete }) s).wbWorks := by
  refine ⟨_, (if_neg aimed).trans (if_pos bad), ?_⟩
  rw [State.pend_wbWorks, postFrame_wbWorks]
  rfl

theorem wbReport_whole (aimed : (s.wb e).target ≠ 0) (sound : (s.wb e).bad = false) :
    (wbReport e s).wb e = (s.wb e).whole ∧ (wbReport e s).truss = s.truss ∧ (wbReport e s).seq = s.seq := by
  have works := wbReport_whole_works aimed sound
  exact ⟨(State.wb_of_wbWorks works e).trans wbEnds_wb, (congrArg (·.2.1) works :), (congrArg (·.2.2) works :)⟩

theorem wbReport_broken (aimed : (s.wb e).target ≠ 0) (bad : (s.wb e).bad = true) :
    (wbReport e s).wb e = (s.wb e).broken ∧ (wbReport e s).truss = s.truss := by
  obtain ⟨u, ends, works⟩ := wbReport_broken_works aimed bad
  obtain ⟨wb, truss⟩ := u.fault_wb (x := 127 + e) (d := 1) e
  rw [ends, wb, truss]
  exact ⟨(State.wb_of_wbWorks works e).trans wbEnds_wb, (congrArg (·.2.1) works :)⟩

theorem State.driveErrn_wb (s : State) (e : Nat) : s.driveErrn.wb e = s.wb e := by simp only [State.wb, driveErrn_frame]

theorem execWbFrameDone_ended {e : Fin 4} (live : s.flt.safe = false) (busy : (s.wb e).busy = true) (ended : (s.wb e).ended = true) :
    exec (.wbFrameDone e) s = .next (wbReport e s).driveErrn := by
  rw [exec_wbFrameDone, execWbFrameDone]
  simp only [live, busy, ended]
  rfl

/-! ### Commands -/

variable {c : KcpCtx}

/-- A ready query whose own part answers bytes and leaves the state is answered OK with them. -/
theorem kcp_query {id n : Nat} {body : Nat → State → Reply} {r : List Byte} (ready : kcpReady id 0 c s = true) (ordinary : id ≠ 0)
    (own : body (s.kcpFn c) s = replyOk s r) (length : r.length = n) :
    ∃ r : List Byte, r.length = n ∧ kcp id c body s = .next (kcpOk id c s s r) :=
  ⟨r, length, kcp_ok_of_sessions ready ordinary own rfl (.inr rfl)⟩

theorem execIngQuery_ok {source : Byte} (ready : kcpReady 0x0501 0 c s = true) :
    ∃ r : List Byte, r.length = 44 ∧ execIngQuery c source s = .next (kcpOk 0x0501 c s s r) :=
  kcp_query ready (by decide) rfl (by simp [leBytes, zeros])

theorem execDmaQuery_ok {channel : Byte} (ready : kcpReady 0x0522 0 c s = true) (known : channel.toNat ≤ 31)
    (granted : s.hasDma (s.kcpFn c) channel.toNat = true) :
    ∃ r : List Byte, r.length = 20 ∧ execDmaQuery c channel s = .next (kcpOk 0x0522 c s s r) := by
  refine kcp_query ready (by decide) ((if_neg (Nat.not_lt.mpr known)).trans (if_neg ?_)) ?_
  · simp [granted]
  · simp [leBytes, zeros]

variable {engine : Byte} {g o : Nat} {k : Truss}

theorem execWbQuery_ok (ready : kcpReady 0x0511 0 c s = true) (known : engine.toNat ≤ 3) (serves : s.wbOutput engine.toNat = some (g, k, o))
    (granted : s.hasGroup (s.kcpFn c) g = true) :
    ∃ r : List Byte, r.length = 40 ∧ execWbQuery c engine s = .next (kcpOk 0x0511 c s s r) := by
  have holds : ¬(!s.hasGroup (s.kcpFn c) g) = true := by simp [granted]
  refine kcp_query (r := ?bytes) ready (by decide) ((if_neg (Nat.not_lt.mpr known)).trans ?own) ?length
  case own =>
    rw [serves]
    exact if_neg holds
  case length => simp [leBytes, List.range_succ]

theorem execWbSetTarget_ok {count queue : Byte} {handles : List Half} (ready : kcpReady 0x0510 0 c s = true) (known : engine.toNat ≤ 3)
    (serves : s.wbOutput engine.toNat = some (g, k, o)) (granted : s.hasGroup (s.kcpFn c) g = true) (least : 2 ≤ count.toNat)
    (most : count.toNat ≤ 8) (posts : queue.toNat ≤ 7 ∨ queue = 0xFF)
    (valid : s.wbTargetBad (s.kcpFn c) k (k.output o) ((handles.take count.toNat).map (·.toNat)) = none) :
    execWbSetTarget c engine count queue handles s = .next (kcpOk 0x0510 c s (s.modSeq fun q => { q with deferred := q.deferred ++
      [{ group := g, wait := s.usableWait g, fn := s.kcpFn c,
         op := .target engine.toNat (if queue = 0xFF then 0 else queue.toNat + 1) ((handles.take count.toNat).map (·.toNat)) }] }) []) := by
  refine kcp_ok_of_sessions ready (by decide) ((if_neg (Nat.not_lt.mpr known)).trans ?_) rfl (.inr rfl)
  rw [serves]
  refine (if_neg (by simp [granted])).trans ((if_neg (by omega)).trans ((if_neg ?_).trans ?_))
  · rintro ⟨beyond, named⟩
    exact posts.elim (Nat.not_le.mpr beyond) named
  · rw [valid]

end

end Sys2Proof.Machine
end

section
/-! SUPPORT. The statement of the family of ingest, writeback and DMA about its commands, settled. -/

open Sys2Proof Sys2Proof.Machine

/-- Settles O50: a frame's record and its fault leave the engine's registers, and each command is its own branch. -/
theorem ingestWritebackAndDmaCommands : Obligations.IngestWritebackAndDmaCommands := by
  refine ⟨fun e s live busy ended aimed => ⟨fun sound => ?whole, fun bad => ?broken⟩, fun c s => ⟨fun source depth queue ready least most posts => ?cfg,
    fun source ready => exec_ingQuery ▸ execIngQuery_ok ready, fun engine g o k known serves granted =>
    ⟨fun ready => exec_wbQuery ▸ execWbQuery_ok ready known serves granted, fun count queue handles d ready least most posts valid deferred => ?target⟩,
    fun queue owner ready known names idle => ?owner, fun line source ready least most maps => ?maps,
    fun channel ready known granted => exec_dmaQuery ▸ execDmaQuery_ok ready known granted⟩⟩
  case whole =>
    obtain ⟨wb, truss, seq⟩ := wbReport_whole aimed sound
    refine ⟨_, execWbFrameDone_ended live busy ended, ?_⟩
    simp only [State.driveErrn_wb, State.driveErrn_frame, wb]
    exact ⟨rfl, rfl, rfl, rfl, rfl, truss, seq⟩
  case broken =>
    obtain ⟨wb, truss⟩ := wbReport_broken aimed bad
    refine ⟨_, execWbFrameDone_ended live busy ended, ?_⟩
    simp only [State.driveErrn_wb, State.driveErrn_frame, wb]
    exact ⟨rfl, rfl, rfl, rfl, rfl, truss⟩
  case cfg =>
    refine exec_ingCfg.trans (kcp_ok_of_sessions ready (by decide) ((if_neg (by omega)).trans (if_neg ?_)) rfl (.inr rfl))
    rintro ⟨beyond, named⟩
    exact posts.elim (Nat.not_le.mpr beyond) named
  case target =>
    subst deferred
    exact exec_wbSetTarget.trans (execWbSetTarget_ok ready known serves granted least most posts valid)
  case owner =>
    refine exec_dmaCqCfg.trans (kcp_ok_of_sessions ready (by decide) ?_ rfl (.inr rfl))
    exact (if_neg (by omega)).trans ((if_neg (by omega)).trans (if_neg (by simp [idle])))
  case maps =>
    refine exec_dmaReqMap.trans (kcp_ok_of_sessions ready (by decide) ((if_neg (by omega)).trans (if_neg ?_)) rfl (.inr rfl))
    rintro ⟨named, beyond⟩
    exact maps.elim named (Nat.not_le.mpr beyond)

end

section
/-! SUPPORT. The end of a command, and a load that succeeds, by what they leave (R144, R153, R165). -/

namespace Sys2Proof.Machine

section
variable {s t : State} {c : KcpCtx} {id extra : Nat} {inSafe : Bool} {body : Nat → State → Reply} {r : Reply}

/-- R153: a ready command ends in its effect, whose answer or whose session's release is sent. -/
theorem kcpRun_ends (ready : kcpReady id extra c s = true) (ordinary : id ≠ 0) (own : body (s.kcpFn c) s = r) :
    ∃ u, kcpRun id extra inSafe c body s = done u ∧ u.sansSent = r.st.sansSent := by
  rw [kcpRun, kcpBegin_ready ready ordinary, own]
  dsimp only
  split
  · exact ⟨_, rfl, kcpRelease_sansSent ..⟩
  · exact ⟨_, rfl, kcpAnswer_sansSent⟩

/-- R104: a load that answers bytes has met no poison; it moves counters alone. -/
theorem State.memLoad_some {x a n : Nat} {b : List Byte} (h : s.memLoad x a n = (some b, t)) : t.sansReads = s.sansReads := by
  have fetched := memFetch_sansReads a n {} s
  unfold memLoad at h
  split at h
  · have loaded : s.memFetch a n {} = (some b, t) := h
    rwa [loaded] at fetched
  · cases h

theorem State.sessions_of_sansReads (h : t.sansReads = s.sansReads) : t.host.mbx = s.host.mbx ∧ t.host.udp = s.host.udp :=
  ⟨(congrArg (fun u : State => u.host.mbx) h :), (congrArg (fun u : State => u.host.udp) h :)⟩

end

end Sys2Proof.Machine
end

section
/-! SUPPORT. The bulletin: raises, layings and messages (R411–R416). -/

namespace Sys2Proof.Machine

section
variable {s t : State}

/-- The service block and the trusses. -/
def State.board (s : State) : SvcSt × TrussSt := (s.svc, s.truss)

/-- The service block and its settings, CXL memory and the trusses. -/
def State.services (s : State) : SvcSt × SvcMram × MemSt × TrussSt := (s.svc, s.svcMram, s.mem, s.truss)

/-- What the laying of a bulletin leaves of the services: the raises, the messages, EMERG_N, memory and the trusses. -/
def State.raised (s : State) : List Raise × Tab Message × Bool × SvcMram × MemSt × TrussSt :=
  (s.svc.raises, s.svc.messages, s.svc.emerg, s.svcMram, s.mem, s.truss)

theorem State.services_of_lasting (h : t.lasting = s.lasting) : t.services = s.services := (congrArg State.services h :)
theorem State.raised_of_services (h : t.services = s.services) : t.raised = s.raised :=
  congrArg (fun v : SvcSt × SvcMram × MemSt × TrussSt => (v.1.raises, v.1.messages, v.1.emerg, v.2.1, v.2.2.1, v.2.2.2)) h
theorem State.raised_of_lasting (h : t.lasting = s.lasting) : t.raised = s.raised := raised_of_services (services_of_lasting h)
theorem State.raised_of_sansSent (h : t.sansSent = s.sansSent) : t.raised = s.raised := (congrArg State.raised h :)

theorem State.of_raised (h : t.raised = s.raised) : t.svc.raises = s.svc.raises ∧ t.svc.messages = s.svc.messages ∧ t.svc.emerg = s.svc.emerg ∧
    t.svcMram = s.svcMram ∧ t.mem = s.mem ∧ t.truss = s.truss := by
  simpa only [raised, Prod.mk.injEq] using h

theorem endBulletin_raised {g : Nat} : (endBulletin g s).raised = s.raised := ite_keeps State.raised rfl rfl

/-- R413, R414: a change of what is shown leaves the raises. -/
theorem refreshBulletin_raised {edited : Bool} : (refreshBulletin edited s).raised = s.raised := by
  unfold refreshBulletin
  split
  · refine (foldl_keeps State.raised (fun _ _ => endBulletin_raised) ..).trans ?_
    rfl
  · exact ite_keeps State.raised rfl rfl

theorem sendBeats_raised {l : List Nat} : (l.foldl (fun s k => sendBeat k s) s).raised = s.raised :=
  foldl_keeps State.raised (fun _ _ => State.raised_of_lasting (State.adtSend_lasting ..)) ..

theorem sendBeats_host {l : List Nat} : (l.foldl (fun s k => sendBeat k s) s).host = s.host :=
  foldl_keeps State.host (fun _ _ => State.adtSend_host ..) ..

/-- R413: a raise is the most recent of its origin. -/
theorem raiseBulletin_raised {r : Raise} : (raiseBulletin r s).raised =
    (s.modSvc fun v => { v with raises := r :: v.raises.filter fun x => x.origin != r.origin, recognised := s.clk.plan }).raised :=
  sendBeats_raised.trans refreshBulletin_raised

theorem endBulletin_host {g : Nat} : (endBulletin g s).host = s.host := ite_keeps State.host rfl rfl

theorem refreshBulletin_host {edited : Bool} : (refreshBulletin edited s).host = s.host := by
  unfold refreshBulletin
  split
  · refine (foldl_keeps State.host (fun _ _ => endBulletin_host) ..).trans ?_
    rfl
  · exact ite_keeps State.host rfl rfl

theorem raiseBulletin_host {r : Raise} : (raiseBulletin r s).host = s.host := sendBeats_host.trans (refreshBulletin_host.trans rfl)

theorem clearRaises_raised {p : Raise → Bool} :
    (clearRaises p s).raised = (s.modSvc fun v => { v with raises := v.raises.filter fun x => !p x }).raised := refreshBulletin_raised

/-- R413: with a raise there is one that is shown. -/
theorem State.topRaise_isSome (some_ : s.svc.raises ≠ []) : ∃ r, s.topRaise = some r := by
  have stays : ∀ (l : List Raise) (b : Raise), ∃ r, l.foldl (fun best r =>
      match best with
      | none => some r
      | some b => if (s.message b.message).prio < (s.message r.message).prio then some r else some b) (some b) = some r := by
    intro l
    induction l with
    | nil => exact fun b => ⟨b, rfl⟩
    | cons r l ih =>
      intro b
      rw [List.foldl_cons]
      dsimp only
      split
      · exact ih r
      · exact ih b
  obtain ⟨r, l, raises⟩ := List.exists_cons_of_ne_nil some_
  obtain ⟨top, shown⟩ := stays l r
  exact ⟨top, by rw [topRaise, raises, List.foldl_cons]; exact shown⟩

/-! ### EMERG_N -/

theorem emergEvent_lasting {released : Bool} : (emergEvent released s).lasting = s.lasting :=
  (State.pend_lasting ..).trans (State.recordTo_lasting ..)

theorem emergEvent_flt {released : Bool} : (emergEvent released s).flt = s.flt := State.flt_of_unheard (State.pend_unheard.trans State.recordTo_unheard)

theorem State.message_of_raised (h : t.raised = s.raised) (k : Nat) : t.message k = s.message k := by
  obtain ⟨-, messages, -, mram, -, -⟩ := of_raised h
  rw [message, message, messages, mram]

/-- R413: the state once EMERG_N's level is known and its event sent. -/
def emergTold (low : Bool) (s : State) : State := emergEvent (!low) (s.modSvc fun v => { v with emerg := low })

theorem emergTold_raised {low : Bool} : (emergTold low s).raised = (s.modSvc fun v => { v with emerg := low }).raised :=
  State.raised_of_lasting emergEvent_lasting

theorem emergAssert_eq : emergAssert s = if (emergTold true s).flt.safe ∨ !(emergTold true s).svcMram.emergEnable ∨
      ((emergTold true s).message (emergTold true s).svcMram.emergMessage).text.isEmpty then emergTold true s
    else raiseBulletin { origin := .emerg, message := (emergTold true s).svcMram.emergMessage } (emergTold true s) := rfl

theorem emergTold_parts {low : Bool} : (emergTold low s).svc.raises = s.svc.raises ∧ (emergTold low s).svc.messages = s.svc.messages ∧
    (emergTold low s).svc.emerg = low ∧ (emergTold low s).svcMram = s.svcMram ∧ (emergTold low s).mem = s.mem ∧ (emergTold low s).truss = s.truss :=
  State.of_raised emergTold_raised

theorem emergTold_flt {low : Bool} : (emergTold low s).flt = s.flt := emergEvent_flt.trans rfl

theorem emergAssert_shown (live : s.flt.safe = false) (enabled : s.svcMram.emergEnable = true) (full : (s.message s.svcMram.emergMessage).text ≠ []) :
    (emergAssert s).svc.raises = { origin := .emerg, message := s.svcMram.emergMessage } :: s.svc.raises.filter fun x => x.origin != .emerg := by
  obtain ⟨raises, messages, -, mram, -, -⟩ := emergTold_parts (s := s) (low := true)
  have message : (emergTold true s).message s.svcMram.emergMessage = s.message s.svcMram.emergMessage := by
    rw [State.message, State.message, mram, messages]
  rw [emergAssert_eq, emergTold_flt, mram, message, if_neg (by simp [live, enabled, full])]
  obtain ⟨shown, -⟩ := State.of_raised (raiseBulletin_raised (s := emergTold true s) (r := { origin := .emerg, message := s.svcMram.emergMessage }))
  refine shown.trans ?_
  rw [← raises]
  rfl

/-- What every recognition of EMERG_N leaves: its level is known, and memory and the trusses stay. -/
theorem emergAssert_level : (emergAssert s).svc.emerg = true ∧ (emergAssert s).mem = s.mem ∧ (emergAssert s).truss = s.truss := by
  obtain ⟨-, -, emerg, -, mem, truss⟩ := emergTold_parts (s := s) (low := true)
  rw [emergAssert_eq]
  generalize emergTold true s = u at emerg mem truss ⊢
  split
  · exact ⟨emerg, mem, truss⟩
  · obtain ⟨-, -, emerg', -, mem', truss'⟩ := State.of_raised (raiseBulletin_raised (s := u) (r := { origin := .emerg, message := u.svcMram.emergMessage }))
    exact ⟨emerg'.trans emerg, mem'.trans mem, truss'.trans truss⟩

theorem emergRelease_parts : (emergRelease s).svc.raises = (s.svc.raises.filter fun x => !(x.origin == .emerg)) ∧ (emergRelease s).svc.emerg = false ∧
    (emergRelease s).mem = s.mem ∧ (emergRelease s).truss = s.truss := by
  obtain ⟨raises, -, emerg, -, mem, truss⟩ := emergTold_parts (s := s) (low := false)
  have releases : emergRelease s = clearRaises (fun r => r.origin == .emerg) (emergTold false s) := rfl
  rw [releases]
  generalize emergTold false s = u at raises emerg mem truss ⊢
  obtain ⟨raises', -, emerg', -, mem', truss'⟩ := State.of_raised (clearRaises_raised (s := u) (p := fun r => r.origin == .emerg))
  exact ⟨raises'.trans (by rw [← raises]; rfl), emerg'.trans emerg, mem'.trans mem, truss'.trans truss⟩

theorem State.driveErrn_raised (s : State) : s.driveErrn.raised = s.raised := by simp only [raised, driveErrn_frame]

theorem State.driveErrn_emergLow (s : State) : s.driveErrn.pins.emergLow = s.pins.emergLow := ite_keeps (fun u : State => u.pins.emergLow) rfl rfl

theorem State.pins_of_lasting (h : t.lasting = s.lasting) : t.pins = s.pins := (congrArg State.pins h :)

theorem endBulletin_pins {g : Nat} : (endBulletin g s).pins = s.pins := ite_keeps State.pins rfl rfl

theorem refreshBulletin_pins {edited : Bool} : (refreshBulletin edited s).pins = s.pins := by
  unfold refreshBulletin
  split
  · refine (foldl_keeps State.pins (fun _ _ => endBulletin_pins) ..).trans ?_
    rfl
  · exact ite_keeps State.pins rfl rfl

theorem raiseBulletin_pins {r : Raise} : (raiseBulletin r s).pins = s.pins :=
  (foldl_keeps State.pins (fun _ _ => State.pins_of_lasting (State.adtSend_lasting ..)) ..).trans (refreshBulletin_pins.trans rfl)

theorem emergTold_pins {low : Bool} : (emergTold low s).pins = s.pins := (State.pins_of_lasting emergEvent_lasting).trans rfl

theorem emergAssert_pins : (emergAssert s).pins = s.pins := by
  rw [emergAssert_eq]
  exact ite_keeps State.pins emergTold_pins (raiseBulletin_pins.trans emergTold_pins)

theorem emergRelease_pins : (emergRelease s).pins = s.pins := by
  have releases : emergRelease s = clearRaises (fun r => r.origin == .emerg) (emergTold false s) := rfl
  have told := emergTold_pins (s := s) (low := false)
  rw [releases, clearRaises, refreshBulletin_pins]
  generalize emergTold false s = u at told ⊢
  exact told

theorem execEmergNAssert_running (high : s.pins.emergLow = false) (runs : s.boot.phase = .running) :
    exec .emergNAssert s = .next (emergAssert (s.modPins fun p => { p with emergLow := true })).driveErrn := by
  rw [exec_emergNAssert, execEmergNAssert, if_neg (by simp [high])]
  exact if_neg (by simp [State.modPins, runs])

theorem execEmergNRelease_running (low : s.pins.emergLow = true) (runs : s.boot.phase = .running) :
    exec .emergNRelease s = .next (emergRelease (s.modPins fun p => { p with emergLow := false })).driveErrn := by
  rw [exec_emergNRelease, execEmergNRelease, if_neg (by simp [low])]
  exact if_neg (by simp [State.modPins, runs])

/-! ### Layings -/

theorem State.writeCells_board {h copy cols : Nat} {cells : List (Nat × Nat)} : (s.writeCells h copy cols cells).board = s.board := by
  have hosted : ∀ (a : Nat) (bs : List Byte) (u : State), (u.hostWrite a bs {}).board = u.board := fun _ _ _ =>
    (congrArg State.board (State.traffic_sansBytes ..) :).trans rfl
  have stored : ∀ (a : Nat) (bs : List Byte) (u : State), (u.memWrite a bs).board = u.board := fun _ _ _ =>
    (congrArg State.board (State.memWrite_sansBytes ..) :)
  exact foldl_keeps State.board (fun _ _ => ite_keeps State.board (hosted ..) (stored ..)) ..

theorem State.deferAt_board {g wait f : Nat} {op : SillOp} : (s.deferAt g wait f op).board = s.board := by
  unfold deferAt
  dsimp only
  split
  · exact ite_keeps State.board (writeCells_board.trans rfl) rfl
  · rfl

theorem layBulletin_board {g wait m : Nat} {e : TSlot} : (layBulletin g wait m e s).board = s.board := by
  unfold layBulletin
  split
  · rfl
  · exact State.deferAt_board

theorem stageBulletin_board {laid origin g : Nat} : (stageBulletin laid origin g s).board = s.board := by
  unfold stageBulletin
  split
  · rfl
  · exact State.deferAt_board.trans (foldl_keeps State.board (fun _ _ => layBulletin_board) ..)

/-- R414: the state in which the message is laid, before the groups take it. -/
def laidNow (ns : Nat) (s : State) : State :=
  (s.untilPlan (s.svc.changedAt + min ns s.layingNs)).modSvc fun v =>
    { v with laying := 0, laid := v.laying, laidOrigin := match v.shown with | some r => r.origin.code | none => 0 }

theorem execBulletinLaid_laying {ns : Nat} (laying : s.svc.laying ≠ 0) (flows : s.seqStopped = false) :
    execBulletinLaid ns s = done (allGroups.foldl (fun u g => stageBulletin (laidNow ns s).svc.laid (laidNow ns s).svc.laidOrigin g u) (laidNow ns s)) := by
  rw [execBulletinLaid, if_neg (by simp [laying, flows])]
  rfl

theorem laidNow_board {ns : Nat} : (laidNow ns s).svc.laying = 0 ∧ (laidNow ns s).svc.laid = s.svc.laying ∧ (laidNow ns s).svc.raises = s.svc.raises ∧
    (laidNow ns s).truss = s.truss := by
  have svc : (s.untilPlan (s.svc.changedAt + min ns s.layingNs)).svc = s.svc := by simp only [State.untilPlan_frame]
  have truss : (s.untilPlan (s.svc.changedAt + min ns s.layingNs)).truss = s.truss := by simp only [State.untilPlan_frame]
  exact ⟨rfl, (congrArg SvcSt.laying svc :), (congrArg SvcSt.raises svc :), truss⟩

end

end Sys2Proof.Machine
end

section
/-! SUPPORT. Fields, character maps, mosaics and messages as their commands leave them (R402–R412, R419, R496). -/

namespace Sys2Proof.Machine

section
variable {s t : State} {c : KcpCtx}

/-! ### Fields -/

/-- R496: what a persisted text's writing leaves of a field is what its commit made. -/
theorem persistText_field {k : Nat} {text : List Byte} : ((persistText k text s).field k).buf = (s.field k).buf ∧
    ((persistText k text s).field k).frame = (s.field k).frame ∧ ((persistText k text s).field k).commits = (s.field k).commits ∧
    (persistText k text s).truss = s.truss := by
  unfold persistText
  dsimp only
  split
  · simp
  · split
    · simp
    · simp only [State.modField_field, if_true, State.modField_frame]
      exact ⟨rfl, rfl, rfl, rfl⟩

theorem State.driveErrn_field (s : State) (k : Nat) : s.driveErrn.field k = s.field k := by simp only [field, driveErrn_frame]

theorem execFieldPersistWrite_waiting {field : BitVec 11} {text : List Byte} (waits : (s.field field.toNat).persist = some text) :
    execFieldPersistWrite field s = done (persistText field.toNat text (s.untilAon ((s.field field.toNat).writtenAt - 1 + secNs 10))) := by
  rw [execFieldPersistWrite, waits]

/-- R496: 10 s after the last writing a waiting text is written. -/
theorem persistText_due {k : Nat} {text : List Byte} (due : (s.field k).writtenAt - 1 + secNs 10 ≤ s.now) :
    tabGet (persistText k text s).svcMram.texts k = text ∧ ((persistText k text s).field k).persist = none ∧ (persistText k text s).mem = s.mem ∧
    (persistText k text s).truss = s.truss ∧ (persistText k text s).seq = s.seq := by
  unfold persistText
  dsimp only
  rw [if_neg (by omega)]
  split
  · next same => simp [same]
  · simp [State.field, State.modField]

theorem State.deferAt_field {g wait f : Nat} {op : SillOp} (k : Nat) : (s.deferAt g wait f op).field k = s.field k ∧
    (s.deferAt g wait f op).truss = s.truss := by
  have board := s.deferAt_board (g := g) (wait := wait) (f := f) (op := op)
  exact ⟨congrArg (fun v : SvcSt × TrussSt => tabGet v.1.fields k) board, congrArg Prod.snd board⟩

theorem State.field_of_lasting (h : t.lasting = s.lasting) (k : Nat) : t.field k = s.field k := (congrArg (State.field · k) h :)

/-- R405, R406: a commit shows the text at its frame, and is counted. -/
theorem commitField_field {f k g h cols : Nat} {d : FieldDef} {laid : List (Nat × Nat) × Nat} {text : List Byte} {n : Word} :
    ((commitField f k g d h cols laid text n s).field k).buf = (s.field k).buf ∧ ((commitField f k g d h cols laid text n s).field k).frame = n ∧
    ((commitField f k g d h cols laid text n s).field k).commits = satInc (s.field k).commits ∧
    (commitField f k g d h cols laid text n s).truss = s.truss := by
  have told : ∀ (p : Nat → Bool) (code : Nat) (detail : List Byte) (u : State), ((u.serviceEvent p 0x0600 code k detail).pend 498).lasting = u.lasting :=
    fun _ _ _ _ => (State.pend_lasting ..).trans (State.recordTo_lasting ..)
  obtain ⟨field, truss⟩ := s.deferAt_field (g := g) (wait := s.usableWait g) (f := f) (op := .lay d.slot h cols laid.1) k
  generalize committed : (s.defer g f (.lay d.slot h cols laid.1)).modField k (fun x => { x with frame := n, commits := satInc x.commits }) = u
  have made : (u.field k).buf = (s.field k).buf ∧ (u.field k).frame = n ∧ (u.field k).commits = satInc (s.field k).commits ∧ u.truss = s.truss := by
    subst committed
    rw [State.modField_field, if_pos rfl]
    have same : (s.defer g f (.lay d.slot h cols laid.1)).field k = s.field k := field
    rw [same]
    exact ⟨rfl, rfl, rfl, truss⟩
  generalize persisted : (if d.flags.getLsbD 0 then persistText k text u else u) = v
  have kept : (v.field k).buf = (u.field k).buf ∧ (v.field k).frame = (u.field k).frame ∧ (v.field k).commits = (u.field k).commits ∧ v.truss = u.truss := by
    subst persisted
    split
    · exact persistText_field
    · exact ⟨rfl, rfl, rfl, rfl⟩
  have ends : (commitField f k g d h cols laid text n s).lasting = v.lasting := by
    subst persisted committed
    exact State.lasting_ite (State.lasting_then rfl (told ..)) ((told ..).trans (State.lasting_then rfl (told ..)))
  obtain ⟨madeBuf, madeFrame, madeCommits, madeTruss⟩ := made
  obtain ⟨buf, frame, commits, truss'⟩ := kept
  rw [State.field_of_lasting ends, (State.memTruss_of_lasting ends).2, buf, frame, commits, truss']
  exact ⟨madeBuf, madeFrame, madeCommits, madeTruss⟩

theorem boundedExtra_one {most n : Nat} (h : n ≤ most) : boundedExtra 1 most n = n := by
  rw [boundedExtra, if_pos h, Nat.one_mul]

variable {field : Half} {length : Byte} {text : List Byte} {g : Nat} {e : TSlot}

theorem fieldEdit_length {buf : List Byte} {n : Nat} : (fieldEdit (0 : Byte).toNat buf (fitBytes n text)).length = n := fitBytes_length ..

theorem fieldEdit_short {buf : List Byte} (short : length.toNat ≤ 40) :
    ¬(40 < length.toNat ∨ 255 < (fieldEdit (0 : Byte).toNat buf (fitBytes length.toNat text)).length) := by
  rw [fieldEdit_length]
  omega

/-- R405: SVC_FIELD_SET that replaces the buffer and commits nothing. -/
theorem execSvcFieldSet_edit (ready : kcpReady 0x0601 length.toNat c s = true) (known : field.toNat ≤ 2047)
    (granted : s.hasSlot (s.kcpFn c) (s.fieldDef field.toNat).slot = true) (short : length.toNat ≤ 40)
    (live : s.fieldLive (s.fieldDef field.toNat) = some (g, e)) :
    execSvcFieldSet c field 0 0 0 0 length text s =
      .next (kcpOk 0x0601 c s (s.modField field.toNat fun x => { x with buf := fitBytes length.toNat text }) (zeros 4)) := by
  rw [execSvcFieldSet, boundedExtra_one short]
  refine kcpRun_ok_of_sessions ready (by decide) ?_ rfl rfl
  refine (if_neg (Nat.not_lt.mpr known)).trans ((if_neg (by simp [granted])).trans ((if_neg (by decide)).trans ((if_neg (by simp)).trans
    ((if_neg (by simp)).trans ((if_neg (fieldEdit_short short)).trans ?_)))))
  rw [live]
  rfl

/-- R405, R406: SVC_FIELD_SET that replaces the buffer and commits it, at the first usable frame of the field's slot. -/
theorem execSvcFieldSet_commit (ready : kcpReady 0x0601 length.toNat c s = true) (known : field.toNat ≤ 2047)
    (granted : s.hasSlot (s.kcpFn c) (s.fieldDef field.toNat).slot = true) (short : length.toNat ≤ 40)
    (live : s.fieldLive (s.fieldDef field.toNat) = some (g, e)) (mapped : (s.cellMap e).isSome = true) :
    ∃ t, execSvcFieldSet c field 0 1 0 0 length text s = .next t ∧ (t.field field.toNat).buf = fitBytes length.toNat text ∧
      (t.field field.toNat).frame = s.frameAfter g (s.usableWait g) ∧
      (t.field field.toNat).commits = satInc (s.field field.toNat).commits ∧ t.truss = s.truss := by
  obtain ⟨⟨h, cols, rows⟩, map⟩ := Option.isSome_iff_exists.mp mapped
  let laid := s.fieldCells (s.fieldDef field.toNat) (s.fieldDef field.toNat).fg (s.fieldDef field.toNat).bg (s.surf h).format cols
    (fitBytes length.toNat text)
  let committed := commitField (s.kcpFn c) field.toNat g (s.fieldDef field.toNat) h cols laid (fitBytes length.toNat text)
    (s.frameAfter g (s.usableWait g)) (s.modField field.toNat fun x => { x with buf := fitBytes length.toNat text })
  obtain ⟨u, ends, same⟩ : ∃ u, execSvcFieldSet c field 0 1 0 0 length text s = done u ∧ u.sansSent = committed.sansSent := by
    rw [execSvcFieldSet, boundedExtra_one short]
    refine kcpRun_ends (r := replyOk committed (leBytes 4 (s.frameAfter g (s.usableWait g)).toNat)) ready (by decide) ?_
    refine (if_neg (Nat.not_lt.mpr known)).trans ((if_neg (by simp [granted])).trans ((if_neg (by decide)).trans ((if_neg (by simp)).trans
      ((if_neg (by simp)).trans ((if_neg (fieldEdit_short short)).trans ?_)))))
    rw [live]
    refine (if_neg (by simp)).trans ((if_neg ?_).trans ?_)
    · exact fun long => absurd long.2 (by rw [fieldEdit_length]; omega)
    · rw [map]
      rfl
  obtain ⟨buf, frame, commits, truss⟩ := commitField_field (s := s.modField field.toNat fun x => { x with buf := fitBytes length.toNat text })
    (f := s.kcpFn c) (k := field.toNat) (g := g) (h := h) (cols := cols) (d := s.fieldDef field.toNat) (laid := laid)
    (text := fitBytes length.toNat text) (n := s.frameAfter g (s.usableWait g))
  have fields : u.field field.toNat = _ := (congrArg (State.field · field.toNat) same :)
  refine ⟨_, ends, ?_⟩
  rw [State.driveErrn_field, fields]
  simp only [State.driveErrn_frame]
  rw [State.modField_field, if_pos rfl] at buf commits
  exact ⟨buf, frame, commits, (congrArg State.truss same :).trans truss⟩

theorem execSvcFieldQuery_ok (ready : kcpReady 0x0602 0 c s = true) (known : field.toNat ≤ 2047) :
    ∃ r : List Byte, r.length = 28 ∧ execSvcFieldQuery c field s = .next (kcpOk 0x0602 c s s r) :=
  kcp_query ready (by decide) (if_neg (Nat.not_lt.mpr known)) (by simp [leBytes])

/-! ### Character maps and mosaics -/

theorem execSvcCharmapLoad_ok {map : Byte} {address : Long} {h b : List Byte} {s1 s2 : State} (ready : kcpReady 0x0608 0 c s = true)
    (known : map.toNat ≤ 15) (mapped : s.memMapped address.toNat 16 = true) (head : s.memLoad 157 address.toNat 16 = (some h, s1))
    (magic : u h 0 4 = 0x4D434D47) (least : 1 ≤ u h 4 4) (most : u h 4 4 ≤ 65536) (mapped1 : s1.memMapped address.toNat (16 + 8 * u h 4 4) = true)
    (loaded : s1.memLoad 157 address.toNat (16 + 8 * u h 4 4) = (some b, s2)) (sound : charMapBad b (u h 4 4) = none) :
    execSvcCharmapLoad c map address s = .next (kcpOk 0x0608 c s
      (s2.modSvc fun v => { v with maps := tabSet v.maps map.toNat (charMapOf b) }) (leBytes 4 (u h 4 4))) := by
  have reads := (State.memLoad_some loaded).trans (State.memLoad_some head)
  obtain ⟨mbx, udp⟩ := State.sessions_of_sansReads reads
  refine kcp_ok_of_sessions ready (by decide) ?_ mbx (.inr udp)
  refine (if_neg (Nat.not_lt.mpr known)).trans ((if_neg (by simp [mapped])).trans ?_)
  rw [head]
  refine (if_neg (by omega)).trans ((if_neg (by simp [mapped1])).trans ?_)
  rw [loaded]
  dsimp only
  rw [sound]

variable {slot : Half} {k : Truss}

theorem withSlot_granted {f x : Nat} {go : Nat → Truss → TSlot → Reply} (granted : s.hasSlot f x = true) (entry : s.slotEntry x = some (g, k, e)) :
    withSlot f x s go = go g k e := by
  rw [withSlot, if_neg (by simp [granted]), entry]

theorem execSvcMosaicQuery_ok (granted : s.hasSlot (s.kcpFn c) slot.toNat = true) (entry : s.slotEntry slot.toNat = some (g, k, e))
    (mosaic : e.type = 3) (ready : kcpReady 0x0611 0 c s = true) :
    ∃ r : List Byte, r.length = 20 ∧ execSvcMosaicQuery c slot s = .next (kcpOk 0x0611 c s s r) :=
  kcp_query ready (by decide) ((withSlot_granted granted entry).trans (if_neg (by simp [mosaic]))) (by simp [leBytes])

theorem execSvcMosaicSet_ok {m p0 p1 : Half} {width : Byte} {colour : Word} (granted : s.hasSlot (s.kcpFn c) slot.toNat = true)
    (entry : s.slotEntry slot.toNat = some (g, k, e)) (mosaic : e.type = 3) (ready : kcpReady 0x0610 0 c s = true) (least : 1 ≤ width.toNat)
    (most : width.toNat ≤ 16) (first : s.patternBad (s.kcpFn c) e p0.toNat = false) (second : s.patternBad (s.kcpFn c) e p1.toNat = false) :
    execSvcMosaicSet c slot m width colour p0 p1 s = .next (kcpOk 0x0610 c s (s.defer g (s.kcpFn c) (.mosaic e.slot
      { given := true, m := m.toNat, width := width.toNat, colour := colour, pattern0 := p0.toNat, pattern1 := p1.toNat })) []) := by
  refine kcp_ok_of_sessions ready (by decide) ((withSlot_granted granted entry).trans ?_) rfl (.inr rfl)
  refine (if_neg (by simp [mosaic])).trans ((if_neg ?_).trans ((if_neg (by simp [first])).trans (if_neg (by simp [second]))))
  rintro (rfl | wide)
  · exact absurd least (by decide)
  · exact Nat.not_lt.mpr most wide

end

end Sys2Proof.Machine
end

section
/-! SUPPORT. The commands of fields, messages and the bulletin (R402, R412, R413, R419). -/

namespace Sys2Proof.Machine

section
variable {s t : State} {c : KcpCtx}

/-! ### Definitions of fields -/

theorem State.untilAon_reaches {n : Nat} (s : State) : n ≤ (s.untilAon n).now := by
  have aon : (s.untilAon n).now = s.clk.aon + (n - s.clk.aon) := rfl
  omega

theorem State.untilAon_field {n : Nat} (s : State) (k : Nat) : (s.untilAon n).field k = s.field k := by simp only [field, untilAon_frame]

variable {field slot col row cols rows : Half} {just flags map fg bg : Byte}

theorem execSvcFieldDefine_erase (ready : kcpReady 0x0600 0 c s = true) (known : field.toNat ≤ 2047) :
    execSvcFieldDefine c field 0xFFFF col row cols rows just flags map fg bg s = .next (kcpOk 0x0600 c s
      ((s.modSvcMram fun m => { m with fields := tabErase m.fields field.toNat, texts := tabErase m.texts field.toNat }).modSvc fun v =>
        { v with fields := tabErase v.fields field.toNat }) []) :=
  kcp_ok_of_sessions ready (by decide) ((if_neg (Nat.not_lt.mpr known)).trans (if_pos rfl)) rfl (.inr rfl)

theorem execSvcFieldDefine_field (ready : kcpReady 0x0600 0 c s = true) (known : field.toNat ≤ 2047) (placed : slot.toNat ≤ 8191)
    (justs : just.toNat ≤ 2) (maps : map.toNat ≤ 15) (fore : fg.toNat ≤ 15) (back : bg.toNat ≤ 15) {d : FieldDef}
    (defined : d = { defined := true, slot := slot.toNat, col := col.toNat, row := row.toNat, cols := cols.toNat, rows := rows.toNat,
                     just := just.toNat, flags := flags &&& 3, map := map.toNat, fg := fg.toNat, bg := bg.toNat }) :
    execSvcFieldDefine c field slot col row cols rows just flags map fg bg s =
      .next (kcpOk 0x0600 c s (s.modSvcMram fun m => { m with fields := tabSet m.fields field.toNat d }) []) := by
  subst defined
  have named : slot ≠ 0xFFFF := by
    rintro rfl
    exact absurd placed (by decide)
  refine kcp_ok_of_sessions ready (by decide) ?_ rfl (.inr rfl)
  exact (if_neg (Nat.not_lt.mpr known)).trans ((if_neg named).trans ((if_neg (Nat.not_lt.mpr placed)).trans ((if_neg (Nat.not_lt.mpr justs)).trans
    ((if_neg (Nat.not_lt.mpr maps)).trans ((if_neg (Nat.not_lt.mpr fore)).trans (if_neg (Nat.not_lt.mpr back)))))))

/-- R496: a text that has waited until `n` is written, and nothing waits for its field any more. -/
theorem persistText_waited {k n : Nat} {text : List Byte} (due : (s.field k).writtenAt - 1 + secNs 10 ≤ n) :
    tabGet (persistText k text (s.untilAon n)).svcMram.texts k = text ∧ ((persistText k text (s.untilAon n)).field k).persist = none ∧
    (persistText k text (s.untilAon n)).mem = s.mem ∧ (persistText k text (s.untilAon n)).truss = s.truss ∧
    (persistText k text (s.untilAon n)).seq = s.seq := by
  have reached := s.untilAon_reaches (n := n)
  have same := s.untilAon_field (n := n) k
  have left := s.untilAon_frame n
  generalize s.untilAon n = u at reached same left ⊢
  simpa only [left] using persistText_due (s := u) (k := k) (text := text) (same.symm ▸ due.trans reached)

/-- R496: a waiting text is written 10 s after its field was last written. -/
theorem execFieldPersistWrite_writes {field : BitVec 11} {text : List Byte} (waits : (s.field field.toNat).persist = some text) :
    ∃ t, execFieldPersistWrite field s = .next t ∧ tabGet t.svcMram.texts field.toNat = text ∧ (t.field field.toNat).persist = none ∧
      t.mem = s.mem ∧ t.truss = s.truss ∧ t.seq = s.seq := by
  have written := persistText_waited (text := text) (Nat.le_refl ((s.field field.toNat).writtenAt - 1 + secNs 10))
  have ends := execFieldPersistWrite_waiting waits
  generalize persistText field.toNat text _ = u at written ends
  refine ⟨_, ends, ?_⟩
  rw [State.driveErrn_field]
  simpa only [State.driveErrn_frame] using written

/-! ### Messages -/

/-- R412: a message is written under its number alone; the raises stay. -/
theorem putMessage_message {k : Nat} {x : Message} : (putMessage k x s).message k = x ∧
    (∀ j, j ≠ k → (putMessage k x s).message j = s.message j) ∧ (putMessage k x s).svc.raises = s.svc.raises ∧
    (putMessage k x s).mem = s.mem ∧ (putMessage k x s).truss = s.truss := by
  generalize stored : (if k < 8 then s.modSvcMram fun m => { m with messages := tabSet m.messages k x }
    else s.modSvc fun v => { v with messages := tabSet v.messages k x }) = u
  have put : u.message k = x ∧ (∀ j, j ≠ k → u.message j = s.message j) ∧ u.svc.raises = s.svc.raises ∧ u.mem = s.mem ∧ u.truss = s.truss := by
    subst stored
    by_cases persistent : k < 8
    · simp +contextual [persistent, State.message, State.modSvcMram]
    · simp +contextual [persistent, State.message, State.modSvc]
  have shown : (putMessage k x s).raised = u.raised := by
    subst stored
    exact ite_keeps State.raised rfl refreshBulletin_raised
  obtain ⟨raises, -, -, -, mem, truss⟩ := State.of_raised shown
  rw [State.message_of_raised shown, raises, mem, truss]
  exact ⟨put.1, fun j other => (State.message_of_raised shown j).trans (put.2.1 j other), put.2.2⟩

/-- R412: SVC_MSG_SET writes its message. -/
theorem execSvcMsgSet_ok {message op prio length : Byte} {text new : List Byte} (ready : kcpReady 0x0620 length.toNat c s = true)
    (known : message.toNat ≤ 15) (own : message.toNat < 8 → s.kcpFn c = 0) (ops : op.toNat ≤ 1) (maps : map.toNat ≤ 15) (fore : fg.toNat ≤ 15)
    (back : bg.toNat ≤ 15) (prios : prio.toNat ≤ 3) (short : length.toNat ≤ 36)
    (made : new = (if op = 1 then (s.message message.toNat).text else []) ++ fitBytes length.toNat text) (fits : new.length ≤ 160) :
    ∃ u, execSvcMsgSet c message op map fg bg prio length text s = done u ∧ u.sansSent =
      (putMessage message.toNat { text := new, map := map.toNat, fg := fg.toNat, bg := bg.toNat, prio := prio.toNat } s).sansSent := by
  have texts : (if op = 1 then (s.message message.toNat).text ++ fitBytes length.toNat text else fitBytes length.toNat text) = new := by
    subst made
    split
    · rfl
    · rfl
  rw [execSvcMsgSet, boundedExtra_one short]
  refine kcpRun_ends (r := replyOk (putMessage message.toNat { text := new, map := map.toNat, fg := fg.toNat, bg := bg.toNat, prio := prio.toNat } s))
    ready (by decide) ?_
  dsimp only
  rw [texts, if_neg (Nat.not_lt.mpr known), if_neg (fun low => low.2 (own low.1)), if_neg (Nat.not_lt.mpr ops), if_neg (Nat.not_lt.mpr maps),
    if_neg (Nat.not_lt.mpr fore), if_neg (Nat.not_lt.mpr back), if_neg (Nat.not_lt.mpr prios), if_neg (by omega)]

/-! ### Raises -/

/-- R419: the bulletin's answer moves no more than the one value it draws when no message is in force. -/
theorem bulletinReply_raised {more : Byte → State → List Byte} : (bulletinReply s more).st.raised = s.raised := by
  unfold bulletinReply
  split
  · rfl
  · rfl

theorem bulletinReply_shown {more : Byte → State → List Byte} {top : Raise} (shown : s.topRaise = some top) :
    bulletinReply s more = replyOk s (more (BitVec.ofNat 8 top.message) s) := by
  rw [bulletinReply, shown]

theorem bulletinReply_empty {more : Byte → State → List Byte} (empty : s.topRaise = none) :
    bulletinReply s more = replyOk s.draw.2 (more (BitVec.ofNat 8 s.draw.1) s.draw.2) := by
  rw [bulletinReply, empty]

theorem raiseBulletin_raises {r : Raise} : (raiseBulletin r s).svc.raises = r :: s.svc.raises.filter fun x => x.origin != r.origin :=
  (State.of_raised raiseBulletin_raised).1

/-- R413: SVC_BULLETIN raises a message that is not empty; the answer names the one shown. -/
theorem execSvcBulletin_raise {message : Byte} (ready : kcpReady 0x0621 0 c s = true) (known : message.toNat ≤ 15)
    (full : (s.message message.toNat).text ≠ []) : ∃ r : List Byte, r.length = 2 ∧ execSvcBulletin c 0 message s =
      .next (kcpOk 0x0621 c s (raiseBulletin { origin := s.raiseOrigin c, message := message.toNat } s) r) := by
  have host := raiseBulletin_host (s := s) (r := { origin := s.raiseOrigin c, message := message.toNat })
  obtain ⟨top, shown⟩ := State.topRaise_isSome (s := raiseBulletin { origin := s.raiseOrigin c, message := message.toNat } s)
    (raiseBulletin_raises ▸ List.cons_ne_nil _ _)
  refine ⟨[BitVec.ofNat 8 top.message, BitVec.ofNat 8
    (raiseBulletin { origin := s.raiseOrigin c, message := message.toNat } s).svc.raises.length], rfl, ?_⟩
  refine kcp_ok_of_sessions ready (by decide) ?_ (congrArg HostSt.mbx host :) (.inr (congrArg HostSt.udp host :))
  refine (if_neg (by decide)).trans ((if_neg (by simp)).trans ((if_neg (by decide)).trans ((if_neg (by decide)).trans
    ((if_neg (Nat.not_lt.mpr known)).trans ((if_neg (by simp [full])).trans (bulletinReply_shown shown))))))

/-- R413: SVC_BULLETIN clears the raises of its own origin, and for the PF all but EMERG_N's. -/
theorem execSvcBulletin_clears {op message : Byte} {p : Raise → Bool} (ready : kcpReady 0x0621 0 c s = true)
    (which : (op = 1 ∧ p = fun r => r.origin == s.raiseOrigin c) ∨ (op = 2 ∧ s.kcpFn c = 0 ∧ p = fun r => r.origin != .emerg)) :
    ∃ u, execSvcBulletin c op message s = .next u ∧ u.svc.raises = (s.svc.raises.filter fun x => !p x) ∧ u.mem = s.mem ∧ u.truss = s.truss := by
  let answer : Reply := bulletinReply (clearRaises p s) fun m s => [m, BitVec.ofNat 8 s.svc.raises.length]
  obtain ⟨u, ends, same⟩ : ∃ u, execSvcBulletin c op message s = done u ∧ u.sansSent = answer.st.sansSent := by
    rw [execSvcBulletin, kcp]
    refine kcpRun_ends (r := answer) ready (by decide) ?_
    obtain ⟨rfl, rfl⟩ | ⟨rfl, own, rfl⟩ := which
    · exact (if_neg (by decide)).trans ((if_neg (by simp)).trans ((if_neg (by decide)).trans (if_pos rfl)))
    · exact (if_neg (by decide)).trans ((if_neg (by simp [own])).trans (if_pos rfl))
  have cleared : u.driveErrn.raised = (s.modSvc fun v => { v with raises := v.raises.filter fun x => !p x }).raised :=
    u.driveErrn_raised.trans ((State.raised_of_sansSent same).trans (bulletinReply_raised.trans clearRaises_raised))
  obtain ⟨raises, -, -, -, mem, truss⟩ := State.of_raised cleared
  exact ⟨_, ends, raises, mem, truss⟩

/-- R419: SVC_BULLETIN_QUERY reports; with no message in force its byte is drawn. -/
theorem execSvcBulletinQuery_ok (ready : kcpReady 0x0622 0 c s = true) : ∃ (u : State) (r : List Byte), r.length = 16 ∧
    (u = s ∨ u = { s with free := s.free + 1 }) ∧ execSvcBulletinQuery c s = .next (kcpOk 0x0622 c s u r) := by
  cases top : s.topRaise with
  | some r =>
    exact ⟨s, _, by simp [leBytes], .inl rfl, kcp_ok_of_sessions ready (by decide) (bulletinReply_shown top) rfl (.inr rfl)⟩
  | none =>
    exact ⟨{ s with free := s.free + 1 }, _, by simp [leBytes], .inr rfl, kcp_ok_of_sessions ready (by decide) (bulletinReply_empty top) rfl (.inr rfl)⟩

end

end Sys2Proof.Machine
end

section
/-! SUPPORT. The statement of the family of standing services about fields, mosaics and the bulletin, settled. -/

open Sys2Proof Sys2Proof.Machine

/-- Settles O51: the raises live apart from what is laid, and each command is its own branch. -/
theorem fieldsMosaicsAndBulletin : Obligations.FieldsMosaicsAndBulletin := by
  refine ⟨fun s => ⟨fun high runs => ?asserted, fun low runs => ?released, fun ns laying flows => ?laid,
      fun field text waits => exec_fieldPersistWrite ▸ execFieldPersistWrite_writes waits⟩,
    fun c s => ⟨fun field slot col row cols rows just flags map fg bg ready known =>
      ⟨fun erased => erased ▸ exec_svcFieldDefine ▸ execSvcFieldDefine_erase ready known, fun placed justs maps fore back d defined =>
        exec_svcFieldDefine ▸ execSvcFieldDefine_field ready known placed justs maps fore back defined⟩,
    fun field length text g e d ready known defined granted short live => ?set,
    fun field ready known => exec_svcFieldQuery ▸ execSvcFieldQuery_ok ready known,
    fun map address h b s1 s2 ready known mapped head magic least most mapped1 loaded sound =>
      exec_svcCharmapLoad ▸ execSvcCharmapLoad_ok ready known mapped head magic least most mapped1 loaded sound,
    fun slot g t e granted entry mosaic => ⟨fun ready => exec_svcMosaicQuery ▸ execSvcMosaicQuery_ok granted entry mosaic ready,
      fun m width colour p0 p1 ready least most first second =>
        exec_svcMosaicSet ▸ execSvcMosaicSet_ok granted entry mosaic ready least most first second⟩,
    fun message op map fg bg prio length text new ready known own ops maps fore back prios short made fits => ?message,
    fun message ready => ⟨fun known full => ⟨exec_svcBulletin ▸ execSvcBulletin_raise ready known full, raiseBulletin_raises⟩, ?own, fun pf => ?all⟩,
    fun ready => exec_svcBulletinQuery ▸ execSvcBulletinQuery_ok ready, fun message enable ready known enables => ?emerg⟩⟩
  case asserted =>
    refine ⟨_, execEmergNAssert_running high runs, ?_⟩
    obtain ⟨raises, -, emerg, -, mem, truss⟩ := State.of_raised (emergAssert (s.modPins fun p => { p with emergLow := true })).driveErrn_raised
    obtain ⟨level, sameMem, sameTruss⟩ := emergAssert_level (s := s.modPins fun p => { p with emergLow := true })
    rw [State.driveErrn_emergLow, emergAssert_pins, raises, emerg, mem, truss]
    exact ⟨rfl, level, sameMem, sameTruss, emergAssert_shown (s := s.modPins fun p => { p with emergLow := true })⟩
  case released =>
    refine ⟨_, execEmergNRelease_running low runs, ?_⟩
    obtain ⟨raises, -, emerg, -, mem, truss⟩ := State.of_raised (emergRelease (s.modPins fun p => { p with emergLow := false })).driveErrn_raised
    rw [State.driveErrn_emergLow, emergRelease_pins, raises, emerg, mem, truss]
    obtain ⟨left, level, sameMem, sameTruss⟩ := emergRelease_parts (s := s.modPins fun p => { p with emergLow := false })
    exact ⟨rfl, level, left, sameMem, sameTruss⟩
  case laid =>
    refine ⟨_, exec_bulletinLaid.trans (execBulletinLaid_laying laying flows), ?_⟩
    obtain ⟨ends, laid, raises, truss⟩ := laidNow_board (s := s) (ns := ns)
    simp only [State.driveErrn_frame]
    have board := foldl_keeps State.board (f := fun u g => stageBulletin (laidNow ns s).svc.laid (laidNow ns s).svc.laidOrigin g u)
      (fun _ _ => stageBulletin_board) allGroups (laidNow ns s)
    generalize allGroups.foldl _ _ = u at board ⊢
    have svc : u.svc = (laidNow ns s).svc := congrArg Prod.fst board
    rw [svc]
    exact ⟨ends, laid, raises, (congrArg Prod.snd board :).trans truss⟩
  case set =>
    subst defined
    exact ⟨exec_svcFieldSet.trans (execSvcFieldSet_edit ready known granted short live),
      fun mapped => exec_svcFieldSet ▸ execSvcFieldSet_commit ready known granted short live mapped⟩
  case message =>
    obtain ⟨u, ends, same⟩ := execSvcMsgSet_ok ready known own ops maps fore back prios short made fits
    refine ⟨_, exec_svcMsgSet.trans ends, ?_⟩
    have kept := u.driveErrn_raised.trans (State.raised_of_sansSent same)
    obtain ⟨raises, -, -, -, mem, truss⟩ := State.of_raised kept
    simp only [State.message_of_raised kept, raises, mem, truss]
    exact putMessage_message
  case own => exact exec_svcBulletin ▸ execSvcBulletin_clears ready (.inl ⟨rfl, rfl⟩)
  case all =>
    obtain ⟨u, ends, raises, kept⟩ := execSvcBulletin_clears (message := message) ready (.inr ⟨rfl, pf, rfl⟩)
    refine ⟨u, exec_svcBulletin.trans ends, raises.trans ?_, kept⟩
    exact List.filter_congr fun r _ => Bool.not_not _
  case emerg =>
    exact exec_svcEmergCfg.trans (kcp_ok_of_sessions ready (by decide) ((if_neg (Nat.not_lt.mpr known)).trans (if_neg (Nat.not_lt.mpr enables))) rfl
      (.inr rfl))

end

section
/-! SUPPORT. Installations of firmware, tamper sensors and what they erase (R483, R489, R490, R493). -/

namespace Sys2Proof.Machine

section
variable {s t : State} {img : List Byte} {sigOk : Bool}

/-! ### Firmware images -/

/-- R483: whether an image is valid rests on the trust block alone. -/
theorem State.fwBad_of_lasting (h : t.lasting = s.lasting) : t.fwBad img sigOk = s.fwBad img sigOk := by
  have sec : t.sec = s.sec := (congrArg State.sec h :)
  unfold fwBad vendorKey
  rw [sec]

theorem putImage_fwImage {k : Nat} {x : FwImage} : (putImage k x s).fwImage k = x := by
  simp only [putImage, State.fwImage, State.modBoot]
  split
  · rfl
  · split
    · rfl
    · rfl

theorem putImage_rest {k : Nat} {x : FwImage} : (putImage k x s).sec = s.sec ∧ (putImage k x s).boot.flashBusy = s.boot.flashBusy ∧
    (putImage k x s).mem = s.mem ∧ (putImage k x s).truss = s.truss := by
  refine ⟨rfl, ?_, rfl, rfl⟩
  simp only [putImage, State.modBoot]
  split
  · rfl
  · exact ite_keeps BootSt.flashBusy rfl rfl

theorem State.modBootMram_fwImage {f : BootMram → BootMram} {k : Nat} : (s.modBootMram f).fwImage k = s.fwImage k := rfl

theorem State.fwImage_of_lasting (h : t.lasting = s.lasting) (k : Nat) : t.fwImage k = s.fwImage k := (congrArg (State.fwImage · k) h :)

theorem putImage_lasting {k : Nat} {x : FwImage} (h : t.lasting = s.lasting) : (putImage k x t).lasting = (putImage k x s).lasting := by
  by_cases first : k = 0
  · simp only [putImage, if_pos first]
    exact (congrArg (fun v : State => (v.modBoot fun b => { b with imgA := x }).lasting) h :)
  · by_cases second : k = 1
    · simp only [putImage, if_neg first, if_pos second]
      exact (congrArg (fun v : State => (v.modBoot fun b => { b with imgB := x }).lasting) h :)
    · simp only [putImage, if_neg first, if_neg second]
      exact (congrArg (fun v : State => (v.modBoot fun b => { b with imgGold := x }).lasting) h :)

theorem flashErased_lasting : (flashErased s).lasting = s.lasting := (State.countN_lasting ..).trans rfl

theorem countVerify_lasting : (countVerify false s).lasting = s.lasting := State.count_lasting ..

/-- R489: besides its directory entry, an installation is counted alone. -/
theorem imageInstalled_lasting {k : Nat} : (imageInstalled k img s).lasting = (putImage k (fwEntry img) s).lasting :=
  putImage_lasting (countVerify_lasting.trans ((State.countN_lasting ..).trans ((State.countN_lasting ..).trans flashErased_lasting)))

theorem imageReport_lasting {x : ImageWrite} {code detail : Nat} {st : Status} : (imageReport x code st detail s).lasting = s.lasting :=
  (State.pend_lasting ..).trans (State.recordTo_lasting ..)

/-- R489: an image that is taken has its region, and is selected where it is the next to run. -/
theorem imageTaken_parts {x : ImageWrite} (next : x.target = 0) : (imageTaken x img s).fwImage x.region = fwEntry img ∧
    (imageTaken x img s).bootMram.selB = (x.region == 1) ∧ (imageTaken x img s).sec = s.sec ∧
    (imageTaken x img s).boot.flashBusy = s.boot.flashBusy ∧ (imageTaken x img s).mem = s.mem ∧ (imageTaken x img s).truss = s.truss := by
  obtain ⟨sec, busy, mem, truss⟩ := putImage_rest (s := s) (k := x.region) (x := fwEntry img)
  have image := putImage_fwImage (s := s) (k := x.region) (x := fwEntry img)
  have installed := imageInstalled_lasting (s := s) (k := x.region) (img := img)
  rw [imageTaken, if_pos next]
  generalize imageInstalled x.region img s = v at installed ⊢
  generalize putImage x.region (fwEntry img) s = w at sec busy mem truss image installed
  exact ⟨State.modBootMram_fwImage.trans ((State.fwImage_of_lasting installed _).trans image), rfl, (congrArg State.sec installed :).trans sec,
    (congrArg (fun v : State => v.boot.flashBusy) installed :).trans busy, (congrArg State.mem installed :).trans mem,
    (congrArg State.truss installed :).trans truss⟩

/-- R489: the state in which the write of an image has ended. -/
def writeEnded (s : State) : State := (s.modSec fun c => { c with write := none }).modBoot fun b => { b with flashBusy := false }

theorem execImageWriteDone_taken {x : ImageWrite} {b : List Byte} (writes : s.sec.write = some x) (source : x.source = 1) (next : x.target = 0)
    (reach : s.fnReach x.fn = true) (clocked : (s.pll 9).gated = false) (sound : s.fwBad (fitBytes x.len b) sigOk = none) :
    execImageWriteDone (some b) sigOk true s = done (imageReport x 0 .ok 0
      (imageTaken x (fitBytes x.len b) (countVerify false ((writeEnded s).hostRead x.addr x.len false ⟨16, 69, x.fn⟩)))) := by
  have accepted : ((writeEnded s).hostRead x.addr x.len false ⟨16, 69, x.fn⟩).fwBad (fitBytes x.len b) sigOk = none :=
    (State.fwBad_of_lasting (State.hostRead_lasting ..)).trans sound
  rw [execImageWriteDone, if_neg (by simp [clocked]), writes]
  dsimp only
  rw [if_neg (by omega), if_pos (show ((s.modSec _).modBoot _).fnReach x.fn = true from reach)]
  dsimp only [Option.map_some]
  rw [show ((s.modSec fun c => { c with write := none }).modBoot fun b => { b with flashBusy := false }) = writeEnded s from rfl, accepted]
  dsimp only [Option.isSome_none]
  rw [if_neg (by omega), if_neg (by decide)]

theorem execImageWriteDone_parts {x : ImageWrite} {b : List Byte} (writes : s.sec.write = some x) (source : x.source = 1) (next : x.target = 0)
    (reach : s.fnReach x.fn = true) (clocked : (s.pll 9).gated = false) (sound : s.fwBad (fitBytes x.len b) sigOk = none) :
    ∃ t, execImageWriteDone (some b) sigOk true s = .next t ∧ t.fwImage x.region = fwEntry (fitBytes x.len b) ∧
      t.bootMram.selB = (x.region == 1) ∧ t.sec.write = none ∧ t.boot.flashBusy = false ∧ t.mem = s.mem ∧ t.truss = s.truss := by
  refine ⟨_, execImageWriteDone_taken writes source next reach clocked sound, ?_⟩
  have read : (countVerify false ((writeEnded s).hostRead x.addr x.len false ⟨16, 69, x.fn⟩)).lasting = (writeEnded s).lasting :=
    State.hostRead_lasting ..
  generalize countVerify false _ = v at read ⊢
  obtain ⟨image, selected, sec, busy, mem, truss⟩ := imageTaken_parts (s := v) (img := fitBytes x.len b) next
  have told := imageReport_lasting (x := x) (code := 0) (st := .ok) (detail := 0) (s := imageTaken x (fitBytes x.len b) v)
  generalize imageReport x 0 .ok 0 _ = w at told ⊢
  have last : ∀ k, w.driveErrn.fwImage k = w.fwImage k := fun k => by simp only [State.fwImage, State.driveErrn_frame]
  simp only [State.driveErrn_frame, last]
  refine ⟨(State.fwImage_of_lasting told _).trans image, (congrArg (fun v : State => v.bootMram.selB) told :).trans selected, ?_, ?_, ?_, ?_⟩
  · exact ((congrArg (fun v : State => v.sec.write) told :).trans (congrArg SecSt.write sec)).trans (congrArg (fun v : State => v.sec.write) read :)
  · exact ((congrArg (fun v : State => v.boot.flashBusy) told :).trans busy).trans (congrArg (fun v : State => v.boot.flashBusy) read :)
  · exact ((congrArg State.mem told :).trans mem).trans (congrArg State.mem read :)
  · exact ((congrArg State.truss told :).trans truss).trans (congrArg State.truss read :)

/-! ### Host recovery -/

/-- R490: a go that comes while no installation is under way starts one. -/
theorem rcvGo_starts {cfg : Bool} (recovers : s.boot.phase = .recovery) (idle : s.sec.rcvState = 0 ∨ 4 ≤ s.sec.rcvState.toNat) :
    rcvGo cfg s = s.modSec fun x => { x with rcvState := 1, rcvReason := 0, rcvCfg := cfg } := by
  refine if_neg ?_
  obtain none_ | past := idle
  · simp [recovers, none_]
  · simp [recovers]
    omega

theorem execIdRcvGo_starts (reached : s.reached 0 = true) (recovers : s.boot.phase = .recovery)
    (idle : s.sec.rcvState = 0 ∨ 4 ≤ s.sec.rcvState.toNat) :
    execIdRcvGo 0 s = .next ((s.count 199).modSec fun x => { x with rcvState := 1, rcvReason := 0, rcvCfg := false }).driveErrn := by
  refine (if_neg (by simp [reached])).trans ((if_neg (by simp)).trans ?_)
  rw [rcvGo_starts (s := s.bar0) recovers idle]
  rfl

theorem execIdRcvCfgReset_starts (reached : s.reached 0 = true) (recovers : s.boot.phase = .recovery)
    (idle : s.sec.rcvState = 0 ∨ 4 ≤ s.sec.rcvState.toNat) :
    execIdRcvCfgReset 0 s = .next ((s.count 199).modSec fun x => { x with rcvState := 1, rcvReason := 0, rcvCfg := true }).driveErrn := by
  refine (if_neg (by simp [reached])).trans ((if_neg (by simp)).trans ?_)
  rw [rcvGo_starts (s := s.bar0) recovers idle]
  rfl

section
variable (recovers : s.boot.phase = .recovery) (going : s.sec.rcvState = 1) (reach : s.fnReach 0 = true) (clocked : (s.pll 9).gated = false)
include recovers going reach clocked

/-- R490: what the host's memory does not give ends an installation with reason 1. -/
theorem execRcvInstallDone_unread : ∃ t, execRcvInstallDone none true true s = .next t ∧ t.sec.rcvState = 5 ∧ t.sec.rcvReason = 1 ∧
    t.boot.imgA = s.boot.imgA ∧ t.mem = s.mem ∧ t.truss = s.truss := by
  have read := State.hostRead_lasting s.sec.rcvAddr.toNat s.sec.rcvLen.toNat false { priv := 0 } s
  refine ⟨_, if_neg (by simp [recovers, going, reach, clocked]), ?_⟩
  generalize s.hostRead _ _ _ _ = v at read ⊢
  simp only [State.driveErrn_frame]
  exact ⟨rfl, rfl, (congrArg (fun v : State => v.boot.imgA) read :), (congrArg State.mem read :), (congrArg State.truss read :)⟩

theorem execRcvInstallDone_sound (fits : s.sec.rcvLen.toNat ≤ fwLimit) (aligned : s.sec.rcvAddr.toNat % 64 = 0)
    (sound : s.fwBad (fitBytes s.sec.rcvLen.toNat img) sigOk = none) : execRcvInstallDone (some img) sigOk true s =
      done (rcvInstall (fitBytes s.sec.rcvLen.toNat img)
        (countVerify false (s.hostRead s.sec.rcvAddr.toNat s.sec.rcvLen.toNat false { priv := 0 }))) := by
  have read := State.hostRead_lasting s.sec.rcvAddr.toNat s.sec.rcvLen.toNat false { priv := 0 } s
  have sec : (s.hostRead s.sec.rcvAddr.toNat s.sec.rcvLen.toNat false { priv := 0 }).sec = s.sec := (congrArg State.sec read :)
  rw [execRcvInstallDone, if_neg (by simp [recovers, going, reach, clocked])]
  dsimp only
  rw [sec, if_neg (by omega), (State.fwBad_of_lasting read).trans sound]
  exact if_neg (by decide)

end

theorem State.images_of_lasting (h : t.lasting = s.lasting) : t.boot.imgA = s.boot.imgA ∧ t.boot.imgB = s.boot.imgB ∧ t.mem = s.mem ∧
    t.truss = s.truss :=
  ⟨(congrArg (fun v : State => v.boot.imgA) h :), (congrArg (fun v : State => v.boot.imgB) h :), (congrArg State.mem h :),
    (congrArg State.truss h :)⟩

theorem putImage_first {x : FwImage} : (putImage 0 x s).boot.imgA = x ∧ (putImage 0 x s).boot.imgB = s.boot.imgB := ⟨rfl, rfl⟩

theorem putImage_golden {x : FwImage} : (putImage 2 x s).boot.imgA = s.boot.imgA ∧ (putImage 2 x s).boot.imgB = s.boot.imgB := ⟨rfl, rfl⟩

/-- What an installation of image A, and of the golden image after it, leaves of the other regions. -/
theorem imageInstalled_first : (imageInstalled 0 img s).boot.imgA = fwEntry img ∧ (imageInstalled 0 img s).boot.imgB = s.boot.imgB ∧
    (imageInstalled 0 img s).mem = s.mem ∧ (imageInstalled 0 img s).truss = s.truss := by
  obtain ⟨imgA, imgB, mem, truss⟩ := State.images_of_lasting (imageInstalled_lasting (s := s) (k := 0) (img := img))
  obtain ⟨-, -, mem', truss'⟩ := putImage_rest (s := s) (k := 0) (x := fwEntry img)
  exact ⟨imgA.trans putImage_first.1, imgB.trans putImage_first.2, mem.trans mem', truss.trans truss'⟩

theorem imageInstalled_golden : (imageInstalled 2 img s).boot.imgA = s.boot.imgA ∧ (imageInstalled 2 img s).boot.imgB = s.boot.imgB ∧
    (imageInstalled 2 img s).mem = s.mem ∧ (imageInstalled 2 img s).truss = s.truss := by
  obtain ⟨imgA, imgB, mem, truss⟩ := State.images_of_lasting (imageInstalled_lasting (s := s) (k := 2) (img := img))
  obtain ⟨-, -, mem', truss'⟩ := putImage_rest (s := s) (k := 2) (x := fwEntry img)
  exact ⟨imgA.trans putImage_golden.1, imgB.trans putImage_golden.2, mem.trans mem', truss.trans truss'⟩

/-- R490: the state in which an image that is installed is selected. -/
def rcvSelected (s : State) : State :=
  (s.modBootMram fun m =>
    { m with selB := false, selFail := 0, goldFail := 0, board := if s.sec.rcvCfg then rcvBoard m.board else m.board }).modSec fun x =>
    { x with rcvState := 4, rcvCfg := false }

theorem rcvInstall_eq : rcvInstall img s = rcvSelected
    (if bitOf 0 (u img 26 2) && !(s.boot.imgGold.present && s.boot.imgGold.valid) then imageInstalled 2 img (imageInstalled 0 img s)
      else imageInstalled 0 img s) := rfl

theorem rcvSelected_parts : (rcvSelected s).sec.rcvState = 4 ∧ (rcvSelected s).boot = s.boot ∧ (rcvSelected s).bootMram.selB = false ∧
    (rcvSelected s).mem = s.mem ∧ (rcvSelected s).truss = s.truss := ⟨rfl, rfl, rfl, rfl, rfl⟩

/-- R490: an installation leaves its image as A, selected. -/
theorem rcvInstall_parts : (rcvInstall img s).sec.rcvState = 4 ∧ (rcvInstall img s).boot.imgA = fwEntry img ∧
    (rcvInstall img s).boot.imgB = s.boot.imgB ∧ (rcvInstall img s).bootMram.selB = false ∧ (rcvInstall img s).mem = s.mem ∧
    (rcvInstall img s).truss = s.truss := by
  obtain ⟨imgA, imgB, mem, truss⟩ := imageInstalled_first (s := s) (img := img)
  obtain ⟨imgA', imgB', mem', truss'⟩ := imageInstalled_golden (s := imageInstalled 0 img s) (img := img)
  rw [rcvInstall_eq]
  split
  · obtain ⟨state, boot, selB, memS, trussS⟩ := rcvSelected_parts (s := imageInstalled 2 img (imageInstalled 0 img s))
    rw [boot, memS, trussS]
    exact ⟨state, imgA'.trans imgA, imgB'.trans imgB, selB, mem'.trans mem, truss'.trans truss⟩
  · obtain ⟨state, boot, selB, memS, trussS⟩ := rcvSelected_parts (s := imageInstalled 0 img s)
    rw [boot, memS, trussS]
    exact ⟨state, imgA, imgB, selB, mem, truss⟩

/-! ### Tamper -/

theorem tamper_lasting {x : Nat} : (tamper x s).lasting = (s.modSec fun c => { c with tamperSeen := true }).lasting :=
  (State.pend_lasting ..).trans (State.faultOpen_lasting ..)

theorem startMka_lasting {p : Nat} : (startMka p s).lasting = s.lasting := State.lasting_ite (State.manage_lasting ..) rfl

theorem ethEvent_lasting {p : Nat} : (ethEvent p s).lasting = s.lasting := (State.pend_lasting ..).trans (State.recordTo_lasting ..)

theorem restartMka_lasting {p : Nat} : (restartMka p s).lasting = s.lasting := by
  have started : ∀ f, (startMka p (s.modEth p f)).lasting = s.lasting := fun f => (startMka_lasting (s := s.modEth p f)).trans rfl
  unfold restartMka
  exact State.lasting_ite (started _) (ethEvent_lasting.trans (started _))

/-- R493: the keys are erased; what restarts on the ports holds none. -/
theorem eraseKeys_lasting : (eraseKeys s).lasting = ({ s with netKeys := [] }.modNetMram fun n => { n with keys := [] }).lasting := by
  have closed := closeUdpIf_lasting (fun _ => true) { s with netKeys := [] }
  unfold eraseKeys
  generalize closeUdpIf _ _ = v at closed ⊢
  rw [foldl_lasting fun _ _ => State.lasting_ite restartMka_lasting rfl]
  exact (congrArg (fun v : State => (v.modNetMram fun n => { n with keys := [] }).lasting) closed :)

theorem State.driveErrn_tmprLow (s : State) : s.driveErrn.pins.tmprLow = s.pins.tmprLow := ite_keeps (fun v : State => v.pins.tmprLow) rfl rfl

/-- R493: TMPR_N is sensed, and its action carried out. -/
theorem execTamperAssert_seen (high : s.pins.tmprLow = false) : ∃ t, execTamperAssert s = .next t ∧ t.pins.tmprLow = true ∧
    t.sec.tamperSeen = true ∧ (s.secMram.tamperAction = 1 → t.netKeys = [] ∧ t.netMram.keys = []) ∧ t.mem = s.mem := by
  have sensed := tamper_lasting (x := 163) (s := s.modPins fun p => { p with tmprLow := true })
  refine ⟨_, if_neg (by simp [high]), ?_⟩
  generalize tamper 163 _ = v at sensed ⊢
  rw [State.driveErrn_tmprLow]
  simp only [State.driveErrn_frame]
  have action : v.secMram = s.secMram := (congrArg State.secMram sensed :)
  have low : v.pins.tmprLow = true := (congrArg (fun v : State => v.pins.tmprLow) sensed :)
  have seen : v.sec.tamperSeen = true := (congrArg (fun v : State => v.sec.tamperSeen) sensed :)
  have mem : v.mem = s.mem := (congrArg State.mem sensed :)
  rw [action]
  split
  · have erased := eraseKeys_lasting (s := v)
    generalize eraseKeys v = w at erased ⊢
    exact ⟨(congrArg (fun v : State => v.pins.tmprLow) erased :).trans low, (congrArg (fun v : State => v.sec.tamperSeen) erased :).trans seen,
      fun _ => ⟨(congrArg State.netKeys erased :), (congrArg (fun v : State => v.netMram.keys) erased :)⟩, (congrArg State.mem erased :).trans mem⟩
  · next idle => exact ⟨low, seen, fun erases => absurd erases idle, mem⟩

theorem tamper_seen {x : Nat} : (tamper x s).driveErrn.sec.tamperSeen = true ∧ (tamper x s).driveErrn.mem = s.mem ∧
    (tamper x s).driveErrn.truss = s.truss ∧ (tamper x s).driveErrn.boot.tj = s.boot.tj := by
  have sensed := tamper_lasting (x := x) (s := s)
  generalize tamper x s = v at sensed ⊢
  simp only [State.driveErrn_frame]
  exact ⟨(congrArg (fun v : State => v.sec.tamperSeen) sensed :), (congrArg State.mem sensed :), (congrArg State.truss sensed :),
    (congrArg (fun v : State => v.boot.tj) sensed :)⟩

end

end Sys2Proof.Machine
end

section
/-! SUPPORT. The commands of trust and debug (R486–R493, R500). -/

namespace Sys2Proof.Machine

section
variable {s t s1 s2 : State} {c : KcpCtx} {address : Long} {sigOk : Bool} {b g : List Byte}

theorem State.memWrite_host {a : Nat} {bs : List Byte} : (s.memWrite a bs).host = s.host := (congrArg State.host (State.memWrite_sansBytes ..) :)

theorem State.pend_host {x : Nat} : (s.pend x).host = s.host := ite_keeps State.host rfl rfl

/-! ### Attestation -/

theorem deviceId_length : deviceId.length = 8 := by
  rw [deviceId, List.length_take, length_leBytes]
  rfl

theorem execSecAttest_device {nonce : List Byte} (ready : kcpReady 0x0A00 0 c s = true) (reads : s.hasFltRead (s.kcpFn c) = true)
    (mapped : s.memMapped address.toNat 3768 = true) (level : s.sec.level ≠ 2) (keyed : s.sec.keyFailed = false) : ∃ r : List Byte, r.length = 12 ∧
    execSecAttest c 1 address nonce s = .next (kcpOk 0x0A00 c s ((s.memWrite address.toNat (s.signedReport nonce)).count 444) r) := by
  refine ⟨leBytes 4 3768 ++ deviceId, by simp [length_leBytes, deviceId_length], ?_⟩
  have host := State.memWrite_host (s := s) (a := address.toNat) (bs := s.signedReport nonce)
  refine kcp_ok_of_sessions ready (by decide) ?_ (congrArg HostSt.mbx host :) (.inr (congrArg HostSt.udp host :))
  exact (if_neg (by simp [reads])).trans ((if_neg (by decide)).trans ((if_neg (by simp [mapped])).trans ((if_neg (fun host => absurd host.1 (by decide))).trans
    (if_neg (by simp [level, keyed])))))

theorem execSecIdentity_device (ready : kcpReady 0x0A01 0 c s = true)
    (mapped : s.memMapped address.toNat (Config.identityKey ++ Config.identityChain).length = true) :
    execSecIdentity c 1 address s = .next (kcpOk 0x0A01 c s (s.memWrite address.toNat (Config.identityKey ++ Config.identityChain))
      (leBytes 4 (Config.identityKey ++ Config.identityChain).length)) := by
  have host := State.memWrite_host (s := s) (a := address.toNat) (bs := Config.identityKey ++ Config.identityChain)
  refine kcp_ok_of_sessions ready (by decide) ?_ (congrArg HostSt.mbx host :) (.inr (congrArg HostSt.udp host :))
  exact (if_neg (by decide)).trans ((if_neg (fun out => absurd out.2 (by simpa using mapped))).trans (if_neg (fun host => absurd host.1 (by decide))))

/-! ### Keys -/

section
variable (ready : kcpReady 0x0A02 0 c s = true) (direct : overUdp c = false) (mapped : s.memMapped address.toNat 1960 = true)
  (loaded : s.memLoad 157 address.toNat 1960 = (some b, s1)) (magic : u b 0 4 = 0x524B4D47)
include ready direct mapped loaded magic

/-- R487: the first operator key needs no signature. -/
theorem execSecKeyInstall_first (slot : u b 4 1 = 1) (install : u b 5 1 = 0) (empty : (tabGet s.secMram.keys 1).state = 0) :
    execSecKeyInstall c address sigOk s = .next (kcpOk 0x0A02 c s (keyRecord 1 0 (b.drop 8) s1) []) := by
  have same := State.memLoad_some loaded
  have keys : s1.secMram = s.secMram := (congrArg State.secMram same :)
  obtain ⟨mbx, udp⟩ := State.sessions_of_sansReads same
  refine kcp_ok_of_sessions ready (by decide) ?_ mbx (.inr udp)
  refine (if_neg (by simp [direct])).trans ((if_neg (by simp [mapped])).trans ?_)
  rw [loaded]
  dsimp only
  rw [if_neg (by simp [magic]), if_neg (by omega), if_neg (by omega), keys, if_pos ⟨slot, install, empty⟩, slot, install]

/-- R487: a signed record is carried out. -/
theorem execSecKeyInstall_signed (op : u b 5 1 ≤ 1) (least : 1 ≤ u b 4 1) (most : u b 4 1 ≤ 6)
    (signed : ¬(u b 4 1 = 1 ∧ u b 5 1 = 0 ∧ (tabGet s.secMram.keys 1).state = 0)) (mapped1 : s1.memMapped (address.toNat + 1960) sigBytes = true)
    (block : s1.memLoad 157 (address.toNat + 1960) sigBytes = (some g, s2)) (formed : (readSig g 0).magicOk = true)
    (slot : (readSig g 0).keySlot = 1) (sound : s2.sigDetail b (readSig g 0) sigOk none = none) :
    execSecKeyInstall c address sigOk s = .next (kcpOk 0x0A02 c s (keyRecord (u b 4 1) (u b 5 1) (b.drop 8) (countVerify false s2)) []) := by
  have same := State.memLoad_some loaded
  have keys : s1.secMram = s.secMram := (congrArg State.secMram same :)
  obtain ⟨mbx, udp⟩ := State.sessions_of_sansReads ((State.memLoad_some block).trans same)
  refine kcp_ok_of_sessions ready (by decide) ?_ mbx (.inr udp)
  refine (if_neg (by simp [direct])).trans ((if_neg (by simp [mapped])).trans ?_)
  rw [loaded]
  dsimp only
  rw [if_neg (by simp [magic]), if_neg (by omega), if_neg (by omega), keys, if_neg signed, if_pos mapped1, block]
  dsimp only
  rw [if_pos ⟨formed, slot⟩, sound]

end

theorem State.keySlot_length {k : Nat} : (s.keySlot k).2.length = 16 := by
  have short : ∀ key, (keyIdOf key).length = 16 := fun key => by
    rw [keyIdOf, List.length_take, length_leBytes]
    rfl
  unfold keySlot
  split
  · exact length_leBytes ..
  · split
    · split
      · rfl
      · exact length_leBytes ..
    · dsimp only
      split
      · rfl
      · exact short _

theorem execSecKeyQuery_ok {slot : Byte} (ready : kcpReady 0x0A03 0 c s = true) (known : slot.toNat ≤ 7)
    (reads : s.hasFltRead (s.kcpFn c) = true) : ∃ r : List Byte, r.length = 20 ∧ execSecKeyQuery c slot s = .next (kcpOk 0x0A03 c s s r) :=
  kcp_query ready (by decide) ((if_neg (by simp [reads])).trans (if_neg (Nat.not_lt.mpr known))) (by simp [State.keySlot_length])

/-! ### Images and counters -/

/-- R489: SEC_IMAGE_WRITE begins the write of an image to the region that does not run. -/
theorem execSecImageWrite_starts {target source : Byte} {length : Word} {region : Nat} {w : ImageWrite} (ready : kcpReady 0x0A04 0 c s = true)
    (targets : target.toNat ≤ 1) (sources : source.toNat ≤ 1) (fits : length.toNat ≤ fwLimit)
    (mapped : source = 0 → s.memMapped address.toNat length.toNat = true) (idle : s.boot.flashBusy = false)
    (regions : region = (if target = 1 then 2 else if s.boot.image = 0 then 1 else if s.boot.image = 1 then 0 else if s.bootMram.selB then 0 else 1))
    (made : w = { target := target.toNat, source := source.toNat, region := region, len := length.toNat, addr := address.toNat, fn := s.kcpFn c }) :
    execSecImageWrite c target source length address s = .next (kcpStart 0x0A04 c s
      ((s.modSec fun x => { x with write := some w }).modBoot fun b => { b with flashBusy := true })) := by
  subst made regions
  refine kcp_start_of_sessions ready (by decide) ?_ rfl
  refine (if_neg (Nat.not_lt.mpr targets)).trans ((if_neg (Nat.not_lt.mpr sources)).trans ((if_neg (Nat.not_lt.mpr fits)).trans ((if_neg ?_).trans
    (if_neg (by simp [idle])))))
  rintro ⟨device, out⟩
  simp [mapped device] at out

theorem execSecImageQuery_ok {image : Byte} (ready : kcpReady 0x0A05 0 c s = true) (known : image.toNat ≤ 2) :
    ∃ r : List Byte, r.length = 28 ∧ execSecImageQuery c image s = .next (kcpOk 0x0A05 c s s r) :=
  kcp_query ready (by decide) (if_neg (Nat.not_lt.mpr known)) (by simp [length_leBytes])

/-- R488: a truss counter rises as far as the trusses that run or stand allow. -/
theorem execSecRollbackCommit_truss {value : Word} (ready : kcpReady 0x0A06 0 c s = true) (rises : s.secMram.trussCounter.toNat < value.toNat)
    (runs : ∀ t, s.running = some t → value.toNat ≤ t.security)
    (stand : ∀ k, k < 2 → (tabGet s.truss.standing k).valid = true → value.toNat ≤ (readTruss (tabGet s.truss.standing k).image).security) :
    execSecRollbackCommit c 1 value s = .next (kcpOk 0x0A06 c s
      ((s.modSecMram fun m => { m with trussCounter := value }).pend 490) (leBytes 4 value.toNat)) := by
  have pended := State.pend_host (x := 490) (s := s.modSecMram fun m => { m with trussCounter := value })
  have truss : (1 : Byte) ≠ 0 := by decide
  refine kcp_ok_of_sessions ready (by decide) ?_ (congrArg HostSt.mbx pended :) (.inr (congrArg HostSt.udp pended :))
  simp only [if_neg truss]
  refine (if_neg (by decide)).trans ((if_neg ?low).trans ((if_neg (fun fw => absurd fw.1 truss)).trans ((if_neg ?newer).trans (if_neg ?equal))))
  case low =>
    rintro (falls | fw)
    · omega
    · exact absurd fw.1 truss
  case newer =>
    rintro ⟨-, older⟩
    obtain ⟨v, held, below⟩ := List.any_eq_true.mp older
    have below := of_decide_eq_true below
    obtain run | standing := List.mem_append.mp held
    · cases running : s.running with
      | none => simp [running] at run
      | some t =>
        have least := runs t running
        simp only [running, List.mem_singleton] at run
        omega
    · obtain ⟨k, known, security⟩ := List.mem_filterMap.mp standing
      have small := List.mem_range.mp known
      split at security
      · next valid =>
        have least := stand k small valid
        have same := Option.some.inj security
        omega
      · cases security
  case equal => omega

/-! ### Debug -/

theorem execSecDebugChallenge_draws (ready : kcpReady 0x0A07 0 c s = true) (allowed : s.sec.blocked = false) :
    ∃ (n : Nat) (r : List Byte), r = leBytes 32 n ++ deviceId ∧ n < 2 ^ 256 ∧
      execSecDebugChallenge c s = .next (kcpOk 0x0A07 c s ({ s with free := s.free + 1 }.modSec fun x =>
        { x with challenge := some n, challengeEnd := s.now + secNs 60 }) r) := by
  refine ⟨s.draw.1 % 2 ^ 256, _, rfl, Nat.mod_lt _ (by positivity), ?_⟩
  exact kcp_ok_of_sessions ready (by decide) (if_neg (by simp [allowed])) rfl (.inr rfl)

/-- R492: debug is unlocked at the response's level, and the challenge is used up. -/
theorem unlocks_parts {level : Nat} : (unlocks level s).sec.level = max s.sec.level level ∧ (unlocks level s).sec.challenge = none ∧
    (unlocks level s).flt.testUnlocked = true ∧ (unlocks level s).mem = s.mem ∧ (unlocks level s).truss = s.truss := by
  generalize opened : ((s.modSec fun x => { x with challenge := none, level := max x.level level, level2Seen := x.level2Seen || level == 2 }).modFlt fun f =>
    { f with testUnlocked := true }) = v
  have lasting : (unlocks level s).lasting = v.lasting := by
    subst opened
    exact State.lasting_then (State.fault_lasting ..) (State.pend_lasting ..)
  have untaken : (unlocks level s).flt.testUnlocked = v.flt.testUnlocked := by
    subst opened
    have fault : ∀ (d : Word) (v : State), (v.fault 162 d).flt.testUnlocked = v.flt.testUnlocked := fun _ _ =>
      (congrArg (fun v : Aside × FltSt × FltMram => v.2.1.testUnlocked) State.fault_untaken :)
    exact ite_keeps (fun v : State => v.flt.testUnlocked) ((congrArg FltSt.testUnlocked (State.flt_of_unheard State.pend_unheard) :).trans (fault ..))
      (fault ..)
  rw [untaken]
  refine ⟨(congrArg (fun v : State => v.sec.level) lasting :).trans ?_, (congrArg (fun v : State => v.sec.challenge) lasting :).trans ?_, ?_,
    (congrArg State.mem lasting :).trans ?_, (congrArg State.truss lasting :).trans ?_⟩
  all_goals
    subst opened
    rfl

theorem execSecDebugUnlock_ok (ready : kcpReady 0x0A08 0 c s = true) (direct : overUdp c = false)
    (mapped : s.memMapped address.toNat (48 + sigBytes) = true) (loaded : s.memLoad 157 address.toNat (48 + sigBytes) = (some b, s1))
    (sound : s1.unlockBad (b.take 48) (readSig b 48) sigOk = none) : ∃ t, execSecDebugUnlock c address sigOk s = .next t ∧
    t.sec.level = max s.sec.level (u (b.take 48) 4 1) ∧ t.sec.challenge = none ∧ t.flt.testUnlocked = true ∧ t.mem = s.mem ∧ t.truss = s.truss := by
  have same := State.memLoad_some loaded
  obtain ⟨level, challenge, unlocked, mem, truss⟩ := unlocks_parts (s := countVerify false (s1.count 446)) (level := u (b.take 48) 4 1)
  obtain ⟨t, ends, sent⟩ : ∃ t, execSecDebugUnlock c address sigOk s = done t ∧
      t.sansSent = (unlocks (u (b.take 48) 4 1) (countVerify false (s1.count 446))).sansSent := by
    rw [execSecDebugUnlock, kcp]
    refine kcpRun_ends (r := replyOk (unlocks (u (b.take 48) 4 1) (countVerify false (s1.count 446)))
      [BitVec.ofNat 8 (unlocks (u (b.take 48) 4 1) (countVerify false (s1.count 446))).sec.level]) ready (by decide) ?_
    refine (if_neg (by simp [direct])).trans ((if_neg (by simp [mapped])).trans ?_)
    rw [loaded]
    dsimp only
    rw [show (s1.count 446).unlockBad (b.take 48) (readSig b 48) sigOk = none from sound]
  refine ⟨_, ends, ?_⟩
  generalize unlocks _ _ = v at level challenge unlocked mem truss sent
  simp only [State.driveErrn_frame]
  exact ⟨((congrArg (fun v : State => v.sec.level) sent :).trans level).trans
      (congrArg (fun v : State => max v.sec.level (u (b.take 48) 4 1)) same :),
    (congrArg (fun v : State => v.sec.challenge) sent :).trans challenge, (congrArg (fun v : State => v.flt.testUnlocked) sent :).trans unlocked,
    ((congrArg State.mem sent :).trans mem).trans (congrArg State.mem same :),
    ((congrArg State.truss sent :).trans truss).trans (congrArg State.truss same :)⟩

end

end Sys2Proof.Machine
end

section
/-! SUPPORT. The statement of the family of trust and security, settled. -/

open Sys2Proof Sys2Proof.Machine

/-- Settles O56: what an installation, a sensor or a command reports leaves the trust block, so each row is its own branch. -/
theorem trustAndTamper : Obligations.TrustAndTamper := by
  refine ⟨fun s => ⟨fun reached recovers idle => ⟨exec_idRcvGo.trans (execIdRcvGo_starts reached recovers idle),
      exec_idRcvCfgReset.trans (execIdRcvCfgReset_starts reached recovers idle)⟩,
    fun recovers going reach clocked => ⟨exec_rcvInstallDone ▸ execRcvInstallDone_unread recovers going reach clocked,
      fun img sigOk fits aligned sound => ?installed⟩,
    fun x b sigOk writes source next reach clocked sound =>
      exec_imageWriteDone ▸ execImageWriteDone_parts writes source next reach clocked sound,
    fun high => exec_tamperAssert ▸ execTamperAssert_seen high, fun low => exec_tamperRelease.trans (if_neg (by simp [low])),
    fun mv ns low long awake => ?glitch, fun tj hot awake => ?alarm,
    fun stands => exec_debugChallengeLapse.trans (if_neg (by simp [Option.isSome_iff_ne_none.mp stands]))⟩,
    fun c s => ⟨fun address nonce ready reads mapped level keyed => exec_secAttest ▸ execSecAttest_device ready reads mapped level keyed,
    fun address ready mapped => exec_secIdentity.trans (execSecIdentity_device ready mapped),
    fun address sigOk b s1 ready direct mapped loaded magic op =>
      ⟨fun slot install empty => exec_secKeyInstall.trans (execSecKeyInstall_first ready direct mapped loaded magic slot install empty),
      fun g s2 least most signed mapped1 block formed slot sound => exec_secKeyInstall.trans
        (execSecKeyInstall_signed ready direct mapped loaded magic op least most signed mapped1 block formed slot sound)⟩,
    fun slot ready known reads => exec_secKeyQuery ▸ execSecKeyQuery_ok ready known reads,
    fun target source length address region w ready targets sources fits mapped idle regions made =>
      exec_secImageWrite.trans (execSecImageWrite_starts ready targets sources fits mapped idle regions made),
    fun image ready known => exec_secImageQuery ▸ execSecImageQuery_ok ready known,
    fun value ready rises runs stand => exec_secRollbackCommit.trans (execSecRollbackCommit_truss ready rises runs stand),
    fun ready allowed => exec_secDebugChallenge ▸ execSecDebugChallenge_draws ready allowed,
    fun address sigOk b s1 ready direct mapped loaded sound => exec_secDebugUnlock ▸ execSecDebugUnlock_ok ready direct mapped loaded sound,
    fun action ready direct known => ?action⟩⟩
  case installed =>
    refine ⟨_, exec_rcvInstallDone.trans (execRcvInstallDone_sound recovers going reach clocked fits aligned sound), ?_⟩
    have read := State.hostRead_lasting s.sec.rcvAddr.toNat s.sec.rcvLen.toNat false { priv := 0 } s
    generalize s.hostRead _ _ _ _ = v at read ⊢
    obtain ⟨state, imgA, imgB, selB, mem, truss⟩ := rcvInstall_parts (s := countVerify false v) (img := fitBytes s.sec.rcvLen.toNat img)
    simp only [State.driveErrn_frame]
    exact ⟨state, imgA, imgB.trans (congrArg (fun v : State => v.boot.imgB) read :), selB, mem.trans (congrArg State.mem read :),
      truss.trans (congrArg State.truss read :)⟩
  case glitch =>
    obtain ⟨seen, mem, truss, -⟩ := tamper_seen (s := s) (x := 164)
    exact ⟨_, exec_supplyGlitch.trans (if_pos (by simp [low, long, State.sensing, awake])), seen, mem, truss⟩
  case alarm =>
    obtain ⟨seen, mem, truss, alarmed⟩ := tamper_seen (s := s.modBoot fun b => { b with tj := tj }) (x := 165)
    exact ⟨_, exec_temperatureAlarm.trans (if_pos ⟨hot, by simpa [State.sensing, State.modBoot] using awake⟩), alarmed, seen, mem, truss⟩
  case action =>
    exact exec_secTamperCfg.trans (kcp_ok_of_sessions ready (by decide) ((if_neg (by simp [direct])).trans (if_neg (Nat.not_lt.mpr known))) rfl (.inl direct))

end

section
/-! SUPPORT. The end of a command leaves the ports but for their frames, and the settings of the network as its effect made them (R153, R374). -/

namespace Sys2Proof.Machine

section
variable {s t : State} {c : KcpCtx} {id version : Nat} {r : Reply}

theorem udpSend_unheard {k kind : Nat} {secret : Bool} {body : List Byte} : (udpSend k kind secret body s).unheard = s.unheard :=
  State.sendIp_unheard.trans rfl

theorem udpRespond_unheard {k : Nat} {sizes : List Nat} {r : Response} : (udpRespond k sizes r s).unheard = s.unheard :=
  udpSend_unheard.trans rfl

theorem mbxRespond_unheard {f n : Nat} {r : Response} : (mbxRespond f n r s).unheard = s.unheard :=
  ite_keeps State.unheard (State.record_unheard.trans rfl) rfl

theorem kcpRelease_unheard : (kcpRelease c s).unheard = s.unheard := by
  unfold kcpRelease
  split
  · rfl
  · rfl

theorem kcpRespond_unheard {st : Status} {detail : Nat} {result : List Byte} : (kcpRespond id c version st detail result s).unheard = s.unheard := by
  refine ite_keeps State.unheard rfl ?_
  dsimp only
  split
  · exact mbxRespond_unheard
  · exact udpRespond_unheard

theorem kcpCounted_unheard : (kcpCounted id c r).unheard = r.st.unheard := by
  have session : (sessAnswered c r.status r.st).unheard = r.st.unheard := by
    unfold sessAnswered State.modSession
    split
    · rfl
    · rfl
  exact ite_then State.unheard (ite_keeps State.unheard rfl session) rfl

theorem kcpAnswer_unheard : (kcpAnswer id c version r).unheard = r.st.unheard :=
  kcpRelease_unheard.trans (kcpRespond_unheard.trans kcpCounted_unheard)

/-- What a command of the network settles: its settings, the clocks, memory, the trusses, the groups, and the ports but for their frames. -/
def State.settled (s : State) : NetMram × ClkSt × MemSt × TrussSt × SeqSt × (Nat → EthSt) :=
  (s.netMram, s.clk, s.mem, s.truss, s.seq, fun p => (s.eth p).steady)

theorem State.settled_of (unheard : t.unheard = s.unheard) (sansSent : t.sansSent = s.sansSent) : t.settled = s.settled := by
  have kept : (t.netMram, t.clk, t.mem, t.truss, t.seq) = (s.netMram, s.clk, s.mem, s.truss, s.seq) :=
    (congrArg (fun v : State => (v.netMram, v.clk, v.mem, v.truss, v.seq)) sansSent :)
  have ports : (fun p => (t.eth p).steady) = fun p => (s.eth p).steady := congrArg Aside.eth (aside_of_unheard unheard)
  simp only [Prod.mk.injEq] at kept
  obtain ⟨netMram, clk, mem, truss, seq⟩ := kept
  rw [settled, settled, ports, netMram, clk, mem, truss, seq]

theorem State.of_settled (h : t.settled = s.settled) : t.netMram = s.netMram ∧ t.clk = s.clk ∧ t.mem = s.mem ∧ t.truss = s.truss ∧ t.seq = s.seq ∧
    ∀ p, (t.eth p).steady = (s.eth p).steady := by
  simp only [settled, Prod.mk.injEq] at h
  obtain ⟨netMram, clk, mem, truss, seq, ports⟩ := h
  exact ⟨netMram, clk, mem, truss, seq, congrFun ports⟩

theorem State.ethCfg_of_netMram (h : t.netMram = s.netMram) (p : Nat) : t.ethCfg p = s.ethCfg p := congrArg (fun n : NetMram => tabGet n.ports p) h

theorem State.driveErrn_settled (s : State) : s.driveErrn.settled = s.settled := by simp only [settled, eth, driveErrn_frame]

/-- R153: a ready command's effect stands, whether it is answered or its session has gone. -/
theorem kcp_settles {body : Nat → State → Reply} (ready : kcpReady id 0 c s = true) (ordinary : id ≠ 0) (own : body (s.kcpFn c) s = r) :
    ∃ t, kcp id c body s = .next t ∧ t.settled = r.st.settled := by
  rw [kcp, kcpRun, kcpBegin_ready ready ordinary, own]
  dsimp only
  split
  · exact ⟨_, rfl, (State.driveErrn_settled _).trans (State.settled_of kcpRelease_unheard (kcpRelease_sansSent ..))⟩
  · exact ⟨_, rfl, (State.driveErrn_settled _).trans (State.settled_of kcpAnswer_unheard kcpAnswer_sansSent)⟩

/-! ### What links, sessions and MACsec settle -/

theorem State.manage_settled {p : Nat} {what : String} {fields : List Nat} : (s.manage p what fields).settled = s.settled :=
  settled_of manage_unheard (manage_sansSent ..)

theorem State.pend_settled {x : Nat} : (s.pend x).settled = s.settled := ite_keeps State.settled rfl rfl

theorem State.recordTo_settled {p : Nat → Bool} {k : Nat} {subject : Half} {payload : List Byte} :
    (s.recordTo p k subject payload).settled = s.settled := settled_of recordTo_unheard (recordTo_sansSent ..)

theorem ethEvent_settled {p : Nat} : (ethEvent p s).settled = s.settled := State.pend_settled.trans State.recordTo_settled

theorem startMka_settled {p : Nat} : (startMka p s).settled = s.settled := ite_keeps State.settled State.manage_settled rfl

theorem announceAddresses_settled {p : Nat} : (announceAddresses p s).settled = s.settled := by
  have first : (if (s.ethCfg p).ipv4 = 0 then s else s.manage p "ARP_GRATUITOUS" [(s.ethCfg p).ipv4]).settled = s.settled :=
    ite_keeps State.settled rfl State.manage_settled
  exact ite_keeps State.settled first (State.manage_settled.trans first)

/-- What a session's end leaves of the network and of the groups. -/
def State.unpeered (s : State) : NetMram × MemSt × TrussSt × SeqSt := (s.netMram, s.mem, s.truss, s.seq)

theorem State.unpeered_of_lasting (h : t.lasting = s.lasting) (seq : t.seq = s.seq) : t.unpeered = s.unpeered := by
  have kept : (t.netMram, t.mem, t.truss) = (s.netMram, s.mem, s.truss) := (congrArg (fun v : State => (v.netMram, v.mem, v.truss)) h :)
  simp only [Prod.mk.injEq] at kept
  obtain ⟨netMram, mem, truss⟩ := kept
  rw [unpeered, unpeered, seq, netMram, mem, truss]

theorem State.of_unpeered (h : t.unpeered = s.unpeered) : t.netMram = s.netMram ∧ t.mem = s.mem ∧ t.truss = s.truss ∧ t.seq = s.seq := by
  simpa only [unpeered, Prod.mk.injEq] using h

theorem State.unpeered_of_settled (h : t.settled = s.settled) : t.unpeered = s.unpeered := by
  obtain ⟨netMram, -, mem, truss, seq, -⟩ := of_settled h
  rw [unpeered, unpeered, seq, netMram, mem, truss]

theorem leaveSession_unpeered {k reason : Nat} : (leaveSession k reason s).unpeered = s.unpeered := by
  have sent : (s.adtSend k "LEAVE" 4 [reason]).unpeered = s.unpeered := State.unpeered_of_lasting (State.adtSend_lasting ..) (State.adtSend_seq ..)
  have told : ∀ v : State, (v.peerState k 0 reason).unpeered = v.unpeered := fun _ =>
    State.unpeered_of_lasting (State.peerState_lasting ..) (State.peerState_seq ..)
  have forgotten : ∀ (v : State) f g, (((keepRtag k v).modAdt f).modPeer k g).unpeered = v.unpeered := fun _ _ _ => rfl
  unfold leaveSession closeSession
  refine ite_keeps State.unpeered rfl ((ite_keeps State.unpeered rfl ?_).trans sent)
  exact (forgotten ..).trans (told _)

/-! ### The role in network time -/

theorem State.pend_unpeered {x : Nat} : (s.pend x).unpeered = s.unpeered := unpeered_of_settled pend_settled

theorem setTimeMode_unpeered {m : BitVec 2} : (setTimeMode m s).unpeered = s.unpeered :=
  ite_keeps State.unpeered rfl (State.pend_unpeered.trans rfl)

theorem setTimeMode_mode {m : BitVec 2} : (setTimeMode m s).clk.mode = m := by
  unfold setTimeMode
  split
  · next same => exact same
  · simp only [State.pend_frame]
    rfl

theorem becomeGrandmaster_unpeered : (becomeGrandmaster s).unpeered = s.unpeered := by
  unfold becomeGrandmaster
  dsimp only
  generalize moved : (if s.net.slave = 0 then _ else _ : State) = v
  have same : v.unpeered = s.unpeered := by
    subst moved
    exact ite_keeps State.unpeered rfl (State.pend_unpeered.trans rfl)
  refine (ite_keeps State.unpeered rfl ?_).trans same
  exact Eq.trans rfl (setTimeMode_unpeered (m := 3))

/-- R75, R355: a grandmaster's time base is in mode 3. -/
theorem becomeGrandmaster_mode : (becomeGrandmaster s).clk.mode = 3 := by
  unfold becomeGrandmaster
  dsimp only
  generalize (if s.net.slave = 0 then _ else _ : State) = v
  split
  · next already => exact already
  · exact setTimeMode_mode (m := 3)

theorem takeSlave_unpeered {p : Nat} : (takeSlave p s).unpeered = s.unpeered := by
  unfold takeSlave
  dsimp only
  generalize taken : (if s.net.slave ≠ p + 1 then _ else _ : State) = v
  have same : v.unpeered = s.unpeered := by
    subst taken
    exact ite_keeps State.unpeered (State.pend_unpeered.trans rfl) rfl
  exact (ite_keeps State.unpeered setTimeMode_unpeered rfl).trans same

theorem noSlave_unpeered : (noSlave s).unpeered = s.unpeered := by
  unfold noSlave
  dsimp only
  generalize left : (if s.net.slave = 0 then _ else _ : State) = v
  have same : v.unpeered = s.unpeered := by
    subst left
    exact ite_keeps State.unpeered rfl (State.pend_unpeered.trans rfl)
  exact (ite_keeps State.unpeered setTimeMode_unpeered (ite_keeps State.unpeered setTimeMode_unpeered rfl)).trans same

/-- R355: the choice of slave port or grandmaster leaves the settings, memory and the groups. -/
theorem selectClock_unpeered : (selectClock s).unpeered = s.unpeered := by
  unfold selectClock
  refine ite_keeps State.unpeered becomeGrandmaster_unpeered ?_
  split
  · exact ite_keeps State.unpeered becomeGrandmaster_unpeered takeSlave_unpeered
  · exact ite_keeps State.unpeered becomeGrandmaster_unpeered noSlave_unpeered

/-! ### A port's loss, and the restart of its MKA -/

theorem State.ethSteady_of_unheard (h : t.unheard = s.unheard) (p : Nat) : (t.eth p).steady = (s.eth p).steady :=
  congrFun (congrArg Aside.eth (aside_of_unheard h)) p

theorem State.fault_ethSteady {x p : Nat} {d : Word} : ((s.fault x d).eth p).steady = (s.eth p).steady :=
  (congrArg (fun v : Aside × FltSt × FltMram => v.1.eth p) fault_untaken :)

theorem ethEvent_unheard {p : Nat} : (ethEvent p s).unheard = s.unheard := State.pend_unheard.trans State.recordTo_unheard

theorem losePort_lost {p : Nat} : ((losePort p s).eth p).up = (s.eth p).up ∧ ((losePort p s).eth p).lost = true := by
  unfold losePort
  split
  · next already => exact ⟨rfl, already⟩
  · have steady := (State.ethSteady_of_unheard (chooseVariants_unheard (s := (s.modEth p fun e => { e with lost := true }).fault (57 + p) 1)) p).trans
      State.fault_ethSteady
    rw [State.modEth_eth, if_pos rfl] at steady
    exact ⟨(congrArg EthSt.up steady :), (congrArg EthSt.lost steady :)⟩

/-- R370: a link that goes down is lost. -/
theorem dropEth_lost {p : Nat} : ((dropEth p s).eth p).up = false ∧ ((dropEth p s).eth p).lost = true := by
  obtain ⟨up, lost⟩ := losePort_lost (p := p) (s := s.modEth p fun e =>
    { e with up := false, secured := false, mkaLive := false, rekey := false, asCapable := false, pdelayAt := 0, openNow := none })
  rw [State.modEth_eth, if_pos rfl] at up
  have steady := State.ethSteady_of_unheard (ethEvent_unheard (p := p) (s := losePort p (s.modEth p fun e =>
    { e with up := false, secured := false, mkaLive := false, rekey := false, asCapable := false, pdelayAt := 0, openNow := none }))) p
  exact ⟨(congrArg EthSt.up steady :).trans up, (congrArg EthSt.lost steady :).trans lost⟩

/-- R357: port `p` with its MKA begun anew. -/
def mkaReset (p : Nat) (s : State) : State :=
  s.modEth p fun e => { e with secured := false, mkaLive := false, mkaAt := s.now, rekey := false, packet := 0 }

theorem restartMka_settled {p : Nat} : (restartMka p s).settled = (mkaReset p s).settled := by
  have started := startMka_settled (p := p) (s := mkaReset p s)
  unfold restartMka
  exact ite_keeps State.settled started (ethEvent_settled.trans started)

theorem restartMka_unpeered {p : Nat} : (restartMka p s).unpeered = s.unpeered := (State.unpeered_of_settled restartMka_settled).trans rfl

theorem restartMka_open {p : Nat} : ((restartMka p s).eth p).secured = false ∧ ((restartMka p s).eth p).mkaLive = false := by
  obtain ⟨-, -, -, -, -, ports⟩ := State.of_settled (restartMka_settled (p := p) (s := s))
  have steady := ports p
  rw [mkaReset, State.modEth_eth, if_pos rfl] at steady
  exact ⟨(congrArg EthSt.secured steady :), (congrArg EthSt.mkaLive steady :)⟩

end

end Sys2Proof.Machine
end

section
/-! SUPPORT. The commands of ports, addresses, network time, MACsec, elimination and the calendar (R352–R374). -/

namespace Sys2Proof.Machine

section
variable {s t : State} {c : KcpCtx} {port : Byte}

theorem keepsCheck17_passes {v : State} {go : State → Reply} (passes : ∀ t, s.running = some t → v.check17 t = none) :
    keepsCheck17 s v go = go v := by
  have none_ : (s.running.bind fun t => v.check17 t) = none := by
    cases running : s.running with
    | none => rfl
    | some t => exact passes t running
  rw [keepsCheck17, none_]

/-! ### Ports -/

theorem countFec_host {p : Nat} : (countFec p s).host = s.host := ite_keeps State.host rfl rfl

theorem execNetPortQuery_ok (ready : kcpReady 0x0440 0 c s = true) (known : port.toNat ≤ 3) :
    ∃ r : List Byte, r.length = 48 ∧ execNetPortQuery c port s = .next (kcpOk 0x0440 c s (countFec port.toNat s) r) := by
  have host := countFec_host (s := s) (p := port.toNat)
  exact ⟨_, by simp [length_leBytes, zeros], kcp_ok_of_sessions ready (by decide) (if_neg (Nat.not_lt.mpr known)) (congrArg HostSt.mbx host :)
    (.inr (congrArg HostSt.udp host :))⟩

theorem execNetPortCfg_ok {mode txInvert adt pcpSlice pcpControl pcpRepair flags : Byte} {largest cap : Half} {v : State}
    (ready : kcpReady 0x0441 0 c s = true) (known : port.toNat ≤ 3) (modes : mode.toNat ≤ 3) (inverts : txInvert.toNat ≤ 1) (adts : adt.toNat ≤ 1)
    (least : 1522 ≤ largest.toNat) (most : largest.toNat ≤ 9216) (slice : pcpSlice.toNat ≤ 7) (control : pcpControl.toNat ≤ 7)
    (repair : pcpRepair.toNat ≤ 7) (some_ : 1 ≤ cap.toNat) (caps : cap.toNat ≤ 1024) (idle : (s.ethCfg port.toNat).enabled = false)
    (made : v = s.modCfg port.toNat fun k =>
      { k with mode := mode.toNat, txInvert := txInvert == 1, adt := adt == 1, largest := largest.toNat, pcpSlice := pcpSlice.toNat,
               pcpControl := pcpControl.toNat, pcpRepair := pcpRepair.toNat, rtag := flags.getLsbD 0, cap := cap.toNat })
    (passes : ∀ t, s.running = some t → v.check17 t = none) :
    execNetPortCfg c port mode txInvert adt largest pcpSlice pcpControl pcpRepair flags cap s = .next (kcpOk 0x0441 c s v []) := by
  subst made
  have nonzero : ¬(cap = 0 ∨ 1024 < cap.toNat) := by
    rintro (rfl | beyond)
    · exact absurd some_ (by decide)
    · omega
  refine kcp_ok_of_sessions ready (by decide) ?_ rfl (.inr rfl)
  refine (if_neg (Nat.not_lt.mpr known)).trans ((if_neg (Nat.not_lt.mpr modes)).trans ((if_neg (Nat.not_lt.mpr inverts)).trans
    ((if_neg (Nat.not_lt.mpr adts)).trans ((if_neg (by omega)).trans ((if_neg (Nat.not_lt.mpr slice)).trans ((if_neg (Nat.not_lt.mpr control)).trans
    ((if_neg (Nat.not_lt.mpr repair)).trans ((if_neg nonzero).trans ((if_neg (by simp [idle])).trans ?_)))))))))
  exact keepsCheck17_passes passes

theorem execNetPortEnable_same {enable : Byte} (ready : kcpReady 0x0442 0 c s = true) (known : port.toNat ≤ 3) (enables : enable.toNat ≤ 1)
    (same : (s.ethCfg port.toNat).enabled = (enable == 1)) : execNetPortEnable c port enable s = .next (kcpOk 0x0442 c s s []) :=
  kcp_ok_of_sessions ready (by decide) ((if_neg (Nat.not_lt.mpr known)).trans ((if_neg (Nat.not_lt.mpr enables)).trans (if_pos same))) rfl (.inr rfl)

/-- R370, R374: a port takes its enable; one that is disabled is lost. -/
theorem execNetPortEnable_leaves {enable : Byte} (ready : kcpReady 0x0442 0 c s = true) (known : port.toNat ≤ 3) (enables : enable.toNat ≤ 1) :
    ∃ t, execNetPortEnable c port enable s = .next t ∧ (t.ethCfg port.toNat).enabled = (enable == 1) ∧
      (enable = 0 → (s.ethCfg port.toNat).enabled = true → (t.eth port.toNat).up = false ∧ (t.eth port.toNat).lost = true) ∧
      t.mem = s.mem ∧ t.truss = s.truss ∧ ∀ q, q ≠ port.toNat → t.ethCfg q = s.ethCfg q := by
  by_cases same : (s.ethCfg port.toNat).enabled = (enable == 1)
  · obtain ⟨t, ends, settled⟩ : ∃ t, execNetPortEnable c port enable s = .next t ∧ t.settled = s.settled :=
      kcp_settles (r := replyOk s) ready (by decide)
        ((if_neg (Nat.not_lt.mpr known)).trans ((if_neg (Nat.not_lt.mpr enables)).trans (if_pos same)))
    obtain ⟨netMram, -, mem, truss, -, -⟩ := State.of_settled settled
    refine ⟨t, ends, ?_, fun off on => ?_, mem, truss, fun q _ => State.ethCfg_of_netMram netMram q⟩
    · rw [State.ethCfg_of_netMram netMram]
      exact same
    · subst off
      exact absurd (same.symm.trans on) (by decide)
  · generalize made : (s.modCfg port.toNat fun k => { k with enabled := enable == 1 }) = v
    have cfg : (v.ethCfg port.toNat).enabled = (enable == 1) ∧ (∀ q, q ≠ port.toNat → v.ethCfg q = s.ethCfg q) ∧ v.mem = s.mem ∧
        v.truss = s.truss := by
      subst made
      refine ⟨?_, fun q other => ?_, rfl, rfl⟩
      · rw [State.modCfg_ethCfg, if_pos rfl]
      · rw [State.modCfg_ethCfg, if_neg other]
    obtain ⟨enabled, others, mem, truss⟩ := cfg
    obtain ⟨t, ends, settled⟩ : ∃ t, execNetPortEnable c port enable s = .next t ∧
        t.settled = (if enable = 1 then ethEvent port.toNat v else dropEth port.toNat v).settled := by
      refine kcp_settles (r := replyOk (if enable = 1 then ethEvent port.toNat v else dropEth port.toNat v)) ready (by decide) ?_
      subst made
      exact (if_neg (Nat.not_lt.mpr known)).trans ((if_neg (Nat.not_lt.mpr enables)).trans (if_neg same))
    have lasting : (if enable = 1 then ethEvent port.toNat v else dropEth port.toNat v).lasting = v.lasting :=
      State.lasting_ite ethEvent_lasting (dropEth_lasting ..)
    have lost : enable = 0 → ((if enable = 1 then ethEvent port.toNat v else dropEth port.toNat v).eth port.toNat).up = false ∧
        ((if enable = 1 then ethEvent port.toNat v else dropEth port.toNat v).eth port.toNat).lost = true := by
      rintro rfl
      exact dropEth_lost
    generalize (if enable = 1 then ethEvent port.toNat v else dropEth port.toNat v) = w at settled lasting lost
    obtain ⟨netMram, -, mem', truss', -, ports⟩ := State.of_settled settled
    have config : t.netMram = v.netMram := netMram.trans (congrArg State.netMram lasting :)
    refine ⟨t, ends, ?_, fun off _ => ?_, (mem'.trans (congrArg State.mem lasting :)).trans mem,
      (truss'.trans (congrArg State.truss lasting :)).trans truss, fun q other => (State.ethCfg_of_netMram config q).trans (others q other)⟩
    · rw [State.ethCfg_of_netMram config, enabled]
    · obtain ⟨up, lost⟩ := lost off
      exact ⟨(congrArg EthSt.up (ports port.toNat) :).trans up, (congrArg EthSt.lost (ports port.toNat) :).trans lost⟩

/-- R354: the sessions of port `p` on its address of a version. -/
def addressSessions (p : Nat) (v4 : Bool) (s : State) : List Nat :=
  let old := if v4 then (s.ethCfg p).ipv4 else (s.ethCfg p).ipv6
  (s.adt.peers.filter fun e => old != 0 && e.2.inSession && e.2.eth == p && decide (e.2.addr < 2 ^ 32) == v4).map (·.1)

/-- R354, R374: an address is set once its old one's sessions are left, and announced. -/
theorem execNetSetAddr_leaves {version prefixLen : Byte} {address : BitVec 128} {f : PortCfg → PortCfg} (ready : kcpReady 0x0443 0 c s = true)
    (known : port.toNat ≤ 3) (versions : version = 4 ∨ version = 6) (fits : prefixLen.toNat ≤ if (version == 4) = true then 32 else 128)
    (sets : f = fun k => if (version == 4) = true then { k with ipv4 := address.toNat % 2 ^ 32, prefix4 := prefixLen.toNat }
      else { k with ipv6 := address.toNat, prefix6 := prefixLen.toNat })
    (passes : ∀ t, s.running = some t → (s.modCfg port.toNat f).check17 t = none) :
    ∃ t, execNetSetAddr c port version prefixLen address s = .next t ∧ t.ethCfg port.toNat = f (s.ethCfg port.toNat) ∧ t.mem = s.mem ∧
      t.truss = s.truss ∧ t.seq = s.seq := by
  have same : ((addressSessions port.toNat (version == 4) s).foldl (fun (s : State) k => leaveSession k 0 s) s).unpeered = s.unpeered :=
    foldl_keeps State.unpeered (fun _ _ => leaveSession_unpeered) ..
  obtain ⟨t, ends, settled⟩ : ∃ t, execNetSetAddr c port version prefixLen address s = .next t ∧ t.settled = (announceAddresses port.toNat
      (((addressSessions port.toNat (version == 4) s).foldl (fun (s : State) k => leaveSession k 0 s) s).modCfg port.toNat f)).settled := by
    refine kcp_settles (r := replyOk (announceAddresses port.toNat
      (((addressSessions port.toNat (version == 4) s).foldl (fun (s : State) k => leaveSession k 0 s) s).modCfg port.toNat f))) ready (by decide) ?_
    refine (if_neg (Nat.not_lt.mpr known)).trans ((if_neg ?_).trans ((if_neg (Nat.not_lt.mpr fits)).trans ?_))
    · rintro ⟨four, six⟩
      exact versions.elim four six
    · subst sets
      exact keepsCheck17_passes passes
  generalize (addressSessions _ _ s).foldl _ s = v at same settled
  obtain ⟨netMram, -, mem, truss, seq, -⟩ := State.of_settled (settled.trans announceAddresses_settled)
  obtain ⟨netMram', mem', truss', seq'⟩ := State.of_unpeered same
  refine ⟨t, ends, ?_, mem.trans mem', truss.trans truss', seq.trans seq'⟩
  rw [State.ethCfg_of_netMram netMram, State.modCfg_ethCfg, if_pos rfl, State.ethCfg_of_netMram netMram']

/-! ### MACsec -/

/-- R357, R374: NET_MACSEC_CFG sets its port and begins its MKA anew. -/
theorem execNetMacsecCfg_leaves {mode cipher keySlot keyPrio : Byte} {replay : Word} {k : PortCfg} (ready : kcpReady 0x0446 0 c s = true)
    (known : port.toNat ≤ 3) (modes : mode.toNat ≤ 2) (ciphers : cipher.toNat ≤ 1) (slots : keySlot.toNat ≤ 3)
    (made : k = { s.ethCfg port.toNat with secMode := mode.toNat, cipher := cipher.toNat, keySlot := keySlot.toNat, replay := replay.toNat,
                                           keyPrio := keyPrio.toNat })
    (passes : ∀ t, s.running = some t → (s.modCfg port.toNat fun _ => k).check17 t = none) :
    ∃ t, execNetMacsecCfg c port mode cipher keySlot replay keyPrio s = .next t ∧ t.ethCfg port.toNat = k ∧ (t.eth port.toNat).secured = false ∧
      (t.eth port.toNat).mkaLive = false ∧ t.mem = s.mem ∧ t.truss = s.truss ∧ t.seq = s.seq := by
  obtain ⟨t, ends, settled⟩ : ∃ t, execNetMacsecCfg c port mode cipher keySlot replay keyPrio s = .next t ∧
      t.settled = (restartMka port.toNat (s.modCfg port.toNat fun _ => k)).settled := by
    refine kcp_settles (r := replyOk (restartMka port.toNat (s.modCfg port.toNat fun _ => k))) ready (by decide) ?_
    subst made
    exact (if_neg (Nat.not_lt.mpr known)).trans ((if_neg (Nat.not_lt.mpr modes)).trans ((if_neg (Nat.not_lt.mpr ciphers)).trans
      ((if_neg (Nat.not_lt.mpr slots)).trans (keepsCheck17_passes passes))))
  obtain ⟨-, -, -, -, -, ports⟩ := State.of_settled settled
  obtain ⟨netMram, mem, truss, seq⟩ := State.of_unpeered ((State.unpeered_of_settled settled).trans restartMka_unpeered)
  obtain ⟨secured, live⟩ := restartMka_open (p := port.toNat) (s := s.modCfg port.toNat fun _ => k)
  refine ⟨t, ends, ?_, (congrArg EthSt.secured (ports port.toNat) :).trans secured, (congrArg EthSt.mkaLive (ports port.toNat) :).trans live, mem, truss,
    seq⟩
  rw [State.ethCfg_of_netMram netMram, State.modCfg_ethCfg, if_pos rfl]

/-- R357: the ports that use key slot `k` begin their MKA anew. -/
def restartUsers (k : Nat) (s : State) : State :=
  (List.range 4).foldl (fun (s : State) p => if (s.ethCfg p).secMode ≠ 0 ∧ (s.ethCfg p).keySlot = k then restartMka p s else s) s

theorem restartUsers_unpeered {k : Nat} : (restartUsers k s).unpeered = s.unpeered :=
  foldl_keeps State.unpeered (fun _ _ => ite_keeps State.unpeered restartMka_unpeered rfl) ..

/-- R357, R374: NET_MACSEC_KEY writes or clears a slot; the ports that use it begin their MKA anew. -/
theorem execNetMacsecKey_leaves {slot op len : Byte} {cak ckn : List Byte} (ready : kcpReady 0x0447 0 c s = true) (direct : overUdp c = false)
    (known : slot.toNat ≤ 3) (ops : op.toNat ≤ 1) (least : 1 ≤ len.toNat) (most : len.toNat ≤ 12) :
    ∃ t, execNetMacsecKey c slot op len cak ckn s = .next t ∧ tabGet t.netMram.keys slot.toNat =
      (if op = 0 then { present := true, ckn := ckn.take len.toNat, cak := fitBytes 32 cak } else {}) ∧ t.mem = s.mem ∧ t.seq = s.seq := by
  generalize stored : (if op = 0 then ({ present := true, ckn := ckn.take len.toNat, cak := fitBytes 32 cak } : MkaKey) else {}) = key
  have nonzero : ¬(op = 0 ∧ (len = 0 ∨ 12 < len.toNat)) := by
    rintro ⟨-, rfl | beyond⟩
    · exact absurd least (by decide)
    · omega
  have same := restartUsers_unpeered (k := slot.toNat) (s := s.modNetMram fun n => { n with keys := tabSet n.keys slot.toNat key })
  generalize restarted : restartUsers slot.toNat _ = v at same
  obtain ⟨t, ends, settled⟩ : ∃ t, execNetMacsecKey c slot op len cak ckn s = .next t ∧ t.settled = v.settled := by
    refine kcp_settles (r := replyOk v) ready (by decide) ?_
    rw [← restarted, restartUsers, ← stored]
    exact (if_neg (by simp [direct])).trans ((if_neg (Nat.not_lt.mpr known)).trans ((if_neg (Nat.not_lt.mpr ops)).trans (if_neg nonzero)))
  obtain ⟨netMram, mem, -, seq⟩ := State.of_unpeered ((State.unpeered_of_settled settled).trans same)
  refine ⟨t, ends, ?_, mem, seq⟩
  rw [netMram]
  exact tabGet_set.trans (if_pos rfl)

/-! ### Network time -/

/-- R355, R374: port `p` takes its asymmetry. -/
def setAsymmetry (asymmetry : List Half) (s : State) (p : Nat) : State := s.modCfg p fun k => { k with asymmetry := (asymmetry.getD p 0).toInt }

theorem setAsymmetries_ethCfg {asymmetry : List Half} {p : Nat} (l : List Nat) : ∀ s : State,
    ((l.foldl (setAsymmetry asymmetry) s).ethCfg p).asymmetry = if p ∈ l then (asymmetry.getD p 0).toInt else (s.ethCfg p).asymmetry := by
  induction l with
  | nil => exact fun _ => rfl
  | cons q l ih =>
    intro s
    rw [List.foldl_cons, ih, setAsymmetry, State.modCfg_ethCfg]
    by_cases same : p = q
    · simp [same]
    · simp [same]

theorem setAsymmetries_rest {asymmetry : List Half} {l : List Nat} : (l.foldl (setAsymmetry asymmetry) s).netMram.time = s.netMram.time ∧
    (l.foldl (setAsymmetry asymmetry) s).mem = s.mem ∧ (l.foldl (setAsymmetry asymmetry) s).seq = s.seq :=
  ⟨foldl_keeps (f := setAsymmetry asymmetry) (fun v : State => v.netMram.time) (fun _ _ => rfl) ..,
    foldl_keeps (f := setAsymmetry asymmetry) State.mem (fun _ _ => rfl) .., foldl_keeps (f := setAsymmetry asymmetry) State.seq (fun _ _ => rfl) ..⟩

/-- R355, R356, R374: NET_TIME_CFG sets network time, and chooses slave port or grandmaster anew. -/
theorem execNetTimeCfg_leaves {role domain priority1 priority2 clockClass accuracy logSync ports : Byte} {asymmetry : List Half} {time : TimeCfg}
    (ready : kcpReady 0x0444 0 c s = true) (roles : role.toNat ≤ 2) (domains : domain.toNat ≤ 127) (slow : -5 ≤ logSync.toInt)
    (fast : logSync.toInt ≤ 0) (named : ports.toNat ≤ 15)
    (made : time = { role := role.toNat, domain := domain.toNat, priority1 := priority1.toNat, priority2 := priority2.toNat,
                     clockClass := clockClass.toNat, accuracy := accuracy.toNat, logSync := logSync.toInt, ports := ports.toNat }) :
    ∃ t, execNetTimeCfg c role domain priority1 priority2 clockClass accuracy logSync ports asymmetry s = .next t ∧ t.netMram.time = time ∧
      (∀ p, p < 4 → (t.ethCfg p).asymmetry = (asymmetry.getD p 0).toInt) ∧ (role = 2 → t.clk.mode = 3) ∧ t.mem = s.mem ∧ t.seq = s.seq := by
  let timed : State := (List.range 4).foldl (setAsymmetry asymmetry) (s.modNetMram fun n => { n with time := time })
  obtain ⟨t, ends, settled⟩ : ∃ t, execNetTimeCfg c role domain priority1 priority2 clockClass accuracy logSync ports asymmetry s = .next t ∧
      t.settled = (selectClock timed).settled := by
    refine kcp_settles (r := replyOk (selectClock timed)) ready (by decide) ?_
    subst made
    exact (if_neg (Nat.not_lt.mpr roles)).trans ((if_neg (Nat.not_lt.mpr domains)).trans ((if_neg (by omega)).trans (if_neg (Nat.not_lt.mpr named))))
  obtain ⟨-, clk, -, -, -, -⟩ := State.of_settled settled
  obtain ⟨netMram, mem, -, seq⟩ := State.of_unpeered ((State.unpeered_of_settled settled).trans selectClock_unpeered)
  obtain ⟨sameTime, sameMem, sameSeq⟩ := setAsymmetries_rest (asymmetry := asymmetry) (l := List.range 4)
    (s := s.modNetMram fun n => { n with time := time })
  refine ⟨t, ends, ?_, fun p small => ?_, fun grandmaster => ?_, mem.trans sameMem, seq.trans sameSeq⟩
  · rw [netMram]
    exact sameTime
  · rw [State.ethCfg_of_netMram netMram]
    exact (setAsymmetries_ethCfg ..).trans (if_pos (List.mem_range.mpr small))
  · have chosen : timed.netMram.time.role = 2 := by
      refine (congrArg TimeCfg.role sameTime :).trans ?_
      rw [made, grandmaster]
      rfl
    rw [clk, selectClock, if_pos chosen]
    exact becomeGrandmaster_mode

theorem execNetTimeQuery_ok (ready : kcpReady 0x0445 0 c s = true) :
    ∃ r : List Byte, r.length = 40 ∧ execNetTimeQuery c s = .next (kcpOk 0x0445 c s s r) :=
  kcp_query ready (by decide) rfl (by simp [length_leBytes, zeros, List.range_succ])

/-! ### Elimination -/

/-- R358, R374: NET_CB_CFG clears or sets an entry, and resets its function. -/
theorem execNetCbCfg_ok {entry op ports history : Byte} {mac : BitVec 48} {vlan timeout : Half} {e : CbEntry} (ready : kcpReady 0x0448 0 c s = true)
    (ops : op.toNat ≤ 1)
    (fits : op = 0 → ports.toNat ≤ 15 ∧ ((List.range 4).filter fun p => ports.getLsbD p).length = 2 ∧ 2 ≤ history.toNat ∧ history.toNat ≤ 32 ∧
      vlan.toNat ≤ 4095 ∧ 10 ≤ timeout.toNat ∧ timeout.toNat ≤ 1000)
    (made : e = if op = 0 then { valid := true, ports := ports.toNat, history := history.toNat, mac := mac.toNat, vlan := vlan.toNat,
                                 timeout := timeout.toNat } else {}) :
    execNetCbCfg c entry op ports history mac vlan timeout s = .next (kcpOk 0x0448 c s
      ((s.modNetMram fun n => { n with cb := tabSet n.cb entry.toNat e }).modNet fun n => { n with cb := tabErase n.cb entry.toNat }) []) := by
  subst made
  refine kcp_ok_of_sessions ready (by decide) ?_ rfl (.inr rfl)
  refine (if_neg (Nat.not_lt.mpr ops)).trans ((if_neg ?_).trans ((if_neg ?_).trans ((if_neg ?_).trans (if_neg ?_))))
  all_goals
    rintro ⟨sets, bad⟩
    obtain ⟨named, two, least, most, tagged, soon, late⟩ := fits sets
    omega

/-! ### The calendar -/

variable {k : Truss}

theorem execCalQuery_ok {variant : Byte} (ready : kcpReady 0x0450 0 c s = true) (known : port.toNat ≤ 3) (runs : s.running = some k)
    (has : k.hasVariant (if variant = 0xFF then (s.group (s.rateGroup port.toNat)).variant else variant.toNat) = true) :
    ∃ r : List Byte, r.length = 48 ∧ execCalQuery c port variant s = .next (kcpOk 0x0450 c s s r) := by
  refine kcp_query (r := ?bytes) ready (by decide) ?own ?length
  case own =>
    refine (if_neg (Nat.not_lt.mpr known)).trans ?_
    rw [runs]
    dsimp only
    refine if_neg ?_
    rw [has]
    decide
  case length => simp [length_leBytes, zeros]

/-- R365, R374: the registers that a mask names are taken from a rate set. -/
theorem RateSet.take_eq {mask : Byte} {x r : RateSet} : x.take mask r =
    { control := if mask.getLsbD 0 then x.control else r.control, repair := if mask.getLsbD 1 then x.repair else r.repair,
      manage := if mask.getLsbD 2 then x.manage else r.manage, controlBurst := if mask.getLsbD 0 then x.controlBurst else r.controlBurst,
      repairBurst := if mask.getLsbD 1 then x.repairBurst else r.repairBurst, manageBurst := if mask.getLsbD 2 then x.manageBurst else r.manageBurst } := by
  unfold take
  split_ifs <;> rfl

/-- R365, R368, R374: CAL_SET_RATES writes the shadow set of a port, and keeps its writer. -/
theorem execCalSetRates_ok {mask : Byte} {rates : List Word} {bursts : List Half} {was x r : RateSet} (ready : kcpReady 0x0451 0 c s = true)
    (known : port.toNat ≤ 3) (runs : s.running = some k) (granted : s.hasGroup (s.kcpFn c) (s.rateGroup port.toNat) = true) (masks : mask.toNat ≤ 7)
    (deep : ∀ i, i < 3 → mask.getLsbD i = true → (s.ethCfg port.toNat).largest + 20 ≤ (bursts.getD i 0).toNat)
    (held : was = (s.eth port.toNat).shadow.getD (s.eth port.toNat).rates)
    (given : x = { control := (rates.getD 0 0).toNat, repair := (rates.getD 1 0).toNat, manage := (rates.getD 2 0).toNat,
                   controlBurst := (bursts.getD 0 0).toNat, repairBurst := (bursts.getD 1 0).toNat, manageBurst := (bursts.getD 2 0).toNat })
    (taken : r = x.take mask was) (passes : s.check17 (k.withRates (s.group (s.rateGroup port.toNat)).variant port.toNat r) = none)
    (open_ : s.locked (s.rateGroup port.toNat) = false) :
    execCalSetRates c port mask rates bursts s = .next (kcpOk 0x0451 c s (s.modEth port.toNat fun e =>
      { e with shadow := some r, rateWrites := e.rateWrites ++ [(s.kcpFn c, mask, x)] }) []) := by
  have bounded : ((List.range 3).find? fun i => mask.getLsbD i && decide ((bursts.getD i 0).toNat < (s.ethCfg port.toNat).largest + 20)) = none := by
    refine List.find?_eq_none.mpr fun i member short => ?_
    obtain ⟨on, below⟩ := (Bool.and_eq_true ..).mp short
    exact absurd (of_decide_eq_true below) (Nat.not_lt.mpr (deep i (List.mem_range.mp member) on))
  subst taken given held
  refine kcp_ok_of_sessions ready (by decide) ?_ rfl (.inr rfl)
  refine (if_neg (Nat.not_lt.mpr known)).trans ?_
  rw [runs]
  refine (if_neg (by simp [granted])).trans ((if_neg (Nat.not_lt.mpr masks)).trans ?_)
  rw [bounded]
  dsimp only
  rw [passes]
  exact if_neg (by simp [open_])

end

end Sys2Proof.Machine
end

section
/-! SUPPORT. The statement of the family of the network's commands, settled. -/

open Sys2Proof Sys2Proof.Machine

/-- Settles O47: a command's end settles nothing of the network, so what each leaves is what its own branch wrote. -/
theorem networkCommandsAnswer : Obligations.NetworkCommandsAnswer := by
  refine fun c s => ⟨fun port p named known => ?ports,
    fun role domain priority1 priority2 clockClass accuracy logSync ports asymmetry ready roles domains slow fast named =>
      exec_netTimeCfg ▸ execNetTimeCfg_leaves ready roles domains slow fast named rfl,
    fun ready => exec_netTimeQuery ▸ execNetTimeQuery_ok ready,
    fun slot len cak ckn ready direct known least most => ⟨?store, ?clear⟩,
    fun entry ports history mac vlan timeout ready => ⟨?drop, fun named two least most tagged soon late e made => ?set⟩⟩
  case ports =>
    subst named
    refine ⟨fun ready => exec_netPortQuery ▸ execNetPortQuery_ok ready known,
      fun mode txInvert adt pcpSlice pcpControl pcpRepair flags largest cap v ready modes inverts adts least most slice control repair some_ caps idle made
        passes => exec_netPortCfg.trans
          (execNetPortCfg_ok ready known modes inverts adts least most slice control repair some_ caps idle made passes),
      fun enable ready enables => ⟨fun same => exec_netPortEnable.trans (execNetPortEnable_same ready known enables same),
        exec_netPortEnable ▸ execNetPortEnable_leaves ready known enables⟩,
      fun version prefixLen address ready => ⟨fun four fits passes => ?v4, fun six fits passes => ?v6⟩,
      fun mode cipher keySlot keyPrio replay k ready modes ciphers slots made passes =>
        exec_netMacsecCfg ▸ execNetMacsecCfg_leaves ready known modes ciphers slots made passes,
      fun t runs => ⟨fun variant ready has => exec_calQuery ▸ execCalQuery_ok ready known runs has,
        fun mask rates bursts was x r ready granted masks deep held given taken passes open_ => ?rates⟩⟩
    case v4 =>
      subst four
      exact exec_netSetAddr ▸ execNetSetAddr_leaves ready known (.inl rfl) fits rfl passes
    case v6 =>
      subst six
      exact exec_netSetAddr ▸ execNetSetAddr_leaves ready known (.inr rfl) fits rfl passes
    case rates =>
      refine exec_calSetRates.trans (execCalSetRates_ok ready known runs granted masks deep held given (taken.trans ?_) passes open_)
      rw [RateSet.take_eq, given]
  case store =>
    obtain ⟨t, ends, key, kept⟩ := execNetMacsecKey_leaves (cak := cak) (ckn := ckn) ready direct known (op := 0) (by decide) least most
    exact ⟨t, exec_netMacsecKey.trans ends, key, kept⟩
  case clear =>
    obtain ⟨t, ends, key, kept⟩ := execNetMacsecKey_leaves (cak := cak) (ckn := ckn) ready direct known (op := 1) (by decide) least most
    refine ⟨t, exec_netMacsecKey.trans ends, ?_, kept⟩
    rw [key]
    rfl
  case drop => exact exec_netCbCfg.trans (execNetCbCfg_ok ready (by decide) (fun sets => absurd sets (by decide)) rfl)
  case set =>
    exact exec_netCbCfg.trans (execNetCbCfg_ok ready (by decide) (fun _ => ⟨named, two, least, most, tagged, soon, late⟩) made)

end
